-- ==== Sys2Proof/Word.lean ====
section
/-! DEFINITION. The word and byte types (R3, R4) and their plainest arithmetic: field extraction and insertion on Nat
values, saturation, wrap and two's complement (R3, R4, R502). -/

namespace Sys2Proof

/-- A register: 32 bits (R468). -/
abbrev Word := BitVec 32

/-- A byte of a message, a unit or a memory (R4). -/
abbrev Byte := BitVec 8

/-- Bits `lo … lo+w-1` of `v`. -/
def bitsOf (v lo w : Nat) : Nat := (v / 2 ^ lo) % 2 ^ w

/-- `v` with bits `lo … lo+w-1` replaced by `x`. -/
def setBits (v lo w x : Nat) : Nat :=
  v % 2 ^ lo + (x % 2 ^ w) * 2 ^ lo + (v / 2 ^ (lo + w)) * 2 ^ (lo + w)

/-- `v` held at `m` (a counter that saturates). -/
def satAt (m v : Nat) : Nat := min m v

/-- 0 or 1. -/
def b2n (b : Bool) : Nat := if b then 1 else 0

/-- The two's-complement value of the low `w` bits of `v`. -/
def toSigned (w v : Nat) : Int :=
  let x := v % 2 ^ w
  if x < 2 ^ (w - 1) then (x : Int) else (x : Int) - (2 ^ w : Nat)

/-- The low `w` bits of `z` in two's complement. -/
def ofSigned (w : Nat) (z : Int) : Nat := (z % ((2 ^ w : Nat) : Int)).toNat

/-- `z` held within `lo … hi`. -/
def clampInt (lo hi z : Int) : Int := max lo (min hi z)

/-- The nearest integer to `a / b` (`b` > 0), halves away from zero (R502). -/
def roundDiv (a b : Int) : Int :=
  if 0 ≤ a then (2 * a + b) / (2 * b) else -((2 * (-a) + b) / (2 * b))

/-- The nearest natural number to `a / b` (`b` > 0), halves up (R502). -/
def roundDivNat (a b : Nat) : Nat := (2 * a + b) / (2 * b)

/-- `ceil(a / b)`. -/
def ceilDiv (a b : Nat) : Nat := (a + b - 1) / b

/-- The number of one bits of the low `w` bits of `v`. -/
def popCount : Nat → Nat → Nat
  | 0, _ => 0
  | w + 1, v => v % 2 + popCount w (v / 2)

end Sys2Proof
end

