-- ==== Sys2Proof/Syntax.lean ====
section
/-! DEFINITION. The commands of the die, one constructor for each row of the opcode table, and the forms of their operands. -/

namespace Sys2Proof

/-- A vernier pair's measured calibration (R100, R112, R116): its index (R452), the two sums of counts, and the counts of its bulk
pass, phase by phase. -/
structure CalExc where
  pair   : Nat
  s1     : Nat
  s2     : Nat
  counts : List (List Nat)
deriving DecidableEq, Repr

/-- The measured calibrations of every powered pair (R116): the common figures and the pairs that differ from them. -/
structure CalSet where
  s1     : Nat
  s2     : Nat
  counts : List (List Nat)
  excs   : List CalExc
deriving DecidableEq, Repr

/-- A pair that has finished a bulk pass, and its counts at the 16 phases, 16 at each (R112). -/
structure PairCounts where
  pair   : Nat
  counts : List (List Nat)
deriving DecidableEq, Repr

/-- A launched leading edge (R76, R104): its count, and the charge in aC that the preamplifier's output passes. -/
structure LeadEdge where
  cnt : Nat
  out : Int
deriving DecidableEq, Repr

/-- A sampled trailing edge (R78, R106): the quarter F-cycle of its slot, and the charge in aC to which the output has fallen. -/
structure TrailEdge where
  tq  : Nat
  out : Int
deriving DecidableEq, Repr

/-- An edge of a UTIL input (R121): its count, whether the input rises, and by how many mV it has moved since its last edge. -/
structure UtilMove where
  cnt   : Nat
  rise  : Bool
  swing : Nat
deriving DecidableEq, Repr

/-- What follows PROMOTE in a HOME (R335): DUP, and the roots it names. -/
structure HomeRest where
  dup  : Bool
  root : Nat
  peer : Nat
deriving DecidableEq, Repr

/-- The payload of a CONFIRM, CANCEL or NACK (R188, R192). -/
structure SpecMsg where
  info    : Nat
  origin  : Nat
  orbit   : Nat
  slot    : Nat
  src     : Nat
  trigger : Nat
deriving DecidableEq, Repr

/-- A TRIGGER message (R164). -/
structure TrigMsg where
  word    : Nat
  slot    : Nat
  orbit   : Nat
  trigger : Nat
  src     : Nat
deriving DecidableEq, Repr

/-- A PRIM message (R178). -/
structure PrimMsg where
  count : Nat
  slot  : Nat
  orbit : Nat
  prims : List Nat
deriving DecidableEq, Repr

/-- A TRAIN set of four blocks as the partner sends it (R315): version, role, BENCH, READY, lane count of its mask, MAX_RATE
in 0.25 Gb/s, N, D, the 64 feature bits, die number, VC2 units and HALL_AUTH.MODE; `ptype` is what the
partner's port is: 1 SHAFT, 2 ALT_SHAFT, 3 DRIFT (log 18). -/
structure TrainSet where
  version : Nat
  role    : Nat
  bench   : Bool
  ready   : Bool
  lanes   : Nat
  maxRate : Nat
  n       : Nat
  d       : Nat
  feat    : Nat
  die     : Nat
  vc2     : Nat
  auth    : Nat
  ptype   : Nat
deriving DecidableEq, Repr


/-- One conversion of the monitor converter as its filter yields it (R422): the 24-bit value, the value of the swapped half
under CHOP, modulator overload, and an excitation source out of compliance (R417). -/
structure MonConv where
  x       : Int
  swapped : Int := 0
  ovl    : Bool := false
  compl   : Bool := false
deriving DecidableEq, Repr

/-- A complete marker OM0–OM2 (R296): orbit, ORBIT_LEN, HOLDOVER, PATHV, WALL seconds and nanoseconds, CHAIN, OFS. -/
structure MarkerMsg where
  orbit    : Nat
  len      : Nat
  holdover : Bool
  pathv    : Nat
  sec      : Nat
  ns       : Nat
  chain    : Nat
  ofs      : Nat
deriving DecidableEq, Repr


/-- Where a host command reaches the die that runs it (R365, R367): the next command of a command ring, or a message of the tree
that came on a port from a root, under that root's VC0 TAG, with the command's own TAG and arguments (log 21). -/
inductive CmdSrc where
  | ring (r : Nat)
  | tree (port src vtag tag arg0 arg1 : Nat)
deriving DecidableEq, Repr

/-- A tail word as a doorbell read returns it (R380): the ring, its tail, the first 24 bytes of each descriptor that becomes
available, oldest first, and whether a descriptor read failed (R382). -/
structure TailWord where
  ring  : Nat
  tail  : Nat
  descs : List (List Byte)
  fail  : Bool := false
deriving DecidableEq, Repr

/-- What a write of PCI Express configuration space does to the function (R355): the power state, MSI-X Enable and Function Mask,
PTM Enable, or another word of its configuration space; or what link training has come to: width and rate, width 0 for a link
that is down. -/
inductive PcieCfg where
  | power (d3hot : Bool)
  | msix (enable mask : Bool)
  | ptm (enable : Bool)
  | word (offset value : Nat)
  | link (width rate : Nat)
deriving DecidableEq, Repr


/-- What happens at the TAP (R496): an instruction is loaded, EXTEST or another, with the contents of the boundary register; or
TRST_N is low. -/
inductive TapOp where
  | load (ir : Nat) (extest : Bool) (boundary : List Bool)
  | trst
deriving DecidableEq, Repr

/-- A command: one constructor for each row of the opcode table, those with operands first, then those without. Ports and lanes are
numbered 0–15, channels 0–16,383,
pairs as R452 numbers them; `p` is the port on which a message came, and `bar` says that a write comes by a BAR of the root. -/
inductive Instr where
  /-- PERST_N_ASSERT (R443): `straps` the live ROLE1 and ROLE0 balls (R11) -/
  | perstNAssert (straps : Nat)
  /-- RESET_DEASSERT (R445): `straps` ROLE1 and ROLE0 as sampled, and the CLASP_ID ball -/
  | resetDeassert (straps : Nat) (claspId : Bool)
  /-- FUSE_LOAD_DONE (R445): `us` microseconds since reset was released (R451) -/
  | fuseLoadDone (us : Nat)
  /-- MEMORY_INIT_DONE (R445): vault rows that failed their read-back, the tiles of failing buffer entries (R449), failing words
  of other memories, and whether the Hallmark passed (R389) -/
  | memoryInitDone (us : Nat) (rows tiles : List Nat) (words : Nat) (hallmark : Bool)
  /-- PLL_LOCK (R446): `us` microseconds since reset was released -/
  | pllLock (us : Nat)
  /-- SELF_CALIBRATION_DONE (R445): the calibration of the powered pairs (R116), and the converter's averaged outputs of inputs
  30 and 16 (R445) -/
  | selfCalibrationDone (us : Nat) (c : CalSet) (zero check : List MonConv)
  /-- PERMANENT_FAULT (R459): `code` the SAFE_CAUSE of R459 -/
  | permanentFault (code : Nat)
  /-- SERIAL_SUPPLY_CHANGE (R488): `up`: both supplies are above their limit -/
  | serialSupplyChange (up : Bool)
  /-- ARM (R19): `src` how the command came -/
  | arm (src : CmdSrc)
  /-- DISARM (R19). -/
  | disarm (src : CmdSrc)
  /-- STOP (R19). -/
  | stop (src : CmdSrc)
  /-- ORBIT_START (R39): `marker`: ORBIT is high in the new slot 0; channels whose DC current is above 200 nA and back below 190
  nA (R75) -/
  | orbitStart (marker : Bool) (above below : List Nat)
  /-- ORBIT_MARKER_SAMPLED (R40): ORBIT is sampled high `d` slots from now -/
  | orbitMarkerSampled (d : Nat)
  /-- ORB_CLK_WRITE (R37). -/
  | orbClkWrite (bar : Bool) (v : Nat)
  /-- ORB_LEN_WRITE (R37). -/
  | orbLenWrite (bar : Bool) (v : Nat)
  /-- MARKER_BLOCK_RECEIVED (R297): its OM0 arrives `d` F-cycles from now -/
  | markerBlockReceived (p : Nat) (m : MarkerMsg) (d : Nat)
  /-- CAL_RUN_START (R50): `entry` the calendar entry, here and in the entries below -/
  | calRunStart (entry : Nat)
  /-- QUIET_BEGIN (R52). -/
  | quietBegin (entry : Nat)
  /-- QUIET_END (R52). -/
  | quietEnd (entry : Nat)
  /-- CAL_INJECT (R85). -/
  | calInject (entry : Nat)
  /-- CAL_COUNTER_RESET (R47). -/
  | calCounterReset (entry : Nat)
  /-- CAL_VTDC (R112). -/
  | calVtdc (entry : Nat)
  /-- CAL_MON (R432). -/
  | calMon (entry : Nat)
  /-- CAL_SCRUB_BURST (R221). -/
  | calScrubBurst (entry : Nat)
  /-- CAL_DUMP (R208). -/
  | calDump (entry : Nat)
  /-- CAL_CLASP_DIGEST (R345). -/
  | calClaspDigest (entry : Nat)
  /-- CAL_SCOPE_TRIGGER (R436). -/
  | calScopeTrigger (entry : Nat)
  /-- EXCHANGE_START (R298): PROBE leaves `d` F-cycles and `sub` fine units from now -/
  | exchangeStart (p d sub : Nat)
  /-- PROBE_RECEIVED (R298): PROBE arrives after `d2` F-cycles and `sub2` fine units, REPLY3 leaves `d3` and `sub3` later -/
  | probeReceived (p seq d2 sub2 d3 sub3 : Nat)
  /-- REPLY2_RECEIVED (R298). -/
  | reply2Received (p seq t2 : Nat)
  /-- REPLY3_RECEIVED (R54): `t3` as REPLY3 carries it, which arrives `d` F-cycles and `sub` fine units from now -/
  | reply3Received (p seq t3 d sub : Nat)
  /-- PROBE_TIMEOUT (R298). -/
  | probeTimeout (p seq : Nat)
  /-- PPS_EDGE (R71): `d` F-cycles from now -/
  | ppsEdge (d : Nat)
  /-- PTM_RESPONSE (R70): the master time in seconds and nanoseconds -/
  | ptmResponse (sec ns : Nat)
  /-- WALL_SET_NOW (R73). -/
  | wallSetNow (bar : Bool)
  /-- WALL_SET_AT_PPS (R73). -/
  | wallSetAtPps (bar : Bool)
  /-- FE_CTRL_WRITE (R74). -/
  | feCtrlWrite (bar : Bool) (v : Nat)
  /-- FE_SETTLED (R74): the calibration made within the settling time (R116) -/
  | feSettled (c : CalSet)
  /-- FE_THR_OFS_WRITE (R77). -/
  | feThrOfsWrite (bar : Bool) (v : Nat)
  /-- FE_CH_WRITE (R89): `n` the channel -/
  | feChWrite (bar : Bool) (n v : Nat)
  /-- LEADING_EDGE (R96): channel `n`, launched in slot `ls` and F-cycle `lf` -/
  | leadingEdge (n ls lf : Nat) (e : LeadEdge)
  /-- TRAILING_EDGE (R106): channel `n`, sampled in slot `ts` -/
  | trailingEdge (n ts : Nat) (e : TrailEdge)
  /-- HOLDOFF_END (R79). -/
  | holdoffEnd (n : Nat)
  /-- OVER_RANGE (R81). -/
  | overRange (n : Nat)
  /-- BLIND_END (R82). -/
  | blindEnd (n : Nat)
  /-- CHANNEL_RETIRE (R92). -/
  | channelRetire (n : Nat)
  /-- CHANNEL_SETTLED (R88). -/
  | channelSettled (n : Nat)
  /-- PAIR_IDLE (R95). -/
  | pairIdle (ix : Nat)
  /-- CONVERSION_DONE (R111). -/
  | conversionDone (n : Nat)
  /-- TOT_TIMEOUT (R109). -/
  | totTimeout (n : Nat)
  /-- CONVERSION_OVERRUN (R110). -/
  | conversionOverrun (ix : Nat)
  /-- VTDC_CAL_START (R99). -/
  | vtdcCalStart (p : Nat)
  /-- VTDC_CAL_DONE (R100): the two sums of counts of pair `p` -/
  | vtdcCalDone (p s1 s2 : Nat)
  /-- BULK_PASS_RESUME (R113). -/
  | bulkPassResume (p : Nat)
  /-- BULK_PASS_END (R114): the pairs that finished and their counts -/
  | bulkPassEnd (fin : List PairCounts)
  /-- VTDC_PSEL_WRITE (R120). -/
  | vtdcPselWrite (bar : Bool) (v : Nat)
  /-- TIU_START (R123). -/
  | tiuStart (bar : Bool)
  /-- TIU_ABORT (R128). -/
  | tiuAbort (bar : Bool)
  /-- UTIL_EDGE (R124): UTIL input `k`, launched in slot `ls` and F-cycle `lf` -/
  | utilEdge (k ls lf : Nat) (e : UtilMove)
  /-- ENTRY_EXPIRE (R134). -/
  | entryExpire (t : Nat)
  /-- RETRIEVAL_START (R141). -/
  | retrievalStart (tag : Nat)
  /-- GALLERY_WORD_ARRIVE (R153). -/
  | galleryWordArrive (t : Nat)
  /-- GRANT_TIMEOUT (R154). -/
  | grantTimeout (t : Nat)
  /-- TOTAL_TIMEOUT (R154): the fragment's tag and the tile -/
  | totalTimeout (tag t : Nat)
  /-- ARB_EVALUATION_POINT (R234). -/
  | arbEvaluationPoint (inst : Nat)
  /-- ARB_WINDOW_END (R232). -/
  | arbWindowEnd (inst : Nat)
  /-- CANARY_BITE (R242). -/
  | canaryBite (inst : Nat)
  /-- TRIG_IN_WORD (R159): the 8 bits of TRIG_IN in a slot, bit 7 first (R158) -/
  | trigInWord (w : Nat)
  /-- TRG_FORCE (R159). -/
  | trgForce (bar : Bool)
  /-- TRIGGER_MSG_RECEIVED (R165). -/
  | triggerMsgReceived (p : Nat) (m : TrigMsg)
  /-- BUSY_MSG_RECEIVED (R174). -/
  | busyMsgReceived (p : Nat) (busy : Bool)
  /-- SELF_TRIGGER_EVAL (R176): `slot` is slot h -/
  | selfTriggerEval (slot : Nat)
  /-- SPEC_RELEASE (R185): `slot` is slot h -/
  | specRelease (slot : Nat)
  /-- PRIM_MSG_RECEIVED (R178). -/
  | primMsgReceived (p : Nat) (m : PrimMsg)
  /-- TRG_EVIDENCE (R183). -/
  | trgEvidence (bar : Bool)
  /-- TRG_UNFREEZE (R184). -/
  | trgUnfreeze (bar : Bool)
  /-- CONFIRM_RECEIVED (R189). -/
  | confirmReceived (p : Nat) (m : SpecMsg)
  /-- CANCEL_RECEIVED (R189). -/
  | cancelReceived (p : Nat) (m : SpecMsg)
  /-- NACK_RECEIVED (R192). -/
  | nackReceived (p : Nat) (m : SpecMsg)
  /-- TALLY_DUMP_GO (R208): `v` the word written, GO taken as set -/
  | tallyDumpGo (bar : Bool) (v : Nat)
  /-- VAULT_REPAIR_CMD (R224): `v` the word written, REPAIR taken as set -/
  | vaultRepairCmd (bar : Bool) (v : Nat)
  /-- VAULT_WINDOW_WRITE (R219): `n` bytes at configuration offset `a` -/
  | vaultWindowWrite (bar : Bool) (a n v : Nat)
  /-- BAR2_READ (R361): `n` bytes at offset `o` of BAR2 -/
  | bar2Read (o n : Nat)
  /-- FACET_CODING_DONE (R279): `e` the engine -/
  | facetCodingDone (e : Nat)
  /-- FRAME_RECEIVED (R311): `loop`: a lane in far-end loop returned it; the bytes of the frame -/
  | frameReceived (p : Nat) (loop : Bool) (bs : List Byte)
  /-- RX_STAGE_ADMIT (R268). -/
  | rxStageAdmit (p : Nat)
  /-- BLOCK_LOCK (R290). -/
  | blockLock (l : Nat)
  /-- BLOCK_LOCK_LOSS (R290): `bad` invalid headers were seen -/
  | blockLockLoss (l bad : Nat)
  /-- BAD_CONTROL_BLOCK (R291). -/
  | badControlBlock (p : Nat)
  /-- ABORT_BLOCK (R294): virtual channel `v`; `len` bytes of the frame had come -/
  | abortBlock (p v len : Nat)
  /-- SUSPEND_BLOCK (R293). -/
  | suspendBlock (p v : Nat)
  /-- RESUME_BLOCK (R293). -/
  | resumeBlock (p v : Nat)
  /-- ALIGN_RECEIVED (R303): lane, count, skew in blocks, and whether it came in its round -/
  | alignReceived (l count skew : Nat) (round : Bool)
  /-- ALIGN_CADENCE (R302). -/
  | alignCadence (p : Nat)
  /-- CREDIT_BLOCK (R309): virtual channel and cumulative units -/
  | creditBlock (p v cum : Nat)
  /-- CREDIT_REFRESH (R309). -/
  | creditRefresh (p : Nat)
  /-- ACK_BLOCK (R310). -/
  | ackBlock (p v seq : Nat)
  /-- NAK_BLOCK (R312). -/
  | nakBlock (p v seq : Nat)
  /-- REPLAY_TIMEOUT (R312). -/
  | replayTimeout (p v : Nat)
  /-- HOLD_BLOCK (R304): lane mask; `release` or removal -/
  | holdBlock (p mask : Nat) (release : Bool)
  /-- SLEEP_BLOCK (R307). -/
  | sleepBlock (p mask : Nat)
  /-- PORT_WIDTH_WRITE (R306). -/
  | portWidthWrite (bar : Bool) (p v : Nat)
  /-- LANE_WAKE_READY (R306). -/
  | laneWakeReady (p : Nat)
  /-- EYE_MEASURE (R300): width in UI/64 and height in mV -/
  | eyeMeasure (l width height : Nat)
  /-- LANE_RETRAIN_DONE (R300): `width` of the eye -/
  | laneRetrainDone (l width : Nat)
  /-- EQ_SLOW (R299). -/
  | eqSlow (l : Nat)
  /-- EQ_FREEZE (R299). -/
  | eqFreeze (l : Nat)
  /-- PORT_CFG_WRITE (R284). -/
  | portCfgWrite (bar : Bool) (p v : Nat)
  /-- LANE_CTRL_WRITE (R321). -/
  | laneCtrlWrite (bar : Bool) (l v : Nat)
  /-- TRAIN_ATTEMPT_TIMEOUT (R314): `signal`: the lane saw one -/
  | trainAttemptTimeout (l : Nat) (signal : Bool)
  /-- PORT_BASE_DONE (R314). -/
  | portBaseDone (p : Nat)
  /-- TRAIN_SET_RECEIVED (R316). -/
  | trainSetReceived (p : Nat) (t : TrainSet)
  /-- SWITCH_DONE (R314). -/
  | switchDone (p : Nat)
  /-- DESKEW_DONE (R314). -/
  | deskewDone (p : Nat)
  /-- LOOP_REQUEST (R321). -/
  | loopRequest (l : Nat)
  /-- LOOP_GRANT (R321). -/
  | loopGrant (l : Nat)
  /-- LOOP_REFUSE (R321). -/
  | loopRefuse (l : Nat)
  /-- LOOP_END (R321). -/
  | loopEnd (l : Nat)
  /-- VC0_MESSAGE_ROUTE (R326). -/
  | vc0MessageRoute (p : Nat) (bs : List Byte)
  /-- NEW_CHILD (R330): its source, TAG, drift and port type, and the child's role, die number and hint (R330) -/
  | newChild (p src tag drift ptype role die hint : Nat)
  /-- ASSIGN (R330): its destination, source, TAG, drift, ALT and DUP, level, die number and root (R330) -/
  | assign (p dst src tag drift : Nat) (alt dup : Bool) (level die root : Nat)
  /-- REFUSE (R331). -/
  | refuse (p drift reason : Nat)
  /-- REHOMED (R338). -/
  | rehomed (p : Nat) (map : List Byte)
  /-- DETACH (R338). -/
  | detach (p : Nat) (map : List Byte)
  /-- HOME (R335). -/
  | home (p : Nat) (promote : Bool) (h : HomeRest)
  /-- CFG_RD_MSG (R327): source, TAG and configuration offset -/
  | cfgRdMsg (p src tag off : Nat)
  /-- CFG_WR_MSG (R327). -/
  | cfgWrMsg (p src tag off v : Nat)
  /-- CFG_RESP (R366). -/
  | cfgResp (die tag status detail data : Nat)
  /-- TREE_DISCOVER_WRITE (R329): `v` the word of TREE_CTRL, DISCOVER taken as set -/
  | treeDiscoverWrite (bar : Bool) (v : Nat)
  /-- TREE_REHOME (R337). -/
  | treeRehome (bar : Bool)
  /-- WITNESS_RECEIVED (R341): `shaft` and `alt` its two words (R340) -/
  | witnessReceived (src orbit shaft alt : Nat)
  /-- PAIR (R342). -/
  | pair (src id peerState : Nat) (digest : List Byte)
  /-- DIG (R344): SEQ, ring, record index, origin, stream, key and digest (R344) -/
  | dig (seq r ix origin stream key digest : Nat)
  /-- ECHO (R346). -/
  | echo (seq : Nat) (absent : Bool) (digest : Nat)
  /-- ECHO_TIMEOUT (R346). -/
  | echoTimeout (seq : Nat)
  /-- CLASP_STATE (R345). -/
  | claspState (seq digest : Nat)
  /-- SELF_CHECK_DONE (R347): `knownOk`: the known-answer tests pass (R347) -/
  | selfCheckDone (knownOk : Bool)
  /-- CLASP_RESULT (R348). -/
  | claspResult (fails : Bool)
  /-- CLASP_PROMOTE (R348). -/
  | claspPromote (bar : Bool)
  /-- CLASP_CHUNK (R352). -/
  | claspChunk (offset seq : Nat) (bs : List Byte)
  /-- CLASP_COMMIT (R348). -/
  | claspCommit (hash : List Byte)
  /-- COMMIT_ACK (R348): `differs`: the standby's image differs -/
  | commitAck (differs : Bool)
  /-- CLASP_KEY (R410). -/
  | claspKey (o ctr : Nat) (ct tag : List Byte)
  /-- FEATURE_COMMIT (R377). -/
  | featureCommit (bar : Bool)
  /-- RING_CFG_WRITE (R379). -/
  | ringCfgWrite (bar : Bool) (r v : Nat)
  /-- HIF_NUDGE (R380). -/
  | hifNudge (bar : Bool) (v : Nat)
  /-- DOORBELL_READ_DONE (R382): the block read, or none for the whole array, and its tails -/
  | doorbellReadDone (block : Option Nat) (tails : List TailWord)
  /-- NOP (R367). -/
  | nop (src : CmdSrc)
  /-- CFG_RD (R367). -/
  | cfgRd (src : CmdSrc)
  /-- CFG_WR (R367). -/
  | cfgWr (src : CmdSrc)
  /-- CFG_RD_BLOCK (R367). -/
  | cfgRdBlock (src : CmdSrc)
  /-- READMIT (R458). -/
  | readmit (src : CmdSrc)
  /-- CAPSULE (R395): `bytes` as fetched from host memory, none if the fetch failed -/
  | capsule (r : Nat) (bytes : Option (List Byte))
  /-- ATTEST (R400): `bytes` of the nonce as fetched, none if the fetch failed -/
  | attest (r : Nat) (bytes : Option (List Byte))
  /-- LOG_READ (R466). -/
  | logRead (src : CmdSrc)
  /-- BAD_OP (R368). -/
  | badOp (r : Nat)
  /-- COMMAND_TIMEOUT (R366): the command with index `ix` of ring `r` -/
  | commandTimeout (r ix : Nat)
  /-- UNIT_DELIVER (R370). -/
  | unitDeliver (r : Nat)
  /-- RING_DROP_TIMEOUT (R375). -/
  | ringDropTimeout (r : Nat)
  /-- COALESCE_TIMEOUT (R384). -/
  | coalesceTimeout (g : Nat)
  /-- CAP_CHUNK (R395). -/
  | capChunk (p src tag off : Nat) (bs : List Byte)
  /-- ATTEST_REQ (R400). -/
  | attestReq (p src tag : Nat) (nonce : List Byte)
  /-- ATTEST_RESP (R400). -/
  | attestResp (die tag : Nat) (rep : List Byte)
  /-- HELLO (R401). -/
  | hello (p : Nat) (m : List Byte)
  /-- PROOF (R402). -/
  | proof (p : Nat) (m : List Byte)
  /-- FINISH (R402). -/
  | finish (p : Nat) (m : List Byte)
  /-- FAIL (R403). -/
  | fail (p : Nat)
  /-- AUTH_TIMEOUT (R403). -/
  | authTimeout (p : Nat)
  /-- AUTH_RETRY (R403). -/
  | authRetry (p : Nat)
  /-- REKEY_DUE (R406): of port `n`, or of the end-to-end session of origin `n` -/
  | rekeyDue (e2e : Bool) (n : Nat)
  /-- HALL_CMD_REKEY (R406). -/
  | hallCmdRekey (bar : Bool)
  /-- OLD_KEY_EXPIRE (R406). -/
  | oldKeyExpire (p : Nat)
  /-- E2E_HELLO (R408): `o` the origin of the session -/
  | e2eHello (p o : Nat) (m : List Byte)
  /-- E2E_PROOF (R408). -/
  | e2eProof (p o : Nat) (m : List Byte)
  /-- E2E_FINISH (R408). -/
  | e2eFinish (p o : Nat) (m : List Byte)
  /-- E2E_FAIL (R408). -/
  | e2eFail (p o : Nat)
  /-- E2E_RESTART (R408). -/
  | e2eRestart (p : Nat)
  /-- MON_CONVERSION_DONE (R420). -/
  | monConversionDone (v : MonConv)
  /-- MON_GUARD_DONE (R423). -/
  | monGuardDone (v : MonConv)
  /-- MON_SEQ_START (R425). -/
  | monSeqStart (bar : Bool)
  /-- MON_SEQ_STOP (R425). -/
  | monSeqStop (bar : Bool)
  /-- MON_INJ_GO (R427): `v` the word written, GO taken as set -/
  | monInjGo (bar : Bool) (v : Nat)
  /-- MON_EXC_WRITE (R416): MON_ISRC if `isrc`, else MON_EXC of input `k` -/
  | monExcWrite (bar isrc : Bool) (k v : Nat)
  /-- MON_MODE_WRITE (R421). -/
  | monModeWrite (bar : Bool) (v : Nat)
  /-- MON_CAL_NONE (R430). -/
  | monCalNone (bar : Bool) (v : Nat)
  /-- INT_ZERO (R430): `v` the word of MON_CAL_CMD, here and in the three below with its OP -/
  | intZero (bar : Bool) (v : Nat)
  /-- SYS_ZERO (R431). -/
  | sysZero (bar : Bool) (v : Nat)
  /-- SYS_FULL (R431). -/
  | sysFull (bar : Bool) (v : Nat)
  /-- REF_CHECK (R430). -/
  | refCheck (bar : Bool) (v : Nat)
  /-- MON_CAL_DONE (R431): the conversions, by gain for INT_ZERO, and the checks after INT_ZERO -/
  | monCalDone (convs : List (List MonConv)) (checks : List MonConv)
  /-- SCOPE_ARM (R435). -/
  | scopeArm (bar : Bool)
  /-- SCOPE_ABORT (R437). -/
  | scopeAbort (bar : Bool)
  /-- SCOPE_FORCE (R436). -/
  | scopeForce (bar : Bool)
  /-- SCOPE_SAMPLE (R436). -/
  | scopeSample (v : MonConv)
  /-- STRIKE_DECAY (R454): `ty` the unit type (R452) -/
  | strikeDecay (ty : Nat)
  /-- FAULT_POLICY_WRITE (R455): `ty` the unit type (R452) -/
  | faultPolicyWrite (bar : Bool) (ty v : Nat)
  /-- MULTIWORD_READ (R469): `a` the offset of the register's lowest word -/
  | multiwordRead (a : Nat)
  /-- REGISTER_WRITE (R24): offset, word and byte enables -/
  | registerWrite (bar : Bool) (a v be : Nat)
  /-- ARB_RELEASE (R233). -/
  | arbRelease (inst : Nat)
  /-- PCIE_CONFIG_WRITE (R355). -/
  | pcieConfigWrite (w : PcieCfg)
  /-- TAP_OPERATION (R496): an instruction load or TRST_N -/
  | tapOperation (o : TapOp)
  /-- POWER_ON_RESET (R487). -/
  | powerOnReset
  /-- RST_N_ASSERT (R443). -/
  | rstNAssert
  /-- NO_REFERENCE_TIMEOUT (R448). -/
  | noReferenceTimeout
  /-- STOP_ORBIT_END (R133). -/
  | stopOrbitEnd
  /-- HOLD_LIMIT_EXPIRE (R20). -/
  | holdLimitExpire
  /-- BCLK_LOST (R44). -/
  | bclkLost
  /-- BCLK_RETURN (R45). -/
  | bclkReturn
  /-- SHAFT_MARKER_TIMEOUT (R42). -/
  | shaftMarkerTimeout
  /-- WALL_SRC_LOST (R71). -/
  | wallSrcLost
  /-- PTM_REQUEST (R358). -/
  | ptmRequest
  /-- ORB_SLOT_READ (R33). -/
  | orbSlotRead
  /-- WALL_NS_READ (R67). -/
  | wallNsRead
  /-- THR_OFS_APPLY (R77). -/
  | thrOfsApply
  /-- INJECTION_WINDOW_CLOSE (R91). -/
  | injectionWindowClose
  /-- TIU_INTERVAL_TIMEOUT (R126). -/
  | tiuIntervalTimeout
  /-- STREAM_GROUP_ISSUE (R146). -/
  | streamGroupIssue
  /-- TOKEN_REFILL (R160). -/
  | tokenRefill
  /-- AUTO_FORCED_ACCEPT (R162). -/
  | autoForcedAccept
  /-- TRIGGER_APPLY (R166). -/
  | triggerApply
  /-- ACCEPT_ISSUE (R169). -/
  | acceptIssue
  /-- BUSY_CHANGE (R174). -/
  | busyChange
  /-- PRIM_DEADLINE (R179). -/
  | primDeadline
  /-- MASK_TEST_EVAL (R182). -/
  | maskTestEval
  /-- SPEC_RESOLVE (R187). -/
  | specResolve
  /-- SPEC_TTL_EXPIRE (R191). -/
  | specTtlExpire
  /-- DUMP_RECORD_WRITE (R210). -/
  | dumpRecordWrite
  /-- SCRUB_SLOT (R220). -/
  | scrubSlot
  /-- VAULT_REPAIR_START (R225). -/
  | vaultRepairStart
  /-- VAULT_REPAIR_DONE (R225). -/
  | vaultRepairDone
  /-- JOINED (R330). -/
  | joined
  /-- SHAFT_SWITCH (R337). -/
  | shaftSwitch
  /-- WITNESS_SEND (R340). -/
  | witnessSend
  /-- WITNESS_ROUND_CLOSE (R341). -/
  | witnessRoundClose
  /-- CLASP_LINK_UP (R342). -/
  | claspLinkUp
  /-- CLASP_LINK_LOST (R348). -/
  | claspLinkLost
  /-- STATE_MISSING (R346). -/
  | stateMissing
  /-- CLASP_CHECK (R347). -/
  | claspCheck
  /-- CLASP_ORPHAN (R344). -/
  | claspOrphan
  /-- CLASP_CHUNK_SEND (R352). -/
  | claspChunkSend
  /-- FLR (R357). -/
  | flr
  /-- DOORBELL_POLL (R380). -/
  | doorbellPoll
  /-- CAPSULE_APPLY (R394). -/
  | capsuleApply
  /-- CLAIM (R396). -/
  | claim
  /-- DIGEST_DONE (R399). -/
  | digestDone
  /-- MON_PASS_START (R425). -/
  | monPassStart
  /-- MON_CAL_RUN (R430). -/
  | monCalRun
  /-- SCOPE_AUTO_TIMEOUT (R436). -/
  | scopeAutoTimeout
  /-- SCOPE_RECORD_WRITE (R440). -/
  | scopeRecordWrite
  /-- SCOPE_REARM (R437). -/
  | scopeRearm
  /-- ALERT_RELEASE (R465). -/
  | alertRelease
  /-- CHECK_RESULT_TIMEOUT (R348). -/
  | checkResultTimeout
deriving DecidableEq, Repr

end Sys2Proof
end

