-- ==== Sys2Proof/Config.lean ====
section
/-! DEFINITION. What an implementation fixes and what the specification leaves open, as constants with no body: nothing
can evaluate them, so a claim that holds holds for every value. -/

namespace Sys2Proof.Config

/-- A fresh open value for each number of the counter `State.free` (log 3). -/
opaque freeValue : Nat → Nat

/-- A fresh open byte string of a length: random nonces and ephemeral secrets (log 3). -/
opaque freeBytes : Nat → Nat → List Byte

/-- SHA-256 (FIPS 180-4), which the specification names and does not give (log 6). -/
opaque sha256 : List Byte → List Byte

/-- AES-CMAC under a key (SP 800-38B; log 6): 16 bytes. -/
opaque cmac : List Byte → List Byte → List Byte

/-- The AES-128-GCM tag of additional data and plaintext under a key and an IV (SP 800-38D; log 6): 16 bytes. -/
opaque gcmTag : List Byte → List Byte → List Byte → List Byte → List Byte

/-- AES-128-GCM encryption and decryption under a key and an IV (log 6). -/
opaque gcmCrypt : List Byte → List Byte → List Byte → List Byte

/-- The ECDSA P-256 signature of a message by a secret (FIPS 186-4; log 6): 64 bytes. -/
opaque ecdsaSign : List Byte → List Byte → List Byte

/-- A signature verifies over a message with a public key (log 6). -/
opaque ecdsaVerify : List Byte → List Byte → List Byte → Bool

/-- The P-256 public key of a secret (log 6): 64 bytes. -/
opaque pubOf : List Byte → List Byte

/-- The X coordinate of the ECDH product of a secret and a public key (SP 800-56A; log 6): 32 bytes. -/
opaque ecdh : List Byte → List Byte → List Byte

/-- The die's identity secret, derived from its PUF (R388; log 6). -/
opaque identity : List Byte

/-- Morfel's production public key, held in ROM (R390; log 6). -/
opaque production : List Byte

end Sys2Proof.Config
end

