-- ==== Sys2Proof/Machine/RegMap.lean ====
section
/-! DEFINITION. The register map of R476-R479: every register's configuration offset (`Reg.X`), every field's place
(`F.X_FIELD`), and per block the table of registers with write class (R24, R479), access masks (R6, R7) and reset word.
Offsets are configuration offsets: the block's base of R476 plus the block-relative offset of the owning chapter. -/

namespace Sys2Proof.Machine

/-- A field of a register: the register's configuration offset, its lowest bit and its width (R3). -/
structure Fld where
  reg : Nat
  lo  : Nat
  w   : Nat
deriving DecidableEq, Repr

/-- The write classes of R24 and R479; `ro` is a register that R479 does not list; `msix` the MSI-X table (R480). -/
inductive Cls where
  | mode | operating | live | prot | ro | msix
deriving DecidableEq, Repr

/-- One register, or one array of registers, of a block: offset in the block, two array dimensions (count and stride),
words per register, write class, whether any write clears it (a counter), the bits a write stores (`rw`), the bits that
writing 1 clears (`w1c`), and its reset word, the last two by indices and word. -/
structure RegRow where
  off   : Nat
  n1    : Nat := 1
  s1    : Nat := 4
  n2    : Nat := 1
  s2    : Nat := 4
  words : Nat := 1
  cls   : Cls
  cnt   : Bool := false
  rw    : Nat → Nat → Nat → Nat := fun _ _ _ => 0
  w1c   : Nat := 0
  rst   : Nat → Nat → Nat → Nat := fun _ _ _ => 0

/-- The blocks of the die, in the Assay table's order (R476). -/
inductive Block where
  | assay | sys | orb | wall | tiu | vtdc | tile | trg | vault | arb | canary | frag | facet | lane | port | tree | clasp | hall | fault | mon | fe | tally | hif | ring
deriving DecidableEq, Repr

/-- The Assay block type of R476, also the SOURCE of an alert (R463). -/
def Block.typ : Block → Nat
  | .assay => 2
  | .sys => 1
  | .orb => 0x10
  | .wall => 0x11
  | .tiu => 0x22
  | .vtdc => 0x21
  | .tile => 0x23
  | .trg => 0x30
  | .vault => 0x32
  | .arb => 0x40
  | .canary => 0x41
  | .frag => 0x50
  | .facet => 0x51
  | .lane => 0x60
  | .port => 0x61
  | .tree => 0x62
  | .clasp => 0x63
  | .hall => 0x80
  | .fault => 0xA0
  | .mon => 0x90
  | .fe => 0x20
  | .tally => 0x31
  | .hif => 0x70
  | .ring => 0x71

/-- Instances of the block (R476). -/
def Block.count : Block → Nat
  | .assay => 1
  | .sys => 1
  | .orb => 1
  | .wall => 1
  | .tiu => 1
  | .vtdc => 1
  | .tile => 1
  | .trg => 1
  | .vault => 1
  | .arb => 0x23
  | .canary => 0x23
  | .frag => 1
  | .facet => 1
  | .lane => 0x10
  | .port => 0x10
  | .tree => 1
  | .clasp => 1
  | .hall => 1
  | .fault => 1
  | .mon => 1
  | .fe => 1
  | .tally => 1
  | .hif => 1
  | .ring => 1

/-- Configuration offset of instance 0 (R476). -/
def Block.base : Block → Nat
  | .assay => 0
  | .sys => 0x1000
  | .orb => 0x2000
  | .wall => 0x3000
  | .tiu => 0x4000
  | .vtdc => 0x5000
  | .tile => 0x6000
  | .trg => 0x8000
  | .vault => 0x9000
  | .arb => 0xB000
  | .canary => 0xE000
  | .frag => 0xF000
  | .facet => 0x10000
  | .lane => 0x11000
  | .port => 0x12000
  | .tree => 0x13000
  | .clasp => 0x15000
  | .hall => 0x16000
  | .fault => 0x17000
  | .mon => 0x18000
  | .fe => 0x28000
  | .tally => 0x48000
  | .hif => 0x88000
  | .ring => 0x99000

/-- Bytes from one instance to the next (R476). -/
def Block.stride : Block → Nat
  | .assay => 0x1000
  | .sys => 0x1000
  | .orb => 0x1000
  | .wall => 0x1000
  | .tiu => 0x1000
  | .vtdc => 0x1000
  | .tile => 0x2000
  | .trg => 0x1000
  | .vault => 0x2000
  | .arb => 0x100
  | .canary => 0x10
  | .frag => 0x1000
  | .facet => 0x1000
  | .lane => 0x100
  | .port => 0x100
  | .tree => 0x2000
  | .clasp => 0x1000
  | .hall => 0x1000
  | .fault => 0x1000
  | .mon => 0x10000
  | .fe => 0x20000
  | .tally => 0x40000
  | .hif => 0x11000
  | .ring => 0x54000

/-- The capability word of R476; that of TALLY reads 0 in root role (R475). -/
def Block.cap : Block → Nat
  | .assay => 0
  | .sys => 7
  | .orb => 0x403FFF
  | .wall => 0xF
  | .tiu => 4
  | .vtdc => 0x24000
  | .tile => 0x3000100
  | .trg => 0x7FF1010
  | .vault => 0x20108000
  | .arb => 0x23
  | .canary => 0x23
  | .frag => 0x400200
  | .facet => 0x40104
  | .lane => 0xA0080
  | .port => 0xC34
  | .tree => 0x50400
  | .clasp => 1
  | .hall => 7
  | .fault => 0x10009
  | .mon => 0x20002020
  | .fe => 0x4000
  | .tally => 0xA0F
  | .hif => 0x8000058
  | .ring => 0x102000

/-- The Assay table's entries in order (R476). -/
def Block.all : List Block :=
  [.assay, .sys, .orb, .wall, .tiu, .vtdc, .tile, .trg, .vault, .arb, .canary, .frag, .facet, .lane, .port, .tree, .clasp, .hall, .fault, .mon, .fe, .tally, .hif, .ring]

/-- R245: the window of instance i. -/
def arbWindowReset (i : Nat) : Nat := if i = 34 then 1024 else 64
/-- R245: QUOTA2 of instance i. -/
def arbQuota2Reset (i : Nat) : Nat := if i = 34 then 16 else 4
/-- R245: QUOTA3 of instance i. -/
def arbQuota3Reset (i : Nat) : Nat := if i = 34 then 16 else if i = 16 ∨ i = 17 then 8 else 4
/-- R245: the canary limit of instance i. -/
def canaryLimitReset (i : Nat) : Nat :=
  if i < 16 then 256 else if i < 18 then 1024 else if i < 34 then 64 else 4096
/-- R244: requesters of arbiter instance i. -/
def arbRequesters (i : Nat) : Nat :=
  if i < 16 then 16 else if i < 18 then 17 else if i < 34 then 5 else 128
/-- R245: the default class of requester r of instance i. -/
def arbClassDefault (i r : Nat) : Nat :=
  if i < 16 then 1
  else if i < 18 then (if r < 12 then 1 else if r = 12 then 0 else if r = 13 then 1 else if r = 14 then 0 else if r = 15 then 2 else 3)
  else if i < 34 then (if r = 3 then 2 else 1)
  else 1
/-- The reset word w of `ARB_CLASS` of instance i: two bits a requester, R245. -/
def arbClassReset (i w : Nat) : Nat :=
  (List.range 16).foldl (fun acc j =>
    if 16 * w + j < arbRequesters i then acc + arbClassDefault i (16 * w + j) * 4 ^ j else acc) 0
/-- The written bits of word w of `ARB_CLASS` of instance i: fields of absent requesters are reserved (ch. 8). -/
def arbClassMask (i w : Nat) : Nat :=
  (List.range 16).foldl (fun acc j => if 16 * w + j < arbRequesters i then acc + 3 * 4 ^ j else acc) 0
/-- R452: the reset strike limit of unit type t. -/
def faultLimitReset : Nat → Nat
  | 1 => 16 | 2 => 8 | 3 => 8 | 4 => 4 | 5 => 8 | 6 => 4 | 7 => 2 | 8 => 8 | _ => 4
/-- R452: the reset decay of unit type t, in orbits. -/
def faultDecayReset : Nat → Nat
  | 1 => 1024 | 2 => 4096 | 3 => 1024 | 4 => 4096 | 5 => 16384 | 6 => 65536 | 7 => 1048576 | 8 => 16384 | _ => 65536

end Sys2Proof.Machine

/-! Register offsets. -/
namespace Sys2Proof.Machine.Reg

abbrev ORB_CLK : Nat := 0x2000
abbrev ORB_LEN : Nat := 0x2004
abbrev ORB_CTRL : Nat := 0x2008
abbrev ORB_CAL_LEN : Nat := 0x200C
abbrev ORB_STATUS : Nat := 0x2010
abbrev ORB_SLOT : Nat := 0x2014
abbrev ORB_ORBIT : Nat := 0x2018
abbrev ORB_RUN_ORBIT : Nat := 0x201C
abbrev ORB_MISS_CNT : Nat := 0x2020
abbrev ORB_EXTRA_CNT : Nat := 0x2024
abbrev ORB_MARK : Nat := 0x2028
abbrev ORB_PA_CTRL : Nat := 0x2040
abbrev ORB_PA_STATUS : Nat := 0x2044
abbrev ORB_PA_RTT : Nat := 0x2048
abbrev ORB_PA_OFS : Nat := 0x204C
abbrev ORB_ASYM : Nat := 0x2050
abbrev ORB_PA_CAL_CNT : Nat := 0x2054
abbrev ORB_PA_CAL_WALL : Nat := 0x2058
abbrev ORB_PA_QUAL : Nat := 0x2064
abbrev ORB_CAL (i : Nat) : Nat := 0x2100 + 4 * i
abbrev WALL_NS : Nat := 0x3000
abbrev WALL_SEC_LO : Nat := 0x3004
abbrev WALL_SEC_HI : Nat := 0x3008
abbrev WALL_STAMP32 : Nat := 0x300C
abbrev WALL_NOM : Nat := 0x3010
abbrev WALL_ADJ : Nat := 0x3014
abbrev WALL_SERVO : Nat := 0x3018
abbrev WALL_GAIN : Nat := 0x301C
abbrev WALL_LIM : Nat := 0x3020
abbrev WALL_STEP_THR : Nat := 0x3024
abbrev WALL_OFFSET : Nat := 0x3028
abbrev WALL_STATUS : Nat := 0x302C
abbrev WALL_PPS_WIN : Nat := 0x3030
abbrev WALL_PPS_REJ_CNT : Nat := 0x3034
abbrev WALL_SET : Nat := 0x3038
abbrev WALL_CMD : Nat := 0x3044
abbrev FE_CTRL : Nat := 0x28000
abbrev FE_THR : Nat := 0x28004
abbrev FE_THR_OFS : Nat := 0x28008
abbrev FE_INJ_CTRL : Nat := 0x2800C
abbrev FE_OVR : Nat := 0x28010
abbrev FE_NOISE : Nat := 0x28014
abbrev FE_STATUS : Nat := 0x28018
abbrev FE_INJ_LSB : Nat := 0x2801C
abbrev FE_LEAK_SAT_CNT : Nat := 0x28020
abbrev FE_TRIM_SAT_CNT : Nat := 0x28024
abbrev FE_RETIRED_CNT : Nat := 0x28028
abbrev FE_NOISY_CNT : Nat := 0x2802C
abbrev FE_DEAD_CNT : Nat := 0x28030
abbrev FE_SAT_CNT : Nat := 0x28034
abbrev FE_HOLDOFF_CNT : Nat := 0x28038
abbrev FE_CH (i : Nat) : Nat := 0x38000 + 4 * i
abbrev VTDC_CTRL : Nat := 0x5000
abbrev VTDC_CAL : Nat := 0x5004
abbrev VTDC_STATUS : Nat := 0x5008
abbrev VTDC_FUSE : Nat := 0x500C
abbrev VTDC_CAL_CNT : Nat := 0x5010
abbrev VTDC_CAL_WALL : Nat := 0x5014
abbrev VTDC_CAL_QUAL : Nat := 0x5020
abbrev VTDC_NOPAIR_CH : Nat := 0x5024
abbrev VTDC_LOST_CNT : Nat := 0x5030
abbrev VTDC_STALE_CNT : Nat := 0x5034
abbrev VTDC_NARROW_CNT : Nat := 0x5038
abbrev VTDC_ORDER_CNT : Nat := 0x503C
abbrev VTDC_TIMEOUT_CNT : Nat := 0x5040
abbrev VTDC_OVERRUN_CNT : Nat := 0x5044
abbrev VTDC_CAL_ABORT_CNT : Nat := 0x5048
abbrev VTDC_CAL_BAD_CNT : Nat := 0x504C
abbrev VTDC_BULK_SKIP_CNT : Nat := 0x5050
abbrev VTDC_PSEL : Nat := 0x5060
abbrev VTDC_PA_CAL : Nat := 0x5064
abbrev VTDC_PB_CAL : Nat := 0x5068
abbrev VTDC_P_AGE : Nat := 0x506C
abbrev VTDC_P_STAT : Nat := 0x5070
abbrev TIU_IN (i : Nat) : Nat := 0x4000 + 4 * i
abbrev TIU_MEAS : Nat := 0x4010
abbrev TIU_TMO : Nat := 0x4014
abbrev TIU_CMD : Nat := 0x4018
abbrev TIU_STATUS : Nat := 0x401C
abbrev TIU_COUNT : Nat := 0x4020
abbrev TIU_LAST : Nat := 0x4024
abbrev TIU_MIN : Nat := 0x402C
abbrev TIU_MAX : Nat := 0x4034
abbrev TIU_MEAN : Nat := 0x403C
abbrev TIU_SDEV : Nat := 0x4044
abbrev TIU_TIMEOUT_CNT : Nat := 0x4048
abbrev TIU_LOST_CNT : Nat := 0x404C
abbrev TIU_EXTRA_CNT : Nat := 0x4050
abbrev TIU_STALE_CNT : Nat := 0x4054
abbrev TILE_LAT : Nat := 0x6000
abbrev TILE_STATUS : Nat := 0x6004
abbrev TILE_CMD : Nat := 0x6008
abbrev TILE_RETIRED_CNT : Nat := 0x600C
abbrev TILE_DROP_CNT : Nat := 0x6010
abbrev TILE_POISON_CNT : Nat := 0x6014
abbrev TILE_POISON_DISCARD_CNT : Nat := 0x6018
abbrev TILE_T (i : Nat) : Nat := 0x7000 + 4 * i
abbrev FRAG_ASM : Nat := 0xF080
abbrev FRAG_MISSING_CNT : Nat := 0xF084
abbrev FRAG_LATE_CNT : Nat := 0xF088
abbrev FRAG_OPEN : Nat := 0xF08C
abbrev TRG_MODE : Nat := 0x8000
abbrev TRG_LAT : Nat := 0x8004
abbrev TRG_STATUS : Nat := 0x8008
abbrev TRG_CMD : Nat := 0x800C
abbrev TRG_BUSY : Nat := 0x8010
abbrev TRG_RATE : Nat := 0x8014
abbrev TRG_AUTO : Nat := 0x8018
abbrev TRG_PRIM : Nat := 0x801C
abbrev TRG_SELF : Nat := 0x8020
abbrev TRG_SPEC : Nat := 0x8024
abbrev TRG_SPEC_Q : Nat := 0x8028
abbrev TRG_MTEST : Nat := 0x802C
abbrev TRG_MARGIN : Nat := 0x8030
abbrev TRG_EVT : Nat := 0x8034
abbrev TRG_QUEUE : Nat := 0x8038
abbrev TRG_SELF_EN (i : Nat) : Nat := 0x8040 + 4 * i
abbrev TRG_MT_ORBIT : Nat := 0x8060
abbrev TRG_MT_POS : Nat := 0x8064
abbrev TRG_MT_OBS : Nat := 0x8068
abbrev TRG_MT_EXPV : Nat := 0x8070
abbrev TRG_ACCEPT_CNT : Nat := 0x8080
abbrev TRG_IGN_CNT : Nat := 0x8084
abbrev TRG_LATE_CNT : Nat := 0x8088
abbrev TRG_SEQ_GAP_CNT : Nat := 0x808C
abbrev TRG_ACC_LOST_CNT : Nat := 0x8090
abbrev TRG_RATE_REJ_CNT : Nat := 0x8094
abbrev TRG_FORCED_CNT : Nat := 0x8098
abbrev TRG_BUSY_SLOTS : Nat := 0x809C
abbrev TRG_PRIM_LATE_CNT : Nat := 0x80A0
abbrev TRG_MT_PASS_CNT : Nat := 0x80A4
abbrev TRG_FROZEN_DROP_CNT : Nat := 0x80A8
abbrev TRG_SPEC_SENT : Nat := 0x80B0
abbrev TRG_SPEC_BYTES : Nat := 0x80B4
abbrev TRG_SPEC_CONFIRMED : Nat := 0x80B8
abbrev TRG_SPEC_CANCELLED : Nat := 0x80BC
abbrev TRG_SPEC_EXPIRED : Nat := 0x80C0
abbrev TRG_SPEC_NACK_CNT : Nat := 0x80C4
abbrev TRG_SPEC_SKIP_CNT : Nat := 0x80C8
abbrev TRG_TYPE (i : Nat) : Nat := 0x8100 + 4 * i
abbrev TRG_EXP (i : Nat) : Nat := 0x8400 + 8 * i
abbrev TALLY_CTRL : Nat := 0x48000
abbrev TALLY_HIST : Nat := 0x48004
abbrev TALLY_SAMP : Nat := 0x48008
abbrev TALLY_DUMP : Nat := 0x4800C
abbrev TALLY_STATUS : Nat := 0x48010
abbrev TALLY_DUMP_ID : Nat := 0x48014
abbrev TALLY_INC_LOST_CNT : Nat := 0x48020
abbrev TALLY_POISON_REFUSED_CNT : Nat := 0x48024
abbrev TALLY_POISON_BIN_CNT : Nat := 0x48028
abbrev TALLY_DUMP_SKIP_CNT : Nat := 0x4802C
abbrev TALLY_CNT (i : Nat) : Nat := 0x58000 + 4 * i
abbrev TALLY_SUM (i : Nat) : Nat := 0x68000 + 8 * i
abbrev VAULT_SCRUB : Nat := 0x9000
abbrev VAULT_STATUS : Nat := 0x9004
abbrev VAULT_CMD : Nat := 0x9008
abbrev VAULT_ERR_ADDR : Nat := 0x900C
abbrev VAULT_ERR_SYN : Nat := 0x9010
abbrev VAULT_SCRUB_PTR : Nat := 0x9014
abbrev VAULT_SCRUB_PASS : Nat := 0x9018
abbrev VAULT_LAST_PASS : Nat := 0x901C
abbrev VAULT_REPAIR_Q : Nat := 0x9020
abbrev VAULT_CE_CNT : Nat := 0x9030
abbrev VAULT_UE_CNT : Nat := 0x9034
abbrev VAULT_POISON_HIT_CNT : Nat := 0x9038
abbrev VAULT_STICKY_CNT : Nat := 0x903C
abbrev VAULT_REPAIR_CNT : Nat := 0x9040
abbrev VAULT_LODE_MASKED_CNT : Nat := 0x9044
abbrev VAULT_LODE_POISON_CNT : Nat := 0x9048
abbrev VAULT_SPARE (i : Nat) : Nat := 0x9100 + 4 * i
abbrev VAULT_REPAIR_LOG (i : Nat) : Nat := 0xA000 + 4 * i
abbrev ARB_CFG (i : Nat) : Nat := 0xB000 + 0x100 * i
abbrev ARB_STATUS (i : Nat) : Nat := 0xB004 + 0x100 * i
abbrev ARB_GRANT_CNT (i : Nat) : Nat := 0xB008 + 0x100 * i
abbrev ARB_PREEMPT_CNT (i : Nat) : Nat := 0xB00C + 0x100 * i
abbrev ARB_QMASK_CNT (i : Nat) : Nat := 0xB010 + 0x100 * i
abbrev ARB_CLASS (i j : Nat) : Nat := 0xB020 + 0x100 * i + 4 * j
abbrev CANARY_LIMIT (i : Nat) : Nat := 0xE000 + 0x10 * i
abbrev CANARY_BITE_CNT (i : Nat) : Nat := 0xE004 + 0x10 * i
abbrev CANARY_LAST (i : Nat) : Nat := 0xE008 + 0x10 * i
abbrev CANARY_STATUS (i : Nat) : Nat := 0xE00C + 0x10 * i
abbrev FACET_CTRL : Nat := 0x10000
abbrev FACET_STATUS : Nat := 0x10004
abbrev FACET_FRAG_CNT : Nat := 0x10010
abbrev FACET_RAW_BYTES : Nat := 0x10014
abbrev FACET_CODED_BYTES : Nat := 0x1001C
abbrev FACET_RAW_GROUP_CNT : Nat := 0x10024
abbrev FACET_FORMAT_ERR_CNT : Nat := 0x10028
abbrev FACET_BADCHECK_CNT : Nat := 0x1002C
abbrev FRAG_RX_ORPHAN_CNT : Nat := 0xF100
abbrev FRAG_RX_ABORT_CNT : Nat := 0xF104
abbrev FRAG_ABORT_SENT_CNT : Nat := 0xF108
abbrev FRAG_RX_MALFORMED_CNT : Nat := 0xF10C
abbrev LANE_CTRL (i : Nat) : Nat := 0x11000 + 0x100 * i
abbrev LANE_STATUS (i : Nat) : Nat := 0x11004 + 0x100 * i
abbrev LANE_EQ (i : Nat) : Nat := 0x11008 + 0x100 * i
abbrev LANE_EYE (i : Nat) : Nat := 0x1100C + 0x100 * i
abbrev LANE_HDR_ERR_CNT (i : Nat) : Nat := 0x11010 + 0x100 * i
abbrev LANE_LOCK_LOSS_CNT (i : Nat) : Nat := 0x11014 + 0x100 * i
abbrev LANE_RETRAIN_CNT (i : Nat) : Nat := 0x11018 + 0x100 * i
abbrev LANE_PRBS_ERR_CNT (i : Nat) : Nat := 0x1101C + 0x100 * i
abbrev LANE_PRBS_BITS (i : Nat) : Nat := 0x11020 + 0x100 * i
abbrev LANE_CAL_CNT (i : Nat) : Nat := 0x11028 + 0x100 * i
abbrev LANE_CAL_WALL (i : Nat) : Nat := 0x1102C + 0x100 * i
abbrev LANE_CAL_QUAL (i : Nat) : Nat := 0x11038 + 0x100 * i
abbrev LANE_FUSE_ASYM (i : Nat) : Nat := 0x1103C + 0x100 * i
abbrev PORT_CFG (i : Nat) : Nat := 0x12000 + 0x100 * i
abbrev PORT_RATE (i : Nat) : Nat := 0x12004 + 0x100 * i
abbrev PORT_VER (i : Nat) : Nat := 0x12008 + 0x100 * i
abbrev PORT_FEAT_OFFER (i : Nat) : Nat := 0x1200C + 0x100 * i
abbrev PORT_STATUS (i : Nat) : Nat := 0x12014 + 0x100 * i
abbrev PORT_FEAT (i : Nat) : Nat := 0x12018 + 0x100 * i
abbrev PORT_PARTNER (i : Nat) : Nat := 0x12020 + 0x100 * i
abbrev PORT_WIDTH (i : Nat) : Nat := 0x12024 + 0x100 * i
abbrev PORT_CREDIT (i : Nat) : Nat := 0x12028 + 0x100 * i
abbrev PORT_REPLAY (i : Nat) : Nat := 0x1202C + 0x100 * i
abbrev PORT_CRC_ERR_CNT (i : Nat) : Nat := 0x12030 + 0x100 * i
abbrev PORT_SEQ_ERR_CNT (i : Nat) : Nat := 0x12034 + 0x100 * i
abbrev PORT_REPLAY_CNT (i : Nat) : Nat := 0x12038 + 0x100 * i
abbrev PORT_BAD_BLOCK_CNT (i : Nat) : Nat := 0x1203C + 0x100 * i
abbrev PORT_PROBE_LOST_CNT (i : Nat) : Nat := 0x12040 + 0x100 * i
abbrev PORT_LINKUP_CNT (i : Nat) : Nat := 0x12044 + 0x100 * i
abbrev PORT_LOOP_ERR_CNT (i : Nat) : Nat := 0x12048 + 0x100 * i
abbrev TREE_ID : Nat := 0x13000
abbrev TREE_RANGE : Nat := 0x13004
abbrev TREE_CTRL : Nat := 0x13008
abbrev TREE_STATUS : Nat := 0x1300C
abbrev TREE_CMD : Nat := 0x13010
abbrev TREE_ALT : Nat := 0x13014
abbrev TREE_ALT_OFS : Nat := 0x13018
abbrev TREE_JOIN_CNT : Nat := 0x13020
abbrev TREE_REFUSE_CNT : Nat := 0x13024
abbrev TREE_REHOME_CNT : Nat := 0x13028
abbrev TREE_UNROUTABLE_CNT : Nat := 0x1302C
abbrev TREE_ALT_DISCARD_CNT : Nat := 0x13030
abbrev TREE_PARENT_ANSWER_CNT : Nat := 0x13034
abbrev TREE_ROUTE (i : Nat) : Nat := 0x14000 + 4 * i
abbrev CLASP_CTRL : Nat := 0x15000
abbrev CLASP_STATUS : Nat := 0x15004
abbrev CLASP_CMP : Nat := 0x15008
abbrev CLASP_WIT : Nat := 0x1500C
abbrev CLASP_SYNC : Nat := 0x15010
abbrev CLASP_PEER : Nat := 0x15014
abbrev CLASP_WIT_STATUS : Nat := 0x15018
abbrev CLASP_CMD : Nat := 0x1501C
abbrev CLASP_SEQ : Nat := 0x15020
abbrev CLASP_MISMATCH_CNT : Nat := 0x15030
abbrev CLASP_TRANSIENT_CNT : Nat := 0x15034
abbrev CLASP_ABSENT_CNT : Nat := 0x15038
abbrev CLASP_ORPHAN_CNT : Nat := 0x1503C
abbrev CLASP_SWITCH_CNT : Nat := 0x15040
abbrev CLASP_SYNC_RESTART_CNT : Nat := 0x15044
abbrev HIF_STATUS : Nat := 0x88000
abbrev HIF_FEAT_OFFER (i : Nat) : Nat := 0x88010 + 4 * i
abbrev HIF_FEAT_ACCEPT (i : Nat) : Nat := 0x88020 + 4 * i
abbrev HIF_FEAT_CMD : Nat := 0x88030
abbrev HIF_FEAT_STATUS : Nat := 0x88034
abbrev HIF_DB_BASE : Nat := 0x88040
abbrev HIF_DB_POLL : Nat := 0x88048
abbrev HIF_NUDGE : Nat := 0x8804C
abbrev HIF_CMD_TMO : Nat := 0x88050
abbrev HIF_DROP_TMO : Nat := 0x88054
abbrev HIF_TPRIM : Nat := 0x88058
abbrev HIF_LAST_REJECT : Nat := 0x88060
abbrev HIF_POISON_READ_CNT : Nat := 0x88070
abbrev HIF_COAL (i : Nat) : Nat := 0x88400 + 4 * i
abbrev RING_UNMAPPED_CNT : Nat := 0x99000
abbrev RING_POISON_NUG_CNT : Nat := 0x99004
abbrev RING_DB_ERR_CNT : Nat := 0x99008
abbrev RING_DEF (i : Nat) : Nat := 0x99100 + 4 * i
abbrev RING_BASE (i : Nat) : Nat := 0xA9000 + 0x20 * i
abbrev RING_CFG (i : Nat) : Nat := 0xA9008 + 0x20 * i
abbrev RING_HEAD (i : Nat) : Nat := 0xA900C + 0x20 * i
abbrev RING_TAIL_SEEN (i : Nat) : Nat := 0xA9010 + 0x20 * i
abbrev RING_STATUS (i : Nat) : Nat := 0xA9014 + 0x20 * i
abbrev RING_DROP_CNT (i : Nat) : Nat := 0xA9018 + 0x20 * i
abbrev RING_UNITS (i : Nat) : Nat := 0xA901C + 0x20 * i
abbrev RING_MAP (i : Nat) : Nat := 0xE9000 + 0x10 * i
abbrev HALL_STATUS : Nat := 0x16000
abbrev HALL_AUTH : Nat := 0x16004
abbrev HALL_POLICY : Nat := 0x16008
abbrev HALL_LOCK : Nat := 0x1600C
abbrev HALL_CMD : Nat := 0x16010
abbrev HALL_SERIAL : Nat := 0x16014
abbrev HALL_BOOT : Nat := 0x1601C
abbrev HALL_CAP_VER : Nat := 0x16020
abbrev HALL_PORT_SAFE : Nat := 0x16024
abbrev HALL_ID_PUB : Nat := 0x16040
abbrev HALL_OWNER : Nat := 0x16080
abbrev HALL_DIGEST : Nat := 0x160A0
abbrev HALL_FUSE_DIGEST : Nat := 0x160C0
abbrev HALL_ENDORSE : Nat := 0x16100
abbrev HALL_CAP_OK_CNT : Nat := 0x16140
abbrev HALL_CAP_FAIL_CNT : Nat := 0x16144
abbrev HALL_PROTECTED_REJ_CNT : Nat := 0x16148
abbrev HALL_ATTEST_CNT : Nat := 0x1614C
abbrev HALL_SESSION_CNT : Nat := 0x16150
abbrev HALL_AUTH_FAIL_CNT : Nat := 0x16154
abbrev HALL_TAG_FAIL_CNT : Nat := 0x16158
abbrev HALL_E2E_FAIL_CNT : Nat := 0x1615C
abbrev HALL_REKEY_CNT : Nat := 0x16160
abbrev HALL_PORT (i : Nat) : Nat := 0x16200 + 4 * i
abbrev MON_CTRL : Nat := 0x18000
abbrev MON_STATUS : Nat := 0x18004
abbrev MON_ISRC : Nat := 0x18008
abbrev MON_SEQ_CTRL : Nat := 0x1800C
abbrev MON_SEQ_CMD : Nat := 0x18010
abbrev MON_SEQ_STATUS : Nat := 0x18014
abbrev MON_PASS : Nat := 0x18018
abbrev MON_INJ : Nat := 0x1801C
abbrev MON_INJ_RESULT : Nat := 0x18020
abbrev MON_CAL_CMD : Nat := 0x18028
abbrev MON_CAL_STATUS : Nat := 0x1802C
abbrev MON_CAL_TARGET : Nat := 0x18030
abbrev MON_CAL_CNT : Nat := 0x18034
abbrev MON_CAL_WALL : Nat := 0x18038
abbrev MON_CAL_QUAL : Nat := 0x18044
abbrev MON_REF_RATIO : Nat := 0x18048
abbrev MON_STREAM : Nat := 0x1804C
abbrev MON_OVR_CNT : Nat := 0x18060
abbrev MON_OPEN_CNT : Nat := 0x18064
abbrev MON_GUARD_CNT : Nat := 0x18068
abbrev MON_VOID_CNT : Nat := 0x1806C
abbrev MON_SEQ_RESTART_CNT : Nat := 0x18070
abbrev MON_INJ_BUSY_CNT : Nat := 0x18074
abbrev MON_CAL_SKIP_CNT : Nat := 0x18078
abbrev MON_PASS_SKIP_CNT : Nat := 0x1807C
abbrev MON_REC_DROP_CNT : Nat := 0x18080
abbrev MON_MASK_PASS_CNT : Nat := 0x18084
abbrev MON_IN (i : Nat) : Nat := 0x18100 + 0x20 * i
abbrev MON_EXC (i : Nat) : Nat := 0x18104 + 0x20 * i
abbrev MON_RESULT (i : Nat) : Nat := 0x18108 + 0x20 * i
abbrev MON_USER_OFS (i : Nat) : Nat := 0x18110 + 0x20 * i
abbrev MON_USER_GAIN (i : Nat) : Nat := 0x18114 + 0x20 * i
abbrev MON_IN_STAT (i : Nat) : Nat := 0x18118 + 0x20 * i
abbrev MON_FACT_OFS (i : Nat) : Nat := 0x18500 + 4 * i
abbrev MON_FACT_GAIN (i : Nat) : Nat := 0x18520 + 4 * i
abbrev MON_DRIFT_OFS (i : Nat) : Nat := 0x18540 + 4 * i
abbrev MON_SEQ (i : Nat) : Nat := 0x18600 + 4 * i
abbrev MON_SCOPE : Nat := 0x18700
abbrev MON_SCOPE_CNT : Nat := 0x18704
abbrev MON_SCOPE_LEVEL : Nat := 0x18708
abbrev MON_SCOPE_AUTO : Nat := 0x1870C
abbrev MON_SCOPE_CMD : Nat := 0x18710
abbrev MON_SCOPE_STATUS : Nat := 0x18714
abbrev MON_SCOPE_VIOL : Nat := 0x18718
abbrev MON_PWL (i j : Nat) : Nat := 0x19000 + 0x80 * i + 4 * j
abbrev MON_SCOPE_BUF (i : Nat) : Nat := 0x1C000 + 4 * i
abbrev MON_ENV (i : Nat) : Nat := 0x20000 + 4 * i
abbrev FAULT_BOOT : Nat := 0x17000
abbrev FAULT_STATUS : Nat := 0x17004
abbrev FAULT_ALERT_MASK : Nat := 0x17008
abbrev FAULT_ALERT_SEQ : Nat := 0x1700C
abbrev FAULT_LOG_NEXT : Nat := 0x17010
abbrev FAULT_SEL : Nat := 0x17014
abbrev FAULT_UNIT : Nat := 0x17018
abbrev FAULT_START (i : Nat) : Nat := 0x17020 + 4 * i
abbrev FAULT_POLICY (i : Nat) : Nat := 0x17040 + 4 * i
abbrev FAULT_RETIRED (i : Nat) : Nat := 0x17080 + 4 * i
abbrev FAULT_STRIKE_CNT : Nat := 0x170C0
abbrev FAULT_RETIRE_CNT : Nat := 0x170C4
abbrev FAULT_VOTE_CNT : Nat := 0x170C8
abbrev FAULT_ALERT_DROP_CNT : Nat := 0x170CC
abbrev FAULT_INIT_MEM_CNT : Nat := 0x170D0
abbrev SYS_STATUS : Nat := 0x1000
abbrev SYS_REJECT_CNT : Nat := 0x1004
abbrev SYS_HOLD_LIMIT : Nat := 0x1008
abbrev SYS_SCRATCH : Nat := 0x100C
abbrev SYS_STRAPS : Nat := 0x1010
abbrev SYS_BADADDR_CNT : Nat := 0x1014

end Sys2Proof.Machine.Reg

/-! Register fields. -/
namespace Sys2Proof.Machine.F

abbrev ORB_CLK_SRC : Fld := ⟨Reg.ORB_CLK, 0, 2⟩
abbrev ORB_LEN_LEN : Fld := ⟨Reg.ORB_LEN, 0, 14⟩
abbrev ORB_CTRL_MISS_LIMIT : Fld := ⟨Reg.ORB_CTRL, 0, 4⟩
abbrev ORB_CTRL_RELOCK : Fld := ⟨Reg.ORB_CTRL, 4, 4⟩
abbrev ORB_CAL_LEN_LEN : Fld := ⟨Reg.ORB_CAL_LEN, 0, 7⟩
abbrev ORB_STATUS_NO_QUIET : Fld := ⟨Reg.ORB_STATUS, 16, 1⟩
abbrev ORB_STATUS_BCLK_LOST : Fld := ⟨Reg.ORB_STATUS, 15, 1⟩
abbrev ORB_STATUS_CAL_RANGE : Fld := ⟨Reg.ORB_STATUS, 14, 1⟩
abbrev ORB_STATUS_ORBIT_WRAP : Fld := ⟨Reg.ORB_STATUS, 13, 1⟩
abbrev ORB_STATUS_REPHASED : Fld := ⟨Reg.ORB_STATUS, 12, 1⟩
abbrev ORB_STATUS_LEN_MISMATCH : Fld := ⟨Reg.ORB_STATUS, 11, 1⟩
abbrev ORB_STATUS_WIDE : Fld := ⟨Reg.ORB_STATUS, 10, 1⟩
abbrev ORB_STATUS_EXTRA : Fld := ⟨Reg.ORB_STATUS, 9, 1⟩
abbrev ORB_STATUS_MISS : Fld := ⟨Reg.ORB_STATUS, 8, 1⟩
abbrev ORB_STATUS_HOLDOVER : Fld := ⟨Reg.ORB_STATUS, 4, 1⟩
abbrev ORB_STATUS_QUIET : Fld := ⟨Reg.ORB_STATUS, 3, 1⟩
abbrev ORB_STATUS_LOCKED : Fld := ⟨Reg.ORB_STATUS, 2, 1⟩
abbrev ORB_STATUS_ORBIT_LOCK : Fld := ⟨Reg.ORB_STATUS, 1, 1⟩
abbrev ORB_STATUS_PLL_LOCK : Fld := ⟨Reg.ORB_STATUS, 0, 1⟩
abbrev ORB_SLOT_FCYC : Fld := ⟨Reg.ORB_SLOT, 16, 6⟩
abbrev ORB_SLOT_SLOT : Fld := ⟨Reg.ORB_SLOT, 0, 14⟩
abbrev ORB_MARK_MEAS_LEN : Fld := ⟨Reg.ORB_MARK, 16, 16⟩
abbrev ORB_MARK_EXTRA_SLOT : Fld := ⟨Reg.ORB_MARK, 0, 14⟩
abbrev ORB_PA_CTRL_FREEZE : Fld := ⟨Reg.ORB_PA_CTRL, 31, 1⟩
abbrev ORB_PA_CTRL_GAIN : Fld := ⟨Reg.ORB_PA_CTRL, 24, 4⟩
abbrev ORB_PA_CTRL_LOSS : Fld := ⟨Reg.ORB_PA_CTRL, 16, 8⟩
abbrev ORB_PA_CTRL_TOL : Fld := ⟨Reg.ORB_PA_CTRL, 0, 12⟩
abbrev ORB_PA_STATUS_CHAIN : Fld := ⟨Reg.ORB_PA_STATUS, 16, 12⟩
abbrev ORB_PA_STATUS_STATE : Fld := ⟨Reg.ORB_PA_STATUS, 0, 3⟩
abbrev ORB_ASYM_ASYM : Fld := ⟨Reg.ORB_ASYM, 0, 16⟩
abbrev ORB_PA_QUAL_QUAL : Fld := ⟨Reg.ORB_PA_QUAL, 0, 12⟩
abbrev ORB_CAL_EN (i : Nat) : Fld := ⟨Reg.ORB_CAL i, 31, 1⟩
abbrev ORB_CAL_EVERY (i : Nat) : Fld := ⟨Reg.ORB_CAL i, 27, 4⟩
abbrev ORB_CAL_ACTION (i : Nat) : Fld := ⟨Reg.ORB_CAL i, 21, 6⟩
abbrev ORB_CAL_ARG (i : Nat) : Fld := ⟨Reg.ORB_CAL i, 14, 7⟩
abbrev ORB_CAL_SLOT (i : Nat) : Fld := ⟨Reg.ORB_CAL i, 0, 14⟩
abbrev WALL_NS_NS : Fld := ⟨Reg.WALL_NS, 0, 30⟩
abbrev WALL_SEC_HI_SEC : Fld := ⟨Reg.WALL_SEC_HI, 0, 16⟩
abbrev WALL_NOM_NOM : Fld := ⟨Reg.WALL_NOM, 0, 32⟩
abbrev WALL_SERVO_PERIOD : Fld := ⟨Reg.WALL_SERVO, 8, 8⟩
abbrev WALL_SERVO_SRC : Fld := ⟨Reg.WALL_SERVO, 0, 2⟩
abbrev WALL_GAIN_KP : Fld := ⟨Reg.WALL_GAIN, 16, 16⟩
abbrev WALL_GAIN_KI : Fld := ⟨Reg.WALL_GAIN, 0, 16⟩
abbrev WALL_LIM_LIM : Fld := ⟨Reg.WALL_LIM, 0, 32⟩
abbrev WALL_STEP_THR_THR : Fld := ⟨Reg.WALL_STEP_THR, 0, 32⟩
abbrev WALL_STATUS_STEPPED : Fld := ⟨Reg.WALL_STATUS, 2, 1⟩
abbrev WALL_STATUS_SRC_LOST : Fld := ⟨Reg.WALL_STATUS, 1, 1⟩
abbrev WALL_STATUS_LOCKED : Fld := ⟨Reg.WALL_STATUS, 0, 1⟩
abbrev WALL_PPS_WIN_WIN : Fld := ⟨Reg.WALL_PPS_WIN, 0, 32⟩
abbrev WALL_CMD_SET_AT_PPS : Fld := ⟨Reg.WALL_CMD, 1, 1⟩
abbrev WALL_CMD_SET_NOW : Fld := ⟨Reg.WALL_CMD, 0, 1⟩
abbrev FE_CTRL_LEAK_EN : Fld := ⟨Reg.FE_CTRL, 4, 1⟩
abbrev FE_CTRL_CDET : Fld := ⟨Reg.FE_CTRL, 2, 2⟩
abbrev FE_CTRL_POL : Fld := ⟨Reg.FE_CTRL, 1, 1⟩
abbrev FE_CTRL_MATRIX_EN : Fld := ⟨Reg.FE_CTRL, 0, 1⟩
abbrev FE_THR_HOLDOFF : Fld := ⟨Reg.FE_THR, 24, 6⟩
abbrev FE_THR_HYST : Fld := ⟨Reg.FE_THR, 16, 3⟩
abbrev FE_THR_GLOBAL : Fld := ⟨Reg.FE_THR, 0, 10⟩
abbrev FE_THR_OFS_OFS : Fld := ⟨Reg.FE_THR_OFS, 0, 10⟩
abbrev FE_INJ_CTRL_DEAD_CHECK : Fld := ⟨Reg.FE_INJ_CTRL, 28, 1⟩
abbrev FE_INJ_CTRL_SPAN : Fld := ⟨Reg.FE_INJ_CTRL, 24, 2⟩
abbrev FE_INJ_CTRL_FCYC : Fld := ⟨Reg.FE_INJ_CTRL, 16, 6⟩
abbrev FE_INJ_CTRL_STRIDE : Fld := ⟨Reg.FE_INJ_CTRL, 12, 3⟩
abbrev FE_INJ_CTRL_CODE : Fld := ⟨Reg.FE_INJ_CTRL, 0, 10⟩
abbrev FE_OVR_GUARD : Fld := ⟨Reg.FE_OVR, 0, 4⟩
abbrev FE_NOISE_DEAD_LIMIT : Fld := ⟨Reg.FE_NOISE, 8, 8⟩
abbrev FE_NOISE_LIMIT : Fld := ⟨Reg.FE_NOISE, 0, 4⟩
abbrev FE_STATUS_OFS_CLAMP : Fld := ⟨Reg.FE_STATUS, 2, 1⟩
abbrev FE_STATUS_OFS_PEND : Fld := ⟨Reg.FE_STATUS, 1, 1⟩
abbrev FE_STATUS_SETTLED : Fld := ⟨Reg.FE_STATUS, 0, 1⟩
abbrev FE_INJ_LSB_LSB : Fld := ⟨Reg.FE_INJ_LSB, 0, 16⟩
abbrev FE_LEAK_SAT_CNT_CNT : Fld := ⟨Reg.FE_LEAK_SAT_CNT, 0, 15⟩
abbrev FE_TRIM_SAT_CNT_CNT : Fld := ⟨Reg.FE_TRIM_SAT_CNT, 0, 15⟩
abbrev FE_RETIRED_CNT_CNT : Fld := ⟨Reg.FE_RETIRED_CNT, 0, 15⟩
abbrev FE_CH_RETIRED (i : Nat) : Fld := ⟨Reg.FE_CH i, 18, 1⟩
abbrev FE_CH_LEAK_SAT (i : Nat) : Fld := ⟨Reg.FE_CH i, 17, 1⟩
abbrev FE_CH_TRIM_SAT (i : Nat) : Fld := ⟨Reg.FE_CH i, 16, 1⟩
abbrev FE_CH_FACT_TRIM (i : Nat) : Fld := ⟨Reg.FE_CH i, 10, 6⟩
abbrev FE_CH_USER_TRIM (i : Nat) : Fld := ⟨Reg.FE_CH i, 4, 6⟩
abbrev FE_CH_INJ_EN (i : Nat) : Fld := ⟨Reg.FE_CH i, 2, 1⟩
abbrev FE_CH_PD (i : Nat) : Fld := ⟨Reg.FE_CH i, 1, 1⟩
abbrev FE_CH_MASK (i : Nat) : Fld := ⟨Reg.FE_CH i, 0, 1⟩
abbrev VTDC_CTRL_NARROW_MIN : Fld := ⟨Reg.VTDC_CTRL, 20, 4⟩
abbrev VTDC_CTRL_CAL_MAX_AGE : Fld := ⟨Reg.VTDC_CTRL, 0, 16⟩
abbrev VTDC_CAL_INL_LIMIT : Fld := ⟨Reg.VTDC_CAL, 24, 8⟩
abbrev VTDC_CAL_INTERVAL : Fld := ⟨Reg.VTDC_CAL, 0, 16⟩
abbrev VTDC_STATUS_BULK_DONE : Fld := ⟨Reg.VTDC_STATUS, 2, 1⟩
abbrev VTDC_STATUS_BULK_ACTIVE : Fld := ⟨Reg.VTDC_STATUS, 1, 1⟩
abbrev VTDC_STATUS_CAL_BAD : Fld := ⟨Reg.VTDC_STATUS, 0, 1⟩
abbrev VTDC_FUSE_OFS : Fld := ⟨Reg.VTDC_FUSE, 16, 16⟩
abbrev VTDC_FUSE_BIN : Fld := ⟨Reg.VTDC_FUSE, 0, 16⟩
abbrev VTDC_CAL_QUAL_QUAL : Fld := ⟨Reg.VTDC_CAL_QUAL, 0, 8⟩
abbrev VTDC_NOPAIR_CH_CH : Fld := ⟨Reg.VTDC_NOPAIR_CH, 0, 15⟩
abbrev VTDC_PSEL_CH : Fld := ⟨Reg.VTDC_PSEL, 0, 14⟩
abbrev VTDC_PA_CAL_OFS : Fld := ⟨Reg.VTDC_PA_CAL, 16, 16⟩
abbrev VTDC_PA_CAL_BIN : Fld := ⟨Reg.VTDC_PA_CAL, 0, 16⟩
abbrev VTDC_PB_CAL_OFS : Fld := ⟨Reg.VTDC_PB_CAL, 16, 16⟩
abbrev VTDC_PB_CAL_BIN : Fld := ⟨Reg.VTDC_PB_CAL, 0, 16⟩
abbrev VTDC_P_AGE_AGE_B : Fld := ⟨Reg.VTDC_P_AGE, 16, 16⟩
abbrev VTDC_P_AGE_AGE_A : Fld := ⟨Reg.VTDC_P_AGE, 0, 16⟩
abbrev VTDC_P_STAT_RET_B : Fld := ⟨Reg.VTDC_P_STAT, 31, 1⟩
abbrev VTDC_P_STAT_RET_A : Fld := ⟨Reg.VTDC_P_STAT, 30, 1⟩
abbrev VTDC_P_STAT_NOCAL_B : Fld := ⟨Reg.VTDC_P_STAT, 29, 1⟩
abbrev VTDC_P_STAT_NOCAL_A : Fld := ⟨Reg.VTDC_P_STAT, 28, 1⟩
abbrev VTDC_P_STAT_TRIM_B : Fld := ⟨Reg.VTDC_P_STAT, 21, 5⟩
abbrev VTDC_P_STAT_TRIM_A : Fld := ⟨Reg.VTDC_P_STAT, 16, 5⟩
abbrev VTDC_P_STAT_INL_B : Fld := ⟨Reg.VTDC_P_STAT, 8, 8⟩
abbrev VTDC_P_STAT_INL_A : Fld := ⟨Reg.VTDC_P_STAT, 0, 8⟩
abbrev TIU_IN_EN (i : Nat) : Fld := ⟨Reg.TIU_IN i, 31, 1⟩
abbrev TIU_IN_EDGE (i : Nat) : Fld := ⟨Reg.TIU_IN i, 30, 1⟩
abbrev TIU_IN_HYST (i : Nat) : Fld := ⟨Reg.TIU_IN i, 24, 3⟩
abbrev TIU_IN_HOLDOFF (i : Nat) : Fld := ⟨Reg.TIU_IN i, 0, 16⟩
abbrev TIU_MEAS_START_SRC : Fld := ⟨Reg.TIU_MEAS, 25, 3⟩
abbrev TIU_MEAS_STOP_SRC : Fld := ⟨Reg.TIU_MEAS, 22, 3⟩
abbrev TIU_MEAS_N : Fld := ⟨Reg.TIU_MEAS, 0, 21⟩
abbrev TIU_TMO_LOOKBACK : Fld := ⟨Reg.TIU_TMO, 24, 8⟩
abbrev TIU_TMO_TIMEOUT : Fld := ⟨Reg.TIU_TMO, 0, 24⟩
abbrev TIU_CMD_ABORT : Fld := ⟨Reg.TIU_CMD, 1, 1⟩
abbrev TIU_CMD_START : Fld := ⟨Reg.TIU_CMD, 0, 1⟩
abbrev TIU_STATUS_GAP : Fld := ⟨Reg.TIU_STATUS, 2, 1⟩
abbrev TIU_STATUS_DONE : Fld := ⟨Reg.TIU_STATUS, 1, 1⟩
abbrev TIU_STATUS_BUSY : Fld := ⟨Reg.TIU_STATUS, 0, 1⟩
abbrev TIU_COUNT_COUNT : Fld := ⟨Reg.TIU_COUNT, 0, 21⟩
abbrev TILE_LAT_DEPTH : Fld := ⟨Reg.TILE_LAT, 0, 11⟩
abbrev TILE_STATUS_POISON : Fld := ⟨Reg.TILE_STATUS, 2, 1⟩
abbrev TILE_STATUS_OVF : Fld := ⟨Reg.TILE_STATUS, 1, 1⟩
abbrev TILE_STATUS_DEPTH_CLAMPED : Fld := ⟨Reg.TILE_STATUS, 0, 1⟩
abbrev TILE_CMD_CLR_MAX : Fld := ⟨Reg.TILE_CMD, 0, 1⟩
abbrev TILE_RETIRED_CNT_CNT : Fld := ⟨Reg.TILE_RETIRED_CNT, 0, 9⟩
abbrev TILE_T_RETIRED (i : Nat) : Fld := ⟨Reg.TILE_T i, 31, 1⟩
abbrev TILE_T_COL_OUT (i : Nat) : Fld := ⟨Reg.TILE_T i, 30, 1⟩
abbrev TILE_T_OCC_MAX (i : Nat) : Fld := ⟨Reg.TILE_T i, 16, 10⟩
abbrev TILE_T_OCC (i : Nat) : Fld := ⟨Reg.TILE_T i, 0, 10⟩
abbrev FRAG_ASM_TOTAL_TMO : Fld := ⟨Reg.FRAG_ASM, 16, 10⟩
abbrev FRAG_ASM_GRANT_TMO : Fld := ⟨Reg.FRAG_ASM, 0, 8⟩
abbrev FRAG_OPEN_OPEN : Fld := ⟨Reg.FRAG_OPEN, 0, 7⟩
abbrev TRG_MODE_READOUT : Fld := ⟨Reg.TRG_MODE, 0, 2⟩
abbrev TRG_LAT_IN_DELAY : Fld := ⟨Reg.TRG_LAT, 16, 11⟩
abbrev TRG_LAT_DOMAIN : Fld := ⟨Reg.TRG_LAT, 0, 11⟩
abbrev TRG_STATUS_SEQ_GAP : Fld := ⟨Reg.TRG_STATUS, 9, 1⟩
abbrev TRG_STATUS_ACC_LOST : Fld := ⟨Reg.TRG_STATUS, 8, 1⟩
abbrev TRG_STATUS_PRIM_LATE : Fld := ⟨Reg.TRG_STATUS, 7, 1⟩
abbrev TRG_STATUS_LATE : Fld := ⟨Reg.TRG_STATUS, 6, 1⟩
abbrev TRG_STATUS_MT_VIOL : Fld := ⟨Reg.TRG_STATUS, 5, 1⟩
abbrev TRG_STATUS_MT_FROZEN : Fld := ⟨Reg.TRG_STATUS, 4, 1⟩
abbrev TRG_STATUS_WIN_CLAMPED : Fld := ⟨Reg.TRG_STATUS, 3, 1⟩
abbrev TRG_STATUS_SPEC_DEMOTED : Fld := ⟨Reg.TRG_STATUS, 2, 1⟩
abbrev TRG_STATUS_RATE_LIMITED : Fld := ⟨Reg.TRG_STATUS, 1, 1⟩
abbrev TRG_STATUS_BUSY : Fld := ⟨Reg.TRG_STATUS, 0, 1⟩
abbrev TRG_CMD_FORCE : Fld := ⟨Reg.TRG_CMD, 2, 1⟩
abbrev TRG_CMD_EVIDENCE : Fld := ⟨Reg.TRG_CMD, 1, 1⟩
abbrev TRG_CMD_UNFREEZE : Fld := ⟨Reg.TRG_CMD, 0, 1⟩
abbrev TRG_BUSY_BUF_ON : Fld := ⟨Reg.TRG_BUSY, 26, 6⟩
abbrev TRG_BUSY_BUF_OFF : Fld := ⟨Reg.TRG_BUSY, 20, 6⟩
abbrev TRG_BUSY_Q_ON : Fld := ⟨Reg.TRG_BUSY, 10, 10⟩
abbrev TRG_BUSY_Q_OFF : Fld := ⟨Reg.TRG_BUSY, 0, 10⟩
abbrev TRG_RATE_BUSY_TOKENS : Fld := ⟨Reg.TRG_RATE, 4, 4⟩
abbrev TRG_RATE_BURST : Fld := ⟨Reg.TRG_RATE, 0, 4⟩
abbrev TRG_AUTO_EN : Fld := ⟨Reg.TRG_AUTO, 31, 1⟩
abbrev TRG_AUTO_TYPE : Fld := ⟨Reg.TRG_AUTO, 20, 4⟩
abbrev TRG_AUTO_TIMEOUT : Fld := ⟨Reg.TRG_AUTO, 0, 16⟩
abbrev TRG_PRIM_LAT : Fld := ⟨Reg.TRG_PRIM, 8, 8⟩
abbrev TRG_PRIM_HOP : Fld := ⟨Reg.TRG_PRIM, 0, 6⟩
abbrev TRG_SELF_MULT_N : Fld := ⟨Reg.TRG_SELF, 24, 7⟩
abbrev TRG_SELF_ADJ_MASK : Fld := ⟨Reg.TRG_SELF, 16, 8⟩
abbrev TRG_SELF_ADJ_N : Fld := ⟨Reg.TRG_SELF, 12, 4⟩
abbrev TRG_SELF_COINC_DIR : Fld := ⟨Reg.TRG_SELF, 8, 4⟩
abbrev TRG_SELF_COINC_N : Fld := ⟨Reg.TRG_SELF, 4, 4⟩
abbrev TRG_SELF_COINC_W : Fld := ⟨Reg.TRG_SELF, 0, 1⟩
abbrev TRG_SPEC_COND : Fld := ⟨Reg.TRG_SPEC, 24, 3⟩
abbrev TRG_SPEC_PERIOD : Fld := ⟨Reg.TRG_SPEC, 16, 4⟩
abbrev TRG_SPEC_OFS : Fld := ⟨Reg.TRG_SPEC, 12, 4⟩
abbrev TRG_SPEC_LEN : Fld := ⟨Reg.TRG_SPEC, 0, 5⟩
abbrev TRG_SPEC_Q_QUAR : Fld := ⟨Reg.TRG_SPEC_Q, 16, 7⟩
abbrev TRG_SPEC_Q_TTL : Fld := ⟨Reg.TRG_SPEC_Q, 0, 11⟩
abbrev TRG_MTEST_EXP_SRC : Fld := ⟨Reg.TRG_MTEST, 4, 1⟩
abbrev TRG_MTEST_CMP : Fld := ⟨Reg.TRG_MTEST, 0, 2⟩
abbrev TRG_MARGIN_LAST : Fld := ⟨Reg.TRG_MARGIN, 16, 16⟩
abbrev TRG_MARGIN_MIN : Fld := ⟨Reg.TRG_MARGIN, 0, 16⟩
abbrev TRG_EVT_EVT : Fld := ⟨Reg.TRG_EVT, 0, 32⟩
abbrev TRG_QUEUE_QUEUE : Fld := ⟨Reg.TRG_QUEUE, 0, 11⟩
abbrev TRG_SELF_EN_EN (i : Nat) : Fld := ⟨Reg.TRG_SELF_EN i, 0, 32⟩
abbrev TRG_MT_POS_NVIOL : Fld := ⟨Reg.TRG_MT_POS, 23, 9⟩
abbrev TRG_MT_POS_TILE : Fld := ⟨Reg.TRG_MT_POS, 14, 8⟩
abbrev TRG_MT_POS_SLOT : Fld := ⟨Reg.TRG_MT_POS, 0, 14⟩
abbrev TRG_TYPE_SRC (i : Nat) : Fld := ⟨Reg.TRG_TYPE i, 16, 4⟩
abbrev TRG_TYPE_OFS (i : Nat) : Fld := ⟨Reg.TRG_TYPE i, 8, 4⟩
abbrev TRG_TYPE_LEN (i : Nat) : Fld := ⟨Reg.TRG_TYPE i, 0, 5⟩
abbrev TALLY_CTRL_HBINS : Fld := ⟨Reg.TALLY_CTRL, 9, 1⟩
abbrev TALLY_CTRL_HIST_KIND : Fld := ⟨Reg.TALLY_CTRL, 8, 1⟩
abbrev TALLY_CTRL_SUM_EN : Fld := ⟨Reg.TALLY_CTRL, 7, 1⟩
abbrev TALLY_CTRL_OCC_EN : Fld := ⟨Reg.TALLY_CTRL, 6, 1⟩
abbrev TALLY_CTRL_HIST_EN : Fld := ⟨Reg.TALLY_CTRL, 5, 1⟩
abbrev TALLY_CTRL_CNT_EN : Fld := ⟨Reg.TALLY_CTRL, 4, 1⟩
abbrev TALLY_CTRL_SOURCE : Fld := ⟨Reg.TALLY_CTRL, 0, 2⟩
abbrev TALLY_HIST_LO : Fld := ⟨Reg.TALLY_HIST, 16, 16⟩
abbrev TALLY_HIST_SHIFT : Fld := ⟨Reg.TALLY_HIST, 0, 3⟩
abbrev TALLY_SAMP_K : Fld := ⟨Reg.TALLY_SAMP, 16, 3⟩
abbrev TALLY_SAMP_K_MAX : Fld := ⟨Reg.TALLY_SAMP, 8, 3⟩
abbrev TALLY_SAMP_K_MIN : Fld := ⟨Reg.TALLY_SAMP, 0, 3⟩
abbrev TALLY_DUMP_GO : Fld := ⟨Reg.TALLY_DUMP, 31, 1⟩
abbrev TALLY_DUMP_KEEP : Fld := ⟨Reg.TALLY_DUMP, 4, 1⟩
abbrev TALLY_DUMP_SEL : Fld := ⟨Reg.TALLY_DUMP, 0, 4⟩
abbrev TALLY_STATUS_DUMP_SKIP : Fld := ⟨Reg.TALLY_STATUS, 2, 1⟩
abbrev TALLY_STATUS_INEXACT : Fld := ⟨Reg.TALLY_STATUS, 1, 1⟩
abbrev TALLY_STATUS_DUMP_ACTIVE : Fld := ⟨Reg.TALLY_STATUS, 0, 1⟩
abbrev VAULT_SCRUB_PERIOD_LOG2 : Fld := ⟨Reg.VAULT_SCRUB, 0, 5⟩
abbrev VAULT_STATUS_LODE_POISON : Fld := ⟨Reg.VAULT_STATUS, 5, 1⟩
abbrev VAULT_STATUS_REPAIR_ACTIVE : Fld := ⟨Reg.VAULT_STATUS, 4, 1⟩
abbrev VAULT_STATUS_NO_SPARE : Fld := ⟨Reg.VAULT_STATUS, 3, 1⟩
abbrev VAULT_STATUS_STICKY : Fld := ⟨Reg.VAULT_STATUS, 2, 1⟩
abbrev VAULT_STATUS_UE : Fld := ⟨Reg.VAULT_STATUS, 1, 1⟩
abbrev VAULT_STATUS_CE : Fld := ⟨Reg.VAULT_STATUS, 0, 1⟩
abbrev VAULT_CMD_REPAIR : Fld := ⟨Reg.VAULT_CMD, 31, 1⟩
abbrev VAULT_CMD_ROW : Fld := ⟨Reg.VAULT_CMD, 4, 11⟩
abbrev VAULT_CMD_BANK : Fld := ⟨Reg.VAULT_CMD, 0, 4⟩
abbrev VAULT_ERR_ADDR_TYPE : Fld := ⟨Reg.VAULT_ERR_ADDR, 30, 2⟩
abbrev VAULT_ERR_ADDR_WORD : Fld := ⟨Reg.VAULT_ERR_ADDR, 0, 22⟩
abbrev VAULT_ERR_SYN_SYN : Fld := ⟨Reg.VAULT_ERR_SYN, 0, 8⟩
abbrev VAULT_SCRUB_PTR_PTR : Fld := ⟨Reg.VAULT_SCRUB_PTR, 0, 22⟩
abbrev VAULT_LAST_PASS_CORRECTED : Fld := ⟨Reg.VAULT_LAST_PASS, 16, 16⟩
abbrev VAULT_LAST_PASS_POISONED : Fld := ⟨Reg.VAULT_LAST_PASS, 0, 16⟩
abbrev VAULT_REPAIR_Q_ROWS : Fld := ⟨Reg.VAULT_REPAIR_Q, 0, 4⟩
abbrev VAULT_SPARE_FACTORY (i : Nat) : Fld := ⟨Reg.VAULT_SPARE i, 8, 6⟩
abbrev VAULT_SPARE_LEFT (i : Nat) : Fld := ⟨Reg.VAULT_SPARE i, 0, 6⟩
abbrev VAULT_REPAIR_LOG_VALID (i : Nat) : Fld := ⟨Reg.VAULT_REPAIR_LOG i, 31, 1⟩
abbrev VAULT_REPAIR_LOG_SOFT (i : Nat) : Fld := ⟨Reg.VAULT_REPAIR_LOG i, 30, 1⟩
abbrev VAULT_REPAIR_LOG_ROW (i : Nat) : Fld := ⟨Reg.VAULT_REPAIR_LOG i, 0, 11⟩
abbrev ARB_CFG_CONF_CLASS (i : Nat) : Fld := ⟨Reg.ARB_CFG i, 28, 2⟩
abbrev ARB_CFG_QUOTA3 (i : Nat) : Fld := ⟨Reg.ARB_CFG i, 20, 8⟩
abbrev ARB_CFG_QUOTA2 (i : Nat) : Fld := ⟨Reg.ARB_CFG i, 12, 8⟩
abbrev ARB_CFG_WINDOW (i : Nat) : Fld := ⟨Reg.ARB_CFG i, 0, 12⟩
abbrev ARB_STATUS_HELD (i : Nat) : Fld := ⟨Reg.ARB_STATUS i, 31, 1⟩
abbrev ARB_STATUS_PARKED (i : Nat) : Fld := ⟨Reg.ARB_STATUS i, 30, 1⟩
abbrev ARB_STATUS_GCLASS (i : Nat) : Fld := ⟨Reg.ARB_STATUS i, 28, 2⟩
abbrev ARB_STATUS_OWNER (i : Nat) : Fld := ⟨Reg.ARB_STATUS i, 16, 7⟩
abbrev ARB_STATUS_PROGRESS (i : Nat) : Fld := ⟨Reg.ARB_STATUS i, 0, 16⟩
abbrev CANARY_LIMIT_LIMIT (i : Nat) : Fld := ⟨Reg.CANARY_LIMIT i, 0, 16⟩
abbrev CANARY_LAST_LAST (i : Nat) : Fld := ⟨Reg.CANARY_LAST i, 0, 7⟩
abbrev CANARY_STATUS_BITE (i : Nat) : Fld := ⟨Reg.CANARY_STATUS i, 0, 1⟩
abbrev FACET_CTRL_FIXED : Fld := ⟨Reg.FACET_CTRL, 10, 1⟩
abbrev FACET_CTRL_TABLE : Fld := ⟨Reg.FACET_CTRL, 8, 2⟩
abbrev FACET_CTRL_ENABLE : Fld := ⟨Reg.FACET_CTRL, 0, 6⟩
abbrev FACET_STATUS_TSEL_LAST : Fld := ⟨Reg.FACET_STATUS, 8, 2⟩
abbrev FACET_STATUS_FORMAT_ERR : Fld := ⟨Reg.FACET_STATUS, 1, 1⟩
abbrev FACET_STATUS_BADCHECK : Fld := ⟨Reg.FACET_STATUS, 0, 1⟩
abbrev LANE_CTRL_RX_FOLLOW (i : Nat) : Fld := ⟨Reg.LANE_CTRL i, 8, 1⟩
abbrev LANE_CTRL_PRBS (i : Nat) : Fld := ⟨Reg.LANE_CTRL i, 4, 2⟩
abbrev LANE_CTRL_LOOP (i : Nat) : Fld := ⟨Reg.LANE_CTRL i, 0, 2⟩
abbrev LANE_STATUS_LOOP_REFUSED (i : Nat) : Fld := ⟨Reg.LANE_STATUS i, 12, 1⟩
abbrev LANE_STATUS_RETRAIN (i : Nat) : Fld := ⟨Reg.LANE_STATUS i, 11, 1⟩
abbrev LANE_STATUS_LOCK_LOST (i : Nat) : Fld := ⟨Reg.LANE_STATUS i, 10, 1⟩
abbrev LANE_STATUS_NO_SIGNAL (i : Nat) : Fld := ⟨Reg.LANE_STATUS i, 9, 1⟩
abbrev LANE_STATUS_RETIRED (i : Nat) : Fld := ⟨Reg.LANE_STATUS i, 8, 1⟩
abbrev LANE_STATUS_RX_AWAKE (i : Nat) : Fld := ⟨Reg.LANE_STATUS i, 7, 1⟩
abbrev LANE_STATUS_TX_AWAKE (i : Nat) : Fld := ⟨Reg.LANE_STATUS i, 6, 1⟩
abbrev LANE_STATUS_ADAPT (i : Nat) : Fld := ⟨Reg.LANE_STATUS i, 4, 2⟩
abbrev LANE_STATUS_LOCK (i : Nat) : Fld := ⟨Reg.LANE_STATUS i, 0, 1⟩
abbrev LANE_EQ_EYE_MIN (i : Nat) : Fld := ⟨Reg.LANE_EQ i, 0, 7⟩
abbrev LANE_EYE_HEIGHT (i : Nat) : Fld := ⟨Reg.LANE_EYE i, 16, 8⟩
abbrev LANE_EYE_WIDTH (i : Nat) : Fld := ⟨Reg.LANE_EYE i, 0, 7⟩
abbrev LANE_CAL_QUAL_QUAL (i : Nat) : Fld := ⟨Reg.LANE_CAL_QUAL i, 0, 7⟩
abbrev LANE_FUSE_ASYM_ASYM (i : Nat) : Fld := ⟨Reg.LANE_FUSE_ASYM i, 0, 16⟩
abbrev PORT_CFG_TYPE (i : Nat) : Fld := ⟨Reg.PORT_CFG i, 30, 2⟩
abbrev PORT_CFG_LOOP_ALLOW (i : Nat) : Fld := ⟨Reg.PORT_CFG i, 29, 1⟩
abbrev PORT_CFG_LANES (i : Nat) : Fld := ⟨Reg.PORT_CFG i, 0, 16⟩
abbrev PORT_RATE_D (i : Nat) : Fld := ⟨Reg.PORT_RATE i, 12, 8⟩
abbrev PORT_RATE_N (i : Nat) : Fld := ⟨Reg.PORT_RATE i, 0, 12⟩
abbrev PORT_VER_MAX_RATE (i : Nat) : Fld := ⟨Reg.PORT_VER i, 8, 8⟩
abbrev PORT_VER_MAX (i : Nat) : Fld := ⟨Reg.PORT_VER i, 0, 4⟩
abbrev PORT_STATUS_ROLE_FAULT (i : Nat) : Fld := ⟨Reg.PORT_STATUS i, 18, 1⟩
abbrev PORT_STATUS_TLANE_CHANGED (i : Nat) : Fld := ⟨Reg.PORT_STATUS i, 17, 1⟩
abbrev PORT_STATUS_LANE_CONFLICT (i : Nat) : Fld := ⟨Reg.PORT_STATUS i, 16, 1⟩
abbrev PORT_STATUS_RATE_FAULT (i : Nat) : Fld := ⟨Reg.PORT_STATUS i, 15, 1⟩
abbrev PORT_STATUS_AUTH_MISMATCH (i : Nat) : Fld := ⟨Reg.PORT_STATUS i, 14, 1⟩
abbrev PORT_STATUS_TLANE (i : Nat) : Fld := ⟨Reg.PORT_STATUS i, 8, 4⟩
abbrev PORT_STATUS_WIDTH (i : Nat) : Fld := ⟨Reg.PORT_STATUS i, 6, 2⟩
abbrev PORT_STATUS_VERSION (i : Nat) : Fld := ⟨Reg.PORT_STATUS i, 4, 2⟩
abbrev PORT_STATUS_STATE (i : Nat) : Fld := ⟨Reg.PORT_STATUS i, 0, 3⟩
abbrev PORT_PARTNER_BENCH (i : Nat) : Fld := ⟨Reg.PORT_PARTNER i, 31, 1⟩
abbrev PORT_PARTNER_ROLE (i : Nat) : Fld := ⟨Reg.PORT_PARTNER i, 28, 2⟩
abbrev PORT_PARTNER_DIE (i : Nat) : Fld := ⟨Reg.PORT_PARTNER i, 0, 10⟩
abbrev PORT_WIDTH_TX_AWAKE (i : Nat) : Fld := ⟨Reg.PORT_WIDTH i, 0, 4⟩
abbrev PORT_CREDIT_VC2 (i : Nat) : Fld := ⟨Reg.PORT_CREDIT i, 0, 16⟩
abbrev PORT_REPLAY_LIMIT (i : Nat) : Fld := ⟨Reg.PORT_REPLAY i, 16, 4⟩
abbrev PORT_REPLAY_TMO (i : Nat) : Fld := ⟨Reg.PORT_REPLAY i, 0, 16⟩
abbrev TREE_ID_NUMBERED : Fld := ⟨Reg.TREE_ID, 31, 1⟩
abbrev TREE_ID_LEVEL : Fld := ⟨Reg.TREE_ID, 16, 3⟩
abbrev TREE_ID_DIE : Fld := ⟨Reg.TREE_ID, 0, 10⟩
abbrev TREE_RANGE_COUNT : Fld := ⟨Reg.TREE_RANGE, 16, 11⟩
abbrev TREE_RANGE_BASE : Fld := ⟨Reg.TREE_RANGE, 0, 10⟩
abbrev TREE_CTRL_WIT_SLOT : Fld := ⟨Reg.TREE_CTRL, 16, 14⟩
abbrev TREE_CTRL_DISCOVER : Fld := ⟨Reg.TREE_CTRL, 0, 1⟩
abbrev TREE_STATUS_REFUSE_REASON : Fld := ⟨Reg.TREE_STATUS, 10, 3⟩
abbrev TREE_STATUS_REFUSED : Fld := ⟨Reg.TREE_STATUS, 9, 1⟩
abbrev TREE_STATUS_REHOMED : Fld := ⟨Reg.TREE_STATUS, 8, 1⟩
abbrev TREE_STATUS_DUP : Fld := ⟨Reg.TREE_STATUS, 7, 1⟩
abbrev TREE_STATUS_ALT_WARM : Fld := ⟨Reg.TREE_STATUS, 6, 1⟩
abbrev TREE_STATUS_USE : Fld := ⟨Reg.TREE_STATUS, 4, 2⟩
abbrev TREE_STATUS_PATHV : Fld := ⟨Reg.TREE_STATUS, 0, 2⟩
abbrev TREE_CMD_REHOME : Fld := ⟨Reg.TREE_CMD, 0, 1⟩
abbrev TREE_ALT_ASYM : Fld := ⟨Reg.TREE_ALT, 0, 16⟩
abbrev TREE_ROUTE_DRIFT (i : Nat) : Fld := ⟨Reg.TREE_ROUTE i, 0, 4⟩
abbrev CLASP_CTRL_ALERT_RING : Fld := ⟨Reg.CLASP_CTRL, 16, 13⟩
abbrev CLASP_CTRL_ENABLE : Fld := ⟨Reg.CLASP_CTRL, 0, 1⟩
abbrev CLASP_STATUS_CLASP_ID : Fld := ⟨Reg.CLASP_STATUS, 16, 1⟩
abbrev CLASP_STATUS_MISMATCH : Fld := ⟨Reg.CLASP_STATUS, 13, 1⟩
abbrev CLASP_STATUS_LINK_LOST : Fld := ⟨Reg.CLASP_STATUS, 12, 1⟩
abbrev CLASP_STATUS_COLD : Fld := ⟨Reg.CLASP_STATUS, 11, 1⟩
abbrev CLASP_STATUS_FAULTED : Fld := ⟨Reg.CLASP_STATUS, 10, 1⟩
abbrev CLASP_STATUS_ALONE : Fld := ⟨Reg.CLASP_STATUS, 9, 1⟩
abbrev CLASP_STATUS_PAIR_FAIL : Fld := ⟨Reg.CLASP_STATUS, 4, 3⟩
abbrev CLASP_STATUS_STATE : Fld := ⟨Reg.CLASP_STATUS, 0, 4⟩
abbrev CLASP_CMP_HOLD : Fld := ⟨Reg.CLASP_CMP, 16, 4⟩
abbrev CLASP_CMP_TMO : Fld := ⟨Reg.CLASP_CMP, 0, 8⟩
abbrev CLASP_WIT_DEADLINE : Fld := ⟨Reg.CLASP_WIT, 0, 14⟩
abbrev CLASP_SYNC_CHUNKS : Fld := ⟨Reg.CLASP_SYNC, 0, 6⟩
abbrev CLASP_PEER_CLASP_ID : Fld := ⟨Reg.CLASP_PEER, 16, 1⟩
abbrev CLASP_PEER_DIE : Fld := ⟨Reg.CLASP_PEER, 0, 10⟩
abbrev CLASP_WIT_STATUS_W : Fld := ⟨Reg.CLASP_WIT_STATUS, 16, 10⟩
abbrev CLASP_WIT_STATUS_SILENT : Fld := ⟨Reg.CLASP_WIT_STATUS, 0, 10⟩
abbrev CLASP_CMD_PROMOTE : Fld := ⟨Reg.CLASP_CMD, 0, 1⟩
abbrev HIF_STATUS_WIDTH : Fld := ⟨Reg.HIF_STATUS, 8, 4⟩
abbrev HIF_STATUS_RATE : Fld := ⟨Reg.HIF_STATUS, 5, 3⟩
abbrev HIF_STATUS_PTM_EN : Fld := ⟨Reg.HIF_STATUS, 4, 1⟩
abbrev HIF_STATUS_LINK_UP : Fld := ⟨Reg.HIF_STATUS, 0, 1⟩
abbrev HIF_FEAT_CMD_COMMIT : Fld := ⟨Reg.HIF_FEAT_CMD, 0, 1⟩
abbrev HIF_FEAT_STATUS_STATE : Fld := ⟨Reg.HIF_FEAT_STATUS, 16, 2⟩
abbrev HIF_FEAT_STATUS_REASON : Fld := ⟨Reg.HIF_FEAT_STATUS, 8, 2⟩
abbrev HIF_FEAT_STATUS_BIT : Fld := ⟨Reg.HIF_FEAT_STATUS, 0, 7⟩
abbrev HIF_DB_POLL_POLL : Fld := ⟨Reg.HIF_DB_POLL, 0, 16⟩
abbrev HIF_NUDGE_BLOCK : Fld := ⟨Reg.HIF_NUDGE, 0, 7⟩
abbrev HIF_CMD_TMO_TMO : Fld := ⟨Reg.HIF_CMD_TMO, 0, 16⟩
abbrev HIF_DROP_TMO_TMO : Fld := ⟨Reg.HIF_DROP_TMO, 0, 16⟩
abbrev HIF_TPRIM_EN : Fld := ⟨Reg.HIF_TPRIM, 0, 1⟩
abbrev HIF_LAST_REJECT_STATUS : Fld := ⟨Reg.HIF_LAST_REJECT, 24, 8⟩
abbrev HIF_LAST_REJECT_DETAIL : Fld := ⟨Reg.HIF_LAST_REJECT, 0, 24⟩
abbrev HIF_COAL_TIME (i : Nat) : Fld := ⟨Reg.HIF_COAL i, 16, 16⟩
abbrev HIF_COAL_COUNT (i : Nat) : Fld := ⟨Reg.HIF_COAL i, 0, 16⟩
abbrev RING_DEF_VALID (i : Nat) : Fld := ⟨Reg.RING_DEF i, 15, 1⟩
abbrev RING_CFG_EN (i : Nat) : Fld := ⟨Reg.RING_CFG i, 31, 1⟩
abbrev RING_CFG_TYPE (i : Nat) : Fld := ⟨Reg.RING_CFG i, 29, 2⟩
abbrev RING_CFG_SIZE_LOG2 (i : Nat) : Fld := ⟨Reg.RING_CFG i, 24, 5⟩
abbrev RING_CFG_VECTOR (i : Nat) : Fld := ⟨Reg.RING_CFG i, 12, 11⟩
abbrev RING_CFG_NOINT (i : Nat) : Fld := ⟨Reg.RING_CFG i, 3, 1⟩
abbrev RING_CFG_TAGS (i : Nat) : Fld := ⟨Reg.RING_CFG i, 2, 1⟩
abbrev RING_CFG_DROP (i : Nat) : Fld := ⟨Reg.RING_CFG i, 1, 1⟩
abbrev RING_CFG_DECOMP (i : Nat) : Fld := ⟨Reg.RING_CFG i, 0, 1⟩
abbrev RING_STATUS_WAITING (i : Nat) : Fld := ⟨Reg.RING_STATUS i, 2, 1⟩
abbrev RING_STATUS_FETCH_ERR (i : Nat) : Fld := ⟨Reg.RING_STATUS i, 1, 1⟩
abbrev RING_STATUS_DB_ERR (i : Nat) : Fld := ⟨Reg.RING_STATUS i, 0, 1⟩
abbrev RING_MAP_VALID (i : Nat) : Fld := ⟨Reg.RING_MAP i, 15, 1⟩
abbrev HALL_STATUS_E2E_UP : Fld := ⟨Reg.HALL_STATUS, 10, 1⟩
abbrev HALL_STATUS_DIGEST_VALID : Fld := ⟨Reg.HALL_STATUS, 9, 1⟩
abbrev HALL_STATUS_CAP_BUSY : Fld := ⟨Reg.HALL_STATUS, 8, 1⟩
abbrev HALL_STATUS_BOOT_SAT : Fld := ⟨Reg.HALL_STATUS, 7, 1⟩
abbrev HALL_STATUS_OPEN : Fld := ⟨Reg.HALL_STATUS, 6, 1⟩
abbrev HALL_STATUS_E2E_FAIL : Fld := ⟨Reg.HALL_STATUS, 5, 1⟩
abbrev HALL_STATUS_TAG_FAIL : Fld := ⟨Reg.HALL_STATUS, 4, 1⟩
abbrev HALL_STATUS_AUTH_FAIL : Fld := ⟨Reg.HALL_STATUS, 3, 1⟩
abbrev HALL_STATUS_CAP_FAIL : Fld := ⟨Reg.HALL_STATUS, 2, 1⟩
abbrev HALL_STATUS_CLAIM_BROKEN : Fld := ⟨Reg.HALL_STATUS, 1, 1⟩
abbrev HALL_STATUS_CLAIMED : Fld := ⟨Reg.HALL_STATUS, 0, 1⟩
abbrev HALL_AUTH_MODE : Fld := ⟨Reg.HALL_AUTH, 0, 2⟩
abbrev HALL_POLICY_REKEY_LOG2 : Fld := ⟨Reg.HALL_POLICY, 24, 5⟩
abbrev HALL_POLICY_FAIL_LIMIT : Fld := ⟨Reg.HALL_POLICY, 8, 8⟩
abbrev HALL_POLICY_MIN_AUTH : Fld := ⟨Reg.HALL_POLICY, 0, 2⟩
abbrev HALL_LOCK_POLICY : Fld := ⟨Reg.HALL_LOCK, 2, 1⟩
abbrev HALL_LOCK_LODE : Fld := ⟨Reg.HALL_LOCK, 1, 1⟩
abbrev HALL_LOCK_CLASP : Fld := ⟨Reg.HALL_LOCK, 0, 1⟩
abbrev HALL_CMD_REKEY : Fld := ⟨Reg.HALL_CMD, 0, 1⟩
abbrev HALL_BOOT_BOOT : Fld := ⟨Reg.HALL_BOOT, 0, 14⟩
abbrev HALL_PORT_SAFE_SAFE : Fld := ⟨Reg.HALL_PORT_SAFE, 0, 16⟩
abbrev HALL_PORT_PHASE (i : Nat) : Fld := ⟨Reg.HALL_PORT i, 16, 1⟩
abbrev HALL_PORT_LEVEL (i : Nat) : Fld := ⟨Reg.HALL_PORT i, 8, 8⟩
abbrev HALL_PORT_SESSION (i : Nat) : Fld := ⟨Reg.HALL_PORT i, 0, 3⟩
abbrev MON_CTRL_MODE : Fld := ⟨Reg.MON_CTRL, 0, 2⟩
abbrev MON_STATUS_REC_DROP : Fld := ⟨Reg.MON_STATUS, 6, 1⟩
abbrev MON_STATUS_PWL_BAD : Fld := ⟨Reg.MON_STATUS, 5, 1⟩
abbrev MON_STATUS_OPEN : Fld := ⟨Reg.MON_STATUS, 4, 1⟩
abbrev MON_STATUS_OVR : Fld := ⟨Reg.MON_STATUS, 3, 1⟩
abbrev MON_STATUS_INJ_DONE : Fld := ⟨Reg.MON_STATUS, 2, 1⟩
abbrev MON_STATUS_INJ_PENDING : Fld := ⟨Reg.MON_STATUS, 1, 1⟩
abbrev MON_STATUS_RATE_CAPPED : Fld := ⟨Reg.MON_STATUS, 0, 1⟩
abbrev MON_ISRC_EXC_NOW : Fld := ⟨Reg.MON_ISRC, 31, 1⟩
abbrev MON_ISRC_IB : Fld := ⟨Reg.MON_ISRC, 8, 3⟩
abbrev MON_ISRC_IA : Fld := ⟨Reg.MON_ISRC, 0, 3⟩
abbrev MON_SEQ_CTRL_PACE : Fld := ⟨Reg.MON_SEQ_CTRL, 8, 4⟩
abbrev MON_SEQ_CTRL_LEN : Fld := ⟨Reg.MON_SEQ_CTRL, 0, 6⟩
abbrev MON_SEQ_CMD_STOP : Fld := ⟨Reg.MON_SEQ_CMD, 1, 1⟩
abbrev MON_SEQ_CMD_START : Fld := ⟨Reg.MON_SEQ_CMD, 0, 1⟩
abbrev MON_SEQ_STATUS_RUNNING : Fld := ⟨Reg.MON_SEQ_STATUS, 31, 1⟩
abbrev MON_SEQ_STATUS_PAUSED : Fld := ⟨Reg.MON_SEQ_STATUS, 30, 1⟩
abbrev MON_SEQ_STATUS_ENTRY : Fld := ⟨Reg.MON_SEQ_STATUS, 0, 5⟩
abbrev MON_INJ_GO : Fld := ⟨Reg.MON_INJ, 31, 1⟩
abbrev MON_INJ_ODR : Fld := ⟨Reg.MON_INJ, 8, 4⟩
abbrev MON_INJ_INPUT : Fld := ⟨Reg.MON_INJ, 0, 5⟩
abbrev MON_CAL_CMD_GO : Fld := ⟨Reg.MON_CAL_CMD, 31, 1⟩
abbrev MON_CAL_CMD_OP : Fld := ⟨Reg.MON_CAL_CMD, 16, 3⟩
abbrev MON_CAL_CMD_ODR : Fld := ⟨Reg.MON_CAL_CMD, 8, 4⟩
abbrev MON_CAL_CMD_INPUT : Fld := ⟨Reg.MON_CAL_CMD, 0, 5⟩
abbrev MON_CAL_STATUS_REASON : Fld := ⟨Reg.MON_CAL_STATUS, 8, 3⟩
abbrev MON_CAL_STATUS_STATE : Fld := ⟨Reg.MON_CAL_STATUS, 0, 3⟩
abbrev MON_CAL_TARGET_TARGET : Fld := ⟨Reg.MON_CAL_TARGET, 0, 16⟩
abbrev MON_CAL_QUAL_QUAL : Fld := ⟨Reg.MON_CAL_QUAL, 0, 8⟩
abbrev MON_REF_RATIO_CODE : Fld := ⟨Reg.MON_REF_RATIO, 0, 16⟩
abbrev MON_STREAM_CAL_EN : Fld := ⟨Reg.MON_STREAM, 3, 1⟩
abbrev MON_STREAM_SCOPE_EN : Fld := ⟨Reg.MON_STREAM, 2, 1⟩
abbrev MON_STREAM_INJ_EN : Fld := ⟨Reg.MON_STREAM, 1, 1⟩
abbrev MON_STREAM_PASS_EN : Fld := ⟨Reg.MON_STREAM, 0, 1⟩
abbrev MON_IN_OVR_STRIKE (i : Nat) : Fld := ⟨Reg.MON_IN i, 16, 1⟩
abbrev MON_IN_SCALE (i : Nat) : Fld := ⟨Reg.MON_IN i, 8, 5⟩
abbrev MON_IN_PWL_EN (i : Nat) : Fld := ⟨Reg.MON_IN i, 4, 1⟩
abbrev MON_IN_REF (i : Nat) : Fld := ⟨Reg.MON_IN i, 3, 1⟩
abbrev MON_IN_GAIN (i : Nat) : Fld := ⟨Reg.MON_IN i, 0, 3⟩
abbrev MON_EXC_EXC_NOW (i : Nat) : Fld := ⟨Reg.MON_EXC i, 31, 1⟩
abbrev MON_EXC_BURNOUT (i : Nat) : Fld := ⟨Reg.MON_EXC i, 8, 2⟩
abbrev MON_EXC_CHOP (i : Nat) : Fld := ⟨Reg.MON_EXC i, 4, 1⟩
abbrev MON_EXC_SWAP (i : Nat) : Fld := ⟨Reg.MON_EXC i, 2, 1⟩
abbrev MON_EXC_SRC (i : Nat) : Fld := ⟨Reg.MON_EXC i, 0, 2⟩
abbrev MON_USER_OFS_OFS (i : Nat) : Fld := ⟨Reg.MON_USER_OFS i, 0, 24⟩
abbrev MON_USER_GAIN_GAIN (i : Nat) : Fld := ⟨Reg.MON_USER_GAIN i, 0, 24⟩
abbrev MON_IN_STAT_RETIRED (i : Nat) : Fld := ⟨Reg.MON_IN_STAT i, 0, 1⟩
abbrev MON_FACT_OFS_OFS (i : Nat) : Fld := ⟨Reg.MON_FACT_OFS i, 0, 24⟩
abbrev MON_FACT_GAIN_GAIN (i : Nat) : Fld := ⟨Reg.MON_FACT_GAIN i, 0, 24⟩
abbrev MON_DRIFT_OFS_OFS (i : Nat) : Fld := ⟨Reg.MON_DRIFT_OFS i, 0, 24⟩
abbrev MON_SEQ_EN (i : Nat) : Fld := ⟨Reg.MON_SEQ i, 31, 1⟩
abbrev MON_SEQ_INPUT (i : Nat) : Fld := ⟨Reg.MON_SEQ i, 16, 5⟩
abbrev MON_SEQ_ODR (i : Nat) : Fld := ⟨Reg.MON_SEQ i, 8, 4⟩
abbrev MON_SEQ_EVERY (i : Nat) : Fld := ⟨Reg.MON_SEQ i, 0, 4⟩
abbrev MON_SCOPE_MASK_EN : Fld := ⟨Reg.MON_SCOPE, 18, 1⟩
abbrev MON_SCOPE_REPEAT : Fld := ⟨Reg.MON_SCOPE, 17, 1⟩
abbrev MON_SCOPE_DIR : Fld := ⟨Reg.MON_SCOPE, 16, 1⟩
abbrev MON_SCOPE_TRIG : Fld := ⟨Reg.MON_SCOPE, 12, 2⟩
abbrev MON_SCOPE_ODR : Fld := ⟨Reg.MON_SCOPE, 8, 4⟩
abbrev MON_SCOPE_INPUT : Fld := ⟨Reg.MON_SCOPE, 0, 5⟩
abbrev MON_SCOPE_CNT_POST : Fld := ⟨Reg.MON_SCOPE_CNT, 16, 16⟩
abbrev MON_SCOPE_CNT_PRE : Fld := ⟨Reg.MON_SCOPE_CNT, 0, 13⟩
abbrev MON_SCOPE_LEVEL_LEVEL : Fld := ⟨Reg.MON_SCOPE_LEVEL, 16, 16⟩
abbrev MON_SCOPE_LEVEL_DELTA : Fld := ⟨Reg.MON_SCOPE_LEVEL, 0, 16⟩
abbrev MON_SCOPE_AUTO_TMO : Fld := ⟨Reg.MON_SCOPE_AUTO, 0, 24⟩
abbrev MON_SCOPE_CMD_FORCE : Fld := ⟨Reg.MON_SCOPE_CMD, 2, 1⟩
abbrev MON_SCOPE_CMD_ABORT : Fld := ⟨Reg.MON_SCOPE_CMD, 1, 1⟩
abbrev MON_SCOPE_CMD_ARM : Fld := ⟨Reg.MON_SCOPE_CMD, 0, 1⟩
abbrev MON_SCOPE_STATUS_RESTARTED : Fld := ⟨Reg.MON_SCOPE_STATUS, 8, 1⟩
abbrev MON_SCOPE_STATUS_ABORTED : Fld := ⟨Reg.MON_SCOPE_STATUS, 7, 1⟩
abbrev MON_SCOPE_STATUS_MASK_VIOL : Fld := ⟨Reg.MON_SCOPE_STATUS, 6, 1⟩
abbrev MON_SCOPE_STATUS_AUTO : Fld := ⟨Reg.MON_SCOPE_STATUS, 5, 1⟩
abbrev MON_SCOPE_STATUS_PRE_REDUCED : Fld := ⟨Reg.MON_SCOPE_STATUS, 4, 1⟩
abbrev MON_SCOPE_STATUS_POST_CLAMPED : Fld := ⟨Reg.MON_SCOPE_STATUS, 3, 1⟩
abbrev MON_SCOPE_STATUS_DONE : Fld := ⟨Reg.MON_SCOPE_STATUS, 2, 1⟩
abbrev MON_SCOPE_STATUS_TRIGGERED : Fld := ⟨Reg.MON_SCOPE_STATUS, 1, 1⟩
abbrev MON_SCOPE_STATUS_ARMED : Fld := ⟨Reg.MON_SCOPE_STATUS, 0, 1⟩
abbrev MON_SCOPE_VIOL_SAMPLE : Fld := ⟨Reg.MON_SCOPE_VIOL, 16, 16⟩
abbrev MON_SCOPE_VIOL_INDEX : Fld := ⟨Reg.MON_SCOPE_VIOL, 0, 13⟩
abbrev MON_PWL_X (i j : Nat) : Fld := ⟨Reg.MON_PWL i j, 16, 16⟩
abbrev MON_PWL_Y (i j : Nat) : Fld := ⟨Reg.MON_PWL i j, 0, 16⟩
abbrev MON_ENV_UPPER (i : Nat) : Fld := ⟨Reg.MON_ENV i, 16, 16⟩
abbrev MON_ENV_LOWER (i : Nat) : Fld := ⟨Reg.MON_ENV i, 0, 16⟩
abbrev FAULT_BOOT_LOG_KEPT : Fld := ⟨Reg.FAULT_BOOT, 5, 1⟩
abbrev FAULT_BOOT_NOREF : Fld := ⟨Reg.FAULT_BOOT, 4, 1⟩
abbrev FAULT_BOOT_CAUSE : Fld := ⟨Reg.FAULT_BOOT, 0, 2⟩
abbrev FAULT_STATUS_ALERT_DROP : Fld := ⟨Reg.FAULT_STATUS, 9, 1⟩
abbrev FAULT_STATUS_RETIRED : Fld := ⟨Reg.FAULT_STATUS, 8, 1⟩
abbrev FAULT_STATUS_SAFE_CAUSE : Fld := ⟨Reg.FAULT_STATUS, 0, 4⟩
abbrev FAULT_ALERT_MASK_WARN : Fld := ⟨Reg.FAULT_ALERT_MASK, 1, 1⟩
abbrev FAULT_ALERT_MASK_INFO : Fld := ⟨Reg.FAULT_ALERT_MASK, 0, 1⟩
abbrev FAULT_ALERT_SEQ_SEQ : Fld := ⟨Reg.FAULT_ALERT_SEQ, 0, 16⟩
abbrev FAULT_LOG_NEXT_WRAPPED : Fld := ⟨Reg.FAULT_LOG_NEXT, 31, 1⟩
abbrev FAULT_LOG_NEXT_INDEX : Fld := ⟨Reg.FAULT_LOG_NEXT, 0, 8⟩
abbrev FAULT_SEL_TYPE : Fld := ⟨Reg.FAULT_SEL, 28, 4⟩
abbrev FAULT_SEL_INDEX : Fld := ⟨Reg.FAULT_SEL, 0, 16⟩
abbrev FAULT_UNIT_RETIRED : Fld := ⟨Reg.FAULT_UNIT, 31, 1⟩
abbrev FAULT_UNIT_PENDING : Fld := ⟨Reg.FAULT_UNIT, 30, 1⟩
abbrev FAULT_UNIT_COUNT : Fld := ⟨Reg.FAULT_UNIT, 0, 8⟩
abbrev FAULT_START_US (i : Nat) : Fld := ⟨Reg.FAULT_START i, 0, 16⟩
abbrev FAULT_POLICY_LIMIT (i : Nat) : Fld := ⟨Reg.FAULT_POLICY i, 24, 8⟩
abbrev FAULT_POLICY_DECAY (i : Nat) : Fld := ⟨Reg.FAULT_POLICY i, 0, 24⟩
abbrev FAULT_RETIRED_COUNT (i : Nat) : Fld := ⟨Reg.FAULT_RETIRED i, 0, 16⟩
abbrev SYS_STATUS_ROLE : Fld := ⟨Reg.SYS_STATUS, 8, 2⟩
abbrev SYS_STATUS_RUN_STATE : Fld := ⟨Reg.SYS_STATUS, 4, 4⟩
abbrev SYS_STATUS_READY : Fld := ⟨Reg.SYS_STATUS, 0, 1⟩
abbrev SYS_HOLD_LIMIT_LIMIT : Fld := ⟨Reg.SYS_HOLD_LIMIT, 0, 8⟩
abbrev SYS_STRAPS_CLASP_ID : Fld := ⟨Reg.SYS_STRAPS, 2, 1⟩
abbrev SYS_STRAPS_ROLE1 : Fld := ⟨Reg.SYS_STRAPS, 1, 1⟩
abbrev SYS_STRAPS_ROLE0 : Fld := ⟨Reg.SYS_STRAPS, 0, 1⟩

end Sys2Proof.Machine.F

namespace Sys2Proof.Machine

/-- The Assay table: a header and 24 entries of 16 bytes, all read only (R472, R473). -/
def regsAssay : List RegRow :=
  [{ off := 0, n1 := 100, cls := .ro }]

/-- The registers of block SYS. -/
def regsSys : List RegRow :=
  [{ off := 0, cls := .ro, rst := fun _ _ _ => 0x10 },  -- SYS_STATUS
   { off := 4, cls := .live, cnt := true },  -- SYS_REJECT_CNT
   { off := 8, cls := .operating, rw := fun _ _ _ => 0xFF, rst := fun _ _ _ => 0x10 },  -- SYS_HOLD_LIMIT
   { off := 0xC, cls := .live, rw := fun _ _ _ => 0xFFFFFFFF },  -- SYS_SCRATCH
   { off := 0x10, cls := .ro },  -- SYS_STRAPS
   { off := 0x14, cls := .live, cnt := true }]  -- SYS_BADADDR_CNT

/-- The registers of block ORB. -/
def regsOrb : List RegRow :=
  [{ off := 0, cls := .mode, rw := fun _ _ _ => 3 },  -- ORB_CLK
   { off := 4, cls := .mode, rw := fun _ _ _ => 0x3FFF, rst := fun _ _ _ => 0x1000 },  -- ORB_LEN
   { off := 8, cls := .operating, rw := fun _ _ _ => 0xFF, rst := fun _ _ _ => 0x24 },  -- ORB_CTRL
   { off := 0xC, cls := .mode, rw := fun _ _ _ => 0x7F },  -- ORB_CAL_LEN
   { off := 0x10, cls := .live, w1c := 0xFF00 },  -- ORB_STATUS
   { off := 0x14, cls := .ro },  -- ORB_SLOT
   { off := 0x18, cls := .ro },  -- ORB_ORBIT
   { off := 0x1C, cls := .operating, rw := fun _ _ _ => 0xFFFFFFFF },  -- ORB_RUN_ORBIT
   { off := 0x20, cls := .live, cnt := true },  -- ORB_MISS_CNT
   { off := 0x24, cls := .live, cnt := true },  -- ORB_EXTRA_CNT
   { off := 0x28, cls := .ro },  -- ORB_MARK
   { off := 0x40, cls := .operating, rw := fun _ _ _ => 0x8FFF0FFF, rst := fun _ _ _ => 0x1400020 },  -- ORB_PA_CTRL
   { off := 0x44, cls := .ro },  -- ORB_PA_STATUS
   { off := 0x48, cls := .ro },  -- ORB_PA_RTT
   { off := 0x4C, cls := .ro },  -- ORB_PA_OFS
   { off := 0x50, cls := .operating, rw := fun _ _ _ => 0xFFFF },  -- ORB_ASYM
   { off := 0x54, cls := .ro },  -- ORB_PA_CAL_CNT
   { off := 0x58, words := 3, cls := .ro },  -- ORB_PA_CAL_WALL
   { off := 0x64, cls := .ro },  -- ORB_PA_QUAL
   { off := 0x100, n1 := 64, s1 := 4, cls := .operating, rw := fun _ _ _ => 0xFFFFFFFF }]  -- ORB_CAL

/-- The registers of block WALL. -/
def regsWall : List RegRow :=
  [{ off := 0, cls := .ro },  -- WALL_NS
   { off := 4, cls := .ro },  -- WALL_SEC_LO
   { off := 8, cls := .ro },  -- WALL_SEC_HI
   { off := 0xC, cls := .ro },  -- WALL_STAMP32
   { off := 0x10, cls := .operating, rw := fun _ _ _ => 0xFFFFFFFF, rst := fun _ _ _ => 0x58E38E39 },  -- WALL_NOM
   { off := 0x14, cls := .live, rw := fun _ _ _ => 0xFFFFFFFF },  -- WALL_ADJ
   { off := 0x18, cls := .mode, rw := fun _ _ _ => 0xFF03, rst := fun _ _ _ => 0x6400 },  -- WALL_SERVO
   { off := 0x1C, cls := .operating, rw := fun _ _ _ => 0xFFFFFFFF, rst := fun _ _ _ => 0x40000400 },  -- WALL_GAIN
   { off := 0x20, cls := .operating, rw := fun _ _ _ => 0xFFFFFFFF, rst := fun _ _ _ => 0x20C49C },  -- WALL_LIM
   { off := 0x24, cls := .operating, rw := fun _ _ _ => 0xFFFFFFFF, rst := fun _ _ _ => 0x3E8 },  -- WALL_STEP_THR
   { off := 0x28, cls := .ro },  -- WALL_OFFSET
   { off := 0x2C, cls := .live, w1c := 6 },  -- WALL_STATUS
   { off := 0x30, cls := .operating, rw := fun _ _ _ => 0xFFFFFFFF, rst := fun _ _ _ => 0xF4240 },  -- WALL_PPS_WIN
   { off := 0x34, cls := .live, cnt := true },  -- WALL_PPS_REJ_CNT
   { off := 0x38, words := 3, cls := .live, rw := fun _ _ w => if w = 0 then 0xFFFFFFFF else if w = 1 then 0xFFFF else 0x3FFFFFFF },  -- WALL_SET
   { off := 0x44, cls := .live }]  -- WALL_CMD

/-- The registers of block TIU. -/
def regsTiu : List RegRow :=
  [{ off := 0, n1 := 4, s1 := 4, cls := .live, rw := fun _ _ _ => 0xC700FFFF, rst := fun _ _ _ => 0x2000040 },  -- TIU_IN
   { off := 0x10, cls := .live, rw := fun _ _ _ => 0xFDFFFFF, rst := fun _ _ _ => 0x8000001 },  -- TIU_MEAS
   { off := 0x14, cls := .live, rw := fun _ _ _ => 0xFFFFFFFF, rst := fun _ _ _ => 0x1194 },  -- TIU_TMO
   { off := 0x18, cls := .live },  -- TIU_CMD
   { off := 0x1C, cls := .live, w1c := 6 },  -- TIU_STATUS
   { off := 0x20, cls := .ro },  -- TIU_COUNT
   { off := 0x24, words := 2, cls := .ro },  -- TIU_LAST
   { off := 0x2C, words := 2, cls := .ro },  -- TIU_MIN
   { off := 0x34, words := 2, cls := .ro },  -- TIU_MAX
   { off := 0x3C, words := 2, cls := .ro },  -- TIU_MEAN
   { off := 0x44, cls := .ro },  -- TIU_SDEV
   { off := 0x48, cls := .live, cnt := true },  -- TIU_TIMEOUT_CNT
   { off := 0x4C, cls := .live, cnt := true },  -- TIU_LOST_CNT
   { off := 0x50, cls := .live, cnt := true },  -- TIU_EXTRA_CNT
   { off := 0x54, cls := .live, cnt := true }]  -- TIU_STALE_CNT

/-- The registers of block VTDC. -/
def regsVtdc : List RegRow :=
  [{ off := 0, cls := .operating, rw := fun _ _ _ => 0xF0FFFF, rst := fun _ _ _ => 0x401000 },  -- VTDC_CTRL
   { off := 4, cls := .operating, rw := fun _ _ _ => 0xFF00FFFF, rst := fun _ _ _ => 0xC000400 },  -- VTDC_CAL
   { off := 8, cls := .live, w1c := 5 },  -- VTDC_STATUS
   { off := 0xC, cls := .ro },  -- VTDC_FUSE
   { off := 0x10, cls := .ro },  -- VTDC_CAL_CNT
   { off := 0x14, words := 3, cls := .ro },  -- VTDC_CAL_WALL
   { off := 0x20, cls := .ro },  -- VTDC_CAL_QUAL
   { off := 0x24, cls := .ro },  -- VTDC_NOPAIR_CH
   { off := 0x30, cls := .live, cnt := true },  -- VTDC_LOST_CNT
   { off := 0x34, cls := .live, cnt := true },  -- VTDC_STALE_CNT
   { off := 0x38, cls := .live, cnt := true },  -- VTDC_NARROW_CNT
   { off := 0x3C, cls := .live, cnt := true },  -- VTDC_ORDER_CNT
   { off := 0x40, cls := .live, cnt := true },  -- VTDC_TIMEOUT_CNT
   { off := 0x44, cls := .live, cnt := true },  -- VTDC_OVERRUN_CNT
   { off := 0x48, cls := .live, cnt := true },  -- VTDC_CAL_ABORT_CNT
   { off := 0x4C, cls := .live, cnt := true },  -- VTDC_CAL_BAD_CNT
   { off := 0x50, cls := .live, cnt := true },  -- VTDC_BULK_SKIP_CNT
   { off := 0x60, cls := .live, rw := fun _ _ _ => 0x3FFF },  -- VTDC_PSEL
   { off := 0x64, cls := .ro },  -- VTDC_PA_CAL
   { off := 0x68, cls := .ro },  -- VTDC_PB_CAL
   { off := 0x6C, cls := .ro },  -- VTDC_P_AGE
   { off := 0x70, cls := .ro, rst := fun _ _ _ => 0x30000000 }]  -- VTDC_P_STAT

/-- The registers of block TILE. -/
def regsTile : List RegRow :=
  [{ off := 0, cls := .operating, rw := fun _ _ _ => 0x7FF, rst := fun _ _ _ => 0x7FF },  -- TILE_LAT
   { off := 4, cls := .live, w1c := 6 },  -- TILE_STATUS
   { off := 8, cls := .live },  -- TILE_CMD
   { off := 0xC, cls := .ro },  -- TILE_RETIRED_CNT
   { off := 0x10, cls := .live, cnt := true },  -- TILE_DROP_CNT
   { off := 0x14, cls := .live, cnt := true },  -- TILE_POISON_CNT
   { off := 0x18, cls := .live, cnt := true },  -- TILE_POISON_DISCARD_CNT
   { off := 0x1000, n1 := 256, s1 := 4, cls := .ro }]  -- TILE_T

/-- The registers of block TRG. -/
def regsTrg : List RegRow :=
  [{ off := 0, cls := .mode, rw := fun _ _ _ => 3 },  -- TRG_MODE
   { off := 4, cls := .mode, rw := fun _ _ _ => 0x7FF07FF, rst := fun _ _ _ => 0x400 },  -- TRG_LAT
   { off := 8, cls := .live, w1c := 0x3E4 },  -- TRG_STATUS
   { off := 0xC, cls := .live },  -- TRG_CMD
   { off := 0x10, cls := .operating, rw := fun _ _ _ => 0xFFFFFFFF, rst := fun _ _ _ => 0xC2040080 },  -- TRG_BUSY
   { off := 0x14, cls := .operating, rw := fun _ _ _ => 0xFF, rst := fun _ _ _ => 0x28 },  -- TRG_RATE
   { off := 0x18, cls := .operating, rw := fun _ _ _ => 0x80F0FFFF, rst := fun _ _ _ => 0xF01194 },  -- TRG_AUTO
   { off := 0x1C, cls := .mode, rw := fun _ _ _ => 0xFF3F, rst := fun _ _ _ => 0x5010 },  -- TRG_PRIM
   { off := 0x20, cls := .operating, rw := fun _ _ _ => 0x7FFFFFF1, rst := fun _ _ _ => 0x550F00 },  -- TRG_SELF
   { off := 0x24, cls := .operating, rw := fun _ _ _ => 0x70FF01F, rst := fun _ _ _ => 0x1040001 },  -- TRG_SPEC
   { off := 0x28, cls := .operating, rw := fun _ _ _ => 0x7F07FF, rst := fun _ _ _ => 0x100200 },  -- TRG_SPEC_Q
   { off := 0x2C, cls := .operating, rw := fun _ _ _ => 0x13 },  -- TRG_MTEST
   { off := 0x30, cls := .live, rst := fun _ _ _ => 0x7FFF7FFF },  -- TRG_MARGIN
   { off := 0x34, cls := .ro, rst := fun _ _ _ => 0xFFFFFFFF },  -- TRG_EVT
   { off := 0x38, cls := .ro },  -- TRG_QUEUE
   { off := 0x40, n1 := 8, s1 := 4, cls := .operating, rw := fun _ _ _ => 0xFFFFFFFF, rst := fun _ _ _ => 0xFFFFFFFF },  -- TRG_SELF_EN
   { off := 0x60, cls := .ro },  -- TRG_MT_ORBIT
   { off := 0x64, cls := .ro },  -- TRG_MT_POS
   { off := 0x68, words := 2, cls := .ro },  -- TRG_MT_OBS
   { off := 0x70, words := 2, cls := .ro },  -- TRG_MT_EXPV
   { off := 0x80, cls := .live, cnt := true },  -- TRG_ACCEPT_CNT
   { off := 0x84, cls := .live, cnt := true },  -- TRG_IGN_CNT
   { off := 0x88, cls := .live, cnt := true },  -- TRG_LATE_CNT
   { off := 0x8C, cls := .live, cnt := true },  -- TRG_SEQ_GAP_CNT
   { off := 0x90, cls := .live, cnt := true },  -- TRG_ACC_LOST_CNT
   { off := 0x94, cls := .live, cnt := true },  -- TRG_RATE_REJ_CNT
   { off := 0x98, cls := .live, cnt := true },  -- TRG_FORCED_CNT
   { off := 0x9C, cls := .live, cnt := true },  -- TRG_BUSY_SLOTS
   { off := 0xA0, cls := .live, cnt := true },  -- TRG_PRIM_LATE_CNT
   { off := 0xA4, cls := .live, cnt := true },  -- TRG_MT_PASS_CNT
   { off := 0xA8, cls := .live, cnt := true },  -- TRG_FROZEN_DROP_CNT
   { off := 0xB0, cls := .live, cnt := true },  -- TRG_SPEC_SENT
   { off := 0xB4, cls := .live, cnt := true },  -- TRG_SPEC_BYTES
   { off := 0xB8, cls := .live, cnt := true },  -- TRG_SPEC_CONFIRMED
   { off := 0xBC, cls := .live, cnt := true },  -- TRG_SPEC_CANCELLED
   { off := 0xC0, cls := .live, cnt := true },  -- TRG_SPEC_EXPIRED
   { off := 0xC4, cls := .live, cnt := true },  -- TRG_SPEC_NACK_CNT
   { off := 0xC8, cls := .live, cnt := true },  -- TRG_SPEC_SKIP_CNT
   { off := 0x100, n1 := 16, s1 := 4, cls := .operating, rw := fun _ _ _ => 0xF0F1F, rst := fun i _ _ => 1 + (min i 9) * 0x10000 },  -- TRG_TYPE
   { off := 0x400, n1 := 256, s1 := 8, words := 2, cls := .operating, rw := fun _ _ _ => 0xFFFFFFFF }]  -- TRG_EXP

/-- The registers of block VAULT. -/
def regsVault : List RegRow :=
  [{ off := 0, cls := .operating, rw := fun _ _ _ => 0x1F, rst := fun _ _ _ => 0x14 },  -- VAULT_SCRUB
   { off := 4, cls := .live, w1c := 0x2F },  -- VAULT_STATUS
   { off := 8, cls := .live, rw := fun _ _ _ => 0x7FFF },  -- VAULT_CMD
   { off := 0xC, cls := .ro },  -- VAULT_ERR_ADDR
   { off := 0x10, cls := .ro },  -- VAULT_ERR_SYN
   { off := 0x14, cls := .ro },  -- VAULT_SCRUB_PTR
   { off := 0x18, cls := .ro },  -- VAULT_SCRUB_PASS
   { off := 0x1C, cls := .ro },  -- VAULT_LAST_PASS
   { off := 0x20, cls := .ro },  -- VAULT_REPAIR_Q
   { off := 0x30, cls := .live, cnt := true },  -- VAULT_CE_CNT
   { off := 0x34, cls := .live, cnt := true },  -- VAULT_UE_CNT
   { off := 0x38, cls := .live, cnt := true },  -- VAULT_POISON_HIT_CNT
   { off := 0x3C, cls := .live, cnt := true },  -- VAULT_STICKY_CNT
   { off := 0x40, cls := .live, cnt := true },  -- VAULT_REPAIR_CNT
   { off := 0x44, cls := .live, cnt := true },  -- VAULT_LODE_MASKED_CNT
   { off := 0x48, cls := .live, cnt := true },  -- VAULT_LODE_POISON_CNT
   { off := 0x100, n1 := 16, s1 := 4, cls := .ro },  -- VAULT_SPARE
   { off := 0x1000, n1 := 512, s1 := 4, cls := .ro }]  -- VAULT_REPAIR_LOG

/-- The registers of block ARB. -/
def regsArb : List RegRow :=
  [{ off := 0, n1 := 35, s1 := 0x100, cls := .operating, rw := fun _ _ _ => 0x3FFFFFFF, rst := fun i _ _ => 0x10000000 + (arbQuota3Reset i) * 0x100000 + (arbQuota2Reset i) * 0x1000 + (arbWindowReset i) },  -- ARB_CFG
   { off := 4, n1 := 35, s1 := 0x100, cls := .ro },  -- ARB_STATUS
   { off := 8, n1 := 35, s1 := 0x100, cls := .live, cnt := true },  -- ARB_GRANT_CNT
   { off := 0xC, n1 := 35, s1 := 0x100, cls := .live, cnt := true },  -- ARB_PREEMPT_CNT
   { off := 0x10, n1 := 35, s1 := 0x100, cls := .live, cnt := true },  -- ARB_QMASK_CNT
   { off := 0x20, n1 := 35, s1 := 0x100, n2 := 8, s2 := 4, cls := .operating, rw := fun i j _ => arbClassMask i j, rst := fun i j _ => (arbClassReset i j) }]  -- ARB_CLASS

/-- The registers of block CANARY. -/
def regsCanary : List RegRow :=
  [{ off := 0, n1 := 35, s1 := 0x10, cls := .operating, rw := fun _ _ _ => 0xFFFF, rst := fun i _ _ => (canaryLimitReset i) },  -- CANARY_LIMIT
   { off := 4, n1 := 35, s1 := 0x10, cls := .live, cnt := true },  -- CANARY_BITE_CNT
   { off := 8, n1 := 35, s1 := 0x10, cls := .ro },  -- CANARY_LAST
   { off := 0xC, n1 := 35, s1 := 0x10, cls := .live, w1c := 1 }]  -- CANARY_STATUS

/-- The registers of block FRAG. -/
def regsFrag : List RegRow :=
  [{ off := 0x80, cls := .operating, rw := fun _ _ _ => 0x3FF00FF, rst := fun _ _ _ => 0x2000040 },  -- FRAG_ASM
   { off := 0x84, cls := .live, cnt := true },  -- FRAG_MISSING_CNT
   { off := 0x88, cls := .live, cnt := true },  -- FRAG_LATE_CNT
   { off := 0x8C, cls := .ro },  -- FRAG_OPEN
   { off := 0x100, cls := .live, cnt := true },  -- FRAG_RX_ORPHAN_CNT
   { off := 0x104, cls := .live, cnt := true },  -- FRAG_RX_ABORT_CNT
   { off := 0x108, cls := .live, cnt := true },  -- FRAG_ABORT_SENT_CNT
   { off := 0x10C, cls := .live, cnt := true }]  -- FRAG_RX_MALFORMED_CNT

/-- The registers of block FACET. -/
def regsFacet : List RegRow :=
  [{ off := 0, cls := .mode, rw := fun _ _ _ => 0x73F, rst := fun _ _ _ => 0x101 },  -- FACET_CTRL
   { off := 4, cls := .live, w1c := 3, rst := fun _ _ _ => 0x100 },  -- FACET_STATUS
   { off := 0x10, cls := .live, cnt := true },  -- FACET_FRAG_CNT
   { off := 0x14, words := 2, cls := .live, cnt := true },  -- FACET_RAW_BYTES
   { off := 0x1C, words := 2, cls := .live, cnt := true },  -- FACET_CODED_BYTES
   { off := 0x24, cls := .live, cnt := true },  -- FACET_RAW_GROUP_CNT
   { off := 0x28, cls := .live, cnt := true },  -- FACET_FORMAT_ERR_CNT
   { off := 0x2C, cls := .live, cnt := true }]  -- FACET_BADCHECK_CNT

/-- The registers of block LANE. -/
def regsLane : List RegRow :=
  [{ off := 0, n1 := 16, s1 := 0x100, cls := .mode, rw := fun _ _ _ => 0x133, rst := fun _ _ _ => 0x100 },  -- LANE_CTRL
   { off := 4, n1 := 16, s1 := 0x100, cls := .live, w1c := 0x1C00 },  -- LANE_STATUS
   { off := 8, n1 := 16, s1 := 0x100, cls := .operating, rw := fun _ _ _ => 0x7F, rst := fun _ _ _ => 0x10 },  -- LANE_EQ
   { off := 0xC, n1 := 16, s1 := 0x100, cls := .ro },  -- LANE_EYE
   { off := 0x10, n1 := 16, s1 := 0x100, cls := .live, cnt := true },  -- LANE_HDR_ERR_CNT
   { off := 0x14, n1 := 16, s1 := 0x100, cls := .live, cnt := true },  -- LANE_LOCK_LOSS_CNT
   { off := 0x18, n1 := 16, s1 := 0x100, cls := .live, cnt := true },  -- LANE_RETRAIN_CNT
   { off := 0x1C, n1 := 16, s1 := 0x100, cls := .live, cnt := true },  -- LANE_PRBS_ERR_CNT
   { off := 0x20, n1 := 16, s1 := 0x100, words := 2, cls := .live, cnt := true },  -- LANE_PRBS_BITS
   { off := 0x28, n1 := 16, s1 := 0x100, cls := .ro },  -- LANE_CAL_CNT
   { off := 0x2C, n1 := 16, s1 := 0x100, words := 3, cls := .ro },  -- LANE_CAL_WALL
   { off := 0x38, n1 := 16, s1 := 0x100, cls := .ro },  -- LANE_CAL_QUAL
   { off := 0x3C, n1 := 16, s1 := 0x100, cls := .ro }]  -- LANE_FUSE_ASYM

/-- The registers of block PORT. -/
def regsPort : List RegRow :=
  [{ off := 0, n1 := 16, s1 := 0x100, cls := .mode, rw := fun _ _ _ => 0xE000FFFF },  -- PORT_CFG
   { off := 4, n1 := 16, s1 := 0x100, cls := .mode, rw := fun _ _ _ => 0xFFFFF, rst := fun _ _ _ => 0x1000 },  -- PORT_RATE
   { off := 8, n1 := 16, s1 := 0x100, cls := .mode, rw := fun _ _ _ => 0xFF0F, rst := fun _ _ _ => 0x8003 },  -- PORT_VER
   { off := 0xC, n1 := 16, s1 := 0x100, words := 2, cls := .mode, rw := fun _ _ _ => 0xFFFFFFFF, rst := fun _ _ w => (if w = 0 then 0x1FF else 0) },  -- PORT_FEAT_OFFER
   { off := 0x14, n1 := 16, s1 := 0x100, cls := .live, w1c := 0x6C000 },  -- PORT_STATUS
   { off := 0x18, n1 := 16, s1 := 0x100, words := 2, cls := .ro },  -- PORT_FEAT
   { off := 0x20, n1 := 16, s1 := 0x100, cls := .ro },  -- PORT_PARTNER
   { off := 0x24, n1 := 16, s1 := 0x100, cls := .live, rw := fun _ _ _ => 0xF, rst := fun _ _ _ => 0xF },  -- PORT_WIDTH
   { off := 0x28, n1 := 16, s1 := 0x100, cls := .operating, rw := fun _ _ _ => 0xFFFF, rst := fun _ _ _ => 0x200 },  -- PORT_CREDIT
   { off := 0x2C, n1 := 16, s1 := 0x100, cls := .operating, rw := fun _ _ _ => 0xFFFFF, rst := fun _ _ _ => 0x30800 },  -- PORT_REPLAY
   { off := 0x30, n1 := 16, s1 := 0x100, cls := .live, cnt := true },  -- PORT_CRC_ERR_CNT
   { off := 0x34, n1 := 16, s1 := 0x100, cls := .live, cnt := true },  -- PORT_SEQ_ERR_CNT
   { off := 0x38, n1 := 16, s1 := 0x100, cls := .live, cnt := true },  -- PORT_REPLAY_CNT
   { off := 0x3C, n1 := 16, s1 := 0x100, cls := .live, cnt := true },  -- PORT_BAD_BLOCK_CNT
   { off := 0x40, n1 := 16, s1 := 0x100, cls := .live, cnt := true },  -- PORT_PROBE_LOST_CNT
   { off := 0x44, n1 := 16, s1 := 0x100, cls := .live, cnt := true },  -- PORT_LINKUP_CNT
   { off := 0x48, n1 := 16, s1 := 0x100, cls := .live, cnt := true }]  -- PORT_LOOP_ERR_CNT

/-- The registers of block TREE. -/
def regsTree : List RegRow :=
  [{ off := 0, cls := .ro, rst := fun _ _ _ => 0x3FF },  -- TREE_ID
   { off := 4, cls := .mode, rw := fun _ _ _ => 0x7FF03FF, rst := fun _ _ _ => 0x4000000 },  -- TREE_RANGE
   { off := 8, cls := .operating, rw := fun _ _ _ => 0x3FFF0001, rst := fun _ _ _ => 0x400000 },  -- TREE_CTRL
   { off := 0xC, cls := .live, w1c := 0x300 },  -- TREE_STATUS
   { off := 0x10, cls := .live },  -- TREE_CMD
   { off := 0x14, cls := .operating, rw := fun _ _ _ => 0xFFFF },  -- TREE_ALT
   { off := 0x18, cls := .ro },  -- TREE_ALT_OFS
   { off := 0x20, cls := .live, cnt := true },  -- TREE_JOIN_CNT
   { off := 0x24, cls := .live, cnt := true },  -- TREE_REFUSE_CNT
   { off := 0x28, cls := .live, cnt := true },  -- TREE_REHOME_CNT
   { off := 0x2C, cls := .live, cnt := true },  -- TREE_UNROUTABLE_CNT
   { off := 0x30, cls := .live, cnt := true },  -- TREE_ALT_DISCARD_CNT
   { off := 0x34, cls := .live, cnt := true },  -- TREE_PARENT_ANSWER_CNT
   { off := 0x1000, n1 := 1024, s1 := 4, cls := .ro, rst := fun _ _ _ => 0xF }]  -- TREE_ROUTE

/-- The registers of block CLASP. -/
def regsClasp : List RegRow :=
  [{ off := 0, cls := .prot, rw := fun _ _ _ => 0x1FFF0001 },  -- CLASP_CTRL
   { off := 4, cls := .live, w1c := 0x3C00 },  -- CLASP_STATUS
   { off := 8, cls := .operating, rw := fun _ _ _ => 0xF00FF, rst := fun _ _ _ => 0x40040 },  -- CLASP_CMP
   { off := 0xC, cls := .operating, rw := fun _ _ _ => 0x3FFF, rst := fun _ _ _ => 0xC0 },  -- CLASP_WIT
   { off := 0x10, cls := .operating, rw := fun _ _ _ => 0x3F, rst := fun _ _ _ => 0x20 },  -- CLASP_SYNC
   { off := 0x14, cls := .ro },  -- CLASP_PEER
   { off := 0x18, cls := .ro },  -- CLASP_WIT_STATUS
   { off := 0x1C, cls := .live },  -- CLASP_CMD
   { off := 0x20, cls := .ro },  -- CLASP_SEQ
   { off := 0x30, cls := .live, cnt := true },  -- CLASP_MISMATCH_CNT
   { off := 0x34, cls := .live, cnt := true },  -- CLASP_TRANSIENT_CNT
   { off := 0x38, cls := .live, cnt := true },  -- CLASP_ABSENT_CNT
   { off := 0x3C, cls := .live, cnt := true },  -- CLASP_ORPHAN_CNT
   { off := 0x40, cls := .live, cnt := true },  -- CLASP_SWITCH_CNT
   { off := 0x44, cls := .live, cnt := true }]  -- CLASP_SYNC_RESTART_CNT

/-- The registers of block HALL. -/
def regsHall : List RegRow :=
  [{ off := 0, cls := .live, w1c := 0x3C },  -- HALL_STATUS
   { off := 4, cls := .mode, rw := fun _ _ _ => 3 },  -- HALL_AUTH
   { off := 8, cls := .prot, rw := fun _ _ _ => 0x1F00FF03, rst := fun _ _ _ => 0x18001000 },  -- HALL_POLICY
   { off := 0xC, cls := .ro },  -- HALL_LOCK
   { off := 0x10, cls := .live },  -- HALL_CMD
   { off := 0x14, words := 2, cls := .ro },  -- HALL_SERIAL
   { off := 0x1C, cls := .ro },  -- HALL_BOOT
   { off := 0x20, cls := .ro },  -- HALL_CAP_VER
   { off := 0x24, cls := .ro },  -- HALL_PORT_SAFE
   { off := 0x40, words := 16, cls := .ro },  -- HALL_ID_PUB
   { off := 0x80, words := 8, cls := .ro },  -- HALL_OWNER
   { off := 0xA0, words := 8, cls := .ro },  -- HALL_DIGEST
   { off := 0xC0, words := 8, cls := .ro },  -- HALL_FUSE_DIGEST
   { off := 0x100, words := 16, cls := .ro },  -- HALL_ENDORSE
   { off := 0x140, cls := .live, cnt := true },  -- HALL_CAP_OK_CNT
   { off := 0x144, cls := .live, cnt := true },  -- HALL_CAP_FAIL_CNT
   { off := 0x148, cls := .live, cnt := true },  -- HALL_PROTECTED_REJ_CNT
   { off := 0x14C, cls := .live, cnt := true },  -- HALL_ATTEST_CNT
   { off := 0x150, cls := .live, cnt := true },  -- HALL_SESSION_CNT
   { off := 0x154, cls := .live, cnt := true },  -- HALL_AUTH_FAIL_CNT
   { off := 0x158, cls := .live, cnt := true },  -- HALL_TAG_FAIL_CNT
   { off := 0x15C, cls := .live, cnt := true },  -- HALL_E2E_FAIL_CNT
   { off := 0x160, cls := .live, cnt := true },  -- HALL_REKEY_CNT
   { off := 0x200, n1 := 16, s1 := 4, cls := .ro }]  -- HALL_PORT

/-- The registers of block FAULT. -/
def regsFault : List RegRow :=
  [{ off := 0, cls := .ro },  -- FAULT_BOOT
   { off := 4, cls := .live, w1c := 0x300 },  -- FAULT_STATUS
   { off := 8, cls := .live, rw := fun _ _ _ => 3 },  -- FAULT_ALERT_MASK
   { off := 0xC, cls := .ro },  -- FAULT_ALERT_SEQ
   { off := 0x10, cls := .ro },  -- FAULT_LOG_NEXT
   { off := 0x14, cls := .live, rw := fun _ _ _ => 0xF000FFFF },  -- FAULT_SEL
   { off := 0x18, cls := .ro },  -- FAULT_UNIT
   { off := 0x20, n1 := 4, s1 := 4, cls := .ro },  -- FAULT_START
   { off := 0x44, n1 := 9, s1 := 4, cls := .operating, rw := fun _ _ _ => 0xFFFFFFFF, rst := fun i _ _ => (faultLimitReset (i + 1)) * 0x1000000 + (faultDecayReset (i + 1)) },  -- FAULT_POLICY
   { off := 0x84, n1 := 9, s1 := 4, cls := .ro },  -- FAULT_RETIRED
   { off := 0xC0, cls := .live, cnt := true },  -- FAULT_STRIKE_CNT
   { off := 0xC4, cls := .live, cnt := true },  -- FAULT_RETIRE_CNT
   { off := 0xC8, cls := .live, cnt := true },  -- FAULT_VOTE_CNT
   { off := 0xCC, cls := .live, cnt := true },  -- FAULT_ALERT_DROP_CNT
   { off := 0xD0, cls := .live, cnt := true }]  -- FAULT_INIT_MEM_CNT

/-- The registers of block MON. -/
def regsMon : List RegRow :=
  [{ off := 0, cls := .live, rw := fun _ _ _ => 3 },  -- MON_CTRL
   { off := 4, cls := .live, w1c := 0x7C },  -- MON_STATUS
   { off := 8, cls := .live, rw := fun _ _ _ => 0x707 },  -- MON_ISRC
   { off := 0xC, cls := .operating, rw := fun _ _ _ => 0xF3F, rst := fun _ _ _ => 1 },  -- MON_SEQ_CTRL
   { off := 0x10, cls := .live },  -- MON_SEQ_CMD
   { off := 0x14, cls := .ro },  -- MON_SEQ_STATUS
   { off := 0x18, cls := .ro },  -- MON_PASS
   { off := 0x1C, cls := .live, rw := fun _ _ _ => 0xF1F, rst := fun _ _ _ => 0x500 },  -- MON_INJ
   { off := 0x20, words := 2, cls := .ro },  -- MON_INJ_RESULT
   { off := 0x28, cls := .live, rw := fun _ _ _ => 0x70F1F, rst := fun _ _ _ => 0x300 },  -- MON_CAL_CMD
   { off := 0x2C, cls := .ro },  -- MON_CAL_STATUS
   { off := 0x30, cls := .operating, rw := fun _ _ _ => 0xFFFF, rst := fun _ _ _ => 0x7530 },  -- MON_CAL_TARGET
   { off := 0x34, cls := .ro },  -- MON_CAL_CNT
   { off := 0x38, words := 3, cls := .ro },  -- MON_CAL_WALL
   { off := 0x44, cls := .ro },  -- MON_CAL_QUAL
   { off := 0x48, cls := .ro },  -- MON_REF_RATIO
   { off := 0x4C, cls := .operating, rw := fun _ _ _ => 0xF },  -- MON_STREAM
   { off := 0x60, cls := .live, cnt := true },  -- MON_OVR_CNT
   { off := 0x64, cls := .live, cnt := true },  -- MON_OPEN_CNT
   { off := 0x68, cls := .live, cnt := true },  -- MON_GUARD_CNT
   { off := 0x6C, cls := .live, cnt := true },  -- MON_VOID_CNT
   { off := 0x70, cls := .live, cnt := true },  -- MON_SEQ_RESTART_CNT
   { off := 0x74, cls := .live, cnt := true },  -- MON_INJ_BUSY_CNT
   { off := 0x78, cls := .live, cnt := true },  -- MON_CAL_SKIP_CNT
   { off := 0x7C, cls := .live, cnt := true },  -- MON_PASS_SKIP_CNT
   { off := 0x80, cls := .live, cnt := true },  -- MON_REC_DROP_CNT
   { off := 0x84, cls := .live, cnt := true },  -- MON_MASK_PASS_CNT
   { off := 0x100, n1 := 32, s1 := 0x20, cls := .operating, rw := fun _ _ _ => 0x11F1F, rst := fun i _ _ => (if 22 ≤ i ∧ i ≤ 25 then 25 else 0) * 0x100 + (if 22 ≤ i ∧ i ≤ 25 then 1 else 0) * 0x10 },  -- MON_IN
   { off := 0x104, n1 := 32, s1 := 0x20, cls := .live, rw := fun _ _ _ => 0x317 },  -- MON_EXC
   { off := 0x108, n1 := 32, s1 := 0x20, words := 2, cls := .ro },  -- MON_RESULT
   { off := 0x110, n1 := 32, s1 := 0x20, cls := .operating, rw := fun _ _ _ => 0xFFFFFF },  -- MON_USER_OFS
   { off := 0x114, n1 := 32, s1 := 0x20, cls := .operating, rw := fun _ _ _ => 0xFFFFFF, rst := fun _ _ _ => 0x400000 },  -- MON_USER_GAIN
   { off := 0x118, n1 := 32, s1 := 0x20, cls := .ro },  -- MON_IN_STAT
   { off := 0x500, n1 := 8, s1 := 4, cls := .ro },  -- MON_FACT_OFS
   { off := 0x520, n1 := 8, s1 := 4, cls := .ro },  -- MON_FACT_GAIN
   { off := 0x540, n1 := 8, s1 := 4, cls := .ro },  -- MON_DRIFT_OFS
   { off := 0x600, n1 := 32, s1 := 4, cls := .operating, rw := fun _ _ _ => 0x801F0F0F, rst := fun i _ _ => 0x900 + (i) * 0x10000 },  -- MON_SEQ
   { off := 0x700, cls := .operating, rw := fun _ _ _ => 0x73F1F },  -- MON_SCOPE
   { off := 0x704, cls := .operating, rw := fun _ _ _ => 0xFFFF1FFF, rst := fun _ _ _ => 0x10001000 },  -- MON_SCOPE_CNT
   { off := 0x708, cls := .operating, rw := fun _ _ _ => 0xFFFFFFFF, rst := fun _ _ _ => 0x100 },  -- MON_SCOPE_LEVEL
   { off := 0x70C, cls := .operating, rw := fun _ _ _ => 0xFFFFFF },  -- MON_SCOPE_AUTO
   { off := 0x710, cls := .live },  -- MON_SCOPE_CMD
   { off := 0x714, cls := .live, w1c := 0x1E4 },  -- MON_SCOPE_STATUS
   { off := 0x718, cls := .ro },  -- MON_SCOPE_VIOL
   { off := 0x1000, n1 := 32, s1 := 0x80, n2 := 17, s2 := 4, cls := .operating, rw := fun _ _ _ => 0xFFFFFFFF },  -- MON_PWL
   { off := 0x4000, n1 := 4096, s1 := 4, cls := .ro },  -- MON_SCOPE_BUF
   { off := 0x8000, n1 := 1024, s1 := 4, cls := .operating, rw := fun _ _ _ => 0xFFFFFFFF, rst := fun _ _ _ => 0x7FFF8000 }]  -- MON_ENV

/-- The registers of block FE. -/
def regsFe : List RegRow :=
  [{ off := 0, cls := .mode, rw := fun _ _ _ => 0x1F, rst := fun _ _ _ => 0x18 },  -- FE_CTRL
   { off := 4, cls := .operating, rw := fun _ _ _ => 0x3F0703FF, rst := fun _ _ _ => 0x8020064 },  -- FE_THR
   { off := 8, cls := .live, rw := fun _ _ _ => 0x3FF },  -- FE_THR_OFS
   { off := 0xC, cls := .operating, rw := fun _ _ _ => 0x133F73FF, rst := fun _ _ _ => 0x1000000 },  -- FE_INJ_CTRL
   { off := 0x10, cls := .operating, rw := fun _ _ _ => 0xF, rst := fun _ _ _ => 2 },  -- FE_OVR
   { off := 0x14, cls := .operating, rw := fun _ _ _ => 0xFF0F, rst := fun _ _ _ => 0x1008 },  -- FE_NOISE
   { off := 0x18, cls := .live, w1c := 4 },  -- FE_STATUS
   { off := 0x1C, cls := .ro },  -- FE_INJ_LSB
   { off := 0x20, cls := .ro },  -- FE_LEAK_SAT_CNT
   { off := 0x24, cls := .ro },  -- FE_TRIM_SAT_CNT
   { off := 0x28, cls := .ro },  -- FE_RETIRED_CNT
   { off := 0x2C, cls := .live, cnt := true },  -- FE_NOISY_CNT
   { off := 0x30, cls := .live, cnt := true },  -- FE_DEAD_CNT
   { off := 0x34, cls := .live, cnt := true },  -- FE_SAT_CNT
   { off := 0x38, cls := .live, cnt := true },  -- FE_HOLDOFF_CNT
   { off := 0x10000, n1 := 16384, s1 := 4, cls := .live, rw := fun _ _ _ => 0x3F7 }]  -- FE_CH

/-- The registers of block TALLY. -/
def regsTally : List RegRow :=
  [{ off := 0, cls := .mode, rw := fun _ _ _ => 0x3F3 },  -- TALLY_CTRL
   { off := 4, cls := .operating, rw := fun _ _ _ => 0xFFFF0007, rst := fun _ _ _ => 2 },  -- TALLY_HIST
   { off := 8, cls := .operating, rw := fun _ _ _ => 0x707, rst := fun _ _ _ => 0x700 },  -- TALLY_SAMP
   { off := 0xC, cls := .live, rw := fun _ _ _ => 0x1F },  -- TALLY_DUMP
   { off := 0x10, cls := .live, w1c := 6 },  -- TALLY_STATUS
   { off := 0x14, cls := .ro },  -- TALLY_DUMP_ID
   { off := 0x20, cls := .live, cnt := true },  -- TALLY_INC_LOST_CNT
   { off := 0x24, cls := .live, cnt := true },  -- TALLY_POISON_REFUSED_CNT
   { off := 0x28, cls := .live, cnt := true },  -- TALLY_POISON_BIN_CNT
   { off := 0x2C, cls := .live, cnt := true },  -- TALLY_DUMP_SKIP_CNT
   { off := 0x10000, n1 := 16384, s1 := 4, cls := .ro },  -- TALLY_CNT
   { off := 0x20000, n1 := 16384, s1 := 8, words := 2, cls := .ro }]  -- TALLY_SUM

/-- The registers of block HIF. -/
def regsHif : List RegRow :=
  [{ off := 0, cls := .ro },  -- HIF_STATUS
   { off := 0x10, n1 := 4, s1 := 4, cls := .ro, rst := fun i _ _ => (if i = 0 then 0x1FF else 0) },  -- HIF_FEAT_OFFER
   { off := 0x20, n1 := 4, s1 := 4, cls := .operating, rw := fun _ _ _ => 0xFFFFFFFF },  -- HIF_FEAT_ACCEPT
   { off := 0x30, cls := .operating },  -- HIF_FEAT_CMD
   { off := 0x34, cls := .ro },  -- HIF_FEAT_STATUS
   { off := 0x40, words := 2, cls := .operating, rw := fun _ _ w => if w = 0 then 0xFFFFF000 else 0xFFFFFFFF },  -- HIF_DB_BASE
   { off := 0x48, cls := .operating, rw := fun _ _ _ => 0xFFFF, rst := fun _ _ _ => 0x3E8 },  -- HIF_DB_POLL
   { off := 0x4C, cls := .live },  -- HIF_NUDGE
   { off := 0x50, cls := .operating, rw := fun _ _ _ => 0xFFFF, rst := fun _ _ _ => 0x64 },  -- HIF_CMD_TMO
   { off := 0x54, cls := .operating, rw := fun _ _ _ => 0xFFFF, rst := fun _ _ _ => 0x3E8 },  -- HIF_DROP_TMO
   { off := 0x58, cls := .operating, rw := fun _ _ _ => 1 },  -- HIF_TPRIM
   { off := 0x60, words := 2, cls := .ro },  -- HIF_LAST_REJECT
   { off := 0x70, cls := .live, cnt := true },  -- HIF_POISON_READ_CNT
   { off := 0x400, n1 := 128, s1 := 4, cls := .operating, rw := fun _ _ _ => 0xFFFFFFFF, rst := fun _ _ _ => 0x140010 }]  -- HIF_COAL

/-- The registers of block RING. -/
def regsRing : List RegRow :=
  [{ off := 0, cls := .live, cnt := true },  -- RING_UNMAPPED_CNT
   { off := 4, cls := .live, cnt := true },  -- RING_POISON_NUG_CNT
   { off := 8, cls := .live, cnt := true },  -- RING_DB_ERR_CNT
   { off := 0x100, n1 := 4, s1 := 4, cls := .operating, rw := fun i _ _ => if i < 3 then 0x9FFF9FFF else 0 },  -- RING_DEF
   { off := 0x10000, n1 := 8192, s1 := 0x20, words := 2, cls := .operating, rw := fun _ _ w => if w = 0 then 0xFFFFF000 else 0xFFFFFFFF },  -- RING_BASE
   { off := 0x10008, n1 := 8192, s1 := 0x20, cls := .operating, rw := fun _ _ _ => 0xFF7FF00F, rst := fun _ _ _ => 0x6000000 },  -- RING_CFG
   { off := 0x1000C, n1 := 8192, s1 := 0x20, cls := .ro },  -- RING_HEAD
   { off := 0x10010, n1 := 8192, s1 := 0x20, cls := .ro },  -- RING_TAIL_SEEN
   { off := 0x10014, n1 := 8192, s1 := 0x20, cls := .live, w1c := 3 },  -- RING_STATUS
   { off := 0x10018, n1 := 8192, s1 := 0x20, cls := .live, cnt := true },  -- RING_DROP_CNT
   { off := 0x1001C, n1 := 8192, s1 := 0x20, cls := .ro },  -- RING_UNITS
   { off := 0x50000, n1 := 1024, s1 := 0x10, n2 := 4, s2 := 4, cls := .operating, rw := fun _ j _ => if j < 3 then 0x9FFF9FFF else 0 }]  -- RING_MAP

/-- The MSI-X table, four words a vector, and its pending-bit array (R355, R480). -/
def regsMsix : List RegRow :=
  [{ off := 0x8000, n1 := 0x2000, cls := .msix
     rw := fun i _ _ => if i % 4 = 0 then 0xFFFFFFFC else if i % 4 = 3 then 1 else 0xFFFFFFFF
     rst := fun i _ _ => if i % 4 = 3 then 1 else 0 },
   { off := 0x10000, n1 := 64, cls := .ro }]

/-- The registers of a block. The MSI-X table and pending-bit array stand in the HIF block (R355, R480). -/
def Block.regs : Block → List RegRow
  | .assay => regsAssay
  | .sys => regsSys
  | .orb => regsOrb
  | .wall => regsWall
  | .tiu => regsTiu
  | .vtdc => regsVtdc
  | .tile => regsTile
  | .trg => regsTrg
  | .vault => regsVault
  | .arb => regsArb
  | .canary => regsCanary
  | .frag => regsFrag
  | .facet => regsFacet
  | .lane => regsLane
  | .port => regsPort
  | .tree => regsTree
  | .clasp => regsClasp
  | .hall => regsHall
  | .fault => regsFault
  | .mon => regsMon
  | .fe => regsFe
  | .tally => regsTally
  | .hif => regsHif ++ regsMsix
  | .ring => regsRing

/-- A register found in the map: its block, its row, its array indices and the word within it. -/
structure Hit where
  blk : Block
  row : RegRow
  i   : Nat
  j   : Nat
  w   : Nat

/-- Whether block-relative offset `rel` is a word of row `r`, with its indices. -/
def RegRow.hit (r : RegRow) (rel : Nat) : Option (Nat × Nat × Nat) :=
  if rel < r.off then none
  else
    let d := rel - r.off
    let i := if r.n1 = 1 then 0 else d / r.s1
    let d1 := d - i * r.s1
    let j := if r.n2 = 1 then 0 else d1 / r.s2
    let d2 := d1 - j * r.s2
    if i < r.n1 ∧ j < r.n2 ∧ d2 / 4 < r.words ∧ d2 % 4 = 0 then some (i, j, d2 / 4) else none

/-- The first row of a list that holds block-relative offset `rel`. -/
def findRow (b : Block) (rel : Nat) : List RegRow → Option Hit
  | [] => none
  | r :: rs =>
    match r.hit rel with
    | some (i, j, w) => some { blk := b, row := r, i := i, j := j, w := w }
    | none => findRow b rel rs

/-- The block whose region holds configuration offset `a` (R473, R476). -/
def blockOf (a : Nat) : Option Block :=
  Block.all.find? (fun b => decide (b.base ≤ a ∧ a < b.base + b.count * b.stride))

/-- The register at configuration offset `a`, if there is one (R468). -/
def findReg (a : Nat) : Option Hit :=
  match blockOf a with
  | some b => findRow b (a - b.base) b.regs
  | none => none

/-- The reset word of configuration offset `a`, as the Reset columns give it; role-dependent and fuse fields are 0 here
and are loaded by RESET_DEASSERT and shown from the fuse map (R5, R503). -/
def resetWord (a : Nat) : Word :=
  match findReg a with
  | some h => BitVec.ofNat 32 (h.row.rst h.i h.j h.w)
  | none => 0

end Sys2Proof.Machine
end

