-- ==== Sys2Proof/Machine/Store.lean ====
section
/-! DEFINITION. Sparse memories as plain data: a list of (address, value) pairs in one canonical form, addresses strictly
rising and no entry equal to what an unlisted address reads as. Every addressed memory of the die is held this way: the
register words, the per-channel, per-tile, per-lane and per-port arrays, and the vault. -/

namespace Sys2Proof.Machine

/-- What address `a` reads as: its entry, or `d` where none is listed. -/
def sget {α : Type} (d : α) : List (Nat × α) → Nat → α
  | [], _ => d
  | (k, v) :: m, a => if k = a then v else sget d m a

/-- The entry of address `a` set to `v`, at its place in the order. -/
def sins {α : Type} (a : Nat) (v : α) : List (Nat × α) → List (Nat × α)
  | [] => [(a, v)]
  | (k, w) :: m =>
    if a < k then (a, v) :: (k, w) :: m
    else if k = a then (a, v) :: m
    else (k, w) :: sins a v m

/-- The entry of address `a` removed. -/
def sdel {α : Type} (a : Nat) (m : List (Nat × α)) : List (Nat × α) :=
  m.filter (fun p => decide (p.1 ≠ a))

/-- Write `v` at address `a`, whose unlisted value is `d`: writing `d` removes the entry. -/
def sset {α : Type} [DecidableEq α] (d : α) (m : List (Nat × α)) (a : Nat) (v : α) : List (Nat × α) :=
  if v = d then sdel a m else sins a v m

/-- The canonical form: addresses strictly rising, no entry at its unlisted value `d a`. -/
def swf {α : Type} [DecidableEq α] (d : Nat → α) : List (Nat × α) → Bool
  | [] => true
  | (k, v) :: m => decide (v ≠ d k) && m.all (fun p => decide (k < p.1)) && swf d m

end Sys2Proof.Machine
end

