-- ==== Sys2Proof/Machine/State.lean ====
section
/-! DEFINITION. The state of one TN16K die as plain data, grouped by block, the reasons a step can stop, and the state at
reset deassertion. Register words are one sparse memory keyed by configuration offset; what the registers show only in part
stands in the blocks' own records. -/

namespace Sys2Proof.Machine

/-- Run states (R18). -/
inductive RunState where
  | reset | init | ready | armed | running | hold | safe
deriving DecidableEq, Repr

/-- The code of a run state (R18). -/
def RunState.code : RunState → Nat
  | .reset => 0 | .init => 1 | .ready => 2 | .armed => 3 | .running => 4 | .hold => 5 | .safe => 6

/-- Roles of a die (R11). -/
inductive Role where
  | leaf | relay | root | factory
deriving DecidableEq, Repr

/-- The strap code of a role (R11). -/
def Role.code : Role → Nat
  | .leaf => 0 | .relay => 1 | .root => 2 | .factory => 3

/-- The role that strap code `c` names (R11). -/
def Role.ofCode (c : Nat) : Role :=
  if c = 0 then .leaf else if c = 1 then .relay else if c = 2 then .root else .factory

/-- Fuses of the die (R503, R389, R390, R396): plain data, at the nominal values of R503 where it gives them
(DESIGN CHOICE, log 4); sparse arrays list only what departs from the nominal value. -/
structure FuseSt where
  factoryTest : Bool := false
  stepping    : Nat := 0
  vtdcBin     : Nat := 32768
  vtdcOfs     : Nat := 256
  pairTrim    : List (Nat × Int) := []
  chanTrim    : List (Nat × Int) := []
  injLsb      : Nat := 800
  monOfs      : List (Nat × Int) := []
  monGain     : List (Nat × Nat) := []
  monPwl      : List (Nat × Nat) := []
  laneAsym    : List (Nat × Int) := []
  vaultRepair : List (Nat × Nat) := []
  serial      : List Byte := []
  endorse     : List Byte := []
  fuseDigest  : List Byte := []
  owner       : List Byte := []
  claimed     : Bool := false
  boots       : Nat := 0
deriving DecidableEq, Repr

/-- Reset, role and run state (R11, R19, R20, R443, R445, R446); `stops` are the senders, with TAG, of STOP commands from the tree
whose transition is still to come (R367). -/
structure SysSt where
  run        : RunState := .init
  role       : Role := .leaf
  straps     : Nat := 0
  claspId    : Bool := false
  porSeen    : Bool := true
  rstSeen    : Bool := false
  perstSeen  : Bool := false
  fuseDone   : Bool := false
  memDone    : Bool := false
  pllDone    : Bool := false
  noRef      : Bool := false
  stopPend   : Bool := false
  holdOrbits : Nat := 0
  readyBall  : Bool := false
  serialUp   : Bool := true
  startSent  : Bool := false
  stops      : List (Nat × Nat) := []
deriving DecidableEq, Repr

/-- What waits for the first slot of the next orbit because the next slot, or the next F-cycle, lies there: WALL_SET goes into
WALL (R73), a channel retires (R92), a trigger word is staged (R158), a freeze ends (R184), TIU_CMD takes effect with its
ABORT and START (R123, R128). -/
inductive Later where
  | wallSet
  | retire (n : Nat)
  | trigWord (w : Nat)
  | unfreeze
  | tiuCmd (abort start : Bool)
deriving DecidableEq, Repr

/-- Machine time (R32–R52). `now` and `slots` count F-cycles and slots since reset without wrapping; `slot`, `fcyc` and
`orbit` are the live counters of R32. `quiets` are the last two quiet windows, the later first, as first slot and the slot
after the last, both since reset (R52); `later` is what waits for the next orbit's first slot. -/
structure TimeSt where
  fRun       : Bool := false
  counting   : Bool := false
  loaded     : Bool := false
  now        : Nat := 0
  slots      : Nat := 0
  fcyc       : Nat := 0
  slot       : Nat := 0
  orbit      : Nat := 0
  len        : Nat := 4096
  orbitLatch : Nat := 0
  orbitReset : Bool := false
  missRun    : Nat := 0
  relockRun  : Nat := 0
  lastMark   : Option Nat := none
  spacings   : List Nat := []
  highAt     : Option Nat := none
  marked     : Bool := false
  markerAge  : Nat := 0
  reload     : Bool := false
  cal        : List (Nat × Nat) := []
  calLen     : Nat := 0
  fired      : List Nat := []
  doneNow    : List Nat := []
  rearm      : Bool := false
  runStart   : Option Nat := none
  lastOff    : Option Nat := none
  quiets     : List (Nat × Nat) := []
  later      : List Later := []
deriving DecidableEq, Repr

/-- A two-way exchange of R53 that has not finished: its SEQ, port, t1, t2 if REPLY2 has come, and the slot it began. -/
structure Exch where
  seq   : Nat
  port  : Nat
  t1    : Nat
  t2    : Option Nat := none
  began : Nat
deriving DecidableEq, Repr

/-- A part of a correction: spread over the slots `first` to `last - 1` since reset, `amount` in 1/16 fine unit (R56). -/
structure Move where
  first  : Nat
  last   : Nat
  amount : Int
deriving DecidableEq, Repr

/-- The phase loop (R53–R62). Offsets are in 1/32 fine unit, so that θ is exact; the phase correction `corr` of the moves that
have ended, and the remainder `rest`, are in 1/16 fine unit. `plan` holds the moves of the orbit. -/
structure PhaseSt where
  exch       : List Exch := []
  nextSeq    : Nat := 0
  thetas     : List Int := []
  altThetas  : List Int := []
  inTol      : Nat := 0
  inAcq      : Nat := 0
  overLoss   : Nat := 0
  quals      : List Nat := []
  parent     : Nat := 0
  corr       : Int := 0
  rest       : Int := 0
  plan       : List Move := []
deriving DecidableEq, Repr

/-- WALL and its servo (R65–R73). `t` is WALL in units of 2^-32 ns, `atStart` its value at the last orbit start, `sinceAcc`
what WALL has counted since the last accepted PPS edge, `ptmAge` and `ptmHeard` the orbit starts since the last PTM request and
the last PTM response, `srcLost` that the source is lost at present (R71). -/
structure WallSt where
  t        : Nat := 0
  atStart  : Nat := 0
  secLatch : Nat := 0
  stamp    : Nat := 0
  integ    : Int := 0
  integD   : Nat := 1
  fresh    : Bool := true
  good     : Nat := 0
  setAtPps : Bool := false
  setNow   : Bool := false
  lastUpd  : Option Nat := none
  sinceAcc : Nat := 0
  srcLost  : Bool := false
  ptmOut   : Option Nat := none
  ptmAge   : Option Nat := none
  ptmHeard : Nat := 0
deriving DecidableEq, Repr

/-- A hit between its leading edge and its tile (R94–R111): the pair (0 A, 1 B), the launch edge in F-cycles since reset,
the count, the converted time in fine units since reset's slot 0, the pair's calibration state at the edge, the TOT once
closed, its conditions, and the neighbours that were neither masked nor powered down in its slot (R83). -/
structure Hit0 where
  pair   : Nat
  launch : Nat
  n      : Nat
  tfu    : Int
  ovl   : Bool := false
  conv   : Bool := false
  tot    : Option Nat := none
  sat    : Bool := false
  stale  : Bool := false
  narrow : Bool := false
  order  : Bool := false
  tmo    : Bool := false
  nbrs   : List Nat := []
deriving DecidableEq, Repr

/-- One channel's front end and channel logic (R75–R109). `maskWas` holds (t, v): MASK was v in the slots before t, since reset,
back to the entry before (R88); `blindWas` the blind intervals that have ended, in slots since reset (R82, R83). -/
structure Chan where
  high      : Bool := false
  ignored   : Bool := false
  holdTo    : Nat := 0
  settling  : Bool := false
  maskWas   : List (Nat × Bool) := []
  blindFrom : Option Nat := none
  blindTo   : Option Nat := none
  blindWas  : List (Nat × Nat) := []
  noise     : Nat := 0
  missRun   : Nat := 0
  lastB     : Bool := true
  lost      : Bool := false
  hits      : List Hit0 := []
deriving DecidableEq, Repr

/-- An open injection window (R86): slots since reset from first to last, group, and the injected channels hit so far. -/
structure InjWin where
  first : Nat
  last  : Nat
  group : Nat
  stride : Nat
  dead  : Bool
  hit   : List Nat := []
deriving DecidableEq, Repr

/-- The front end (R74–R92). -/
structure FeSt where
  chans   : List (Nat × Chan) := []
  wins    : List InjWin := []
  injNow  : Nat := 0
  ofsNow  : Nat := 0
  calDue  : Bool := true
deriving DecidableEq, Repr

/-- One vernier pair (R94–R119): converting, calibrating, its calibration, the slot of its last accepted calibration, the
trim steps made by bulk calibration, INL with the residuals r_k it came from (sums over the 16 conversions of a phase), and
whether it stands stopped in a bulk pass. -/
structure Pair where
  busy    : Bool := false
  cal     : Bool := false
  nocal   : Bool := true
  bin     : Nat := 0
  off     : Int := 0
  had     : Bool := false
  ds      : Nat := 2048
  calSlot : Nat := 0
  trimAdj : Int := 0
  inl     : Nat := 0
  res     : List Int := []
  stopped : Bool := false
deriving DecidableEq, Repr

/-- The vernier TDC (R94–R120). `dflt` is the state of every pair that `pairs` does not list. -/
structure VtdcSt where
  dflt    : Pair := {}
  pairs   : List (Nat × Pair) := []
  windows : Nat := 0
deriving DecidableEq, Repr

/-- A TIU stamp (R122): orbit, slot and fine time. -/
structure Stamp where
  orbit : Nat
  slot  : Nat
  fine  : Nat
deriving DecidableEq, Repr

/-- A UTIL conversion in progress: its pair, launch edge in F-cycles, and count. -/
structure Flight where
  pair   : Nat
  launch : Nat
  n      : Nat
deriving DecidableEq, Repr

/-- The time-interval unit (R121–R129): the latched set-up of a run, the open interval, the unused stop edges in
order, the stop edge that closed the last interval, the inputs that are high, the exact sums, and per input the end of the hold-off and the pair used last. -/
structure TiuSt where
  meas   : Nat := 0
  tmo    : Nat := 0
  openAt : Option Stamp := none
  openSlot : Nat := 0
  stops  : List Stamp := []
  closedBy : Option Stamp := none
  high   : List Nat := []
  x0     : Int := 0
  s1     : Int := 0
  s2     : Int := 0
  holdTo : List (Nat × Nat) := []
  lastB  : List Nat := []
  flights : List Flight := []
deriving DecidableEq, Repr

/-- A tile buffer's hit (R131): its slot since reset, its data entry with parity, and its condition entry if it has one. -/
structure TEntry where
  slots : Nat
  data  : Nat
  dpar  : Nat
  cond  : Option (Nat × Nat) := none
deriving DecidableEq, Repr

/-- A tile's response to a retrieval (R149, R150): words still to send, header first, whether the builder has given it up, and
whether it has delivered a poisoned nugget (R139). -/
structure TResp where
  tag     : Nat
  words   : List Nat
  abandon : Bool := false
  poison  : Bool := false
deriving DecidableEq, Repr

/-- One tile (R130–R147). `drops` are the slots, since reset, that carry a drop mark. -/
structure Tile where
  buf   : List TEntry := []
  drops : List Nat := []
  resp  : List TResp := []
  pins  : List (Nat × Nat × Nat) := []
deriving DecidableEq, Repr

/-- A tile's part of an open fragment (R153, R154): header seen, words it announced and words that arrived; whether it was out of
service when the retrieval started (R155). -/
structure TPart where
  hdr     : Bool := false
  ovf     : Bool := false
  count   : Nat := 0
  words   : List Nat := []
  moved   : Nat := 0
  missing : Bool := false
  strike  : Bool := false
  out     : Bool := false
deriving DecidableEq, Repr

/-- What a retrieval is for (R141): an applied accept, a speculative release, a STREAMING slot group, an evidence
retrieval, or a window read for the tally alone (R197). -/
inductive RKind where
  | accept | spec | stream | evidence | tally
deriving DecidableEq, Repr

/-- A retrieval and the fragment it opens (R141, R152–R155, R254): window and trigger slot since reset, and header data; the
F-cycles since reset at which it started at the tiles and at which its first header came (R154). -/
structure Frag where
  tag     : Nat
  kind    : RKind
  first   : Nat
  last    : Nat
  trig    : Nat
  trigger : Nat := 0
  orbit   : Nat := 0
  slot    : Nat := 0
  src     : Nat := 0
  winLen  : Nat := 1
  winOfs  : Int := 0
  late    : Bool := false
  frozen  : Bool := false
  started : Bool := false
  issued  : Nat := 0
  began   : Nat := 0
  firstHdr : Option Nat := none
  parts   : List (Nat × TPart) := []
  tally   : Bool := false
deriving DecidableEq, Repr

/-- A closed fragment (R153, R254): its retrieval, its nuggets in order, each with the conditions and POISON of its word,
its missing-tile and overflow maps, and PHASE_WARN. -/
structure Built where
  frag    : Frag
  nuggets : List (Nat × Nat × Bool)
  miss    : Nat
  ovf     : Nat
  warn    : Bool
deriving DecidableEq, Repr

/-- Fragment assembly (R151–R155): open fragments, oldest first; the next tag; closed fragments waiting for a
Facet engine or the buffer; the next STREAMING group; retrievals other than accepts' that wait for room (R152); and the last slot
captured, since reset, while the die has left RUNNING or HOLD and its tiles still complete their retrievals (R133). -/
structure AsmSt where
  frags   : List Frag := []
  nextTag : Nat := 0
  closed  : List Built := []
  groupFrom : Option Nat := none
  groupNo : Nat := 0
  groupOrbit : Nat := 0
  waits   : List Frag := []
  flush   : Option Nat := none
deriving DecidableEq, Repr

/-- Fault handling (R452–R466). Units are keyed type × 2^20 + index. `waiting` holds alert records that wait for the
die's number (R465). -/
structure FaultSt where
  strikes : List (Nat × Nat) := []
  retired : List Nat := []
  pending : List Nat := []
  lowered : List Nat := []
  started : Bool := false
  count   : List (Nat × Nat) := []
  log     : List (Nat × List Byte) := []
  waiting : List (List Byte) := []
deriving DecidableEq, Repr

/-- A waiting requester of an arbiter (R231): requester, its class, declared length and progress, whether its frame on the
link stands suspended (R247, R293), and the payload bytes of the frame that the length declares. -/
structure ArbReq where
  r    : Nat
  cls  : Nat
  len  : Nat
  prog : Nat := 0
  susp : Bool := false
  pay  : Nat := 0
deriving DecidableEq, Repr

/-- One arbiter instance (R230–R239): the owner's transfer, its grant class, whether the grant is only parked, the waiting
requesters in the order in which they joined, the window's class-2 and class-3 grant counts, and, in F-cycles since reset, the
window's start and the start of the canary's count: the grant, the last word moved, or the return of credit (R241). -/
structure Arb where
  owner  : Option ArbReq := none
  gclass : Nat := 0
  parked : Bool := false
  wait   : List ArbReq := []
  q2     : List (Nat × Nat) := []
  q3     : List (Nat × Nat) := []
  conf   : Bool := false
  winFrom : Nat := 0
  since  : Nat := 0
deriving DecidableEq, Repr

/-- Partitions of the fragment output buffer (R268). -/
inductive Part where
  | resp | alert | mon | dump | quar | frag
deriving DecidableEq, Repr

/-- A unit in the fragment output buffer (R263, R268): stream, origin, Q, the drift port it came from (16: the die's own),
the partition that counts it, its bytes so far, those of them counted in the fragment partition instead, the bytes sent on the SHAFT and on the ALT_SHAFT uplink and the SEQ of its
last frame there, whether its last byte is here, whether it ended aborted, whether it has left the die and waits only for
its ACK (R339), and whether its further pieces are discarded (R189); `cuts` are the ends of the pieces in which its bytes came (R266). `named` and `orbit` serve a clasp pair (R344). -/
structure BUnit where
  stream : Nat
  origin : Nat
  q      : Bool
  port   : Nat := 16
  part   : Part
  bytes  : List Byte
  spill  : Nat := 0
  sentA  : Nat := 0
  sentB  : Nat := 0
  seqA   : Option Nat := none
  seqB   : Option Nat := none
  whole  : Bool := true
  abort  : Bool := false
  left   : Bool := false
  drop   : Bool := false
  cuts   : List Nat := []
  named  : Bool := false
  orbit  : Nat := 0
deriving DecidableEq, Repr

/-- The fragment output buffer (R268). -/
structure BufSt where
  units : List BUnit := []
deriving DecidableEq, Repr

/-- A closed fragment in a Facet engine or waiting in order behind one (R279): its engine (4: none), TSEL, and the
fragment's unit once its coding has ended. -/
structure FacetJob where
  engine : Nat
  tsel   : Nat
  built  : Built
  done   : Option (List Byte) := none
deriving DecidableEq, Repr

/-- The Facet engines (R276, R279): fragments waiting for a free engine, the fragments in order of leaving assembly, and the table that was cheapest over the last
coded fragment with hits since RUNNING was entered. -/
structure FacetSt where
  wait : List Built := []
  jobs : List FacetJob := []
  best : Nat := 1
deriving DecidableEq, Repr

/-- An entry of the accept queue (R169): the message, its apply slot since reset, whether its accept counts, lateness, and whether
its window is read for the tally alone (R197). -/
structure TrigEntry where
  msg    : TrigMsg
  apply  : Nat
  accept : Bool
  late   : Bool := false
  tally  : Bool := false
deriving DecidableEq, Repr

/-- The primitives of one group of four slots (R178, R179): first slot since reset, its orbit and slot, the slots covered,
the die's own primitives so far, and the children's. -/
structure PrimGroup where
  first : Nat
  orbit : Nat
  slot  : Nat
  count : Nat
  own   : List (Nat × Nat) := []
  kids  : List (Nat × List Nat) := []
deriving DecidableEq, Repr

/-- How the origin has resolved a released slot (R187). -/
inductive SpecRes where
  | pending | confirmed | cancelled
deriving DecidableEq, Repr

/-- A slot released speculatively by this die (R185–R187, R192): slot since reset, orbit and slot, the accept that named it, whether
its fragment has begun to leave the die, and its resolution. -/
structure Release where
  h      : Nat
  orbit  : Nat
  slot   : Nat
  accept : Option TrigEntry := none
  left   : Bool := false
  res    : SpecRes := .pending
  done   : Bool := false
deriving DecidableEq, Repr

/-- A speculation identity: origin, orbit, slot (R186). -/
structure SpecId where
  origin : Nat
  orbit  : Nat
  slot   : Nat
deriving DecidableEq, Repr

/-- A resolution table entry (R191): the identity, the CONFIRM or CANCEL, and the slot at which it is discarded. -/
structure Resolution where
  id      : SpecId
  confirm : Bool
  msg     : SpecMsg
  expire  : Nat
deriving DecidableEq, Repr

/-- The trigger engine (R157–R194). `demoted` says that a SPECULATIVE die runs as TRIGGERED until it is written anew (R30); `edges` are the leading edges of the last slots as (slot since reset, channel);
`injs` the injection windows of the last slots; `forwarded` the identities sent on (R189) with the port they came from.
`evt` is the number of the last applied accept (R168); own primitives are formed for the slots below `ownTo` (R179); `drive` holds
the primitives that a root drives, by slot since reset (R180); `busyWas` holds (t, v): BUSY_OUT was v in the slots before t (R175);
`tprim` and `busyHeld` are what a clasp switch-over holds. -/
structure TrgSt where
  tokens    : Nat := 8
  refillAt  : Nat := 0
  forced    : Bool := false
  lastNamed : Nat := 0
  queue     : List TrigEntry := []
  ready     : List TrigEntry := []
  ownBusy   : Bool := false
  kidBusy   : List Nat := []
  groups    : List PrimGroup := []
  sentTo    : Nat := 0
  tprim     : Nat := 0x80
  edges     : List (Nat × Nat) := []
  injs      : List InjWin := []
  tests     : List InjWin := []
  frozen    : Bool := false
  frozenWin : Option InjWin := none
  unfreeze  : Bool := false
  releases  : List Release := []
  lastRel   : Option Nat := none
  forwarded : List (SpecId × Nat × Nat) := []
  table     : List Resolution := []
  demoted   : Bool := false
  evt       : Nat := 0xFFFFFFFF
  ownTo     : Nat := 0
  drive     : List (Nat × Nat) := []
  busyWas   : Nat × Bool := (0, true)
  busyHeld  : Bool := true
deriving DecidableEq, Repr

/-- One lane (R290–R323): training attempts without lock, consecutive low eyes, out of our striping at the partner's HOLD,
our receiver held for a retrain, excluded by the partner's SLEEP, waiting for a rejoining ALIGN on receive, waking its
transmitter, discarding until its next ALIGN, the next ALIGN count, its far-end loop (0 none, 1 requested, 2 granted to
us, 3 returning the partner's blocks), whether its next wake trains it (R320), and while its PRBS checker runs the F-cycle since
reset from which it does, with the bits since then that do not count or are counted already (R322). -/
structure LaneSt where
  attempts : Nat := 0
  lowEyes  : Nat := 0
  txHeld   : Bool := false
  rxHeld   : Bool := false
  rxSleep  : Bool := false
  rejoin   : Bool := false
  waking   : Bool := false
  lost     : Bool := false
  align    : Option Nat := none
  loop     : Nat := 0
  peerLock : Bool := false
  trainDue : Bool := false
  prbs     : Option (Nat × Nat) := none
deriving DecidableEq, Repr

/-- A frame in the replay buffer (R310, R312): virtual channel, SEQ, bytes as sent, transmissions so far, and whether it is
to be sent again. -/
structure TxFrame where
  vc    : Nat
  seq   : Nat
  bytes : List Byte
  sends : Nat := 1
  again : Bool := false
deriving DecidableEq, Repr

/-- One virtual channel of a port (R308–R312): next SEQ to send, units at UP, units taken, last cumulative CREDIT; next SEQ
expected, whether a NAK waits for it, and units returned; the F-cycle since reset from which the oldest frame waits for its ACK. -/
structure Vc where
  txSeq  : Nat := 0
  start  : Nat := 64
  taken  : Nat := 0
  cum    : Nat := 0
  rxSeq  : Nat := 0
  nakked : Bool := false
  given  : Nat := 0
  since  : Nat := 0
deriving DecidableEq, Repr

/-- A piece as received (R263). -/
structure Piece where
  stream : Nat
  origin : Nat
  q      : Bool
  first  : Bool
  last   : Bool
  abort  : Bool
  bytes  : List Byte
deriving DecidableEq, Repr

/-- A frame whose pieces wait in a port's receive stage (R268): its credit units and the pieces not yet admitted. -/
structure Staged where
  units  : Nat
  pieces : List Piece
deriving DecidableEq, Repr

/-- The key of one direction of a session (R402, R404): traffic key, salt and counter (transmit: next; receive: last). -/
structure DirKey where
  key  : List Byte
  salt : List Byte
  ctr  : Nat := 0
deriving DecidableEq, Repr

/-- A link or end-to-end session (R401–R406): own and partner's HELLO, the draw that made the ephemeral secret and whether it
still exists, the confirm keys, the derived keys that wait for FINISH, the keys in force, the keys of a rekey before their
first frame, the old receive key with the VCs that have passed to the new one and the slot since reset it ends in, the orbit of
the last keying, whether a failed attempt forbids BASE, whether a failed rekey is to be tried again, the counts at which the old
keys then end, and the F-cycle since reset in which the attempt began or failed. -/
structure Sess where
  mine    : List Byte := []
  peer    : List Byte := []
  eph     : Option Nat := none
  confTx  : List Byte := []
  confRx  : List Byte := []
  dTx     : Option DirKey := none
  dRx     : Option DirKey := none
  tx      : Option DirKey := none
  rx      : Option DirKey := none
  txNew   : Option DirKey := none
  rxNew   : Option DirKey := none
  rxOld   : Option DirKey := none
  rxPhase : Nat := 0
  movedVc : List Nat := []
  oldEnds : Nat := 0
  keyedAt : Nat := 0
  retry   : Bool := false
  redo    : Bool := false
  ends    : Option (Nat × Nat) := none
  since   : Nat := 0
deriving DecidableEq, Repr

/-- One port (R284–R323): its lanes in order, the three virtual channels, replay buffer, VC0 and VC1 frames waiting for
credit (VC, TYPE, payload), the receive stage, the last TRAIN set and its repeats, the ALIGN count sent, the VC of a suspended
received frame, the number of the partner, whether its NEW_CHILD is unanswered or was refused, whether an ASSIGN has come here
since UP, the orbit of its last marker and whether that carried HOLDOVER, the sum and number of the round trips of its exchanges, the orbit and the
64 slots of it in which its last exchange began (R53), its rate as bits per F-cycle N / D (R286), whether its lanes re-run TRAIN
before replay resumes (R312), and its session. -/
structure PortSt where
  lanes   : List Nat := []
  v0      : Vc := {}
  v1      : Vc := {}
  v2      : Vc := {}
  replay  : List TxFrame := []
  waiting : List (Nat × Nat × List Byte) := []
  stage   : List Staged := []
  set     : Option TrainSet := none
  same    : Nat := 0
  peerVc2 : Nat := 0
  ready   : Bool := false
  locked  : Bool := false
  count   : Nat := 0
  susp    : Option Nat := none
  kid     : Nat := 0x3FF
  asked   : Bool := false
  refused : Bool := false
  joined  : Bool := false
  heard   : Option Nat := none
  heardHold : Bool := false
  rttSum  : Int := 0
  rttCnt  : Nat := 0
  probed  : Option (Nat × Nat) := none
  rate    : Nat × Nat := (2, 1)
  retrain : Bool := false
  sess    : Sess := {}
deriving DecidableEq, Repr

/-- A numbered die in a root's table (R330–R333): its number, its parent's and the drift index there (0xF where a copy of the
table did not give it, R352), its level, and the parent of its alternate join. -/
structure Join where
  die    : Nat
  parent : Nat
  drift  : Nat
  level  : Nat
  alt    : Option Nat := none
deriving DecidableEq, Repr

/-- The tree (R324–R341): the range is fixed, a switch of the port in use is due (R337) and whether because the port went
DOWN, the numbers last routed over each port (HINT, R328), a root's table, the roots that the last HOME with DUP named (R335),
the dies to which a root has sent HOME with DUP, and the witness round with its reporters and silent reports. -/
structure TreeSt where
  fixed    : Bool := false
  switch   : Bool := false
  lostDown : Bool := false
  lastDie  : List (Nat × Nat) := []
  joins    : List Join := []
  roots    : List Nat := []
  dups     : List Nat := []
  round    : Option Nat := none
  heard    : List Nat := []
  silent   : List Nat := []
deriving DecidableEq, Repr

/-- A DIG that waits for its ECHO: SEQ, digest, and the slot since reset it was sent in (R344, R346). -/
structure DigOut where
  seq    : Nat
  digest : Nat
  at'    : Nat
deriving DecidableEq, Repr

/-- The clasp pair (R342–R353): the outputs held during a switch-over; the role before CHECK; whether the member has been
paired, and the digest it paired with; DIGs that wait for ECHO; the exclusive OR of the DIGESTs through SEQ; the last trigger
number at the last firing of CLASP_DIGEST; the orbit of the peer's last STATE, and one that waits for the shadow to reach its
SEQ; the self-check's results, its start slot, and the counters at the last check; the clasp link, and the orbit in which it was
lost; the round whose majority has been acted on, and consecutive majorities seen while DETACHED; the copy as its source, with the
bytes sent, and as its destination, with the bytes loaded and the counters that wait for the next orbit start; and whether a cold
take-over waits for ARM. -/
structure ClaspSt where
  outHeld    : Bool := false
  before     : Nat := 0
  everPaired : Bool := false
  pairDigest : List Byte := []
  digs       : List DigOut := []
  xors       : Nat := 0
  trigAt     : Nat := 0
  stateHeard : Nat := 0
  stateWaits : Option (Nat × Nat) := none
  ownResult  : Option Nat := none
  peerResult : Option Nat := none
  checkFrom  : Nat := 0
  ueAt       : Nat := 0
  votesAt    : Nat := 0
  linkUp     : Bool := false
  lostOrbit  : Option Nat := none
  judged     : Option Nat := none
  majorities : Nat := 0
  copying    : Bool := false
  copySent   : Nat := 0
  copyDone   : Nat := 0
  counters   : Option (Nat × Nat × Nat) := none
  cold       : Bool := false
deriving DecidableEq, Repr

/-- An end-to-end session that a root holds with an origin: the key in force, the orbit in which it was taken, the key before it
and the orbit in which that one ends (R408). -/
structure E2eKey where
  origin : Nat
  key    : List Byte
  at'    : Nat := 0
  old    : List Byte := []
  oldEnds : Nat := 0
deriving DecidableEq, Repr

/-- Where a capsule came from (R395): a command of a ring, with its index, or a CAP_CHUNK, with SRC and TAG. -/
inductive CapFrom where
  | ring (r ix : Nat)
  | tree (src tag : Nat)
deriving DecidableEq, Repr

/-- The Hallmark (R388–R411): the staged capsule and the die it comes from, the capsule being verified, whether the digest
is being recomputed, the die's own end-to-end session, the sessions a root is opening (by origin) and those it holds, and
the origins sent E2E_RESTART in this orbit. -/
structure HallSt where
  broken   : Bool := false
  staged   : List Byte := []
  stageFor : Nat × Nat := (0x3FF, 0)
  verify   : Option (List Byte × CapFrom) := none
  hashing  : Bool := false
  e2e      : Sess := {}
  opening  : List (Nat × Sess) := []
  keys     : List E2eKey := []
  restarted : List Nat := []
deriving DecidableEq, Repr

/-- One bank's queue of pending increments (R204): the F-cycle to which it has been served, with the part of an update that the
time since has paid for in 2^-32 ns; entry with addend, oldest first; and whether a canary has bitten the oldest (R245). -/
structure BankQ where
  last   : Nat := 0
  rest   : Nat := 0
  q      : List (Nat × Nat) := []
  bitten : Bool := false
deriving DecidableEq, Repr

/-- A soft repair in progress (R225): the row's key (bank × 2,048 + row) and its spare; the copy pointer; the F-cycles that the
copy has run for before its last pause, and the F-cycle since reset from which it runs now, none while it pauses. -/
structure Repair where
  row   : Nat
  spare : Nat
  ptr   : Nat := 0
  ran   : Nat := 0
  since : Option Nat := none
deriving DecidableEq, Repr

/-- The vault (R201, R214–R226). `mem` holds word w as data + check × 2^64; an unlisted word is 0 with valid check bits.
`quota` is the scrubber's quota in 1/256 words, `burst` the words of a burst that wait for a quiet window. -/
structure VaultSt where
  mem     : List (Nat × Nat) := []
  queues  : List (Nat × BankQ) := []
  quota   : Nat := 0
  burst   : Nat := 0
  passCe  : Nat := 0
  passPo  : Nat := 0
  recent  : List (Nat × Nat) := []
  rows    : List Nat := []
  done    : List Nat := []
  repair  : Option Repair := none
deriving DecidableEq, Repr

/-- The place of a dump's sweep (R210). -/
inductive DumpAt where
  | first | hist | occ | cnt | sum | last
deriving DecidableEq, Repr

/-- A dump in progress (R208–R213): selection, KEEP, number, the next record and its index, records written, and whether it
was cut short. -/
structure Dump where
  sel     : Nat
  keep    : Bool
  id      : Nat
  at'     : DumpAt
  ix      : Nat := 0
  sent    : Nat := 0
  partial' : Bool := false
deriving DecidableEq, Repr

/-- The tally engine (R195–R213): the 31-bit sequence, this orbit's demand, the interval's peak demand, whether the interval
lost an increment or is INEXACT, START_ORBIT, and the dump in progress. `mem` is the counter memory (R195): words 0 to 8,191 hold
two hit counts each, words 8,192 to 24,575 one TOT sum, as data + check × 2^64; an unlisted word is 0 with valid check bits. -/
structure TallySt where
  lfsr    : Nat := 1
  demand  : Nat := 0
  peak    : Nat := 0
  lost    : Bool := false
  inexact : Bool := false
  startOrbit : Nat := 0
  began   : Bool := false
  dump    : Option Dump := none
  mem     : List (Nat × Nat) := []
deriving DecidableEq, Repr


/-- What the converter converts (R420–R437): nothing, a sequencer entry, the injected input, a calibration, or the scope. -/
inductive MonWork where
  | idle | entry (j : Nat) | inj | cal | scope
deriving DecidableEq, Repr

/-- The coefficients and excitation latched for a conversion (R416, R433): the gain index, the excitation word, offset, user offset
and gain. -/
structure MonCoef where
  g     : Nat := 0
  exc   : Nat := 0
  drift : Int := 0
  ofs   : Int := 0
  gain  : Nat := 0x400000
deriving DecidableEq, Repr

/-- A scope capture (R435–R440): its input and ODR as armed, capture in progress, converter taken, outputs still to discard, samples in index order, pre-
and post-trigger counts in force, the trigger's index, the sample before, FORCE and calendar trigger not yet used, the samples
looked at for a trigger, AUTO due and used, the violation, the trigger's orbit and slot, the capture's number, the first sample of each record part still to be
written, and whether a violation stops REPEAT. -/
structure ScopeSt where
  input  : Nat := 0
  odr    : Nat := 0
  on     : Bool := false
  begun  : Bool := false
  skip   : Nat := 3
  buf    : List Int := []
  pre    : Nat := 0
  post   : Nat := 1
  trig   : Option Nat := none
  prev   : Option Int := none
  force  : Bool := false
  cal    : Bool := false
  waits  : Nat := 0
  autoDue : Bool := false
  auto   : Bool := false
  viol   : Option (Nat × Int) := none
  orbit  : Nat := 0
  slot   : Nat := 0
  number : Nat := 0
  parts  : List Nat := []
  shown  : Bool := false
  stop   : Bool := false
deriving DecidableEq, Repr

/-- The monitor converter (R412–R441): its work and whether a guard precedes it, a guard owed, the input, ODR code and coefficients
latched for it, its output periods and the F-cycle since reset in which they began, the pass in progress with its number, start
and items, an injected request that waits, with its input and ODR, and the injected count, the calibration operations that wait,
with their ODR, and the scope. -/
structure MonSt where
  work    : MonWork := .idle
  guard   : Bool := false
  owed    : Bool := false
  k       : Nat := 0
  odr     : Nat := 0
  coef    : MonCoef := {}
  outs    : Nat := 0
  since   : Nat := 0
  inPass  : Bool := false
  items   : List (List Byte) := []
  orbit   : Nat := 0
  slot    : Nat := 0
  resume  : Option Nat := none
  injWait : Bool := false
  injK    : Nat := 0
  injOdr  : Nat := 0
  injNo   : Nat := 0
  calQ    : List (Nat × Nat) := []
  calOdr  : Nat := 0
  scope   : ScopeSt := {}
deriving DecidableEq, Repr

/-- Where a command that the device has read stands (R365, R366): not issued; in the Hallmark; sent as a VC0 message, with its
TAG; waiting for its response record; completed, with status, detail, data and answering die, but not yet written. -/
inductive CmdAt where
  | waiting
  | inside
  | flight (vtag : Nat)
  | record
  | done (status detail data die : Nat)
deriving DecidableEq, Repr

/-- A command read from a ring (R365): its index, its fields, where it stands, and the F-cycle since reset in which it left for
its target (R366). -/
structure HCmd where
  ix    : Nat
  op    : Nat
  flags : Nat
  die   : Nat
  tag   : Nat
  arg0  : Nat
  arg1  : Nat
  arg2  : Nat
  place : CmdAt := .waiting
  since : Nat := 0
deriving DecidableEq, Repr

/-- A host buffer read from a DATA ring (R369): its index, address, length and cookie. -/
structure HBuf where
  ix   : Nat
  addr : Nat
  len  : Nat
  id   : Nat
deriving DecidableEq, Repr

/-- The host port (R355–R387): per ring the commands and buffers read and not yet completed, per ring group the vectors of
the completions written since it last signalled, the doorbell blocks being read with whether one further read is due, the
accepted features, D3hot, MSI-X Enable and Function Mask, other words of configuration space, the next VC0 TAG, the
primitive record being filled: orbit, first slot, bytes; and in F-cycles since reset the first of a group's completions (R384),
the start of a ring's wait for buffers (R375) and the last poll of the doorbells (R380). -/
structure HifSt where
  cmds   : List (Nat × List HCmd) := []
  bufs   : List (Nat × List HBuf) := []
  coal   : List (Nat × List Nat) := []
  nudges : List (Nat × Bool) := []
  feats  : Nat := 0
  d3     : Bool := false
  msixOn : Bool := false
  msixMask : Bool := false
  cfg    : List (Nat × Nat) := []
  vtag   : Nat := 0
  tprims : Option (Nat × Nat × List Byte) := none
  coalAt : List (Nat × Nat) := []
  waitAt : List (Nat × Nat) := []
  pollAt : Nat := 0
deriving DecidableEq, Repr

/-- The configuration window (R33, R67, R469, R470): words latched by the read of a lower word, and lower words of a write
that wait for the highest. -/
structure BusSt where
  latched : List (Nat × Nat) := []
  held    : List (Nat × Nat) := []
deriving DecidableEq, Repr

/-- The JTAG TAP (R496): the instruction loaded, whether it is EXTEST, and the boundary register. -/
structure TapSt where
  ir       : Nat := 0
  extest   : Bool := false
  boundary : List Bool := []
deriving DecidableEq, Repr

/-- What the die puts out: injected charge on a group of channels, with its polarity, slot since reset and F-cycle; primitives on TPRIM_OUT from a slot on; a control or timing
block; a frame; a command carried to another die, whose message the manual does not give (log 21); a write to host memory, a read
of it, and an MSI-X message; the value of a register read at a BAR, with EP; and a PTM request. -/
inductive Out where
  | inject (k stride charge : Nat) (positive : Bool) (slot fcyc : Nat)
  | tprim (slot : Nat) (prims : List Nat)
  | block (port typ content : Nat)
  | frame (port : Nat) (bytes : List Byte)
  | command (port dst vtag op tag arg0 arg1 : Nat)
  | dmaWrite (addr : Nat) (bytes : List Byte)
  | dmaRead (addr len : Nat)
  | msix (addr data : Nat)
  | readback (value : Nat) (ep : Bool)
  | ptm
  | aer (ring : Nat)
deriving DecidableEq, Repr

/-- Reasons for which the block stops. -/
inductive Fault where
  /-- Raised by no command: the part reports every error in its own registers and goes on. Safe. -/
  | unreached
deriving DecidableEq, Repr

/-- Reasons for which a command is not run. -/
inductive Refusal where
  /-- Raised by an arm of `exec` whose command has no meaning here yet. Safe. -/
  | notModelled (mnemonic : String)
deriving DecidableEq, Repr

/-- The die: its register words by configuration offset, the state of each block that registers do not show whole, its fuses,
what it has put out, the counter of open values (log 3), and the commands that wait. -/
structure State where
  regs    : List (Nat × Word) := []
  sys     : SysSt := {}
  time    : TimeSt := {}
  phase   : PhaseSt := {}
  wall    : WallSt := {}
  fe      : FeSt := {}
  vtdc    : VtdcSt := {}
  tiu     : TiuSt := {}
  tiles   : List (Nat × Tile) := []
  asm     : AsmSt := {}
  arbs    : List (Nat × Arb) := []
  trg     : TrgSt := {}
  buf     : BufSt := {}
  facet   : FacetSt := {}
  lanes   : List (Nat × LaneSt) := []
  ports   : List (Nat × PortSt) := []
  tally   : TallySt := {}
  vault   : VaultSt := {}
  tree    : TreeSt := {}
  clasp   : ClaspSt := {}
  hall    : HallSt := {}
  mon     : MonSt := {}
  hif     : HifSt := {}
  bus     : BusSt := {}
  tap     : TapSt := {}
  fault   : FaultSt := {}
  fuse    : FuseSt := {}
  out     : List Out := []
  free    : Nat := 0
  pending : List Instr := []
deriving DecidableEq, Repr


/-- The die as reset is released after a power-on (R19, R443, R445): INIT, strapped as a leaf with CLASP_ID low (log 31), every
register at its reset value, those that follow the role at a leaf's (R12, R37, R70, R74, R285), one boot fuse burnt (R390). -/
def State.reset : State :=
  { regs := [(Reg.ORB_CLK, 1), (Reg.WALL_SERVO, 0x6401), (Reg.PORT_CFG 0, 0x4000000F), (Reg.FE_CTRL, 1)]
    fuse := { boots := 1 } }

end Sys2Proof.Machine
end

