-- ==== Sys2Proof/Machine/Ops.lean ====
section
/-! DEFINITION. The named operations every meaning is written over: register words and fields, counters (R27, R462),
open values, output, elapsed time (R32, R65), run-state transitions (R19), and how a meaning becomes an outcome. -/

namespace Sys2Proof.Machine

/-! Registers. -/

/-- The word held at configuration offset `a`. -/
def State.rd (s : State) (a : Nat) : Nat := (sget (resetWord a) s.regs a).toNat

/-- Hold word `v` at configuration offset `a`. -/
def State.wr (s : State) (a v : Nat) : State :=
  { s with regs := sset (resetWord a) s.regs a (BitVec.ofNat 32 v) }

/-- The value of a register field. -/
def State.get (s : State) (f : Fld) : Nat := bitsOf (s.rd f.reg) f.lo f.w

/-- Hold `v` in a register field; the register's other bits stay. -/
def State.put (s : State) (f : Fld) (v : Nat) : State := s.wr f.reg (setBits (s.rd f.reg) f.lo f.w v)

/-- A one-bit field is set. -/
def State.on (s : State) (f : Fld) : Bool := s.get f != 0

/-- A register read as a signed 32-bit number. -/
def State.rdS (s : State) (a : Nat) : Int := toSigned 32 (s.rd a)

/-- A field read as a signed number of its width. -/
def State.getS (s : State) (f : Fld) : Int := toSigned f.w (s.get f)

/-- Hold a signed number in a register. -/
def State.wrS (s : State) (a : Nat) (z : Int) : State := s.wr a (ofSigned 32 z)

/-- A 32-bit saturating counter rises by `n`. -/
def State.incBy (s : State) (a n : Nat) : State := s.wr a (min (s.rd a + n) 0xFFFFFFFF)

/-- A 32-bit saturating counter rises by 1. -/
def State.inc (s : State) (a : Nat) : State := s.incBy a 1

/-- A wrapping 32-bit count rises by 1. -/
def State.incWrap (s : State) (a : Nat) : State := s.wr a (s.rd a + 1)

/-- A 64-bit wrapping counter, low word at `a`, rises by `n`. -/
def State.inc64 (s : State) (a n : Nat) : State :=
  let v := s.rd a + s.rd (a + 4) * 2 ^ 32 + n
  (s.wr a (v % 2 ^ 32)).wr (a + 4) (v / 2 ^ 32)

/-- A register of two words, low word first. -/
def State.rd64 (s : State) (a : Nat) : Nat := s.rd a + s.rd (a + 4) * 2 ^ 32

/-- A two-word register takes a number, modulo 2^64. -/
def State.wr64 (s : State) (a v : Nat) : State := (s.wr a (v % 2 ^ 32)).wr (a + 4) (v / 2 ^ 32 % 2 ^ 32)

/-- Bytes of a register area, four per word, little-endian (R4). -/
def State.wrBytes (s : State) (a : Nat) : List Byte → State
  | b0 :: b1 :: b2 :: b3 :: rest =>
    (s.wr a (b0.toNat + b1.toNat * 2 ^ 8 + b2.toNat * 2 ^ 16 + b3.toNat * 2 ^ 24)).wrBytes (a + 4) rest
  | _ => s

/-! Open values and output. -/

/-- A fresh open value (log 3). -/
def State.fresh (s : State) : Nat × State := (Config.freeValue s.free, { s with free := s.free + 1 })

/-- The die puts something out. -/
def State.emit (s : State) (o : Out) : State := { s with out := s.out ++ [o] }

/-- The die puts several things out, in order. -/
def State.emits (s : State) (os : List Out) : State := { s with out := s.out ++ os }

/-! Run state (R19–R22). -/

/-- The role counts as relay (R12: factory test takes a relay's values). -/
def State.isRoot (s : State) : Bool := decide (s.sys.role = .root)

/-- The die is a leaf. -/
def State.isLeaf (s : State) : Bool := decide (s.sys.role = .leaf)

/-- The READY flag and ball (R22). -/
def RunState.isReady : RunState → Bool
  | .ready | .armed | .running | .hold => true
  | _ => false

/-- RUNNING or HOLD, the states that capture. -/
def RunState.capturing : RunState → Bool
  | .running | .hold => true
  | _ => false

/-- The transitions of R19 that a command other than a reset can make; a die may stay where it is. -/
def RunState.allowed : RunState → RunState → Bool
  | .init, .ready | .init, .safe => true
  | .ready, .armed | .ready, .safe => true
  | .armed, .ready | .armed, .running | .armed, .safe => true
  | .running, .ready | .running, .hold | .running, .safe => true
  | .hold, .running | .hold, .ready | .hold, .safe => true
  | a, b => decide (a = b)

/-- `TRG_STATUS.RATE_LIMITED` (R160, root only). -/
def State.rateLimited (s : State) : Bool := s.isRoot && decide (s.trg.tokens < s.get F.TRG_RATE_BUSY_TOKENS)

/-- What a root drives BUSY_OUT high for (R175). -/
def State.busyCause (s : State) : Bool := s.on F.TRG_STATUS_BUSY || s.rateLimited || decide (s.sys.run ≠ .running)

/-- BUSY_OUT keeps its level in the slot in which its cause changed, from `s` to `t` (R175). -/
def State.busyFollows (s t : State) : State :=
  if t.busyCause = s.busyCause ∨ t.trg.busyWas.1 = t.time.slots + 1 then t
  else { t with trg := { t.trg with busyWas := (t.time.slots + 1, s.busyCause) } }

/-- Enter a run state; the READY ball follows (R22, R494). On entry to RUNNING the accept bucket is full, the counts of
R162 and R279 start (R160), and no FORCE of before stands (R159). -/
def State.enter (s : State) (r : RunState) : State :=
  let s1 := { s with sys := { s.sys with run := r, readyBall := r.isReady, holdOrbits := 0,
                                         stopPend := s.sys.stopPend && r.capturing } }
  s.busyFollows (if r = .running then
    { s1 with
      trg := { s1.trg with tokens := max 1 (s.get F.TRG_RATE_BURST), refillAt := s.time.slots, lastNamed := s.time.slots - 1
                           forced := false }
      facet := { s1.facet with best := 1 } }
  else s1)

/-- The outcome of a command whose effect is `t`, in any run state: the queue is the step's, the role is held until the next reset
(R11), the run state changes only by R19's table, and the READY ball follows it (R22). -/
def finishAny (s t : State) : Host.Outcome State Fault Refusal :=
  let run := if RunState.allowed s.sys.run t.sys.run then t.sys.run else s.sys.run
  .next { t with
    pending := s.pending
    sys := { t.sys with role := s.sys.role, run := run, readyBall := run.isReady } }

/-- The outcome of a command whose effect is `t`: a die held in RESET does nothing (R19, R443). -/
def finish (s t : State) : Host.Outcome State Fault Refusal := if s.sys.run = .reset then .next s else finishAny s t

/-- The outcome of a reset command, which alone leaves RESET and SAFE and samples the role (R11, R23). -/
def finishReset (s t : State) : Host.Outcome State Fault Refusal := .next { t with pending := s.pending }

/-! Elapsed time (R32, R65). -/

/-- What one F-cycle adds to WALL, in 2^-32 ns (R65): the division is a floor. -/
def State.wallInc (s : State) : Int :=
  let nom : Int := s.rd Reg.WALL_NOM
  nom + (nom * s.rdS Reg.WALL_ADJ) / 2 ^ 32

/-- WALL wraps with its 48-bit seconds (R65). -/
def wallModulus : Nat := 2 ^ 48 * 1000000000 * 2 ^ 32

/-- WALL set to `z` units of 2^-32 ns. -/
def State.setWall (s : State) (z : Int) : State :=
  { s with wall := { s.wall with t := (z % (wallModulus : Int)).toNat } }

/-! Quiet windows (R52). -/

/-- Slot `t` since reset lies in a quiet window. -/
def State.quietAt (s : State) (t : Nat) : Bool := s.time.quiets.any (fun w => decide (w.1 ≤ t ∧ t < w.2))

/-- A pair in a bulk pass stops until it resumes (R113). -/
def Pair.stop (p : Pair) : Pair := { p with stopped := true }

/-- The pairs of a bulk pass stop (R113). -/
def State.stopPairs (s : State) : State :=
  if s.on F.VTDC_STATUS_BULK_ACTIVE then
    let d := s.vtdc.dflt.stop
    { s with vtdc := { s.vtdc with
        dflt := d
        pairs := (s.vtdc.pairs.map (fun p => (p.1, p.2.stop))).filter (fun p => decide (p.2 ≠ d)) } }
  else s

/-- The copy of a repair pauses at F-cycle `f` since reset (R225). -/
def Repair.pause (f : Nat) (r : Repair) : Repair :=
  match r.since with
  | some b => { r with ran := r.ran + (f - b), since := none }
  | none => r

/-- Quiet-only work stops at F-cycle `f` since reset (R52): the pairs of a bulk pass (R113), and the copy of a repair (R225). -/
def State.stopQuietWork (s : State) (f : Nat) : State :=
  let t := s.stopPairs
  { t with vault := { t.vault with repair := t.vault.repair.map (Repair.pause f) } }

/-- The F-cycle since reset at which the window that was open last has ended, at the latest now. -/
def State.quietEndF (s : State) : Nat :=
  let now := s.time.slots * 64 + s.time.fcyc
  match s.time.quiets with
  | w :: _ => min now (w.2 * 64)
  | [] => now

/-- The quiet window has ended (R52): a bulk pass counts it (R113), the words left of a burst are dropped (R221), and in RUNNING
and HOLD quiet-only work stops. -/
def State.closeQuiet (s : State) : State :=
  let s1 := s.put F.ORB_STATUS_QUIET 0
  let s2 := { s1 with vault := { s1.vault with burst := 0 } }
  let s3 := if s.on F.VTDC_STATUS_BULK_ACTIVE then { s2 with vtdc := { s2.vtdc with windows := s2.vtdc.windows + 1 } } else s2
  if s.sys.run.capturing then s3.stopQuietWork s.quietEndF else s3

/-- The window that is open has passed its last slot. -/
def State.quietOver (s : State) : Bool := s.on F.ORB_STATUS_QUIET && !s.quietAt s.time.slots

/-- Machine time and WALL advance by `n` F-cycles within the orbit, and BUSY slots are counted (R173). -/
def State.pass (s : State) (n : Nat) : State :=
  let f := s.time.fcyc + n
  let d := f / 64
  let s1 := s.setWall (s.wall.t + n * s.wallInc)
  let s2 := { s1 with
    time := { s1.time with
      now := s.time.now + n, slots := s.time.slots + d, fcyc := f % 64,
      slot := if s.time.counting then s.time.slot + d else s.time.slot }
    wall := { s1.wall with sinceAcc := s1.wall.sinceAcc + (n * s.wallInc).toNat } }
  if s.on F.TRG_STATUS_BUSY ∧ 0 < d then s2.incBy Reg.TRG_BUSY_SLOTS d else s2

/-- `n` F-cycles pass within the orbit, and a quiet window ends with its last slot (R52). Nothing moves while the F-clock is
stopped (R446). -/
def State.elapse (s : State) (n : Nat) : State :=
  if s.time.fRun then
    let t := s.pass n
    if t.quietOver then t.closeQuiet else t
  else s

/-- F-cycles from now to F-cycle `f` of slot `slot` of this orbit, or none if that moment is past or beyond the orbit. -/
def State.until? (s : State) (slot f : Nat) : Option Nat :=
  if s.time.fRun ∧ s.time.counting ∧ slot < s.time.len ∧
      s.time.slot * 64 + s.time.fcyc ≤ slot * 64 + f then
    some (slot * 64 + f - (s.time.slot * 64 + s.time.fcyc))
  else none

/-- Time reaches F-cycle `f` of slot `slot` of this orbit; where it cannot, the event does not come about (log 7). -/
def State.reach (s : State) (slot f : Nat) (k : State → State) : State :=
  match s.until? slot f with
  | some n => k (s.elapse n)
  | none => s

/-- Time reaches the start of slot `t`, counted since reset; a moment already past stands, and one beyond this orbit is
not reached (log 7). -/
def State.reachSlot (s : State) (t : Nat) (k : State → State) : State :=
  if t ≤ s.time.slots then k s
  else if s.time.fRun ∧ (s.time.counting → s.time.slot + (t - s.time.slots) < s.time.len) then
    k (s.elapse ((t - s.time.slots) * 64 - s.time.fcyc))
  else s

/-- F-cycles since reset, at 64 a slot. -/
def State.fNow (s : State) : Nat := s.time.slots * 64 + s.time.fcyc

/-- F-cycles in `us` µs at the nominal rate, rounded up (log 106). -/
def State.usCycles (s : State) (us : Nat) : Nat := ceilDiv (us * (1000 * 2 ^ 32)) (max 1 (s.rd Reg.WALL_NOM))

/-- Time reaches F-cycle `t`, counted as `fNow` counts; as `reachSlot`. -/
def State.reachF (s : State) (t : Nat) (k : State → State) : State :=
  if t ≤ s.fNow then k s
  else if s.time.fRun ∧ (s.time.counting → s.time.slot * 64 + s.time.fcyc + (t - s.fNow) < s.time.len * 64) then
    k (s.elapse (t - s.fNow))
  else s

/-- A time in µs has passed since F-cycle `since` (R366, R314). It is counted on a clock of its own, which runs also where the
F-clock does not: then the event alone says that it has (log 106). -/
def State.afterUs (s : State) (since us : Nat) (k : State → State) : State :=
  if s.time.fRun then s.reachF (since + s.usCycles us) k else k s

/-- What comes about in the next orbit's first slot (log 7). -/
def State.defer (s : State) (l : Later) : State := { s with time := { s.time with later := s.time.later ++ [l] } }

/-- Time reaches the next slot's start; in an orbit's last slot that is the next orbit's, for which `l` waits. With the F-clock
stopped the effect comes at once. -/
def State.nextSlot (s : State) (l : Later) (k : State → State) : State :=
  if ¬ s.time.fRun then k s
  else if s.time.counting ∧ s.time.len ≤ s.time.slot + 1 then s.defer l
  else k (s.elapse (64 - s.time.fcyc))

/-- Time reaches the next F-cycle; in an orbit's last F-cycle that is the next orbit's, for which `l` waits, and with the F-clock
stopped it waits for the F-clock to start. -/
def State.nextF (s : State) (l : Later) (k : State → State) : State :=
  if ¬ s.time.fRun ∨ s.time.counting ∧ s.time.len * 64 ≤ s.time.slot * 64 + s.time.fcyc + 1 then s.defer l else k (s.elapse 1)

/-- The slot of the orbit `d` slots before the present one. -/
def State.slotBack (s : State) (d : Nat) : Nat := (s.time.slot + s.time.len - d % s.time.len) % s.time.len

/-- Slot of the orbit of a slot counted since reset, past or to come. -/
def State.slotOf (s : State) (t : Nat) : Nat :=
  if t ≤ s.time.slots then s.slotBack (s.time.slots - t) else (s.time.slot + (t - s.time.slots)) % s.time.len

/-- The live orbit counter, 32 bits (R32, R33). -/
def State.orbitNow (s : State) : Nat := if s.time.counting then s.time.orbit else 0

/-- WALL's seconds. -/
def State.wallSec (s : State) : Nat := s.wall.t / (1000000000 * 2 ^ 32)

/-- WALL's nanoseconds. -/
def State.wallNs (s : State) : Nat := s.wall.t / 2 ^ 32 % 1000000000

/-- A three-word date register takes WALL: seconds low, seconds high, nanoseconds. -/
def State.dateInto (s : State) (a : Nat) : State :=
  ((s.wr a (s.wallSec % 2 ^ 32)).wr (a + 4) (s.wallSec / 2 ^ 32)).wr (a + 8) s.wallNs

/-- STAMP32 (R66). -/
def State.stamp32 (s : State) : Nat := (s.wallSec * 1000000000 + s.wallNs) % 2 ^ 32

end Sys2Proof.Machine
end

