-- ==== Sys2Proof/Machine/Operands.lean ====
section
/-! DEFINITION. The forms in which commands carry data: little-endian bytes (R4), CRC-32C (R259), parity (R138), nugget and
Gallery words (R144, R149), units in the fragment output buffer (R254, R268), and channel geometry (R130). -/

namespace Sys2Proof.Machine

/-- The `n` low bytes of `v`, least significant first (R4). -/
def leBytes : Nat → Nat → List Byte
  | 0, _ => []
  | n + 1, v => BitVec.ofNat 8 v :: leBytes n (v / 256)

/-- The number that little-endian bytes spell (R4). -/
def ofLE : List Byte → Nat
  | [] => 0
  | b :: bs => b.toNat + 256 * ofLE bs

/-- Bytes `o … o+n-1` of a list as a little-endian number; bytes beyond its end count as 0. -/
def byteField (bs : List Byte) (o n : Nat) : Nat := ofLE ((bs.drop o).take n)

/-- Bytes from offset `o` replaced by `new`. -/
def overlay (bs : List Byte) (o : Nat) (new : List Byte) : List Byte :=
  bs.take o ++ new ++ bs.drop (o + new.length)

/-- One bit step of the reflected CRC-32C (R259). -/
def crcStep : Nat → Nat → Nat
  | 0, c => c
  | k + 1, c => crcStep k (if c % 2 = 1 then (c / 2) ^^^ 0x82F63B78 else c / 2)

/-- CRC-32C of bytes: reflected polynomial 0x1EDC6F41, initial value and final exclusive OR all ones (R259). -/
def crc32c (bs : List Byte) : Nat :=
  (bs.foldl (fun c b => crcStep 8 (c ^^^ b.toNat)) 0xFFFFFFFF) ^^^ 0xFFFFFFFF

/-- The parity bits of a 48-bit entry, bit i for byte i (R138). -/
def parity48 (d : Nat) : Nat :=
  (List.range 6).foldl (fun acc i => acc + popCount 8 (d / 256 ^ i % 256) % 2 * 2 ^ i) 0

/-- The data entry of a hit (R131). -/
def dataEntry (slot chan fine tot : Nat) : Nat :=
  slot % 2 ^ 14 * 2 ^ 34 + chan % 64 * 2 ^ 28 + fine % 2 ^ 16 * 2 ^ 12 + tot % 2 ^ 12

/-- The condition entry of a hit (R131). -/
def condEntry (cond : Nat) : Nat := 0x3FFF * 2 ^ 34 + cond % 64

/-- The entries a hit occupies (R131). -/
def TEntry.cost (e : TEntry) : Nat := if e.cond.isSome then 2 else 1

/-- An entry of the hit has a parity error (R138). -/
def TEntry.bad (e : TEntry) : Bool :=
  decide (parity48 e.data ≠ e.dpar) ||
    (match e.cond with | some (c, p) => decide (parity48 c ≠ p) | none => false)

/-- A tile's occupancy in entries (R131). -/
def Tile.occ (t : Tile) : Nat := t.buf.foldl (fun a e => a + e.cost) 0

/-- A slot relative to the trigger slot, −8 to +7 for a window's slots (R144). -/
def relSlot (len slot trig : Nat) : Int :=
  let r := (slot + len - trig % len) % len
  if len ≤ r + 8 then (r : Int) - len else r

/-- The nugget of an entry (R144), FLAGS 0. -/
def nuggetOf (tile len trig data : Nat) : Nat :=
  (tile * 64 + bitsOf data 28 6) * 2 ^ 34 + ofSigned 4 (relSlot len (bitsOf data 34 14) trig) * 2 ^ 30
    + bitsOf data 12 16 * 2 ^ 14 + bitsOf data 0 12 * 2 ^ 2

/-- A Gallery header word (R149). -/
def headerWord (tag tile : Nat) (ovf : Bool) (count : Nat) : Nat :=
  2 * 2 ^ 62 + tag * 2 ^ 56 + tile * 2 ^ 48 + b2n ovf * 2 ^ 32 + count

/-- A Gallery nugget word (R149). -/
def nuggetWord (tag : Nat) (poison : Bool) (cond nugget : Nat) : Nat :=
  2 ^ 62 + tag * 2 ^ 56 + b2n poison * 2 ^ 55 + cond * 2 ^ 48 + nugget

/-- Matrix row and column of a channel (R130). -/
def chanRow (n : Nat) : Nat := bitsOf n 10 4 * 8 + bitsOf n 3 3

/-- Matrix column of a channel (R130). -/
def chanCol (n : Nat) : Nat := bitsOf n 6 4 * 8 + bitsOf n 0 3

/-- The channel at a matrix row and column (R130). -/
def chanAt (row col : Nat) : Nat := (row / 8 * 16 + col / 8) * 64 + row % 8 * 8 + col % 8

/-- The edge neighbours of a channel within the matrix (R83). -/
def neighbours (n : Nat) : List Nat :=
  let r := chanRow n
  let c := chanCol n
  (if 0 < r then [chanAt (r - 1) c] else []) ++ (if r < 127 then [chanAt (r + 1) c] else []) ++
    (if 0 < c then [chanAt r (c - 1)] else []) ++ (if c < 127 then [chanAt r (c + 1)] else [])

/-! The fragment output buffer's partitions (R268). -/

/-- Size of a partition: alert records for alerts, 64-byte units otherwise (R268). -/
def State.partSize (s : State) : Part → Nat
  | .resp => 256
  | .alert => 256
  | .mon => 256
  | .dump => 512
  | .quar => s.get F.TRG_SPEC_Q_QUAR * 128
  | .frag => 8192 - 1152 - s.get F.TRG_SPEC_Q_QUAR * 128

/-- Space that `n` bytes take in a partition (R268). -/
def partCost (p : Part) (n : Nat) : Nat :=
  match p with
  | .alert => ceilDiv n 32
  | _ => ceilDiv n 64

/-- The partition of a stream's units (R262, R268). -/
def partOf (stream : Nat) : Part :=
  if stream = 2 then .dump else if stream = 3 then .mon else if stream = 4 then .resp
  else if stream = 5 then .alert else .frag

/-- The bytes of a unit that still take space: all of it until its last piece leaves, and of a unit still arriving what has
not been sent on (R266–R268, log 13). -/
def BUnit.held (u : BUnit) : Nat :=
  if u.left then 0 else if u.whole then u.bytes.length else u.bytes.length - max u.sentA u.sentB

/-- Space in use in a partition: its units, and in the fragment partition the pieces that found their own full (R268). -/
def State.partUsed (s : State) (p : Part) : Nat :=
  s.buf.units.foldl (fun a u =>
    a + (if u.part = p then partCost p (u.held - u.spill) else 0)
      + (if p = .frag then partCost .frag (min u.held u.spill) else 0)) 0
    + (if p = .alert then s.fault.waiting.length else 0)

/-- Free space of a partition (R268). -/
def State.partFree (s : State) (p : Part) : Nat := s.partSize p - s.partUsed p

/-- The die number shown in records: 0x3FF before numbering (R263, R463). -/
def State.dieNo (s : State) : Nat := if s.on F.TREE_ID_NUMBERED then s.get F.TREE_ID_DIE else 0x3FF

/-- The die's own unit of a stream other than fragments enters the buffer; with an end-to-end session in use it carries its
tag (R269, R409). -/
def State.pushUnit (s : State) (stream : Nat) (p : Part) (q : Bool) (bs : List Byte) : State :=
  let bs := match s.hall.e2e.tx with
    | some k => if s.get F.HALL_AUTH_MODE = 2 then bs ++ (Config.cmac k.key bs).take 8 else bs
    | none => bs
  { s with buf := { s.buf with units := s.buf.units ++
      [{ stream := stream, origin := s.dieNo, q := q, part := p, bytes := bs, orbit := s.time.orbit }] } }

end Sys2Proof.Machine
end

