-- ==== Sys2Proof/Machine/Flags.lean ====
section
/-! DEFINITION. Flags, alerts and strikes: W1C flags and the alert a condition raises (R461–R465), the fault log (R466),
strike counters and retirement (R452–R457). -/

namespace Sys2Proof.Machine

/-- Set a one-bit flag. -/
def State.flag (s : State) (f : Fld) : State := s.put f 1

/-- Clear a one-bit flag. -/
def State.unflag (s : State) (f : Fld) : State := s.put f 0

/-- Hold a one-bit flag at a condition. -/
def State.flagIf (s : State) (f : Fld) (b : Bool) : State := s.put f (b2n b)

/-- The block that holds a register, by its Assay type (R463, R473). -/
def regType (a : Nat) : Nat := match blockOf a with | some b => b.typ | none => 0

/-- Block-relative offset of a register, from the base of instance 0 (R26, R463). -/
def regRel (a : Nat) : Nat := match blockOf a with | some b => a - b.base | none => a

/-- Alert severities (R464). -/
inductive Sev where
  | info | warn | retire | safe | start
deriving DecidableEq, Repr

/-- The code of a severity (R464). -/
def Sev.code : Sev → Nat
  | .info => 0 | .warn => 1 | .retire => 2 | .safe => 3 | .start => 4

/-- The 32-byte alert record (R463). -/
def alertRecord (s : State) (sev : Sev) (reg bit ut ui data : Nat) : List Byte :=
  leBytes 1 1 ++ leBytes 1 sev.code ++ leBytes 2 s.dieNo ++ leBytes 2 (regType reg) ++ leBytes 2 (regRel reg)
    ++ leBytes 1 bit ++ leBytes 1 ut ++ leBytes 2 (regRel reg / 2 ^ 16) ++ leBytes 4 ui ++ leBytes 4 s.orbitNow
    ++ leBytes 2 s.time.slot ++ leBytes 2 0 ++ leBytes 4 data ++ leBytes 2 (s.get F.FAULT_ALERT_SEQ_SEQ)
    ++ leBytes 2 s.fuse.boots

/-- The record enters the fault log's circular store (R466). -/
def State.logAlert (s : State) (rec : List Byte) : State :=
  let i := s.get F.FAULT_LOG_NEXT_INDEX
  let s1 := { s with fault := { s.fault with log := sset [] s.fault.log i rec } }
  let s2 := s1.put F.FAULT_LOG_NEXT_INDEX ((i + 1) % 256)
  if i = 255 then s2.flag F.FAULT_LOG_NEXT_WRAPPED else s2

/-- An alert that may be masked: INFO and WARN (R465). -/
def alertMasked (s : State) : Sev → Bool
  | .info => s.on F.FAULT_ALERT_MASK_INFO
  | .warn => s.on F.FAULT_ALERT_MASK_WARN
  | _ => false

/-- Room for an alert record: the last 16 records are reserved for RETIRE, SAFE and START (R465, R268). -/
def alertRoom (s : State) (sev : Sev) : Bool :=
  match sev with
  | .info | .warn => decide (16 < s.partFree .alert)
  | _ => decide (0 < s.partFree .alert)

/-- The record enters the alert stream, or waits there until the die is numbered (R465). In SAFE only the SAFE record is
sent (R460). -/
def State.sendAlert (s : State) (sev : Sev) (rec : List Byte) : State :=
  if alertMasked s sev then s
  else if s.sys.run = .safe ∧ sev ≠ .safe then s
  else if alertRoom s sev then
    if s.on F.TREE_ID_NUMBERED then s.pushUnit 5 .alert false rec
    else { s with fault := { s.fault with waiting := s.fault.waiting ++ [rec] } }
  else (s.inc Reg.FAULT_ALERT_DROP_CNT).flag F.FAULT_STATUS_ALERT_DROP

/-- Raise an alert on bit `bit` of register `reg` (0xFF: a counter): number it, log it, send it (R463–R466). -/
def State.alert (s : State) (sev : Sev) (reg bit ut ui data : Nat) : State :=
  let rec' := alertRecord s sev reg bit ut ui data
  let s1 := (s.logAlert rec').put F.FAULT_ALERT_SEQ_SEQ (s.get F.FAULT_ALERT_SEQ_SEQ + 1)
  s1.sendAlert sev rec'

/-- A WARN alert on a status flag (R464). -/
def State.warn (s : State) (f : Fld) (data : Nat := 0) : State := s.alert .warn f.reg f.lo 0 0 data

/-- A WARN alert on a counter (R464). -/
def State.warnCnt (s : State) (reg : Nat) (data : Nat := 0) : State := s.alert .warn reg 0xFF 0 0 data

/-! Strikes (R452–R457). -/

/-- The key of a unit: type and index (R452). -/
def unitKey (ty ix : Nat) : Nat := ty * 2 ^ 20 + ix

/-- Whether a type and index name a unit of R452. -/
def unitExists (ty ix : Nat) : Bool :=
  if ty = 1 then decide (ix < 16384)
  else if ty = 2 then decide (ix < 32776)
  else if ty = 3 then decide (ix < 256)
  else if ty = 4 then decide (ix < 16)
  else if ty = 5 then decide (ix < 16)
  else if ty = 6 then decide (ix < 16)
  else if ty = 7 then decide (ix < 32768)
  else if ty = 8 then decide (ix < 16)
  else if ty = 9 then decide (ix < 2)
  else false

/-- A unit's strike counter (R453). -/
def State.strikesOf (s : State) (ty ix : Nat) : Nat := sget 0 s.fault.strikes (unitKey ty ix)

/-- A unit is retired (R455). -/
def State.isRetired (s : State) (ty ix : Nat) : Bool := s.fault.retired.contains (unitKey ty ix)

/-- The limit of a unit type; 0 acts as 1 (R455). -/
def State.strikeLimit (s : State) (ty : Nat) : Nat := max 1 (s.get (F.FAULT_POLICY_LIMIT ty))

/-- One strike for a unit (R453); a retired unit receives none. -/
def State.addStrike (s : State) (ty ix : Nat) : State :=
  if s.isRetired ty ix then s
  else
    ({ s with fault := { s.fault with
        strikes := sset 0 s.fault.strikes (unitKey ty ix) (min 255 (s.strikesOf ty ix + 1)) } }).inc
      Reg.FAULT_STRIKE_CNT

/-- The unit's counter has reached its limit and the unit is in service (R455). -/
def State.atLimit (s : State) (ty ix : Nat) : Bool :=
  !s.isRetired ty ix && decide (s.strikeLimit ty ≤ s.strikesOf ty ix)

/-- A unit is retired: counted, flagged, and a RETIRE alert raised (R455, R464). What the unit then does is its block's. -/
def State.retire (s : State) (ty ix : Nat) : State :=
  if s.isRetired ty ix then s
  else
    let s1 := { s with fault := { s.fault with retired := s.fault.retired ++ [unitKey ty ix] } }
    let s2 := ((s1.inc Reg.FAULT_RETIRE_CNT).put (F.FAULT_RETIRED_COUNT ty) (s.get (F.FAULT_RETIRED_COUNT ty) + 1)).flag
      F.FAULT_STATUS_RETIRED
    s2.alert .retire Reg.FAULT_STATUS 8 ty ix (s.strikesOf ty ix + s.strikeLimit ty * 256)

/-- A unit returns to service or its counter clears (R458). -/
def State.readmitUnit (s : State) (ty ix : Nat) : State :=
  let s1 := { s with fault := { s.fault with
    strikes := sset 0 s.fault.strikes (unitKey ty ix) 0
    retired := s.fault.retired.filter (fun k => decide (k ≠ unitKey ty ix))
    pending := s.fault.pending.filter (fun k => decide (k ≠ unitKey ty ix)) } }
  if s.isRetired ty ix then s1.put (F.FAULT_RETIRED_COUNT ty) (s.get (F.FAULT_RETIRED_COUNT ty) - 1) else s1

/-- A unit's retirement is decided but waits (R92, R457). -/
def State.pendRetire (s : State) (ty ix : Nat) : State :=
  if s.fault.pending.contains (unitKey ty ix) then s
  else { s with fault := { s.fault with pending := s.fault.pending ++ [unitKey ty ix] } }

/-- The unit's retirement waits. -/
def State.isPending (s : State) (ty ix : Nat) : Bool := s.fault.pending.contains (unitKey ty ix)

/-- FAULT_UNIT for a type and index (R452, R457). -/
def State.faultUnitWord (s : State) (ty ix : Nat) : Nat :=
  if unitExists ty ix then
    b2n (s.isRetired ty ix) * 2 ^ 31 + b2n (s.isPending ty ix) * 2 ^ 30 + s.strikesOf ty ix
  else 0

/-- Enter SAFE with its cause: the SAFE record is the last unit sent (R459, R460). A die already in SAFE stays as it is. -/
def State.safeRecord (s : State) (cause : Nat) : State :=
  (s.put F.FAULT_STATUS_SAFE_CAUSE cause).alert .safe Reg.FAULT_STATUS 0 0 0 cause

end Sys2Proof.Machine
end

