-- ==== Sys2Proof/Machine/Time.lean ====
section
/-! DEFINITION. Machine time and wall time (R32–R73): clock sources and orbit markers, the calendar, quiet windows, the
phase loop and the WALL servo, as operations that the orbit, calendar, phase and wall families are written over. -/

namespace Sys2Proof.Machine

/-! Clock sources (R35) and the timing-locked condition (R38). -/

/-- `ORB_CLK.SRC` is BALL. -/
def State.srcBall (s : State) : Bool := decide (s.get F.ORB_CLK_SRC = 0)
/-- `ORB_CLK.SRC` is SHAFT. -/
def State.srcShaft (s : State) : Bool := decide (s.get F.ORB_CLK_SRC = 1)
/-- `ORB_CLK.SRC` is REFCLK. -/
def State.srcRef (s : State) : Bool := decide (s.get F.ORB_CLK_SRC = 2)

/-- Codes of `ORB_PA_STATUS.STATE`. -/
abbrev paReference : Nat := 0
/-- HUNT. -/
abbrev paHunt : Nat := 1
/-- ACQUIRE. -/
abbrev paAcquire : Nat := 2
/-- ALIGNED. -/
abbrev paAligned : Nat := 3
/-- DEGRADED. -/
abbrev paDegraded : Nat := 4
/-- LOST. -/
abbrev paLost : Nat := 5
/-- FROZEN. -/
abbrev paFrozen : Nat := 6

/-- The phase loop's state. -/
def State.pa (s : State) : Nat := s.get F.ORB_PA_STATUS_STATE

/-- `ORB_STATUS.LOCKED` (R38). -/
def State.locked (s : State) : Bool :=
  s.on F.ORB_STATUS_PLL_LOCK &&
    (if s.srcBall then s.on F.ORB_STATUS_ORBIT_LOCK
     else if s.srcShaft then decide (s.pa = paAligned ∨ s.pa = paDegraded)
     else true)

/-- A quiet window is open (R52). -/
def State.quiet (s : State) : Bool := s.on F.ORB_STATUS_QUIET

/-- Quiet-only work may run (R52): a window is open, or the die is not in RUNNING or HOLD. -/
def State.quietWork (s : State) : Bool := s.quiet || !s.sys.run.capturing

/-- `WIDTH` field value with 0 acting as 1. -/
def atLeast1 (n : Nat) : Nat := max 1 n

/-! HOLD (R19, R21, R43). -/

/-- Timing is lost: a RUNNING die enters HOLD, and the die flywheels with HOLDOVER set (R19, R43). -/
def State.loseTiming (s : State) : State :=
  let s1 := s.flag F.ORB_STATUS_HOLDOVER
  if s.sys.run = .running then s1.enter .hold else s1

/-- Fewer than SYS_HOLD_LIMIT orbits of HOLD have gone by (R19, R20); 0 never times out. -/
def State.holdInTime (s : State) : Bool :=
  decide (s.get F.SYS_HOLD_LIMIT_LIMIT = 0 ∨ s.sys.holdOrbits < s.get F.SYS_HOLD_LIMIT_LIMIT)

/-- Timing is regained: a HOLD die within SYS_HOLD_LIMIT orbits returns to RUNNING (R19). -/
def State.regainTiming (s : State) : State :=
  let s1 := s.unflag F.ORB_STATUS_HOLDOVER
  if s.sys.run = .hold ∧ s.holdInTime = true then s1.enter .running else s1

/-! The phase correction (R56, R57). -/

/-- What a move has applied by slot `t`: in whole steps of 1/8 fine unit, evenly over its slots (DESIGN CHOICE, log 78). -/
def Move.applied (m : Move) (t : Nat) : Int :=
  if m.last ≤ t then m.amount
  else if t ≤ m.first then 0
  else
    let n := m.amount.natAbs / 2 * (t - m.first) / (m.last - m.first) * 2
    if m.amount < 0 then -(n : Int) else n

/-- The phase correction in force, in 1/16 fine unit (R56). -/
def State.phaseCorr (s : State) : Int :=
  s.phase.plan.foldl (fun a m => a + m.applied s.time.slots) s.phase.corr

/-- The phase correction stays at its present value (R57, R58): what is left of the plan is not applied. -/
def State.holdPhase (s : State) : State :=
  { s with phase := { s.phase with
      corr := s.phaseCorr
      plan := (s.phase.plan.filter (fun m => decide (m.first < s.time.slots))).map (fun m =>
        { m with last := min m.last s.time.slots, amount := 0 }) } }

/-- Shaft timing is lost (R42): the loop freezes with its correction held (R58), the die holds, and the next marker reloads
the counters (R45). The PLL holds its last control value, and PLL_LOCK stays set (DESIGN CHOICE, log 79). -/
def State.loseShaft (s : State) : State :=
  if s.srcShaft then
    let s1 := if s.pa = paReference then s else (s.put F.ORB_PA_STATUS_STATE paFrozen).holdPhase
    let s2 := { s1 with time := { s1.time with reload := true } }
    s2.loseTiming
  else s

/-! The calendar (R46–R51). -/

/-- The calendar registers as they stand (R46). -/
def State.calRegs (s : State) : List (Nat × Nat) :=
  s.regs.filterMap (fun p =>
    if Reg.ORB_CAL 0 ≤ p.1 ∧ p.1 < Reg.ORB_CAL 64 then some ((p.1 - Reg.ORB_CAL 0) / 4, p.2.toNat) else none)

/-- The word in force for calendar entry `i` (R51). -/
def State.calWord (s : State) (i : Nat) : Nat := sget 0 s.time.cal i

/-- Entry word fields (R46). -/
def calEn (w : Nat) : Bool := decide (bitsOf w 31 1 = 1)
/-- EVERY. -/
def calEvery (w : Nat) : Nat := bitsOf w 27 4
/-- ACTION. -/
def calAction (w : Nat) : Nat := bitsOf w 21 6
/-- ARG. -/
def calArg (w : Nat) : Nat := bitsOf w 14 7
/-- SLOT. -/
def calSlot (w : Nat) : Nat := bitsOf w 0 14

/-- Entries in use with EN = 1 (R48, R52). -/
def State.calInUse (s : State) : List (Nat × Nat) :=
  s.time.cal.filter (fun p => decide (p.1 < s.time.calLen) && calEn p.2)

/-- The calendar writes take effect, and NO_QUIET follows (R51, R52). -/
def State.calUpdate (s : State) : State :=
  let s1 := { s with time := { s.time with cal := s.calRegs, calLen := s.get F.ORB_CAL_LEN_LEN } }
  s1.flagIf F.ORB_STATUS_NO_QUIET (!s1.calInUse.any (fun p => decide (calAction p.2 = 2)))

/-- CAL_RANGE at an orbit start (R48). -/
def State.calRange (s : State) : State :=
  if s.calInUse.any (fun p => decide (s.time.len ≤ calSlot p.2)) then s.flag F.ORB_STATUS_CAL_RANGE else s

/-- Entry `i` in force is in use, enabled, holds action `act`, lies within the orbit, and is due in this orbit (R46–R48):
a one-shot entry fires once after each arm or re-arm. -/
def State.calDue (s : State) (i act : Nat) : Bool :=
  let w := s.calWord i
  decide (i < s.time.calLen) && calEn w && decide (calAction w = act) && decide (calSlot w < s.time.len) &&
    !s.time.doneNow.contains i &&
    (if calEvery w = 15 then !s.time.fired.contains i else decide (s.time.orbit % 2 ^ calEvery w = 0))

/-- Entry `i` has fired in this orbit, and for good if it is one-shot. -/
def State.calMark (s : State) (i : Nat) : State :=
  { s with time := { s.time with
      doneNow := i :: s.time.doneNow
      fired := if calEvery (s.calWord i) = 15 then i :: s.time.fired else s.time.fired } }

/-- Calendar entry `i` with action `act` fires at its slot, if it is due and `ok` holds there; `k` is its effect on the
argument (R46–R49). Entries of one slot fire in the order of their commands within it (R49). -/
def State.calFire (s : State) (i act : Nat) (ok : State → Bool) (k : Nat → State → State) : State :=
  if s.calDue i act then
    let fire : State → State := fun t => if ok t then k (calArg (s.calWord i)) (t.calMark i) else t
    if s.time.counting ∧ s.time.slot = calSlot (s.calWord i) then fire s else s.reach (calSlot (s.calWord i)) 0 fire
  else s

/-! The WALL servo (R69–R72). -/

/-- One nanosecond in units of WALL (R65). -/
abbrev nsUnit : Int := 4294967296

/-- A rational number as numerator and positive denominator, reduced. -/
def ratNorm (n : Int) (d : Nat) : Int × Nat :=
  let g := Nat.gcd n.natAbs d
  if g = 0 then (0, 1) else (n / g, d / g)

/-- A rational held within ±lim. -/
def ratClamp (lim : Nat) (n : Int) (d : Nat) : Int × Nat :=
  if (lim : Int) * d < n then (lim, 1) else if n < -((lim : Int) * d) then (-(lim : Int), 1) else ratNorm n d

/-- A servo update with offset `e`, in 2^-32 ns, over an interval of `t` 2^-32 ns (R69, R72). The products are exact, and
WALL_ADJ and WALL_OFFSET take the nearest integer, as the manual's example does (DEDUCED, log 9). -/
def State.servo (s : State) (e : Int) (t : Nat) : State :=
  let lim := s.rd Reg.WALL_LIM
  let ok8 := decide (e.natAbs ≤ 8 * 4294967296)
  let s1 := s.wrS Reg.WALL_OFFSET (roundDiv e (2 ^ 24))
  let s2 :=
    if s.wall.fresh ∨ s.get F.WALL_STEP_THR_THR * 4294967296 < e.natAbs then
      let s2 := (s1.setWall ((s1.wall.t : Int) - e)).flag F.WALL_STATUS_STEPPED
      { s2 with wall := { s2.wall with fresh := false, integ := 0, integD := 1 } }
    else
      let d := atLeast1 t
      let di : Int := s.get F.WALL_GAIN_KI * e * 65536
      let i := ratClamp lim (s.wall.integ * d - di * s.wall.integD) (s.wall.integD * d)
      let dp : Int := s.get F.WALL_GAIN_KP * e * 65536
      let a := ratClamp lim (i.1 * d - dp * i.2) (i.2 * d)
      let s2 := s1.wrS Reg.WALL_ADJ (roundDiv a.1 a.2)
      { s2 with wall := { s2.wall with integ := i.1, integD := i.2 } }
  let good := if ok8 then min 4 (s.wall.good + 1) else 0
  let s3 := { s2 with wall := { s2.wall with good := good, lastUpd := some s2.time.now, srcLost := false } }
  if 64 * 4294967296 < e.natAbs then s3.unflag F.WALL_STATUS_LOCKED
  else if good = 4 then s3.flag F.WALL_STATUS_LOCKED
  else s3

/-- The servo's source is lost (R71, R72): WALL_ADJ holds. -/
def State.servoLost (s : State) : State :=
  let s1 := (s.flag F.WALL_STATUS_SRC_LOST).unflag F.WALL_STATUS_LOCKED
  ({ s1 with wall := { s1.wall with good := 0, fresh := true, srcLost := true } }).warn F.WALL_STATUS_SRC_LOST

/-- F-cycles of an orbit in 2^-32 ns at the nominal rate (R65, R70). -/
def State.orbitSpan (s : State) : Nat := s.time.len * 64 * s.rd Reg.WALL_NOM

/-! The phase loop (R53–R62). -/

/-- The loop's offset of an orbit from its exchanges: the sum over 1/32 fine unit and the count (R55). -/
def thetaSum (ts : List Int) : Int := ts.foldl (fun a b => a + b) 0

/-- Largest of a list. -/
def maxOf (l : List Nat) : Nat := l.foldl max 0

/-- The quiet windows of the orbit that starts, by the calendar in force (R52), in order of their first slots: from each
QUIET_BEGIN to the next QUIET_END or the orbit's end, as first slot and the slot after the last, counted from the orbit's start. -/
def State.quietSpans (s : State) : List (Nat × Nat) :=
  let ends := s.calInUse.filter (fun p => decide (calAction p.2 = 3))
  (s.calInUse.filter (fun p => decide (calAction p.2 = 2 ∧ calSlot p.2 < s.time.len))).foldl (fun m p =>
    sins (calSlot p.2)
      (ends.foldl (fun m q => if calSlot p.2 ≤ calSlot q.2 then min m (calSlot q.2) else m) (s.time.len - 1) + 1) m) []

/-- The runs of slots inside and outside windows, from slot `pos` to the orbit's end. -/
def cutRuns (len : Nat) : List (Nat × Nat) → Nat → List (Nat × Nat) × List (Nat × Nat)
  | [], pos => ([], if pos < len then [(pos, len)] else [])
  | w :: ws, pos =>
    let (i, o) := cutRuns len ws (max pos w.2)
    (if max pos w.1 < w.2 then (max pos w.1, w.2) :: i else i, if pos < w.1 then (pos, w.1) :: o else o)

/-- Slots in runs. -/
def runsLen (rs : List (Nat × Nat)) : Nat := rs.foldl (fun n r => n + (r.2 - r.1)) 0

/-- The first `n` slots of runs. -/
def firstRuns : List (Nat × Nat) → Nat → List (Nat × Nat)
  | [], _ => []
  | r :: rs, n => if n = 0 then [] else (r.1, min r.2 (r.1 + n)) :: firstRuns rs (n - (r.2 - r.1))

/-- `amount` spread over runs of slots, each run its share by its length, whole steps of 1/8 fine unit and the rest in the
last run. -/
def spread (base : Nat) (amount : Int) : List (Nat × Nat) → List Move
  | [] => []
  | [r] => [{ first := base + r.1, last := base + r.2, amount := amount }]
  | r :: rs =>
    let n := amount.natAbs / 2 * (r.2 - r.1) / atLeast1 (runsLen (r :: rs)) * 2
    let here : Int := if amount < 0 then -(n : Int) else n
    { first := base + r.1, last := base + r.2, amount := here } :: spread base (amount - here) rs

/-- The correction `c`, in 1/16 fine unit, over runs of slots at `per` for every 64 of them: what fits, in whole steps of the
interpolator, over the first slots that it takes (R56). -/
def fitRuns (base per : Nat) (c : Int) (rs : List (Nat × Nat)) : Int × List Move :=
  let cap := runsLen rs / 64 * per
  let n := min (c.natAbs / 2 * 2) cap
  let done : Int := if c < 0 then -(n : Int) else n
  (done, if n = 0 then [] else spread base done (firstRuns rs (ceilDiv n per * 64)))

/-- A correction of `c` 1/16 fine units is applied over the orbit that starts now, as far as the slew allows; the
remainder is carried (R56). In RUNNING the slots outside the quiet windows take what they can first (DESIGN CHOICE, log 78). A move of before stays listed
while an exchange that began in it can still end (R298). -/
def State.applyCorr (s : State) (c : Int) : State :=
  let wide := decide (s.pa = paAcquire) || !decide (s.sys.run = .running)
  let base := s.time.slots
  let (inside, outside) := if wide then ([(0, s.time.len)], []) else cutRuns s.time.len s.quietSpans 0
  let a := fitRuns base 16 c outside
  let b := fitRuns base (64 * 16) (c - a.1) inside
  let done := a.1 + b.1
  let old := (s.phase.plan.filter (fun m => decide (base < m.last + 256))).map (fun (m : Move) => { m with amount := 0 })
  let s1 := { s with phase := { s.phase with corr := s.phaseCorr, rest := c - done, plan := old ++ a.2 ++ b.2 } }
  if done = 0 then s1 else (s1.incWrap Reg.ORB_PA_CAL_CNT).dateInto Reg.ORB_PA_CAL_WALL

/-- The loop loses its alignment (R58, R59): LOST, an alert, and from RUNNING a loss of shaft timing, after which the next
counters loaded are a reload (R45). The strike of R452 is the caller's. -/
def State.phaseLost (s : State) : State :=
  let s1 := ((s.put F.ORB_PA_STATUS_STATE paLost).holdPhase).warn F.ORB_PA_STATUS_STATE paLost
  if s1.sys.run = .running then ({ s1 with time := { s1.time with reload := true } }).loseTiming else s1

/-- Slot `t`, since reset, is the last in which the loop was in a state other than ALIGNED or REFERENCE (R60). -/
def State.sawOff (s : State) (t : Nat) : State := { s with time := { s.time with lastOff := some t } }

/-- PHASE_WARN of a span from slot `first`, since reset, to now (R60). -/
def State.phaseWarn (s : State) (first : Nat) : Bool :=
  (decide (s.pa ≠ paAligned) && decide (s.pa ≠ paReference)) ||
    (match s.time.lastOff with | some t => decide (first ≤ t) | none => false)

/-- The loop reaches ALIGNED as an orbit ends; a HOLD with timing regained ends (R19, R58, R59). -/
def State.phaseAligned (s : State) : State :=
  let s1 := (s.put F.ORB_PA_STATUS_STATE paAligned).sawOff (s.time.slots - 1)
  if s1.sys.run = .hold then s1.regainTiming else s1.unflag F.ORB_STATUS_HOLDOVER

/-- CHAIN follows QUAL and the parent's CHAIN (R62). -/
def State.chainUpdate (s : State) : State :=
  s.put F.ORB_PA_STATUS_CHAIN (min 4095 (s.phase.parent + s.get F.ORB_PA_QUAL_QUAL))

/-- The loop at the end of an orbit (R55–R59, R61): θ̄, the state's transition, QUAL and CHAIN, and the correction that the
starting orbit carries. With no usable exchange θ̄ is an open value (log 10). The state of LOST is left at the end of the orbit
after the one whose end entered it (log 80). ORB_PA_OFS takes the nearest 1/16 fine unit to θ̄, an exact half away from zero,
and −θ̄ / 2^GAIN is formed from it as minus the floor of the quotient (DESIGN CHOICE, log 81). -/
def State.phaseOrbitEnd (s : State) : State :=
  let st := s.pa
  let frozenLoop := s.on F.ORB_PA_CTRL_FREEZE
  if st = paLost then s.put F.ORB_PA_STATUS_STATE paHunt
  else if st = paAcquire ∨ st = paAligned ∨ st = paDegraded then
    let (th, cnt, s0) :=
      match s.phase.thetas with
      | [] => let (v, s') := s.fresh; (toSigned 32 v, 1, s')
      | ts => (thetaSum ts, ts.length, s)
    let ofs := roundDiv th (2 * cnt)
    let q := min 4095 ofs.natAbs
    let quals := (q :: s0.phase.quals).take 16
    let tol := decide (th.natAbs ≤ s.get F.ORB_PA_CTRL_TOL * 2 * cnt)
    let ovl := decide (s.get F.ORB_PA_CTRL_LOSS * 32 * cnt < th.natAbs)
    let inTol := if tol then min 4 (s0.phase.inTol + 1) else 0
    let overRun := if ovl then min 2 (s0.phase.overLoss + 1) else 0
    let inAcq := s0.phase.inAcq + 1
    let s1 := { s0 with phase := { s0.phase with thetas := [], quals := quals, inTol := inTol
                                                 overLoss := overRun, inAcq := inAcq } }
    let s2 := ((s1.wrS Reg.ORB_PA_OFS ofs).put F.ORB_PA_QUAL_QUAL (maxOf quals)).chainUpdate
    let s3 :=
      if st = paAcquire then
        if inTol = 4 ∧ ¬ frozenLoop then s2.phaseAligned
        else if 64 ≤ inAcq then s2.phaseLost else s2
      else if overRun = 2 then s2.phaseLost
      else if frozenLoop then s2
      else if st = paAligned ∧ ¬ tol then s2.put F.ORB_PA_STATUS_STATE paDegraded
      else if st = paDegraded ∧ inTol = 4 then (s2.put F.ORB_PA_STATUS_STATE paAligned).sawOff (s2.time.slots - 1)
      else s2
    if frozenLoop ∨ s3.pa = paLost then s3
    else
      let c := if st = paAcquire then -ofs else -(ofs / 2 ^ s.get F.ORB_PA_CTRL_GAIN)
      s3.applyCorr (c + s3.phase.rest)
  else { s with phase := { s.phase with thetas := [] } }

/-- A stamp of machine time in fine units, modulo 2^32 (R295). -/
def State.stampNow (s : State) (fine : Nat) : Nat :=
  ((s.time.orbit * s.time.len + s.time.slot) * 65536 + fine) % 2 ^ 32

end Sys2Proof.Machine
end

