-- ==== Sys2Proof/Machine/FrontEnd.lean ====
section
/-! DEFINITION. The channel front end (R74–R92) and the vernier pairs (R94–R120): edges, hold-off, over-range, injection,
masking, strikes and retirement of channels, conversion, TOT, and calibration. -/

namespace Sys2Proof.Machine

/-! Channels. -/

/-- Channel `n`. -/
def State.chan (s : State) (n : Nat) : Chan := sget {} s.fe.chans n

/-- Set channel `n`. -/
def State.setChan (s : State) (n : Nat) (c : Chan) : State :=
  { s with fe := { s.fe with chans := sset {} s.fe.chans n c } }

/-- The matrix is powered (R13, R74). -/
def State.matrixOn (s : State) : Bool :=
  s.on F.FE_CTRL_MATRIX_EN && !s.isRoot && decide (s.sys.run ≠ .safe)

/-- A tile is in service: neither it nor its column is retired (R156). -/
def State.tileUp (s : State) (t : Nat) : Bool := !s.isRetired 3 t && !s.isRetired 4 (t % 16)

/-- A channel is powered down: by PD, by retirement, or with its tile (R88, R92, R156). -/
def State.chanOff (s : State) (n : Nat) : Bool :=
  s.on (F.FE_CH_PD n) || s.isRetired 1 n || !s.tileUp (n / 64)

/-- A channel's MASK in force in slot `t`, since reset: a write takes effect at the next slot start (R88). -/
def State.maskedAt (s : State) (n t : Nat) : Bool :=
  (match (s.chan n).maskWas.find? (fun e => decide (t < e.1)) with
    | some e => e.2
    | none => s.on (F.FE_CH_MASK n)) || s.isRetired 1 n

/-- A channel's MASK in force now. -/
def State.chanMasked (s : State) (n : Nat) : Bool := s.maskedAt n s.time.slots

/-- The discriminators of the matrix are listened to (R74). -/
def State.listens (s : State) : Bool := s.matrixOn && s.on F.FE_STATUS_SETTLED && s.time.fRun

/-- A discriminator edge of the channel in slot `t`, since reset, is heard (R74, R88, R98). -/
def State.hears (s : State) (n t : Nat) : Bool :=
  s.listens && !s.chanOff n && !s.maskedAt n t && !(s.chan n).settling

/-- A channel is blind after over-range in slot `t`, counted since reset (R82). -/
def Chan.blindIn (c : Chan) (t : Nat) : Bool :=
  c.blindWas.any (fun w => decide (w.1 ≤ t ∧ t ≤ w.2)) ||
    match c.blindFrom with
    | none => false
    | some a => decide (a ≤ t) && (match c.blindTo with | none => true | some b => decide (t ≤ b))

/-! Thresholds and trims (R76, R77). -/

/-- The global code with the offset in force, before it is clamped (R76). -/
def State.thrSum (s : State) : Int := (s.get F.FE_THR_GLOBAL : Int) + toSigned 10 s.fe.ofsNow

/-- OFS_CLAMP follows the global code and the offset in force (R76): it is set as FE_THR is written and as an offset is applied,
and a flag cleared while the sum is out of range stays clear until then (DESIGN CHOICE, log 90). -/
def State.clampCheck (s : State) : State :=
  if 1023 < s.thrSum ∨ s.thrSum < 0 then s.flag F.FE_STATUS_OFS_CLAMP else s

/-- The factory trim of a channel (R503). -/
def State.factTrim (s : State) (n : Nat) : Int := sget 0 s.fuse.chanTrim n

/-- A channel's trim sum, before it is clamped (R76). -/
def State.trimSum (s : State) (n : Nat) : Int := s.factTrim n + s.getS (F.FE_CH_USER_TRIM n)

/-- TRIM_SAT of a channel, re-evaluated at every write to its trim (R76). -/
def State.trimCheck (s : State) (n : Nat) : State :=
  s.flagIf (F.FE_CH_TRIM_SAT n) (decide (31 < s.trimSum n ∨ s.trimSum n < -32))

/-- The threshold of a channel's leading edge above its baseline, in aC: one code is 0.020 fC (R76). -/
def State.qLead (s : State) (n : Nat) : Int := (clampInt 0 1023 s.thrSum + clampInt (-32) 31 (s.trimSum n)) * 20

/-- The threshold of its trailing edge: one step of hysteresis is 0.040 fC (R76, R78). -/
def State.qTrail (s : State) (n : Nat) : Int := s.qLead n - s.get F.FE_THR_HYST * 40

/-- The pending threshold offset, if there is one, is put in force (R77). -/
def State.ofsApply (s : State) : State :=
  if s.on F.FE_STATUS_OFS_PEND then
    (({ s with fe := { s.fe with ofsNow := s.get F.FE_THR_OFS_OFS } }).unflag F.FE_STATUS_OFS_PEND).clampCheck
  else s

/-- The slot of this orbit in which the calendar next opens a quiet window (R52). -/
def State.nextQuiet (s : State) : Option Nat :=
  let from' := s.time.slot + (if s.quiet then (match s.time.quiets with | w :: _ => w.2 - s.time.slots | [] => 0) else 0)
  let slots := (s.time.cal.filter (fun p => s.calDue p.1 2 && decide (from' ≤ calSlot p.2))).map (fun p => calSlot p.2)
  match slots with
  | [] => none
  | t :: ts => some (ts.foldl min t)

/-- Time reaches the first slot of the next quiet window, and the pending offset is applied there (R77). Where the window opens
first, or an orbit starts under NO_QUIET, the offset is applied with that. -/
def thrOfsApply (s : State) : State :=
  if s.on F.FE_STATUS_OFS_PEND ∧ s.locked then
    match s.nextQuiet with
    | some t => if t = s.time.slot then s.ofsApply else s.reach t 0 State.ofsApply
    | none => s
  else s

/-- The effect of an accepted write of FE_THR_OFS (R77). -/
def thrOfsWritten (s : State) : State := s.flag F.FE_STATUS_OFS_PEND

/-! Vernier pairs (R94–R104). -/

/-- Pair `p` of R452's index. -/
def State.pair (s : State) (p : Nat) : Pair := sget s.vtdc.dflt s.vtdc.pairs p

/-- Set a pair. -/
def State.setPair (s : State) (p : Nat) (v : Pair) : State :=
  { s with vtdc := { s.vtdc with pairs := sset s.vtdc.dflt s.vtdc.pairs p v } }

/-- The calibration a pair converts with: a NOCAL pair uses the die-wide fuse values (R104). -/
def State.pairCal (s : State) (p : Nat) : Nat × Int :=
  let v := s.pair p
  if v.nocal then (s.fuse.vtdcBin, s.fuse.vtdcOfs) else (v.bin, v.off)

/-- A pair's age in slot `t`, since reset (R103). -/
def State.pairAgeAt (s : State) (p t : Nat) : Nat := min 65535 (t - (s.pair p).calSlot)

/-- A pair's age now. -/
def State.pairAge (s : State) (p : Nat) : Nat := s.pairAgeAt p s.time.slots

/-- A stamp of the pair in slot `t` carries STALE_CAL (R103, R104). A saturated age exceeds every limit. -/
def State.pairStale (s : State) (p t : Nat) : Bool :=
  (s.pair p).nocal || decide (s.get F.VTDC_CTRL_CAL_MAX_AGE < s.pairAgeAt p t) || decide (s.pairAgeAt p t = 65535)

/-- The time of a stamp in fine units (R105): launch edge in F-cycles, calibration and count. -/
def stampTime (launch bin : Nat) (off : Int) (n : Nat) : Int :=
  let d : Int := off * 512 + bin * (2 * n - 1 : Int)
  ((launch : Int) * 2 ^ 23 - d + 4096) / 8192

/-- The time of a conversion, with the middle of the F-cycle before the launch edge for an overrun (R105, R110). -/
def convTime (launch bin : Nat) (off : Int) (n : Nat) : Int :=
  if 511 ≤ n then (launch : Int) * 1024 - 512 else stampTime launch bin off n

/-- The bin and offset of a calibration's two sums, or none where it is rejected (R100, R101). -/
def calResult (s1 s2 : Nat) : Option (Nat × Int) :=
  let ds : Int := (s2 : Int) - s1
  if ds < 1792 ∨ 2304 < ds then none
  else
    let bin := roundDiv (2 ^ 26) ds
    some (bin.toNat, roundDiv ((2 ^ 22) * 32 - bin * (2 * s1 - 1)) (256 * 32))

/-- Any calibration in progress on a pair is dropped (R102). -/
def State.dropCal (s : State) (p : Nat) : State := s.setPair p { s.pair p with cal := false }

/-- Both pairs of a channel drop their calibrations without a pre-emption (R102). -/
def State.dropCals (s : State) (ch : Nat) : State := (s.dropCal (2 * ch)).dropCal (2 * ch + 1)

/-- An accepted edge pre-empts the calibrations of both pairs, and stops both in a bulk pass (R102, R113). -/
def State.preempt (s : State) (p : Nat) : State :=
  let v := s.pair p
  let s1 := if v.cal then s.inc Reg.VTDC_CAL_ABORT_CNT else s
  s1.setPair p { v with
    cal := false, stopped := v.stopped || (decide (p < 32768) && s.on F.VTDC_STATUS_BULK_ACTIVE) }

/-- The pair an edge goes to, of two pairs whose use alternates (R96): none where neither is free. -/
def choosePair (freeA freeB lastB : Bool) : Option Nat :=
  if freeA && freeB then some (if lastB then 0 else 1)
  else if freeA then some 0
  else if freeB then some 1
  else none

/-- A pair takes edges: not converting and not retired (R96). -/
def State.pairFree (s : State) (p : Nat) : Bool := !(s.pair p).busy && !s.isRetired 2 p

/-- A pair's strike may retire it at once; its calibration is then dropped (R102, R118, R119). -/
def State.strikePair (s : State) (p : Nat) : State :=
  let s1 := s.addStrike 2 p
  if s1.atLimit 2 p then (s1.retire 2 p).dropCal p else s1

/-- A channel's strike; at the limit it is retired at the next slot start (R92). -/
def State.strikeChan (s : State) (n : Nat) : State :=
  let s1 := s.addStrike 1 n
  if s1.atLimit 1 n then s1.pendRetire 1 n else s1

/-! Edges. -/

/-- The edge's time in fine units at the nominal bin and offset, for the windows of the front end (R79, R82, R86). -/
def edgeFine (launch n : Nat) : Nat := launch * 1024 - (12 + 8 * min n 128)

/-- The channel belongs to an injection window's group (R84). -/
def State.inGroup (s : State) (w : InjWin) (n : Nat) : Bool :=
  s.on (F.FE_CH_INJ_EN n) && decide (n % 2 ^ w.stride = w.group % 2 ^ w.stride)

/-- Slot `t` since reset lies in the window. -/
def InjWin.holds (w : InjWin) (t : Nat) : Bool := decide (w.first ≤ t ∧ t ≤ w.last)

/-- A hit whose leading edge fell in slot `t` is a test-pulse hit, also where it completes after the window's close (R86). -/
def State.testPulse (s : State) (n t : Nat) : Bool := s.trg.injs.any (fun w => w.holds t && s.inGroup w n)

/-- A hit of channel `n` whose leading edge fell in slot `t` is booked for the noise check and the dead check (R90, R91). -/
def State.bookHit (s : State) (n t : Nat) : State :=
  let s1 := { s with fe := { s.fe with wins := s.fe.wins.map (fun w =>
    if w.holds t && s.inGroup w n && !w.hit.contains n then { w with hit := n :: w.hit } else w) } }
  if s.sys.run.capturing ∧ s.quietAt t ∧ ¬ s.trg.injs.any (fun w => w.holds t) then
    s1.setChan n { s1.chan n with noise := min 15 ((s1.chan n).noise + 1) }
  else s1

/-- An accepted edge of channel `n` in slot `t` is kept for the self-trigger conditions and the mask test, as long as a
window can still name its slot (R176, R181, R182). -/
def State.noteEdge (s : State) (n t : Nat) : State :=
  { s with trg := { s.trg with
      edges := s.trg.edges.filter (fun e => decide (s.time.slots < e.1 + s.time.len + 64)) ++ [(t, n)] } }

/-- The edge neighbours of a channel that are neither masked, powered down nor retired in slot `t` (R83). -/
def State.liveNeighbours (s : State) (n t : Nat) : List Nat :=
  (neighbours n).filter (fun m => !s.chanOff m && !s.maskedAt m t)

/-- A leading edge of channel `n` whose launch edge is F-cycle `lf` of slot `ls`, and whose conversion counts to `cnt`: the
preamplifier's output passes `out` aC above its baseline, and there is an edge if the threshold lies no higher
(R76, R79, R82, R90, R94–R98, R102, R103, R113). -/
def leadingEdge (n ls lf cnt : Nat) (out : Int) (s : State) : State :=
  s.reach ls lf (fun s =>
    let c := s.chan n
    let launch := s.fNow
    let fine := edgeFine launch cnt
    if c.high ∨ out < s.qLead n then s
    else if ¬ s.hears n (fine / 65536) then s.setChan n { c with high := true, ignored := true }
    else if fine < c.holdTo then (s.setChan n { c with high := true, ignored := true }).inc Reg.FE_HOLDOFF_CNT
    else if c.blindIn (fine / 65536) then s.setChan n { c with high := true, ignored := true }
    else if s.isRetired 2 (2 * n) ∧ s.isRetired 2 (2 * n + 1) then
      s.setChan n { c with high := true, ignored := true }
    else
      let s := (s.preempt (2 * n)).preempt (2 * n + 1)
      match choosePair (s.pairFree (2 * n)) (s.pairFree (2 * n + 1)) c.lastB with
      | none => (s.setChan n { c with high := true, ignored := false, lost := true }).inc Reg.VTDC_LOST_CNT
      | some p =>
        let ix := 2 * n + p
        let cal := s.pairCal ix
        let tfu := convTime launch cal.1 cal.2 cnt
        let at' := (tfu / 65536).toNat
        let stale := s.pairStale ix at'
        let s1 := s.setPair ix { s.pair ix with busy := true }
        let s2 := if stale then s1.inc Reg.VTDC_STALE_CNT else s1
        let h : Hit0 := { pair := p, launch := launch, n := cnt, tfu := tfu, ovl := decide (511 ≤ cnt), stale := stale
                          nbrs := s.liveNeighbours n at' }
        let s3 := s2.setChan n { c with
          high := true, ignored := false, lost := false, lastB := decide (p = 1), hits := c.hits ++ [h] }
        (s3.bookHit n at').noteEdge n at')

/-- TOT of a trailing edge in quarter `q` of a stamp at `tfu` (R106): TOT, ORDER, TIMEOUT, NARROW. -/
def totOf (q : Nat) (tfu : Int) (narrowMin : Nat) : Nat × Bool × Bool × Bool :=
  let x : Int := (q : Int) * 256 + 128 - tfu
  if x < -128 then (0, true, false, false)
  else if x < 0 then (0, false, false, decide (0 < narrowMin))
  else
    let t := ((x + 128) / 256).toNat
    if 4095 ≤ t then (4095, false, true, false)
    else (t, false, false, decide (t < narrowMin))

/-- The hit of a channel that still waits for its trailing edge is changed by `f`. -/
def closeHit (f : Hit0 → Hit0) : List Hit0 → List Hit0
  | [] => []
  | h :: hs => if h.tot.isNone then f h :: hs else h :: closeHit f hs

/-- The discriminator output goes low: the hold-off starts and an over-ranged channel's guard slots are set
(R79, R82). `fine` is the middle of the sampled quarter. -/
def State.goLow (s : State) (n fine : Nat) : State :=
  let c := s.chan n
  s.setChan n { c with
    high := false, ignored := false, lost := false
    holdTo := fine + s.get F.FE_THR_HOLDOFF * 1024
    blindTo := if c.blindFrom.isSome ∧ c.blindTo.isNone then some (s.time.slots + s.get F.FE_OVR_GUARD)
               else c.blindTo }

/-- A trailing edge of channel `n`, sampled in quarter `tq` (0–255) of slot `ts`: the preamplifier's output has fallen to `out` aC
above its baseline, and there is an edge if that lies below q_trail (R76, R78, R79, R106–R109). While the matrix settles the
edge is not heard (R74). -/
def trailingEdge (n ts tq : Nat) (out : Int) (s : State) : State :=
  s.reach ts (tq / 4) (fun s =>
    let c := s.chan n
    let q := s.time.slots * 256 + tq
    if ¬ c.high ∨ s.qTrail n ≤ out then s
    else if c.ignored ∨ ¬ s.listens then s.setChan n { c with high := false, ignored := false }
    else
      match c.hits.find? (fun h => h.tot.isNone) with
      | none => s.goLow n (q * 256 + 128)
      | some h =>
        let (t, ord, tmo, nar) := totOf q h.tfu (s.get F.VTDC_CTRL_NARROW_MIN)
        let hs := closeHit (fun h => { h with tot := some t, order := ord, tmo := h.tmo || tmo, narrow := nar }) c.hits
        let s1 := s.setChan n { c with hits := hs }
        let s2 := if ord then s1.inc Reg.VTDC_ORDER_CNT else s1
        let s3 := if tmo then s2.inc Reg.VTDC_TIMEOUT_CNT else s2
        let s4 := if nar then s3.inc Reg.VTDC_NARROW_CNT else s3
        s4.goLow n (q * 256 + 128))

/-- The hold-off of channel `n` expires (R79). -/
def holdoffEnd (n : Nat) (s : State) : State :=
  let c := s.chan n
  if c.holdTo = 0 then s
  else s.reachF (ceilDiv c.holdTo 1024) (fun s => s.setChan n { s.chan n with holdTo := 0 })

/-- The blind intervals of a channel that have ended and can still matter to a hit in conversion (R83). -/
def Chan.pastBlinds (c : Chan) (now : Nat) : List (Nat × Nat) :=
  (c.blindWas ++ (match c.blindFrom, c.blindTo with | some a, some b => [(a, b)] | _, _ => [])).filter
    (fun w => decide (now ≤ w.2 + 64))

/-- The over-range comparator fires on the hit in progress (R81, R82). On a pulse that has no open hit (its edge was lost or
ignored, or its hit has been closed by the TOT timeout) it counts nothing and blinds nothing (DESIGN CHOICE, log 91); while the
matrix settles nothing is counted (R74). -/
def overRange (n : Nat) (s : State) : State :=
  let c := s.chan n
  match c.hits.find? (fun h => h.tot.isNone) with
  | none => s
  | some h =>
    if h.sat ∨ ¬ s.listens then s
    else (s.setChan n { c with
      hits := closeHit (fun h => { h with sat := true }) c.hits
      blindWas := c.pastBlinds s.time.slots
      blindFrom := some (h.tfu / 65536).toNat, blindTo := none }).inc Reg.FE_SAT_CNT

/-- The blind period of channel `n` ends after its guard slots (R82); an output still high is heard only after going low. -/
def blindEnd (n : Nat) (s : State) : State :=
  match (s.chan n).blindTo with
  | none => s
  | some b => s.reachSlot (b + 1) (fun s => let c := s.chan n; s.setChan n { c with ignored := c.high && c.ignored })

/-- The conversion of a channel's pair that started at `launch` is over. -/
def State.convOver (s : State) (ix launch : Nat) (tmo : Bool) : State :=
  let n := ix / 2
  let c := s.chan n
  let s1 := s.setChan n { c with hits := c.hits.map (fun g =>
    if g.pair = ix % 2 ∧ g.launch = launch then { g with conv := true, tmo := g.tmo || tmo } else g) }
  s1.setPair ix { s1.pair ix with busy := false }

/-- A UTIL pair's conversion is over. -/
def State.utilOver (s : State) (ix : Nat) : State :=
  let s1 := { s with tiu := { s.tiu with flights := s.tiu.flights.filter (fun f => decide (f.pair ≠ ix)) } }
  s1.setPair ix { s1.pair ix with busy := false }

/-- Pair `ix` becomes idle n + 14 F-cycles after launch (R95). -/
def pairIdle (ix : Nat) (s : State) : State :=
  if ix < 32768 then
    match (s.chan (ix / 2)).hits.find? (fun h => decide (h.pair = ix % 2) && !h.conv && !h.ovl) with
    | none => s
    | some h => s.reachF (h.launch + h.n + 14) (fun s => s.convOver ix h.launch false)
  else
    match s.tiu.flights.find? (fun f => decide (f.pair = ix ∧ f.n < 511)) with
    | none => s
    | some f => s.reachF (f.launch + f.n + 14) (fun s => s.utilOver ix)

/-- A conversion of pair `ix` overruns: TIMEOUT, a strike, and the pair idle 525 F-cycles after launch (R110, R118). -/
def conversionOverrun (ix : Nat) (s : State) : State :=
  if ix < 32768 then
    match (s.chan (ix / 2)).hits.find? (fun h => decide (h.pair = ix % 2) && !h.conv && h.ovl) with
    | none => s
    | some h => s.reachF (h.launch + 525) (fun s =>
        ((s.convOver ix h.launch true).inc Reg.VTDC_OVERRUN_CNT).strikePair ix)
  else
    match s.tiu.flights.find? (fun f => decide (f.pair = ix ∧ 511 ≤ f.n)) with
    | none => s
    | some f => s.reachF (f.launch + 525) (fun s => ((s.utilOver ix).inc Reg.VTDC_OVERRUN_CNT).strikePair ix)

/-- No trailing edge by the end of F-cycle 1,024 after launch (R109). -/
def totTimeout (n : Nat) (s : State) : State :=
  match (s.chan n).hits.find? (fun h => h.tot.isNone) with
  | none => s
  | some h => s.reachF (h.launch + 1024) (fun s =>
      let c := s.chan n
      (s.setChan n { c with hits := closeHit (fun h => { h with tot := some 4095, tmo := true }) c.hits }).inc
        Reg.VTDC_TIMEOUT_CNT)

/-! Injection (R84–R87) and the dead check (R91). -/

/-- A field of the FE_INJ_CTRL word in force (R87). -/
def State.inj (s : State) (f : Fld) : Nat := bitsOf s.fe.injNow f.lo f.w

/-- An INJECT entry injects group `k`: the injection window opens with this slot, and the charge goes out at FCYC of it, with the
polarity of FE_CTRL.POL, once for channels of two groups of one slot (R85–R87). Channels powered down or retired are not
injected (R84). -/
def inject (k : Nat) (s : State) : State :=
  if s.listens then
    let w : InjWin := { first := s.time.slots, last := s.time.slots + s.inj F.FE_INJ_CTRL_SPAN, group := k
                        stride := s.inj F.FE_INJ_CTRL_STRIDE, dead := decide (s.inj F.FE_INJ_CTRL_DEAD_CHECK = 1) }
    let keep := s.trg.injs.filter (fun v => decide (s.time.slots < v.last + s.time.len + 64))
    let s2 := { s with
      fe := { s.fe with wins := s.fe.wins ++ [w] }
      trg := { s.trg with injs := keep ++ [w], tests := s.trg.tests ++ [w] } }
    if s.fe.wins.any (fun v => decide (v.first = w.first ∧ v.group % 2 ^ v.stride = k % 2 ^ w.stride)) then s2
    else s2.emit (.inject k w.stride (s.inj F.FE_INJ_CTRL_CODE * s.fuse.injLsb) (s.on F.FE_CTRL_POL) s.time.slots
      (s.inj F.FE_INJ_CTRL_FCYC))
  else s

/-- Channels whose FE_CH register lists a set bit of field `f` (at offset 0, INJ_EN, PD and the rest reset to 0). -/
def State.chansWith (s : State) (f : Nat → Fld) : List Nat :=
  s.regs.filterMap (fun p =>
    if Reg.FE_CH 0 ≤ p.1 ∧ p.1 < Reg.FE_CH 16384 ∧ bitsOf p.2.toNat (f 0).lo (f 0).w ≠ 0
    then some ((p.1 - Reg.FE_CH 0) / 4) else none)

/-- The dead check of one injected channel, which a DEAD_LIMIT of 0 disables (R91). -/
def deadCheck (w : InjWin) (s : State) (n : Nat) : State :=
  if s.chanOff n ∨ s.chanMasked n ∨ ¬ s.inGroup w n ∨ s.get F.FE_NOISE_DEAD_LIMIT = 0 then s
  else
    let c := s.chan n
    if w.hit.contains n then s.setChan n { c with missRun := 0 }
    else
      let lim := s.get F.FE_NOISE_DEAD_LIMIT
      let r := min 255 (c.missRun + 1)
      if lim ≤ r then
        ((s.setChan n { c with missRun := 0 }).inc Reg.FE_DEAD_CNT).strikeChan n
      else s.setChan n { c with missRun := r }

/-- The oldest injection window closes, and the dead check is made (R91). -/
def injectionWindowClose (s : State) : State :=
  match s.fe.wins with
  | [] => s
  | w :: ws => s.reachSlot (w.last + 1) (fun s =>
      let s1 := { s with fe := { s.fe with wins := ws } }
      if w.dead ∧ s.sys.run.capturing then (s1.chansWith F.FE_CH_INJ_EN).foldl (deadCheck w) s1 else s1)

/-- The noise check at an orbit start (R90). -/
def noiseCheck (s : State) : State :=
  if s.sys.run.capturing then
    let lim := s.get F.FE_NOISE_LIMIT
    s.fe.chans.foldl (fun s p =>
      let c := s.chan p.1
      let s1 := s.setChan p.1 { c with noise := 0 }
      if lim ≠ 0 ∧ lim ≤ c.noise ∧ ¬ s.on F.ORB_STATUS_NO_QUIET ∧ ¬ s.chanOff p.1 ∧ ¬ s.chanMasked p.1 then
        (s1.inc Reg.FE_NOISY_CNT).strikeChan p.1
      else s1) s
  else s

/-- LEAK_SAT of the channels whose DC current is above 200 nA, or back below 190 nA, at an orbit start (R75).
With LEAK_EN = 0 or the matrix off the flags keep their values (DESIGN CHOICE, log 92). -/
def leakUpdate (above below : List Nat) (s : State) : State :=
  if s.on F.FE_CTRL_LEAK_EN ∧ s.matrixOn then
    let s1 := above.foldl (fun s n => s.flag (F.FE_CH_LEAK_SAT n)) s
    below.foldl (fun s n => s.unflag (F.FE_CH_LEAK_SAT n)) s1
  else s

/-- A channel whose retirement was decided is retired (R92). -/
def State.retireNow (s : State) (n : Nat) : State :=
  if s.isPending 1 n then
    let s1 := { s with fault := { s.fault with pending := s.fault.pending.filter (fun k => decide (k ≠ unitKey 1 n)) } }
    (s1.retire 1 n).dropCals n
  else s

/-- A channel at its strike limit is retired at the next slot start (R92). -/
def channelRetire (n : Nat) (s : State) : State :=
  if s.isPending 1 n then s.nextSlot (.retire n) (fun s => s.retireNow n) else s

/-- A channel ends its 20 µs settling (R88). -/
def channelSettled (n : Nat) (s : State) : State := s.setChan n { s.chan n with settling := false }

/-! Calibration of the pairs (R99–R102, R112–R116). -/

/-- A pair belongs to a channel that is powered, or to a UTIL input (R99). -/
def State.pairPowered (s : State) (p : Nat) : Bool :=
  if p < 32768 then s.matrixOn && !s.chanOff (p / 2) else true

/-- The other pair of a pair's channel or input. -/
def mate (p : Nat) : Nat := if p % 2 = 0 then p + 1 else p - 1

/-- The discriminator output is low and the hold-off has ended (R99). -/
def State.quietInput (s : State) (p : Nat) : Bool :=
  if p < 32768 then !(s.chan (p / 2)).high && decide ((s.chan (p / 2)).holdTo ≤ s.fNow * 1024)
  else !s.tiu.high.contains ((p - 32768) / 2) && decide (sget 0 s.tiu.holdTo ((p - 32768) / 2) ≤ s.fNow)

/-- A pair is due for calibration (R99). -/
def State.calIsDue (s : State) (p : Nat) : Bool :=
  (s.pair p).nocal || decide (atLeast1 (s.get F.VTDC_CAL_INTERVAL) ≤ s.pairAge p)

/-- Every condition of R99, A before B. -/
def State.calMayStart (s : State) (p : Nat) : Bool :=
  let q := mate p
  s.calIsDue p && !(s.pair p).busy && !(s.pair q).busy && !(s.pair p).cal && !(s.pair q).cal &&
    s.pairPowered p && s.quietInput p && !s.isRetired 2 p && s.time.fRun &&
    decide (s.sys.run ≠ .reset ∧ s.sys.run ≠ .safe) &&
    !(decide (p % 2 = 1) && s.calIsDue q && !s.isRetired 2 q)

/-- An idle-time calibration starts (R99). -/
def vtdcCalStart (p : Nat) (s : State) : State :=
  if s.calMayStart p then s.setPair p { s.pair p with cal := true } else s

/-- A calibration's result in a pair, or the pair as before where it is rejected (R100, R101). -/
def Pair.calibrate (v : Pair) (now s1 s2 : Nat) : Pair :=
  match calResult s1 s2 with
  | some (bin, off) => { v with cal := false, nocal := false, had := true, bin := bin, off := off, ds := s2 - s1, calSlot := now }
  | none => { v with cal := false }

/-- A pair takes a calibration's result, or the result is rejected (R100, R101). -/
def State.takeCal (s : State) (p s1 s2 : Nat) : State :=
  let t := s.setPair p ((s.pair p).calibrate s.time.slots s1 s2)
  if (calResult s1 s2).isSome then t else ((t.flag F.VTDC_STATUS_CAL_BAD).inc Reg.VTDC_CAL_BAD_CNT).strikePair p

/-- A calibration's 32 measurements complete (R100, R101). -/
def vtdcCalDone (p s1 s2 : Nat) (s : State) : State := if (s.pair p).cal then s.takeCal p s1 s2 else s

/-! Bulk passes (R112–R116). -/

/-- The residuals r_k of a pass, each as the sum over its 16 conversions of converted time less generator time: phase k starts
64 k fine units after an F-clock edge, and the next edge launches (R94, R112). -/
def residuals (bin : Nat) (off : Int) (counts : List (List Nat)) : List Int :=
  counts.zipIdx.map (fun (p : List Nat × Nat) => p.1.foldl (fun a n => a + (convTime 1 bin off n - 64 * (p.2 : Int))) 0)

/-- INL: the largest |r_k| rounded up to whole fine units, saturating at 255 (R114). -/
def inlOf (res : List Int) : Nat := min 255 (ceilDiv (res.foldl (fun m r => max m r.natAbs) 0) 16)

/-- All 16 phases with their 16 conversions (R112). -/
def passComplete (counts : List (List Nat)) : Bool :=
  decide (counts.length = 16) && counts.all (fun l => decide (l.length = 16))

/-- The calibration that a pair converts with, on a die with these fuse values (R104). -/
def Pair.calWith (v : Pair) (f : FuseSt) : Nat × Int := if v.nocal then (f.vtdcBin, f.vtdcOfs) else (v.bin, v.off)

/-- What a pass does to a pair that finished it: its residuals and INL, and the trim step that makes it NOCAL (R114). `fuse` is
its fused period trim. -/
def Pair.pass (v : Pair) (f : FuseSt) (fuse : Int) (counts : List (List Nat)) : Pair :=
  let cal := v.calWith f
  let res := residuals cal.1 cal.2 counts
  let trim := fuse + v.trimAdj
  let step : Int := if 2080 < v.ds ∧ trim < 15 then 1 else if v.ds < 2016 ∧ -16 < trim then -1 else 0
  { v with inl := inlOf res, res := res, stopped := false, trimAdj := v.trimAdj + step
           nocal := v.nocal || decide (step ≠ 0) }

/-- One finished pair of a bulk pass, with the strike of an INL above the limit (R114). -/
def State.bulkPair (s : State) (p : Nat) (counts : List (List Nat)) : State :=
  if s.isRetired 2 p then s
  else
    let v := (s.pair p).pass s.fuse (sget 0 s.fuse.pairTrim p) counts
    let s1 := s.setPair p v
    if s.get F.VTDC_CAL_INL_LIMIT < v.inl then s1.strikePair p else s1

/-- The channels of the matrix that are powered down (R88, R92, R156). -/
def State.offChanList (s : State) : List Nat :=
  let tiles := (List.range 256).filter (fun t => !s.tileUp t)
  let pds := s.chansWith F.FE_CH_PD
  let rets := (s.fault.retired.filter (fun k => decide (k / 2 ^ 20 = 1))).map (fun k => k % 2 ^ 20)
  let extra := (pds ++ rets.filter (fun n => !pds.contains n)).filter (fun n => s.tileUp (n / 64))
  tiles.flatMap (fun t => (List.range 64).map (fun c => 64 * t + c)) ++ extra

/-- Powered-down channels of the matrix. -/
def State.offChans (s : State) : Nat := s.offChanList.length

/-- The state of the pairs that are listed nowhere becomes `d`; the pairs of `keys` and those listed keep theirs. -/
def State.redefault (s : State) (d : Pair) (keys : List Nat) : State :=
  let all := keys ++ s.vtdc.pairs.map (fun p => p.1)
  { s with vtdc := { s.vtdc with dflt := d, pairs := all.foldl (fun m k => sset d m k (s.pair k)) [] } }

/-- The pairs of a channel. -/
def pairsOf (n : Nat) : List Nat := [2 * n, 2 * n + 1]

/-- The bulk pass and the calibration that every pair powered now makes at start-up or as the matrix is enabled (R116): a pair
whose calibration is rejected keeps the one before. `utils` says whether the pairs of the UTIL inputs are among them: they
make the calibration alone, since a bulk pass is of channels' pairs (R112, R121). -/
def State.calAll (s : State) (c : CalSet) (utils : Bool) : State :=
  let take : State → Nat → State := fun t p =>
    if t.isRetired 2 p ∨ ¬ t.pairPowered p ∨ (32768 ≤ p ∧ utils = false) then t
    else
      let m := c.excs.find? (fun e => decide (e.pair = p))
      let (s1, s2, counts) := match m with | some e => (e.s1, e.s2, e.counts) | none => (c.s1, c.s2, c.counts)
      let t1 := if p < 32768 then t.bulkPair p counts else t
      if t1.isRetired 2 p then t1 else t1.takeCal p s1 s2
  let retired := (s.fault.retired.filter (fun k => decide (k / 2 ^ 20 = 2))).map (fun k => k % 2 ^ 20)
  let keys := s.offChanList.flatMap pairsOf ++ (List.range 8).map (· + 32768) ++ retired
    ++ s.fuse.pairTrim.map (fun e => e.1) ++ c.excs.map (fun e => e.pair)
  let v := (s.vtdc.dflt.pass s.fuse 0 c.counts).calibrate s.time.slots c.s1 c.s2
  let clean := (calResult c.s1 c.s2).isSome && decide (v.inl ≤ s.get F.VTDC_CAL_INL_LIMIT)
  let t := if clean ∧ s.matrixOn then
      let t := s.redefault v keys
      (t.vtdc.pairs.map (fun p => p.1)).foldl take t
    else (if s.matrixOn then List.range 32776 else (List.range 8).map (· + 32768)).foldl take s
  let q := t.vtdc.pairs.foldl (fun m p => if t.isRetired 2 p.1 then m else max m p.2.inl) t.vtdc.dflt.inl
  (((t.incWrap Reg.VTDC_CAL_CNT).dateInto Reg.VTDC_CAL_WALL).put F.VTDC_CAL_QUAL_QUAL q).flag F.VTDC_STATUS_BULK_DONE

/-- The matrix settling time ends (R74); the bulk pass and calibrations made within it are taken (R116), and a late reference's NOREF
clears (R448). With the matrix off a late reference brings the calibration of the UTIL inputs' pairs, the powered ones (log 39). -/
def feSettled (c : CalSet) (s : State) : State :=
  if s.matrixOn ∧ s.time.fRun ∧ ¬ s.on F.FE_STATUS_SETTLED ∧ (s.sys.run = .init → s.sys.memDone) then
    let s1 := if s.fe.calDue then s.calAll c (decide (s.sys.run = .init) || s.on F.FAULT_BOOT_NOREF) else s
    let s1 := { s1 with fe := { s1.fe with calDue := false } }
    (s1.flag F.FE_STATUS_SETTLED).unflag F.FAULT_BOOT_NOREF
  else if ¬ s.matrixOn ∧ s.time.fRun ∧ s.on F.FAULT_BOOT_NOREF ∧ s.sys.run ≠ .init ∧ s.sys.run ≠ .safe then
    (s.calAll c true).unflag F.FAULT_BOOT_NOREF
  else s

/-- A stopped pair's channel meets the second to fourth conditions of R99, and quiet-only work may run (R113). -/
def State.passResumes (s : State) (p : Nat) : Bool :=
  s.on F.VTDC_STATUS_BULK_ACTIVE && decide (p < 32768) && (s.pair p).stopped && s.quietWork &&
    !(s.pair p).busy && !(s.pair (mate p)).busy && !(s.pair p).cal && !(s.pair (mate p)).cal &&
    s.pairPowered p && s.quietInput p && !s.isRetired 2 p

/-- A stopped pair resumes its bulk pass; a pair that has finished has nothing left to resume (R113). -/
def bulkPassResume (p : Nat) (s : State) : State :=
  if s.passResumes p then s.setPair p { s.pair p with stopped := false } else s

/-- CAL_VTDC (R112): a bulk pass starts if none is active, and the pairs of a paused pass resume, each if it may; quiet-only
work, so only while a window is open or the die is not in RUNNING or HOLD (R52). -/
def calVtdc (s : State) : State :=
  if ¬ s.quietWork then s
  else if s.on F.VTDC_STATUS_BULK_ACTIVE then
    let t := s.redefault { s.vtdc.dflt with stopped := false }
      (s.offChanList.flatMap pairsOf ++ s.fe.chans.flatMap (fun e => pairsOf e.1))
    (t.vtdc.pairs.map (fun p => p.1)).foldl (fun t p => bulkPassResume p t) t
  else
    let t := s.redefault { s.vtdc.dflt with stopped := false } []
    let t1 := { t with vtdc := { t.vtdc with
      windows := 0
      pairs := (t.vtdc.pairs.map (fun (p : Nat × Pair) => (p.1, { p.2 with stopped := false }))).filter (fun p => decide (p.2 ≠ t.vtdc.dflt)) } }
    t1.flag F.VTDC_STATUS_BULK_ACTIVE

/-- In-service pairs of powered channels (R113, R119). -/
def State.pairsInService (s : State) : Nat :=
  let ret := s.fault.retired.filter (fun k =>
    decide (k / 2 ^ 20 = 2 ∧ k % 2 ^ 20 < 32768) && !s.chanOff (k % 2 ^ 20 / 2))
  2 * (16384 - s.offChans) - ret.length

/-- The pairs that have finished the pass, each once: in service, on a powered channel, with all their phases (R112, R113). -/
def State.passFinished (s : State) (fin : List PairCounts) : List PairCounts :=
  fin.foldr (fun e l =>
    if decide (e.pair < 32768) && !s.isRetired 2 e.pair && s.pairPowered e.pair && passComplete e.counts &&
        !l.any (fun x => decide (x.pair = e.pair)) then e :: l else l) []

/-- A bulk pass ends with the pairs that finished it: all of them, or those that have as its 64th quiet window ends
(R113–R115). -/
def bulkPassEnd (fin : List PairCounts) (s : State) : State :=
  let done := s.passFinished fin
  let all := s.pairsInService
  if s.on F.VTDC_STATUS_BULK_ACTIVE ∧ (64 ≤ s.vtdc.windows ∨ done.length = all) then
    let s1 := (done.foldl (fun s e => s.bulkPair e.pair e.counts) s).incBy Reg.VTDC_BULK_SKIP_CNT (all - done.length)
    let dflt := if 32776 ≤ s1.vtdc.pairs.length then 0 else s1.vtdc.dflt.inl
    let q := s1.vtdc.pairs.foldl (fun m p => if s1.isRetired 2 p.1 then m else max m p.2.inl) dflt
    ((((s1.incWrap Reg.VTDC_CAL_CNT).dateInto Reg.VTDC_CAL_WALL).put F.VTDC_CAL_QUAL_QUAL q).unflag
      F.VTDC_STATUS_BULK_ACTIVE).flag F.VTDC_STATUS_BULK_DONE
  else s

/-- The calibration word that VTDC_PSEL latches for a pair: its last accepted calibration, or the fuse values (R120). -/
def State.pselCal (s : State) (p : Nat) : Nat :=
  let v := s.pair p
  let (bin, off) := if s.isRetired 2 p then (if v.had then (v.bin, v.off) else (s.fuse.vtdcBin, (s.fuse.vtdcOfs : Int)))
    else s.pairCal p
  ofSigned 16 off * 2 ^ 16 + bin % 2 ^ 16

/-- The period trim of a pair: fuse plus bulk steps (R94, R114). -/
def State.pairTrim (s : State) (p : Nat) : Int := sget 0 s.fuse.pairTrim p + (s.pair p).trimAdj

/-- The snapshot of VTDC_PSEL (R120). -/
def pselLatch (s : State) : State :=
  let n := s.get F.VTDC_PSEL_CH
  let a := 2 * n
  let b := 2 * n + 1
  let st := b2n (s.isRetired 2 b) * 2 ^ 31 + b2n (s.isRetired 2 a) * 2 ^ 30 + b2n (s.pair b).nocal * 2 ^ 29
    + b2n (s.pair a).nocal * 2 ^ 28 + ofSigned 5 (s.pairTrim b) * 2 ^ 21 + ofSigned 5 (s.pairTrim a) * 2 ^ 16
    + (s.pair b).inl * 2 ^ 8 + (s.pair a).inl
  (((s.wr Reg.VTDC_PA_CAL (s.pselCal a)).wr Reg.VTDC_PB_CAL (s.pselCal b)).wr Reg.VTDC_P_AGE
    (s.pairAge b * 2 ^ 16 + s.pairAge a)).wr Reg.VTDC_P_STAT st

end Sys2Proof.Machine
end

