-- ==== Sys2Proof/Machine/Tiu.lean ====
section
/-! DEFINITION. The time-interval unit (R121–R129): UTIL edges, intervals, statistics and their end. -/

namespace Sys2Proof.Machine

/-- The integer square root of `v`, from bit `k - 1` down. -/
def isqrtFrom : Nat → Nat → Nat → Nat
  | 0, r, _ => r
  | k + 1, r, v => if (r + 2 ^ k) * (r + 2 ^ k) ≤ v then isqrtFrom k (r + 2 ^ k) v else isqrtFrom k r v

/-- floor(sqrt v) for v below 2^160. -/
def isqrt (v : Nat) : Nat := isqrtFrom 80 0 v

/-- Orbit and slot of a slot counted since reset, at most one orbit ago (R122). -/
def State.stampOf (s : State) (tfu : Int) : Stamp :=
  let a := (tfu / 65536).toNat
  let back := s.time.slots - a
  let fine := (tfu % 65536).toNat
  if back ≤ s.time.slot then { orbit := s.time.orbit, slot := s.time.slot - back, fine := fine }
  else { orbit := (s.time.orbit + 2 ^ 32 - 1) % 2 ^ 32, slot := s.time.slot + s.time.len - back, fine := fine }

/-- The interval from stamp `a` to stamp `b` (R122), signed 48 bits. -/
def interval (len : Nat) (a b : Stamp) : Int :=
  let dorb := toSigned 32 (ofSigned 32 ((b.orbit : Int) - a.orbit))
  let iv : Int := (dorb * len + b.slot - a.slot) * 65536 + b.fine - a.fine
  toSigned 48 (ofSigned 48 iv)

/-- A register of two words takes a signed number (R127). -/
def State.wrS64 (s : State) (a : Nat) (z : Int) : State := s.wr64 a (ofSigned 64 z)

/-- The run ends: mean and standard deviation of the closed intervals are written (R127). -/
def tiuFinish (s : State) : State :=
  let c : Nat := s.get F.TIU_COUNT_COUNT
  let mean := roundDiv ((s.tiu.x0 * c + s.tiu.s1) * 65536) (atLeast1 c)
  let v := (s.tiu.s2 * c - s.tiu.s1 * s.tiu.s1).toNat
  let sd := (isqrt (262144 * v) / atLeast1 c + 1) / 2
  (((s.wrS64 Reg.TIU_MEAN mean).wr Reg.TIU_SDEV (min sd (2 ^ 32 - 1))).unflag F.TIU_STATUS_BUSY).flag
    F.TIU_STATUS_DONE

/-- An interval closes with value `x` (R127). -/
def tiuClose (x : Int) (s : State) : State :=
  let c := s.get F.TIU_COUNT_COUNT
  let x0 := if c = 0 then x else s.tiu.x0
  let y := x - x0
  let mn := if c = 0 then x else min (toSigned 64 (s.rd64 Reg.TIU_MIN)) x
  let mx := if c = 0 then x else max (toSigned 64 (s.rd64 Reg.TIU_MAX)) x
  let s1 := { s with tiu := { s.tiu with x0 := x0, s1 := s.tiu.s1 + y, s2 := s.tiu.s2 + y * y, openAt := none } }
  let s2 := ((((s1.wrS64 Reg.TIU_MIN mn).wrS64 Reg.TIU_MAX mx).wrS64 Reg.TIU_LAST x).put F.TIU_COUNT_COUNT (c + 1))
  if c + 1 = atLeast1 (bitsOf s.tiu.meas 0 21) then tiuFinish s2 else s2

/-- A start edge opens an interval. -/
def tiuOpen (st : Stamp) (s : State) : State :=
  { s with tiu := { s.tiu with openAt := some st, openSlot := s.time.slots } }

/-- The most recent unused stop edge at most LOOKBACK F-cycles before a start, or with it (R125). -/
def State.lookBack (s : State) (start : Stamp) : Option Stamp :=
  let look := bitsOf s.tiu.tmo 24 8
  (s.tiu.stops.filter (fun p =>
    let iv := interval s.time.len start p
    decide (look ≠ 0 ∧ iv < 0 ∧ -(look * 1024 : Int) ≤ iv))).getLast?

/-- The first unused stop edge stamped with a start edge or after it: it came before the start, out of the order of stamps
(R124). -/
def State.stopAfter (s : State) (start : Stamp) : Option Stamp :=
  s.tiu.stops.find? (fun p => decide (0 ≤ interval s.time.len start p))

/-- A stop edge is used. -/
def State.useStop (s : State) (p : Stamp) : State :=
  { s with tiu := { s.tiu with stops := s.tiu.stops.filter (fun x => decide (x ≠ p)) } }

/-- A start edge of a run with two sources (R124, R125). The stop that closed the last interval may bear the later stamp: the
start then came while that interval was open. -/
def tiuStartEdge (st : Stamp) (s : State) : State :=
  if s.tiu.openAt.isSome || s.tiu.closedBy.any (fun p => decide (0 ≤ interval s.time.len st p)) then s.inc Reg.TIU_EXTRA_CNT
  else
    match s.lookBack st with
    | some p => tiuClose (interval s.time.len st p) (s.useStop p)
    | none =>
      match s.stopAfter st with
      | some p =>
        let s1 := s.useStop p
        tiuClose (interval s.time.len st p) { s1 with tiu := { s1.tiu with closedBy := some p } }
      | none => tiuOpen st s

/-- A stop edge of a run with two sources (R124, R125): it closes the open interval if it is not stamped before its start; one
stamped before it is unused, or closes it by LOOKBACK. -/
def tiuStopEdge (st : Stamp) (s : State) : State :=
  let recent := s.tiu.stops.filter (fun p => decide (interval s.time.len p st ≤ 255 * 1024))
  let keep := { s with tiu := { s.tiu with stops := recent ++ [st] } }
  match s.tiu.openAt with
  | none => keep
  | some o =>
    let iv := interval s.time.len o st
    let look := bitsOf s.tiu.tmo 24 8
    if 0 ≤ iv then tiuClose iv { s with tiu := { s.tiu with closedBy := some st } }
    else if look ≠ 0 ∧ -(look * 1024 : Int) ≤ iv then tiuClose iv s
    else keep

/-- A stamped edge of source `src` during a run (R124, R125), taken as if edges came in the order of their stamps; while PLL_LOCK is
clear every edge is discarded (R129). -/
def tiuEdge (src : Nat) (st : Stamp) (s : State) : State :=
  if ¬ s.on F.TIU_STATUS_BUSY ∨ ¬ s.on F.ORB_STATUS_PLL_LOCK then s
  else
    let a := bitsOf s.tiu.meas 25 3
    let b := bitsOf s.tiu.meas 22 3
    if src = a ∧ src = b then
      match s.tiu.openAt with
      | some o =>
        let s1 := tiuClose (interval s.time.len o st) s
        if s1.on F.TIU_STATUS_BUSY then tiuOpen st s1 else s1
      | none => tiuOpen st s
    else if src = a then tiuStartEdge st s
    else if src = b then tiuStopEdge st s
    else s

/-- The orbit marker, source 4: fine time 0 of slot 0 of the orbit that begins (R122). -/
def tiuMarker (s : State) : State := tiuEdge 4 { orbit := s.time.orbit, slot := 0, fine := 0 } s

/-- The hysteresis of a UTIL input in mV (ball table, codes 0–7; R121). -/
def State.utilHyst (s : State) (k : Nat) : Nat := [0, 5, 10, 20, 30, 40, 60, 80].getD (s.get (F.TIU_IN_HYST k)) 0

/-- UTIL input `k` is now high, or low. -/
def State.utilLevel (s : State) (k : Nat) (high : Bool) : State :=
  let rest := s.tiu.high.filter (fun j => decide (j ≠ k))
  { s with tiu := { s.tiu with high := if high then k :: rest else rest } }

/-- An edge on UTIL input `k` with its launch edge and count (R121, R122, R129): it rises or falls by `swing` mV, which must
reach the hysteresis, and only the direction that EDGE selects is taken. -/
def utilEdge (k ls lf cnt : Nat) (rise : Bool) (swing : Nat) (s : State) : State :=
  s.reach ls lf (fun s =>
    let launch := s.fNow
    if swing < s.utilHyst k then s
    else
      let s := s.utilLevel k rise
      if ¬ s.on (F.TIU_IN_EN k) ∨ rise = s.on (F.TIU_IN_EDGE k) ∨ ¬ s.on F.ORB_STATUS_PLL_LOCK ∨
          launch < sget 0 s.tiu.holdTo k then s
      else
        let a := 32768 + 2 * k
        let s := (s.preempt a).preempt (a + 1)
        match choosePair (s.pairFree a) (s.pairFree (a + 1)) (!s.tiu.lastB.contains k) with
        | none => s.inc Reg.TIU_LOST_CNT
        | some p =>
          let ix := a + p
          let cal := s.pairCal ix
          let tfu := convTime launch cal.1 cal.2 cnt
          let s1 := if s.pairStale ix (tfu / 65536).toNat then (s.inc Reg.VTDC_STALE_CNT).inc Reg.TIU_STALE_CNT else s
          let s2 := s1.setPair ix { s1.pair ix with busy := true }
          let s3 := { s2 with tiu := { s2.tiu with
            holdTo := sset 0 s2.tiu.holdTo k (launch + s.get (F.TIU_IN_HOLDOFF k))
            lastB := if p = 1 then s2.tiu.lastB.filter (fun j => decide (j ≠ k))
                     else if s2.tiu.lastB.contains k then s2.tiu.lastB else k :: s2.tiu.lastB
            flights := s2.tiu.flights ++ [{ pair := ix, launch := launch, n := cnt }] } }
          tiuEdge k (s3.stampOf tfu) s3)

/-- TIU_CMD.START (R123). -/
def tiuStart (s : State) : State :=
  let s1 := { s with tiu := { s.tiu with meas := s.rd Reg.TIU_MEAS, tmo := s.rd Reg.TIU_TMO, openAt := none
                                         stops := [], closedBy := none, x0 := 0, s1 := 0, s2 := 0 } }
  let s2 := (((((s1.put F.TIU_COUNT_COUNT 0).wr64 Reg.TIU_LAST 0).wr64 Reg.TIU_MIN 0).wr64 Reg.TIU_MAX 0).wr64
    Reg.TIU_MEAN 0).wr Reg.TIU_SDEV 0
  (s2.flag F.TIU_STATUS_BUSY).unflag F.TIU_STATUS_DONE

/-- TIU_CMD.ABORT (R128). -/
def tiuAbort (s : State) : State :=
  if s.on F.TIU_STATUS_BUSY then
    let s1 := { s with tiu := { s.tiu with openAt := none } }
    if s.get F.TIU_COUNT_COUNT = 0 then (s1.unflag F.TIU_STATUS_BUSY).flag F.TIU_STATUS_DONE else tiuFinish s1
  else s

/-- An interval still open TIMEOUT slots after its start is discarded (R126). -/
def tiuTimeout (s : State) : State :=
  if s.on F.TIU_STATUS_BUSY ∧ s.tiu.openAt.isSome then
    s.reachSlot (s.tiu.openSlot + atLeast1 (bitsOf s.tiu.tmo 0 24)) (fun s =>
      ({ s with tiu := { s.tiu with openAt := none } }).inc Reg.TIU_TIMEOUT_CNT)
  else s

/-- TIU_CMD's bits take effect, ABORT before START (R123, R128). -/
def tiuCommand (abort start : Bool) (s : State) : State :=
  let s1 := if abort then tiuAbort s else s
  if start then tiuStart s1 else s1

/-- Loss of PLL lock discards the open interval and sets GAP (R129). -/
def tiuGap (s : State) : State :=
  ({ s with tiu := { s.tiu with openAt := none } }).flag F.TIU_STATUS_GAP

end Sys2Proof.Machine
end

