-- ==== Sys2Proof/Machine/Arbiter.lean ====
section
/-! DEFINITION. The common arbiter and its canary (R230–R245): requests, decisions, pre-emption, parking, windows. -/

namespace Sys2Proof.Machine

/-- Arbiter instance `i`. -/
def State.arb (s : State) (i : Nat) : Arb := sget {} s.arbs i

/-- Set arbiter instance `i`. -/
def State.setArb (s : State) (i : Nat) (a : Arb) : State := { s with arbs := sset {} s.arbs i a }

/-- The class of requester `r` of instance `i`: its ARB_CLASS entry, or CONF_CLASS for a speculative requester whose head
is confirmed (R232, R249). -/
def State.arbClassOf (s : State) (i r : Nat) : Nat :=
  if (i = 16 ∨ i = 17) ∧ r = 12 ∧ (s.arb i).conf then s.get (F.ARB_CFG_CONF_CLASS i)
  else bitsOf (s.rd (Reg.ARB_CLASS i (r / 16))) (2 * (r % 16)) 2

/-! Cycles of the resources (R244). -/

/-- The shaft port of an uplink's arbiter. -/
def State.arbPort (s : State) (i : Nat) : Option Nat :=
  (List.range 16).find? (fun p => decide (s.get (F.PORT_CFG_TYPE p) = i - 15))

/-- F-cycles in which `n` cycles of instance `i` pass (R244): a Gallery cycle is 4 F-cycles, an uplink's the time of a 66-bit
block over the port's lanes at its rate of N / D bits per F-cycle (R286), a vault cycle 2.5 ns and a DMA cycle 2 ns. -/
def State.arbCycles (s : State) (i n : Nat) : Nat :=
  if i < 16 then 4 * n
  else if i < 18 then
    match s.arbPort i with
    | some p =>
      let q : PortSt := sget {} s.ports p
      ceilDiv (n * 66 * atLeast1 q.rate.2) (atLeast1 (q.rate.1 * q.lanes.length))
    | none => 0
  else ceilDiv (n * (if i < 34 then 5 * 2 ^ 31 else 2 * 2 ^ 32)) (atLeast1 (s.rd Reg.WALL_NOM))

/-- F-cycles of a quota window (R232). -/
def State.arbWindow (s : State) (i : Nat) : Nat := atLeast1 (s.arbCycles i (atLeast1 (s.get (F.ARB_CFG_WINDOW i))))

/-- Windows that have ended by now: their end clears the counts (R232, R239). -/
def State.arbTurn (s : State) (i : Nat) : State :=
  let a := s.arb i
  let n := (s.fNow - a.winFrom) / s.arbWindow i
  if n = 0 then s else s.setArb i { a with winFrom := a.winFrom + n * s.arbWindow i, q2 := [], q3 := [] }

/-- A waiting requester is masked by its quota (R232). -/
def State.arbMasked (s : State) (i : Nat) (a : Arb) (q : ArbReq) : Bool :=
  let q2 := s.get (F.ARB_CFG_QUOTA2 i)
  let q3 := s.get (F.ARB_CFG_QUOTA3 i)
  (decide (q.cls = 2 ∧ q2 ≠ 0 ∧ q2 ≤ sget 0 a.q2 q.r)) || decide (q.cls = 3 ∧ q3 ≠ 0 ∧ q3 ≤ sget 0 a.q3 q.r)

/-- The first unmasked waiting requester of class `c`, in queue order. -/
def State.arbHead (s : State) (i : Nat) (a : Arb) (c : Nat) : Option ArbReq :=
  a.wait.find? (fun q => decide (q.cls = c) && !s.arbMasked i a q)

/-- The next requester by class, highest first, above `floor` (R233; classes from `floor` up when it is 0). -/
def State.arbNext (s : State) (i : Nat) (a : Arb) (floor : Nat) : Option ArbReq :=
  [3, 2, 1, 0].foldl (fun acc c => match acc with
    | some q => some q
    | none => if floor ≤ c then s.arbHead i a c else none) none

/-- A decision at which a requester is masked is counted once (R232). -/
def State.arbCountMask (s : State) (i : Nat) : State :=
  let a := s.arb i
  if a.wait.any (fun q => s.arbMasked i a q) then s.inc (Reg.ARB_QMASK_CNT i) else s

/-- The charge of a grant in class `cls` to requester `r` (R232). -/
def Arb.charge (a : Arb) (r cls : Nat) : Arb :=
  { a with
    q2 := if cls = 2 then sset 0 a.q2 r (sget 0 a.q2 r + 1) else a.q2
    q3 := if cls = 3 then sset 0 a.q3 r (sget 0 a.q3 r + 1) else a.q3 }

/-- Grant the resource to a requester, charging the grant in its class (R232, R233, R235). -/
def State.arbGrant (s : State) (i : Nat) (q : ArbReq) : State :=
  let a := s.arb i
  let cls := s.arbClassOf i q.r
  let a1 : Arb := { a with
    owner := some q, gclass := cls, parked := false, since := s.fNow
    wait := a.wait.filter (fun w => decide (w.r ≠ q.r)) }
  (s.setArb i (a1.charge q.r cls)).inc (Reg.ARB_GRANT_CNT i)

/-- A decision without an active owner (R233): the highest class with an unmasked requester is served, in queue order;
with nobody to serve the grant stays as it is. -/
def State.arbDecide (s : State) (i : Nat) : State :=
  let s1 := (s.arbTurn i).arbCountMask i
  match s1.arbNext i (s1.arb i) 0 with
  | some q => s1.arbGrant i q
  | none => s1

/-- The owner's transfer has ended or its request has dropped (R230, R233). -/
def Arb.idle (a : Arb) : Bool :=
  match a.owner with
  | none => true
  | some q => a.parked || decide (q.len ≤ q.prog)

/-- A requester raises its request with a declared length (R231): it joins its class's tail, masked if its quota is spent (R239).
Another's request ends a parking (R235). -/
def State.arbJoin (s : State) (i : Nat) (q : ArbReq) : State :=
  let a := s.arb i
  if a.wait.any (fun w => decide (w.r = q.r)) then s
  else
    let ends := a.parked && !a.owner.any (fun w => decide (w.r = q.r))
    s.setArb i { a with wait := a.wait ++ [{ q with cls := s.arbClassOf i q.r }]
                        owner := if ends then none else a.owner, parked := a.parked && !ends }

/-- The decision of the cycle after requests have joined (R233): an idle arbiter decides, and so a parked requester that alone asks
again is granted (R235). Decisions are taken, and counted where one masks a requester, as requests join or end, at evaluation
points, window ends and bites (DESIGN CHOICE, log 94). -/
def State.arbSettle (s : State) (i : Nat) : State :=
  if (s.arb i).idle ∧ (s.arb i).wait ≠ [] then s.arbDecide i else s

/-- A requester raises its request, alone in its cycle (R231, R235). -/
def State.arbRequest (s : State) (i r len : Nat) : State := (s.arbJoin i { r := r, cls := 0, len := len }).arbSettle i

/-- The owner moves one word (R230), and the canary's count starts again (R241). -/
def State.arbMove (s : State) (i : Nat) : State :=
  let a := s.arb i
  match a.owner with
  | none => s
  | some q => s.setArb i { a with owner := some { q with prog := q.prog + 1 }, since := s.fNow }

/-- Flow control lets the owner move again: the canary's ready cycles start here (R241, log 101). -/
def State.arbReady (s : State) (i : Nat) : State := s.setArb i { s.arb i with since := s.fNow }

/-- The owner's request drops: its transfer counts as ended. -/
def State.arbDrop (s : State) (i r : Nat) : State :=
  let a := s.arb i
  let a1 := { a with wait := a.wait.filter (fun w => decide (w.r ≠ r)) }
  match a.owner with
  | none => s.setArb i a1
  | some q => if q.r = r then s.setArb i { a1 with owner := some { q with prog := q.len } } else s.setArb i a1

/-- The owner's last word has moved or its request has dropped: the grant is released and the next requester granted (R233), or
parked where no other waits, masked or not (R235). -/
def State.arbRelease (s : State) (i : Nat) : State :=
  let a := s.arb i
  if a.idle then
    let s1 := (s.arbTurn i).arbCountMask i
    match s1.arbNext i (s1.arb i) 0 with
    | some q => s1.arbGrant i q
    | none => match a.owner with
      | none => s1
      | some q =>
        let others := a.wait.any (fun w => decide (w.r ≠ q.r))
        s1.setArb i { s1.arb i with parked := !others, owner := if others then none else some { q with len := 0, prog := 0 } }
  else s

/-- The owner reaches an evaluation point (R233, R234, R238): a higher class pre-empts. Vault grants have none (R251). -/
def arbEvaluationPoint (i : Nat) (s : State) : State :=
  if 35 ≤ i ∨ (18 ≤ i ∧ i < 34) then s
  else
    let a := s.arb i
    match a.owner with
    | none => s
    | some o =>
      if a.idle then s
      else
        let s1 := (s.arbTurn i).arbCountMask i
        match s1.arbNext i (s1.arb i) (s.arbClassOf i o.r + 1) with
        | none => s1
        | some w =>
          let o1 : ArbReq := { o with cls := s.arbClassOf i o.r }
          let s2 := s1.setArb i { s1.arb i with owner := none, wait := o1 :: a.wait }
          (s2.inc (Reg.ARB_PREEMPT_CNT i)).arbGrant i w

/-- The quota window ends: the counts clear, and an idle arbiter decides with them cleared (R232, R239). -/
def arbWindowEnd (i : Nat) (s : State) : State :=
  if 35 ≤ i then s
  else
    s.reachF ((s.arb i).winFrom + s.arbWindow i) (fun s => (s.arbTurn i).arbSettle i)

/-- A waiting requester's class has changed: it joins the tail of its new class's queue (R237). -/
def State.arbReclass (s : State) (i : Nat) : State :=
  let a := s.arb i
  let moved := (a.wait.filter (fun q => decide (q.cls ≠ s.arbClassOf i q.r))).map
    (fun q => { q with cls := s.arbClassOf i q.r })
  let stay := a.wait.filter (fun q => decide (q.cls = s.arbClassOf i q.r))
  s.setArb i { a with wait := stay ++ moved }

/-- The turn hint of a waiting requester (R236). -/
def State.arbHint (s : State) (i r : Nat) : Nat :=
  let a := s.arb i
  let own := match a.owner with | none => 0 | some q => if a.parked then 0 else q.len - q.prog
  match a.wait.find? (fun q => decide (q.r = r)) with
  | none => 0
  | some me =>
    let before := a.wait.takeWhile (fun q => decide (q.r ≠ r))
    let same := before.filter (fun q => decide (q.cls = me.cls) && !s.arbMasked i a q)
    let higher := a.wait.filter (fun q => decide (me.cls < q.cls) && !s.arbMasked i a q)
    min 1023 (own + (same ++ higher).foldl (fun n q => n + q.len) 0)

/-- ARB_STATUS of an instance. -/
def State.arbStatus (s : State) (i : Nat) : Nat :=
  let a := s.arb i
  match a.owner with
  | none => 0
  | some q => b2n (!a.parked) * 2 ^ 31 + b2n a.parked * 2 ^ 30 + a.gclass * 2 ^ 28 + q.r * 2 ^ 16 + min 65535 q.prog

/-- A requester's grants of the present window leave room for another in its class (R232). -/
def State.arbMayGrant (s : State) (i r : Nat) : Bool :=
  !s.arbMasked i (s.arb i) { r := r, cls := s.arbClassOf i r, len := 1 }

/-- One operation of vault bank `b` by requester `r` (R251), granted, charged and counted. One whose quota is spent waits for the next
window, in which its grant then counts; the wait itself is timing (DESIGN CHOICE, log 95). -/
def State.bankOp (s : State) (b r : Nat) : State :=
  let i := 18 + b
  let t := s.arbTurn i
  let u := if t.arbMayGrant i r then t
    else (t.inc (Reg.ARB_QMASK_CNT i)).setArb i { t.arb i with winFrom := (t.arb i).winFrom + s.arbWindow i, q2 := [], q3 := [] }
  let q : ArbReq := { r := r, cls := u.arbClassOf i r, len := 0 }
  (u.setArb i ({ u.arb i with owner := some q, gclass := q.cls, parked := true, since := u.fNow }.charge r q.cls)).inc
    (Reg.ARB_GRANT_CNT i)

/-- The common part of a canary bite (R242): the count, the last requester, the flag and the alert. -/
def State.biteRecord (s : State) (i r : Nat) : State :=
  (((s.inc (Reg.CANARY_BITE_CNT i)).put (F.CANARY_LAST_LAST i) r).flag (F.CANARY_STATUS_BITE i)).warn
    (F.CANARY_STATUS_BITE i) r

/-- The canary's count can reach its limit (R241, R243): time reaches the end of CANARY_LIMIT cycles, 0 acting as 1, since the grant,
the last word or the return of credit, with the same owner still in its transfer. -/
def State.biteAt (s : State) (i : Nat) (k : State → State) : State :=
  s.reachF ((s.arb i).since + s.arbCycles i (atLeast1 (s.get (F.CANARY_LIMIT_LIMIT i)))) (fun t =>
    if (t.arb i).owner = (s.arb i).owner ∧ ¬ (t.arb i).idle then k t else t)

/-- The owner is released by force, and the next cycle decides (R242). -/
def State.biteRelease (s : State) (i : Nat) : State :=
  (s.setArb i { s.arb i with owner := none, parked := false }).arbDecide i

end Sys2Proof.Machine
end

