-- ==== Sys2Proof/Machine/Capture.lean ====
section
/-! DEFINITION. Tiles and fragment assembly (R131–R156): latency buffers, expiry, retrieval, the Gallery bus, missing tiles
and the closing of a fragment. -/

namespace Sys2Proof.Machine

/-- Tile `t`. -/
def State.tile (s : State) (t : Nat) : Tile := sget {} s.tiles t

/-- Set tile `t`. -/
def State.setTile (s : State) (t : Nat) (v : Tile) : State := { s with tiles := sset {} s.tiles t v }

/-- OCC_MAX follows a tile's occupancy. -/
def State.occSeen (s : State) (t : Nat) : State :=
  let o := (s.tile t).occ
  if s.get (F.TILE_T_OCC_MAX t) < o then s.put (F.TILE_T_OCC_MAX t) o else s

/-- The retention of the buffers in slots (R134). -/
def State.retention (s : State) : Nat := min (atLeast1 (s.get F.TILE_LAT_DEPTH)) (s.time.len - 1)

/-- TILE_STATUS.DEPTH_CLAMPED (R134). -/
def State.depthClamped (s : State) : Bool := decide (s.time.len - 1 < atLeast1 (s.get F.TILE_LAT_DEPTH))

/-- The condition bits of a completed hit (R131). -/
def Hit0.cond (h : Hit0) (lost : Bool) : Nat :=
  b2n lost * 32 + b2n h.tmo * 16 + b2n h.order * 8 + b2n h.narrow * 4 + b2n h.stale * 2 + b2n h.sat

/-- A hit lost its neighbour: an edge neighbour, in service in the hit's slot, was blind in it (R83). -/
def State.lostNeighbour (s : State) (h : Hit0) : Bool :=
  h.nbrs.any (fun m => (s.chan m).blindIn (h.tfu / 65536).toNat)

/-- Capture takes hits of this slot: in RUNNING and HOLD, from the slot of RUN_START on; while retrievals are completed after
them, hits up to the transition (R133). -/
def State.captures (s : State) (slots : Nat) : Bool :=
  (s.sys.run.capturing || s.asm.flush.any (fun l => decide (slots ≤ l))) &&
    (match s.time.runStart with | some r => decide (r ≤ slots) | none => false)

/-- A completed hit is written into its tile's buffer, or dropped with the drop mark of its slot (R131, R132, R136, R138). -/
def State.writeHit (s : State) (n slots slot fine tot cond : Nat) : State :=
  let t := n / 64
  let v := s.tile t
  let d := dataEntry slot (n % 64) fine tot
  let e : TEntry := { slots := slots, data := d, dpar := parity48 d
                      cond := if cond = 0 then none else some (condEntry cond, parity48 (condEntry cond)) }
  if 768 < v.occ + e.cost then
    ((s.setTile t { v with drops := if v.drops.contains slots then v.drops else slots :: v.drops }).inc
      Reg.TILE_DROP_CNT).flag F.TILE_STATUS_OVF
  else (s.setTile t { v with buf := v.buf ++ [e] }).occSeen t

/-- An entry is pinned by a retrieval in progress at its tile (R134). -/
def Tile.pinned (v : Tile) (slots : Nat) : Bool := v.pins.any (fun p => decide (p.2.1 ≤ slots ∧ slots ≤ p.2.2))

/-- Entries of an entry read with a parity error (R140): its data entry and its condition entry. -/
def TEntry.badCount (e : TEntry) : Nat :=
  b2n (decide (parity48 e.data ≠ e.dpar)) + (match e.cond with | some (c, p) => b2n (decide (parity48 c ≠ p)) | none => 0)

/-- Entries and drop marks of tile `t` whose age exceeds the retention are read and freed, unless capture is frozen
(R134, R136, R140, R183). -/
def expireNow (t : Nat) (s : State) : State :=
  if s.trg.frozen then s else
  let v := s.tile t
  let old : Nat → Bool := fun sl => decide (sl + s.retention < s.time.slots)
  let gone := v.buf.filter (fun e => old e.slots && !v.pinned e.slots)
  let s1 := s.setTile t { v with buf := v.buf.filter (fun e => !(old e.slots && !v.pinned e.slots))
                                 drops := v.drops.filter (fun d => !old d) }
  s1.incBy Reg.TILE_POISON_DISCARD_CNT (gone.foldl (fun n e => n + e.badCount) 0)

/-- The oldest entry of tile `t` reaches its expiry (R134). -/
def entryExpire (t : Nat) (s : State) : State :=
  let v := s.tile t
  let cands := (v.buf.filter (fun e => !v.pinned e.slots)).map (fun e => e.slots) ++ v.drops
  match cands with
  | [] => s
  | c :: cs => s.reachSlot (cs.foldl min c + s.retention + 1) (expireNow t)

/-! Retrieval (R141–R147). -/

/-- The 64 tags that no tile still answers (R152, R154). -/
def State.tagFree (s : State) (tag : Nat) : Bool :=
  !s.tiles.any (fun p => p.2.resp.any (fun r => decide (r.tag = tag)))

/-- A retrieval may be issued: fewer than 64 fragments open, and the next tag abandoned by every tile (R152, R154). -/
def State.mayIssue (s : State) : Bool := decide (s.asm.frags.length < 64) && s.tagFree s.asm.nextTag

/-- A retrieval is issued: the builder opens a fragment under the next tag (R141, R152). -/
def State.issue (s : State) (f : Frag) : State :=
  { s with asm := { s.asm with
      frags := s.asm.frags ++ [{ f with tag := s.asm.nextTag, issued := s.time.slots }]
      nextTag := (s.asm.nextTag + 1) % 64 } }

/-- Slots from the first slot of a window to the SLOT of an entry as read (R142, R144). -/
def State.inFrom (s : State) (f : Frag) (e : TEntry) : Nat :=
  (bitsOf e.data 34 14 + s.time.len - s.slotOf f.first) % s.time.len

/-- Order of delivery: local channel, relative slot, fine time; equal keys keep their order (R143). Relative slots ascend as slots from
the window's first do. -/
def State.deliveryLe (s : State) (f : Frag) (a b : TEntry) : Bool :=
  let ka := (bitsOf a.data 28 6, s.inFrom f a, bitsOf a.data 12 16)
  let kb := (bitsOf b.data 28 6, s.inFrom f b, bitsOf b.data 12 16)
  decide (ka.1 < kb.1) || (decide (ka.1 = kb.1) && (decide (ka.2.1 < kb.2.1) ||
    (decide (ka.2.1 = kb.2.1) && decide (ka.2.2 ≤ kb.2.2))))

/-- Stable insertion of an entry in delivery order. -/
def deliveryInsert (le : TEntry → TEntry → Bool) (e : TEntry) : List TEntry → List TEntry
  | [] => [e]
  | x :: xs => if le x e then x :: deliveryInsert le e xs else e :: x :: xs

/-- Entries in delivery order (R143). -/
def deliverySort (le : TEntry → TEntry → Bool) (l : List TEntry) : List TEntry :=
  l.foldl (fun acc e => deliveryInsert le e acc) []

/-- An entry of a tile lies in a window, by its SLOT field as read (R139, R142). -/
def State.inWindow (s : State) (f : Frag) (e : TEntry) : Bool := decide (s.inFrom f e ≤ f.last - f.first)

/-- A slot of the window carries a drop mark `d` (R137). -/
def State.dropIn (s : State) (f : Frag) (d : Nat) : Bool :=
  decide (((d : Int) - f.first) % (atLeast1 s.time.len : Int) ≤ f.last - f.first)

/-- A tile answers a retrieval: its header word, then its nugget words (R137, R143, R149). -/
def State.response (s : State) (t : Nat) (f : Frag) : List Nat :=
  let v := s.tile t
  let es := deliverySort (s.deliveryLe f) (v.buf.filter (s.inWindow f))
  headerWord f.tag t (v.drops.any (s.dropIn f)) es.length :: es.map (fun e =>
    nuggetWord f.tag e.bad (match e.cond with | some (c, _) => c % 64 | none => 0)
      (nuggetOf t s.time.len (s.slotOf f.trig) e.data))

/-- A tile retires: powered down with its channels, its buffer lost and its open responses abandoned (R156). -/
def State.tileDown (s : State) (t : Nat) : State :=
  let s1 := (List.range 64).foldl (fun s k => s.dropCals (t * 64 + k)) s
  let s2 := (s1.setTile t {}).arbDrop (t % 16) (t / 16)
  { s2 with asm := { s2.asm with frags := s2.asm.frags.map (fun f =>
      let p := sget {} f.parts t
      if f.started ∧ ¬ (p.hdr ∧ p.words.length = p.count + 1) ∧ ¬ p.missing then
        { f with parts := sset {} f.parts t { p with missing := true, words := p.words.take p.moved } }
      else f) } }

/-- A tile's strike; at the limit it retires at once (R139, R154, R156, R242). -/
def State.strikeTile (s : State) (t : Nat) : State :=
  let s1 := s.addStrike 3 t
  if s1.atLimit 3 t then (s1.retire 3 t).tileDown t else s1

/-- A column's strike; at the limit its 16 tiles are powered down (R156). -/
def State.strikeColumn (s : State) (c : Nat) : State :=
  let s1 := s.addStrike 4 c
  if s1.atLimit 4 c then (List.range 16).foldl (fun s r => s.tileDown (r * 16 + c)) (s1.retire 4 c) else s1

/-- Fragment with tag `tag`, if open. -/
def State.fragOf (s : State) (tag : Nat) : Option Frag := s.asm.frags.find? (fun f => decide (f.tag = tag))

/-- Change the open fragment with a tag. -/
def State.mapFrag (s : State) (tag : Nat) (g : Frag → Frag) : State :=
  { s with asm := { s.asm with frags := s.asm.frags.map (fun f => if f.tag = tag then g f else f) } }

/-- One tile takes up a retrieval: its response waits for the segment, and its window's entries are pinned (R134, R246). A tile out of
service is missing from the start (R155). Its request joins its segment's queue; a tile still busy with an earlier tag raises it
when that response ends. -/
def State.tileStart (f : Frag) (s : State) (t : Nat) : State :=
  if ¬ s.tileUp t ∨ ¬ s.matrixOn then
    s.mapFrag f.tag (fun g => { g with parts := sset {} g.parts t { missing := true, out := true } })
  else
    let v := s.tile t
    let ws := s.response t f
    let s1 := s.setTile t { v with resp := v.resp ++ [{ tag := f.tag, words := ws }]
                                   pins := v.pins ++ [(f.tag, f.first, f.last)] }
    if v.resp = [] then s1.arbJoin (t % 16) { r := t / 16, cls := 0, len := ws.length } else s1


/-! The Gallery bus and assembly (R149–R156). -/

/-- Words of column `c` in the assembly store (R151). -/
def State.storeUse (s : State) (c : Nat) : Nat :=
  s.asm.frags.foldl (fun n f => f.parts.foldl (fun n p =>
    if p.1 % 16 = c then n + (p.2.words.length - p.2.moved) else n) n) 0

/-- Segment `c` has credit (R151). -/
def State.hasCredit (s : State) (c : Nat) : Bool := decide (s.storeUse c < 32)

/-- A tile part is complete: its header and all COUNT words have come (R153). -/
def TPart.complete (p : TPart) : Bool := p.hdr && decide (p.words.length = p.count + 1)

/-- The builder moves a fragment's words out in ascending tile order, up to the first tile that is neither complete nor
missing (R153); answers the fragment and whether every tile is done. -/
def drainTiles : List Nat → Frag → Frag × Bool
  | [], f => (f, true)
  | t :: ts, f =>
    let p := sget {} f.parts t
    if p.missing then drainTiles ts f
    else
      let f1 := { f with parts := sset {} f.parts t { p with moved := p.words.length } }
      if p.complete then drainTiles ts f1 else (f1, false)

/-- A nugget word as the builder takes it: nugget, conditions, POISON (R149). -/
def wordParts (w : Nat) : Nat × Nat × Bool := (bitsOf w 0 48, bitsOf w 48 6, decide (bitsOf w 55 1 = 1))

/-- A 256-bit map from tiles of a test (R155). -/
def tileMap (f : Nat → Bool) : Nat := (List.range 256).foldl (fun m t => if f t then m + 2 ^ t else m) 0

/-- What a closed fragment holds (R153, R155). -/
def State.build (s : State) (f : Frag) : Built :=
  { frag := f
    nuggets := (List.range 256).flatMap (fun t =>
      (((sget {} f.parts t).words.take (sget {} f.parts t).moved).drop 1).map wordParts)
    miss := tileMap (fun t => (sget {} f.parts t).missing)
    ovf := tileMap (fun t => (sget {} f.parts t).ovf)
    warn := s.phaseWarn f.first }

/-- Column `c` is wholly missing from a fragment: every tile of it in service, then as now (R156). -/
def State.columnMissing (s : State) (f : Frag) (c : Nat) : Bool :=
  let rows := (List.range 16).filter (fun r => s.tileUp (r * 16 + c) && !(sget {} f.parts (r * 16 + c)).out)
  !rows.isEmpty && rows.all (fun r => (sget {} f.parts (r * 16 + c)).missing)

/-- The strikes of a fragment's missing tiles, given at its close: one to a column that is wholly missing, else one to
each struck tile (R154, R156; log 12). -/
def State.closeStrikes (s : State) (f : Frag) : State :=
  (List.range 16).foldl (fun s c =>
    let struck := (List.range 16).filter (fun r => (sget {} f.parts (r * 16 + c)).strike)
    if s.columnMissing f c then s.strikeColumn c
    else struck.foldl (fun s r => s.strikeTile (r * 16 + c)) s) s

/-- Words leave the store and fragments close in issue order (R153); at most one for each open fragment. -/
def drainFrom : Nat → State → State
  | 0, s => s
  | k + 1, s =>
    match s.asm.frags with
    | [] => s
    | f :: fs =>
      if ¬ f.started then s
      else
        let (f1, done) := drainTiles (List.range 256) f
        if done then
          let s1 := { s with asm := { s.asm with frags := fs, closed := s.asm.closed ++ [s.build f1] } }
          drainFrom k (s1.closeStrikes f1)
        else { s with asm := { s.asm with frags := f1 :: fs } }

/-- The builder moves what it can (R153); a segment whose credit returns is ready again (R151, R241). -/
def State.drain (s : State) : State :=
  let t := drainFrom s.asm.frags.length s
  (List.range 16).foldl (fun u c => if s.hasCredit c || !t.hasCredit c then u else u.arbReady c) t

/-- A tile's response to a tag delivered poisoned nuggets: one strike (R139). -/
def State.poisonStrike (s : State) (t : Nat) (r : TResp) : State := if r.poison then s.strikeTile t else s

/-- The retrieval of a fragment starts at every tile: the requests of one cycle join together, in index order, and the segments then
decide (R231, R246). -/
def startFrag (f : Frag) (s : State) : State :=
  let s1 := (List.range 256).foldl (State.tileStart f) (s.mapFrag f.tag (fun g => { g with started := true, began := s.fNow }))
  ((List.range 16).foldl (fun s c => s.arbSettle c) s1).drain

/-- Tile `t` ends its response to a tag: its pins go, expired entries go, in STREAMING the group's entries are freed, and
the next response raises its request (R134, R246). -/
def State.endResponse (s : State) (t tag : Nat) (free : Bool) : State :=
  let v := s.tile t
  let win := v.pins.find? (fun p => decide (p.1 = tag))
  let stream := match s.fragOf tag with | some f => decide (f.kind = .stream) | none => false
  let buf := match win with
    | some p => if free && stream then v.buf.filter (fun e => !(decide (p.2.1 ≤ e.slots ∧ e.slots ≤ p.2.2))) else v.buf
    | none => v.buf
  let resp := v.resp.filter (fun r => decide (r.tag ≠ tag))
  let s1 := s.setTile t { v with buf := buf, resp := resp, pins := v.pins.filter (fun p => decide (p.1 ≠ tag)) }
  let s2 := expireNow t s1
  let s3 := match resp with
    | [] => s2
    | r :: _ => s2.arbRequest (t % 16) (t / 16) r.words.length
  (v.resp.filter (fun r => decide (r.tag = tag))).foldl (fun s r => s.poisonStrike t r) s3

/-- The tile owns its segment's grant with words to move. -/
def State.ownsSegment (s : State) (t : Nat) : Bool :=
  let a := s.arb (t % 16)
  match a.owner with
  | none => false
  | some q => decide (q.r = t / 16) && !a.parked && decide (q.prog < q.len)

/-- A word of tile `t` reaches its fragment. -/
def State.takeWord (s : State) (t tag w : Nat) : State :=
  s.mapFrag tag (fun f =>
    let p := sget {} f.parts t
    let p1 : TPart := if p.hdr then { p with words := p.words ++ [w] }
      else { p with hdr := true, count := bitsOf w 0 10, ovf := decide (bitsOf w 32 1 = 1), words := [w] }
    { f with parts := sset {} f.parts t p1
             firstHdr := if p.hdr ∨ f.firstHdr.isSome then f.firstHdr else some s.fNow })

/-- A nugget word that the tile delivers poisoned is counted (R139). -/
def State.poisonSeen (s : State) (w : Nat) : State :=
  if bitsOf w 62 2 = 1 ∧ bitsOf w 55 1 = 1 then (s.inc Reg.TILE_POISON_CNT).flag F.TILE_STATUS_POISON else s

/-- The tile that owns its segment moves its next word to the assembly store (R150, R151, R153). A word of a response that
the builder has given up, or of a fragment no longer open, is discarded and counted (R154). -/
def galleryWord (t : Nat) (s : State) : State :=
  match (s.tile t).resp with
  | [] => s
  | r :: _ =>
    if ¬ s.ownsSegment t then s
    else
      match r.words with
      | [] => s.endResponse t r.tag true
      | w :: ws =>
        if r.abandon ∨ (s.fragOf r.tag).isNone then
          ((s.inc Reg.FRAG_LATE_CNT).arbDrop (t % 16) (t / 16)).endResponse t r.tag false
        else if ¬ s.hasCredit (t % 16) then s
        else
          let v := s.tile t
          let bad := decide (bitsOf w 62 2 = 1 ∧ bitsOf w 55 1 = 1)
          let s1 := (s.setTile t { v with resp := v.resp.map (fun x =>
            if x.tag = r.tag then { x with words := ws, poison := x.poison || bad } else x) }).arbMove (t % 16)
          let s2 := (s1.takeWord t r.tag w).poisonSeen w
          let s3 := if ws = [] then s2.endResponse t r.tag true else s2
          s3.drain

/-- The builder declares a tile missing for a tag, and the tile abandons that response (R154). -/
def State.declareMissing (s : State) (tag t : Nat) (strike : Bool) : State :=
  let s1 := (s.mapFrag tag (fun f =>
    let p := sget {} f.parts t
    { f with parts := sset {} f.parts t { p with missing := true, strike := strike, words := p.words.take p.moved } })).inc
      Reg.FRAG_MISSING_CNT
  let v := s1.tile t
  match v.resp with
  | [] => s1
  | r :: rest =>
    if r.tag = tag then
      if s1.ownsSegment t then
        s1.setTile t { v with resp := { r with abandon := true } :: rest }
      else (s1.arbDrop (t % 16) (t / 16)).endResponse t tag false
    else s1.setTile t { v with resp := r :: rest.filter (fun x => decide (x.tag ≠ tag))
                               pins := v.pins.filter (fun p => decide (p.1 ≠ tag)) }

/-- A tile is not yet done with an open, started fragment. -/
def State.partOpen (s : State) (tag t : Nat) : Bool :=
  match s.fragOf tag with
  | none => false
  | some f => f.started && !(sget {} f.parts t).missing && !(sget {} f.parts t).complete

/-- A granted tile with credit sends no word for GRANT_TMO Gallery cycles, 0 acting as 1 (R154). -/
def grantTimeout (t : Nat) (s : State) : State :=
  s.reachF ((s.arb (t % 16)).since + 4 * atLeast1 (s.get F.FRAG_ASM_GRANT_TMO)) (fun s =>
    match (s.tile t).resp with
    | [] => s
    | r :: _ =>
      if s.ownsSegment t ∧ ¬ r.abandon ∧ s.partOpen r.tag t ∧ s.hasCredit (t % 16) then
        (s.declareMissing r.tag t true).drain
      else s)

/-- The F-cycle since reset at which a fragment's total timeout passes (R154): TOTAL_TMO Gallery cycles, 0 acting as 1, after its first
header, or after the request where no header came in that time. -/
def State.totalAt (s : State) (f : Frag) : Nat :=
  let n := 4 * atLeast1 (s.get F.FRAG_ASM_TOTAL_TMO)
  match f.firstHdr with
  | some h => if h ≤ f.began + n then h + n else f.began + n
  | none => f.began + n

/-- A tile's header has not come within TOTAL_TMO cycles (R154): a strike only if it neither requested nor was busy. -/
def totalTimeout (tag t : Nat) (s : State) : State :=
  match s.fragOf tag with
  | none => s
  | some f =>
    if f.started then
      s.reachF (s.totalAt f) (fun s =>
        if s.partOpen tag t ∧ ¬ (s.fragOf tag).any (fun f => (sget {} f.parts t).hdr) then
          (s.declareMissing tag t (decide ((s.tile t).resp = []))).drain
        else s)
    else s

/-- A bite on Gallery segment `c` (R154, R242, R245): the owner's response is abandoned, its tile is missing, its entries
stay, and the tile takes the bite's strike. -/
def galleryBite (c : Nat) (s : State) : State :=
  match (s.arb c).owner with
  | none => s
  | some q =>
    let t := q.r * 16 + c
    match (s.tile t).resp with
    | [] => s.biteRelease c
    | r :: rest =>
      let v := s.tile t
      let s1 := s.setTile t { v with resp := rest, pins := v.pins.filter (fun p => decide (p.1 ≠ r.tag)) }
      let s2 := if s.partOpen r.tag t then s1.declareMissing r.tag t false else s1
      let s3 := s2.biteRelease c
      let s4 := match rest with | [] => s3 | x :: _ => s3.arbRequest c q.r x.words.length
      (s4.poisonStrike t r).drain

/-- A retrieval starts at the tiles, at slot last + 18 or at its issue (R141). -/
def retrievalStart (tag : Nat) (s : State) : State :=
  match s.fragOf tag with
  | none => s
  | some f => if f.started then s else s.reachSlot (f.last + 18) (startFrag f)

/-! Streaming slot groups (R146). -/

/-- Slots of group `g` (R146). -/
def groupLen (len g : Nat) : Nat := min 16 (len - 16 * g)

/-- The fragment of the next slot group. -/
def State.groupFrag (s : State) (first : Nat) : Frag :=
  let g := s.asm.groupNo
  let n := groupLen s.time.len g
  let d := if 9 ≤ n then 8 else 0
  { tag := 0, kind := .stream, first := first, last := first + n - 1, trig := first + d, trigger := g
    orbit := s.asm.groupOrbit, slot := 16 * g + d, winLen := n, winOfs := -(d : Int) }

/-- The sequencer passes to the next group. -/
def State.groupNext (s : State) (first : Nat) : State :=
  let n := groupLen s.time.len s.asm.groupNo
  let wrap := decide (s.time.len ≤ 16 * (s.asm.groupNo + 1))
  { s with asm := { s.asm with groupFrom := some (first + n)
                               groupNo := if wrap then 0 else s.asm.groupNo + 1
                               groupOrbit := if wrap then (s.asm.groupOrbit + 1) % 2 ^ 32 else s.asm.groupOrbit } }

/-- The sequencer issues the next group's retrieval at slot last + 18 (R146). -/
def streamGroupIssue (s : State) : State :=
  match s.asm.groupFrom with
  | none => s
  | some first =>
    if s.sys.run.capturing ∧ s.get F.TRG_MODE_READOUT = 1 ∧ s.mayIssue ∧ s.matrixOn then
      let f := s.groupFrag first
      s.reachSlot (f.last + 18) (fun s => (s.issue f).groupNext first)
    else s

/-! Counters loaded anew in a run (R45). -/

/-- The slot counters have been loaded `d` slots ahead of where they stood, the present slot staying slot `now` since reset: entries
and drop marks keep their SLOT, and so take the age that the new counter gives them (R134); windows and groups keep their slot
numbers (R142, R146). -/
def State.shiftTiles (s : State) (d : Int) (orbits : Int) : State :=
  let len : Int := atLeast1 s.time.len
  let aged : Nat → Nat := fun t => s.time.slots - ((((s.time.slots : Int) - t + d) % len).toNat)
  let moved : Nat → Nat := fun t => ((t : Int) - d).toNat
  let frag : Frag → Frag := fun f => { f with first := moved f.first, last := moved f.last, trig := moved f.trig }
  { s with
    tiles := s.tiles.map (fun (e : Nat × Tile) => (e.1, { e.2 with
      buf := e.2.buf.map (fun (x : TEntry) => { x with slots := aged x.slots })
      drops := e.2.drops.map aged
      pins := e.2.pins.map (fun p => (p.1, moved p.2.1, moved p.2.2)) }))
    asm := { s.asm with
      frags := s.asm.frags.map frag
      waits := s.asm.waits.map frag
      groupFrom := s.asm.groupFrom.map moved
      groupOrbit := ofSigned 32 ((s.asm.groupOrbit : Int) + orbits) } }

/-! The end of capture (R133). -/

/-- The retrievals of the STREAMING groups up to captured slot `last` that are not yet issued, at most `k` of them. -/
def groupsDue : Nat → Nat → State → List Frag
  | 0, _, _ => []
  | k + 1, last, s =>
    match s.asm.groupFrom with
    | none => []
    | some first => if last < first then [] else s.groupFrag first :: groupsDue k last (s.groupNext first)

/-- Capture ends with the present slot (R133): in STREAMING every group whose slots were captured joins the waiting retrievals, and
speculative releases not yet issued are not issued. -/
def State.beginFlush (s : State) : State :=
  let due := if s.get F.TRG_MODE_READOUT = 1 ∧ s.matrixOn then groupsDue 2048 s.time.slots s else []
  { s with asm := { s.asm with
      waits := s.asm.waits.filter (fun f => decide (f.kind ≠ .spec)) ++ due
      groupFrom := none, flush := some s.time.slots } }

/-- Every retrieval of what was captured is issued, started and complete at every tile (R133). -/
def State.flushed (s : State) : Bool :=
  s.trg.ready.isEmpty && s.asm.waits.isEmpty && s.asm.frags.all (fun f => f.started) &&
    s.tiles.all (fun p => p.2.resp.isEmpty)

/-- Once its retrievals are complete after RUNNING and HOLD, each tile frees its entries and clears its drop marks; those of a run
that has begun since stay (R133; DEDUCED, log 102). -/
def State.freeTiles (s : State) : State :=
  match s.asm.flush with
  | none => s
  | some last =>
    if s.flushed then
      let s1 := s.tiles.foldl (fun s p =>
        let v := s.tile p.1
        s.setTile p.1 { v with buf := v.buf.filter (fun e => decide (last < e.slots))
                               drops := v.drops.filter (fun d => decide (last < d)) }) s
      { s1 with asm := { s1.asm with flush := none } }
    else s

/-- The oldest retrieval that waits for room, other than an accept's, is issued (R152, log 97). -/
def State.issueWait (s : State) : State :=
  match s.asm.waits with
  | [] => s
  | f :: fs => if s.mayIssue then ({ s with asm := { s.asm with waits := fs } }).issue f else s

/-- A retrieval is issued, or waits for room after those that wait (R152). -/
def State.request (s : State) (f : Frag) : State :=
  if s.mayIssue ∧ s.asm.waits = [] then s.issue f else { s with asm := { s.asm with waits := s.asm.waits ++ [f] } }

end Sys2Proof.Machine
end

