-- ==== Sys2Proof/Machine/Facet.lean ====
section
/-! DEFINITION. Fragments and Facet coding (R254–R259, R270–R283): nugget flags, the fragment's bytes, the code and its
decoder, and the four engines. -/

namespace Sys2Proof.Machine

/-- A nugget as it stands in a fragment: its 48 bits, FLAGS included, and its extended flag byte (R257). -/
structure Nug where
  n   : Nat
  ext : Nat
deriving DecidableEq, Repr

/-- FLAGS of a nugget (R144). -/
def Nug.flags (g : Nug) : Nat := g.n % 4
/-- Channel of a nugget. -/
def Nug.chan (g : Nug) : Nat := bitsOf g.n 34 14
/-- REL_SLOT of a nugget. -/
def Nug.rel (g : Nug) : Nat := bitsOf g.n 30 4
/-- FINE of a nugget. -/
def Nug.fine (g : Nug) : Nat := bitsOf g.n 14 16
/-- TOT of a nugget. -/
def Nug.tot (g : Nug) : Nat := bitsOf g.n 2 12
/-- An extended flag byte follows (R145). -/
def Nug.escaped (g : Nug) : Bool := decide (g.flags = 3)

/-- FLAGS and extended flag byte from a nugget's conditions, POISON and SPEC (R145, R258). -/
def flagNug (n cond : Nat) (poison spec : Bool) : Nug :=
  let e := cond % 64 + b2n poison * 64 + b2n spec * 128
  if e < 3 then { n := n / 4 * 4 + e, ext := 0 } else { n := n / 4 * 4 + 3, ext := e }

/-- One nugget of a raw block (R257). -/
def Nug.raw (g : Nug) : List Byte := leBytes 6 g.n ++ if g.escaped then leBytes 1 g.ext else []

/-- A raw nugget block (R257). -/
def rawBlock (gs : List Nug) : List Byte := gs.flatMap Nug.raw

/-- The next nugget of a raw block, with the rest. -/
def takeRaw (bs : List Byte) : Option (Nug × List Byte) :=
  if bs.length < 6 then none
  else
    let n := byteField bs 0 6
    if n % 4 = 3 then
      match bs.drop 6 with
      | [] => none
      | e :: rest => some ({ n := n, ext := e.toNat }, rest)
    else some ({ n := n, ext := 0 }, bs.drop 6)

/-- `k` nuggets of a raw block, with the rest. -/
def takeRaws : Nat → List Byte → Option (List Nug × List Byte)
  | 0, bs => some ([], bs)
  | k + 1, bs =>
    match takeRaw bs with
    | none => none
    | some (g, rest) =>
      match takeRaws k rest with
      | none => none
      | some (gs, r) => some (g :: gs, r)

/-! Bit strings: a value and its length, most significant bit first (R271). -/

/-- A bit string. -/
abbrev Bits := Nat × Nat

/-- `k` bits of `v` appended. -/
def Bits.put (b : Bits) (v k : Nat) : Bits := (b.1 * 2 ^ k + v % 2 ^ k, b.2 + k)

/-- Whole bytes, most significant first, padded with 0 bits (R271). -/
def Bits.bytes (b : Bits) : List Byte :=
  let n := ceilDiv b.2 8
  (leBytes n (b.1 * 2 ^ (8 * n - b.2))).reverse

/-- The channel code of a nugget after channel `p` (R272). -/
def putChan (b : Bits) (p c : Nat) : Bits :=
  let d := c - p
  if d < 4 then (b.put 0 2).put d 2
  else if d < 36 then (b.put 1 2).put (d - 4) 5
  else if d < 1060 then (b.put 2 2).put (d - 36) 10
  else (b.put 3 2).put c 14

/-- A run length (R273). -/
def putRun (b : Bits) (l : Nat) : Bits :=
  if l = 1 then b.put 1 1
  else if l < 6 then (b.put 1 2).put (l - 2) 2
  else (b.put 0 2).put (l - 6) 5

/-- One row of a TOT table (R274): prefix, prefix bits, suffix bits, first value. -/
structure TotCode where
  pre  : Nat
  len  : Nat
  k    : Nat
  base : Nat

/-- TOT table `t` (R274). -/
def totTable (t : Nat) : List TotCode :=
  if t = 0 then
    [⟨0, 2, 5, 0⟩, ⟨1, 2, 5, 32⟩, ⟨4, 3, 6, 64⟩, ⟨5, 3, 7, 128⟩, ⟨12, 4, 8, 256⟩, ⟨13, 4, 9, 512⟩, ⟨14, 4, 10, 1024⟩,
     ⟨15, 4, 11, 2048⟩]
  else if t = 1 then
    [⟨0, 2, 7, 256⟩, ⟨1, 2, 7, 384⟩, ⟨4, 3, 7, 128⟩, ⟨5, 3, 8, 512⟩, ⟨12, 4, 7, 0⟩, ⟨13, 4, 8, 768⟩, ⟨14, 4, 10, 1024⟩,
     ⟨15, 4, 11, 2048⟩]
  else if t = 2 then
    [⟨0, 2, 8, 512⟩, ⟨1, 2, 8, 768⟩, ⟨4, 3, 8, 256⟩, ⟨5, 3, 9, 1024⟩, ⟨12, 4, 8, 0⟩, ⟨13, 4, 9, 1536⟩, ⟨14, 4, 10, 2048⟩,
     ⟨15, 4, 10, 3072⟩]
  else [⟨0, 1, 11, 0⟩, ⟨2, 2, 10, 2048⟩, ⟨3, 2, 10, 3072⟩]

/-- The code of a TOT in a table. -/
def totCode (t v : Nat) : Option TotCode := (totTable t).find? (fun c => decide (c.base ≤ v ∧ v < c.base + 2 ^ c.k))

/-- A TOT coded (R274). -/
def putTot (t : Nat) (b : Bits) (v : Nat) : Bits :=
  match totCode t v with
  | some c => (b.put c.pre c.len).put (v - c.base) c.k
  | none => b

/-- Bits that a TOT costs in a table (R276). -/
def totCost (t v : Nat) : Nat := match totCode t v with | some c => c.len + c.k | none => 0

/-- Runs of equal values: value and length, in order (R273). -/
def runs : List Nat → List (Nat × Nat)
  | [] => []
  | v :: vs =>
    match runs vs with
    | (w, l) :: rest => if v = w then (w, l + 1) :: rest else (v, 1) :: (w, l) :: rest
    | [] => [(v, 1)]

/-- The relative-slot column (R273). -/
def putRels (b : Bits) (gs : List Nug) : Bits :=
  (runs (gs.map Nug.rel)).foldl (fun b r => putRun (b.put r.1 4) r.2) b

/-- The flags column: each escape run is followed by its extended bytes (R275). -/
def putFlags (b : Bits) (gs : List Nug) : Bits :=
  ((runs (gs.map Nug.flags)).foldl (fun (st : Bits × List Nug) r =>
    let b1 := putRun (st.1.put r.1 2) r.2
    let mine := st.2.take r.2
    (if r.1 = 3 then mine.foldl (fun b g => b.put g.ext 8) b1 else b1, st.2.drop r.2)) (b, gs)).1

/-- The channel column from channel `p` (R272). -/
def putChans (b : Bits) (p : Nat) : List Nug → Bits
  | [] => b
  | g :: gs => putChans (putChan b p g.chan) g.chan gs

/-- The bit string of one coded group after channel `p` (R271). -/
def groupBits (tsel p : Nat) (gs : List Nug) : Bits :=
  let b1 := putRels (putChans (0, 0) p gs) gs
  let b2 := gs.foldl (fun b g => putTot tsel b g.tot) b1
  gs.foldl (fun b g => b.put g.fine 16) (putFlags b2 gs)

/-- One group's bytes, and whether it is sent raw (R271, R277). -/
def codeGroup (tsel p : Nat) (gs : List Nug) : List Byte × Bool :=
  let raw := rawBlock gs
  let code := (groupBits tsel p gs).bytes
  if code.length < raw.length then (leBytes 1 (gs.length - 1) ++ code, false)
  else (leBytes 1 (128 + (gs.length - 1)) ++ raw, true)

/-- Groups of 32 nuggets, at most `k` of them. -/
def groupsOf : Nat → List Nug → List (List Nug)
  | 0, _ => []
  | k + 1, gs => if gs.isEmpty then [] else gs.take 32 :: groupsOf k (gs.drop 32)

/-- The channel of the last nugget of a list, or `p`. -/
def lastChan (p : Nat) (gs : List Nug) : Nat := match gs.getLast? with | some g => g.chan | none => p

/-- The groups of a block coded in order: bytes and the number of raw groups. -/
def codeGroups (tsel : Nat) : Nat → List (List Nug) → List Byte × Nat
  | _, [] => ([], 0)
  | p, gs :: rest =>
    let (bs, raw) := codeGroup tsel p gs
    let (bs', n) := codeGroups tsel (lastChan p gs) rest
    (bs ++ bs', b2n raw + n)

/-- A coded block and its number of raw groups (R270). -/
def codeBlock (tsel : Nat) (gs : List Nug) : List Byte × Nat :=
  let (bs, raws) := codeGroups tsel 0 (groupsOf gs.length gs)
  (leBytes 4 (tsel * 2 ^ 24 + (bs.length + 4)) ++ bs, raws)

/-! Decoding (R280). -/

/-- The bits of a coded group under decoding: the value of the block's remaining bytes, their bits, and the bits read. -/
structure Rd where
  v    : Nat
  len  : Nat
  pos  : Nat := 0

/-- The bytes of a block as a bit source. -/
def Rd.of (bs : List Byte) : Rd := { v := ofLE bs.reverse, len := 8 * bs.length }

/-- Read `k` bits. -/
def Rd.get (r : Rd) (k : Nat) : Option (Nat × Rd) :=
  if r.pos + k ≤ r.len then some (bitsOf r.v (r.len - r.pos - k) k, { r with pos := r.pos + k }) else none

/-- A run length (R273). -/
def getRun (r : Rd) : Option (Nat × Rd) :=
  match r.get 1 with
  | none => none
  | some (b0, r1) =>
    if b0 = 1 then some (1, r1)
    else
      match r1.get 1 with
      | none => none
      | some (b1, r2) =>
        match r2.get (if b1 = 1 then 2 else 5) with
        | none => none
        | some (x, r3) => if b1 = 1 then some (2 + x, r3) else if x ≤ 26 then some (6 + x, r3) else none

/-- One channel after channel `p` (R272, R280). -/
def getChan (p : Nat) (r : Rd) : Option (Nat × Rd) :=
  match r.get 2 with
  | none => none
  | some (c, r1) =>
    match r1.get (if c = 0 then 2 else if c = 1 then 5 else if c = 2 then 10 else 14) with
    | none => none
    | some (x, r2) =>
      let n := if c = 0 then p + x else if c = 1 then p + 4 + x else if c = 2 then p + 36 + x else x
      if p ≤ n ∧ n ≤ 16383 then some (n, r2) else none

/-- `m` channels. -/
def getChans : Nat → Nat → Rd → Option (List Nat × Rd)
  | 0, _, r => some ([], r)
  | m + 1, p, r =>
    match getChan p r with
    | none => none
    | some (n, r1) =>
      match getChans m n r1 with
      | none => none
      | some (ns, r2) => some (n :: ns, r2)

/-- A column of runs of `k`-bit values that covers `m` nuggets, at most `fuel` runs; `esc` reads the extended bytes that
follow a run of value 3. Answers value and extended byte per nugget. -/
def getRuns (k : Nat) (esc : Bool) : Nat → Nat → Rd → Option (List (Nat × Nat) × Rd)
  | 0, m, r => if m = 0 then some ([], r) else none
  | fuel + 1, m, r =>
    if m = 0 then some ([], r)
    else
      match r.get k with
      | none => none
      | some (v, r1) =>
        match getRun r1 with
        | none => none
        | some (l, r2) =>
          if m < l then none
          else
            let body : Option (List (Nat × Nat) × Rd) :=
              if esc ∧ v = 3 then
                (List.range l).foldl (fun acc _ => match acc with
                  | none => none
                  | some (xs, q) => match q.get 8 with
                    | none => none
                    | some (e, q1) => if e < 3 then none else some (xs ++ [(v, e)], q1)) (some ([], r2))
              else some (List.replicate l (v, 0), r2)
            match body with
            | none => none
            | some (xs, r3) =>
              match getRuns k esc fuel (m - l) r3 with
              | none => none
              | some (ys, r4) => some (xs ++ ys, r4)

/-- One TOT of a table. -/
def getTot (t : Nat) (r : Rd) : Option (Nat × Rd) :=
  (totTable t).foldl (fun acc c => match acc with
    | some x => some x
    | none => match r.get c.len with
      | none => none
      | some (p, r1) => if p = c.pre then (match r1.get c.k with | none => none | some (x, r2) => some (c.base + x, r2))
        else none) none

/-- `m` values read by `f`. -/
def getMany (f : Rd → Option (Nat × Rd)) : Nat → Rd → Option (List Nat × Rd)
  | 0, r => some ([], r)
  | m + 1, r =>
    match f r with
    | none => none
    | some (x, r1) =>
      match getMany f m r1 with
      | none => none
      | some (xs, r2) => some (x :: xs, r2)

/-- A nugget from its columns. -/
def mkNug (chan rel tot flags ext fine : Nat) : Nug :=
  { n := chan * 2 ^ 34 + rel * 2 ^ 30 + fine * 2 ^ 14 + tot * 4 + flags, ext := ext }

/-- One coded group of `m` nuggets, with the bytes after it. -/
def getGroup (tsel p m : Nat) (bs : List Byte) : Option (List Nug × List Byte) :=
  match getChans m p (Rd.of bs) with
  | none => none
  | some (cs, r1) =>
    match getRuns 4 false m m r1 with
    | none => none
    | some (rels, r2) =>
      match getMany (getTot tsel) m r2 with
      | none => none
      | some (tots, r3) =>
        match getRuns 2 true m m r3 with
        | none => none
        | some (fls, r4) =>
          match getMany (fun r => r.get 16) m r4 with
          | none => none
          | some (fines, r5) =>
            some ((List.range m).map (fun i => mkNug (cs.getD i 0) (rels.getD i (0, 0)).1 (tots.getD i 0)
              (fls.getD i (0, 0)).1 (fls.getD i (0, 0)).2 (fines.getD i 0)), bs.drop (ceilDiv r5.pos 8))

/-- The checks of R280 on the nuggets of a raw group: channel order and extended flag bytes. -/
def rawGroupOk (p : Nat) : List Nug → Bool
  | [] => true
  | g :: gs => decide (p ≤ g.chan) && (!g.escaped || decide (3 ≤ g.ext)) && rawGroupOk g.chan gs

/-- The groups of a coded block for `hits` nuggets, at most `fuel` groups (R280). -/
def getGroups (tsel : Nat) : Nat → Nat → Nat → List Byte → Option (List Nug)
  | 0, _, hits, bs => if hits = 0 ∧ bs.isEmpty then some [] else none
  | fuel + 1, p, hits, bs =>
    if hits = 0 then (if bs.isEmpty then some [] else none)
    else
      match bs with
      | [] => none
      | g :: rest =>
        let m := g.toNat % 32 + 1
        if m ≠ min 32 hits then none
        else
          let body := if 128 ≤ g.toNat then
              (match takeRaws m rest with
               | some (gs, r) => if rawGroupOk p gs then some (gs, r) else none
               | none => none)
            else getGroup tsel p m rest
          match body with
          | none => none
          | some (gs, r) =>
            match getGroups tsel fuel (lastChan p gs) (hits - m) r with
            | none => none
            | some more => some (gs ++ more)

/-- A coded block of the length that the header implies, for `hits` nuggets: its TSEL and nuggets, or none for a format
error (R280). -/
def decodeBlock (hits : Nat) (bs : List Byte) : Option (Nat × List Nug) :=
  if bs.length < 4 then none
  else
    let h := byteField bs 0 4
    if h % 2 ^ 24 ≠ bs.length then none
    else
      match getGroups (bitsOf h 24 2) (hits / 32 + 1) 0 hits (bs.drop 4) with
      | none => none
      | some gs => some (bitsOf h 24 2, gs)

/-! The fragment's bytes (R254–R259). -/

/-- Runs of a tile map from tile `t` on: (SKIP, RUN − 1) pairs (R256). -/
def mapRuns (m : Nat) : Nat → Nat → Nat → Nat → List Byte
  | 0, _, skip, run => if run = 0 then [] else leBytes 1 skip ++ leBytes 1 (run - 1)
  | k + 1, t, skip, run =>
    if bitsOf m t 1 = 1 then mapRuns m k (t + 1) skip (run + 1)
    else if run = 0 then mapRuns m k (t + 1) (skip + 1) 0
    else leBytes 1 skip ++ leBytes 1 (run - 1) ++ mapRuns m k (t + 1) 1 0

/-- A tile map: its form byte and its bytes (R256). -/
def mapForm (m : Nat) : Nat × List Byte :=
  if m = 0 then (0, [])
  else
    let rl := mapRuns m 256 0 0 0
    if rl.length ≤ 30 then (rl.length, rl) else (0xA0, leBytes 32 m)

/-- The window byte of the header (R254, R255). -/
def winByte (len : Nat) (ofs : Int) : Nat := (len - 1) % 16 * 16 + ofSigned 4 ofs

/-- The fragment's nuggets with their FLAGS (R145, R258). -/
def Built.nugs (b : Built) : List Nug :=
  if b.frag.frozen then []
  else b.nuggets.map (fun w => flagNug w.1 w.2.1 w.2.2 (decide (b.frag.kind = .spec)))

/-- A fragment's bytes with the nugget block `block`, its header flags from the retrieval and its trailer over the raw block
(R254, R255, R259). -/
def Built.bytes (b : Built) (origin : Nat) (coded : Bool) (block : List Byte) : List Byte :=
  let gs := b.nugs
  let (mf, mb) := mapForm b.miss
  let (of, ob) := mapForm b.ovf
  let maps := mb ++ ob
  let hl := ceilDiv (32 + maps.length) 4
  let flags := b2n coded + b2n (decide (b.frag.kind = .spec)) * 2 + b2n b.frag.late * 8 + b2n b.warn * 16
    + b2n b.frag.frozen * 32 + b2n (decide (b.frag.kind = .evidence)) * 64 + b2n (decide (b.miss ≠ 0)) * 128
    + b2n (decide (b.ovf ≠ 0)) * 256 + b2n (b.nuggets.any (fun w => w.2.2) && !b.frag.frozen) * 512
    + b2n (decide (b.frag.kind = .stream)) * 2048
  leBytes 3 (hl * 4 + block.length + 4) ++ leBytes 1 hl ++ leBytes 2 origin ++ leBytes 2 flags
    ++ leBytes 4 b.frag.trigger ++ leBytes 4 b.frag.orbit ++ leBytes 2 b.frag.slot ++ leBytes 2 b.frag.src
    ++ leBytes 1 (winByte b.frag.winLen b.frag.winOfs) ++ leBytes 1 0 ++ leBytes 1 mf ++ leBytes 1 of
    ++ leBytes 4 gs.length ++ leBytes 4 ((gs.filter Nug.escaped).length)
    ++ maps ++ List.replicate (hl * 4 - 32 - maps.length) 0 ++ block ++ leBytes 4 (crc32c (rawBlock gs))

/-- Length field of a fragment (R254). -/
def fragLen (bs : List Byte) : Nat := byteField bs 0 3
/-- Header length in bytes. -/
def fragHdr (bs : List Byte) : Nat := byteField bs 3 1 * 4
/-- Header flags of a fragment. -/
def fragFlags (bs : List Byte) : Nat := byteField bs 6 2
/-- A header flag is set. -/
def fragFlag (bs : List Byte) (k : Nat) : Bool := decide (bitsOf (fragFlags bs) k 1 = 1)
/-- Nuggets of a fragment. -/
def fragHits (bs : List Byte) : Nat := byteField bs 24 4 % 2 ^ 18
/-- The nugget block of a fragment without an end-to-end tag. -/
def fragBlock (bs : List Byte) : List Byte := (bs.drop (fragHdr bs)).take (bs.length - fragHdr bs - 4)
/-- The trailer of a fragment without an end-to-end tag. -/
def fragTrailer (bs : List Byte) : Nat := byteField bs (bs.length - 4) 4

/-- Map bytes of a fragment, without the zero bytes up to HDR_LEN (R254, R256). -/
def fragMaps (bs : List Byte) : List Byte := (bs.drop 32).take (byteField bs 22 1 % 64 + byteField bs 23 1 % 64)

/-- What a fragment's end-to-end tag covers (R269). -/
def fragImage (bs : List Byte) : List Byte :=
  (bs.drop 4).take 2 ++ (bs.drop 12).take 6 ++ (bs.drop 20).take 1 ++ (bs.drop 22).take 10 ++ fragMaps bs
    ++ bs.drop (fragHdr bs)

/-- The nuggets of a fragment, its TSEL if coded, or none for a format error (R280). A raw block that does not hold just HITS nuggets
is one too (DESIGN CHOICE, log 104). -/
def fragNugs (bs : List Byte) : Option (Nat × List Nug) :=
  if fragFlag bs 0 then
    if fragLen bs ≠ bs.length then none else decodeBlock (fragHits bs) (fragBlock bs)
  else
    match takeRaws (fragHits bs) (fragBlock bs) with
    | some (gs, []) => some (0, gs)
    | _ => none

/-- The trailer check: the CRC-32C of the raw block of the nuggets (R259, R281). -/
def trailerOk (bs : List Byte) (gs : List Nug) : Bool := decide (crc32c (rawBlock gs) = fragTrailer bs)

/-! The engines (R276, R279). -/

/-- TSEL of a coding that begins now (R276). -/
def State.tselNow (s : State) : Nat := if s.on F.FACET_CTRL_FIXED then s.get F.FACET_CTRL_TABLE else s.facet.best

/-- A coding ends: the counters, the cheapest table and TSEL_LAST (R276, R277, R279). -/
def State.codingEnds (s : State) (tsel : Nat) (gs : List Nug) : List Byte × State :=
  let (blk, raws) := codeBlock tsel gs
  let s1 := (((s.inc Reg.FACET_FRAG_CNT).inc64 Reg.FACET_RAW_BYTES (rawBlock gs).length).inc64 Reg.FACET_CODED_BYTES
    blk.length).incBy Reg.FACET_RAW_GROUP_CNT raws
  let s2 := s1.put F.FACET_STATUS_TSEL_LAST tsel
  let cost : Nat → Nat := fun t => gs.foldl (fun a g => a + totCost t g.tot) 0
  let best := [1, 2, 3].foldl (fun b t => if cost t < cost b then t else b) 0
  (blk, if gs.isEmpty then s2 else { s2 with facet := { s2.facet with best := best } })

/-- The end-to-end tag is added to a fragment of this die while its mode is HOP_E2E (R269, R409). -/
def State.fragTag (s : State) (bs : List Byte) : List Byte :=
  match s.hall.e2e.tx with
  | none => bs
  | some k =>
    if s.get F.HALL_AUTH_MODE ≠ 2 then bs
    else
      let b1 := overlay (overlay bs 0 (leBytes 3 (bs.length + 8))) 6 (leBytes 2 (setBits (fragFlags bs) 13 1 1))
      b1 ++ (Config.cmac k.key (fragImage b1)).take 8

/-- The lowest engine that is free, 4 if none is (R279). -/
def State.freeEngine (s : State) : Nat :=
  ((List.range 4).find? (fun e => !s.facet.jobs.any (fun j => decide (j.engine = e) && j.done.isNone))).getD 4

/-- Fragments that have left assembly pass on: to a free engine where coding is enabled, else straight to the order of
leaving (R270, R279). At most `k` of them. -/
def intoFacet : Nat → State → State
  | 0, s => s
  | k + 1, s =>
    match s.facet.wait with
    | [] => s
    | b :: bs =>
      let s1 := { s with facet := { s.facet with wait := bs } }
      if bitsOf (s.get F.FACET_CTRL_ENABLE) 0 1 = 1 then
        let e := s.freeEngine
        if e = 4 then s
        else intoFacet k { s1 with facet := { s1.facet with jobs := s1.facet.jobs ++
          [{ engine := e, tsel := s.tselNow, built := b }] } }
      else
        intoFacet k { s1 with facet := { s1.facet with jobs := s1.facet.jobs ++
          [{ engine := 4, tsel := 0, built := b, done := some (s.fragTag (b.bytes s.dieNo false (rawBlock b.nugs))) }] } }

/-- Engine `e` finishes the fragment it codes (R279). -/
def State.facetEnd (s : State) (e : Nat) : State :=
  match s.facet.jobs.find? (fun j => decide (j.engine = e) && j.done.isNone) with
  | none => s
  | some j =>
    let (blk, s1) := s.codingEnds j.tsel j.built.nugs
    let bs := s.fragTag (j.built.bytes s.dieNo true blk)
    { s1 with facet := { s1.facet with jobs := s1.facet.jobs.map (fun x =>
        if x.engine = e ∧ x.done.isNone then { x with done := some bs } else x) } }

end Sys2Proof.Machine
end

