-- ==== Sys2Proof/Machine/Wire.lean ====
section
/-! DEFINITION. Ports and what they send (R260–R268, R284, R294, R308–R312, R404): which port is which, routes, frames with
their SEQ, credit, replay buffer and tag, VC0 and VC1 messages, and the frames of the shaft uplink. -/

namespace Sys2Proof.Machine

/-! Ports and lanes. -/

/-- Port `p`. -/
def State.port (s : State) (p : Nat) : PortSt := sget {} s.ports p
/-- Set port `p`. -/
def State.setPort (s : State) (p : Nat) (v : PortSt) : State := { s with ports := sset {} s.ports p v }
/-- Lane `l`. -/
def State.lane (s : State) (l : Nat) : LaneSt := sget {} s.lanes l
/-- Set lane `l`. -/
def State.setLane (s : State) (l : Nat) (v : LaneSt) : State := { s with lanes := sset {} s.lanes l v }

/-- What a port is: 0 off, 1 SHAFT, 2 ALT_SHAFT, 3 DRIFT, 4 the clasp link (R284). -/
def State.portKind (s : State) (p : Nat) : Nat :=
  if p = 15 ∧ s.isRoot ∧ s.on F.CLASP_CTRL_ENABLE then 4 else s.get (F.PORT_CFG_TYPE p)
/-- The lane mask of a port (R284). -/
def State.portMask (s : State) (p : Nat) : Nat := if s.portKind p = 4 then 0xC0 else s.get (F.PORT_CFG_LANES p)
/-- `PORT_STATUS.STATE`. -/
def State.portState (s : State) (p : Nat) : Nat := s.get (F.PORT_STATUS_STATE p)
/-- State code of UP (R314). -/
abbrev psUp : Nat := 6
/-- The port is in UP. -/
def State.portUp? (s : State) (p : Nat) : Bool := decide (s.portState p = psUp)
/-- The Syano version of a port's link. -/
def State.portVersion (s : State) (p : Nat) : Nat := s.get (F.PORT_STATUS_VERSION p)
/-- A negotiated feature bit (R316). -/
def State.portFeat (s : State) (p k : Nat) : Bool := decide (bitsOf (s.rd64 (Reg.PORT_FEAT p)) k 1 = 1)
/-- The ports of a kind, ascending. -/
def State.portsOf (s : State) (k : Nat) : List Nat := (List.range 16).filter (fun p => decide (s.portKind p = k))
/-- The drift ports, ascending: position is the drift index (log 14). -/
def State.drifts (s : State) : List Nat := s.portsOf 3
/-- Drift ports in service. -/
def State.driftsUp (s : State) : List Nat := s.drifts.filter s.portUp?
/-- The drift index of a port (log 14). -/
def State.driftIndex (s : State) (p : Nat) : Nat := (s.drifts.takeWhile (fun q => decide (q ≠ p))).length
/-- The drift port of an index. -/
def State.driftPort (s : State) (k : Nat) : Option Nat := s.drifts[k]?
/-- The SHAFT port. -/
def State.mainShaft (s : State) : Option Nat := (s.portsOf 1).head?
/-- The ALT_SHAFT port. -/
def State.altShaft (s : State) : Option Nat := (s.portsOf 2).head?
/-- The shaft port in use (R334): the SHAFT port until a switch. -/
def State.shaftPort (s : State) : Option Nat :=
  if s.isRoot then none else if s.get F.TREE_STATUS_USE = 2 then s.altShaft else s.mainShaft
/-- The other shaft port. -/
def State.otherShaft (s : State) : Option Nat :=
  if s.isRoot then none else if s.get F.TREE_STATUS_USE = 2 then s.mainShaft else s.altShaft
/-- The shaft ports that upward traffic takes: the one in use, or both in duplication (R335). -/
def State.upPorts (s : State) : List Nat :=
  (s.shaftPort.toList ++ (if s.on F.TREE_STATUS_DUP then s.otherShaft.toList else [])).filter s.portUp?
/-- The arbiter instance of a shaft port: 16 SHAFT, 17 ALT_SHAFT (R244). -/
def State.uplinkOf (s : State) (p : Nat) : Nat := if s.portKind p = 2 then 17 else 16
/-- The die's level, 0 while unnumbered. -/
def State.level (s : State) : Nat := s.get F.TREE_ID_LEVEL
/-- The partner of a port shows a number, or has been given one (R330). -/
def State.kidJoined (s : State) (p : Nat) : Bool := decide ((s.port p).kid ≠ 0x3FF)
/-- The drift index that routes to a die, 0xF for none. -/
def State.routeOf (s : State) (die : Nat) : Nat := s.get (F.TREE_ROUTE_DRIFT (die % 1024))
/-- The drift port that routes to a die. -/
def State.routePort (s : State) (die : Nat) : Option Nat := if s.routeOf die = 0xF then none else s.driftPort (s.routeOf die)
/-- The outputs are held during a clasp switch-over (R350). -/
def State.outHeld (s : State) : Bool := s.clasp.outHeld

/-- The die sends nothing up: its shaft timing is lost, also after HOLD has ended in READY (R21). -/
def State.upHeld (s : State) : Bool := !s.isRoot && (decide (s.sys.run = .hold) || s.on F.ORB_STATUS_HOLDOVER)

/-! Blocks. -/

/-- A control block leaves a port (R291). -/
def State.block (s : State) (p typ content : Nat) : State := s.emit (.block p typ content)

/-! Frames (R260) and their virtual channels (R308–R312). -/

/-- Virtual channel `v` of a port. -/
def PortSt.vc (q : PortSt) (v : Nat) : Vc := if v = 0 then q.v0 else if v = 1 then q.v1 else q.v2
/-- Set a virtual channel of a port. -/
def PortSt.setVc (q : PortSt) (v : Nat) (c : Vc) : PortSt :=
  if v = 0 then { q with v0 := c } else if v = 1 then { q with v1 := c } else { q with v2 := c }

/-- Credit units of a frame of `n` bytes (R308). -/
def units (n : Nat) : Nat := ceilDiv n 64

/-- Units a sender has left on a virtual channel (R309, log 15): those of UP, plus those returned, less those taken. -/
def Vc.avail (c : Vc) : Nat := (c.start + c.cum + 2 ^ 32 - c.taken) % 2 ^ 16

/-- The nearest IV of R404: salt, then the counter most significant byte first. -/
def ivOf (salt : List Byte) (ctr : Nat) : List Byte := salt ++ (leBytes 8 ctr).reverse

/-- The per-hop tag of a frame's bytes 0 to 19 + n (R404). -/
def hopTag (k : DirKey) (ctr : Nat) (bs : List Byte) : List Byte := (Config.gcmTag k.key (ivOf k.salt ctr) bs []).take 8

/-- The frame of a payload on virtual channel `v` with TYPE, STREAM and SEQ; `key` is the transmit key of a tagged link
with its phase (R260, R404). -/
def frameBytes (src orbit typ v stream seq : Nat) (payload : List Byte) (key : Option (DirKey × Nat)) : List Byte :=
  let tagged := key.isSome
  let ctr := match key with | some (k, _) => k.ctr | none => 0
  let ph := match key with | some (_, p) => p | none => 0
  let hdr := leBytes 1 typ ++ leBytes 1 (v + stream * 16) ++ leBytes 2 src ++ leBytes 2 seq
    ++ leBytes 2 (payload.length + 20 + b2n tagged * 8) ++ leBytes 4 orbit ++ leBytes 2 (b2n tagged + ph * 2)
    ++ leBytes 2 (ctr % 2 ^ 16)
  let body := hdr ++ payload
  let b1 := body ++ leBytes 4 (crc32c body)
  match key with
  | some (k, _) => b1 ++ hopTag k k.ctr b1
  | none => b1

/-- The transmit key of a port's next new frame; the first frame after a rekey takes the new key (R404, R406). -/
def State.takeKey (s : State) (p : Nat) : Option (DirKey × Nat) × State :=
  let q := s.port p
  let s1 := match q.sess.txNew with
    | none => s
    | some k => (s.setPort p { q with sess := { q.sess with tx := some k, txNew := none } }).put (F.HALL_PORT_PHASE p)
        (1 - s.get (F.HALL_PORT_PHASE p))
  let q1 := s1.port p
  match q1.sess.tx with
  | none => (none, s1)
  | some k => (some (k, s1.get (F.HALL_PORT_PHASE p)),
      s1.setPort p { q1 with sess := { q1.sess with tx := some { k with ctr := k.ctr + 1 } } })

/-- Longest payload of a frame on a port (R260). -/
def State.payloadMax (s : State) (p : Nat) : Nat :=
  if (s.port p).sess.tx.isSome ∨ (s.port p).sess.txNew.isSome then 4068 else 4076

/-- Length of a frame with a payload of `n` bytes on a port. -/
def State.frameLen (s : State) (p n : Nat) : Nat := n + 20 + (4076 - s.payloadMax p)

/-- Frames wait on a port: its lanes re-run TRAIN (R312), or its timing lane, which leaves the striping only by retirement, is held for
a retrain (R300, R304). -/
def State.framesWait (s : State) (p : Nat) : Bool :=
  (s.port p).retrain || (s.port p).lanes.head?.any (fun l => (s.lane l).txHeld)

/-- A new frame of `n` payload bytes may start on virtual channel `v` (R308, R310, R312): credit for all of it, room in the
replay buffer, and no frame of the channel still to be sent again. -/
def State.mayStart (s : State) (p v n : Nat) : Bool :=
  let q := s.port p
  !s.framesWait p && decide (units (s.frameLen p n) ≤ (q.vc v).avail) && decide (q.replay.length < 64) &&
    q.replay.all (fun f => !(decide (f.vc = v) && f.again))

/-- A new frame leaves on virtual channel `v` (R260, R308, R310). -/
def State.txFrame (s : State) (p v typ stream : Nat) (payload : List Byte) : State :=
  let (key, s1) := s.takeKey p
  let q := s1.port p
  let c := q.vc v
  let bs := frameBytes s1.dieNo s1.orbitNow typ v stream c.txSeq payload key
  let q1 := q.setVc v { c with
    txSeq := (c.txSeq + 1) % 2 ^ 16, taken := c.taken + units bs.length
    since := if q.replay.any (fun f => decide (f.vc = v)) then c.since else s1.fNow }
  (s1.setPort p { q1 with replay := q1.replay ++ [{ vc := v, seq := c.txSeq, bytes := bs }] }).emit (.frame p bs)

/-! VC0 and VC1 frames that wait (R248, R250). -/

/-- The port is a shaft port, whose frames upward share an arbiter (R244, R248). -/
def State.arbitrated (s : State) (p : Nat) : Bool := decide (s.portKind p = 1 ∨ s.portKind p = 2)

/-- The next waiting frame that may start: VC1 before VC0, each channel in its order of arrival (R250; on an uplink a DESIGN CHOICE,
log 103). -/
def State.nextControl (s : State) (p : Nat) : Option (Nat × Nat × List Byte) :=
  let head : Nat → Option (Nat × Nat × List Byte) := fun v =>
    ((s.port p).waiting.find? (fun f => decide (f.1 = v))).filter (fun f => s.mayStart p v f.2.2.length)
  (head 1).or (head 0)

/-- The control channel asks for the shaft uplink and sends at once if it is granted: an idle arbiter grants it by its queues, else its
frames wait for an evaluation point or a release (R247, R248). Answers whether it may send now. -/
def State.controlGrant (s : State) (p n : Nat) : Bool × State :=
  if s.arbitrated p then
    let i := s.uplinkOf p
    let t := (s.arbJoin i { r := 16, cls := 0, len := ceilDiv (s.frameLen p n) 8 }).arbSettle i
    ((t.arb i).owner.any (fun q => decide (q.r = 16)) && !(t.arb i).idle, t)
  else (true, s)

/-- A waiting frame leaves. -/
def State.sendControl (s : State) (p : Nat) (f : Nat × Nat × List Byte) : State :=
  let q := s.port p
  (s.setPort p { q with waiting := q.waiting.erase f }).txFrame p f.1 f.2.1 0 f.2.2

/-- The control channel's frame has been sent whole, and the uplink is released (R233). -/
def State.controlDone (s : State) (p : Nat) : State :=
  if s.arbitrated p then (s.arbDrop (s.uplinkOf p) 16).arbRelease (s.uplinkOf p) else s

/-- Waiting VC0 and VC1 frames go out as credit and the arbiter allow, at most `k` of them. -/
def pumpFrom (p : Nat) : Nat → State → State
  | 0, s => s
  | k + 1, s =>
    match s.nextControl p with
    | none => s
    | some f =>
      let (go, t) := s.controlGrant p f.2.2.length
      if go then pumpFrom p k ((t.sendControl p f).controlDone p) else t

/-- Waiting VC0 and VC1 frames are sent as far as they can be. -/
def State.pump (s : State) (p : Nat) : State := pumpFrom p (s.port p).waiting.length s

/-- A VC0 or VC1 frame is queued on a port and sent if it can be (R248, R250). -/
def State.queueFrame (s : State) (p v typ : Nat) (payload : List Byte) : State :=
  (s.setPort p { s.port p with waiting := (s.port p).waiting ++ [(v, typ, payload)] }).pump p

/-- TYPE codes (R260). -/
abbrev tyData : Nat := 1
/-- MSG. -/
abbrev tyMsg : Nat := 2
/-- CTRL. -/
abbrev tyCtrl : Nat := 3
/-- AUTH. -/
abbrev tyAuth : Nat := 4

/-- VC1 messages (R164, R174, R178, R188, R192). -/
inductive Vc1 where
  | trigger (m : TrigMsg)
  | prim (m : PrimMsg)
  | busy (b refresh : Bool) (die : Nat)
  | confirm (m : SpecMsg)
  | cancel (m : SpecMsg)
  | nack (m : SpecMsg)

/-- The bytes of a CONFIRM, CANCEL or NACK (R188, R192). -/
def specBytes (code : Nat) (m : SpecMsg) : List Byte :=
  leBytes 1 code ++ leBytes 1 m.info ++ leBytes 2 m.origin ++ leBytes 4 m.orbit ++ leBytes 2 m.slot ++ leBytes 2 m.src
    ++ leBytes 4 m.trigger

/-- The bytes of a VC1 message. -/
def Vc1.bytes : Vc1 → List Byte
  | .trigger m => leBytes 1 1 ++ leBytes 1 m.word ++ leBytes 2 m.slot ++ leBytes 4 m.orbit ++ leBytes 4 m.trigger
      ++ leBytes 2 m.src ++ leBytes 2 0
  | .prim m => leBytes 1 2 ++ leBytes 1 m.count ++ leBytes 2 m.slot ++ leBytes 4 m.orbit
      ++ (List.range 4).map (fun i => BitVec.ofNat 8 (m.prims.getD i 0))
  | .busy b r die => leBytes 1 3 ++ leBytes 1 (b2n b + b2n r * 2) ++ leBytes 2 die
  | .confirm m => specBytes 4 m
  | .cancel m => specBytes 5 m
  | .nack m => specBytes 6 m

/-- A VC1 message leaves on a port in UP; a die in SAFE sends none (R460), and a refused child gets none (R331). -/
def State.sendVc1 (s : State) (p : Nat) (m : Vc1) : State :=
  if s.portUp? p ∧ s.sys.run ≠ .safe ∧ ¬ (s.port p).refused then s.queueFrame p 1 tyMsg m.bytes else s

/-- A VC1 message goes up the shaft: on both shaft ports in duplication (R335). -/
def State.sendUp1 (s : State) (m : Vc1) : State := s.upPorts.foldl (fun s p => s.sendVc1 p m) s

/-- A VC0 message leaves on a port in UP (R324). -/
def State.sendVc0 (s : State) (p : Nat) (bs : List Byte) : State :=
  if s.portUp? p then s.queueFrame p 0 tyCtrl bs else s

/-! VC0 messages (R324). -/

/-- DST of the nearest root upward. -/
abbrev dstRoot : Nat := 0x3FE
/-- DST of the die at the other end of the link. -/
abbrev dstPeer : Nat := 0x3FD

/-- A body padded with zero bytes to whole words. -/
def padWord (bs : List Byte) : List Byte := bs ++ List.replicate ((4 - bs.length % 4) % 4) 0

/-- A VC0 message (R324): header and padded body. -/
def vc0Bytes (msg dst src tag : Nat) (body : List Byte) : List Byte :=
  let b := padWord body
  leBytes 1 msg ++ leBytes 1 (2 + b.length / 4) ++ leBytes 2 dst ++ leBytes 2 src ++ leBytes 2 tag ++ b

/-- The ports that a VC0 message to 0x3FE or a root takes upward (R326, R335). -/
def State.sendUp0 (s : State) (bs : List Byte) : State := s.upPorts.foldl (fun s p => s.sendVc0 p bs) s

/-- The message goes to a root: 0x3FE, or in duplication the number of either root (R335). -/
def State.toRoot (s : State) (dst : Nat) : Bool := decide (dst = dstRoot) || (s.on F.TREE_STATUS_DUP && s.tree.roots.contains dst)

/-- A message leaves upward: on both shaft ports for a root in duplication, else on the port in use (R326, R335). -/
def State.sendUpTo (s : State) (dst : Nat) (bs : List Byte) : State :=
  if s.toRoot dst then s.sendUp0 bs else match s.shaftPort with | some u => s.sendVc0 u bs | none => s

/-- The message leaves toward a die number, from this die: down its route, else up (R326). -/
def State.sendTo (s : State) (dst : Nat) (bs : List Byte) : State :=
  if dst = dstRoot then s.sendUp0 bs
  else
    match s.routePort dst with
    | some p => s.sendVc0 p bs
    | none => if s.isRoot then s else s.sendUpTo dst bs

/-! Credit returned and frames acknowledged (R309, R310). -/

/-- The receiver returns units and sends CREDIT (R309). -/
def State.giveCredit (s : State) (p v n : Nat) : State :=
  let q := s.port p
  let c := q.vc v
  let g := (c.given + n) % 2 ^ 16
  (s.setPort p (q.setVc v { c with given := g })).block p 0xAA (v + g * 256)

/-- `a` is at or before `b` on a 16-bit circle (R310). -/
def seqLe (a b : Nat) : Bool := decide ((b + 2 ^ 16 - a % 2 ^ 16) % 2 ^ 16 < 2 ^ 15)

/-- A unit's last frame on an uplink is acknowledged. -/
def ackUnit (uplink seq : Nat) (u : BUnit) : BUnit :=
  if uplink = 16 then
    match u.seqA with | some x => if u.left ∧ seqLe x seq then { u with seqA := none } else u | none => u
  else
    match u.seqB with | some x => if u.left ∧ seqLe x seq then { u with seqB := none } else u | none => u

/-- Units that have left and are acknowledged everywhere are forgotten (R339). -/
def State.forgetSent (s : State) : State :=
  { s with buf := { s.buf with units := s.buf.units.filter (fun u => !(u.left && u.seqA.isNone && u.seqB.isNone)) } }

/-- ACK of a virtual channel up to a SEQ (R310, R339). -/
def State.ackTo (s : State) (p v seq : Nat) : State :=
  let q := s.port p
  let left := q.replay.filter (fun f => !(decide (f.vc = v) && seqLe f.seq seq))
  let s1 := s.setPort p { (if left = q.replay then q else q.setVc v { q.vc v with since := s.fNow }) with replay := left }
  let s2 := if v = 2 ∧ (s.portKind p = 1 ∨ s.portKind p = 2) then
      ({ s1 with buf := { s1.buf with units := s1.buf.units.map (ackUnit (s.uplinkOf p) seq) } }).forgetSent
    else s1
  s2.pump p

/-- Frames to be sent again go out in order on each channel as credit allows: `stuck` are the channels that wait
(R308, R312). -/
def resendAgain (p : Nat) : List TxFrame → List Nat → State → State
  | [], _, s => s
  | f :: fs, stuck, s =>
    let q := s.port p
    let c := q.vc f.vc
    if ¬ f.again then resendAgain p fs stuck s
    else if s.framesWait p ∨ stuck.contains f.vc ∨ c.avail < units f.bytes.length then resendAgain p fs (f.vc :: stuck) s
    else
      let q1 := q.setVc f.vc { c with taken := c.taken + units f.bytes.length, since := s.fNow }
      let s1 := s.setPort p { q1 with replay := q1.replay.map (fun (g : TxFrame) =>
        if g.vc = f.vc ∧ g.seq = f.seq then { g with again := false, sends := g.sends + 1 } else g) }
      resendAgain p fs stuck ((s1.emit (.frame p f.bytes)).inc (Reg.PORT_REPLAY_CNT p))

/-- What a port may send as credit comes: frames again, then VC0 and VC1 frames that wait. -/
def State.sendOn (s : State) (p : Nat) : State := (resendAgain p (s.port p).replay [] s).pump p

/-! The shaft uplink (R247–R249, R263, R264): requesters, pieces and frames. -/

/-- The uplink requester that a unit belongs to (R244). -/
def State.requesterOf (s : State) (u : BUnit) : Nat :=
  if u.q then 12
  else if u.port < 16 then s.driftIndex u.port
  else if u.stream = 0 then 13
  else if u.stream = 2 then 14
  else 15

/-- Bytes of a unit already sent on an uplink. -/
def BUnit.sentOn (u : BUnit) (uplink : Nat) : Nat := if uplink = 16 then u.sentA else u.sentB

/-- A unit has something to send on an uplink: bytes, or its ABORT piece. -/
def BUnit.pends (u : BUnit) (uplink : Nat) : Bool :=
  !u.left && !u.drop && (decide (u.sentOn uplink < u.bytes.length) ||
    (u.abort && decide (0 < u.sentOn uplink) && (if uplink = 16 then u.seqA.isNone else u.seqB.isNone)))

/-- The header of a fragment is here and carries SPEC (R255). -/
def isSpecUnit (bs : List Byte) : Bool := decide (32 ≤ bs.length) && decide (bitsOf (byteField bs 6 2) 1 1 = 1)

/-- A unit may go up now (R21, R193, R460): in SAFE only the die's own alert record; while shaft timing is lost nothing; an
unconfirmed speculative fragment not over a link below L3. -/
def State.maySend (s : State) (p : Nat) (u : BUnit) : Bool :=
  if s.sys.run = .safe then decide (u.stream = 5 ∧ u.port = 16)
  else !s.upHeld && !(u.q && (isSpecUnit u.bytes || decide (u.bytes.length < 32)) && decide (s.portVersion p < 3))

/-- Two units share a key on the way up (R264). -/
def sameKey (a b : BUnit) : Bool := decide (a.stream = b.stream ∧ a.origin = b.origin ∧ a.q = b.q)

/-- One piece of a unit on a port: `n` bytes from byte `at'` (R263). -/
def State.pieceBytes (s : State) (p : Nat) (u : BUnit) (at' n : Nat) : List Byte :=
  let ab := u.abort && decide (n = 0)
  let last := u.whole && !u.abort && decide (at' + n = u.bytes.length)
  leBytes 4 (b2n ab * 2 ^ 26 + u.origin % 1024 * 2 ^ 16 + b2n (u.q && s.portFeat p 6) * 2 ^ 15 + b2n last * 2 ^ 14
    + b2n (decide (at' = 0)) * 2 ^ 13 + n) ++ (u.bytes.drop at').take n

/-- The pieces of a unit from byte `at'` in `room` bytes, and the byte that they reach: each ends with its unit or with the received
piece that it is cut from, which goes whole or in consecutive pieces (R263, R266). -/
def State.unitPieces (s : State) (p : Nat) (u : BUnit) : List Nat → Nat → Nat → List Byte × Nat
  | [], at', room =>
    let n := min (u.bytes.length - at') (min 4072 (room - 4))
    if room ≤ 4 ∨ (n = 0 ∧ (u.abort = false ∨ at' < u.bytes.length)) then ([], at') else (s.pieceBytes p u at' n, at' + n)
  | c :: cs, at', room =>
    if c ≤ at' then s.unitPieces p u cs at' room
    else
      let n := min (c - at') (min 4072 (room - 4))
      if n = 0 then ([], at')
      else
        let (bs, e) := if at' + n = c ∧ c < u.bytes.length then s.unitPieces p u cs c (room - 4 - n) else ([], at' + n)
        (s.pieceBytes p u at' n ++ bs, e)

/-- The pieces of one frame of requester `r` on an uplink: units passed over so far, the stream chosen, room left, the piece
bytes, and the units with what they have sent (R263, R264). -/
def takePieces (s : State) (p uplink r : Nat) : List BUnit → List BUnit → Option Nat → Nat → List Byte × List BUnit
  | [], _, _, _ => ([], [])
  | u :: us, behind, stream, room =>
    let mine := decide (s.requesterOf u = r) && u.pends uplink && s.maySend p u && !behind.any (sameKey u) &&
      (match stream with | some k => decide (u.stream = k) | none => true) && decide (4 < room)
    if mine then
      let (own, e) := s.unitPieces p u u.cuts (u.sentOn uplink) room
      let ends := decide (u.sentOn uplink = u.bytes.length)
      let closes := if u.abort then ends else u.whole && decide (e = u.bytes.length)
      let seq := if u.abort && !ends then none else some ((s.port p).v2.txSeq)
      let u1 := if uplink = 16 then { u with sentA := e, seqA := seq } else { u with sentB := e, seqB := seq }
      let (bs, vs) := takePieces s p uplink r us (if closes then behind else u1 :: behind) (some u.stream) (room - own.length)
      (own ++ bs, u1 :: vs)
    else
      let (bs, vs) := takePieces s p uplink r us (if u.pends uplink then u :: behind else behind) stream room
      (bs, u :: vs)

/-- The payload of the next frame of a requester on an uplink, of at most `room` bytes, and the units with what it sends of them. -/
def State.nextPayload (s : State) (p r room : Nat) : List Byte × List BUnit :=
  takePieces s p (s.uplinkOf p) r s.buf.units [] none (min room (s.payloadMax p))

/-- The stream of the next frame of a requester. -/
def State.nextStream (s : State) (p r : Nat) : Nat :=
  match s.buf.units.find? (fun u => decide (s.requesterOf u = r) && u.pends (s.uplinkOf p) && s.maySend p u) with
  | some u => u.stream
  | none => 0

/-- The identity in a fragment's header bytes (R186, R254). -/
def unitId (bs : List Byte) : SpecId :=
  { origin := byteField bs 4 2 % 1024, orbit := byteField bs 12 4, slot := byteField bs 16 2 % 16384 }

/-- What sending the first piece of a speculative fragment marks: at its origin the release has left, with its length counted (R185,
R187); at a relay the identity is FORWARDED (R189). -/
def State.markLeft (s : State) (u : BUnit) : State :=
  if ¬ isSpecUnit u.bytes then s
  else
    let id := unitId u.bytes
    if u.port = 16 then
      ({ s with trg := { s.trg with releases := s.trg.releases.map (fun (r : Release) =>
          if r.orbit = id.orbit ∧ r.slot = id.slot then { r with left := true } else r) } }).incBy Reg.TRG_SPEC_BYTES u.bytes.length
    else
      let rest := s.trg.forwarded.filter (fun f => decide (f.1 ≠ id))
      { s with trg := { s.trg with forwarded := (id, u.port, s.time.slots) :: rest } }

/-- A unit is done on every uplink it must take (R268, R335). -/
def State.unitDone (s : State) (u : BUnit) : Bool :=
  let fin : Nat → Bool := fun k =>
    decide (u.sentOn k = u.bytes.length) && (u.whole || u.abort) && (!u.abort || !u.pends k)
  !s.upPorts.isEmpty && s.upPorts.all (fun p => fin (s.uplinkOf p))

/-- The next frame of requester `r` leaves on shaft port `p`, of the `pay` payload bytes that its request declares, if credit allows:
units advance, and units sent whole leave the buffer (R247, R263, R264, R268). Answers whether a frame left. -/
def State.sendData (s : State) (p r pay : Nat) : Bool × State :=
  let (pl, us) := s.nextPayload p r pay
  if pl.isEmpty ∨ ¬ s.mayStart p 2 pl.length then (false, s)
  else
    let moved := s.buf.units.zip us
    let begun := (moved.filter (fun m => decide (m.1.sentA + m.1.sentB = 0 ∧ m.2.sentA + m.2.sentB ≠ 0))).map (fun m => m.1)
    let aborts := moved.filter (fun m => m.1.abort && m.1.pends (s.uplinkOf p) && !m.2.pends (s.uplinkOf p))
    let s1 := s.txFrame p 2 tyData (s.nextStream p r) pl
    let s2 := begun.foldl State.markLeft { s1 with buf := { s1.buf with units := us } }
    let s3 := { s2 with buf := { s2.buf with units := s2.buf.units.map (fun (u : BUnit) =>
      if !u.left && s2.unitDone u then { u with left := true } else u) } }
    (true, s3.incBy Reg.FRAG_ABORT_SENT_CNT aborts.length)

/-- The port of an uplink arbiter. -/
def State.uplinkPort (s : State) (i : Nat) : Option Nat := if i = 17 then s.altShaft else s.mainShaft

/-- Requesters with something to send on an uplink, in the order in which it came to the buffer. -/
def State.askers (s : State) (p : Nat) : List Nat :=
  ((s.buf.units.filter (fun u => u.pends (s.uplinkOf p) && s.maySend p u)).map s.requesterOf).eraseDups

/-- Requesters with data raise their requests on an uplink, with the length of their next frame in words, and an idle arbiter decides
(R231, R247, R249, R253). Requests are raised as fragments, pieces and records come to the buffer; those that alerts raise between,
with the next of these (DESIGN CHOICE, log 100). -/
def State.uplinkPoll (s : State) (i : Nat) : State :=
  match s.uplinkPort i with
  | none => s
  | some p =>
    if ¬ s.upPorts.contains p then s
    else
      ((s.askers p).foldl (fun s r =>
        let n := (s.nextPayload p r (s.payloadMax p)).1.length
        let a := s.arb i
        let owns : Bool := match a.owner with | some q => decide (q.r = r) && !a.idle | none => false
        if n = 0 ∨ owns = true then s
        else s.arbJoin i { r := r, cls := 0, len := ceilDiv (s.frameLen p n) 8, pay := n }) s).arbSettle i

/-- The owner of an uplink sends its frame whole and its transfer ends (R247). -/
def State.uplinkSend (s : State) (i : Nat) : State :=
  match s.uplinkPort i, (s.arb i).owner with
  | some p, some q =>
    if (s.arb i).idle then s
    else if q.r = 16 then
      match s.nextControl p with
      | some f => (s.sendControl p f).arbDrop i 16
      | none => if (s.port p).waiting = [] then s.arbDrop i 16 else s
    else
      let (sent, s1) := (if q.susp then s.block p 0x66 2 else s).sendData p q.r q.pay
      if sent then s1.arbDrop i q.r
      else if (s.nextPayload p q.r q.pay).1.isEmpty then s.arbDrop i q.r
      else s
  | _, _ => s

/-- The fragment at the head of the speculative requester's queue is gone while it was held (R249): a frame in progress ends with
the abort marker, and the request is withdrawn or restated for the next fragment. -/
def State.uplinkCancel (s : State) (i : Nat) : State :=
  match s.uplinkPort i with
  | none => s
  | some p =>
    let a := s.arb i
    let n := (s.nextPayload p 12 (s.payloadMax p)).1.length
    let again : ArbReq → ArbReq := fun w =>
      if w.r = 12 then { w with len := ceilDiv (s.frameLen p n) 8, prog := 0, susp := false, pay := n } else w
    let begun : ArbReq → Bool := fun w => decide (w.r = 12 ∧ 0 < w.prog ∧ w.prog < w.len)
    let s1 := if (!a.parked && a.owner.any begun) || a.wait.any begun then s.block p 0x4B 2 else s
    if a.parked ∨ ¬ (a.owner.any (fun w => decide (w.r = 12)) ∨ a.wait.any (fun w => decide (w.r = 12))) then s1
    else if n = 0 then s1.arbDrop i 12
    else s1.setArb i { a with owner := a.owner.map again, wait := a.wait.map again }

/-- Credit lets the frame of an uplink's owner run (R241, R308). -/
def State.uplinkGo (s : State) (p : Nat) (o : ArbReq) : Bool :=
  if o.r = 16 then (s.nextControl p).isSome else s.mayStart p 2 (s.nextPayload p o.r o.pay).1.length

/-- Words that the owner of an uplink has moved at its next evaluation point: 16 more where credit lets its frame run (R234). -/
def State.uplinkProg (s : State) (p : Nat) (o : ArbReq) : Nat := if s.uplinkGo p o then o.prog + 16 else o.prog

/-- An uplink's owner reaches an evaluation point (R234, R247, R293): a higher class pre-empts, which suspends the frame. A frame whose
last word moves there is released normally. On a link without SUSPEND, which an L1 link has not (R316), and inside a nested frame, there
is none. -/
def State.uplinkEvaluate (s : State) (i : Nat) : State :=
  match s.uplinkPort i, (s.arb i).owner with
  | some p, some o =>
    if (s.arb i).idle ∨ s.portVersion p < 2 ∨ ¬ s.portFeat p 2 then s
    else if o.len ≤ s.uplinkProg p o then (s.uplinkSend i).arbRelease i
    else
      let o1 := { o with prog := s.uplinkProg p o }
      let s1 := s.setArb i { s.arb i with owner := some o1, since := if o1.prog = o.prog then (s.arb i).since else s.fNow }
      if (s.arb i).wait.any (fun w => w.susp) then s1
      else
        let s2 := arbEvaluationPoint i s1
        if (s2.arb i).owner = some o1 ∨ o1.prog = 0 then s2
        else
          let a := s2.arb i
          let s3 := s2.setArb i { a with wait := a.wait.map (fun w => if w.r = o.r then { w with susp := true } else w) }
          s3.block p 0x55 2
  | _, _ => s

/-- The uplink's speculative requester takes CONF_CLASS while the fragment at the head of its queue is confirmed (R249); units that wait
only for their ACK are at the head of nothing. -/
def State.specReclass (s : State) : State :=
  let head := s.buf.units.find? (fun u => u.q && decide (u.stream = 0) && !u.left && !u.drop)
  let conf := match head with | some u => decide (u.part = .frag) | none => false
  [16, 17].foldl (fun s i => if (s.arb i).conf = conf then s else (s.setArb i { s.arb i with conf := conf }).arbReclass i) s

/-- A tile opens its read port when its turn hint reads 8 or less, and at the latest when it is granted (R246). -/
def State.readPortOpen (s : State) (t : Nat) : Bool :=
  s.ownsSegment t || ((s.arb (t % 16)).wait.any (fun q => decide (q.r = t / 16)) && decide (s.arbHint (t % 16) (t / 16) ≤ 8))

/-- A drift port fetches its next frame from the fragment output buffer when its turn hint reads 64 or less (R247). -/
def State.fetches (s : State) (i r : Nat) : Bool := (s.arb i).wait.any (fun q => decide (q.r = r)) && decide (s.arbHint i r ≤ 64)

end Sys2Proof.Machine
end

