-- ==== Sys2Proof/Machine/Trigger.lean ====
section
/-! DEFINITION. The trigger engine (R157–R184): the root's input stage, the compensated trigger bus, windows, BUSY,
self-trigger conditions and primitives, and the mask test. -/

namespace Sys2Proof.Machine

/-- `TRG_LAT.DOMAIN` in slots. -/
def State.domainLat (s : State) : Nat := s.get F.TRG_LAT_DOMAIN

/-- The slot since reset of an (orbit, slot) near the present (R32). -/
def State.monoOf (s : State) (orbit slot : Nat) : Nat :=
  let d := toSigned 32 (ofSigned 32 ((orbit : Int) - s.time.orbit))
  ((s.time.slots : Int) + d * s.time.len + slot - s.time.slot).toNat

/-- Orbit and slot of a slot since reset, by the present length (R32). -/
def State.orbitSlotOf (s : State) (t : Nat) : Nat × Nat :=
  let z : Int := (s.time.slot : Int) + t - s.time.slots
  let len : Int := atLeast1 s.time.len
  (ofSigned 32 ((s.time.orbit : Int) + z / len), (z % len).toNat)

/-! The root's trigger input stage (R157–R163). -/

/-- Calendar TRIGGER entries that accept the named slot `s0` (R159): index and accept type. -/
def State.calTriggers (s : State) (named : Nat) : List (Nat × Nat) :=
  let (orb, sl) := s.orbitSlotOf (named + s.domainLat)
  (s.calInUse.filter (fun p =>
    decide (calAction p.2 = 0x0B ∧ calSlot p.2 = sl) &&
      (if calEvery p.2 = 15 then !s.time.fired.contains p.1 else decide (orb % 2 ^ calEvery p.2 = 0)))).map
    (fun p => (p.1, calArg p.2 % 16))

/-- No accept has been formed for TIMEOUT named slots before `named` (R162). -/
def State.autoDue (s : State) (named : Nat) : Bool :=
  s.on F.TRG_AUTO_EN && decide (s.trg.lastNamed + atLeast1 (s.get F.TRG_AUTO_TIMEOUT) < named)

/-- BURST, 0 acting as 1 (R160). -/
def State.burst (s : State) : Nat := atLeast1 (s.get F.TRG_RATE_BURST)

/-- The arrival of a TRIGGER message at this die's queue (R167, R169). -/
def State.queueTrigger (s : State) (m : TrigMsg) (margin : Option Int) : State :=
  let apply := s.monoOf m.orbit m.slot + s.domainLat
  let late := match margin with | some z => decide (z < 0) | none => false
  let s1 := match margin with
    | none => s
    | some z =>
      let z1 := clampInt (-32768) 32767 z
      let s1 := s.put F.TRG_MARGIN_LAST (ofSigned 16 z1)
      if z1 < s.getS F.TRG_MARGIN_MIN then s1.put F.TRG_MARGIN_MIN (ofSigned 16 z1) else s1
  let s2 := if late then ((s1.flag F.TRG_STATUS_LATE).inc Reg.TRG_LATE_CNT).warn F.TRG_STATUS_LATE m.trigger else s1
  let acc := decide (bitsOf m.word 7 1 = 1)
  let full := decide (1024 ≤ (s.trg.queue.filter (fun e => e.accept)).length + s.trg.ready.length)
  let s3 := if acc ∧ full then
      ((s2.inc Reg.TRG_ACC_LOST_CNT).flag F.TRG_STATUS_ACC_LOST).warn F.TRG_STATUS_ACC_LOST m.trigger
    else s2
  let e : TrigEntry := { msg := m, apply := if late then s.time.slots else apply, accept := acc && !full, late := late }
  if e.accept ∨ bitsOf m.word 0 3 ≠ 0 then
    { s3 with trg := { s3.trg with queue := s3.trg.queue ++ [e] } }
  else s3

/-- The stage acts for one named slot, in the slot after the word `w` was sampled (R159–R164), on a FORCE written since it acted last
(R159). Every slot's word is a command, an idle one too: a slot without one forms no accept (DESIGN CHOICE, log 98). -/
def trigStage (w : Nat) (s : State) : State :=
  let a := s.time.slots - 1
  let named := a - s.get F.TRG_LAT_IN_DELAY
  let (orb, sl) := s.orbitSlotOf named
  let seen := decide (bitsOf w 7 1 = 1)
  let open' := decide (s.sys.run = .running) &&
    (match s.time.runStart with | some r => decide (r ≤ named) | none => false)
  let s0 := if seen ∧ ¬ open' then s.inc Reg.TRG_IGN_CNT else s
  let cals := if open' then s.calTriggers named else []
  let forced := open' && (s.trg.forced || s.autoDue named)
  let formed := open' && (seen || !cals.isEmpty || forced)
  let typ := if seen then bitsOf w 3 4 else match cals with | c :: _ => c.2 | [] => s.get F.TRG_AUTO_TYPE
  let src := (if seen then 2 ^ s.get (F.TRG_TYPE_SRC (bitsOf w 3 4)) else 0) + (if cals.isEmpty then 0 else 2 ^ 14)
    + (if forced then 2 ^ 15 else 0)
  let s1 := if formed then cals.foldl (fun s c => s.calMark c.1) s0 else s0
  let s2 := { s1 with trg := { s1.trg with forced := false, lastNamed := if formed then named else s1.trg.lastNamed } }
  let passed := formed && decide (0 < s.trg.tokens)
  let ctl := bitsOf w 0 3
  let s3 := if bitsOf w 1 1 = 1 ∧ (s.sys.run = .running ∨ s.sys.run = .armed) then s2.wr Reg.TRG_EVT 0xFFFFFFFF else s2
  let s4 := if passed then
      let s4 := (s3.busyFollows { s3 with trg := { s3.trg with tokens := s3.trg.tokens - 1 } }).incWrap Reg.TRG_EVT
      if forced then s4.inc Reg.TRG_FORCED_CNT else s4
    else if formed then s3.inc Reg.TRG_RATE_REJ_CNT else s3
  if (passed ∨ ctl ≠ 0) ∧ (s.sys.run = .running ∨ s.sys.run = .armed) then
    let m : TrigMsg := { word := b2n passed * 128 + (if formed then typ else bitsOf w 3 4) * 8 + ctl
                         slot := sl, orbit := orb, trigger := s4.rd Reg.TRG_EVT
                         src := if formed then src else 0 }
    (s4.driftsUp.foldl (fun s p => s.sendVc1 p (.trigger m)) s4).queueTrigger m none
  else s4

/-- The trigger word of a slot reaches the root's stage, which acts in the next slot (R157–R164). In SAFE, or before the counters run,
there is no slot to name, and an ACCEPT is only counted (R163). -/
def trigInWord (w : Nat) (s : State) : State :=
  if ¬ s.isRoot ∨ s.sys.run = .reset ∨ s.sys.run = .init then s
  else if s.sys.run = .safe ∨ ¬ s.time.counting then (if bitsOf w 7 1 = 1 then s.inc Reg.TRG_IGN_CNT else s)
  else s.nextSlot (.trigWord w) (trigStage w)

/-- A forced accept after TIMEOUT named slots without one (R162). -/
def autoForcedAccept (s : State) : State :=
  if s.isRoot ∧ s.sys.run = .running ∧ s.on F.TRG_AUTO_EN then
    s.reachSlot (s.trg.lastNamed + atLeast1 (s.get F.TRG_AUTO_TIMEOUT) + 1 + s.get F.TRG_LAT_IN_DELAY + 1) (trigStage 0)
  else s

/-- The bucket gains a token every 4 slots (R160). -/
def tokenRefill (s : State) : State :=
  s.reachSlot (s.trg.refillAt + 4) (fun s =>
    s.busyFollows { s with trg := { s.trg with refillAt := s.time.slots, tokens := min s.burst (s.trg.tokens + 1) } })

/-- A write of TRG_RATE: the bucket holds at most the new BURST (R160). -/
def State.rateWrite (s : State) : State := { s with trg := { s.trg with tokens := min s.burst s.trg.tokens } }

/-- `TRG_CMD.FORCE` (R159): at a root the stage takes it in the next slot; outside RUNNING it forms no accept from it (R163). -/
def trgForce (s : State) : State :=
  if s.isRoot ∧ s.sys.run = .running then { s with trg := { s.trg with forced := true } } else s

/-! The trigger bus (R165–R169) and windows (R171). -/

/-- A TRIGGER message arrives on the shaft port in use (R165, R167, R169). -/
def triggerReceived (port : Nat) (m : TrigMsg) (s : State) : State :=
  if s.otherShaft = some port then s.inc Reg.TREE_ALT_DISCARD_CNT
  else if s.shaftPort ≠ some port ∨ s.sys.run = .safe then s
  else
    let s1 := s.driftsUp.foldl (fun s p => s.sendVc1 p (.trigger m)) s
    if s.time.counting then
      s1.queueTrigger m (some ((s.monoOf m.orbit m.slot + s.domainLat : Int) - s.time.slots))
    else s1

/-- Window bounds relative to the trigger slot: first and last (R171). -/
def windowOf (ofs : Int) (len : Nat) : Int × Int :=
  let n := if len = 0 then 1 else min 16 len
  (ofs, min (ofs + n - 1) 7)

/-- A window is shortened by the bounds of R171. -/
def windowClamped (ofs : Int) (len : Nat) : Bool := decide (16 < len ∨ 7 < ofs + atLeast1 len - 1)

/-- `TRG_STATUS.WIN_CLAMPED` (R171). -/
def State.winClamped (s : State) : Bool :=
  (List.range 16).any (fun k => windowClamped (s.getS (F.TRG_TYPE_OFS k)) (s.get (F.TRG_TYPE_LEN k))) ||
    windowClamped (s.getS F.TRG_SPEC_OFS) (s.get F.TRG_SPEC_LEN)

/-- The window of an accept type. -/
def State.typeWindow (s : State) (k : Nat) : Int × Int :=
  windowOf (s.getS (F.TRG_TYPE_OFS k)) (s.get (F.TRG_TYPE_LEN k))

/-- The window of a speculative release. -/
def State.specWindow (s : State) : Int × Int := windowOf (s.getS F.TRG_SPEC_OFS) (s.get F.TRG_SPEC_LEN)

/-- The retrieval of trigger slot `trig` (since reset) over window `w`. -/
def mkFrag (kind : RKind) (trig : Nat) (w : Int × Int) (orbit slot trigger src : Nat) (late : Bool) : Frag :=
  { tag := 0, kind := kind, first := ((trig : Int) + w.1).toNat, last := ((trig : Int) + w.2).toNat, trig := trig
    trigger := trigger, orbit := orbit, slot := slot, src := src, late := late
    winLen := (w.2 - w.1 + 1).toNat, winOfs := w.1 }

/-- The retrieval of an applied accept (R172). -/
def State.acceptFrag (s : State) (e : TrigEntry) : Frag :=
  mkFrag .accept (s.monoOf e.msg.orbit e.msg.slot) (s.typeWindow (bitsOf e.msg.word 3 4)) e.msg.orbit e.msg.slot
    e.msg.trigger e.msg.src e.late

/-- An accept is applied: it joins the accept queue, or, while capture is frozen, yields a FROZEN fragment at once
(R166, R168, R169, R183). In SPECULATIVE an accept that names a released slot waits for its resolution (R187). -/
def State.applyAccept (s : State) (e : TrigEntry) : State :=
  let gap := decide (e.msg.trigger ≠ (s.trg.evt + 1) % 2 ^ 32)
  let s0 := if gap then (s.inc Reg.TRG_SEQ_GAP_CNT).flag F.TRG_STATUS_SEQ_GAP else s
  let s1 := { s0 with trg := { s0.trg with evt := e.msg.trigger } }
  let s2 := (if s.isRoot then s1 else s1.wr Reg.TRG_EVT e.msg.trigger).inc Reg.TRG_ACCEPT_CNT
  if ¬ s.matrixOn then s2
  else if s.trg.frozen then
    let f := { s.acceptFrag e with frozen := true, started := true }
    { s2 with asm := { s2.asm with closed := s2.asm.closed ++
        [{ frag := f, nuggets := [], miss := 0, ovf := 0, warn := s.phaseWarn f.first }] } }
  else
    let h := s.monoOf e.msg.orbit e.msg.slot
    if s.trg.releases.any (fun r => decide (r.h = h) && !r.done) then
      { s2 with trg := { s2.trg with releases := s2.trg.releases.map (fun r =>
          if r.h = h ∧ ¬ r.done then { r with accept := some e } else r) } }
    else { s2 with trg := { s2.trg with ready := s2.trg.ready ++ [e] } }

/-- The earliest waiting TRIGGER message is applied at its apply slot (R166). -/
def triggerApply (s : State) : State :=
  match s.trg.queue with
  | [] => s
  | e :: es => s.reachSlot e.apply (fun s =>
      let s0 := { s with trg := { s.trg with queue := es } }
      let s1 := if bitsOf e.msg.word 2 1 = 1 then { s0 with time := { s0.time with orbitReset := true } } else s0
      let s2 := if bitsOf e.msg.word 0 1 = 1 then { s1 with time := { s1.time with rearm := true } } else s1
      let s3 := if bitsOf e.msg.word 1 1 = 1 then
          (let t := { s2 with trg := { s2.trg with evt := 0xFFFFFFFF } }
           if s.isRoot then t else t.wr Reg.TRG_EVT 0xFFFFFFFF)
        else s2
      if ¬ e.accept then s3
      else if s.sys.run = .running ∧ s.get F.TRG_MODE_READOUT ≠ 1 then s3.applyAccept e
      else s3.inc Reg.TRG_IGN_CNT)

/-- The retrieval of an entry of the accept queue: its accept's, or a tally read (R172, R197). -/
def State.entryFrag (s : State) (e : TrigEntry) : Frag :=
  let f := s.acceptFrag e
  if e.tally then { f with kind := .tally } else f

/-- The next applied accept issues its retrieval (R169, R172); with none waiting, the oldest other retrieval that waits for room does
(log 97). -/
def acceptIssue (s : State) : State :=
  match s.trg.ready with
  | [] => s.issueWait
  | e :: es =>
    if s.mayIssue then ({ s with trg := { s.trg with ready := es } }).issue (s.entryFrag e) else s

/-- Waiting retrievals are issued as far as there is room, at most `k` of them. -/
def issueAll : Nat → State → State
  | 0, s => s
  | k + 1, s => issueAll k (acceptIssue s)

/-! BUSY (R173–R175). -/

/-- The die's own busy state, with its hysteresis (R173). -/
def State.ownBusyNow (s : State) : Bool :=
  let q := s.trg.ready.length
  let used := s.partUsed .frag * 64
  let size := s.partSize .frag
  if s.get F.TRG_BUSY_Q_ON ≤ q ∨ s.get F.TRG_BUSY_BUF_ON * size ≤ used then true
  else if q < s.get F.TRG_BUSY_Q_OFF ∧ used < s.get F.TRG_BUSY_BUF_OFF * size then false
  else s.trg.ownBusy

/-- TRG_STATUS.BUSY follows the die's own state and its children's, and a change goes up the shaft (R174). -/
def busyUpdate (s : State) : State :=
  let own := s.ownBusyNow
  let merged := own || s.trg.kidBusy.any (fun p => s.driftsUp.contains p)
  let s1 := { s with trg := { s.trg with ownBusy := own } }
  if merged = s.on F.TRG_STATUS_BUSY then s1
  else (s1.busyFollows (s1.flagIf F.TRG_STATUS_BUSY merged)).sendUp1 (.busy merged false s.dieNo)

/-- A child's BUSY message (R174). -/
def busyReceived (port : Nat) (busy : Bool) (s : State) : State :=
  if s.driftsUp.contains port then
    let rest := s.trg.kidBusy.filter (fun p => decide (p ≠ port))
    busyUpdate { s with trg := { s.trg with kidBusy := if busy then port :: rest else rest } }
  else s

/-- A child whose port loses lock counts as not busy (R174). -/
def busyLost (port : Nat) (s : State) : State :=
  busyUpdate { s with trg := { s.trg with kidBusy := s.trg.kidBusy.filter (fun p => decide (p ≠ port)) } }

/-- BUSY is sent again at slot 0 (R174). -/
def busyRefresh (s : State) : State := s.sendUp1 (.busy (s.on F.TRG_STATUS_BUSY) true s.dieNo)

/-- The level that a root drives on BUSY_OUT (R175): it follows its causes from the next slot's start, and keeps its level in a clasp
switch-over (R350). -/
def State.busyOut (s : State) : Bool :=
  if s.outHeld then s.trg.busyHeld else if s.time.slots < s.trg.busyWas.1 then s.trg.busyWas.2 else s.busyCause

/-- The primitive that a root drives on TPRIM_OUT in the present slot (R180): 0x80 outside RUNNING and where none has been merged; in a
clasp switch-over its last byte again (R350). -/
def State.tprimOut (s : State) : Nat :=
  if s.outHeld then s.trg.tprim
  else if s.sys.run ≠ .running then 0x80
  else sget 0x80 s.trg.drive s.time.slots

/-- The outputs hold as a clasp switch-over begins (R350). -/
def State.holdOutputs (s : State) : State :=
  if s.outHeld then s
  else { s with trg := { s.trg with tprim := s.tprimOut, busyHeld := s.busyOut }, clasp := { s.clasp with outHeld := true } }

/-! Self-trigger conditions and primitives (R176–R180). -/

/-- Leading edges of tile `t` in slot `h`, as local channels (R176). -/
def State.tileEdges (s : State) (t h : Nat) : List Nat :=
  (s.trg.edges.filter (fun e => decide (e.1 = h ∧ e.2 / 64 = t))).map (fun e => e.2 % 64)

/-- Neighbour `k` of a local channel, clockwise from row − 1 (R176). -/
def localNeighbour (c k : Nat) : Option Nat :=
  let dr : Int := if k = 7 ∨ k = 0 ∨ k = 1 then -1 else if k = 3 ∨ k = 4 ∨ k = 5 then 1 else 0
  let dc : Int := if k = 1 ∨ k = 2 ∨ k = 3 then 1 else if k = 5 ∨ k = 6 ∨ k = 7 then -1 else 0
  let r : Int := (c / 8 : Nat) + dr
  let q : Int := (c % 8 : Nat) + dc
  if 0 ≤ r ∧ r < 8 ∧ 0 ≤ q ∧ q < 8 then some (r * 8 + q).toNat else none

/-- The adjacent tile in direction `k`: row − 1, column + 1, row + 1, column − 1 (R176). -/
def adjTile (t k : Nat) : Option Nat :=
  if k = 0 then (if 16 ≤ t then some (t - 16) else none)
  else if k = 1 then (if t % 16 < 15 then some (t + 1) else none)
  else if k = 2 then (if t < 240 then some (t + 16) else none)
  else (if 0 < t % 16 then some (t - 1) else none)

/-- The conditions of a tile for slot `h`: bit 0 MULT, 1 ADJ, 2 COINC (R176). -/
def State.tileConds (s : State) (h t : Nat) : Nat :=
  if bitsOf (s.rd (Reg.TRG_SELF_EN (t / 32))) (t % 32) 1 = 0 then 0
  else
    let es := s.tileEdges t h
    let mn := s.get F.TRG_SELF_MULT_N
    let an := s.get F.TRG_SELF_ADJ_N
    let cn := s.get F.TRG_SELF_COINC_N
    let mask := s.get F.TRG_SELF_ADJ_MASK
    let hitAt : Nat → Nat → Bool := fun c k =>
      decide (bitsOf mask k 1 = 1) && (match localNeighbour c k with | some m => es.contains m | none => false)
    let adj := es.any (fun c => decide (an ≤ ((List.range 8).filter (hitAt c)).length))
    let slots := if s.on F.TRG_SELF_COINC_W then [h - 1, h, h + 1] else [h]
    let near := (List.range 4).any (fun k => decide (bitsOf (s.get F.TRG_SELF_COINC_DIR) k 1 = 1) &&
      (match adjTile t k with | some u => slots.any (fun x => !(s.tileEdges u x).isEmpty) | none => false))
    b2n (decide (mn ≠ 0 ∧ mn ≤ es.length)) + b2n (decide (an ≠ 0) && adj) * 2 +
      b2n (decide (cn ≠ 0 ∧ cn ≤ es.length) && near) * 4

/-- Tiles with an edge in slot `h`. -/
def State.edgeTiles (s : State) (h : Nat) : List Nat :=
  ((s.trg.edges.filter (fun e => decide (e.1 = h))).map (fun e => e.2 / 64)).eraseDups

/-- Slot `h` lies in an injection window of this die (R177, R181). -/
def State.inInjection (s : State) (h : Nat) : Bool := s.trg.injs.any (fun w => w.holds h)

/-- The conditions met by some tile, OR, and the number of tiles meeting any (R176, R177). -/
def State.condsAt (s : State) (h : Nat) : Nat × Nat :=
  let cs := ((s.edgeTiles h).map (s.tileConds h)).filter (fun c => decide (c ≠ 0))
  (cs.foldl (fun a c => a ||| c) 0, cs.length)

/-- The die's own primitive for slot `h` (R177). -/
def State.ownPrim (s : State) (h : Nat) : Nat :=
  if ¬ s.matrixOn ∨ s.sys.run ≠ .running then 0
  else
    let (c, n) := s.condsAt h
    min 7 n * 16 + b2n (s.inInjection h) * 8 + c

/-- Two contributions to a primitive merged (R177). -/
def mergePrim (a b : Nat) : Nat :=
  ((a ||| b) % 16) + min 7 (bitsOf a 4 3 + bitsOf b 4 3) * 16 + b2n (decide (bitsOf a 7 1 = 1 ∨ bitsOf b 7 1 = 1)) * 128

/-- Bits 13:10 of the source mask of a window (R181). -/
def State.selfSrc (s : State) (first last : Nat) : Nat :=
  (List.range (last + 1 - first)).foldl (fun a i =>
    let h := first + i
    a ||| ((s.condsAt h).1 * 1024 + b2n (s.inInjection h) * 8192)) 0

/-- The group of four that holds slot `h` (R178). -/
def State.groupAt (s : State) (h : Nat) : PrimGroup :=
  let (orb, sl) := s.orbitSlotOf h
  { first := h - sl % 4, orbit := orb, slot := sl - sl % 4, count := min 4 (s.time.len - (sl - sl % 4)) }

/-- Change the group that starts at `g.first`, opening it if it is new and not yet sent. -/
def State.withGroup (s : State) (g : PrimGroup) (f : PrimGroup → PrimGroup) : State :=
  if s.trg.groups.any (fun x => decide (x.first = g.first)) then
    { s with trg := { s.trg with groups := s.trg.groups.map (fun x => if x.first = g.first then f x else x) } }
  else { s with trg := { s.trg with groups := s.trg.groups ++ [f g] } }

/-- Children that owe a contribution: joined dies on drift ports in service (R179). -/
def State.primKids (s : State) : List Nat := s.driftsUp.filter (fun p => s.kidJoined p)

/-- Every contribution to a group is in (R179). -/
def State.groupFull (s : State) (g : PrimGroup) : Bool :=
  decide (g.own.length = g.count) && s.primKids.all (fun p => g.kids.any (fun k => decide (k.1 = p)))

/-- The merged primitives of a group; with a contribution missing, every slot is DEGRADED (R177, R179). -/
def State.groupPrims (s : State) (g : PrimGroup) : List Nat :=
  (List.range g.count).map (fun i =>
    let base := g.kids.foldl (fun a k => mergePrim a (k.2.getD i 0)) (sget 0 g.own i)
    if s.groupFull g then base else base ||| 128)

/-- The primitive record being filled enters the buffer as a unit of stream 1 (R376). -/
def State.closeTprims (s : State) : State :=
  match s.hif.tprims with
  | none => s
  | some (o, f, bs) =>
    ({ s with hif := { s.hif with tprims := none } }).pushUnit 1 .frag false
      (leBytes 4 o ++ leBytes 2 f ++ leBytes 2 bs.length ++ leBytes 8 0 ++ padWord bs)

/-- A root's merged primitives from a slot of an orbit on join the record of stream 1, which covers up to 1,024 slots of one
orbit (R376). -/
def State.noteTprims (s : State) (orbit slot : Nat) (ps : List Nat) : State :=
  if ¬ s.on F.HIF_TPRIM_EN then s
  else
    let bs := ps.map (fun p => BitVec.ofNat 8 p)
    let fresh := fun (s : State) => { s with hif := { s.hif with tprims := some (orbit, slot, bs) } }
    let s1 := match s.hif.tprims with
      | none => fresh s
      | some (o, f, old) =>
        if o = orbit ∧ f + old.length = slot ∧ old.length + bs.length ≤ 1024 then
          { s with hif := { s.hif with tprims := some (o, f, old ++ bs) } }
        else fresh s.closeTprims
    match s1.hif.tprims with
    | some (_, _, l) => if 1024 ≤ l.length then s1.closeTprims else s1
    | none => s1

/-- A group leaves: PRIM up the shaft, or TPRIM_OUT at a root, slot by slot from its first slot + LAT (R178–R180). A die outside
RUNNING sends none. -/
def State.sendGroup (s : State) (g : PrimGroup) : State :=
  let ps := s.groupPrims g
  let s1 := { s with trg := { s.trg with groups := s.trg.groups.filter (fun x => decide (x.first ≠ g.first))
                                         sentTo := max s.trg.sentTo (g.first + g.count) } }
  if s.isRoot then
    let at' := g.first + s.get F.TRG_PRIM_LAT
    let s2 := s1.noteTprims g.orbit g.slot ps
    let now := s2.trg.drive.filter (fun e => decide (s.time.slots ≤ e.1))
    let s3 := { s2 with trg := { s2.trg with drive := ps.zipIdx.foldl (fun m x => sset 0x80 m (at' + x.2) x.1) now } }
    if s.outHeld ∨ s.sys.run ≠ .running then s3 else s3.emit (.tprim at' ps)
  else if s.sys.run = .running then
    s1.sendUp1 (.prim { count := g.count, slot := g.slot, orbit := g.orbit, prims := ps })
  else s1

/-- A non-root die sends a group as soon as every contribution is in (R179). -/
def State.trySend (s : State) (first : Nat) : State :=
  match s.trg.groups.find? (fun g => decide (g.first = first)) with
  | none => s
  | some g => if s.groupFull g ∧ ¬ s.isRoot then s.sendGroup g else s

/-- At the end of slot h + 4 the conditions of slot `slot` are evaluated and the die's primitive is formed (R176, R177). -/
def selfTriggerEval (slot : Nat) (s : State) : State :=
  let back := (s.time.slot + s.time.len - slot % s.time.len) % s.time.len
  let h := if slot ≤ s.time.slot then s.time.slots - (s.time.slot - slot) else s.time.slots - back
  s.reachSlot (h + 5) (fun s =>
    let g := s.groupAt h
    if h < s.trg.ownTo then s
    else
      let s1 := { s with trg := { s.trg with ownTo := h + 1 } }
      if h < s.trg.sentTo then (s1.inc Reg.TRG_PRIM_LATE_CNT).flag F.TRG_STATUS_PRIM_LATE
      else
        let p := s1.ownPrim h
        (s1.withGroup g (fun x => { x with own := sset 256 x.own (h - g.first) p })).trySend g.first)

/-- A child's PRIM message is merged, or discarded if its group has been sent (R178, R179). -/
def primReceived (port : Nat) (m : PrimMsg) (s : State) : State :=
  if ¬ s.driftsUp.contains port then s
  else
    let first := s.monoOf m.orbit m.slot
    if first < s.trg.sentTo then (s.inc Reg.TRG_PRIM_LATE_CNT).flag F.TRG_STATUS_PRIM_LATE
    else
      let g := s.groupAt first
      (s.withGroup g (fun x => { x with kids := x.kids.filter (fun k => decide (k.1 ≠ port)) ++ [(port, m.prims)] })).trySend
        g.first

/-- The deadline of the oldest group (R179): PRIM is sent, or the root drives the group, as it stands. -/
def primDeadline (s : State) : State :=
  match s.trg.groups with
  | [] => s
  | g :: _ =>
    let lat := s.get F.TRG_PRIM_LAT
    let hop := atLeast1 (s.get F.TRG_PRIM_HOP)
    let d := if s.isRoot then g.first + lat - 1 else g.first + lat - 1 - (s.level - 1) * hop
    s.reachSlot d (fun s => s.sendGroup g)

/-! The mask test (R182–R184). -/

/-- A local channel takes part in the mask test: not masked, powered down or retired. -/
def State.testChan (s : State) (n : Nat) : Bool := !s.chanOff n && !s.chanMasked n

/-- The 64-bit map of a tile's local channels that pass a test. -/
def tileBits (f : Nat → Bool) : Nat := (List.range 64).foldl (fun m c => if f c then m + 2 ^ c else m) 0

/-- Observed and expected maps of tile `t` for an injection (R182). -/
def State.testMaps (s : State) (w : InjWin) (t : Nat) : Nat × Nat :=
  let seen := (s.trg.edges.filter (fun e => w.holds e.1 && decide (e.2 / 64 = t))).map (fun e => e.2 % 64)
  let exp := s.rd64 (Reg.TRG_EXP t)
  (tileBits (fun c => seen.contains c && s.testChan (t * 64 + c)),
   tileBits (fun c => s.testChan (t * 64 + c) &&
     (if s.on F.TRG_MTEST_EXP_SRC then decide (bitsOf exp c 1 = 1) else s.inGroup w (t * 64 + c))))

/-- A comparison's violation (R182). -/
def testViolates (cmp obs exp : Nat) : Bool :=
  if cmp = 1 then decide (obs ≠ exp)
  else if cmp = 2 then decide ((List.range 64).any (fun c => decide (bitsOf exp c 1 = 1 ∧ bitsOf obs c 1 = 0)))
  else if cmp = 3 then decide ((List.range 64).any (fun c => decide (bitsOf obs c 1 = 1 ∧ bitsOf exp c 1 = 0)))
  else false

/-- Tiles in which an injection can violate: those with an edge or an expected channel. -/
def State.testTiles (s : State) (w : InjWin) : List Nat :=
  let es := (s.trg.edges.filter (fun e => w.holds e.1)).map (fun e => e.2 / 64)
  let xs := if s.on F.TRG_MTEST_EXP_SRC then
      s.regs.filterMap (fun p => if Reg.TRG_EXP 0 ≤ p.1 ∧ p.1 < Reg.TRG_EXP 256 then some ((p.1 - Reg.TRG_EXP 0) / 8) else none)
    else (s.chansWith F.FE_CH_INJ_EN).map (fun n => n / 64)
  (es ++ xs).eraseDups

/-- The first violation freezes capture and records the evidence (R183). -/
def State.freeze (s : State) (w : InjWin) (bad : List Nat) (t : Nat) : State :=
  let (obs, exp) := s.testMaps w t
  let (orb, sl) := s.orbitSlotOf w.first
  let s1 := { s with trg := { s.trg with frozen := true, frozenWin := some w } }
  let s2 := (((s1.wr Reg.TRG_MT_ORBIT orb).wr Reg.TRG_MT_POS (min 511 bad.length * 2 ^ 23 + t * 2 ^ 14 + sl)).wr64
    Reg.TRG_MT_OBS obs).wr64 Reg.TRG_MT_EXPV exp
  ((s2.flag F.TRG_STATUS_MT_VIOL).flag F.TRG_STATUS_MT_FROZEN).warn F.TRG_STATUS_MT_VIOL t

/-- The oldest injection is evaluated at the end of slot i + SPAN + 4 (R182, R183). -/
def maskTestEval (s : State) : State :=
  match s.trg.tests with
  | [] => s
  | w :: ws =>
    s.reachSlot (w.last + 5) (fun s =>
      let s0 := { s with trg := { s.trg with tests := ws } }
      let cmp := s.get F.TRG_MTEST_CMP
      if s.get F.TRG_MODE_READOUT ≠ 3 ∨ cmp = 0 ∨ s.trg.frozen ∨ ¬ s.matrixOn then s0
      else
        let bad := (s.testTiles w).filter (fun t => let m := s.testMaps w t; testViolates cmp m.1 m.2)
        match bad with
        | [] => s0.inc Reg.TRG_MT_PASS_CNT
        | t :: ts => s0.freeze w bad (ts.foldl min t))

/-- `TRG_CMD.EVIDENCE` issues the evidence retrieval of the frozen injection, or has it wait for room (R152, R183). -/
def trgEvidence (s : State) : State :=
  match s.trg.frozenWin with
  | none => s
  | some w =>
    if s.trg.frozen then
      let (orb, sl) := s.orbitSlotOf w.first
      s.request (mkFrag .evidence w.first (0, (w.last - w.first : Nat)) orb sl 0xFFFFFFFF 8192 false)
    else s

/-- The freeze ends: every entry is freed and every drop mark cleared (R184). -/
def endFreeze (s : State) : State :=
  if s.trg.frozen then
    let s1 := s.tiles.foldl (fun s p => s.setTile p.1 { s.tile p.1 with buf := [], drops := [] }) s
    ({ s1 with trg := { s1.trg with frozen := false, frozenWin := none } }).unflag F.TRG_STATUS_MT_FROZEN
  else s

/-- `TRG_CMD.UNFREEZE` (R184), at the next slot start. -/
def trgUnfreeze (s : State) : State := if s.trg.frozen then s.nextSlot .unfreeze endFreeze else s

/-- The slot counters have been loaded `d` slots ahead of where they stood (R45): what the trigger engine holds keeps its orbit and slot,
and so its place among the slots since reset moves back by `d`. -/
def State.shiftTrg (s : State) (d : Int) : State :=
  let at' : Nat → Nat := fun t => ((t : Int) - d).toNat
  let win : InjWin → InjWin := fun w => { w with first := at' w.first, last := at' w.last }
  { s with
    time := { s.time with runStart := s.time.runStart.map at' }
    trg := { s.trg with
      lastNamed := at' s.trg.lastNamed
      queue := s.trg.queue.map (fun (e : TrigEntry) => { e with apply := at' e.apply })
      groups := s.trg.groups.map (fun (g : PrimGroup) => { g with first := at' g.first })
      sentTo := at' s.trg.sentTo, ownTo := at' s.trg.ownTo
      drive := s.trg.drive.map (fun e => (at' e.1, e.2))
      edges := s.trg.edges.map (fun e => (at' e.1, e.2))
      injs := s.trg.injs.map win, tests := s.trg.tests.map win, frozenWin := s.trg.frozenWin.map win
      releases := s.trg.releases.map (fun (r : Release) => { r with h := at' r.h })
      lastRel := s.trg.lastRel.map at'
      table := s.trg.table.map (fun (r : Resolution) => { r with expire := at' r.expire }) } }

end Sys2Proof.Machine
end

