-- ==== Sys2Proof/Machine/Spec.lean ====
section
/-! DEFINITION. Speculative release, quarantine and resolution (R185–R193). -/

namespace Sys2Proof.Machine

/-- The identity a CONFIRM, CANCEL or NACK names (R186, R188). -/
def specIdOf (m : SpecMsg) : SpecId := { origin := m.origin, orbit := m.orbit, slot := m.slot }

/-- The header rewrite of a confirmation (R189): SPEC cleared, CONFIRMED set, the trigger number entered, SRC ORed in. -/
def rewriteHeader (src trigger : Nat) (bs : List Byte) : List Byte :=
  let fl := setBits (setBits (byteField bs 6 2) 1 1 0) 2 1 1
  overlay (overlay (overlay bs 6 (leBytes 2 fl)) 8 (leBytes 4 trigger)) 18 (leBytes 2 (byteField bs 18 2 ||| src))

/-- A unit is the held speculative fragment of an identity: in quarantine, none of it sent (R189). -/
def heldUnit (id : SpecId) (u : BUnit) : Bool :=
  u.q && decide (u.part = .quar) && isSpecUnit u.bytes && decide (unitId u.bytes = id) && decide (u.sentA + u.sentB = 0) && !u.drop

/-- The fragment of an identity is HELD here (R189). -/
def State.holds (s : State) (id : SpecId) : Bool := s.buf.units.any (heldUnit id)

/-- The fragment of an identity has been sent on (R189: FORWARDED). -/
def State.forwardedId (s : State) (id : SpecId) : Bool := s.trg.forwarded.any (fun f => decide (f.1 = id))

/-- A HELD fragment is confirmed: its header is rewritten and it becomes ordinary data (R189, R190). -/
def State.confirmHeld (s : State) (id : SpecId) (src trigger : Nat) : State :=
  { s with buf := { s.buf with units := s.buf.units.map (fun u =>
      if heldUnit id u then { u with part := .frag, bytes := rewriteHeader src trigger u.bytes } else u) } }

/-- A HELD fragment is freed (R189); one at the head of the uplink's speculative queue takes its request with it (R249). -/
def State.freeHeld (s : State) (id : SpecId) : State :=
  let head := s.buf.units.find? (fun u => u.q && decide (u.stream = 0) && !u.left && !u.drop)
  let s1 := { s with buf := { s.buf with units := s.buf.units.filter (fun u => !heldUnit id u) } }
  if head.any (heldUnit id) then (s1.uplinkCancel 16).uplinkCancel 17 else s1

/-- An identity is dropped (R189). -/
def State.dropId (s : State) (id : SpecId) : State :=
  { s with trg := { s.trg with forwarded := s.trg.forwarded.filter (fun f => decide (f.1 ≠ id)) } }

/-- The slot at which an identity expires (R191). -/
def State.specExpiry (s : State) (id : SpecId) : Nat :=
  s.monoOf id.orbit id.slot + s.domainLat + atLeast1 (s.get F.TRG_SPEC_Q_TTL)

/-- A resolution is recorded; a full table drops its oldest entry (R191). -/
def State.recordRes (s : State) (confirm : Bool) (m : SpecMsg) : State :=
  let e : Resolution := { id := (specIdOf m), confirm := confirm, msg := m, expire := s.specExpiry (specIdOf m) }
  let old := s.trg.table.filter (fun r => decide (r.id ≠ (specIdOf m)))
  { s with trg := { s.trg with table := (if 1024 ≤ old.length then old.drop 1 else old) ++ [e] } }

/-- A shaft port on which a CONFIRM or CANCEL can go up: in use and up, on a link not below L3; never from a root, in HOLD or in SAFE
(R191, R193, R460). -/
def State.specPorts (s : State) : List Nat :=
  if s.isRoot ∨ s.sys.run = .hold ∨ s.sys.run = .safe then [] else s.upPorts.filter (fun p => decide (3 ≤ s.portVersion p))

/-- A CONFIRM or CANCEL goes up where it can; elsewhere it is dropped (R193). -/
def State.specUp (s : State) (confirm : Bool) (m : SpecMsg) : State :=
  s.specPorts.foldl (fun s p => s.sendVc1 p (if confirm then .confirm m else .cancel m)) s

/-- The origin sends a CANCEL, which counts where one goes out (R187). -/
def State.sendCancel (s : State) (m : SpecMsg) : State :=
  (if s.specPorts = [] then s else s.inc Reg.TRG_SPEC_CANCELLED).specUp false m

/-- A CONFIRM reaches this holder (R189–R191). -/
def confirmReceived (port : Nat) (m : SpecMsg) (s : State) : State :=
  if ¬ s.driftsUp.contains port ∨ s.sys.run = .safe then s
  else if s.holds (specIdOf m) then (s.confirmHeld (specIdOf m) m.src m.trigger).specReclass
  else if s.forwardedId (specIdOf m) then (s.dropId (specIdOf m)).specUp true m
  else (s.specUp true m).recordRes true m

/-- A CANCEL reaches this holder (R189–R191). -/
def cancelReceived (port : Nat) (m : SpecMsg) (s : State) : State :=
  if ¬ s.driftsUp.contains port ∨ s.sys.run = .safe then s
  else if s.holds (specIdOf m) then (s.freeHeld (specIdOf m)).specReclass
  else if s.forwardedId (specIdOf m) then (s.dropId (specIdOf m)).specUp false m
  else (s.specUp false m).recordRes false m

/-- The message of a released slot (R188). -/
def State.relMsg (s : State) (r : Release) (info src trigger : Nat) : SpecMsg :=
  { info := info, origin := s.dieNo, orbit := r.orbit, slot := r.slot, src := src, trigger := trigger }

/-! Release (R185). -/

/-- A slot's release at its origin, at the end of slot h + 4 (R185, R172). `slot` is the slot h of this orbit or the last. -/
def specRelease (slot : Nat) (s : State) : State :=
  let back := (s.time.slot + s.time.len - slot % s.time.len) % s.time.len
  let h := s.time.slots - back
  s.reachSlot (h + 5) (fun s =>
    let (c, _) := s.condsAt h
    let met := decide ((c &&& s.get F.TRG_SPEC_COND) ≠ 0)
    if s.get F.TRG_MODE_READOUT ≠ 2 ∨ ¬ s.matrixOn ∨ ¬ met ∨ s.trg.releases.any (fun r => decide (r.h = h)) then s
    else if (s.on F.TRG_STATUS_SPEC_DEMOTED || s.trg.demoted || decide (s.sys.run ≠ .running) || s.on F.TRG_STATUS_BUSY ||
        (match s.trg.lastRel with | some l => decide (h < l + atLeast1 (s.get F.TRG_SPEC_PERIOD)) | none => false)) = true then
      s.inc Reg.TRG_SPEC_SKIP_CNT
    else
      let (orb, sl) := s.orbitSlotOf h
      let r : Release := { h := h, orbit := orb, slot := sl }
      let s1 := ({ s with trg := { s.trg with releases := s.trg.releases ++ [r], lastRel := some h } }).inc
        Reg.TRG_SPEC_SENT
      s1.request (mkFrag .spec h s.specWindow orb sl 0 0 false))

/-! Resolution at the origin (R187). -/

/-- The accept's window lies within the TRG_SPEC window (R187). -/
def State.specCovers (s : State) (e : TrigEntry) : Bool :=
  let w := s.typeWindow (bitsOf e.msg.word 3 4)
  let v := s.specWindow
  decide (v.1 ≤ w.1 ∧ w.2 ≤ v.2)

/-- Change the release of slot `h`. -/
def State.mapRel (s : State) (h : Nat) (f : Release → Release) : State :=
  { s with trg := { s.trg with releases := s.trg.releases.map (fun r => if r.h = h then f r else r) } }

/-- A fragment is the retrieval of a release. -/
def Release.isFrag (r : Release) (f : Frag) : Bool := decide (f.kind = .spec ∧ f.orbit = r.orbit ∧ f.slot = r.slot)

/-- The release's retrieval waits for room (R152). -/
def State.relWaits (s : State) (r : Release) : Bool := s.asm.waits.any r.isFrag

/-- The release's retrieval, issued but not started at the tiles (R187). -/
def State.relIssued (s : State) (r : Release) : Option Frag := s.asm.frags.find? (fun f => r.isFrag f && !f.started)

/-- The accept joins the queue for its normal retrieval. -/
def State.readyAccept (s : State) (e : TrigEntry) : State :=
  { s with trg := { s.trg with ready := s.trg.ready ++ [e] } }

/-- The accepted slot of a confirmed release is read from the tiles for the tally alone (R197), if the tally counts
triggered hits: the read takes its turn among the applied accepts (R169). -/
def State.tallyRead (s : State) (e : TrigEntry) : State :=
  if s.get F.TALLY_CTRL_SOURCE = 1 then s.readyAccept { e with tally := true } else s

/-- The origin resolves its earliest unresolved release at its apply slot (R187). -/
def specResolve (s : State) : State :=
  match s.trg.releases.find? (fun r => !r.done) with
  | none => s
  | some r =>
    s.reachSlot (r.h + s.domainLat) (fun s =>
      let s0 := s.mapRel r.h (fun r => { r with done := true })
      let id : SpecId := { origin := s.dieNo, orbit := r.orbit, slot := r.slot }
      let s1 := s0.mapRel r.h (fun r => { r with res := .cancelled })
      if s.relWaits r then
        let s2 := { s1 with asm := { s1.asm with waits := s1.asm.waits.filter (fun f => !r.isFrag f) } }
        match r.accept with | some e => s2.readyAccept e | none => s2
      else if (s.relIssued r).isSome then
        match s.relIssued r, r.accept with
        | some f, some e => s1.mapFrag f.tag (fun g => { s.acceptFrag e with tag := g.tag, issued := g.issued })
        | some f, none => { s1 with asm := { s1.asm with frags := s1.asm.frags.filter (fun g => decide (g.tag ≠ f.tag)) } }
        | none, _ => s1
      else
        match r.accept with
        | some e =>
          if s.specCovers e then
            let s1 := (s0.mapRel r.h (fun r => { r with res := .confirmed })).inc Reg.TRG_SPEC_CONFIRMED
            let s2 := s1.tallyRead e
            if s.holds id then (s2.confirmHeld id e.msg.src e.msg.trigger).specReclass
            else if r.left then
              s2.specUp true (s.relMsg r (bitsOf e.msg.word 3 4) e.msg.src e.msg.trigger)
            else s2
          else
            let s1 := (s0.mapRel r.h (fun r => { r with res := .cancelled })).readyAccept e
            if s.holds id then (s1.freeHeld id).specReclass
            else if r.left then s1.sendCancel (s.relMsg r 1 0 0)
            else s1
        | none =>
          let s1 := s0.mapRel r.h (fun r => { r with res := .cancelled })
          if s.holds id then (s1.freeHeld id).specReclass
          else if r.left then s1.sendCancel (s.relMsg r 0 0 0)
          else s1)

/-- Fragments, identities and resolutions past their time are discarded (R191). -/
def ttlNow (s : State) : State :=
  let late : SpecId → Bool := fun id => decide (s.specExpiry id ≤ s.time.slots)
  let dead := s.buf.units.filter (fun (u : BUnit) => u.q && decide (u.part = Part.quar) && isSpecUnit u.bytes &&
    decide (u.sentA + u.sentB = 0) && late (unitId u.bytes))
  let s1 := { s with
    buf := { s.buf with units := s.buf.units.filter (fun (u : BUnit) => !(u.q && decide (u.part = Part.quar) && isSpecUnit u.bytes &&
      decide (u.sentA + u.sentB = 0) && late (unitId u.bytes))) }
    trg := { s.trg with
      forwarded := s.trg.forwarded.filter (fun f => !late f.1)
      table := s.trg.table.filter (fun r => decide (s.time.slots < r.expire))
      releases := s.trg.releases.filter (fun r => !(r.done &&
        decide (r.h + s.domainLat + atLeast1 (s.get F.TRG_SPEC_Q_TTL) ≤ s.time.slots))) } }
  let head := s.buf.units.find? (fun u => u.q && decide (u.stream = 0) && !u.left && !u.drop)
  let s2 := if head.any (fun u => dead.contains u) then (s1.uplinkCancel 16).uplinkCancel 17 else s1
  (s2.incBy Reg.TRG_SPEC_EXPIRED dead.length).specReclass

/-- Slots at which something held under R191 expires. -/
def State.ttlDates (s : State) : List Nat :=
  (s.buf.units.filter (fun (u : BUnit) => u.q && decide (u.part = .quar) && isSpecUnit u.bytes)).map (fun u => s.specExpiry (unitId u.bytes))
    ++ s.trg.forwarded.map (fun f => s.specExpiry f.1) ++ s.trg.table.map (fun r => r.expire)

/-- The next expiry comes (R191). -/
def specTtlExpire (s : State) : State :=
  match s.ttlDates with
  | [] => s
  | d :: ds => s.reachSlot (ds.foldl min d) ttlNow

/-- A NACK at the origin (R192): before the apply slot the slot is resolved by normal retrieval; after a CONFIRM the
normal retrieval is issued at once, LATE. -/
def nackAtOrigin (m : SpecMsg) (s : State) : State :=
  match s.trg.releases.find? (fun r => decide (r.orbit = m.orbit ∧ r.slot = m.slot)) with
  | none => s
  | some r =>
    if r.done then
      if r.res = .confirmed then
        match r.accept with
        | some e => (s.mapRel r.h (fun r => { r with res := .cancelled })).readyAccept { e with late := true }
        | none => s
      else s
    else
      let s1 := { s with trg := { s.trg with releases := s.trg.releases.filter (fun x => decide (x.h ≠ r.h)) } }
      match r.accept with
      | some e => s1.readyAccept e
      | none => s1

/-- A NACK passes down through this die (R189, R192). -/
def nackReceived (port : Nat) (m : SpecMsg) (s : State) : State :=
  if s.otherShaft = some port then s.inc Reg.TREE_ALT_DISCARD_CNT
  else if s.shaftPort ≠ some port then s
  else if s.on F.TREE_ID_NUMBERED ∧ m.origin = s.get F.TREE_ID_DIE then nackAtOrigin m s
  else
    let s1 := ((s.freeHeld (specIdOf m)).dropId (specIdOf m)).specReclass
    match s.routePort m.origin with
    | some p => if s.driftsUp.contains p ∧ 3 ≤ s.portVersion p ∧ s.sys.run ≠ .hold then s1.sendVc1 p (.nack m) else s1
    | none => s1

/-- A holder frees a fragment and sends a NACK toward its origin (R192); none over a link below L3, and none in HOLD (R193). -/
def State.nackFragment (s : State) (id : SpecId) : State :=
  let m : SpecMsg := { info := 0, origin := id.origin, orbit := id.orbit, slot := id.slot, src := 0, trigger := 0 }
  let s1 := s.inc Reg.TRG_SPEC_NACK_CNT
  if s.on F.TREE_ID_NUMBERED ∧ id.origin = s.get F.TREE_ID_DIE then nackAtOrigin m s1
  else
    match s.routePort id.origin with
    | some p => if s.driftsUp.contains p ∧ 3 ≤ s.portVersion p ∧ s.sys.run ≠ .hold then s1.sendVc1 p (.nack m) else s1
    | none => s1

/-- A whole speculative fragment, unconfirmed and with none of it sent. -/
def BUnit.unsentSpec (u : BUnit) : Bool :=
  u.q && decide (u.part = .quar) && isSpecUnit u.bytes && decide (u.sentA + u.sentB = 0) && !u.left && !u.drop && u.whole

/-- While the path up runs below L3 each speculative fragment that would go up is freed, with a NACK (R193). -/
def State.freeBelow (s : State) : State :=
  if s.isRoot ∨ s.upHeld ∨ s.sys.run = .safe ∨ ¬ s.upPorts.any (fun p => decide (s.portVersion p < 3)) then s
  else
    let gone := s.buf.units.filter BUnit.unsentSpec
    gone.foldl (fun s u => s.nackFragment (unitId u.bytes))
      { s with buf := { s.buf with units := s.buf.units.filter (fun u => !u.unsentSpec) } }

/-- What has come to the buffer asks for the shaft uplinks (R193, R231, R249). -/
def State.uplinks (s : State) : State :=
  let t := s.freeBelow.specReclass
  (t.uplinkPoll 16).uplinkPoll 17

end Sys2Proof.Machine
end

