-- ==== Sys2Proof/Machine/Vault.lean ====
section
/-! DEFINITION. The vault (R201, R214–R229): its map, the check code, accesses and their errors, sticky words, the scrubber
and soft repair. -/

namespace Sys2Proof.Machine

/-! The check code (R216). -/

/-- The 3-element subsets of eight check bits as masks, in lexicographic order (R216). -/
def triples : List Nat :=
  (List.range 8).flatMap (fun a => ((List.range 8).filter (fun b => decide (a < b))).flatMap (fun b =>
    ((List.range 8).filter (fun c => decide (b < c))).map (fun c => 2 ^ a + 2 ^ b + 2 ^ c)))

/-- The columns of the 64 data bits (R216). -/
def columns : List Nat :=
  triples ++ (List.range 8).map (fun j => 255 - (2 ^ j + 2 ^ ((j + 1) % 8) + 2 ^ ((j + 2) % 8)))

/-- The exclusive OR of the columns of the set bits of `d`. -/
def checkFold : List Nat → Nat → Nat
  | [], _ => 0
  | c :: cs, d => (if d % 2 = 1 then c else 0) ^^^ checkFold cs (d / 2)

/-- The check byte of 64 data bits (R216). -/
def checkOf (d : Nat) : Nat := checkFold columns d

/-- The place of a syndrome in the columns: a data bit. -/
def dataBit (syn : Nat) : Option Nat :=
  let i := (columns.takeWhile (fun c => decide (c ≠ syn))).length
  if i < 64 then some i else none

/-- What an access finds in a word (R216, R217): corrected data, nothing correctable, or poison. -/
inductive Found where
  | clean | corrected (data : Nat) | bad | poisoned
deriving DecidableEq, Repr

/-- The syndrome of a stored word. -/
def syndrome (w : Nat) : Nat := (w / 2 ^ 64) ^^^ checkOf (w % 2 ^ 64)

/-- The reading of a stored word (R216). -/
def found (w : Nat) : Found :=
  let d := w % 2 ^ 64
  let s := syndrome w
  if s = 0 then .clean
  else if s = 0xFF then .poisoned
  else if popCount 8 s % 2 = 1 then
    if popCount 8 s = 1 then .corrected d
    else match dataBit s with
      | some i => .corrected (if bitsOf d i 1 = 1 then d - 2 ^ i else d + 2 ^ i)
      | none => .bad
  else .bad

/-- A word with valid check bits. -/
def fresh72 (d : Nat) : Nat := d % 2 ^ 64 + checkOf (d % 2 ^ 64) * 2 ^ 64

/-- A word with the poison pattern (R217). -/
def poison72 (d : Nat) : Nat := d % 2 ^ 64 + (checkOf (d % 2 ^ 64) ^^^ 0xFF) * 2 ^ 64

/-! Words and entries (R201, R214). -/

/-- The stored word `w`, check bits above its 64 data bits. -/
def State.vword (s : State) (w : Nat) : Nat := sget 0 s.vault.mem w

/-- Store word `w`. -/
def State.setVword (s : State) (w v : Nat) : State := { s with vault := { s.vault with mem := sset 0 s.vault.mem w v } }

/-- Bank of a word. -/
def bankOf (w : Nat) : Nat := w % 16

/-- The key of a word's row: bank × 2,048 + row (R452). -/
def rowOf (w : Nat) : Nat := w % 16 * 2048 + bitsOf w 11 11

/-- Entry `i` (0–3) of a data word. -/
def entryIn (d i : Nat) : Nat := bitsOf d (16 * i) 16

/-! Soft repair's queue and sticky words (R223, R224). -/

/-- A row asks for soft repair (R223, R224). -/
def State.queueRow (s : State) (row : Nat) : State :=
  if s.vault.rows.contains row ∨ s.vault.done.contains row ∨ (s.vault.repair.any (fun r => decide (r.row = row))) then s
  else if 8 ≤ s.vault.rows.length then s.alert .warn Reg.VAULT_REPAIR_Q 0 0 0 row
  else
    ({ s with vault := { s.vault with rows := s.vault.rows ++ [row] } }).put F.VAULT_REPAIR_Q_ROWS (s.vault.rows.length + 1)

/-- A row's strike; at the limit it is retired, which queues its soft repair (R218, R223, R455). -/
def State.strikeRow (s : State) (row : Nat) : State :=
  let s1 := s.addStrike 7 row
  if s1.atLimit 7 row then (s1.retire 7 row).queueRow row else s1

/-- The error registers (R218). -/
def State.vaultErr (s : State) (typ w syn : Nat) : State :=
  ((s.wr Reg.VAULT_ERR_ADDR (typ * 2 ^ 30 + w)).put F.VAULT_ERR_SYN_SYN syn)

/-- A corrected word is remembered, and is sticky if it was corrected before within 4 passes (R223). -/
def State.noteCorrected (s : State) (w : Nat) : State :=
  let pass := s.rd Reg.VAULT_SCRUB_PASS
  let again := s.vault.recent.any (fun r => decide (r.1 = w ∧ (pass + 2 ^ 32 - r.2) % 2 ^ 32 ≤ 4))
  let all := s.vault.recent ++ [(w, pass)]
  let s1 := { s with vault := { s.vault with recent := if 64 < all.length then all.drop 1 else all } }
  if again then
    ((((s1.inc Reg.VAULT_STICKY_CNT).flag F.VAULT_STATUS_STICKY).put F.VAULT_ERR_ADDR_TYPE 3)).queueRow (rowOf w)
  else s1

/-- The counters and flags of what an access found (R218). -/
def State.vaultSeen (s : State) (w : Nat) : Found → State
  | .clean => s
  | .corrected _ => ((s.inc Reg.VAULT_CE_CNT).flag F.VAULT_STATUS_CE).vaultErr 1 w (syndrome (s.vword w))
  | .bad => (((s.inc Reg.VAULT_UE_CNT).flag F.VAULT_STATUS_UE).vaultErr 2 w (syndrome (s.vword w))).strikeRow (rowOf w)
  | .poisoned => s.inc Reg.VAULT_POISON_HIT_CNT

/-- What an access that takes the word's data found, with a correction remembered (R218, R223). -/
def State.vaultNote (s : State) (w : Nat) (f : Found) : State :=
  match f with
  | .corrected _ => (s.vaultSeen w f).noteCorrected w
  | _ => s.vaultSeen w f

/-- A read of word `w` (R218): data, whether it is poisoned or uncorrectable, and the state; `scrubs` says that corrected
data are written back. -/
def State.readWord (s : State) (w : Nat) (scrubs : Bool) : Nat × Bool × State :=
  let v := s.vword w
  let f := found v
  let s1 := s.vaultNote w f
  match f with
  | .clean => (v % 2 ^ 64, false, s1)
  | .corrected d => (d, false, if scrubs then s1.setVword w (fresh72 d) else s1)
  | .bad => (v % 2 ^ 64, true, s1.setVword w (poison72 v))
  | .poisoned => (v % 2 ^ 64, true, s1)

/-- A full 64-bit write: what it finds is counted, and nothing of it stays (R218). -/
def State.writeWord (s : State) (w d : Nat) : State := (s.vaultSeen w (found (s.vword w))).setVword w (fresh72 d)

/-- A 16-bit write of entry `e` other than an increment (R218). -/
def State.writeEntry (s : State) (e x : Nat) : State :=
  let w := e / 4
  let v := s.vword w
  let f := found v
  let s1 := s.vaultNote w f
  let merge : Nat → Nat := fun d => setBits d (16 * (e % 4)) 16 x
  match f with
  | .clean => s1.setVword w (fresh72 (merge (v % 2 ^ 64)))
  | .corrected d => s1.setVword w (fresh72 (merge d))
  | .bad => s1.setVword w (poison72 (merge (v % 2 ^ 64)))
  | .poisoned => s1.setVword w (poison72 (merge (v % 2 ^ 64)))

/-- `k` increments of entry `e`, saturating; none to a poisoned word (R195, R212, R218). -/
def State.addEntry (s : State) (e k : Nat) : State :=
  let w := e / 4
  let v := s.vword w
  let f := found v
  let s1 := s.vaultNote w f
  let bump : Nat → Nat := fun d => setBits d (16 * (e % 4)) 16 (min 0xFFFF (entryIn d (e % 4) + k))
  match f with
  | .clean => s1.setVword w (fresh72 (bump (v % 2 ^ 64)))
  | .corrected d => s1.setVword w (fresh72 (bump d))
  | .bad => s1.setVword w (poison72 (bump (v % 2 ^ 64)))
  | .poisoned => s1.incBy Reg.TALLY_POISON_BIN_CNT k

/-! Increments and their queues (R204, R206). -/

/-- The queue of a bank. -/
def State.bankQ (s : State) (b : Nat) : BankQ := sget {} s.vault.queues b
/-- Set the queue of a bank. -/
def State.setBankQ (s : State) (b : Nat) (v : BankQ) : State :=
  { s with vault := { s.vault with queues := sset {} s.vault.queues b v } }

/-- 10 ns, the time of an update, in 2^-32 ns (R204). -/
abbrev updateTime : Nat := 10 * 2 ^ 32

/-- `k` oldest increments of a bank are applied. -/
def serveBank (b : Nat) : Nat → State → State
  | 0, s => s
  | k + 1, s =>
    match (s.bankQ b).q with
    | [] => s
    | (e, n) :: rest => serveBank b k (((s.setBankQ b { s.bankQ b with q := rest, bitten := false }).bankOp b 0).addEntry e n)

/-- A bank's queue is served up to now, one update every 10 ns (R204, log 16). -/
def State.bankNow (s : State) (b : Nat) : State :=
  let v := s.bankQ b
  let time := (s.fNow - v.last) * s.rd Reg.WALL_NOM + v.rest
  let s1 := serveBank b (min (time / updateTime) v.q.length) s
  s1.setBankQ b { s1.bankQ b with last := s.fNow, rest := if (s1.bankQ b).q = [] then 0 else time % updateTime }

/-- Every increment waiting for word `w` is applied (R209). -/
def State.settleWord (s : State) (w : Nat) : State :=
  let b := bankOf w
  let v := s.bankQ b
  let mine := v.q.filter (fun p => decide (p.1 / 4 = w))
  if mine = [] then s
  else
    mine.foldl (fun s p => (s.bankOp b 0).addEntry p.1 p.2)
      (s.setBankQ b { v with
        q := v.q.filter (fun p => decide (p.1 / 4 ≠ w))
        bitten := v.bitten && v.q.head?.any (fun p => decide (p.1 / 4 ≠ w)) })

/-- An increment of entry `e` reaches its bank queue: merged, queued or lost (R204, R206). -/
def State.incEntry (s : State) (e : Nat) : State :=
  let b := bankOf (e / 4)
  let s1 := s.bankNow b
  let v := s1.bankQ b
  if v.q.any (fun p => decide (p.1 = e)) then
    s1.setBankQ b { v with q := v.q.map (fun p => if p.1 = e then (p.1, p.2 + 1) else p) }
  else if 64 ≤ v.q.length then
    let s2 := (s1.inc Reg.TALLY_INC_LOST_CNT).flag F.TALLY_STATUS_INEXACT
    { s2 with tally := { s2.tally with lost := true, inexact := true } }
  else s1.setBankQ b { v with q := v.q ++ [(e, 1)] }

/-- A canary bites in a bank whose oldest increment has stood for CANARY_LIMIT vault cycles, 0 acting as 1 (R241, R242, R245): it is
not performed and is issued once more; bitten again, it is dropped. The other requesters' operations are done in the command that
asks for them and never stand (DESIGN CHOICE, log 44). -/
def State.bankBite (s : State) (b : Nat) : State :=
  if (s.bankQ b).q = [] then s
  else
    s.reachF ((s.bankQ b).last + s.arbCycles (18 + b) (atLeast1 (s.get (F.CANARY_LIMIT_LIMIT (18 + b))))) (fun s =>
      let v := s.bankQ b
      let t := s.setBankQ b { last := s.fNow, q := if v.bitten then v.q.drop 1 else v.q, bitten := !v.bitten }
      (t.biteRecord (18 + b) 0).biteRelease (18 + b))

/-! Scrubbing (R220–R222). -/

/-- Words of the vault (R214). -/
abbrev vaultWords : Nat := 4194304

/-- The word at the pointer is scrubbed and the pointer advances (R220, R222). -/
def scrubWord (s : State) : State :=
  let w := s.rd Reg.VAULT_SCRUB_PTR
  let f := found (s.vword w)
  let (_, _, s1) := (s.bankOp (bankOf w) 2).readWord w true
  let ce := match f with | .corrected _ => s1.vault.passCe + 1 | _ => s1.vault.passCe
  let po := match f with | .poisoned => s1.vault.passPo + 1 | _ => s1.vault.passPo
  if w + 1 = vaultWords then
    let s2 := (((s1.wr Reg.VAULT_SCRUB_PTR 0).incWrap Reg.VAULT_SCRUB_PASS).put F.VAULT_LAST_PASS_CORRECTED
      (min 0xFFFF ce)).put F.VAULT_LAST_PASS_POISONED (min 0xFFFF po)
    { s2 with vault := { s2.vault with passCe := 0, passPo := 0 } }
  else
    let s2 := s1.wr Reg.VAULT_SCRUB_PTR (w + 1)
    { s2 with vault := { s2.vault with passCe := ce, passPo := po } }

/-- `k` words are scrubbed. -/
def scrubWords : Nat → State → State
  | 0, s => s
  | k + 1, s => scrubWords k (scrubWord s)

/-- The scrubber runs in this state (R220). -/
def State.scrubs (s : State) : Bool := decide (s.sys.run ≠ .reset ∧ s.sys.run ≠ .init ∧ s.sys.run ≠ .safe)

/-- One slot of the scrubber (R220). -/
def scrubSlot (s : State) : State :=
  if s.scrubs then
    let q := s.vault.quota + 2 ^ (30 - s.get F.VAULT_SCRUB_PERIOD_LOG2)
    scrubWords (q / 256) { s with vault := { s.vault with quota := q % 256 } }
  else s

/-- A SCRUB_BURST firing with its argument (R221): at once in a quiet window, else in the next. -/
def scrubBurst (arg : Nat) (s : State) : State :=
  if ¬ s.scrubs then s
  else if s.quietWork then scrubWords (arg * 64) s
  else { s with vault := { s.vault with burst := s.vault.burst + arg * 64 } }

/-- Burst words that waited for the window are scrubbed when it opens (R52, R221). -/
def State.burstRun (s : State) : State :=
  if s.scrubs then scrubWords s.vault.burst { s with vault := { s.vault with burst := 0 } } else s

/-! Soft repair (R224–R226). -/

/-- `VAULT_CMD.REPAIR` (R224). -/
def vaultRepairCmd (s : State) : State := s.queueRow (s.get F.VAULT_CMD_BANK * 2048 + s.get F.VAULT_CMD_ROW)

/-- A queued repair starts in a quiet window (R225); with no spare left the row stays in service (R226). -/
def vaultRepairStart (s : State) : State :=
  match s.vault.repair, s.vault.rows with
  | none, r :: rest =>
    if ¬ s.quietWork ∨ s.sys.run = .reset ∨ s.sys.run = .safe then s
    else
      let b := r / 2048
      let left := s.get (F.VAULT_SPARE_LEFT b)
      let s1 := ({ s with vault := { s.vault with rows := rest } }).put F.VAULT_REPAIR_Q_ROWS rest.length
      if left = 0 then (s1.flag F.VAULT_STATUS_NO_SPARE).warn F.VAULT_STATUS_NO_SPARE r
      else
        ({ s1 with vault := { s1.vault with repair := some { row := r, spare := 32 - left, since := some s.fNow } } }).flag
          F.VAULT_STATUS_REPAIR_ACTIVE
  | _, _ => s

/-- Word `k` of a row as a vault word (R214). -/
def wordOfRow (row k : Nat) : Nat := row % 2048 * 2048 + k * 16 + row / 2048

/-- A row's word is copied: read with correction, written with fresh check bits; a poisoned word keeps its pattern (R225). -/
def copyWord (row : Nat) (s : State) (k : Nat) : State :=
  let w := wordOfRow row k
  let (d, bad, s1) := (s.bankOp (bankOf w) 2).readWord w false
  if bad then s1 else s1.setVword w (fresh72 d)

/-- The words of the row below `k` that the pointer has not passed are copied, in order (R225). An access finds the same word in the
spare, below the pointer, as in the old row above it: the vault's word holds for both. -/
def copyTo (r : Repair) (k : Nat) (s : State) : State :=
  let t := ((List.range k).drop r.ptr).foldl (copyWord r.row) s
  { t with vault := { t.vault with repair := some { r with ptr := max r.ptr k } } }

/-- Where the copy pointer stands by the time that the copy has run for: a word is one bank operation of 10 ns (R225, R251). -/
def State.copyAt (s : State) (r : Repair) : Nat :=
  let run := r.ran + (match r.since with | some b => s.fNow - b | none => 0)
  min 128 (run * s.rd Reg.WALL_NOM / updateTime)

/-- The copy resumes at its pointer, as quiet-only work may run (R52, R225). -/
def State.repairRun (s : State) : State :=
  match s.vault.repair with
  | none => s
  | some r =>
    if r.since.isSome then s else copyTo { r with since := some s.fNow } (s.copyAt r) s

/-- A row is remapped to a spare: the log, the spare count and the row's repair (R225, R226, R449). -/
def State.remapRow (s : State) (row spare : Nat) : State :=
  let b := row / 2048
  let s1 := (s.wr (Reg.VAULT_REPAIR_LOG (32 * b + spare)) (2 ^ 31 + 2 ^ 30 + row % 2048)).put (F.VAULT_SPARE_LEFT b)
    (s.get (F.VAULT_SPARE_LEFT b) - 1)
  { s1 with vault := { s1.vault with done := row :: s1.vault.done } }

/-- The last word of the row has been copied: the remap is complete (R225). -/
def repairEnd (r : Repair) (s : State) : State :=
  let s1 := copyTo r 128 s
  let s2 := ({ s1 with vault := { s1.vault with repair := none } }).remapRow r.row r.spare
  ((s2.inc Reg.VAULT_REPAIR_CNT).unflag F.VAULT_STATUS_REPAIR_ACTIVE).alert .info Reg.VAULT_REPAIR_CNT 0xFF 7 r.row 0

/-- The last word of the row is copied (R225): time reaches the end of the copy, unless a window's end pauses it before. -/
def vaultRepairDone (s : State) : State :=
  if s.vault.repair.isNone ∨ ¬ s.quietWork then s
  else
    let s0 := s.repairRun
    match s0.vault.repair with
    | none => s0
    | some r =>
      s0.reachF (r.since.getD s.fNow + (ceilDiv (128 * updateTime) (atLeast1 (s.rd Reg.WALL_NOM)) - r.ran)) (fun t =>
        match t.vault.repair with
        | some q => if q.since.isSome then repairEnd q t else t
        | none => t)

/-! The lode map (R227, R228). -/

/-- The lode-map entry of a channel of a die: MASK, and the tag word of R371 with LPOISON, CLASS and GROUP (R228). An uncorrectable
word's raw data are used (R218); a poisoned one delivers the nugget unmasked. -/
def lodeLookup (die chan : Nat) (s : State) : Bool × Nat × State :=
  let e := die * 16384 + chan
  let w := e / 4
  let t := s.bankOp (bankOf w) 4
  let (d, _, s1) := t.readWord w false
  let v := entryIn d (e % 4)
  if found (t.vword w) = .poisoned then (false, 0x8000, (s1.inc Reg.VAULT_LODE_POISON_CNT).flag F.VAULT_STATUS_LODE_POISON)
  else (decide (0x8000 ≤ v), v % 0x8000, s1)

end Sys2Proof.Machine
end

