-- ==== Sys2Proof/Machine/Tally.lean ====
section
/-! DEFINITION. The tally engine (R195–R213): reductions, sampling, the mirror, dumps; and a completed hit on its way from the
vernier pairs to its tile (R111, R131). -/

namespace Sys2Proof.Machine

/-- A tally reduction is enabled. -/
def State.tallyOn (s : State) (f : Fld) : Bool := s.on f && !s.isRoot && s.matrixOn

/-- The histogram bin of a value (R200). -/
def State.binOf (s : State) (v : Nat) : Nat :=
  let top := if s.on F.TALLY_CTRL_HBINS then 511 else 1023
  let lo := s.get F.TALLY_HIST_LO
  if v < lo then 0 else min ((v - lo) / 2 ^ s.get F.TALLY_HIST_SHIFT) top

/-- The histogram entry of a channel and bin (R201). -/
def State.histEntry (s : State) (n b : Nat) : Nat := if s.on F.TALLY_CTRL_HBINS then n * 512 + b else n * 1024 + b

/-- The occupancy entry of a slot and tile (R201). -/
def occEntry (slot tile : Nat) : Nat := 8388608 + slot * 256 + tile

/-- The next value of the 31-bit sequence (R205). -/
def lfsrNext (x : Nat) : Nat := (x * 2 + (bitsOf x 30 1 + bitsOf x 27 1) % 2) % 2 ^ 31

/-- The sampling exponent in force (R205). -/
def State.tallyK (s : State) : Nat := s.get F.TALLY_SAMP_K

/-! The counter memory (R195): words 0 to 8,191 hold two hit counts, words 8,192 to 24,575 a TOT sum. -/

/-- The stored word `w` of the counter memory, check bits above its 64 data bits. -/
def State.tword (s : State) (w : Nat) : Nat := sget 0 s.tally.mem w

/-- Store word `w` of the counter memory. -/
def State.setTword (s : State) (w v : Nat) : State := { s with tally := { s.tally with mem := sset 0 s.tally.mem w v } }

/-- The data of a stored word as it is read: corrected where it can be, else raw (R216, R218). -/
def dataOf (v : Nat) : Nat := match found v with | .corrected d => d | _ => v % 2 ^ 64

/-- The hit count of a channel. -/
def State.tallyCnt (s : State) (n : Nat) : Nat := bitsOf (dataOf (s.tword (n / 2))) (32 * (n % 2)) 32

/-- The TOT sum of a channel. -/
def State.tallySum (s : State) (n : Nat) : Nat := dataOf (s.tword (8192 + n)) % 2 ^ 48

/-- `k` is added to bits `lo` up of a word, `w` of them, saturating (R195): a poisoned word takes nothing, and an uncorrectable one is
written poisoned (R212, R218; DEDUCED for the counter memory, log 96). -/
def State.addCounter (s : State) (word lo w k : Nat) : State :=
  let v := s.tword word
  let d := dataOf v
  let sum := setBits d lo w (min (2 ^ w - 1) (bitsOf d lo w + k))
  match found v with
  | .poisoned => s.inc Reg.TALLY_POISON_BIN_CNT
  | .bad => s.setTword word (poison72 sum)
  | _ => s.setTword word (fresh72 sum)

/-- One counted hit (R195, R200, R205): channel, slot, fine time and TOT. -/
def tallyCount (n slot fine tot : Nat) (s : State) : State :=
  if ¬ s.sys.run.capturing ∨ s.isRoot ∨ s.trg.frozen then s
  else
    let s1 := if s.on F.TALLY_CTRL_CNT_EN then s.addCounter (n / 2) (32 * (n % 2)) 32 1 else s
    let s2 := if s.on F.TALLY_CTRL_SUM_EN then s1.addCounter (8192 + n) 0 48 tot else s1
    let x := lfsrNext s2.tally.lfsr
    let h := s2.on F.TALLY_CTRL_HIST_EN
    let o := s2.on F.TALLY_CTRL_OCC_EN
    let s3 := { s2 with tally := { s2.tally with lfsr := x, demand := s2.tally.demand + b2n h + b2n o } }
    if x % 2 ^ s3.tallyK ≠ 0 then s3
    else
      let v := if s3.on F.TALLY_CTRL_HIST_KIND then fine else tot
      let s4 := if h then s3.incEntry (s3.histEntry n (s3.binOf v)) else s3
      if o then s4.incEntry (occEntry slot (n / 64)) else s4

/-- The hit that the oldest completed conversion of channel `n` forms leaves VTDC (R111, R131, R132, R183, R196). -/
def conversionDone (n : Nat) (s : State) : State :=
  let c := s.chan n
  match c.hits.find? (fun h => h.conv && h.tot.isSome) with
  | none => s
  | some h =>
    let rest := c.hits.filter (fun g => decide (g.launch ≠ h.launch ∨ g.pair ≠ h.pair))
    let s1 := s.setChan n { c with hits := rest }
    let slots := (h.tfu / 65536).toNat
    let fine := (h.tfu % 65536).toNat
    let tot := h.tot.getD 0
    let cond := h.cond (s.lostNeighbour h)
    if ¬ s.captures slots ∨ ¬ s.tileUp (n / 64) then s1
    else if s.trg.frozen then s1.inc Reg.TRG_FROZEN_DROP_CNT
    else
      let slot := s.slotOf slots
      let v := s.tile (n / 64)
      let fits := decide (v.occ + (if cond = 0 then 1 else 2) ≤ 768)
      let s2 := s1.writeHit n slots slot fine tot cond
      let src := s.get F.TALLY_CTRL_SOURCE
      if fits ∧ (src = 0 ∨ (src = 2 ∧ s.testPulse n slots)) then tallyCount n slot fine tot s2 else s2

/-- The nuggets of a closed fragment or tally read feed the tally under TRIGGERED (R196–R198). -/
def tallyBuilt (b : Built) (s : State) : State :=
  if s.get F.TALLY_CTRL_SOURCE = 1 ∧ (b.frag.kind = .accept ∨ b.frag.kind = .tally) ∧ ¬ b.frag.frozen then
    b.nuggets.foldl (fun s w =>
      if w.2.2 then (if s.sys.run.capturing ∧ ¬ s.isRoot ∧ ¬ s.trg.frozen then s.inc Reg.TALLY_POISON_REFUSED_CNT else s)
      else
        let rel := toSigned 4 (bitsOf w.1 30 4)
        let slot := (((b.frag.slot : Int) + rel) % (atLeast1 s.time.len : Int)).toNat
        tallyCount (bitsOf w.1 34 14) slot (bitsOf w.1 14 16) (bitsOf w.1 2 12) s) s
  else s

/-- The vault word that mirrors a word of the counter memory (R201). -/
def mirrorWord (w : Nat) : Nat := if w < 8192 then 12582912 / 4 + w else 12615680 / 4 + (w - 8192)

/-- A word of the counter memory is copied to its mirror, if its counters are enabled (R203). -/
def mirrorOne (s : State) (w : Nat) : State :=
  if (if w < 8192 then s.on F.TALLY_CTRL_CNT_EN else s.on F.TALLY_CTRL_SUM_EN) then s.writeWord (mirrorWord w) (dataOf (s.tword w))
  else s

/-- Words of the counter memory that are not zero, there or in the mirror. -/
def State.mirrorWords (s : State) : List Nat :=
  let b := s.vault.mem.filterMap (fun p =>
    if 12582912 / 4 ≤ p.1 ∧ p.1 < 12582912 / 4 + 8192 then some (p.1 - 12582912 / 4)
    else if 12615680 / 4 ≤ p.1 ∧ p.1 < 12615680 / 4 + 16384 then some (p.1 - 12615680 / 4 + 8192) else none)
  ((s.tally.mem.map (fun p => p.1)) ++ b).eraseDups

/-- The mirror copy from slot 0, once per orbit (R203); a word that is 0 in both places needs no write. -/
def tallyMirror (s : State) : State :=
  if ¬ s.isRoot ∧ s.scrubs ∧ s.on F.TALLY_CTRL_HBINS ∧ (s.on F.TALLY_CTRL_CNT_EN ∨ s.on F.TALLY_CTRL_SUM_EN)
  then s.mirrorWords.foldl mirrorOne s else s

/-- The orbit's demand joins the interval's peak (R207). -/
def tallyOrbit (s : State) : State :=
  { s with tally := { s.tally with peak := max s.tally.peak s.tally.demand, demand := 0 } }

/-! Dumps (R208–R213). -/

/-- The enabled reductions as SEL bits (R208). -/
def State.tallyEnabled (s : State) : Nat :=
  s.get F.TALLY_CTRL_HIST_EN + s.get F.TALLY_CTRL_OCC_EN * 2 + s.get F.TALLY_CTRL_CNT_EN * 4 + s.get F.TALLY_CTRL_SUM_EN * 8

/-- A dump is requested with selection `arg`: SEL bits 3:0, KEEP bit 4 (R208). -/
def dumpStart (arg : Nat) (s : State) : State :=
  if s.isRoot then s
  else
    match s.tally.dump with
    | some _ => (s.inc Reg.TALLY_DUMP_SKIP_CNT).flag F.TALLY_STATUS_DUMP_SKIP
    | none =>
      let sel := if arg % 16 = 0 then s.tallyEnabled else (arg % 16) &&& s.tallyEnabled
      let d : Dump := { sel := sel, keep := decide (bitsOf arg 4 1 = 1), id := s.rd Reg.TALLY_DUMP_ID, at' := .first }
      (({ s with tally := { s.tally with dump := some d } }).incWrap Reg.TALLY_DUMP_ID).flag F.TALLY_STATUS_DUMP_ACTIVE

/-- The first selected place of the sweep among `l` (R210). -/
def nextPlace (sel : Nat) : List (DumpAt × Nat) → DumpAt
  | [] => .last
  | (a, k) :: l => if bitsOf sel k 1 = 1 then a else nextPlace sel l

/-- The place after another. -/
def placeAfter (sel : Nat) : DumpAt → DumpAt
  | .first => nextPlace sel [(.hist, 0), (.occ, 1), (.cnt, 2), (.sum, 3)]
  | .hist => nextPlace sel [(.occ, 1), (.cnt, 2), (.sum, 3)]
  | .occ => nextPlace sel [(.cnt, 2), (.sum, 3)]
  | .cnt => nextPlace sel [(.sum, 3)]
  | .sum => .last
  | .last => .last

/-- REC of a place (R211). -/
def DumpAt.code : DumpAt → Nat
  | .first => 1 | .hist => 2 | .occ => 3 | .cnt => 4 | .sum => 5 | .last => 15

/-- One vault word read by the sweep: data, poison; with KEEP = 0 it is written back as zero (R209, R212). -/
def dumpWord (keep : Bool) (w : Nat) (s : State) : Nat × Bool × State :=
  let s1 := (s.settleWord w).bankOp (bankOf w) 1
  let poisoned := decide (found (s1.vword w) = .poisoned)
  let (d, _, s2) := s1.readWord w true
  (d, poisoned, if keep then s2 else s2.setVword w (fresh72 0))

/-- `k` vault words from `w`: bytes, poison map from bit `i`, and the state. -/
def dumpWords (keep : Bool) : Nat → Nat → Nat → State → List Byte × Nat × State
  | 0, _, _, s => ([], 0, s)
  | k + 1, w, i, s =>
    let (d, p, s1) := dumpWord keep w s
    let (bs, m, s2) := dumpWords keep k (w + 1) (i + 1) s1
    (leBytes 8 d ++ bs, m + b2n p * 2 ^ i, s2)

/-- A word of the counter memory read by the sweep: data, poison; with KEEP = 0 it is written back as zero, else a corrected or
uncorrectable one as R218 writes it (R209, R212). -/
def counterWord (keep : Bool) (w : Nat) (s : State) : Nat × Bool × State :=
  let v := s.tword w
  let back := match found v with | .corrected d => fresh72 d | .bad => poison72 v | _ => v
  (dataOf v, decide (found v = .poisoned), s.setTword w (if keep then back else 0))

/-- `k` words of the counter memory from `w`: bytes, poison map from bit `i`, and the state (R209, R211). -/
def dumpCounters (keep : Bool) : Nat → Nat → Nat → State → List Byte × Nat × State
  | 0, _, _, s => ([], 0, s)
  | k + 1, w, i, s =>
    let (d, p, s1) := counterWord keep w s
    let (bs, m, s2) := dumpCounters keep k (w + 1) (i + 1) s1
    (leBytes 8 d ++ bs, m + b2n p * 2 ^ i, s2)

/-- Entries of the next record (R211). -/
def State.dumpCount (s : State) (d : Dump) : Nat :=
  match d.at' with
  | .first | .last => 0
  | .hist => if s.on F.TALLY_CTRL_HBINS then 512 else 1024
  | .occ => min 4 (s.time.len - d.ix) * 256
  | .cnt => 1024
  | .sum => 1024

/-- The payload of the next record with its poison map (R209, R211, R212). -/
def dumpPayload (d : Dump) (s : State) : List Byte × Nat × State :=
  match d.at' with
  | .first | .last => ([], 0, s)
  | .hist => dumpWords d.keep (s.dumpCount d / 4) (s.histEntry d.ix 0 / 4) 0 s
  | .occ => dumpWords d.keep (s.dumpCount d / 4) (occEntry d.ix 0 / 4) 0 s
  | .cnt => dumpCounters d.keep 256 (d.ix / 2) 0 s
  | .sum => dumpCounters d.keep 256 (8192 + d.ix) 0 s

/-- The 64-byte header of a dump record (R211). -/
def dumpHeader (s : State) (d : Dump) (poison count map : Nat) : List Byte :=
  let flags := b2n s.tally.inexact + b2n (!d.keep) * 2 + poison * 4 + b2n d.partial' * 8
  leBytes 1 d.at'.code ++ leBytes 1 flags ++ leBytes 2 s.dieNo ++ leBytes 4 d.id
    ++ leBytes 4 (if d.at' = .last then d.sent + 1 else d.ix) ++ leBytes 2 count ++ leBytes 1 s.tallyK
    ++ leBytes 1 (s.get F.TALLY_CTRL_SOURCE + s.get F.TALLY_CTRL_HIST_KIND * 4 + s.get F.TALLY_CTRL_HBINS * 8)
    ++ leBytes 4 s.tally.startOrbit ++ leBytes 4 s.time.orbit ++ leBytes 2 s.time.slot
    ++ leBytes 2 (s.get F.TALLY_HIST_LO) ++ leBytes 1 (s.get F.TALLY_HIST_SHIFT) ++ leBytes 3 0 ++ leBytes 32 map

/-- The new sampling exponent at the end of an interval (R207). -/
def State.nextK (s : State) : Nat :=
  let k := s.tallyK
  let lo := s.get F.TALLY_SAMP_K_MIN
  let hi := s.get F.TALLY_SAMP_K_MAX
  let cap := s.time.len * 64 * s.rd Reg.WALL_NOM * 16
  let k1 := if s.tally.lost ∧ k < hi then k + 1
    else if ¬ s.tally.lost ∧ lo < k ∧ max s.tally.peak s.tally.demand * 2 ^ (k + 2) * 10 * 2 ^ 32 < cap then k - 1 else k
  max lo k1

/-- A dump ends; a clearing dump of the histogram or occupancy ends the interval (R206, R207, R211). -/
def State.dumpEnd (s : State) (d : Dump) : State :=
  let s1 := ({ s with tally := { s.tally with dump := none } }).unflag F.TALLY_STATUS_DUMP_ACTIVE
  let s2 := if d.keep then s1 else { s1 with tally := { s1.tally with startOrbit := s1.time.orbit } }
  if ¬ d.keep ∧ d.sel % 4 ≠ 0 ∧ ¬ d.partial' then
    let s3 := s2.put F.TALLY_SAMP_K s2.nextK
    { s3 with tally := { s3.tally with lost := false, inexact := false, peak := 0, demand := 0 } }
  else s2

/-- The index after a record, and whether its place is exhausted (R210, R211). -/
def State.dumpStep (s : State) (d : Dump) : Nat × Bool :=
  match d.at' with
  | .first | .last => (0, true)
  | .hist => (d.ix + 1, decide (16384 ≤ d.ix + 1))
  | .occ => (d.ix + 4, decide (s.time.len ≤ d.ix + 4))
  | .cnt => (d.ix + 512, decide (16384 ≤ d.ix + 512))
  | .sum => (d.ix + 256, decide (16384 ≤ d.ix + 256))

/-- The sweep writes its next record when the dump stream has room for all of it (R210–R212). -/
def dumpRecordWrite (s : State) : State :=
  match s.tally.dump with
  | none => s
  | some d =>
    let n := s.dumpCount d
    if s.partFree .dump < ceilDiv (64 + 2 * n) 64 then s
    else
      let hdrAt := s
      let (bs, map, s1) := dumpPayload d s
      let hd := dumpHeader hdrAt d (b2n (decide (map ≠ 0))) n map
      let s2 := (s1.pushUnit 2 .dump false (hd ++ bs)).uplinks
      if d.at' = .last then s2.dumpEnd d
      else
        let (ix, ovl) := s.dumpStep d
        let d1 := if ovl then { d with at' := placeAfter d.sel d.at', ix := 0, sent := d.sent + 1 }
          else { d with ix := ix, sent := d.sent + 1 }
        { s2 with tally := { s2.tally with dump := some d1 } }

/-- The die leaves RUNNING and HOLD: the sweep stops, and an end record with PARTIAL follows (R213). -/
def dumpStop (s : State) : State :=
  match s.tally.dump with
  | none => s
  | some d => if d.at' = .last then s else
    dumpRecordWrite { s with tally := { s.tally with dump := some { d with at' := .last, ix := 0, partial' := true } } }

/-- TALLY_DUMP written with GO (R208). -/
def tallyDumpGo (s : State) : State := dumpStart (s.get F.TALLY_DUMP_SEL + s.get F.TALLY_DUMP_KEEP * 16) s

end Sys2Proof.Machine
end

