-- ==== Sys2Proof/Machine/Buffer.lean ====
section
/-! DEFINITION. The fragment output buffer's two entrances (R153, R189, R263–R268, R279): the die's own fragments, from their
close through the Facet engines, and the pieces that arrive on drift ports. -/

namespace Sys2Proof.Machine

/-! Own fragments. -/

/-- A closed fragment's own source bits (R181), which an evidence fragment and a tally read do not take. -/
def State.withSrc (s : State) (b : Built) : Built :=
  if b.frag.kind = .evidence then b
  else { b with frag := { b.frag with src := b.frag.src ||| s.selfSrc b.frag.first b.frag.last } }

/-- Closed fragments leave assembly (R153): the tally takes its nuggets, a tally read forms no fragment (R197). -/
def takeClosed (s : State) : State :=
  s.asm.closed.foldl (fun s b =>
    let s1 := tallyBuilt b s
    if b.frag.kind = .tally then s1
    else { s1 with facet := { s1.facet with wait := s1.facet.wait ++ [s.withSrc b] } })
    { s with asm := { s.asm with closed := [] } }

/-- The release of a speculative fragment of this die. -/
def State.releaseOf (s : State) (b : Built) : Option Release :=
  s.trg.releases.find? (fun r => decide (r.orbit = b.frag.orbit ∧ r.slot = b.frag.slot))

/-- The bytes fit a partition. -/
def State.fits (s : State) (p : Part) (n : Nat) : Bool := decide (partCost p n ≤ s.partFree p)

/-- A finished fragment enters the buffer, or none where the fragment partition has no room yet (R185–R192, R268, log 17):
a speculative one takes the quarantine, is freed with a NACK where that is full, and follows a resolution already made. -/
def State.enterBuffer (s : State) (b : Built) (bs : List Byte) : Option State :=
  let mk : Part → Bool → List Byte → BUnit := fun p q bs =>
    { stream := 0, origin := s.dieNo, q := q, part := p, bytes := bs, orbit := s.time.orbit }
  let add : BUnit → State := fun u => { s with buf := { s.buf with units := s.buf.units ++ [u] } }
  if b.frag.kind = .spec then
    let res : SpecRes := match s.releaseOf b with | some r => r.res | none => .pending
    let acc : Option TrigEntry := match s.releaseOf b with | some r => r.accept | none => none
    match res, acc with
    | .cancelled, _ => some s
    | .confirmed, some e =>
      if s.fits .frag bs.length then some (add (mk .frag true (rewriteHeader e.msg.src e.msg.trigger bs))) else none
    | _, _ => if s.fits .quar bs.length then some (add (mk .quar true bs)) else some (s.nackFragment (unitId bs))
  else if s.fits .frag bs.length then some (add (mk .frag false bs))
  else none

/-- Finished fragments enter the buffer in order, at most `k` of them (R279). -/
def intoBuffer : Nat → State → State
  | 0, s => s
  | k + 1, s =>
    match s.facet.jobs with
    | [] => s
    | j :: js =>
      match j.done with
      | none => s
      | some bs =>
        match s.enterBuffer j.built bs with
        | none => s
        | some s1 => intoBuffer k { s1 with facet := { s1.facet with jobs := js } }

/-- Fragments whose last tile is done close, closed fragments pass on as far as they can (R153, R279), tiles whose retrievals are
complete free their entries (R133), and what has come to the buffer asks for the uplinks (R231). -/
def fragOut (s : State) : State :=
  let s1 := takeClosed s.drain
  let s2 := intoFacet s1.facet.wait.length s1
  ((intoBuffer s2.facet.jobs.length s2).freeTiles).uplinks

/-- Engine `e` finishes coding (R279). -/
def facetCodingDone (e : Nat) (s : State) : State := fragOut (s.facetEnd e)

/-! Pieces (R263–R268, R189). -/

/-- A unit still open under a key on a port (R264). -/
def isOpen (p : Nat) (pc : Piece) (u : BUnit) : Bool :=
  decide (u.port = p) && !u.whole && !u.abort && !u.left && decide (u.stream = pc.stream ∧ u.origin = pc.origin ∧ u.q = pc.q)

/-- Replace the open unit of a key. -/
def State.mapOpen (s : State) (p : Nat) (pc : Piece) (f : BUnit → BUnit) : State :=
  { s with buf := { s.buf with units := s.buf.units.map (fun u => if isOpen p pc u then f u else u) } }

/-- Remove the open unit of a key. -/
def State.dropOpen (s : State) (p : Nat) (pc : Piece) : State :=
  { s with buf := { s.buf with units := s.buf.units.filter (fun u => !isOpen p pc u) } }

/-- An open unit ends as aborted (R265): a relay that has sent part of it sends an ABORT piece on; a root discards it with an
alert; a speculative fragment's identity stays until TTL. -/
def State.abortOpen (s : State) (p : Nat) (pc : Piece) : State :=
  match s.buf.units.find? (isOpen p pc) with
  | none => s
  | some u =>
    if u.drop then s.dropOpen p pc
    else
      let s1 := s.inc Reg.FRAG_RX_ABORT_CNT
      let s2 := if isSpecUnit u.bytes then s1.markLeft u else s1
      if s.isRoot then (s2.dropOpen p pc).warnCnt Reg.FRAG_RX_ABORT_CNT u.origin
      else if u.sentA + u.sentB = 0 then s2.dropOpen p pc
      else s2.mapOpen p pc (fun u => { u with abort := true, bytes := u.bytes.take (max u.sentA u.sentB), seqA := none, seqB := none })

/-- Every open unit of a port ends as aborted (R265, R313). -/
def State.abortPort (s : State) (p : Nat) : State :=
  (s.buf.units.filter (fun u => decide (u.port = p) && !u.whole && !u.abort && !u.left)).foldl (fun s u =>
    s.abortOpen p { stream := u.stream, origin := u.origin, q := u.q, first := false, last := false, abort := true, bytes := [] }) s

/-- A speculative fragment whose header has come meets a resolution recorded for it (R189). -/
def State.meetResolution (s : State) (p : Nat) (pc : Piece) : State :=
  match s.buf.units.find? (isOpen p pc) with
  | none => s
  | some u =>
    if ¬ isSpecUnit u.bytes ∨ u.drop then s
    else
      let id := unitId u.bytes
      match s.trg.table.find? (fun r => decide (r.id = id)) with
      | none => s
      | some r =>
        let s1 := { s with trg := { s.trg with table := s.trg.table.filter (fun x => decide (x.id ≠ id)) } }
        if r.confirm then
          s1.mapOpen p pc (fun u => { u with part := .frag, bytes := rewriteHeader r.msg.src r.msg.trigger u.bytes })
        else s1.mapOpen p pc (fun u => { u with drop := true, bytes := [] })

/-- Where the bytes of a piece are counted: their own partition, the fragment partition, or nowhere yet (R268). -/
def State.placeOf (s : State) (part : Part) (have' n : Nat) : Option Bool :=
  if partCost part (have' + n) - partCost part have' ≤ s.partFree part then some false
  else if part ≠ .frag ∧ part ≠ .quar ∧ s.fits .frag n then some true
  else none

/-- The last piece closes the open unit; a discarded one goes. -/
def State.closeOpen (s : State) (p : Nat) (pc : Piece) : State :=
  if ¬ pc.last then s
  else if s.buf.units.any (fun u => isOpen p pc u && u.drop) then s.dropOpen p pc
  else s.mapOpen p pc (fun u => { u with whole := true })

/-- The bytes of a piece join the open unit of its key, or none where there is no room (R266–R268). A speculative piece that
finds the quarantine full is freed with its unit, and a NACK goes to the origin (R189, R192). -/
def State.joinPiece (s : State) (p : Nat) (pc : Piece) : Option State :=
  match s.buf.units.find? (isOpen p pc) with
  | none => some s
  | some u =>
    if u.drop then some (s.closeOpen p pc)
    else
      let bytes := u.bytes ++ pc.bytes
      let spec := u.q && isSpecUnit bytes
      match s.placeOf u.part (u.bytes.length - u.spill) pc.bytes.length with
      | some ovl =>
        let s1 := s.mapOpen p pc (fun u => { u with
          bytes := bytes, cuts := u.cuts ++ [bytes.length], spill := u.spill + (if ovl then pc.bytes.length else 0) })
        let s2 := if u.bytes.length < 32 then s1.meetResolution p pc else s1
        some (s2.closeOpen p pc)
      | none =>
        if spec then
          let s1 := (s.mapOpen p pc (fun u => { u with drop := true, bytes := [] })).nackFragment (unitId bytes)
          some (s1.closeOpen p pc)
        else if u.q ∧ s.fits .frag pc.bytes.length then
          some ((s.mapOpen p pc (fun u => { u with
            bytes := bytes, cuts := u.cuts ++ [bytes.length], spill := u.spill + pc.bytes.length })).closeOpen p pc)
        else none

/-- A piece arrives (R265): none where it finds no room and stays in the receive stage. -/
def State.takePiece (s : State) (p : Nat) (pc : Piece) : Option State :=
  let isOpenNow := s.buf.units.any (isOpen p pc)
  if pc.first then
    let s1 := if isOpenNow then s.abortOpen p pc else s
    let u : BUnit := { stream := pc.stream, origin := pc.origin, q := pc.q, port := p
                       part := if pc.q then .quar else partOf pc.stream, bytes := [], whole := false, orbit := s.time.orbit }
    let s2 := { s1 with buf := { s1.buf with units := s1.buf.units ++ [u] } }
    if pc.abort then some (s2.abortOpen p pc) else s2.joinPiece p pc
  else if ¬ isOpenNow then some (s.inc Reg.FRAG_RX_ORPHAN_CNT)
  else if pc.abort then some (s.abortOpen p pc)
  else s.joinPiece p pc

/-- The pieces of a frame in order: those that found no room, and the state. -/
def takeAll (p : Nat) : List Piece → State → List Piece × State
  | [], s => ([], s)
  | pc :: rest, s =>
    match s.takePiece p pc with
    | none => (pc :: rest, s)
    | some s1 => takeAll p rest s1

/-- Staged frames of a port pass into the buffer in order; a frame's credit returns with its last piece (R268, R308). -/
def admitFrom (p : Nat) : List Staged → State → List Staged × State
  | [], s => ([], s)
  | f :: fs, s =>
    let (left, s1) := takeAll p f.pieces s
    if left.isEmpty then admitFrom p fs (s1.giveCredit p 2 f.units)
    else ({ f with pieces := left } :: fs, s1)

/-- What waits in a port's receive stage enters the buffer as room appears (R268). -/
def rxStageAdmit (p : Nat) (s : State) : State :=
  let (left, s1) := admitFrom p (s.port p).stage s
  (s1.setPort p { s1.port p with stage := left }).uplinks

/-- The pieces of a DATA frame's payload, at most `k` of them; none where it is malformed (R263). -/
def parsePieces (stream : Nat) : Nat → List Byte → Option (List Piece)
  | 0, bs => if bs.isEmpty then some [] else none
  | k + 1, bs =>
    if bs.isEmpty then some []
    else if bs.length < 4 then none
    else
      let h := byteField bs 0 4
      let n := h % 8192
      let rest := bs.drop 4
      if rest.length < n ∨ (n = 0 ∧ bitsOf h 26 1 = 0) then none
      else
        match parsePieces stream k (rest.drop n) with
        | none => none
        | some ps => some ({ stream := stream, origin := bitsOf h 16 10, q := decide (bitsOf h 15 1 = 1)
                             first := decide (bitsOf h 13 1 = 1), last := decide (bitsOf h 14 1 = 1)
                             abort := decide (bitsOf h 26 1 = 1), bytes := rest.take n } :: ps)

end Sys2Proof.Machine
end

