-- ==== Sys2Proof/Machine/Ports.lean ====
section
/-! DEFINITION. Lanes and ports as operations (R284, R290–R321, R334, R337, R452): strikes and retirement, entry to DOWN and
BASE, widths, negotiation. -/

namespace Sys2Proof.Machine

/-! Lanes of a port. -/

/-- A lane belongs to the host port of a root (R15). -/
def State.hostLane (s : State) (l : Nat) : Bool := s.isRoot && decide (8 ≤ l)

/-- The lowest-numbered port that names lane `l` (R284). -/
def State.portOfLane (s : State) (l : Nat) : Option Nat :=
  if s.hostLane l then none
  else (List.range 16).find? (fun p => decide (s.portKind p ≠ 0) && decide (bitsOf (s.portMask p) l 1 = 1))

/-- Lane `l` is in service: not retired and in no loop, its own or the partner's (R284, R321). -/
def State.laneServes (s : State) (l : Nat) : Bool :=
  !s.isRetired 5 l && decide (s.get (F.LANE_CTRL_LOOP l) = 0) && decide ((s.lane l).loop ≠ 3)

/-- The lanes that port `p` holds and may use, ascending (R284). -/
def State.lanesFor (s : State) (p : Nat) : List Nat :=
  (List.range 16).filter (fun l => decide (s.portOfLane l = some p) && s.laneServes l)

/-- LANE_CONFLICT of every port (R284). -/
def State.conflicts (s : State) : State :=
  (List.range 16).foldl (fun s p =>
    s.flagIf (F.PORT_STATUS_LANE_CONFLICT p) (decide (s.portKind p ≠ 0) && (List.range 16).any (fun l =>
      decide (bitsOf (s.portMask p) l 1 = 1) && decide (s.portOfLane l ≠ some p) && !s.hostLane l))) s

/-- The lanes that form a port, with WIDTH and TLANE; a change of the timing lane in service is flagged (R288, R319). -/
def State.setLanes (s : State) (p : Nat) (ls : List Nat) : State :=
  let old := (s.port p).lanes.head?
  let s1 := (s.setPort p { s.port p with lanes := ls }).put (F.PORT_STATUS_WIDTH p) (ls.length - 1)
  match ls.head? with
  | none => s1
  | some t =>
    let s2 := s1.put (F.PORT_STATUS_TLANE p) t
    if old.isSome ∧ old ≠ some t then s2.flag (F.PORT_STATUS_TLANE_CHANGED p) else s2

/-- The index of a lane within its port. -/
def State.laneIndex (s : State) (p l : Nat) : Nat := ((s.port p).lanes.takeWhile (fun k => decide (k ≠ l))).length

/-- The lane at an index of a port. -/
def State.laneAt (s : State) (p i : Nat) : Option Nat := (s.port p).lanes[i]?

/-- Power of a lane's receiver and transmitter. -/
def State.lanePower (s : State) (l : Nat) (on : Bool) : State :=
  let s1 := (s.flagIf (F.LANE_STATUS_RX_AWAKE l) on).flagIf (F.LANE_STATUS_TX_AWAKE l) on
  if on then s1 else s1.unflag (F.LANE_STATUS_LOCK l)

/-! TRAIN sets (R315). -/

/-- The own TRAIN set of a port on its lane of index `k`, as four block contents; STEP is `step` (R315, R316). -/
def State.trainBlocks (s : State) (p step k : Nat) : List Nat :=
  let q := s.port p
  let hd : Nat → Nat := fun i => i + step * 4
  let b2 := min 3 (s.get (F.PORT_VER_MAX p)) + s.sys.role.code * 16 + b2n s.srcRef * 64 + b2n q.ready * 128
  let lanes := popCount 16 (s.portMask p) - 1
  let b3 := k % 4 + lanes % 8 * 4
  let feat := s.rd64 (Reg.PORT_FEAT_OFFER p) % 512
  [hd 0 + b2 * 2 ^ 8 + b3 * 2 ^ 16 + s.get (F.PORT_VER_MAX_RATE p) * 2 ^ 24
     + (s.get (F.PORT_RATE_N p) + atLeast1 (s.get (F.PORT_RATE_D p)) % 256 * 2 ^ 12) * 2 ^ 32,
   hd 1 + feat * 2 ^ 8,
   hd 2 + (if s.on F.TREE_ID_NUMBERED then s.get F.TREE_ID_DIE else 0x3FF) * 2 ^ 24 + s.get (F.PORT_CREDIT_VC2 p) * 2 ^ 40,
   hd 3 + s.get F.HALL_AUTH_MODE * 2 ^ 8]

/-- A TRAIN set is sent on every lane of the port, before it has formed on every lane of its mask in service (R314, R315). -/
def State.sendTrain (s : State) (p step : Nat) : State :=
  let n := if s.portState p < 2 then (s.lanesFor p).length else (s.port p).lanes.length
  (List.range n).foldl (fun s k => (s.trainBlocks p step k).foldl (fun s c => s.block p 0xCC c) s) s

/-! DOWN and BASE (R313, R314). -/

/-- The port may leave DOWN (R314, R407, R452): its lanes have their supplies (R488) and fuse load is over (R445). -/
def State.mayTrain (s : State) (p : Nat) : Bool :=
  decide (s.portKind p ≠ 0) && s.sys.serialUp && s.sys.fuseDone && decide (s.sys.run ≠ .reset ∧ s.sys.run ≠ .safe) && !s.isRetired 6 p &&
    decide (bitsOf (s.rd Reg.HALL_PORT_SAFE) p 1 = 0) && !(s.port p).sess.retry

/-- A port in DOWN goes to BASE: TRAIN blocks on every lane of its mask (R314). -/
def State.toBase (s : State) (p : Nat) : State :=
  if s.portState p = 0 ∧ s.mayTrain p then
    let s1 := (s.lanesFor p).foldl (fun s l =>
      let s1 := ((s.lanePower l true).put (F.LANE_STATUS_ADAPT l) 0).unflag (F.LANE_STATUS_LOCK l)
      s1.setLane l {}) s
    let s2 := s1.put (F.PORT_STATUS_STATE p) 1
    (s2.setPort p { s2.port p with set := none, same := 0, ready := false, locked := false, rate := (2, 1) }).sendTrain p 0
  else s

/-- Routes over a drift port are cleared and remembered (R328, R330, R334). -/
def State.clearRoutes (s : State) (p : Nat) : State :=
  let i := s.driftIndex p
  let dies := s.regs.filterMap (fun e =>
    if Reg.TREE_ROUTE 0 ≤ e.1 ∧ e.1 < Reg.TREE_ROUTE 1024 ∧ e.2.toNat % 16 = i then some ((e.1 - Reg.TREE_ROUTE 0) / 4)
    else none)
  let s1 := dies.foldl (fun s d => s.put (F.TREE_ROUTE_DRIFT d) 0xF) s
  { s1 with tree := { s1.tree with
      lastDie := (dies.map (fun d => (d, p))) ++ s.tree.lastDie.filter (fun e => !dies.contains e.1) } }

/-- The shaft parent of a port: 0 SHAFT, 1 ALT_SHAFT (R452). -/
def State.parentOf (s : State) (p : Nat) : Nat := if s.portKind p = 2 then 1 else 0

/-- The other shaft port is warm and its parent in service (R336, R337, R457). -/
def State.warm (s : State) : Bool :=
  match s.otherShaft with
  | none => false
  | some p => s.on F.TREE_STATUS_ALT_WARM && s.portUp? p && (s.port p).joined && !s.isRetired 9 (s.parentOf p)

/-- A shaft parent retires; one in use is left as soon as the other port is warm (R452, R457). -/
def State.parentRetire (s : State) (i : Nat) : State :=
  let s2 := s.retire 9 i
  if s2.shaftPort.any (fun p => decide (s2.parentOf p = i)) then
    let s3 := { s2 with tree := { s2.tree with switch := true } }
    if s3.warm then s3 else s3.pendRetire 9 i
  else s2

/-- A shaft parent's strike (R452). -/
def State.strikeParent (s : State) (p : Nat) : State :=
  let i := s.parentOf p
  let s1 := s.addStrike 9 i
  if s1.atLimit 9 i then s1.parentRetire i else s1

/-- Shaft timing is lost on the port in use (R42), with the parent's strike (R452). -/
def State.shaftTimingLost (s : State) (p : Nat) : State :=
  if s.srcShaft ∧ s.pa ≠ paFrozen then (s.loseShaft).strikeParent p else s

/-- The port in use goes DOWN: its timing is lost (R42), unless a warm port stands ready, whose switch comes first (R337). -/
def State.shaftLost (s : State) (p : Nat) : State :=
  if s.shaftPort = some p then
    if s.warm then { s with tree := { s.tree with switch := true } }
    else
      let s1 := s.shaftTimingLost p
      { s1 with tree := { s1.tree with switch := s1.tree.switch || s1.otherShaft.isSome } }
  else s

/-- A port enters DOWN (R313): replay, waiting frames, receive stage and keys go, open units abort, SEQ and credit restart, its
routes go (R334), a busy child counts as not busy (R174), and a shaft port in use loses timing (R42) or is left (R337). -/
def State.portDown (s : State) (p : Nat) : State :=
  let was := s.portState p
  let q := s.port p
  let kind := s.portKind p
  let s1 := s.abortPort p
  let s2 := s1.setPort p { lanes := q.lanes, kid := 0x3FF, rate := q.rate, sess := { retry := q.sess.retry, since := q.sess.since } }
  let s3 := ((s2.put (F.PORT_STATUS_STATE p) 0).put (F.HALL_PORT_SESSION p) 0).put (F.HALL_PORT_PHASE p) 0
  let s4 := if kind = 3 then
      let s4 := s3.clearRoutes p
      busyLost p (if q.kid ≠ 0x3FF then { s4 with tree := { s4.tree with
        lastDie := (q.kid, p) :: s4.tree.lastDie.filter (fun e => decide (e.1 ≠ q.kid)) } } else s4)
    else s3
  let s5 := if kind = 1 ∨ kind = 2 then
      (if s4.shaftPort = some p ∧ 0 < was then
        let s5 := s4.shaftLost p
        { s5 with tree := { s5.tree with lostDown := true } }
      else s4.unflag F.TREE_STATUS_ALT_WARM)
    else s4
  { s5 with phase := { s5.phase with exch := s5.phase.exch.filter (fun e => decide (e.port ≠ p)) } }

/-- The partner of a port is lost: DOWN, then BASE again (R314). -/
def State.portLost (s : State) (p : Nat) : State := (s.portDown p).toBase p

/-- A port retires: held in DOWN with its lanes powered down (R312, R319, R452). -/
def State.portRetire (s : State) (p : Nat) : State :=
  (s.lanesFor p).foldl (fun s l => s.lanePower l false) ((s.retire 6 p).portDown p)

/-- A port's strike; at the limit the port retires. -/
def State.strikePort (s : State) (p : Nat) : State :=
  let s1 := s.addStrike 6 p
  if s1.atLimit 6 p then s1.portRetire p else s1

/-- A lane retires (R319): powered down; its port re-bonds without it, and one that has no lane left goes DOWN with a strike. -/
def State.laneRetire (s : State) (l : Nat) : State :=
  if s.isRetired 5 l then s
  else
    let owner := s.portOfLane l
    let s1 := (((s.retire 5 l).lanePower l false).flag (F.LANE_STATUS_RETIRED l)).setLane l {}
    match owner with
    | none => s1
    | some p =>
      if s.portState p = 1 then (if s1.lanesFor p = [] then (s1.strikePort p).portDown p else s1)
      else if ¬ (s.port p).lanes.contains l ∨ s.portState p < 2 then s1
      else
        let i := s.laneIndex p l
        let rest := (s.port p).lanes.filter (fun k => decide (k ≠ l))
        if rest = [] then ((s1.setLanes p []).strikePort p).portLost p
        else
          let s2 := (s1.block p 0xC3 (2 ^ i)).block p 0xD2 ((2 ^ (s.port p).lanes.length - 1) - 2 ^ i)
          s2.setLanes p rest

/-- A lane's strike; at the limit the lane is retired (R319). -/
def State.strikeLane (s : State) (l : Nat) : State :=
  let s1 := s.addStrike 5 l
  if s1.atLimit 5 l then s1.laneRetire l else s1

/-- A lane is excluded by its partner's SLEEP or held for a retrain (R307). -/
def State.laneExcluded (s : State) (l : Nat) : Bool := (s.lane l).rxSleep || (s.lane l).rxHeld

/-! Rows of single lanes. -/

/-- 64 consecutive valid headers: block lock (R290). -/
def blockLock (l : Nat) (s : State) : State :=
  if s.isRetired 5 l ∨ s.hostLane l then s
  else
    let s1 := ((s.flag (F.LANE_STATUS_LOCK l)).unflag (F.LANE_STATUS_NO_SIGNAL l)).setLane l { s.lane l with attempts := 0 }
    match s1.portOfLane l with
    | none => s1
    | some p => s1.setPort p { s1.port p with locked := true }

/-- A lane loses block lock after `bad` invalid headers (R290, R307, R314, R319). -/
def blockLockLoss (l bad : Nat) (s : State) : State :=
  if ¬ s.on (F.LANE_STATUS_LOCK l) then s
  else
    let s0 := s.unflag (F.LANE_STATUS_LOCK l)
    if s.laneExcluded l then s0
    else
      let s1 := ((s0.incBy (Reg.LANE_HDR_ERR_CNT l) (max 16 bad)).inc (Reg.LANE_LOCK_LOSS_CNT l)).flag
        (F.LANE_STATUS_LOCK_LOST l)
      match s.portOfLane l with
      | none => s1
      | some p =>
        let s2 := if s.portUp? p ∧ (s.port p).lanes.contains l then s1.strikeLane l else s1
        let dead := 2 ≤ s2.portState p ∧ s2.portState p ≤ 6 ∧ ((s2.port p).lanes.all (fun k => !s2.on (F.LANE_STATUS_LOCK k))) = true
        if dead then s2.portLost p else s2

/-- An ALIGN block on lane `l`: its count, the lane's skew in blocks, and whether it came in its round (R303, R305). -/
def alignReceived (l count skew : Nat) (round : Bool) (s : State) : State :=
  let v := s.lane l
  if s.laneExcluded l ∨ s.isRetired 5 l then s
  else if 64 < skew then s.laneRetire l
  else if v.rejoin then
    if s.on (F.LANE_STATUS_LOCK l) then
      s.setLane l { v with rejoin := false, lost := false, align := some ((count + 1) % 2 ^ 16) }
    else (s.setLane l { v with rejoin := false }).strikeLane l
  else
    let good := round && (match v.align with | some a => decide (a = count) | none => true)
    if good then s.setLane l { v with lost := false, align := some ((count + 1) % 2 ^ 16) }
    else (s.setLane l { v with lost := true, align := none }).strikeLane l

/-- An awake transmit lane of a port. -/
def State.txLanes (s : State) (p : Nat) : List Nat :=
  (s.port p).lanes.filter (fun l => s.on (F.LANE_STATUS_TX_AWAKE l) && !(s.lane l).waking &&
    (!(s.lane l).txHeld || decide ((s.port p).lanes.head? = some l)))

/-- ALIGN is placed on every awake lane in the same round (R302). -/
def State.sendAlign (s : State) (p : Nat) : State :=
  let c := (s.port p).count
  let s1 := (s.txLanes p).foldl (fun s l => s.block p 0x99 (s.laneIndex p l + c * 256)) s
  s1.setPort p { s1.port p with count := (c + 1) % 2 ^ 16 }

/-- The ALIGN cadence of a port (R302). -/
def alignCadence (p : Nat) (s : State) : State := if 4 ≤ s.portState p ∧ s.portState p ≤ 6 then s.sendAlign p else s

/-- A HOLD block names lanes by index: they leave our striping, or rejoin it with an ALIGN (R300, R304, R305), and frames that waited for
the timing lane go on. -/
def holdBlock (p mask : Nat) (release : Bool) (s : State) : State :=
  let s1 := (s.port p).lanes.foldl (fun s l =>
    if bitsOf mask (s.laneIndex p l) 1 = 1 then s.setLane l { s.lane l with txHeld := !release } else s) s
  if release then (s1.sendAlign p).sendOn p else s1

/-- A SLEEP block: our receivers follow the mask of awake lanes (R307), and a lane whose retrain the sleep has overtaken trains as it
wakes (R320). The timing lane never sleeps (R304). -/
def sleepBlock (p mask : Nat) (s : State) : State :=
  (s.port p).lanes.foldl (fun s l =>
    let awake := decide (bitsOf mask (s.laneIndex p l) 1 = 1) || decide ((s.port p).lanes.head? = some l)
    let v := s.lane l
    if awake then
      if v.rxSleep then
        let s1 := (s.setLane l { v with rxSleep := false, rejoin := true, trainDue := false }).flag (F.LANE_STATUS_RX_AWAKE l)
        if v.trainDue then s1.put (F.LANE_STATUS_ADAPT l) 0 else s1
      else s
    else
      let s1 := s.setLane l { v with rxSleep := true, rejoin := false }
      if s.on (F.LANE_CTRL_RX_FOLLOW l) then s1.unflag (F.LANE_STATUS_RX_AWAKE l) else s1) s

/-- `PORT_WIDTH.TX_AWAKE` takes effect: lanes sleep at once, or wake (R306, R316). -/
def portWidthSet (p : Nat) (s : State) : State :=
  if ¬ s.portFeat p 7 ∨ ¬ s.portUp? p then s
  else
    let want : Nat → Bool := fun l =>
      decide (bitsOf (s.get (F.PORT_WIDTH_TX_AWAKE p)) (s.laneIndex p l) 1 = 1) || decide ((s.port p).lanes.head? = some l)
    let ls := (s.port p).lanes
    let mask := ls.foldl (fun m l => if want l then m + 2 ^ s.laneIndex p l else m) 0
    let s1 := if ls.all (fun l => s.on (F.LANE_STATUS_TX_AWAKE l) == want l) then s else s.block p 0xD2 mask
    ls.foldl (fun s l =>
      if want l then
        if s.on (F.LANE_STATUS_TX_AWAKE l) then s
        else (s.setLane l { s.lane l with waking := true }).flag (F.LANE_STATUS_TX_AWAKE l)
      else s.unflag (F.LANE_STATUS_TX_AWAKE l)) s1

/-- The waking lanes have sent IDLE long enough and receive the rejoining ALIGN (R306). -/
def laneWakeReady (p : Nat) (s : State) : State :=
  if (s.port p).lanes.any (fun l => (s.lane l).waking) then
    ((s.port p).lanes.foldl (fun s l => s.setLane l { s.lane l with waking := false }) s).sendAlign p
  else s

/-- An eye measurement: width in UI/64 and height in mV; a fourth low one starts a retrain (R300, R320). -/
def eyeMeasure (l width height : Nat) (s : State) : State :=
  let s1 := (s.put (F.LANE_EYE_WIDTH l) width).put (F.LANE_EYE_HEIGHT l) height
  let v := s.lane l
  if s.get (F.LANE_EQ_EYE_MIN l) ≤ width then s1.setLane l { v with lowEyes := 0 }
  else if v.lowEyes < 3 then s1.setLane l { v with lowEyes := v.lowEyes + 1 }
  else if v.rxSleep ∨ s.isRetired 5 l ∨ s.get (F.LANE_STATUS_ADAPT l) = 0 then
    s1.setLane l { v with lowEyes := 0, trainDue := v.trainDue || v.rxSleep }
  else
    let s2 := match s.portOfLane l with
      | some p => s1.block p 0xC3 (2 ^ s.laneIndex p l)
      | none => s1
    let s3 := ((s2.setLane l { v with lowEyes := 0, rxHeld := true }).put (F.LANE_STATUS_ADAPT l) 0)
    ((s3.inc (Reg.LANE_RETRAIN_CNT l)).flag (F.LANE_STATUS_RETRAIN l)).strikeLane l

/-- Every lane of a port has re-run TRAIN: replay and what waits resume (R312). -/
def State.retrained (s : State) (p : Nat) : State :=
  if (s.port p).retrain ∧ ((s.port p).lanes.all (fun l => decide (s.get (F.LANE_STATUS_ADAPT l) ≠ 0))) = true then
    (s.setPort p { s.port p with retrain := false }).sendOn p
  else s

/-- A lane finishes TRAIN with an eye width (R299–R301, R314). -/
def laneRetrainDone (l width : Nat) (s : State) : State :=
  if s.get (F.LANE_STATUS_ADAPT l) ≠ 0 ∨ s.isRetired 5 l then s
  else if width < s.get (F.LANE_EQ_EYE_MIN l) then
    (match s.portOfLane l with | some p => (s.laneRetire l).retrained p | none => s.laneRetire l)
  else
    let s1 := (((s.put (F.LANE_STATUS_ADAPT l) 1).incWrap (Reg.LANE_CAL_CNT l)).dateInto (Reg.LANE_CAL_WALL l)).put
      (F.LANE_CAL_QUAL_QUAL l) width
    let v := s.lane l
    if v.rxHeld then
      let s2 := s1.setLane l { v with rxHeld := false, rejoin := true }
      match s.portOfLane l with
      | some p => (s2.block p 0xC3 (2 ^ s.laneIndex p l + 16)).retrained p
      | none => s2
    else match s.portOfLane l with
      | some p => s1.retrained p
      | none => s1

/-- 1,024 consecutive idle blocks (R299). -/
def eqSlow (l : Nat) (s : State) : State :=
  if s.get (F.LANE_STATUS_ADAPT l) = 1 then s.put (F.LANE_STATUS_ADAPT l) 2 else s

/-- 2^20 consecutive idle blocks (R299). -/
def eqFreeze (l : Nat) (s : State) : State :=
  if s.get (F.LANE_STATUS_ADAPT l) = 2 then s.put (F.LANE_STATUS_ADAPT l) 3 else s

/-- A data or SOF block takes a port's equalisers back to TRACK (R299). -/
def State.eqTrack (s : State) (p : Nat) : State :=
  (s.port p).lanes.foldl (fun s l =>
    if 2 ≤ s.get (F.LANE_STATUS_ADAPT l) then s.put (F.LANE_STATUS_ADAPT l) 1 else s) s

/-- A training attempt of 250 µs ends without lock; `signal` says whether the lane saw one (R314). -/
def trainAttemptTimeout (l : Nat) (signal : Bool) (s : State) : State :=
  if s.on (F.LANE_STATUS_LOCK l) ∨ s.isRetired 5 l ∨ s.hostLane l then s
  else if ¬ signal then s.flag (F.LANE_STATUS_NO_SIGNAL l)
  else
    let n := (s.lane l).attempts + 1
    if 4 ≤ n then s.laneRetire l else s.setLane l { s.lane l with attempts := n }

/-! Negotiation (R314–R318). -/

/-- 1 ms after the first lock the port moves to NEGOTIATE with its locked lanes (R314). -/
def portBaseDone (p : Nat) (s : State) : State :=
  let ls := (s.lanesFor p).filter (fun l => s.on (F.LANE_STATUS_LOCK l))
  if s.portState p ≠ 1 ∨ ls = [] then s
  else
    let s1 := s.setPort p { s.port p with lanes := [] }
    (((s1.setLanes p (ls.take 4)).put (F.PORT_STATUS_STATE p) 2)).sendTrain p 0

/-- Least version of a feature bit (R316). -/
def featVersion (k : Nat) : Nat :=
  if k = 0 ∨ k = 2 ∨ k = 7 then 2 else if k = 1 ∨ k = 5 ∨ k = 6 then 3 else 1

/-- The features of an intersection that a version has (R316). -/
def featFor (version feat : Nat) : Nat :=
  (List.range 9).foldl (fun m k => if bitsOf feat k 1 = 1 ∧ featVersion k ≤ version then m + 2 ^ k else m) 0

/-- The operating rate N / D is refused: outside 2.5–32.0 Gb/s or above a MAX_RATE (R318). -/
def State.rateRefused (s : State) (n d maxRate : Nat) : Bool :=
  let a := n * 2 ^ 32
  let b := atLeast1 d * s.rd Reg.WALL_NOM
  decide (2 * a < 5 * b ∨ 32 * b < a ∨ maxRate * b < 4 * a)

/-- The side that sets the rate and acts as the drift side: a drift port, or the clasp member with CLASP_ID 0 (R318,
R401). -/
def State.driftSide (s : State) (p : Nat) : Bool :=
  decide (s.portKind p = 3) || (decide (s.portKind p = 4) && !s.on F.CLASP_STATUS_CLASP_ID)

/-- The outcome of a partner's TRAIN set once it is settled (R316–R318). -/
def State.negotiate (s : State) (p : Nat) (t : TrainSet) : State :=
  let s1 := ((s.flagIf (F.PORT_PARTNER_BENCH p) t.bench).put (F.PORT_PARTNER_ROLE p) t.role).put (F.PORT_PARTNER_DIE p) t.die
  let kind := s.portKind p
  let version := min (max 1 (min 3 (s.get (F.PORT_VER_MAX p)))) (min 3 t.version)
  let feat := featFor version ((s.rd64 (Reg.PORT_FEAT_OFFER p) % 512) &&& t.feat)
  let n := if s.driftSide p then s.get (F.PORT_RATE_N p) else t.n
  let d := if s.driftSide p then s.get (F.PORT_RATE_D p) else t.d
  let lim := if s.driftSide p then t.maxRate else s.get (F.PORT_VER_MAX_RATE p)
  if (kind = 1 ∨ kind = 2) ∧ (t.role = 0 ∨ (t.role = 1 ∧ t.ptype ≠ 3)) then s1.flag (F.PORT_STATUS_ROLE_FAULT p)
  else if (s.get F.HALL_AUTH_MODE ≠ 0 ∨ t.auth ≠ 0) ∧ feat % 2 = 0 then
    (s1.flag (F.PORT_STATUS_AUTH_MISMATCH p)).warn (F.PORT_STATUS_AUTH_MISMATCH p)
  else if n ≠ 0 ∧ s.rateRefused n d lim then (s1.flag (F.PORT_STATUS_RATE_FAULT p)).warn (F.PORT_STATUS_RATE_FAULT p)
  else
    let s2 := ((s1.wr64 (Reg.PORT_FEAT p) feat).put (F.PORT_STATUS_VERSION p) version).setPort p
      { s1.port p with peerVc2 := t.vc2, rate := if n = 0 then (2, 1) else (n, atLeast1 d) }
    let s3 := if version = 1 then s2.setLanes p ((s2.port p).lanes.take 1) else s2
    if n = 0 then s3.put (F.PORT_STATUS_STATE p) 4
    else
      let s4 := s3.put (F.PORT_STATUS_STATE p) 3
      if s.driftSide p then s4.sendTrain p 1 else s4

/-- A TRAIN set arrives in NEGOTIATE; the third unchanged one, READY on both sides, settles it (R314, R316). -/
def trainSetReceived (p : Nat) (t : TrainSet) (s : State) : State :=
  if s.portState p ≠ 2 then s
  else
    let q := s.port p
    let same := if q.set = some t then q.same + 1 else 1
    let s1 := s.setPort p { q with set := some t, same := same, ready := true }
    let s2 := if q.ready then s1 else s1.sendTrain p 0
    if 3 ≤ same ∧ t.ready ∧ same = 3 then s2.negotiate p t else s2

/-- 256 training blocks after STEP 1 the link runs at its operating rate (R314). -/
def switchDone (p : Nat) (s : State) : State :=
  if s.portState p = 3 then
    (s.port p).lanes.foldl (fun s l => s.put (F.LANE_STATUS_ADAPT l) 0) (s.put (F.PORT_STATUS_STATE p) 4)
  else s

/-! Loops (R321). -/

/-- The lane's port, for a block on that lane. -/
def State.laneBlock (s : State) (l typ content : Nat) : State :=
  match s.portOfLane l with | some p => s.block p typ content | none => s

/-- A lane leaves its port; the only lane takes the port to LOOP (R321). -/
def State.laneLeaves (s : State) (l : Nat) : State :=
  match s.portOfLane l with
  | none => s
  | some p =>
    if ¬ (s.port p).lanes.contains l then s
    else
      let rest := (s.port p).lanes.filter (fun k => decide (k ≠ l))
      if rest = [] then ((s.portDown p).put (F.PORT_STATUS_STATE p) 7).setLanes p []
      else s.setLanes p rest

/-- A lane re-trains into its port (R321, R458). -/
def State.laneReturns (s : State) (l : Nat) : State :=
  match s.portOfLane l with
  | none => s
  | some p =>
    let s1 := ((s.lanePower l true).put (F.LANE_STATUS_ADAPT l) 0).setLane l { rejoin := true }
    if s1.portState p = 7 then (s1.put (F.PORT_STATUS_STATE p) 0).toBase p
    else if s1.portState p < 2 then s1.toBase p
    else if (s1.port p).lanes.contains l ∨ 4 ≤ (s1.port p).lanes.length then s1
    else s1.setLanes p ((s1.lanesFor p).filter (fun k => (s1.port p).lanes.contains k || decide (k = l)))

/-- A partner's LOOP request is granted in READY with LOOP_ALLOW, else refused (R321). -/
def loopRequest (l : Nat) (s : State) : State :=
  match s.portOfLane l with
  | none => s
  | some p =>
    if s.sys.run = .ready ∧ s.on (F.PORT_CFG_LOOP_ALLOW p) then
      ((s.setLane l { s.lane l with loop := 3 }).laneLeaves l).block p 0xE1 1
    else s.block p 0xE1 2

/-- A PRBS checker runs on the lane (R322): a pattern is selected, and the lane is in a loop mode, a far-end loop granted. -/
def State.prbsOn (s : State) (l : Nat) : Bool :=
  decide (s.get (F.LANE_CTRL_PRBS l) ≠ 0) && (decide (s.get (F.LANE_CTRL_LOOP l) = 1 ∨ s.get (F.LANE_CTRL_LOOP l) = 2) ||
    (decide (s.get (F.LANE_CTRL_LOOP l) = 3) && decide ((s.lane l).loop = 2)))

/-- Bits at the line rate since F-cycle `f` since reset (R286). -/
def State.bitsSince (s : State) (l f : Nat) : Nat :=
  let q := match s.portOfLane l with | some p => (s.port p).rate | none => (2, 1)
  (s.fNow - f) * q.1 / atLeast1 q.2

/-- Bits that the lane's checker has compared and the register does not hold yet (R322). -/
def State.prbsBits (s : State) (l : Nat) : Nat := match (s.lane l).prbs with | some (f, n) => s.bitsSince l f - n | none => 0

/-- LANE_PRBS_BITS as it reads: 48 bits, saturating (R322). -/
def State.prbsCount (s : State) (l : Nat) : Nat := min (s.rd64 (Reg.LANE_PRBS_BITS l) + s.prbsBits l) (2 ^ 48 - 1)

/-- The checker's count is kept in the register (R322). -/
def State.prbsKeep (s : State) (l : Nat) : State :=
  if (s.lane l).prbs.isSome then
    (s.wr64 (Reg.LANE_PRBS_BITS l) (s.prbsCount l)).setLane l { s.lane l with prbs := none }
  else s

/-- A checker that runs from now on synchronises first on 64 bits without error (R322). Errors on a line are the environment's, and no
row brings them (log 105). -/
def State.prbsStart (s : State) (l : Nat) : State :=
  if s.prbsOn l then s.setLane l { s.lane l with prbs := some (s.fNow, 64) } else s

/-- The partner grants our request (R321). -/
def loopGrant (l : Nat) (s : State) : State :=
  if (s.lane l).loop = 1 then (s.setLane l { s.lane l with loop := 2 }).prbsStart l else s

/-- The partner refuses our request (R321). -/
def loopRefuse (l : Nat) (s : State) : State :=
  if (s.lane l).loop = 1 then (s.setLane l { s.lane l with loop := 0 }).flag (F.LANE_STATUS_LOOP_REFUSED l) else s

/-- The partner ends its loop (R321). -/
def loopEnd (l : Nat) (s : State) : State :=
  if (s.lane l).loop = 3 then (s.setLane l { s.lane l with loop := 0 }).laneReturns l else s

end Sys2Proof.Machine
end

