-- ==== Sys2Proof/Machine/Link.lean ====
section
/-! DEFINITION. Frames and link blocks as they arrive (R260–R268, R291–R294, R308–R313, R323, R404–R407). -/

namespace Sys2Proof.Machine

/-! Failures of a session (R403, R405, R407). -/

/-- A port's fail level rises by 1; at the limit the port enters SAFE: held in DOWN (R407). -/
def State.portFail (s : State) (p : Nat) : State :=
  let n := min 255 (s.get (F.HALL_PORT_LEVEL p) + 1)
  let s1 := s.put (F.HALL_PORT_LEVEL p) n
  if atLeast1 (s.get F.HALL_POLICY_FAIL_LIMIT) ≤ n ∧ bitsOf (s.rd Reg.HALL_PORT_SAFE) p 1 = 0 then
    ((s1.wr Reg.HALL_PORT_SAFE (setBits (s.rd Reg.HALL_PORT_SAFE) p 1 1)).portDown p).alert .warn Reg.HALL_PORT_SAFE p 0 0 0
  else s1

/-! Frames not accepted (R311). -/

/-- A NAK leaves, once until the expected SEQ arrives (R311). -/
def State.nak (s : State) (p v : Nat) : State :=
  let q := s.port p
  let c := q.vc v
  if c.nakked then s else (s.setPort p (q.setVc v { c with nakked := true })).block p 0xB5 (v + c.rxSeq * 256)

/-- A frame is discarded: its credit returns, and NAK is sent (R308, R311). -/
def State.discard (s : State) (p v n : Nat) : State := if v < 3 then (s.giveCredit p v n).nak p v else s

/-- The place of the CRC in a frame of `n` bytes. -/
def crcAt (n : Nat) (tagged : Bool) : Nat := n - 4 - b2n tagged * 8

/-- A frame's LENGTH is its length, its CRC is in it and correct (R260, R311). -/
def crcOk (bs : List Byte) : Bool :=
  let tagged := decide (bitsOf (byteField bs 12 2) 0 1 = 1)
  decide (byteField bs 6 2 % 8192 = bs.length ∧ bs.length ≤ 4096 ∧ 20 + b2n tagged * 8 ≤ bs.length) &&
    decide (crc32c (bs.take (crcAt bs.length tagged)) = byteField bs (crcAt bs.length tagged) 4)

/-- The counter of a tagged frame from its low 16 bits and the last accepted one (R405). -/
def recoverCtr (last low : Nat) : Nat :=
  let d := (low + 2 ^ 16 - last % 2 ^ 16) % 2 ^ 16
  if 2 ^ 15 ≤ d then last + d - 2 ^ 16 else last + d

/-- A tag is right under a key whose last accepted counter is `k.ctr`: the recovered counter (R404, R405). -/
def tagUnder (k : DirKey) (bs : List Byte) : Option Nat :=
  let ctr := recoverCtr k.ctr (byteField bs 14 2)
  if hopTag k ctr (bs.take (bs.length - 8)) = bs.drop (bs.length - 8) then some ctr else none

/-- The session of a port after a tagged frame on channel `v` has passed, or none where its tag fails (R405, R406). -/
def Sess.accept (x : Sess) (v : Nat) (bs : List Byte) : Option Sess :=
  let fl := byteField bs 12 2
  let keep : DirKey → Option Nat → Option DirKey := fun k o => o.map (fun c => { k with ctr := c })
  match x.rx with
  | none => some x
  | some k =>
    if bitsOf fl 0 1 = 0 then none
    else if bitsOf fl 1 1 = x.rxPhase then
      match keep k (tagUnder k bs) with
      | none => none
      | some k1 =>
        let moved := if x.rxOld.isSome ∧ ¬ x.movedVc.contains v then v :: x.movedVc else x.movedVc
        if 3 ≤ moved.length then some { x with rx := some k1, rxOld := none, movedVc := [] }
        else some { x with rx := some k1, movedVc := moved }
    else
      match x.rxNew, x.rxOld with
      | some n, _ =>
        (keep n (tagUnder n bs)).map (fun n1 =>
          { x with rx := some n1, rxNew := none, rxOld := some k, rxPhase := 1 - x.rxPhase, movedVc := [v] })
      | none, some o => (keep o (tagUnder o bs)).map (fun o1 => { x with rxOld := some o1 })
      | none, none => none

/-- A tag fails (R405, R407): handled like a CRC error, counted and flagged, and the port's fail level rises. -/
def State.tagFails (s : State) (p v n : Nat) : State :=
  let s1 := (((s.discard p v n).inc Reg.HALL_TAG_FAIL_CNT).flag F.HALL_STATUS_TAG_FAIL).warn F.HALL_STATUS_TAG_FAIL p
  s1.portFail p

/-! Accepted frames. -/

/-- Bytes of the VC1 message with a code; 0 for an unknown code (R261). -/
def msgLen (code : Nat) : Nat :=
  if code = 1 ∨ code = 4 ∨ code = 5 ∨ code = 6 then 16 else if code = 2 then 12 else if code = 3 then 4 else 0

/-- A MSG payload holds an unknown code (R261); at most `k` messages. -/
def badMsgs : Nat → List Byte → Bool
  | 0, _ => false
  | k + 1, bs =>
    match bs with
    | [] => false
    | b :: _ => if msgLen b.toNat = 0 ∨ bs.length < msgLen b.toNat then true else badMsgs k (bs.drop (msgLen b.toNat))

/-- A VC0 message code is known; the member messages travel only on the clasp link (R325). -/
def vc0Known (clasp : Bool) (m : Nat) : Bool :=
  decide ((0x10 ≤ m ∧ m ≤ 0x16) ∨ (0x18 ≤ m ∧ m ≤ 0x1A) ∨ m = 0x20 ∨ (0x30 ≤ m ∧ m ≤ 0x35) ∨ m = 0x37 ∨ m = 0x38) ||
    (clasp && decide (0x40 ≤ m ∧ m ≤ 0x49))

/-- A CTRL payload holds an unknown code or a LEN that runs past the frame (R325); at most `k` messages. -/
def badCtrl (clasp : Bool) : Nat → List Byte → Bool
  | 0, _ => false
  | k + 1, bs =>
    if bs.isEmpty then false
    else
      let n := byteField bs 1 1 * 4
      if bs.length < 8 ∨ n < 8 ∨ bs.length < n ∨ vc0Known clasp (byteField bs 0 1) = false then true
      else badCtrl clasp k (bs.drop n)

/-- A frame is accepted on its channel: the next SEQ is expected and ACK is sent (R310, R311). -/
def State.acceptSeq (s : State) (p v : Nat) : State :=
  let q := s.port p
  let c := q.vc v
  (s.setPort p (q.setVc v { c with rxSeq := (c.rxSeq + 1) % 2 ^ 16, nakked := false })).block p 0xB4 (v + c.rxSeq * 256)

/-- After a failed rekey the old key serves 2^32 frames more in either direction; then the port goes DOWN (R406). -/
def State.keyEnds (s : State) (p : Nat) : State :=
  let x := (s.port p).sess
  let at' : Option DirKey → Nat := fun k => match k with | some k => k.ctr | none => 0
  if x.ends.any (fun e => decide (e.1 ≤ at' x.tx ∨ e.2 ≤ at' x.rx)) then s.portLost p else s

/-- Channel of a TYPE, or none for a reserved TYPE (R261). -/
def vcOfType (typ : Nat) : Option Nat :=
  if typ = 1 then some 2 else if typ = 2 then some 1 else if typ = 3 ∨ typ = 4 then some 0 else none

/-- What an accepted frame's payload does: pieces go to the receive stage and on; the messages of a frame that is consumed
are commands of their own, and the frame's credit returns (R261–R268, R308, R325, R331). -/
def State.takePayload (s : State) (p v typ stream n : Nat) (pl : List Byte) : State :=
  if vcOfType typ ≠ some v then (s.inc Reg.FRAG_RX_MALFORMED_CNT).giveCredit p v n
  else if 0 < v ∧ (s.port p).refused then s.giveCredit p v n
  else if v = 2 then
    match (if s.portKind p = 3 then parsePieces stream pl.length pl else some []) with
    | none => (s.inc Reg.FRAG_RX_MALFORMED_CNT).giveCredit p v n
    | some ps =>
      rxStageAdmit p (s.setPort p { s.port p with stage := (s.port p).stage ++ [{ units := n, pieces := ps }] })
  else
    let s1 := if typ = tyMsg ∧ badMsgs pl.length pl then s.inc Reg.FRAG_RX_MALFORMED_CNT
      else if typ = tyCtrl ∧ badCtrl (decide (s.portKind p = 4)) pl.length pl then s.inc Reg.TREE_UNROUTABLE_CNT
      else s
    s1.giveCredit p v n

/-! Far-end loop traffic (R323). -/

/-- The whole fragments of a test frame that fail: each is decoded and its trailer checked (R282, R323). -/
def loopErrors (pl : List Byte) : Nat :=
  match parsePieces 0 pl.length pl with
  | none => 1
  | some ps => (ps.filter (fun pc => pc.first && pc.last && (match fragNugs pc.bytes with
      | some (_, gs) => !trailerOk pc.bytes gs
      | none => true))).length

/-- A returned test frame (R323): its failures are counted, and nothing enters the buffer. -/
def loopFrame (p : Nat) (bs : List Byte) (s : State) : State :=
  if ¬ crcOk bs then s.inc (Reg.PORT_LOOP_ERR_CNT p)
  else s.incBy (Reg.PORT_LOOP_ERR_CNT p) (loopErrors ((bs.drop 16).take (bs.length - 20)))

/-! Rows. -/

/-- A whole frame arrives (R260–R268, R311, R404–R407): `loop` says that a lane in far-end loop returned it (R323). -/
def frameReceived (p : Nat) (loop : Bool) (bs : List Byte) (s0 : State) : State :=
  if loop then loopFrame p bs s0
  else if s0.portState p ≠ 5 ∧ s0.portState p ≠ 6 then s0
  else
    let s := s0.eqTrack p
    let v := byteField bs 1 1 % 4
    let n := units bs.length
    let q := s.port p
    if ¬ crcOk bs then (s.inc (Reg.PORT_CRC_ERR_CNT p)).discard p v n
    else if v = 3 then s.inc Reg.FRAG_RX_MALFORMED_CNT
    else if byteField bs 4 2 ≠ (q.vc v).rxSeq then (s.inc (Reg.PORT_SEQ_ERR_CNT p)).discard p v n
    else
      match q.sess.accept v bs with
      | none => s.tagFails p v n
      | some x =>
        let tagged := decide (bitsOf (byteField bs 12 2) 0 1 = 1)
        let s1 := (s.setPort p { q with sess := x }).acceptSeq p v
        (s1.takePayload p v (byteField bs 0 1) (byteField bs 1 1 / 16) n
          ((bs.drop 16).take (crcAt bs.length tagged - 16))).keyEnds p

/-- An unknown control block, or a data block with no frame open (R291, R292). -/
def badControlBlock (p : Nat) (s : State) : State := s.inc (Reg.PORT_BAD_BLOCK_CNT p)

/-- ABORT ends the frame in progress on channel `v`, of which the header named `len` bytes: its credit returns and its SEQ is
not consumed (R294). -/
def abortBlock (p v len : Nat) (s : State) : State := if v < 3 then s.giveCredit p v (units len) else s

/-- SUSPEND (R293); a link below L2 has none. -/
def suspendBlock (p v : Nat) (s : State) : State :=
  if s.portVersion p < 2 then s else s.setPort p { s.port p with susp := some v }

/-- RESUME (R293). -/
def resumeBlock (p v : Nat) (s : State) : State :=
  if (s.port p).susp = some v then s.setPort p { s.port p with susp := none } else s

/-- CREDIT (R309): the cumulative units of a channel; what waits for credit goes out. -/
def creditBlock (p v cum : Nat) (s : State) : State :=
  if v < 3 then
    let q := s.port p
    (s.setPort p (q.setVc v { q.vc v with cum := cum % 2 ^ 16 })).sendOn p
  else s

/-- Every 4,096 blocks the receiver sends CREDIT for each channel (R309). -/
def creditRefresh (p : Nat) (s : State) : State :=
  if s.portUp? p then
    [0, 1, 2].foldl (fun s v => s.block p 0xAA (v + ((s.port p).vc v).given * 256)) s
  else s

/-- ACK (R310, R339). -/
def ackBlock (p v seq : Nat) (s : State) : State := if v < 3 then (s.ackTo p v seq).keyEnds p else s

/-- Every lane of a port re-runs TRAIN at the operating rate, frames waiting until it has, and the port takes one strike (R312). -/
def State.portRetrain (s : State) (p : Nat) : State :=
  let t := s.setPort p { s.port p with retrain := true }
  ((s.port p).lanes.foldl (fun s l => s.put (F.LANE_STATUS_ADAPT l) 0) t).strikePort p

/-- F-cycles in which `n` blocks pass on a lane of the port (R286, R289). -/
def State.blockTime (s : State) (p n : Nat) : Nat := ceilDiv (n * 66 * atLeast1 (s.port p).rate.2) (atLeast1 (s.port p).rate.1)

/-- The frames of a channel from a SEQ on are sent again, in order; one whose transmissions would exceed LIMIT + 1 first
makes the port retrain (R312). -/
def State.resendFrom (s : State) (p v seq : Nat) : State :=
  let due : TxFrame → Bool := fun f => decide (f.vc = v) && seqLe seq f.seq
  let ovl := (s.port p).replay.any (fun f => due f && decide (s.get (F.PORT_REPLAY_LIMIT p) < f.sends))
  let s1 := s.setPort p { (s.port p).setVc v { (s.port p).vc v with since := s.fNow } with
    replay := (s.port p).replay.map (fun (f : TxFrame) => if due f then { f with again := true } else f) }
  (if ovl then s1.portRetrain p else s1).sendOn p

/-- NAK (R312). -/
def nakBlock (p v seq : Nat) (s : State) : State := if v < 3 then s.resendFrom p v seq else s

/-- The oldest frame of a channel has waited TMO blocks for its ACK, 0 acting as 1 (R312). -/
def replayTimeout (p v : Nat) (s : State) : State :=
  match (s.port p).replay.find? (fun f => decide (f.vc = v)) with
  | none => s
  | some f =>
    let due := ((s.port p).vc v).since + s.blockTime p (atLeast1 (s.get (F.PORT_REPLAY_TMO p)))
    s.reachF due (fun s => s.resendFrom p v f.seq)

end Sys2Proof.Machine
end

