-- ==== Sys2Proof/Machine/Session.lean ====
section
/-! DEFINITION. Sessions of the Hallmark as operations (R388–R390, R401–R403, R408): the messages, their checks, the keys
they give, and the opening of link and end-to-end sessions. -/

namespace Sys2Proof.Machine

/-! The die's own identity (R388–R390, R396). -/

/-- Bytes padded with zeros, or cut, to `n`. -/
def padTo (n : Nat) (bs : List Byte) : List Byte := (bs ++ List.replicate (n - bs.length) 0).take n

/-- HALL_SERIAL (R390). -/
def State.serial (s : State) : List Byte := padTo 8 s.fuse.serial
/-- HALL_ENDORSE (R390). -/
def State.endorse (s : State) : List Byte := padTo 64 s.fuse.endorse
/-- HALL_OWNER, 0 while unclaimed (R396, R400). -/
def State.ownerHash (s : State) : List Byte := padTo 32 s.fuse.owner
/-- HALL_FUSE_DIGEST (R389). -/
def State.fuseHash (s : State) : List Byte := padTo 32 s.fuse.fuseDigest
/-- Bytes of a register area of `n` words. -/
def State.wordBytes (s : State) (a n : Nat) : List Byte := (List.range n).flatMap (fun i => leBytes 4 (s.rd (a + 4 * i)))
/-- HALL_DIGEST (R399). -/
def State.digest (s : State) : List Byte := s.wordBytes (Reg.HALL_DIGEST) 8
/-- The die is claimed; a broken claim counts as none (R396, R397). -/
def State.claimed? (s : State) : Bool := s.fuse.claimed

/-! Messages (R401). -/

/-- The random bytes of a draw. -/
def drawn (k n : Nat) : List Byte := padTo n (Config.freeBytes k n)

/-- A HELLO with the nonce of one draw and the ephemeral key of the next (R401). -/
def State.helloMsg (s : State) (k : Nat) : List Byte :=
  leBytes 1 1 ++ leBytes 1 (s.get F.HALL_AUTH_MODE) ++ leBytes 2 0 ++ s.serial ++ drawn k 32
    ++ padTo 64 (Config.pubOf (drawn (k + 1) 32)) ++ padTo 64 (Config.pubOf Config.identity) ++ s.endorse ++ s.ownerHash
    ++ s.fuseHash

/-- A session begins with the die's own HELLO, from two fresh draws. -/
def State.newHello (s : State) (x : Sess) : List Byte × Sess × State :=
  let m := s.helloMsg s.free
  (m, { x with mine := m, eph := some (s.free + 1) }, { s with free := s.free + 2 })

/-- Bytes `o … o+n-1`. -/
def slice (bs : List Byte) (o n : Nat) : List Byte := (bs.drop o).take n

/-- H of a session: the drift side's HELLO, then the shaft side's (R401). -/
def Sess.hash (x : Sess) (drift : Bool) : List Byte :=
  Config.sha256 (if drift then x.mine ++ x.peer else x.peer ++ x.mine)

/-- A PROOF (R401). -/
def State.proofMsg (s : State) (x : Sess) (drift : Bool) : List Byte :=
  let m := leBytes 1 2 ++ leBytes 3 0 ++ leBytes 4 s.fuse.boots ++ s.digest
  m ++ padTo 64 (Config.ecdsaSign Config.identity (x.hash drift ++ m))

/-- k(p) (R402). -/
def Sess.kdf (x : Sess) (drift : Bool) (p : Nat) : List Byte :=
  let z := match x.eph with | some k => Config.ecdh (drawn k 32) (slice x.peer 44 64) | none => []
  padTo 32 (Config.sha256 ([0, 0, 0, 1] ++ z ++ x.hash drift ++ leBytes 1 p))

/-- The traffic key and salt of a side (R402). -/
def Sess.traffic (x : Sess) (drift side : Bool) : DirKey :=
  let k := x.kdf drift (if side then 1 else 2)
  { key := k.take 16, salt := slice k 16 4 }

/-- The keys are derived, and the ephemeral secret goes (R402). -/
def Sess.derive (x : Sess) (drift : Bool) : Sess :=
  { x with
    dTx := some (x.traffic drift drift)
    dRx := some (x.traffic drift (!drift))
    confTx := (x.kdf drift (if drift then 0x11 else 0x12)).take 16
    confRx := (x.kdf drift (if drift then 0x12 else 0x11)).take 16
    eph := none }

/-- A FINISH under a confirm key (R401). -/
def finishMsg (conf h : List Byte) : List Byte := leBytes 1 3 ++ leBytes 7 0 ++ padTo 8 (Config.cmac conf h)

/-- A FAIL with its reason: 1 SIGNATURE, 2 ENDORSE, 3 OWNER, 4 POLICY, 5 CONFIRM, 6 TIMEOUT (R401). -/
def failMsg (reason : Nat) : List Byte := leBytes 1 4 ++ leBytes 1 reason ++ leBytes 2 0

/-! Checks (R402). -/

/-- The reason for which a HELLO fails, 0 for none (R402). -/
def State.helloFails (s : State) (m : List Byte) : Nat :=
  if ¬ Config.ecdsaVerify Config.production (slice m 4 8 ++ slice m 108 64) (slice m 172 64) then 2
  else if slice m 236 32 ≠ s.ownerHash then 3
  else if byteField m 1 1 % 4 < s.get F.HALL_POLICY_MIN_AUTH then 4
  else 0

/-- A PROOF verifies with the partner's identity key (R402). -/
def Sess.proofOk (x : Sess) (drift : Bool) (m : List Byte) : Bool :=
  Config.ecdsaVerify (slice x.peer 108 64) (x.hash drift ++ m.take 40) (slice m 40 64)

/-- A FINISH verifies (R402). -/
def Sess.finishOk (x : Sess) (drift : Bool) (m : List Byte) : Bool :=
  decide (x.dRx ≠ none) && decide (slice m 8 8 = padTo 8 (Config.cmac x.confRx (x.hash drift)))

/-- What a failed attempt leaves of a session: its keys in force. -/
def Sess.drop (x : Sess) : Sess :=
  { x with mine := [], peer := [], eph := none, confTx := [], confRx := [], dTx := none, dRx := none }

/-! Link sessions (R401, R403). -/

/-- An AUTH frame. -/
def State.sendAuth (s : State) (p : Nat) (m : List Byte) : State := s.queueFrame p 0 tyAuth m

/-- `HALL_PORT.SESSION` of a port. -/
def State.sessState (s : State) (p : Nat) : Nat := s.get (F.HALL_PORT_SESSION p)

/-- A port sends its HELLO (R401). -/
def State.sendHello (s : State) (p : Nat) : State :=
  let (m, x, s1) := s.newHello (s.port p).sess
  ((s1.setPort p { s1.port p with sess := { x with since := s.fNow } }).sendAuth p m).put (F.HALL_PORT_SESSION p) 1

/-- The virtual channels of a port start afresh (R309, R313). -/
def State.startVcs (s : State) (p : Nat) : State :=
  let q := s.port p
  s.setPort p { q with v0 := {}, v1 := {}, v2 := { start := q.peerVc2 }, replay := [], waiting := [], stage := [] }

/-- A port enters AUTH (R314, R401). -/
def State.toAuth (s : State) (p : Nat) : State := ((s.put (F.PORT_STATUS_STATE p) 5).startVcs p).sendHello p

/-- A session attempt fails (R403, R406, R407): counted and flagged; a rekey keeps the old keys and is tried again, and a
port still in AUTH goes DOWN and waits. -/
def State.authFails (s : State) (p : Nat) : State :=
  let s1 := ((s.inc Reg.HALL_AUTH_FAIL_CNT).flag F.HALL_STATUS_AUTH_FAIL).warn F.HALL_STATUS_AUTH_FAIL p
  if s.portUp? p then
    let x := (s.port p).sess
    let ends := match x.ends with
      | some e => some e
      | none => some ((match x.tx with | some k => k.ctr | none => 0) + 2 ^ 32,
                      (match x.rx with | some k => k.ctr | none => 0) + 2 ^ 32)
    ((s1.setPort p { s1.port p with sess := { x.drop with redo := true, ends := ends } }).put (F.HALL_PORT_SESSION p) 4).portFail p
  else
    let s2 := s1.portDown p
    (s2.setPort p { s2.port p with sess := { retry := true, since := s.fNow } }).portFail p

/-- A check fails: FAIL with its reason is sent, and the attempt ends (R402, R403). -/
def State.failWith (s : State) (p reason : Nat) : State := (s.sendAuth p (failMsg reason)).authFails p

/-! End-to-end sessions (R408). -/

/-- Bytes of an end-to-end message: code 0x30 for HELLO … 0x33 for FAIL (R325). -/
def State.e2eMsg (s : State) (dst : Nat) (m : List Byte) : List Byte := vc0Bytes (0x2F + byteField m 0 1) dst s.dieNo 0 m

/-- A claimed die opens an end-to-end session with its root (R408). -/
def State.e2eOpen (s : State) : State :=
  if s.claimed? ∧ ¬ s.isRoot then
    let (m, x, s1) := s.newHello s.hall.e2e
    { s1 with hall := { s1.hall with e2e := x } }.sendUp0 (s.e2eMsg dstRoot m)
  else s

/-- The key that a root holds for an origin (R408). -/
def State.e2eKeyOf (s : State) (o : Nat) : Option E2eKey := s.hall.keys.find? (fun k => decide (k.origin = o))

/-- The session that a root is opening with an origin. -/
def State.opening (s : State) (o : Nat) : Option Sess := (s.hall.opening.find? (fun e => decide (e.1 = o))).map (fun e => e.2)

/-- Hold the session that a root is opening with an origin; none ends it. -/
def State.setOpening (s : State) (o : Nat) (x : Option Sess) : State :=
  let rest := s.hall.opening.filter (fun e => decide (e.1 ≠ o))
  { s with hall := { s.hall with opening := match x with | some v => (o, v) :: rest | none => rest } }

/-- E2E_RESTART to an origin, at most once an orbit (R408). -/
def State.e2eRestart (s : State) (o : Nat) : State :=
  if s.hall.restarted.contains o then s
  else ({ s with hall := { s.hall with restarted := o :: s.hall.restarted } }).sendTo o (vc0Bytes 0x34 o s.dieNo 0 [])

end Sys2Proof.Machine
end

