-- ==== Sys2Proof/Machine/Tree.lean ====
section
/-! DEFINITION. The read-out tree (R324–R341): routing of VC0 messages, numbering, dual homing and witnesses. -/

namespace Sys2Proof.Machine

/-! Routing (R326–R328, R334). -/

/-- A message that only the port in use takes: one on the other shaft port is discarded and counted (R334). -/
def inUse (p : Nat) (k : State → State) (s : State) : State :=
  if s.otherShaft = some p then s.inc Reg.TREE_ALT_DISCARD_CNT else k s

/-- The die number that a message's DST names is this die's. -/
def State.isMine (s : State) (dst : Nat) : Bool :=
  decide (dst = dstPeer) || (s.on F.TREE_ID_NUMBERED && decide (dst = s.get F.TREE_ID_DIE)) || (s.isRoot && decide (dst = dstRoot))

/-- CFG_RESP with a status, three bytes of detail and a data word (R327). -/
def cfgRespBody (status detail data : Nat) : List Byte := leBytes 1 status ++ leBytes 3 detail ++ leBytes 4 data

/-- The drift port where a number is, or was when last routed (R328). -/
def State.placeOfDie (s : State) (die : Nat) : Option Nat :=
  match s.routePort die with
  | some p => some p
  | none => (s.tree.lastDie.find? (fun e => decide (e.1 = die))).map (fun e => e.2)

/-- The child on a drift port cannot be reached (R328). -/
def State.unreachable (s : State) (p : Nat) : Bool := !s.portUp? p || !s.kidJoined p

/-- What a sender on this die learns before a request for a die leaves: none where it can be sent, else STATUS and detail
(R326–R328). -/
def State.requestFails (s : State) (dst : Nat) : Option (Nat × Nat) :=
  match s.placeOfDie dst with
  | some p => if s.unreachable p then some (4, s.portState p + b2n (!s.kidJoined p) * 2 ^ 8) else none
  | none => if s.isRoot then some (3, 0) else none

/-- Message codes that ask for an answer (R325). -/
def isRequest (m : Nat) : Bool := decide (m = 0x18 ∨ m = 0x19 ∨ m = 0x35 ∨ m = 0x37)

/-- An answer to a request goes back to its SRC (R327). -/
def State.answer (s : State) (src tag status detail data : Nat) : State :=
  s.sendTo src (vc0Bytes 0x1A src s.dieNo tag (cfgRespBody status detail data))

/-- A VC0 message leaves by a port, never by the one it came on (R326). -/
def State.passOn (s : State) (from' out : Nat) (bs : List Byte) : State :=
  if out = from' then s.inc Reg.TREE_UNROUTABLE_CNT else s.sendVc0 out bs

/-- A VC0 message that this die does not consume (R326–R328, R334, R335). -/
def vc0Route (p : Nat) (bs : List Byte) (s : State) : State :=
  let m := byteField bs 0 1
  let dst := byteField bs 2 2 % 1024
  let src := byteField bs 4 2 % 1024
  let tag := byteField bs 6 2
  if s.otherShaft = some p ∧ m ≠ 0x11 ∧ m ≠ 0x16 then s.inc Reg.TREE_ALT_DISCARD_CNT
  else if s.isMine dst then s
  else
    let up : State :=
      if s.isRoot then s
      else if s.upPorts.contains p then s.inc Reg.TREE_UNROUTABLE_CNT
      else s.sendUpTo dst bs
    if dst = dstRoot then up
    else
      match s.placeOfDie dst with
      | some q =>
        if s.unreachable q then
          if isRequest m then
            (s.inc Reg.TREE_PARENT_ANSWER_CNT).answer src tag 4 (s.portState q + b2n (!s.kidJoined q) * 2 ^ 8) 0
          else s
        else s.passOn p q bs
      | none => if s.isRoot then (if isRequest m then s.answer src tag 3 0 0 else s) else up

/-! Numbering (R329–R333). -/

/-- NEW_CHILD (R325). -/
structure NewChild where
  src   : Nat
  tag   : Nat
  drift : Nat
  ptype : Nat
  role  : Nat
  die   : Nat
  hint  : Nat

/-- The bytes of a NEW_CHILD. -/
def NewChild.bytes (c : NewChild) : List Byte :=
  vc0Bytes 0x10 dstRoot c.src c.tag
    (leBytes 1 c.drift ++ leBytes 1 (c.ptype % 4 + c.role % 4 * 4) ++ leBytes 2 c.die ++ leBytes 2 c.hint)

/-- ASSIGN (R325). -/
structure Assign where
  dst   : Nat
  src   : Nat
  tag   : Nat
  drift : Nat
  alt   : Bool
  dup   : Bool
  level : Nat
  die   : Nat
  root  : Nat

/-- The bytes of an ASSIGN. -/
def Assign.bytes (a : Assign) : List Byte :=
  vc0Bytes 0x11 a.dst a.src a.tag
    (leBytes 1 a.drift ++ leBytes 1 (b2n a.alt + b2n a.dup * 2 + a.level * 16) ++ leBytes 2 a.die ++ leBytes 2 a.root)

/-- HOME to the die at the other end of a drift (R325, R335, R349); bit 1 of byte 12 carries DUP (log 19). -/
def State.sendHome (s : State) (p : Nat) (promote dup : Bool) : State :=
  let peer := if s.get F.CLASP_STATUS_STATE = 0 then 0x3FF else s.get F.CLASP_PEER_DIE
  s.sendVc0 p (vc0Bytes 0x16 dstPeer s.dieNo 0 (leBytes 2 s.dieNo ++ leBytes 2 peer ++ leBytes 1 (b2n promote + b2n dup * 2)))

/-- HOME with DUP puts a die below this root into duplication (R335), and W follows (R341). -/
def State.homeDup (s : State) (die : Nat) : State :=
  match s.drifts.find? (fun p => decide ((s.port p).kid = die) && s.portUp? p) with
  | none => s
  | some p =>
    let s1 := s.sendHome p false true
    let ds := if s.tree.dups.contains die then s.tree.dups else die :: s.tree.dups
    { s1 with tree := { s1.tree with dups := ds } }

/-- W: dies to which HOME with DUP was sent and whose links are UP (R341). -/
def State.witnesses (s : State) : Nat :=
  (s.tree.dups.filter (fun d => s.driftsUp.any (fun p => decide ((s.port p).kid = d)))).length

/-- The number is recorded against a drift (R330, R333): an alternate one only where no route stands. -/
def State.recordRoute (s : State) (die drift : Nat) (alt : Bool) : State :=
  if alt ∧ s.routeOf die ≠ 0xF then s
  else
    let s1 := s.put (F.TREE_ROUTE_DRIFT (die % 1024)) drift
    { s1 with tree := { s1.tree with lastDie := s1.tree.lastDie.filter (fun e => decide (e.1 ≠ die)) } }

/-- A parent takes the ASSIGN of its child (R330): it records the number and passes the ASSIGN on with DST 0x3FD. -/
def State.assignChild (s : State) (a : Assign) : State :=
  match s.driftPort a.drift with
  | none => s
  | some p =>
    let s1 := s.recordRoute a.die a.drift a.alt
    let s2 := s1.setPort p { s1.port p with kid := a.die, asked := false }
    let s3 := s2.sendVc0 p ({ a with dst := dstPeer }).bytes
    if s.isRoot ∧ a.dup then s3.homeDup a.die else s3

/-- An ASSIGN on its way down: the number is recorded against the drift it leaves on (R330). -/
def State.assignDown (s : State) (a : Assign) : State :=
  if s.isMine a.dst then s.assignChild a
  else
    match s.routePort a.dst with
    | some p => (s.recordRoute a.die (s.routeOf a.dst) a.alt).sendVc0 p a.bytes
    | none => s

/-- The parent of a refused partner (R331): flag, reason, alert; the partner carries nothing above VC0. -/
def State.refuseChild (s : State) (drift reason : Nat) : State :=
  match s.driftPort drift with
  | none => s
  | some p =>
    let s1 := s.setPort p { s.port p with asked := false, refused := true }
    ((s1.flag F.TREE_STATUS_REFUSED).put F.TREE_STATUS_REFUSE_REASON reason).warn F.TREE_STATUS_REFUSED reason

/-- The root answers REFUSE (R331). -/
def State.refuse (s : State) (c : NewChild) (reason : Nat) : State :=
  let s1 := s.inc Reg.TREE_REFUSE_CNT
  if s.isMine c.src then s1.refuseChild c.drift reason
  else s1.sendTo c.src (vc0Bytes 0x12 c.src s.dieNo c.tag (leBytes 1 c.drift ++ leBytes 1 reason))

/-- The entry of a die in a root's table. -/
def State.joinOf (s : State) (die : Nat) : Option Join := s.tree.joins.find? (fun j => decide (j.die = die))

/-- The die's place in the root's table lies under the clasp peer's drift ports, within `k` levels (R342). -/
def State.underPeer (s : State) : Nat → Nat → Bool
  | 0, _ => false
  | k + 1, die => match s.joinOf die with
    | some j => decide (j.parent = s.get F.CLASP_PEER_DIE) || s.underPeer k j.parent
    | none => false

/-- A die reached through the root's tables holds the number (R332): by a route of this root, or under the clasp peer. -/
def State.numberHeld (s : State) (n : Nat) : Bool :=
  decide (s.routeOf n ≠ 0xF) || (s.on F.CLASP_CTRL_ENABLE && s.underPeer 5 n)

/-- A number is free (R332): no die reached through the root's tables holds it, and it is no root's own. -/
def State.numberFree (s : State) (n : Nat) : Bool :=
  !s.numberHeld n && decide (n ≠ s.get F.TREE_ID_DIE) &&
    !(s.on F.CLASP_CTRL_ENABLE && decide (n = s.get F.TREE_RANGE_BASE ∨ n = s.get F.TREE_RANGE_BASE + 1))

/-- A number lies in the root's range (R329). -/
def State.inRange (s : State) (n : Nat) : Bool :=
  decide (s.get F.TREE_RANGE_BASE ≤ n ∧ n < s.get F.TREE_RANGE_BASE + s.get F.TREE_RANGE_COUNT)

/-- The root above a die in the root's table, which ASSIGN names (R325): the clasp peer for one under it, else this root. -/
def State.rootAbove (s : State) (die : Nat) : Nat :=
  if s.on F.CLASP_CTRL_ENABLE ∧ (die = s.get F.CLASP_PEER_DIE ∨ s.underPeer 5 die) then s.get F.CLASP_PEER_DIE else s.dieNo

/-- The two parents of a die are the members of this root's clasp pair (R335). -/
def State.pairParents (s : State) (a b : Nat) : Bool :=
  s.on F.CLASP_CTRL_ENABLE && decide (a ≠ b) && [a, b].all (fun n => s.isMine n || decide (n = s.get F.CLASP_PEER_DIE))

/-- The ASSIGN goes to the clasp peer where it names the peer, else down the tree (R330, R342). -/
def State.sendAssign (s : State) (a : Assign) : State :=
  if decide (a.dst = s.get F.CLASP_PEER_DIE) && s.on F.CLASP_CTRL_ENABLE && !s.isMine a.dst then s.sendVc0 15 a.bytes
  else s.assignDown a

/-- A die's entry in a root's table is written anew (R330). -/
def State.tableJoin (s : State) (j : Join) : State :=
  { s with tree := { s.tree with joins := j :: s.tree.joins.filter (fun x => decide (x.die ≠ j.die)) } }

/-- The level of a parent in the root's table: 1 for a root (R16, R330). -/
def State.levelOf (s : State) (die : Nat) : Option Nat :=
  if s.isMine die ∨ (s.on F.CLASP_CTRL_ENABLE ∧ die = s.get F.CLASP_PEER_DIE) then some 1
  else (s.joinOf die).map (fun j => j.level)

/-- ASSIGN leaves the root, which takes the die into its table (R330); one that joins again under its parent keeps its alternate
join, and with it duplication (R335). -/
def State.assign (s : State) (c : NewChild) (die level : Nat) : State :=
  let alt := (s.joinOf die).bind (fun j => if j.parent = c.src then j.alt else none)
  let a : Assign := { dst := c.src, src := s.dieNo, tag := c.tag, drift := c.drift, alt := false
                      dup := alt.any (s.pairParents c.src), level := level, die := die, root := s.rootAbove c.src }
  (s.tableJoin { die := die, parent := c.src, drift := c.drift, level := level, alt := alt }).sendAssign a

/-- ASSIGN of an alternate join (R333, R335). Where the two parents are the members of the pair, the shaft parent learns of it by
the same ASSIGN, and each of the two sends HOME with DUP (log 19). -/
def State.assignAlt (s : State) (c : NewChild) (j : Join) : State :=
  let dup := s.pairParents j.parent c.src
  let a : Assign := { dst := c.src, src := s.dieNo, tag := c.tag, drift := c.drift, alt := true, dup := dup
                      level := j.level, die := c.die, root := s.rootAbove c.src }
  let s1 := (s.tableJoin { j with alt := some c.src }).sendAssign a
  if dup then s1.sendAssign { a with dst := j.parent, drift := j.drift } else s1

/-- The root answers a NEW_CHILD while DISCOVER = 1 (R330–R333); one whose parent it does not know waits. -/
def State.rootNewChild (s : State) (c : NewChild) : State :=
  if ¬ s.on F.TREE_CTRL_DISCOVER then s
  else
    match s.levelOf c.src with
    | none => s
    | some l =>
      let level := l + 1
      if c.die ≠ 0x3FF ∧ c.ptype = 2 then
        match s.joinOf c.die with
        | none => s
        | some j => if j.level ≠ level then s.refuse c 4 else s.assignAlt c j
      else if 5 < level then s.refuse c 1
      else if c.die ≠ 0x3FF then
        let held : Bool := match s.joinOf c.die with
          | some j => decide (j.parent ≠ c.src ∨ (j.drift ≠ c.drift ∧ j.drift ≠ 0xF)) && decide (j.alt ≠ some c.src)
              && s.numberHeld c.die
          | none => false
        if held = true ∨ s.isMine c.die = true then s.refuse c 2 else s.assign c c.die level
      else
        let gone : Nat → Bool := fun n => match s.joinOf n with
          | some j => decide (j.parent = c.src ∧ j.drift = c.drift)
          | none => false
        let free : Nat → Bool := fun n => s.numberFree n || gone n
        if c.hint ≠ 0x3FF ∧ s.inRange c.hint ∧ free c.hint then s.assign c c.hint level
        else
          match ((List.range (s.get F.TREE_RANGE_COUNT)).map (fun k => s.get F.TREE_RANGE_BASE + k)).find? free with
          | some n => s.assign c n level
          | none => s.refuse c 2

/-- A member of a pair that is not its active one (R348): STANDBY, CHECK after it, DETACHED, SYNC or RETIRED. -/
def State.standsBy (s : State) : Bool :=
  let c := s.get F.CLASP_STATUS_STATE
  decide (c = 3 ∨ 5 ≤ c ∨ (c = 4 ∧ s.clasp.before = 3))

/-- The pair's active member alone numbers: a standby passes a NEW_CHILD to it, which without the clasp link goes nowhere
(R342). -/
def State.takeNewChild (s : State) (c : NewChild) : State :=
  if s.standsBy then s.sendVc0 15 c.bytes else s.rootNewChild c

/-- A parent reports a drift's partner (R330, R332): with HINT, the number it last held for that drift. A bench partner is
refused here (R30, R317), and an alternate one is reported where the link has DUAL_HOME (R333). -/
def State.newChild (s : State) (p : Nat) : State :=
  let q := s.port p
  let ptype := match q.set with | some t => t.ptype | none => 1
  if s.portKind p ≠ 3 ∨ ¬ s.portUp? p ∨ q.refused ∨ (ptype = 2 ∧ ¬ s.portFeat p 8) then s
  else if s.on (F.PORT_PARTNER_BENCH p) then (if s.isRoot then s.inc Reg.TREE_REFUSE_CNT else s).refuseChild (s.driftIndex p) 3
  else
    let s1 := s.setPort p { q with asked := true }
    if ¬ s.on F.TREE_ID_NUMBERED then s1
    else
      let c : NewChild := {
        src := s.dieNo, tag := 0, drift := s.driftIndex p
        ptype := ptype
        role := s.get (F.PORT_PARTNER_ROLE p), die := q.kid
        hint := ((s.tree.lastDie.find? (fun e => decide (e.2 = p))).map (fun e => e.1)).getD 0x3FF }
      if s.isRoot then s1.takeNewChild c else s1.sendUp0 c.bytes

/-- Unanswered NEW_CHILD messages go again at an orbit start (R330). -/
def State.newChildResend (s : State) : State :=
  s.drifts.foldl (fun s p => if (s.port p).asked then s.newChild p else s) s

/-- A port reaches UP (R314, R330, R332). `fresh` says that no AUTH frames have gone before. -/
def State.portUp (s : State) (p : Nat) (fresh : Bool) : State :=
  let s1 := (s.put (F.PORT_STATUS_STATE p) psUp).inc (Reg.PORT_LINKUP_CNT p)
  let s2 := if fresh then s1.startVcs p else s1
  let s3 := s2.setPort p { s2.port p with
    kid := s.get (F.PORT_PARTNER_DIE p), asked := false, refused := false, joined := false }
  (portWidthSet p s3).newChild p

/-! Rows of joining. -/

/-- NEW_CHILD reaches a root (R330–R333). -/
def newChildReceived (p src tag drift ptype role die hint : Nat) (s : State) : State :=
  if ¬ s.isRoot ∨ ¬ s.portUp? p then s
  else s.takeNewChild { src := src, tag := tag, drift := drift, ptype := ptype, role := role, die := die, hint := hint }

/-- Both shaft links have negotiated DUAL_HOME (R333). -/
def State.dualHome (s : State) : Bool := [s.mainShaft, s.altShaft].all (fun o => o.any (fun p => s.portFeat p 8))

/-- The child takes its number (R330, R450): a numbered die keeps its number until reset. An alternate join needs DUAL_HOME on
both shaft links (R333). -/
def State.takeNumber (s : State) (p : Nat) (a : Assign) : State :=
  let s1 := s.setPort p { s.port p with joined := true }
  if a.alt then (if s.dualHome then s1 else s)
  else if s.on F.TREE_ID_NUMBERED ∧ s.get F.TREE_ID_DIE ≠ a.die then s1
  else
    let s2 := ((s1.put F.TREE_ID_DIE a.die).put F.TREE_ID_LEVEL a.level).flag F.TREE_ID_NUMBERED
    let s3 := if s.get F.TREE_STATUS_USE = 0 then s2.put F.TREE_STATUS_USE (s.portKind p) else s2
    let s4 := s3.sendUp0 (vc0Bytes 0x13 dstRoot a.die 0 (leBytes 2 a.die ++ leBytes 2 24))
    (s4.driftsUp.foldl State.newChild s4).e2eOpen

/-- ASSIGN (R330, R333, R334, R450): the child loads its number, the parent records it and passes it on, and a die between
records it on its way down. A standby takes what its active assigns below it into its own table (R342). -/
def assignReceived (p dst src tag drift : Nat) (alt dup : Bool) (level die root : Nat) (s : State) : State :=
  let a : Assign := { dst := dst, src := src, tag := tag, drift := drift, alt := alt, dup := dup, level := level
                      die := die, root := root }
  if ¬ s.portUp? p then s
  else if dst = dstPeer ∧ (s.portKind p = 1 ∨ s.portKind p = 2) then s.takeNumber p a
  else if s.portKind p = 3 then s.inc Reg.TREE_UNROUTABLE_CNT
  else if s.portKind p = 4 then
    (if alt then s else s.tableJoin { die := die, parent := dst, drift := drift, level := level }).assignDown a
  else s.assignDown a

/-- REFUSE at the parent (R331). -/
def refuseReceived (p drift reason : Nat) (s : State) : State :=
  inUse p (fun s => if s.portUp? p then s.refuseChild drift reason else s) s

/-- JOINED reaches the root (R330). -/
def joinedReceived (s : State) : State := if s.isRoot then s.inc Reg.TREE_JOIN_CNT else s

/-- `TREE_CTRL.DISCOVER` takes effect (R329, R330): its first setting fixes the range and numbers the root, at level 1 (R16). -/
def discoverSet (s : State) : State :=
  if s.isRoot ∧ s.on F.TREE_CTRL_DISCOVER ∧ ¬ s.tree.fixed then
    let n := s.get F.TREE_RANGE_BASE + b2n (s.on F.CLASP_CTRL_ENABLE && s.on F.CLASP_STATUS_CLASP_ID)
    let s1 := { s with tree := { s.tree with fixed := true } }
    ((s1.put F.TREE_ID_DIE n).put F.TREE_ID_LEVEL 1).flag F.TREE_ID_NUMBERED
  else s

/-! Dual homing (R334–R339). -/

/-- The numbers at or below this die (R338). -/
def State.subtree (s : State) : List Nat :=
  (if s.on F.TREE_ID_NUMBERED then [s.get F.TREE_ID_DIE] else []) ++
    (List.range 1024).filter (fun n => decide (s.routeOf n ≠ 0xF))

/-- A subtree map of 128 bytes (R325). -/
def mapBytes (ns : List Nat) : List Byte := leBytes 128 (ns.foldl (fun m n => m ||| 2 ^ n) 0)

/-- The numbers of a subtree map. -/
def mapDies (bs : List Byte) : List Nat := let v := ofLE bs; (List.range 1024).filter (fun n => decide (bitsOf v n 1 = 1))

/-- A REHOMED or DETACH goes on up, unless an entry of its map already named another drift, or at a root (R338). -/
def State.mapUp (s0 s : State) (drift msg : Nat) (map : List Byte) : State :=
  if s0.isRoot ∨ (mapDies map).any (fun n => decide (s0.routeOf n ≠ 0xF ∧ s0.routeOf n ≠ drift)) then s
  else s.sendUp0 (vc0Bytes msg dstRoot s.dieNo 0 map)

/-- REHOMED (R338): the numbers of the map stand against the drift it came on; a root asks for the keys it lacks (R408). -/
def rehomedReceived (p : Nat) (map : List Byte) (s : State) : State :=
  if s.portKind p ≠ 3 ∨ ¬ s.portUp? p then s
  else
    let i := s.driftIndex p
    let ns := mapDies map
    let s1 := ns.foldl (fun s n => s.recordRoute n i false) s
    let s2 := if s.isRoot then
        ns.foldl (fun s n => if s.get F.HALL_AUTH_MODE = 2 ∧ (s.e2eKeyOf n).isNone then s.e2eRestart n else s) s1
      else s1
    State.mapUp s s2 i 0x14 map

/-- DETACH (R265, R338): the entries of the map that name the drift it came on are cleared, and the child's open units end. -/
def detachReceived (p : Nat) (map : List Byte) (s : State) : State :=
  if s.portKind p ≠ 3 ∨ ¬ s.portUp? p then s
  else
    let i := s.driftIndex p
    let ns := mapDies map
    let s1 := ns.foldl (fun s n => if s.routeOf n = i then s.put (F.TREE_ROUTE_DRIFT n) 0xF else s) s
    let s2 := if ns.contains (s.port p).kid then s1.abortPort p else s1
    State.mapUp s s2 i 0x15 map

/-- HOME (R335, R337): duplication under the two roots it names, or a switch to the port it came on. -/
def homeReceived (p : Nat) (promote dup : Bool) (root peer : Nat) (s : State) : State :=
  if (s.portKind p ≠ 1 ∧ s.portKind p ≠ 2) ∨ ¬ s.portUp? p then s
  else
    let s1 := if dup then
        { s.flag F.TREE_STATUS_DUP with tree := { s.tree with roots := [root, peer].filter (fun n => decide (n ≠ 0x3FF)) } }
      else s
    if promote ∧ s.otherShaft = some p then { s1 with tree := { s1.tree with switch := true } } else s1

/-- `TREE_CMD.REHOME` (R337). -/
def treeRehome (s : State) : State :=
  if s.otherShaft.isSome ∧ ¬ s.isRoot then { s with tree := { s.tree with switch := true } } else s

/-- A unit after a switch (R339): one whose last frame the old parent has acknowledged is not sent again; every other one
begun there goes again from its first piece. `uplink` is the old port's. -/
def rehomeUnit (uplink : Nat) (u : BUnit) : BUnit :=
  let open' := if uplink = 16 then u.seqA.isSome else u.seqB.isSome
  let u1 : BUnit := if u.left ∧ open' then { u with left := false } else u
  if uplink = 16 then { u1 with seqA := none } else { u1 with seqB := none }

/-- A die switches to its warm other shaft port (R337–R339, R452). -/
def shaftSwitch (s : State) : State :=
  match s.shaftPort, s.otherShaft with
  | some old, some new =>
    if s.tree.switch ∧ s.warm then
      let s1 := ((s.put F.TREE_STATUS_USE (s.portKind new)).inc Reg.TREE_REHOME_CNT).flag F.TREE_STATUS_REHOMED
      let s2 := if s.tree.lostDown then s1.strikeParent old else s1
      let s3 := if s2.isPending 9 (s.parentOf old) then { s2 with fault := { s2.fault with
        pending := s2.fault.pending.filter (fun k => decide (k ≠ unitKey 9 (s.parentOf old))) } } else s2
      let s4 := { s3 with
        tree := { s3.tree with switch := false, lostDown := false }
        phase := { s3.phase with thetas := s3.phase.altThetas, altThetas := [] }
        time := { s3.time with markerAge := 0 }
        buf := { s3.buf with units := s3.buf.units.map (fun u =>
          if s.on F.TREE_STATUS_DUP then u else rehomeUnit (s.uplinkOf old) u) } }
      let m := mapBytes s4.subtree
      let s5 := (s4.unflag F.TREE_STATUS_ALT_WARM).sendVc0 new (vc0Bytes 0x14 dstRoot s.dieNo 0 m)
      s5.sendVc0 old (vc0Bytes 0x15 dstRoot s.dieNo 0 m)
    else s
  | _, _ => s

/-! Witnesses (R340). -/

/-- One parent's half of a WITNESS: its number, HOLD and HEARD of the orbit's marker (R340). -/
def State.witnessWord (s : State) (p : Option Nat) : Nat :=
  match p with
  | none => 0
  | some p =>
    let heard := decide ((s.port p).heard = some s.time.orbit)
    s.get (F.PORT_PARTNER_DIE p) + b2n (heard && (s.port p).heardHold) * 2 ^ 14 + b2n heard * 2 ^ 15

/-- A die in duplication reports both its parents at WIT_SLOT (R340). -/
def witnessSend (s : State) : State :=
  let both := s.mainShaft.toList ++ s.altShaft.toList
  if s.on F.TREE_STATUS_DUP ∧ both.all (fun p => s.portFeat p 4) ∧ both.length = 2 then
    s.reach (s.get F.TREE_CTRL_WIT_SLOT) 0 (fun s =>
      let m := vc0Bytes 0x20 dstPeer s.dieNo 0
        (leBytes 4 s.time.orbit ++ leBytes 2 (s.witnessWord s.mainShaft) ++ leBytes 2 (s.witnessWord s.altShaft))
      both.foldl (fun s p => s.sendVc0 p m) s)
  else s

end Sys2Proof.Machine
end

