-- ==== Sys2Proof/Machine/Monitor.lean ====
section
/-! DEFINITION. The monitor converter (R412–R441): results, sequencer, injected conversions, guards, calibration, excitation
and scope capture. -/

namespace Sys2Proof.Machine

/-! Results (R412–R418, R422–R424, R434). -/

/-- The converter works (R425, R460). -/
def State.monRuns (s : State) : Bool := decide (s.sys.run ≠ .reset ∧ s.sys.run ≠ .init ∧ s.sys.run ≠ .safe)

/-- Gain index of input k: 0 for internal inputs (R413). -/
def State.monGainOf (s : State) (k : Nat) : Nat := if k < 16 then s.get (F.MON_IN_GAIN k) else 0

/-- An external input is retired (R441). -/
def State.monRetired (s : State) (k : Nat) : Bool := decide (k < 16) && s.isRetired 8 k

/-- The coefficients and excitation that a conversion of input k starts with (R413, R416, R433, R441). -/
def State.monCoef (s : State) (k : Nat) : MonCoef :=
  { g := s.monGainOf k
    exc := if 16 ≤ k ∨ s.monRetired k then 0 else s.rd (Reg.MON_EXC k)
    drift := s.getS (F.MON_DRIFT_OFS_OFS (s.monGainOf k))
    ofs := s.getS (F.MON_USER_OFS_OFS k)
    gain := s.get (F.MON_USER_GAIN_GAIN k) }

/-- CHOP of an excitation word. -/
def excChop (e : Nat) : Bool := decide (bitsOf e 4 1 = 1)

/-- Twice the filter value less the offset of gain `g` (R422). -/
def State.monX2 (s : State) (g : Nat) (c : MonCoef) (v : MonConv) : Int :=
  if excChop c.exc then v.x - v.swapped else 2 * (v.x - (s.getS (F.MON_FACT_OFS_OFS g) + c.drift))

/-- A result code before its limits (R422), and its exact value's rounding: y after the user stage over 2^8. -/
def State.monCode (s : State) (g : Nat) (c : MonCoef) (v : MonConv) : Int :=
  roundDiv ((s.monX2 g c v * s.get (F.MON_FACT_GAIN_GAIN g) - c.ofs * 2 ^ 23) * c.gain) (2 ^ 53)

/-- A code within its limits, and OVR (R422). -/
def monLimit (z : Int) (ovl negative : Bool) : Int × Bool :=
  if ovl ∧ negative = true then (-32768, true)
  else if 32767 < z ∨ ovl then (min z 32767, true)
  else if z < -32768 then (-32768, true)
  else (z, false)

/-- The engineering value and PWL_RANGE of a code, and PWL_BAD of the table (R434). -/
def State.monEng (s : State) (k : Nat) (code : Int) : Int × Bool × Bool :=
  if ¬ s.on (F.MON_IN_PWL_EN k) then (0, false, false)
  else
    let x : Nat → Int := fun i => s.getS (F.MON_PWL_X k i)
    let y : Nat → Int := fun i => s.getS (F.MON_PWL_Y k i)
    if (List.range 16).any (fun i => decide (x (i + 1) ≤ x i)) then (0, false, true)
    else if code ≤ x 0 then (y 0, decide (code < x 0), false)
    else if x 16 ≤ code then (y 16, decide (x 16 < code), false)
    else
      let i := (List.range 16).foldl (fun m i => if x i ≤ code then i else m) 0
      (y i + roundDiv ((y (i + 1) - y i) * (code - x i)) (x (i + 1) - x i), false, false)

/-- A result's 8 bytes (R424). -/
def monBytes (code eng : Int) (k flags slot : Nat) : List Byte :=
  leBytes 2 (ofSigned 16 code) ++ leBytes 2 (ofSigned 16 eng) ++ leBytes 1 k ++ leBytes 1 flags ++ leBytes 2 slot

/-- One result of input `k` from a conversion with coefficients `c`; `flags` are its INJ or GUARD bits (R417, R418, R422,
R424, R434). -/
structure MonRes where
  bytes : List Byte
  ovr   : Bool
  opn   : Bool
  bad   : Bool

/-- A result (R422–R424, R434). -/
def State.monResult (s : State) (k : Nat) (c : MonCoef) (v : MonConv) (flags : Nat) : MonRes :=
  let (code, ovr) := monLimit (s.monCode c.g c v) v.ovl (decide (v.x < 0))
  let (eng, range, bad) := s.monEng k code
  let opn := decide (bitsOf c.exc 8 2 ≠ 0) && decide (32113 ≤ code)
  let compl := v.compl && decide (c.exc % 4 ≠ 0)
  { bytes := monBytes code eng k (flags + b2n ovr + b2n opn * 2 + b2n range * 32 + b2n compl * 64) s.time.slot
    ovr := ovr, opn := opn, bad := bad }

/-- The result of a retired input (R426, R427). -/
def State.monRetiredBytes (s : State) (k flags : Nat) : List Byte := monBytes 0 0 k (flags + 128) s.time.slot

/-- A strike for an external input; at the limit it is retired (R441). -/
def State.strikeInput (s : State) (k : Nat) : State :=
  let s1 := s.addStrike 8 k
  if s1.atLimit 8 k then (s1.retire 8 k).flag (F.MON_IN_STAT_RETIRED k) else s1

/-- What a result does besides where it goes: counters, flags, strikes, and the guard it owes (R418, R422, R423, R434,
R441). -/
def State.noteResult (s : State) (k : Nat) (r : MonRes) : State :=
  let s1 := if r.ovr then (s.inc Reg.MON_OVR_CNT).flag F.MON_STATUS_OVR else s
  let s2 := if r.opn then (s1.inc Reg.MON_OPEN_CNT).flag F.MON_STATUS_OPEN else s1
  let s3 := if r.bad then s2.flag F.MON_STATUS_PWL_BAD else s2
  let s4 := { s3 with mon := { s3.mon with owed := s3.mon.owed || r.ovr } }
  let s5 := if r.opn ∧ k < 16 then s4.strikeInput k else s4
  if r.ovr ∧ k < 16 ∧ s.on (F.MON_IN_OVR_STRIKE k) then s5.strikeInput k else s5

/-! Records (R439, R440). -/

/-- The 16-byte header of a monitor record (R439). -/
def State.monHeader (s : State) (rec info orbit number count slot : Nat) : List Byte :=
  leBytes 1 rec ++ leBytes 1 info ++ leBytes 2 s.dieNo ++ leBytes 4 orbit ++ leBytes 4 number ++ leBytes 2 count
    ++ leBytes 2 slot

/-- A pass, injected or calibration record is written if there is room, else dropped; none in SAFE (R440). -/
def State.monRecord (s : State) (en : Bool) (bs : List Byte) : State :=
  if ¬ en ∨ s.sys.run = .safe then s
  else if partCost .mon bs.length ≤ s.partFree .mon then (s.pushUnit 3 .mon false bs).uplinks
  else (s.inc Reg.MON_REC_DROP_CNT).flag F.MON_STATUS_REC_DROP

/-! The next conversion (R416, R420–R430). -/

/-- Length of the sequence (R425). -/
def State.monLen (s : State) : Nat := min 32 (atLeast1 (s.get F.MON_SEQ_CTRL_LEN))

/-- The input a work converts: an entry's, that of the injected request, of the calibration that is due (R430), or the scope's. -/
def State.monInput (s : State) : MonWork → Nat
  | .idle => 0
  | .entry j => s.get (F.MON_SEQ_INPUT j)
  | .inj => s.mon.injK
  | .cal => match s.mon.calQ with
    | (1, _) :: _ => 30
    | (4, _) :: _ => 16
    | (_, k) :: _ => k
    | [] => 0
  | .scope => s.mon.scope.input

/-- The ODR code a work runs at. -/
def State.monOdr (s : State) : MonWork → Nat
  | .idle => 3
  | .entry j => s.get (F.MON_SEQ_ODR j)
  | .inj => s.mon.injOdr
  | .cal => s.mon.calOdr
  | .scope => s.mon.scope.odr

/-- The output period of an ODR code in µs (R419). -/
def monPeriod (odr : Nat) : Nat :=
  [32, 64, 128, 256, 512, 1000, 2000, 4000, 10000, 20000, 40000, 50000, 60000, 100000, 200000].getD odr 0

/-- Output periods of a conversion under an excitation word (R420). -/
def monOutputs (exc : Nat) : Nat := (if exc % 4 = 0 then 3 else 4) * (if excChop exc then 2 else 1)

/-- Its output periods have passed since the conversion began (R419, R420). -/
def State.afterOutputs (s : State) (n : Nat) (k : State → State) : State := s.afterUs s.mon.since (n * monPeriod s.mon.odr) k

/-- A conversion starts: mode, rate cap, input, excitation and coefficients are those of its start (R30, R416, R421, R433); an owed
guard, or one that was cut off, precedes it (R423). -/
def State.monBegin (s : State) (w : MonWork) : State :=
  let capped := decide (s.get F.MON_CTRL_MODE = 1) && decide (s.monOdr w < 3)
  let s1 := s.flagIf F.MON_STATUS_RATE_CAPPED capped
  let c := s.monCoef (s.monInput w)
  { s1 with mon := { s1.mon with
    work := w, guard := s.mon.owed || s.mon.guard, owed := false, k := s.monInput w
    odr := if capped then 3 else s.monOdr w, coef := c, outs := monOutputs c.exc, since := s.fNow } }

/-- The converter rests; a guard that was cut off is owed still. -/
def State.monRest (s : State) : State :=
  { s with mon := { s.mon with work := .idle, guard := false, owed := s.mon.owed || s.mon.guard } }

/-- The pass ends: its record is written and passes are counted (R425, R439). -/
def State.passEnd (s : State) (part : Bool) : State :=
  let bs := s.monHeader 1 (b2n part) s.mon.orbit (s.rd Reg.MON_PASS) s.mon.items.length s.mon.slot ++ s.mon.items.flatten
  let s1 := (s.monRecord (s.on F.MON_STREAM_PASS_EN) bs).incWrap Reg.MON_PASS
  { s1 with mon := { s1.mon with inPass := false, items := [], resume := none } }

/-- A pass begins (R425). -/
def State.passBegin (s : State) : State :=
  { s with mon := { s.mon with inPass := true, items := [], orbit := s.orbitNow, slot := s.time.slot, resume := none } }

/-- The sequencer goes on from entry `j`, at most `k` entries: one that is disabled or not due in this pass is passed over, a
retired input leaves its result, the next entry is converted; none when the pass has no more (R425, R426). -/
def seqFrom : Nat → Nat → State → Option State × State
  | 0, _, s => (none, s)
  | k + 1, j, s =>
    if s.monLen ≤ j then (none, s)
    else if ¬ s.on (F.MON_SEQ_EN j) ∨ s.rd Reg.MON_PASS % 2 ^ s.get (F.MON_SEQ_EVERY j) ≠ 0 then seqFrom k (j + 1) s
    else
      let s1 := s.put F.MON_SEQ_STATUS_ENTRY j
      if s.monRetired (s.get (F.MON_SEQ_INPUT j)) then
        seqFrom k (j + 1) { s1 with mon := { s1.mon with
          items := s1.mon.items ++ [s.monRetiredBytes (s.get (F.MON_SEQ_INPUT j)) 0] } }
      else (some (s1.monBegin (.entry j)), s1)

/-- The sequencer's next conversion from entry `j` on; a pass that ends is followed at once by the next where PACE = 0
(R425). A pass that converts nothing takes no time; the next then waits for the next event (log 20). -/
def State.seqNext (s : State) (j : Nat) : State :=
  match seqFrom 33 j s with
  | (some t, _) => t
  | (none, t) =>
    let t1 := (t.passEnd false).monRest
    if t1.get F.MON_SEQ_CTRL_PACE ≠ 0 then t1
    else
      match seqFrom 33 0 t1.passBegin with
      | (some u, _) => u
      | (none, u) => u.monRest

/-- The converter takes up what is next (R423, R427, R428, R430, R435): an injected request, then it stands free for a
calibration that waits, then the scope, then the sequencer from entry `j`. -/
def State.monNext (s : State) (j : Nat) : State :=
  let s0 := { s with mon := { s.mon with resume := some j } }
  if ¬ s.monRuns then s.monRest
  else if s.mon.injWait then
    let s1 := (s0.unflag F.MON_STATUS_INJ_PENDING).monBegin .inj
    { s1 with mon := { s1.mon with injWait := false } }
  else if s.get F.MON_CAL_STATUS_STATE = 1 then s0.monRest
  else if s.mon.scope.on then
    let s1 := s0.monBegin .scope
    { s1.flagIf F.MON_SEQ_STATUS_PAUSED (s.on F.MON_SEQ_STATUS_RUNNING) with
      mon := { s1.mon with scope := { s1.mon.scope with begun := true, skip := 3 } } }
  else
    let s1 := s0.unflag F.MON_SEQ_STATUS_PAUSED
    if s.on F.MON_SEQ_STATUS_RUNNING ∧ s.mon.inPass then s1.seqNext j else s1.monRest

/-- Where the sequence resumes. -/
def State.monResume (s : State) : Nat := s.mon.resume.getD 0

/-- The entry that is being converted or waits, for resuming at it. -/
def State.monHere (s : State) : Nat := match s.mon.work with | .entry j => j | _ => s.monResume

/-! Conversions end (R420–R428). -/

/-- A guard ends (R423): it appears in the pass record alone, and the conversion it precedes starts; a calibration that waited for
it now runs (R430). -/
def monGuardDone (v : MonConv) (s : State) : State :=
  if ¬ s.mon.guard ∨ ¬ s.monRuns then s
  else s.afterOutputs s.mon.outs (fun s =>
    let k := s.mon.k
    let r := s.monResult k s.mon.coef v 8
    let s1 := s.inc Reg.MON_GUARD_CNT
    let s2 := if s.mon.work = .cal then s1.put F.MON_CAL_STATUS_STATE 2 else s1
    let items := if s.mon.inPass then s.mon.items ++ [r.bytes] else s.mon.items
    let c := s.monCoef k
    { s2 with mon := { s2.mon with guard := false, items := items, coef := c, outs := monOutputs c.exc, since := s.fNow } })

/-- A result is written to a pair of result words. -/
def State.writeResult (s : State) (a : Nat) (bs : List Byte) : State := s.wrBytes a bs

/-- An injected result (R427, R439). -/
def State.injResult (s : State) (k : Nat) (bs : List Byte) : State :=
  let s1 := ((s.writeResult Reg.MON_INJ_RESULT bs).writeResult (Reg.MON_RESULT k) bs).flag F.MON_STATUS_INJ_DONE
  let s2 := { s1 with mon := { s1.mon with injNo := s1.mon.injNo + 1 } }
  s2.monRecord (s.on F.MON_STREAM_INJ_EN) (s.monHeader 2 0 s.orbitNow s2.mon.injNo 1 s.time.slot ++ bs)

/-- A conversion ends after its output periods (R420–R428): its result goes where its work says, and the converter goes on. With
nothing in conversion, a sequencer whose passes convert nothing takes its next pass. -/
def monConversionDone (v : MonConv) (s : State) : State :=
  if s.mon.guard ∨ ¬ s.monRuns then s
  else
    match s.mon.work with
    | .entry j => s.afterOutputs s.mon.outs (fun s =>
      let k := s.mon.k
      let r := s.monResult k s.mon.coef v 0
      let s1 := (s.writeResult (Reg.MON_RESULT k) r.bytes).noteResult k r
      ({ s1 with mon := { s1.mon with items := s1.mon.items ++ [r.bytes] } }).monNext (j + 1))
    | .inj => s.afterOutputs s.mon.outs (fun s =>
      let k := s.mon.k
      let r := s.monResult k s.mon.coef v 16
      let s1 := (s.injResult k r.bytes).noteResult k r
      s1.monNext s1.monResume)
    | .idle => if s.mon.inPass ∧ s.on F.MON_SEQ_STATUS_RUNNING then s.monNext 0 else s
    | .cal => s
    | .scope => s

/-! The sequencer's commands (R425). -/

/-- A pass starts by PACE at slot 0, or is skipped (R425). -/
def monPassStart (s : State) : State :=
  let p := s.get F.MON_SEQ_CTRL_PACE
  if ¬ s.on F.MON_SEQ_STATUS_RUNNING ∨ p = 0 ∨ s.time.slot ≠ 0 ∨ s.orbitNow % 2 ^ (p - 1) ≠ 0 ∨ ¬ s.monRuns then s
  else if s.mon.inPass then s.inc Reg.MON_PASS_SKIP_CNT
  else
    let s1 := s.passBegin
    if s1.mon.work = .idle then s1.monNext 0 else s1

/-- START: the sequencer starts at entry 0 (R425). -/
def monSeqStart (s : State) : State :=
  if ¬ s.monRuns then s
  else
    let s1 := (s.flag F.MON_SEQ_STATUS_RUNNING).put F.MON_SEQ_STATUS_ENTRY 0
    let s2 := match s1.mon.work with | .entry _ => s1.monRest | _ => s1
    let s3 := if s.get F.MON_SEQ_CTRL_PACE = 0 then s2.passBegin else { s2 with mon := { s2.mon with inPass := false, items := [] } }
    if s3.mon.work = .idle ∧ s3.mon.inPass then s3.monNext 0 else s3

/-- STOP: the conversion is abandoned, and the pass record is written with PARTIAL (R425). -/
def monSeqStop (s : State) : State :=
  if ¬ s.on F.MON_SEQ_STATUS_RUNNING then s
  else
    let s1 := (s.unflag F.MON_SEQ_STATUS_RUNNING).unflag F.MON_SEQ_STATUS_PAUSED
    let s2 := if s.mon.inPass then s1.passEnd true else s1
    match s2.mon.work with
    | .entry _ => s2.monNext 0
    | _ => s2

/-! Injected conversions (R427, R428). -/

/-- MON_INJ.GO (R427, R428): the request takes INPUT and ODR as they stand. A calibration that still waits for its guard gives way
(R430). -/
def monInjGo (s : State) : State :=
  let k := s.get F.MON_INJ_INPUT
  if ¬ s.monRuns then s
  else if s.mon.injWait ∨ s.mon.work = .inj then s.inc Reg.MON_INJ_BUSY_CNT
  else if s.monRetired k then s.injResult k (s.monRetiredBytes k 16)
  else
    let s0 := { s with mon := { s.mon with injK := k, injOdr := s.get F.MON_INJ_ODR } }
    match s.mon.work with
    | .entry j =>
      let s1 := s0.inc Reg.MON_SEQ_RESTART_CNT
      ({ s1 with mon := { s1.mon with resume := some j } }).monBegin .inj
    | .idle => s0.monBegin .inj
    | .scope => { s0.flag F.MON_STATUS_INJ_PENDING with mon := { s0.mon with injWait := true } }
    | .cal => if s.get F.MON_CAL_STATUS_STATE = 1 then s0.monBegin .inj else { s0 with mon := { s0.mon with injWait := true } }
    | .inj => s

/-! Excitation and mode (R416, R421, R431, R437). -/

/-- A capture restarts from arming (R437). -/
def State.scopeRestart (s : State) : State :=
  let s1 := s.flag F.MON_SCOPE_STATUS_RESTARTED
  { s1 with mon := { s1.mon with coef := s.monCoef s.mon.scope.input, since := s.fNow, scope := { s1.mon.scope with
    skip := 3, buf := [], trig := none, prev := none, force := false, cal := false, waits := 0, autoDue := false, auto := false } } }

/-- New excitation for some inputs (R416): with `now` the conversion in progress on one of them is voided and starts again,
and its last good result reads with SETTLE; a capture of one of them restarts in any case. -/
def excWritten (ks : List Nat) (now : Bool) (s : State) : State :=
  if s.mon.work = .scope ∧ s.mon.scope.on then
    if ks.contains s.mon.scope.input then s.scopeRestart else s
  else
    let k := s.mon.k
    if now ∧ s.mon.work ≠ .idle ∧ ks.contains k ∧ k < 16 then
      let s1 := s.inc Reg.MON_VOID_CNT
      let a := Reg.MON_RESULT k + 4
      let s2 := s1.wr a (setBits (s1.rd a) 10 1 1)
      let e := (s.monCoef k).exc
      { s2 with mon := { s2.mon with
        coef := { s2.mon.coef with exc := e }, outs := if excChop e then 8 else 4, since := s.fNow } }
    else s

/-- The inputs that a source of `MON_ISRC` drives. -/
def State.isrcInputs (s : State) : List Nat := (List.range 16).filter (fun k => decide (s.get (F.MON_EXC_SRC k) ≠ 0))

/-! Scope capture (R435–R438). -/

/-- A capture ends, with or without records, and the sequencer resumes at its paused entry (R437). -/
def State.scopeEnd (s : State) (records : Bool) : State :=
  let n := s.mon.scope.buf.length
  let parts := if records ∧ s.on F.MON_STREAM_SCOPE_EN then (List.range (atLeast1 (ceilDiv n 1024))).map (fun i => i * 1024)
    else []
  let s1 := s.unflag F.MON_SCOPE_STATUS_ARMED
  let s2 := { s1 with mon := { s1.mon with scope := { s1.mon.scope with
    on := false, begun := false, parts := parts, shown := records } } }
  if s.mon.work = .scope then s2.monNext s2.monResume else s2

/-- ABORT, a write of MODE away from SCOPE, or the end of the run states ends a capture without records (R437). -/
def State.scopeAbort (s : State) : State :=
  if s.mon.scope.on then (s.flag F.MON_SCOPE_STATUS_ABORTED).scopeEnd false else s

/-- ARM (R435): the counts in force, and the converter at the sequencer's next entry boundary. -/
def scopeArm (s : State) : State :=
  if s.get F.MON_CTRL_MODE ≠ 2 ∨ ¬ s.monRuns then s
  else
    let post := min 8192 (atLeast1 (s.get F.MON_SCOPE_CNT_POST))
    let pre := min (s.get F.MON_SCOPE_CNT_PRE) (8192 - post)
    let s1 := ((s.flagIf F.MON_SCOPE_STATUS_POST_CLAMPED (decide (8192 < s.get F.MON_SCOPE_CNT_POST))).flagIf
      F.MON_SCOPE_STATUS_PRE_REDUCED (decide (pre < s.get F.MON_SCOPE_CNT_PRE)))
    let s2 := (s1.unflag F.MON_SCOPE_STATUS_TRIGGERED).flag F.MON_SCOPE_STATUS_ARMED
    let s3 := { s2 with mon := { s2.mon with scope := {
      input := s.get F.MON_SCOPE_INPUT, odr := s.get F.MON_SCOPE_ODR
      on := true, pre := pre, post := post, number := s.mon.scope.number } } }
    if s.mon.work = .idle ∨ s.mon.work = .scope then s3.monNext s3.monResume else s3

/-- ABORT (R437). -/
def scopeAbort (s : State) : State := s.scopeAbort

/-- FORCE (R436). -/
def scopeForce (s : State) : State :=
  if s.mon.scope.on then { s with mon := { s.mon with scope := { s.mon.scope with force := true } } } else s

/-- A SCOPE_TRIGGER entry fires (R47, R436). -/
def calScopeTrigger (i : Nat) (s : State) : State :=
  s.calFire i 0x0C (fun t => t.sys.run.capturing) (fun _ t =>
    if t.mon.scope.on then { t with mon := { t.mon with scope := { t.mon.scope with cal := true } } } else t)

/-- No trigger within TMO output periods: the next sample is the trigger (R436). -/
def scopeAutoTimeout (s : State) : State :=
  let c := s.mon.scope
  if c.on ∧ c.begun ∧ c.trig = none ∧ c.pre ≤ c.buf.length ∧ s.get F.MON_SCOPE_AUTO_TMO ≠ 0 ∧ s.get F.MON_SCOPE_AUTO_TMO ≤ c.waits then
    { s with mon := { s.mon with scope := { c with autoDue := true } } }
  else s

/-- The trigger condition of sample `x` after sample `p` (R436). -/
def State.scopeTrig (s : State) (x : Int) : Bool :=
  let c := s.mon.scope
  let up := !s.on F.MON_SCOPE_DIR
  let lev := s.getS F.MON_SCOPE_LEVEL_LEVEL
  let d : Int := s.get F.MON_SCOPE_LEVEL_DELTA
  let t := s.get F.MON_SCOPE_TRIG
  c.force || c.autoDue || (decide (t = 2) && c.cal) ||
    (match c.prev with
     | none => false
     | some p =>
       if t = 0 then (if up then decide (p < lev ∧ lev ≤ x) else decide (lev < p ∧ x ≤ lev))
       else if t = 1 then (if up then decide (d ≤ x - p) else decide (d ≤ p - x))
       else false)

/-- The post-trigger sample lies outside its envelope (R438). -/
def State.scopeOutside (s : State) (i : Nat) (x : Int) : Bool :=
  s.on F.MON_SCOPE_MASK_EN &&
    (decide (s.getS (F.MON_ENV_UPPER (i / 8)) < x) || decide (x < s.getS (F.MON_ENV_LOWER (i / 8))))

/-- A post-trigger sample is tested, written, and may be the last (R437, R438). -/
def State.scopePost (s : State) (x : Int) : State :=
  let c := s.mon.scope
  let i := c.buf.length
  if s.scopeOutside i x then
    let s1 := ((s.put F.MON_SCOPE_VIOL_SAMPLE (ofSigned 16 x)).put F.MON_SCOPE_VIOL_INDEX i).flag F.MON_SCOPE_STATUS_MASK_VIOL
    let s2 := { s1 with mon := { s1.mon with scope := { c with viol := some (i, x), stop := true, number := c.number + 1 } } }
    (s2.warn F.MON_SCOPE_STATUS_MASK_VIOL i).scopeEnd true
  else
    let s1 := { s with mon := { s.mon with scope := { c with buf := c.buf ++ [x], prev := some x } } }
    if i + 1 < c.pre + c.post then s1
    else
      let s2 := { s1 with mon := { s1.mon with scope := { s1.mon.scope with number := c.number + 1 } } }
      let s3 := if s.on F.MON_SCOPE_MASK_EN then s2.inc Reg.MON_MASK_PASS_CNT else s2
      (s3.flag F.MON_SCOPE_STATUS_DONE).scopeEnd true

/-- An output of the scope's input, which is a sample once the first three are discarded (R435–R438). -/
def State.scopeOut (s : State) (v : MonConv) : State :=
  let c := s.mon.scope
  if 0 < c.skip then { s with mon := { s.mon with scope := { c with skip := c.skip - 1 } } }
  else
    let (x, _) := monLimit (s.monCode s.mon.coef.g { s.mon.coef with exc := 0 } v) v.ovl (decide (v.x < 0))
    match c.trig with
    | some _ => s.scopePost x
    | none =>
      if c.buf.length < c.pre then
        { s with mon := { s.mon with scope := { c with buf := c.buf ++ [x], prev := some x, force := false, cal := false } } }
      else if s.scopeTrig x then
        let s1 := (s.flagIf F.MON_SCOPE_STATUS_TRIGGERED (!s.scopeOutside c.buf.length x)).flagIf F.MON_SCOPE_STATUS_AUTO
          (s.on F.MON_SCOPE_STATUS_AUTO || c.autoDue)
        let s2 := { s1 with mon := { s1.mon with scope := { c with
          trig := some c.buf.length, auto := c.autoDue, orbit := s.orbitNow, slot := s.time.slot } } }
        s2.scopePost x
      else
        { s with mon := { s.mon with scope := { c with
          buf := (c.buf ++ [x]).drop (c.buf.length + 1 - c.pre), prev := some x, cal := false, waits := c.waits + 1 } } }

/-- An output comes in a capture, one output period after the one before it (R420, R435). -/
def scopeSample (v : MonConv) (s : State) : State :=
  let c := s.mon.scope
  if ¬ c.on ∨ ¬ c.begun ∨ s.mon.work ≠ .scope ∨ s.mon.guard then s
  else s.afterOutputs 1 (fun s => ({ s with mon := { s.mon with since := s.fNow } }).scopeOut v)

/-- The next part of a capture's record enters the stream when there is room (R439, R440). -/
def scopeRecordWrite (s : State) : State :=
  let c := s.mon.scope
  match c.parts with
  | [] => s
  | at' :: rest =>
    let xs := (c.buf.drop at').take 1024
    let info := at' / 1024 + b2n rest.isEmpty * 8 + b2n c.viol.isSome * 16 + b2n c.auto * 32
      + b2n (s.on F.MON_SCOPE_STATUS_POST_CLAMPED) * 64
    let bs := s.monHeader 3 info c.orbit c.number xs.length c.slot
      ++ leBytes 2 (c.trig.getD 0) ++ leBytes 2 (match c.viol with | some v => v.1 | none => 0xFFFF)
      ++ leBytes 1 c.input ++ leBytes 1 c.odr ++ leBytes 2 0
      ++ xs.flatMap (fun x => leBytes 2 (ofSigned 16 x))
    if s.sys.run = .safe ∨ s.partFree .mon < partCost .mon bs.length then s
    else
      let s1 := (s.pushUnit 3 .mon false bs).uplinks
      { s1 with mon := { s1.mon with scope := { s1.mon.scope with parts := rest } } }

/-- With REPEAT the scope arms again once every record of the capture has entered the stream (R437, R438). -/
def scopeRearm (s : State) : State :=
  let c := s.mon.scope
  if s.on F.MON_SCOPE_REPEAT ∧ ¬ c.on ∧ c.shown ∧ ¬ c.stop ∧ c.parts = [] then scopeArm s else s

/-- The scope buffer as it reads: while DONE or frozen (R437). -/
def State.scopeWord (s : State) (i : Nat) : Nat :=
  if s.mon.scope.shown then
    ofSigned 16 (s.mon.scope.buf.getD (2 * i) 0) + ofSigned 16 (s.mon.scope.buf.getD (2 * i + 1) 0) * 2 ^ 16
  else 0

/-! Calibration (R429–R433). -/

/-- A calibration ends in FAIL (R431). -/
def State.calFail (s : State) (reason : Nat) : State :=
  (s.put F.MON_CAL_STATUS_STATE 4).put F.MON_CAL_STATUS_REASON reason

/-- A calibration GO (R430): `op` at the set rate and input. -/
def calGo (op : Nat) (s : State) : State :=
  let st := s.get F.MON_CAL_STATUS_STATE
  if op = 0 ∨ 5 ≤ op ∨ ¬ s.monRuns then s
  else if st = 1 ∨ st = 2 then s.inc Reg.MON_CAL_SKIP_CNT
  else
    let s1 := (s.put F.MON_CAL_STATUS_STATE 1).put F.MON_CAL_STATUS_REASON 0
    { s1 with mon := { s1.mon with calQ := [(op, s.get F.MON_CAL_CMD_INPUT)], calOdr := s.get F.MON_CAL_CMD_ODR } }

/-- A CAL_MON entry fires (R432): INT_ZERO, REF_CHECK or both, in that order. -/
def calMon (i : Nat) (s : State) : State :=
  s.calFire i 7 (fun t => t.sys.run.capturing) (fun arg t =>
    let ops := (if arg % 4 = 0 ∨ bitsOf arg 0 1 = 1 then [1] else []) ++ (if arg % 4 = 0 ∨ bitsOf arg 1 1 = 1 then [4] else [])
    let st := t.get F.MON_CAL_STATUS_STATE
    if st = 1 ∨ st = 2 then t.incBy Reg.MON_CAL_SKIP_CNT ops.length
    else if ¬ t.monRuns then t
    else
      let t1 := (t.put F.MON_CAL_STATUS_STATE 1).put F.MON_CAL_STATUS_REASON 0
      { t1 with mon := { t1.mon with calQ := ops.map (fun o => (o, 0)), calOdr := t.get F.MON_CAL_CMD_ODR } })

/-- The calibration at the front of those that wait has ended: the next one is pended, and the converter goes on (R430). -/
def State.calNext (s : State) : State :=
  let rest := s.mon.calQ.drop 1
  let s1 := { s with mon := { s.mon with calQ := rest } }
  let s2 := if rest.isEmpty then s1 else (s1.put F.MON_CAL_STATUS_STATE 1).put F.MON_CAL_STATUS_REASON 0
  s2.monNext s2.monResume

/-- A system calibration that names an internal or a retired input (R431). -/
def State.calNoInput (s : State) : Bool :=
  match s.mon.calQ with
  | (op, k) :: _ => decide (op = 2 ∨ op = 3) && (decide (16 ≤ k) || s.monRetired k)
  | [] => false

/-- A pended calibration takes the converter once it stands free: no injected conversion, no entry, no capture, and after any guard
that is owed (R430); one that names no usable input fails (R431). -/
def monCalRun (s : State) : State :=
  if s.get F.MON_CAL_STATUS_STATE = 1 ∧ s.mon.work = .idle ∧ ¬ s.mon.injWait ∧ s.monRuns then
    if s.calNoInput then (s.calFail 2).calNext
    else if s.mon.owed then s.monBegin .cal
    else (s.put F.MON_CAL_STATUS_STATE 2).monBegin .cal
  else s

/-- The gains of enabled entries in use, ascending (R430). -/
def State.gainsInUse (s : State) : List Nat :=
  (List.range 8).filter (fun g => (List.range s.monLen).any (fun j =>
    s.on (F.MON_SEQ_EN j) && decide (s.monGainOf (s.get (F.MON_SEQ_INPUT j)) = g)))

/-- Sum of whole numbers. -/
def sumInt (l : List Int) : Int := l.foldl (fun a b => a + b) 0

/-- The first conversion of input `k` that carries OVR or OPEN, with the coefficients it was made with (R431). -/
def State.calBad (s : State) (k : Nat) (cs : List (MonCoef × MonConv)) : Option MonRes :=
  (cs.map (fun e => s.monResult k e.1 e.2 0)).find? (fun r => r.ovr || r.opn)

/-- A calibration fails by a conversion with OVR or OPEN, which is counted, may give a strike and owes a guard as every result
does (R418, R422, R423, R431, R441). -/
def State.calFailBy (s : State) (k : Nat) (r : MonRes) : State := (s.noteResult k r).calFail 3

/-- Coefficients that correct by the factory stage alone, for gain `g` of internal input 30 (R430). -/
def State.zeroCoef (s : State) (g : Nat) : MonCoef := { g := g, drift := s.getS (F.MON_DRIFT_OFS_OFS g) }

/-- The calibration record (R432): CAL_CNT and CAL_WALL. -/
def State.calStamp (s : State) : State := (s.incWrap Reg.MON_CAL_CNT).dateInto Reg.MON_CAL_WALL

/-- A calibration ends in DONE: its record item is `item`, and the next queued operation is pended (R430, R432, R439). -/
def State.calDone (s : State) (op k : Nat) (item : List Byte) : State :=
  let s1 := (s.calStamp).put F.MON_CAL_STATUS_STATE 3
  let bs := s1.monHeader 4 (op + k * 8) s.orbitNow (s1.rd Reg.MON_CAL_CNT) (if item.isEmpty then 0 else 1) s.time.slot ++ item
  s1.monRecord (s.on F.MON_STREAM_CAL_EN) bs

/-- INT_ZERO (R430, R432): 16 conversions of input 30 for each gain in use, then one check at each. -/
def State.intZeroEnd (s : State) (convs : List (List MonConv)) (checks : List MonConv) : State :=
  let gs := s.gainsInUse
  match s.calBad 30 ((gs.zip convs).flatMap (fun e => e.2.map (fun v => (s.zeroCoef e.1, v)))) with
  | some r => s.calFailBy 30 r
  | none =>
    let s1 := (gs.zip convs).foldl (fun s e =>
      let d := roundDiv (sumInt (e.2.map (fun v => v.x - s.getS (F.MON_FACT_OFS_OFS e.1)))) (atLeast1 e.2.length)
      s.put (F.MON_DRIFT_OFS_OFS e.1) (ofSigned 24 d)) s
    let qual := (gs.zip checks).foldl (fun m e => max m (monLimit (s1.monCode e.1 (s1.zeroCoef e.1) e.2) e.2.ovl
      (decide (e.2.x < 0))).1.natAbs) 0
    let g := gs.getLast?.getD 0
    let (free, s2) := s1.fresh
    (s2.put F.MON_CAL_QUAL_QUAL (min 255 qual)).calDone 1 30 (leBytes 4 (ofSigned 32 (s1.getS (F.MON_DRIFT_OFS_OFS g))) ++ leBytes 4 free)

/-- The sum over conversions of y after the factory stage, times 2^23 (R422, R431). -/
def State.sysSum (s : State) (vs : List MonConv) : Int :=
  sumInt (vs.map (fun v => s.monX2 s.mon.coef.g s.mon.coef v * s.get (F.MON_FACT_GAIN_GAIN s.mon.coef.g)))

/-- The item of a system calibration: the user offset and gain as stored (R439). -/
def State.sysItem (s : State) (k : Nat) : List Byte :=
  leBytes 4 (ofSigned 32 (s.getS (F.MON_USER_OFS_OFS k))) ++ leBytes 4 (s.get (F.MON_USER_GAIN_GAIN k))

/-- SYS_ZERO and SYS_FULL (R431). -/
def State.sysEnd (s : State) (op k : Nat) (vs : List MonConv) : State :=
  if 16 ≤ k ∨ s.monRetired k then s.calFail 2
  else match s.calBad k (vs.map (fun v => (s.mon.coef, v))) with
  | some r => s.calFailBy k r
  | none =>
    let n := atLeast1 vs.length
    let sum := s.sysSum vs
    if op = 2 then
      let z := roundDiv sum (2 ^ 23 * n)
      if 2 ^ 21 < z.natAbs then s.calFail 1
      else
        let s1 := s.put (F.MON_USER_OFS_OFS k) (ofSigned 24 z)
        s1.calDone 2 k (s1.sysItem k)
    else
      let m := sum - s.getS (F.MON_USER_OFS_OFS k) * (2 ^ 23 * n)
      let t := s.getS F.MON_CAL_TARGET_TARGET * 2 ^ 30 * (2 ^ 23 * n)
      let gain : Int := if m = 0 then 0 else if 0 < m then roundDiv t m else roundDiv (-t) (-m)
      if gain < 2 ^ 21 ∨ 2 ^ 23 < gain then s.calFail 1
      else
        let s1 := s.put (F.MON_USER_GAIN_GAIN k) gain.toNat
        s1.calDone 3 k (s1.sysItem k)

/-- REF_CHECK (R430): the mean code of input 16. -/
def State.refEnd (s : State) (vs : List MonConv) : State :=
  let c := s.monCoef 16
  match s.calBad 16 (vs.map (fun v => (c, v))) with
  | some r => s.calFailBy 16 r
  | none =>
    let z := roundDiv (sumInt (vs.map (fun v => s.monCode 0 c v))) (atLeast1 vs.length)
    (s.put F.MON_REF_RATIO_CODE (ofSigned 16 z)).calDone 4 16 []

/-- The conversions that an operation makes (R430, R432): 16 for each gain in use and one check each, or 16. -/
def State.calShape (s : State) (op : Nat) (convs : List (List MonConv)) (checks : List MonConv) : Bool :=
  let n := if op = 1 then s.gainsInUse.length else 1
  decide (convs.length = n) && convs.all (fun vs => decide (vs.length = 16)) &&
    decide (checks.length = if op = 1 then n else 0)

/-- The running calibration ends with its conversions, by gain, and its checks (R430–R432); the converter goes on. -/
def monCalDone (convs : List (List MonConv)) (checks : List MonConv) (s : State) : State :=
  match s.mon.calQ with
  | [] => s
  | (op, k) :: _ =>
    if s.get F.MON_CAL_STATUS_STATE ≠ 2 ∨ s.mon.work ≠ .cal ∨ ¬ s.calShape op convs checks then s
    else s.afterOutputs ((16 * convs.length + checks.length) * s.mon.outs) (fun s =>
      let vs := convs.headD []
      (if op = 1 then s.intZeroEnd convs checks else if op = 4 then s.refEnd vs else s.sysEnd op k vs).calNext)

/-- A calibration is aborted (R431). -/
def State.calAbort (s : State) : State :=
  let st := s.get F.MON_CAL_STATUS_STATE
  if st = 1 ∨ st = 2 then
    let s1 := { s.calFail 4 with mon := { s.mon with calQ := [] } }
    if s.mon.work = .cal then s1.monNext s1.monResume else s1
  else s

/-- MON_CTRL.MODE is written (R421, R431, R437): the new mode rules from the next conversion on. -/
def monModeSet (s : State) : State :=
  let s1 := s.calAbort
  if s1.get F.MON_CTRL_MODE ≠ 2 then s1.scopeAbort else s1

/-- The converter stops (R431, R437, R460). -/
def monStop (s : State) : State :=
  let s1 := s.calAbort.scopeAbort
  let s2 := (((s1.unflag F.MON_SEQ_STATUS_RUNNING).unflag F.MON_SEQ_STATUS_PAUSED).unflag F.MON_STATUS_INJ_PENDING)
  { s2 with mon := { s2.mon with work := .idle, guard := false, inPass := false, items := [], injWait := false } }

end Sys2Proof.Machine
end

