-- ==== Sys2Proof/Machine/Rings.lean ====
section
/-! DEFINITION. Descriptor rings of a root (R362–R375, R382–R384, R386): where descriptors lie, completions, interrupts, commands in
order, and the form in which a unit is delivered (R228, R269, R281–R283, R369–R376). -/

namespace Sys2Proof.Machine

/-! Rings (R362–R364). -/

/-- A member of a clasp pair. -/
def State.clasped (s : State) : Bool := s.isRoot && s.on F.CLASP_CTRL_ENABLE
/-- `CLASP_STATUS.STATE`. -/
def State.clState (s : State) : Nat := s.get F.CLASP_STATUS_STATE
/-- UNPAIRED … RETIRED (R348). -/
abbrev clUnpaired : Nat := 0
/-- PAIRING. -/
abbrev clPairing : Nat := 1
/-- ACTIVE. -/
abbrev clActive : Nat := 2
/-- STANDBY. -/
abbrev clStandby : Nat := 3
/-- CHECK. -/
abbrev clCheck : Nat := 4
/-- DETACHED. -/
abbrev clDetached : Nat := 5
/-- SYNC. -/
abbrev clSync : Nat := 6
/-- RETIRED. -/
abbrev clRetired : Nat := 7

/-- The die writes to its host (R343, R347, R355; log 22): a root not in D3hot, and of a pair the active or a member not paired. -/
def State.dmaOn (s : State) : Bool :=
  s.isRoot && !s.hif.d3 && (!s.clasped || decide (s.clState ≤ clActive))

/-- The die reads its host's memory: a root not in D3hot, and of a pair also the standby, a member in
CHECK and a copy's destination (R347, R386). -/
def State.hostReads (s : State) : Bool :=
  s.isRoot && !s.hif.d3 && (!s.clasped || decide (s.clState ≤ clCheck ∨ s.clState = clSync))

/-- A feature is accepted (R377, R378). -/
def State.feat (s : State) (k : Nat) : Bool := decide (bitsOf s.hif.feats k 1 = 1)
/-- The ring is enabled. -/
def State.ringOn (s : State) (r : Nat) : Bool := s.on (F.RING_CFG_EN r)
/-- TYPE of a ring: 0 OFF, 1 COMMAND, 2 DATA, 3 EVENT (R362). -/
def State.ringType (s : State) (r : Nat) : Nat := s.get (F.RING_CFG_TYPE r)
/-- SIZE_LOG2 of a ring, held within 6–16 (R362). -/
def State.ringLog2 (s : State) (r : Nat) : Nat := max 6 (min 16 (s.get (F.RING_CFG_SIZE_LOG2 r)))
/-- Host address of descriptor `i` of a ring (R363). -/
def State.descAddr (s : State) (r i : Nat) : Nat := s.rd64 (Reg.RING_BASE r) + 32 * (i % 2 ^ s.ringLog2 r)
/-- The phase bit of an index (R364). -/
def State.phaseBit (s : State) (r i : Nat) : Nat := 1 - i / 2 ^ s.ringLog2 r % 2
/-- RING_HEAD moves on by `n`. -/
def State.headUp (s : State) (r n : Nat) : State := s.wr (Reg.RING_HEAD r) ((s.rd (Reg.RING_HEAD r) + n) % 2 ^ 32)
/-- Descriptors from head to tail − 1 (R363). -/
def State.avail (s : State) (r : Nat) : Nat := (s.rd (Reg.RING_TAIL_SEEN r) + 2 ^ 32 - s.rd (Reg.RING_HEAD r)) % 2 ^ 32

/-- The commands of a ring that the device has read. -/
def State.cmdsOf (s : State) (r : Nat) : List HCmd := sget [] s.hif.cmds r
/-- Hold the commands of a ring. -/
def State.setCmds (s : State) (r : Nat) (l : List HCmd) : State := { s with hif := { s.hif with cmds := sset [] s.hif.cmds r l } }
/-- The buffers of a ring that the device has read. -/
def State.bufsOf (s : State) (r : Nat) : List HBuf := sget [] s.hif.bufs r
/-- Hold the buffers of a ring. -/
def State.setBufs (s : State) (r : Nat) (l : List HBuf) : State := { s with hif := { s.hif with bufs := sset [] s.hif.bufs r l } }

/-- A ring is disabled at once (R382): its error is counted and an alert raised; completions already written stand. -/
def State.ringFail (s : State) (r : Nat) (f : Fld) : State :=
  let s1 := ((((s.unflag (F.RING_CFG_EN r)).unflag (F.RING_STATUS_WAITING r)).flag f).inc Reg.RING_DB_ERR_CNT).warn f r
  (s1.setCmds r []).setBufs r []

/-! Interrupts (R384). -/

/-- MSI-X message of vector `v`, or its pending bit where it is masked, or all interrupts are off (R355, R384, log 23). -/
def State.sendMsix (s : State) (v : Nat) : State :=
  let e := 0x90000 + 16 * v
  if s.hif.d3 ∨ ¬ s.hif.msixOn ∨ s.hif.msixMask ∨ s.rd (e + 12) % 2 = 1 then
    let a := 0x98000 + 4 * (v / 32)
    s.wr a (setBits (s.rd a) (v % 32) 1 1)
  else s.emit (.msix (s.rd64 e) (s.rd (e + 8)))

/-- Pending vectors whose mask has gone send their message (log 23). -/
def State.sendPending (s : State) : State :=
  (List.range 64).foldl (fun s k =>
    if s.rd (0x98000 + 4 * k) = 0 then s
    else (List.range 32).foldl (fun s j =>
      if bitsOf (s.rd (0x98000 + 4 * k)) j 1 = 1 then
        (s.wr (0x98000 + 4 * k) (setBits (s.rd (0x98000 + 4 * k)) j 1 0)).sendMsix (32 * k + j)
      else s) s) s

/-- A ring group signals: one message for each distinct vector of its completions (R384). -/
def State.signalGroup (s : State) (g : Nat) : State :=
  let vs := sget [] s.hif.coal g
  let s1 := { s with hif := { s.hif with coal := sset [] s.hif.coal g [] } }
  vs.eraseDups.foldl State.sendMsix s1

/-- A completion has been written on a ring (R378, R384): without COALESCE each signals at once. -/
def State.completionNoted (s : State) (r : Nat) (noint : Bool) : State :=
  if noint ∨ s.on (F.RING_CFG_NOINT r) then s
  else
    let g := r / 64
    let vs := sget [] s.hif.coal g ++ [s.get (F.RING_CFG_VECTOR r)]
    let at' := if vs.length = 1 then sset 0 s.hif.coalAt g s.fNow else s.hif.coalAt
    let s1 := { s with hif := { s.hif with coal := sset [] s.hif.coal g vs, coalAt := at' } }
    let n := if s.feat 5 then atLeast1 (s.get (F.HIF_COAL_COUNT g)) else 1
    if n ≤ vs.length then s1.signalGroup g else s1

/-- A ring group's coalescing time expires (R384). -/
def coalesceTimeout (g : Nat) (s : State) : State :=
  if s.get (F.HIF_COAL_TIME g) = 0 ∨ sget [] s.hif.coal g = [] then s
  else s.afterUs (sget 0 s.hif.coalAt g) (s.get (F.HIF_COAL_TIME g)) (fun s => s.signalGroup g)

/-- A write of HIF_COAL may leave a group with as many completions as it asks for (R384). -/
def State.coalWrite (s : State) (g : Nat) : State :=
  if sget [] s.hif.coal g ≠ [] ∧ atLeast1 (s.get (F.HIF_COAL_COUNT g)) ≤ (sget [] s.hif.coal g).length then s.signalGroup g else s

/-! DIG (R344). -/

/-- A member message on the clasp link: DST names the peer once paired (R342, log 24). -/
def State.sendMember (s : State) (code : Nat) (body : List Byte) : State :=
  if s.portUp? 15 then
    let dst := if s.clasp.everPaired then s.get F.CLASP_PEER_DIE else dstPeer
    s.sendVc0 15 (vc0Bytes code dst s.dieNo 0 (padWord body))
  else s

/-- The body that DIG and ECHO share (R344): `fl` is byte 18. -/
def digBody (seq r ix origin stream key digest fl : Nat) : List Byte :=
  leBytes 4 seq ++ leBytes 2 (r % 2 ^ 13) ++ leBytes 2 ix ++ leBytes 2 (origin % 1024 + stream % 16 * 2 ^ 12) ++ leBytes 2 fl
    ++ leBytes 4 key ++ leBytes 4 digest

/-- The identity key of a unit (R344). -/
def unitKeyOf (stream : Nat) (bs : List Byte) : Nat :=
  crc32c (if stream = 0 then (bs.drop 8).take 10 else bs.take 16)

/-- The active has written a record (R344): SEQ rises and DIG goes to the peer, whose ECHO is awaited unless it is still being
copied. -/
def State.recordWritten (s : State) (r ix origin stream key : Nat) (rec : List Byte) : State :=
  if s.clasped ∧ s.clState = clActive then
    let d := crc32c rec
    let seq := (s.rd Reg.CLASP_SEQ + 1) % 2 ^ 32
    let s0 := s.wr Reg.CLASP_SEQ seq
    let w : DigOut := { seq := seq, digest := d, at' := s.time.slots }
    let awaits : Bool := s.clasp.linkUp && !s.on F.CLASP_STATUS_ALONE
    let s1 := { s0 with clasp := { s.clasp with
      xors := s.clasp.xors ^^^ d
      digs := if awaits then s.clasp.digs ++ [w] else s.clasp.digs } }
    s1.sendMember 0x41 (digBody seq r ix origin stream key d 0)
  else s

/-! Commands of a ring in order (R365, R366, R386). -/

/-- The 16 bytes of a command completion (R365). -/
def State.cmdBytes (s : State) (r : Nat) (c : HCmd) (status detail data die : Nat) : List Byte :=
  leBytes 4 data ++ leBytes 4 (detail % 2 ^ 24) ++ leBytes 2 (die % 1024) ++ leBytes 2 c.tag ++ leBytes 2 0
    ++ leBytes 1 status ++ leBytes 1 (s.phaseBit r c.ix)

/-- Completions of a ring are written in index order, as far as they are ready: at most `k` (R366). -/
def writeDone (r : Nat) : Nat → State → State
  | 0, s => s
  | k + 1, s =>
    match s.cmdsOf r with
    | [] => s
    | c :: cs =>
      match c.place with
      | .done status detail data die =>
        let bs := s.cmdBytes r c status detail data die
        let s1 := ((s.setCmds r cs).headUp r 1).emit (.dmaWrite (s.descAddr r c.ix + 16) bs)
        let s2 := s1.completionNoted r (decide (bitsOf c.flags 1 1 = 1))
        writeDone r k (s2.recordWritten r c.ix die 4 (crc32c bs) bs)
      | _ => s

/-- What is ready on a ring is written, by the member that writes (R343, R386). -/
def State.flushRing (s : State) (r : Nat) : State :=
  if s.dmaOn ∧ s.ringOn r then writeDone r (s.cmdsOf r).length s else s

/-- Set where the command at an index of a ring stands. -/
def State.setPlace (s : State) (r ix : Nat) (p : CmdAt) : State :=
  s.setCmds r ((s.cmdsOf r).map (fun (c : HCmd) => if c.ix = ix then { c with place := p } else c))

/-- A command completes (R365): its completion is written once every earlier one of its ring has been. -/
def State.completeCmd (s : State) (r ix status detail data die : Nat) : State :=
  (s.setPlace r ix (.done status detail data die)).flushRing r

/-- The next command of a ring that may be issued (R366, R378): the first not issued, with fewer than 16 in flight, and behind a
fence only once every earlier one has completed. Without CMD_FENCE every command is fenced. -/
def State.nextCmd (s : State) (r : Nat) : Option HCmd :=
  let cs := s.cmdsOf r
  let before := cs.takeWhile (fun c => decide (c.place ≠ .waiting))
  match cs[before.length]? with
  | none => none
  | some c =>
    let fenced := !s.feat 7 || decide (bitsOf c.flags 0 1 = 1)
    let quiet := before.all (fun b => match b.place with | .done _ _ _ _ => true | _ => false)
    if ¬ s.ringOn r ∨ s.ringType r ≠ 1 ∨ 16 ≤ before.length ∨ (fenced ∧ ¬ quiet) then none else some c

/-! The delivered form of a unit (R228, R269, R280–R283, R371, R372). -/

/-- What is written for a unit: its bytes, and what its last completion says (R369). -/
structure Image where
  bytes  : List Byte
  tags   : Bool := false
  bad    : Bool := false
  poison : Bool := false
  masked : Bool := false
  noTags : Bool := false

/-- A header flag of a fragment set or cleared. -/
def setFragFlag (bs : List Byte) (k v : Nat) : List Byte := overlay bs 6 (leBytes 2 (setBits (fragFlags bs) k 1 v))

/-- A fragment with another block: LENGTH follows. -/
def withBlock (bs block : List Byte) (trailer : Nat) : List Byte :=
  overlay (bs.take (fragHdr bs) ++ block ++ leBytes 4 trailer) 0 (leBytes 3 (fragHdr bs + block.length + 4))

/-- The nugget carries POISON in its extended flag byte (R258). -/
def Nug.poisoned (g : Nug) : Bool := g.escaped && decide (bitsOf g.ext 6 1 = 1)

/-- Every nugget of a fragment looked up: those kept, with their tag words, and the state (R228). Where nothing may be removed,
every nugget is kept. -/
def lookupAll (die : Nat) (remove : Bool) : List Nug → State → List (Nug × Nat) × State
  | [], s => ([], s)
  | g :: gs, s =>
    let (m, tag, s1) := lodeLookup die g.chan s
    let s2 := if m && remove then s1.inc Reg.VAULT_LODE_MASKED_CNT else s1
    let (rest, s3) := lookupAll die remove gs s2
    (if m && remove then rest else (g, tag) :: rest, s3)

/-- The lode tag block: two bytes a nugget, padded to a multiple of 4 (R371). -/
def tagBlock (ts : List Nat) : List Byte := padWord (ts.flatMap (fun t => leBytes 2 t))

/-- A fragment that passed its check, with the nuggets that stay (R283). -/
def State.passedFrag (s : State) (bs : List Byte) (coded decomp : Bool) (tsel : Nat) (gs kept : List Nug) : List Byte × State :=
  if kept.length = gs.length then
    if coded ∧ decomp then (setFragFlag (withBlock bs (rawBlock gs) (fragTrailer bs)) 0 0, s) else (bs, s)
  else
    let raw := rawBlock kept
    let recode := coded && !decomp
    let (blk, s1) := if recode then s.codingEnds tsel kept else (raw, s)
    let b1 := withBlock bs blk (crc32c raw)
    let b2 := setFragFlag (setFragFlag (setFragFlag b1 12 1) 9 (b2n (kept.any Nug.poisoned))) 0 (b2n recode)
    (overlay (overlay b2 24 (leBytes 4 kept.length)) 28 (leBytes 4 (kept.filter Nug.escaped).length), s1)

/-- A fragment as it goes to a ring (R228, R280–R283, R371, R372). -/
def State.fragImageFor (s : State) (bs : List Byte) (decomp tags : Bool) : Image × State :=
  let origin := byteField bs 4 2 % 1024
  match fragNugs bs with
  | none =>
    ({ bytes := setFragFlag bs 10 1, bad := true, noTags := tags },
     (s.inc Reg.FACET_FORMAT_ERR_CNT).flag F.FACET_STATUS_FORMAT_ERR)
  | some (tsel, gs) =>
    let ok := trailerOk bs gs
    let (kept, s1) := lookupAll origin ok gs s
    let ks := kept.map (fun k => k.1)
    let (b, s2) :=
      if ok then s1.passedFrag bs (fragFlag bs 0) decomp tsel gs ks
      else (setFragFlag (setFragFlag (withBlock bs (rawBlock gs) (fragTrailer bs)) 0 0) 10 1,
            (s1.inc Reg.FACET_BADCHECK_CNT).flag F.FACET_STATUS_BADCHECK)
    let n := (ks.filter Nug.poisoned).length
    ({ bytes := b ++ (if tags then tagBlock (kept.map (fun k => k.2)) else [])
       tags := tags, bad := !ok, poison := decide (0 < n), masked := decide (ks.length < gs.length) },
     s2.incBy Reg.RING_POISON_NUG_CNT n)

/-- Bytes of a unit of another stream without an end-to-end tag, from its own header (R211, R376, R439, R463). -/
def bareLen (stream : Nat) (bs : List Byte) : Nat :=
  if stream = 2 then 64 + 2 * byteField bs 12 2
  else if stream = 3 then (if byteField bs 0 1 = 3 then 24 + 2 * byteField bs 12 2 else 16 + 8 * byteField bs 12 2)
  else if stream = 4 then 16 + 4 * byteField bs 6 2
  else if stream = 5 then 32
  else bs.length

/-- A unit carries an end-to-end tag (R269; log 25). -/
def BUnit.tagged (u : BUnit) : Bool :=
  if u.stream = 0 then fragFlag u.bytes 13 else decide (u.bytes.length = bareLen u.stream u.bytes + 8)

/-- A unit with its end-to-end tag removed (R269). -/
def BUnit.bare (u : BUnit) : List Byte :=
  if u.tagged then
    let b := u.bytes.take (u.bytes.length - 8)
    if u.stream = 0 then overlay (setFragFlag b 13 0) 0 (leBytes 3 b.length) else b
  else u.bytes

/-- The tag of a tagged unit under a key (R409). -/
def BUnit.tagOk (u : BUnit) (key : List Byte) : Bool :=
  let b := u.bytes.take (u.bytes.length - 8)
  decide ((Config.cmac key (if u.stream = 0 then fragImage b else b)).take 8 = u.bytes.drop (u.bytes.length - 8))

/-- A unit as it goes to a ring. -/
def State.imageFor (s : State) (u : BUnit) (r : Nat) : Image × State :=
  if u.stream = 0 then s.fragImageFor u.bare (s.on (F.RING_CFG_DECOMP r)) (s.on (F.RING_CFG_TAGS r))
  else ({ bytes := u.bare }, s)

/-! Mapping (R374). -/

/-- The entry of a stream in a packed pair of words. -/
def State.mapEntry (s : State) (base stream : Nat) : Nat := bitsOf (s.rd (base + 4 * (stream / 2))) (16 * (stream % 2)) 16

/-- The ring for a stream of an origin, or none where the unit is discarded (R374). -/
def State.ringFor (s : State) (origin stream : Nat) : Option Nat :=
  let m0 := s.mapEntry (Reg.RING_MAP origin) stream
  let m := if 0x8000 ≤ m0 then m0 else s.mapEntry (Reg.RING_DEF 0) stream
  let r := m % 8192
  let takes := decide (s.ringType r = 2) || (decide (s.ringType r = 3) && decide (stream = 1 ∨ stream = 3 ∨ stream = 4 ∨ stream = 5))
  if 0x8000 ≤ m ∧ takes = true ∧ s.ringOn r = true then some r else none

/-! Records (R369, R370, R373). -/

/-- The records of `bs` over the buffers of a DATA ring, with the bytes each takes; none where the buffers do not hold all of it. -/
def splitBufs : List HBuf → List Byte → Option (List (HBuf × List Byte) × List HBuf)
  | bufs, [] => some ([], bufs)
  | [], _ => none
  | b :: bufs, bs =>
    if b.len = 0 then none
    else
      match splitBufs bufs (bs.drop b.len) with
      | none => none
      | some (l, rest) => some ((b, bs.take b.len) :: l, rest)

/-- The completion of a record on a DATA ring (R369). -/
def State.dataBytes (s : State) (r ix n origin stream unit key status : Nat) : List Byte :=
  leBytes 4 n ++ leBytes 2 (origin % 1024 + stream % 16 * 2 ^ 12) ++ leBytes 2 unit ++ leBytes 4 key ++ leBytes 2 0
    ++ leBytes 1 status ++ leBytes 1 (s.phaseBit r ix)

/-- What UNIT says of a record (R369, R370): bits 3 to 6 only in the last. -/
def Image.unitBits (m : Image) (first last : Bool) : Nat :=
  b2n first + b2n last * 2 + b2n m.tags * 4 +
    (if last then b2n m.bad * 8 + b2n m.poison * 16 + b2n m.masked * 32 + b2n m.noTags * 64 else 0)

/-- The 24 data bytes of each entry on an EVENT ring (R373); at most `k` entries. -/
def splitEvents : Nat → List Byte → List (List Byte)
  | 0, _ => []
  | k + 1, bs => if bs.isEmpty then [] else bs.take 24 :: splitEvents k (bs.drop 24)

/-- An entry of an EVENT ring (R373). -/
def State.eventBytes (s : State) (r ix origin stream : Nat) (first last : Bool) (bs : List Byte) : List Byte :=
  padTo 24 bs ++ leBytes 2 (origin % 1024 + stream % 16 * 2 ^ 12) ++ leBytes 1 (bs.length + b2n first * 64 + b2n last * 128)
    ++ leBytes 3 0 ++ leBytes 1 0 ++ leBytes 1 (s.phaseBit r ix)

/-- Header bytes of a unit, which the first record's writes put down last (R370). -/
def headerLen (stream : Nat) (bs : List Byte) : Nat :=
  if stream = 0 then fragHdr bs else if stream = 2 then 64 else if stream = 5 then 32 else 16

/-- The records of a unit over a DATA ring's buffers: data, the first header last, then the completions in index order, each with
its DIG and its interrupt (R370, R383). -/
def State.writeData (s : State) (r origin stream key : Nat) (m : Image) (fresh : Bool) (recs : List (HBuf × List Byte)) : State :=
  let h := if fresh then headerLen stream m.bytes else 0
  let body := match recs with
    | [] => []
    | (b, bs) :: rest =>
      (if h < bs.length then [Out.dmaWrite (b.addr + h) (bs.drop h)] else []) ++
        rest.map (fun x => Out.dmaWrite x.1.addr x.2) ++ (if 0 < h then [Out.dmaWrite b.addr (bs.take h)] else [])
  let n := recs.length
  let s1 := s.emits body
  ((List.range n).zip recs).foldl (fun s e =>
    let i := e.1
    let b := e.2.1
    let bs := e.2.2
    let last := decide (i + 1 = n)
    let cb := s.dataBytes r b.ix bs.length origin stream (m.unitBits (fresh && decide (i = 0)) last) key (b2n (m.bad && last))
    let s1 := (s.headUp r 1).emit (.dmaWrite (s.descAddr r b.ix + 16) cb)
    (s1.completionNoted r false).recordWritten r b.ix origin stream key bs) s1

/-- A unit over entries of an EVENT ring (R373). -/
def State.writeEvents (s : State) (r origin stream key : Nat) (fresh : Bool) (parts : List (List Byte)) : State :=
  let n := parts.length
  ((List.range n).zip parts).foldl (fun s e =>
    let ix := s.rd (Reg.RING_HEAD r)
    let bs := s.eventBytes r ix origin stream (fresh && decide (e.1 = 0)) (decide (e.1 + 1 = n)) e.2
    let s1 := (s.headUp r 1).emit (.dmaWrite (s.descAddr r ix) bs)
    (s1.completionNoted r false).recordWritten r ix origin stream key bs) s

/-! Delivery (R370, R374–R376, R411). -/

/-- A unit may go to a ring: whole, and a fragment only once it is confirmed (R376); in SAFE only the die's own SAFE record and
response records (R460, log 26). -/
def State.deliverable (s : State) (u : BUnit) : Bool :=
  u.whole && !u.abort && !u.drop && !u.left && decide (u.part ≠ .quar) &&
    (decide (s.sys.run ≠ .safe) || decide (u.stream = 4) ||
      (decide (u.stream = 5 ∧ u.origin = s.dieNo) && decide (byteField u.bytes 1 1 = 3)))

/-- A unit leaves the buffer. -/
def State.removeUnit (s : State) (u : BUnit) : State :=
  { s with buf := { s.buf with units := s.buf.units.erase u } }

/-- A unit whose tag fails is discarded before the lookup (R411); one whose origin's key is not held makes the root send
E2E_RESTART (R408). None where the unit passes. -/
def State.tagCheck (s : State) (u : BUnit) : Option State :=
  if ¬ u.tagged then none
  else
    match s.e2eKeyOf u.origin with
    | none => some ((s.removeUnit u).e2eRestart u.origin)
    | some k =>
      if u.tagOk k.key ∨ (s.time.orbit < k.oldEnds ∧ k.old ≠ [] ∧ u.tagOk k.old) then none
      else some ((((s.removeUnit u).inc Reg.HALL_E2E_FAIL_CNT).flag F.HALL_STATUS_E2E_FAIL).warn F.HALL_STATUS_E2E_FAIL u.origin)

/-- The command completes with its response record: one of this die, or CFG_RD_BLOCK or LOG_READ at another (R367, R376). -/
def HCmd.awaitsRecord (c : HCmd) : Bool :=
  match c.place with
  | .record => true
  | .flight _ => decide (c.op = 4 ∨ c.op = 0xB)
  | _ => false

/-- The command whose response record has been delivered completes (R376). -/
def State.recordDelivered (s : State) (origin : Nat) (bs : List Byte) : State :=
  let op := byteField bs 0 1
  let tag := byteField bs 4 2
  match s.hif.cmds.findSome? (fun e => (e.2.find? (fun (c : HCmd) =>
      c.awaitsRecord && decide (c.op = op ∧ c.tag = tag ∧ (c.die = origin ∨ c.die = dstPeer)))).map (fun c => (e.1, c.ix))) with
  | none => s
  | some (r, ix) => s.completeCmd r ix (byteField bs 1 1) 0 0 origin

/-- The unit goes to ring `r`, if the ring has room for all that remains of it; none otherwise (R370, R375). -/
def State.deliverTo (s : State) (u : BUnit) (r : Nat) : Option State :=
  let (m, s1) := s.imageFor u r
  let key := unitKeyOf u.stream u.bytes
  let bs := m.bytes.drop u.sentA
  let fresh := decide (u.sentA = 0)
  let out : Option State :=
    if s.ringType r = 2 then
      (splitBufs (s.bufsOf r) bs).map (fun x =>
        (s1.setBufs r x.2).writeData r u.origin u.stream key { m with bytes := bs } fresh x.1)
    else
      let parts := splitEvents bs.length bs
      if parts.length ≤ s.avail r then some (s1.writeEvents r u.origin u.stream key fresh parts) else none
  out.map (fun s2 =>
    let s3 := ((s2.removeUnit u).incWrap (Reg.RING_UNITS r)).unflag (F.RING_STATUS_WAITING r)
    fragOut (if u.stream = 4 then s3.recordDelivered u.origin u.bytes else s3))

/-- Units that no ring takes are discarded (R374). -/
def State.dropUnmapped (s : State) : State :=
  (s.buf.units.filter (fun u => s.deliverable u && (s.ringFor u.origin u.stream).isNone)).foldl (fun s u =>
    (s.removeUnit u).inc Reg.RING_UNMAPPED_CNT) s

/-- The first unit for ring `r`, in the order in which units became deliverable. -/
def State.unitFor (s : State) (r : Nat) : Option BUnit :=
  s.buf.units.find? (fun u => s.deliverable u && decide (s.ringFor u.origin u.stream = some r))

/-- The standby's own alerts, which it alone writes (R343, R351). -/
def State.ownAlert (s : State) : Option BUnit :=
  s.buf.units.find? (fun u => u.whole && decide (u.stream = 5 ∧ u.origin = s.dieNo))

/-- A unit waits for its ring (R375). -/
def State.tryDeliver (s : State) (u : BUnit) (r : Nat) : State :=
  match s.tagCheck u with
  | some s1 => s1
  | none =>
    match s.deliverTo u r with
    | some s1 => s1
    | none =>
      if s.on (F.RING_STATUS_WAITING r) then s
      else ({ s with hif := { s.hif with waitAt := sset 0 s.hif.waitAt r s.fNow } }).flag (F.RING_STATUS_WAITING r)

/-- The host DMA engine's grant goes to the group of ring `r` (R252, R244): none while another group holds it. A delivery ends
its transfer. -/
def State.dmaGrant (s : State) (r len : Nat) : State × Bool :=
  let g := r / 64
  let owns : State → Bool := fun t => (t.arb 34).owner.any (fun q => decide (q.r = g)) && !(t.arb 34).idle
  let s1 := if owns s then s else s.arbRequest 34 g (atLeast1 len)
  if owns s1 then (s1.arbDrop 34 g, true) else (s1, false)

/-- Ring `r` is served (R370–R376): the first unit that waits for it is looked up, checked and written. -/
def unitDeliver (r : Nat) (s : State) : State :=
  if s.dmaOn then
    let s1 := s.dropUnmapped
    match s1.unitFor r with
    | none => s1
    | some u =>
      let (s2, granted) := s1.dmaGrant r (ceilDiv u.bytes.length 64)
      if granted then s2.tryDeliver u r else s2
  else if s.clasped ∧ ¬ s.hif.d3 ∧ clStandby ≤ s.clState ∧ s.clState ≤ clSync ∧ r = s.get F.CLASP_CTRL_ALERT_RING ∧ s.ringOn r ∧
      (s.ringType r = 2 ∨ s.ringType r = 3) then
    match s.ownAlert with
    | none => s
    | some u => s.tryDeliver u r
  else s

/-- A unit has waited HIF_DROP_TMO on a ring with DROP (R375). -/
def ringDropTimeout (r : Nat) (s : State) : State :=
  if s.dmaOn ∧ s.on (F.RING_CFG_DROP r) ∧ s.on (F.RING_STATUS_WAITING r) then
    match s.unitFor r with
    | none => s
    | some u => s.afterUs (sget 0 s.hif.waitAt r) (atLeast1 (s.get F.HIF_DROP_TMO_TMO)) (fun s =>
        fragOut (((s.removeUnit u).inc (Reg.RING_DROP_CNT r)).unflag (F.RING_STATUS_WAITING r)))
  else s

end Sys2Proof.Machine
end

