-- ==== Sys2Proof/Machine/Safe.lean ====
section
/-! DEFINITION. SAFE (R460), the gating of the matrix (R9), and the configuration digest (R399). -/

namespace Sys2Proof.Machine

/-! The matrix powered down (R9, R102, R460). -/

/-- The state of every channel's pair is changed by `f`; the eight pairs of the UTIL inputs, which are always powered, keep
theirs, and with `all` they change too. -/
def State.mapPairs (s : State) (all : Bool) (f : Pair → Pair) : State :=
  let d := f s.vtdc.dflt
  let utils := (List.range 8).map (fun k => (32768 + k, if all then f (s.pair (32768 + k)) else s.pair (32768 + k)))
  let chans := (s.vtdc.pairs.filter (fun p => decide (p.1 < 32768))).map (fun p => (p.1, f p.2))
  { s with vtdc := { s.vtdc with dflt := d, pairs := (chans ++ utils).filter (fun p => decide (p.2 ≠ d)) } }

/-- Calibrations in progress are abandoned without being counted (R102): those of the matrix as it loses its power, and in SAFE
all of them. -/
def State.abandonCals (s : State) (all : Bool) : State := s.mapPairs all (fun p => { p with cal := false })

/-- Registers of FE, VTDC and TILE, but for FE_CTRL, which lies in the always-powered domain (R9). -/
def inMatrix (a : Nat) : Bool :=
  match blockOf a with
  | some .fe => decide (a ≠ Reg.FE_CTRL)
  | some .vtdc => true
  | some .tile => true
  | _ => false

/-- The tiles lose their power with all they hold: in retrievals that they have not completed they are missing (R155, R156), and their
segments stand idle. -/
def State.tilesLost (s : State) : State :=
  let lost : Frag → Frag := fun f => if f.started then (List.range 256).foldl (fun (f : Frag) t =>
      let p := sget {} f.parts t
      if p.complete ∨ p.missing then f
      else { f with parts := sset {} f.parts t { p with missing := true, words := p.words.take p.moved } }) f
    else f
  { s with tiles := [], asm := { s.asm with frags := s.asm.frags.map lost }
           arbs := s.arbs.filter (fun e => decide (16 ≤ e.1)) }

/-- A relay's FE, VTDC and TILE are held in reset: what was written there is lost, latched words with it (R9). The pairs of the
UTIL inputs keep their calibrations (R121). -/
def State.gateMatrix (s : State) : State :=
  let s1 := (s.mapPairs false (fun _ => {})).tilesLost
  { s1 with
    regs := s.regs.filter (fun p => !inMatrix p.1)
    fe := {}
    vtdc := { s1.vtdc with windows := 0 }
    bus := { latched := s.bus.latched.filter (fun p => !inMatrix p.1), held := s.bus.held.filter (fun p => !inMatrix p.1) } }

/-- The period trims that VTDC_P_STAT holds from the fuses until VTDC_PSEL is written (R5, R120). -/
def State.fuseTrims (s : State) : State :=
  (s.put F.VTDC_P_STAT_TRIM_A (ofSigned 5 (sget 0 s.fuse.pairTrim 0))).put F.VTDC_P_STAT_TRIM_B
    (ofSigned 5 (sget 0 s.fuse.pairTrim 1))

/-- A relay's FE, VTDC and TILE leave reset: their registers at reset values, fuse fields loaded (R9). -/
def State.ungateMatrix (s : State) : State :=
  ({ s with regs := s.regs.filter (fun p => !inMatrix p.1) }).fuseTrims

/-! The end of capture (R133). -/

/-- STOP commands complete as their transition is made (R367): those of the tree and those of this root's rings. -/
def State.stopsDone (s : State) : State :=
  let s1 := s.sys.stops.foldl (fun s e => s.answer e.1 e.2 0 0 0) s
  let s2 := { s1 with sys := { s1.sys with stops := [] } }
  s2.hif.cmds.foldl (fun s e => e.2.foldl (fun s (c : HCmd) =>
    if c.op = 7 ∧ c.place = .inside ∧ s.isMine c.die then s.completeCmd e.1 c.ix 0 0 0 s.dieNo else s) s) s2

/-- Capture ends (R133, R184, R213): a freeze ends, the retrievals that wait are issued as far as there is room, a dump is cut short,
and the die enters READY; its tiles free their entries once the retrievals are complete. The freeze ends with the transition to READY
(DEDUCED, log 99). -/
def State.endCapture (s : State) : State :=
  let s1 := (endFreeze s).beginFlush
  let s2 := issueAll (s1.trg.ready.length + s1.asm.waits.length) s1
  (((dumpStop s2).enter .ready).freeTiles).stopsDone

/-- The die enters SAFE and stops (R460): capture, trigger application, retrievals, tally and conversions end, the matrix powers
down, HOLDOVER goes into the marker blocks, and a clasp member is retired from its pair. -/
def State.toSafe (s : State) : State :=
  if s.sys.run = .safe then s
  else
    let s1 := (dumpStop (monStop (endFreeze s))).enter .safe
    let s2 := { (s1.abandonCals true).tilesLost with
      asm := { s1.asm with frags := [], groupFrom := none, waits := [], flush := none }
      trg := { s1.trg with queue := [], ready := [], groups := [] } }
    let s3 := (s2.unflag F.FE_STATUS_SETTLED).flag F.ORB_STATUS_HOLDOVER
    if s3.clasped then s3.put F.CLASP_STATUS_STATE clRetired else s3

/-- SAFE for a permanent fault or at the end of INIT, with its alert record (R19, R459, R460, R464). -/
def State.safeStop (s : State) (cause : Nat) : State := if s.sys.run = .safe then s else s.toSafe.safeRecord cause

/-! The configuration digest (R399). -/

/-- Bits of the word at an offset that the digest covers, or none where the word holds no Mode, Operating or Protected field. -/
def digestMask (a : Nat) : Option Nat :=
  if a = Reg.HIF_DB_BASE ∨ a = Reg.HIF_DB_BASE + 4 then none
  else
    match findReg a with
    | none => none
    | some h =>
      if h.blk = .fe ∧ h.row.off = 0x10000 then some (setBits (h.row.rw h.i h.j h.w) (F.FE_CH_MASK 0).lo 1 0)
      else
        match h.row.cls with
        | .mode | .operating | .prot => some (h.row.rw h.i h.j h.w)
        | _ => none

/-- The register words that the digest covers, in ascending offset. -/
def State.regImage (s : State) : List Byte :=
  (List.range 0x3B400).flatMap (fun i => match digestMask (4 * i) with
    | some m => leBytes 4 (s.rd (4 * i) &&& m)
    | none => [])

/-- The lode map as stored. -/
def State.lodeImage (s : State) : List Byte := (List.range 0x400000).flatMap (fun w => leBytes 8 (s.vword w % 2 ^ 64))

/-- The configuration digest of the settings in force (R399). -/
def State.configDigest (s : State) : List Byte :=
  padTo 32 (Config.sha256 (s.regImage ++ (if s.isRoot then padTo 32 (Config.sha256 s.lodeImage) else [])))

/-- A digested bit has changed (R399): DIGEST_VALID clears and the recomputation starts again. -/
def State.redigest (s : State) : State :=
  { s.unflag F.HALL_STATUS_DIGEST_VALID with hall := { s.hall with hashing := true } }

end Sys2Proof.Machine
end

