-- ==== Sys2Proof/Machine/Clasp.lean ====
section
/-! DEFINITION. The clasp pair (R340–R353, R410): witness rounds, pairing, lock-step, mismatches and self-checks, the state table,
switch-over, and the copy to a new standby. -/

namespace Sys2Proof.Machine

/-! States (R348). -/

/-- Set `CLASP_STATUS.STATE`. -/
def State.toClasp (s : State) (c : Nat) : State := s.put F.CLASP_STATUS_STATE c

/-- The active goes on without its peer (R348): ALONE and LINK_LOST are set, and an alert is raised. -/
def State.goAlone (s : State) : State :=
  let s1 := (s.flag F.CLASP_STATUS_ALONE).flag F.CLASP_STATUS_LINK_LOST
  ({ s1 with clasp := { s1.clasp with digs := [], copying := false } }).warn F.CLASP_STATUS_ALONE

/-- HOME with PROMOTE on every drift port in service (R349). -/
def State.homeAll (s : State) : State := s.driftsUp.foldl (fun s p => s.sendHome p true false) s

/-- After a switch-over the commands whose completion no DIG acknowledged are executed again (R386). -/
def State.reissue (s : State) : State :=
  { s with hif := { s.hif with cmds := s.hif.cmds.map (fun e =>
      (e.1, e.2.map (fun (c : HCmd) => { c with place := .waiting }))) } }

/-- The completions that waited while the member wrote nothing are written (R347, R366). -/
def State.flushAll (s : State) : State := s.hif.cmds.foldl (fun s e => s.flushRing e.1) s

/-- A standby becomes active (R349): HOME with PROMOTE, DMA from its shadow, outputs released; counted, with an INFO alert. -/
def State.switchOver (s : State) : State :=
  let s1 := (s.toClasp clActive).homeAll.reissue
  let s2 := { s1 with clasp := { s1.clasp with outHeld := false, lostOrbit := none, digs := [] } }
  ((s2.inc Reg.CLASP_SWITCH_CNT).alert .info Reg.CLASP_SWITCH_CNT 0xFF 0 0 0).flag F.CLASP_STATUS_ALONE

/-- A cold take-over (R353): COLD, an alert, run state READY, and marker blocks with HOLDOVER until the next ARM. -/
def State.coldTake (s : State) : State :=
  let s1 := if s.sys.run = .armed ∨ s.sys.run = .running ∨ s.sys.run = .hold then s.endCapture else s
  let s2 := (((s1.toClasp clActive).flag F.CLASP_STATUS_COLD).flag F.CLASP_STATUS_ALONE).flag F.ORB_STATUS_HOLDOVER
  ({ s2 with clasp := { s2.clasp with outHeld := false, lostOrbit := none, digs := [], cold := true } }).warn F.CLASP_STATUS_COLD

/-- A member retires (R347, R348): it enters SAFE with an alert. -/
def State.claspRetire (s : State) : State := ((s.warn F.CLASP_STATUS_STATE clRetired).toSafe).toClasp clRetired

/-- A member becomes the destination of a copy (R348, R352). -/
def State.startSync (s : State) : State :=
  let s1 := s.toClasp clSync
  { s1 with clasp := { s1.clasp with copyDone := 0, xors := 0, outHeld := false, lostOrbit := none } }

/-! Pairing (R342). -/

/-- PAIR (R342). -/
def State.sendPair (s : State) : State :=
  s.sendMember 0x40
    (leBytes 1 (s.get F.CLASP_STATUS_CLASP_ID + s.clState * 2 + s.sys.run.code * 32) ++ leBytes 3 0 ++ s.digest)

/-- The clasp link reaches UP (R342, R348): a member that is pairing and READY, or active, sends PAIR; a detached one, or
one whose copy the loss has cut off, starts SYNC and says so by PAIR (log 65). -/
def claspLinkUp (s : State) : State :=
  if ¬ s.clasped ∨ ¬ s.portUp? 15 then s
  else
    let s1 := { s with clasp := { s.clasp with linkUp := true, stateHeard := s.time.orbit } }
    let s2 := if s1.clState = clUnpaired then s1.toClasp clPairing else s1
    if s2.clState = clPairing then (if s2.sys.run = .ready then s2.sendPair else s2)
    else if s2.clState = clActive then s2.sendPair
    else if s2.clState = clDetached ∨ s2.clState = clSync then s2.startSync.sendPair
    else s2

/-- A failed pairing (R342). -/
def State.pairFail (s : State) (code : Nat) : State := (s.put F.CLASP_STATUS_PAIR_FAIL code).warn F.CLASP_STATUS_PAIR_FAIL code

/-- What a PAIR fails with, 0 for nothing (R342): 1 VERSION, 2 DIGEST, 3 ID. -/
def State.pairCheck (s : State) (id peerState : Nat) (digest : List Byte) : Nat :=
  if s.portVersion 15 < 3 ∨ ¬ s.portFeat 15 5 then 1
  else if digest ≠ s.digest then 2
  else if ¬ s.clasp.everPaired ∧ peerState ≤ clPairing ∧ id = s.get F.CLASP_STATUS_CLASP_ID then 3
  else 0

/-- PAIR received (R342, R348). -/
def pairReceived (src id peerState : Nat) (digest : List Byte) (s : State) : State :=
  if ¬ s.clasped ∨ ¬ s.portUp? 15 ∨ (s.clState ≠ clPairing ∧ s.clState ≠ clActive) then s
  else if s.clState = clPairing ∧ s.sys.run ≠ .ready then s
  else
    let code := s.pairCheck id peerState digest
    if code ≠ 0 then s.pairFail code
    else
      let own := s.get F.CLASP_STATUS_CLASP_ID
      let s1 := ((s.put F.CLASP_STATUS_PAIR_FAIL 0).put F.CLASP_PEER_CLASP_ID id).put F.CLASP_PEER_DIE src
      let s2 := { s1 with clasp := { s1.clasp with
        everPaired := true, pairDigest := digest, ueAt := s.rd Reg.VAULT_UE_CNT, votesAt := s.rd Reg.FAULT_VOTE_CNT
        stateHeard := s.time.orbit } }
      if s2.clState = clPairing then
        if peerState = clActive then s2.startSync
        else if own = 0 then s2.toClasp clActive
        else s2.toClasp clStandby
      else if peerState = clActive then
        let s3 := s2.warn F.CLASP_STATUS_STATE clActive
        if own = 0 then { s3 with clasp := { s3.clasp with copying := true, copySent := 0 } } else s3.startSync
      else { s2 with clasp := { s2.clasp with copying := true, copySent := 0 } }

/-! CHECK (R346–R348, R350). -/

/-- A member enters CHECK (R346, R348, R350): the standby's outputs hold. -/
def State.enterCheck (s : State) : State :=
  if s.clState = clActive ∨ s.clState = clStandby then
    let s1 := (if s.clState = clStandby then s.holdOutputs else s).toClasp clCheck
    { s1 with clasp := { s1.clasp with
      before := s.clState, ownResult := none, peerResult := none, checkFrom := s.time.slots } }
  else s

/-- A mismatch (R346): counted and flagged; CHECK goes to the peer, and the member enters it. Causes: 1 digest, 2 state, 3 state
missing. -/
def State.mismatch (s : State) (cause : Nat) : State :=
  if s.clState = clActive ∨ s.clState = clStandby then
    let s1 := (s.inc Reg.CLASP_MISMATCH_CNT).flag F.CLASP_STATUS_MISMATCH
    (s1.sendMember 0x44 (leBytes 4 (s.rd Reg.CLASP_SEQ) ++ leBytes 1 cause)).enterCheck
  else s

/-- The results decide (R348): 0 passed, otherwise failed. -/
def State.judge (s : State) : State :=
  if s.clState ≠ clCheck then s
  else
    let active := decide (s.clasp.before = clActive)
    match s.clasp.ownResult, s.clasp.peerResult with
    | some 0, some 0 =>
      let s1 := (s.toClasp s.clasp.before).inc Reg.CLASP_TRANSIENT_CNT
      ({ s1 with clasp := { s1.clasp with outHeld := false, digs := [] } }).flushAll
    | some 0, some _ => (if active then s.toClasp clActive else s.switchOver).goAlone.flushAll
    | some (_ + 1), some 0 => s.claspRetire
    | some (_ + 1), some _ => if active then ((s.toClasp clActive).flag F.CLASP_STATUS_FAULTED).goAlone.flushAll else s.claspRetire
    | some (_ + 1), none => if active then s else s.claspRetire
    | _, _ => s

/-- The failed tests of the self-check, in the order of R347: bit 0 digest, 1 known-answer run, 2 votes, 3 lock, 4 vault. -/
def State.selfCheck (s : State) (knownOk : Bool) : Nat :=
  b2n (decide (s.configDigest ≠ s.clasp.pairDigest)) + b2n (!knownOk) * 2
    + b2n (decide (s.rd Reg.FAULT_VOTE_CNT ≠ s.clasp.votesAt)) * 4 + b2n (!s.locked) * 8
    + b2n (decide (s.rd Reg.VAULT_UE_CNT ≠ s.clasp.ueAt)) * 16

/-- The self-check ends (R347): RESULT is sent; a member that has not completed it within 256 slots retires itself. -/
def selfCheckDone (knownOk : Bool) (s : State) : State :=
  if s.clState ≠ clCheck ∨ s.clasp.ownResult ≠ none then s
  else if s.clasp.checkFrom + 256 < s.time.slots then s.claspRetire
  else
    let m := s.selfCheck knownOk
    let s1 := s.sendMember 0x45 (leBytes 1 (b2n (decide (m ≠ 0))) ++ leBytes 1 m)
    ({ s1 with clasp := { s1.clasp with
      ownResult := some m, ueAt := s.rd Reg.VAULT_UE_CNT, votesAt := s.rd Reg.FAULT_VOTE_CNT } }).judge

/-- CHECK received (R346). -/
def checkReceived (s : State) : State := if s.clasped ∧ s.portUp? 15 then s.enterCheck else s

/-- RESULT received (R348). -/
def resultReceived (fails : Bool) (s : State) : State :=
  if ¬ s.clasped ∨ s.clState ≠ clCheck then s
  else ({ s with clasp := { s.clasp with peerResult := some (b2n fails) } }).judge

/-- 256 slots of CHECK have passed (R347, R348): a member that has not completed its own check retires itself, and one that has
passed it with no RESULT from its peer goes on alone. -/
def checkResultTimeout (s : State) : State :=
  if s.clState ≠ clCheck then s
  else if s.clasp.ownResult = none then s.reachSlot (s.clasp.checkFrom + 256) State.claspRetire
  else if s.clasp.ownResult ≠ some 0 ∨ s.clasp.peerResult ≠ none then s
  else s.reachSlot (s.clasp.checkFrom + 256) (fun s =>
    (if s.clasp.before = clActive then s.toClasp clActive else s.switchOver).goAlone.flushAll)

/-! Lock-step (R344–R346). -/

/-- STATE_DIGEST (R345). -/
def stateDigest (seq trig xors : Nat) : Nat := crc32c (leBytes 4 seq ++ leBytes 4 trig ++ leBytes 4 xors)

/-- The standby compares once its shadow has reached the SEQ of the peer's STATE (R345, R346). -/
def State.compareState (s : State) : State :=
  match s.clasp.stateWaits with
  | none => s
  | some (seq, d) =>
    if s.clState ≠ clStandby ∨ s.rd Reg.CLASP_SEQ ≠ seq then s
    else
      let s1 := { s with clasp := { s.clasp with stateWaits := none } }
      if stateDigest seq s.clasp.trigAt s.clasp.xors = d then s1 else s1.mismatch 2

/-- A CLASP_DIGEST entry fires (R345): each member sends STATE. -/
def State.sendState (s : State) : State :=
  let trig := s.rd Reg.TRG_EVT
  let seq := s.rd Reg.CLASP_SEQ
  let s1 := { s with clasp := { s.clasp with trigAt := trig } }
  s1.sendMember 0x43 (leBytes 4 s.time.orbit ++ leBytes 4 seq ++ leBytes 4 trig ++ leBytes 4 (stateDigest seq trig s.clasp.xors))

/-- CLASP_DIGEST in the calendar (R345, R47). -/
def calClaspDigest (i : Nat) (s : State) : State :=
  s.calFire i 0x0A (fun s => s.sys.run.capturing) (fun _ s => if s.clasped then s.sendState else s)

/-- STATE received (R345). -/
def stateReceived (seq digest : Nat) (s : State) : State :=
  if ¬ s.clasped ∨ ¬ s.portUp? 15 then s
  else
    ({ s with clasp := { s.clasp with
      stateHeard := s.time.orbit
      stateWaits := if s.clState = clStandby then some (seq, digest) else none } }).compareState

/-- No STATE for 2 orbits while the link is UP (R346). -/
def stateMissing (s : State) : State :=
  if s.clasped ∧ s.clasp.linkUp ∧ s.clasp.stateHeard + 2 ≤ s.time.orbit then
    ({ s with clasp := { s.clasp with stateHeard := s.time.orbit } }).mismatch 3
  else s

/-- The record that the standby builds for a DIG (R344): its bytes, and the state with its shadow moved on; none where it holds no
such unit, or cannot build the record at that place. -/
def State.shadowRecord (s : State) (r ix origin stream key : Nat) : Option (List Byte × State) :=
  if s.rd (Reg.RING_HEAD r) ≠ ix ∧ s.rd (Reg.RING_HEAD r) % 2 ^ 16 ≠ ix then none
  else if s.ringType r = 1 then
    match s.cmdsOf r with
    | [] => none
    | c :: cs =>
      match c.place with
      | .done status detail data die => some (s.cmdBytes r c status detail data die, (s.setCmds r cs).headUp r 1)
      | _ => none
  else
    match s.buf.units.find? (fun u => s.deliverable u && decide (u.origin = origin ∧ u.stream = stream ∧
        unitKeyOf u.stream u.bytes = key)) with
    | none => none
    | some u =>
      let (m, s1) := s.imageFor u r
      let left := m.bytes.drop u.sentA
      let fresh := decide (u.sentA = 0)
      let moved : Nat → State → State := fun n s =>
        let u' : BUnit := { u with sentA := u.sentA + n, named := true }
        if left.length ≤ n then (s.removeUnit u).incWrap (Reg.RING_UNITS r)
        else { s with buf := { s.buf with units := s.buf.units.map (fun x => if x = u then u' else x) } }
      if s.ringType r = 2 then
        match s.bufsOf r with
        | [] => none
        | b :: bs =>
          let part := left.take b.len
          some (part, moved part.length ((s1.setBufs r bs).headUp r 1))
      else
        let part := left.take 24
        some (s.eventBytes r ix origin stream fresh (decide (left.length ≤ 24)) part, moved part.length (s1.headUp r 1))

/-- A ring that the copy has reached (R352). -/
def State.ringCopied (s : State) (r : Nat) : Bool := decide (2112 + 32 * (r + 1) ≤ s.clasp.copyDone)

/-- The shadow advances by the active's record without a unit (R344). -/
def State.shadowSkip (s : State) (r : Nat) : State :=
  ((s.headUp r 1).setBufs r ((s.bufsOf r).drop 1)).setCmds r (if s.ringType r = 1 then (s.cmdsOf r).drop 1 else s.cmdsOf r)

/-- DIG received (R344, R346, R352): the standby builds the record and answers with ECHO; during a copy it only follows. -/
def digReceived (seq r ix origin stream key digest : Nat) (s : State) : State :=
  if ¬ s.clasped ∨ (s.clState ≠ clStandby ∧ s.clState ≠ clSync) then s
  else
    let s1 := s.wr Reg.CLASP_SEQ seq
    let s1 := { s1 with clasp := { s1.clasp with xors := s1.clasp.xors ^^^ digest } }
    if s.clState = clSync then
      if s.ringCopied r then (match s1.shadowRecord r ix origin stream key with
        | some (_, s2) => s2
        | none => s1.shadowSkip r) else s1
    else
      match s1.shadowRecord r ix origin stream key with
      | some (bs, s2) =>
        let d := crc32c bs
        let s3 := s2.sendMember 0x42 (digBody seq r ix origin stream key d 0)
        fragOut ({ s3 with clasp := { s3.clasp with xors := s3.clasp.xors ^^^ digest ^^^ d } }).compareState
      | none =>
        let s2 := (s1.shadowSkip r).inc Reg.CLASP_ABSENT_CNT
        (s2.sendMember 0x42 (digBody seq r ix origin stream key digest 1)).compareState

/-- ECHO received (R346). -/
def echoReceived (seq : Nat) (absent : Bool) (digest : Nat) (s : State) : State :=
  match s.clasp.digs.find? (fun d => decide (d.seq = seq)) with
  | none => s
  | some d =>
    let s1 := { s with clasp := { s.clasp with digs := s.clasp.digs.filter (fun x => decide (x.seq ≠ seq)) } }
    if absent ∨ digest = d.digest then s1 else s1.mismatch 1

/-- No ECHO within TMO slots of a DIG (R346). -/
def echoTimeout (seq : Nat) (s : State) : State :=
  match s.clasp.digs.find? (fun d => decide (d.seq = seq)) with
  | none => s
  | some d =>
    s.reachSlot (d.at' + atLeast1 (s.get F.CLASP_CMP_TMO)) (fun s =>
      ({ s with clasp := { s.clasp with digs := s.clasp.digs.filter (fun x => decide (x.seq ≠ seq)) } }).mismatch 1)

/-- A unit that no DIG names within HOLD orbits is freed (R344, R351); the standby's own alerts go to its own ring. -/
def claspOrphan (s : State) : State :=
  if ¬ s.clasped ∨ (s.clState ≠ clStandby ∧ s.clState ≠ clDetached) then s
  else
    let due : BUnit → Bool := fun u => u.whole && !u.named && decide (u.part ≠ .quar) &&
      !(decide (u.stream = 5 ∧ u.origin = s.dieNo)) &&
      decide (u.orbit + atLeast1 (s.get F.CLASP_CMP_HOLD) ≤ s.time.orbit)
    let n := (s.buf.units.filter due).length
    fragOut (({ s with buf := { s.buf with units := s.buf.units.filter (fun u => !due u) } }).incBy Reg.CLASP_ORPHAN_CNT n)

/-! The link lost, and witnesses (R341, R348, R350, R351). -/

/-- The clasp link is lost (R348, R350). -/
def claspLinkLost (s : State) : State :=
  if ¬ s.clasped ∨ s.portUp? 15 ∨ ¬ s.clasp.linkUp then s
  else
    let s1 := { s with clasp := { s.clasp with linkUp := false } }
    if s1.clState = clActive then s1.goAlone
    else if s1.clState = clStandby then
      let s2 := s1.holdOutputs
      { s2 with clasp := { s2.clasp with lostOrbit := some s.time.orbit } }
    else if s1.clState = clSync then { s1 with clasp := { s1.clasp with lostOrbit := some s.time.orbit } }
    else s1

/-- A standby becomes DETACHED (R351): outputs driven as in lock-step, LINK_LOST, an alert of its own. -/
def State.detach (s : State) : State :=
  let s1 := (s.toClasp clDetached).flag F.CLASP_STATUS_LINK_LOST
  ({ s1 with clasp := { s1.clasp with outHeld := false, majorities := 0 } }).warn F.CLASP_STATUS_LINK_LOST

/-- A round's verdict acts on the member's state (R348). -/
def State.roundActs (s : State) (orbit : Nat) (majority : Bool) : State :=
  let after : Bool := match s.clasp.lostOrbit with | some o => decide (o < orbit) | none => false
  if s.clState = clStandby ∧ after = true then (if majority then s.switchOver else s.detach)
  else if s.clState = clDetached then
    let n := if majority then s.clasp.majorities + 1 else 0
    let s1 := { s with clasp := { s.clasp with majorities := n } }
    if 2 ≤ n then s1.coldTake else s1
  else if s.clState = clSync ∧ majority = true ∧ s.clasp.lostOrbit.isSome then s.coldTake
  else s

/-- The open round is a majority (R341). -/
def State.isMajority (s : State) : Bool :=
  decide (1 ≤ s.witnesses) && decide (ceilDiv s.witnesses 2 ≤ s.tree.silent.length)

/-- A root counts a WITNESS of the open round (R341): `shaft` and `alt` are its two words. A STANDBY acts as soon as the round is a
majority; in the other states the table waits for its close (R348). -/
def witnessReceived (src orbit shaft alt : Nat) (s : State) : State :=
  if ¬ s.clasped ∨ ¬ s.tree.dups.contains src then s
  else
    let s1 := if s.tree.round = some orbit then s
      else { s with tree := { s.tree with round := some orbit, heard := [], silent := [] } }
    let peer := s.get F.CLASP_PEER_DIE
    let silent := [shaft, alt].any (fun w => decide (w % 1024 = peer ∧ bitsOf w 15 1 = 0))
    if s1.tree.heard.contains src then s1
    else
      let s2 := { s1 with tree := { s1.tree with
        heard := src :: s1.tree.heard, silent := if silent then src :: s1.tree.silent else s1.tree.silent } }
      let s3 := s2.put F.CLASP_WIT_STATUS_SILENT s2.tree.silent.length
      if s3.clState = clStandby ∧ s3.isMajority ∧ s3.clasp.judged ≠ some orbit then
        ({ s3 with clasp := { s3.clasp with judged := some orbit } }).roundActs orbit true
      else s3

/-- The round of this orbit closes at DEADLINE (R341). -/
def witnessRoundClose (s : State) : State :=
  if ¬ s.clasped then s
  else
    s.reach (s.get F.CLASP_WIT_DEADLINE) 0 (fun s =>
      let o := s.time.orbit
      let s1 := if s.tree.round = some o then s else { s with tree := { s.tree with heard := [], silent := [] } }
      let s2 := s1.put F.CLASP_WIT_STATUS_SILENT s1.tree.silent.length
      let s3 := { s2 with tree := { s2.tree with round := none } }
      if s.clasp.judged = some o then s3 else s3.roundActs o s2.isMajority)

/-- `CLASP_CMD.PROMOTE` (R348). -/
def claspPromote (s : State) : State :=
  if s.clState = clStandby then s.switchOver else if s.clState = clDetached then s.coldTake else s

/-! The copy (R352). -/

/-- Bytes of the copy image. -/
abbrev imageSize : Nat := 264256

/-- A number's entry in the image: its drift in bits 3:0, and bit 4 and its parent's number in bits 14:5 if the root's table holds
it (log 27). -/
def State.imageDie (s : State) (n : Nat) : List Byte :=
  leBytes 2 (s.routeOf n + (match s.joinOf n with | some j => 16 + j.parent % 1024 * 32 | none => 0))

/-- A number's entry of the image is loaded. -/
def State.loadDie (s : State) (n w : Nat) : State :=
  let s1 := s.put (F.TREE_ROUTE_DRIFT n) (w % 16)
  if bitsOf w 4 1 = 1 then s1.tableJoin { die := n, parent := bitsOf w 5 10, drift := 0xF, level := 0 }
  else { s1 with tree := { s1.tree with joins := s1.tree.joins.filter (fun j => decide (j.die ≠ n)) } }

/-- The level of a number by the parents in the table, within `k` levels. -/
def State.tableLevel (s : State) : Nat → Nat → Nat
  | 0, _ => 1
  | k + 1, n => match s.joinOf n with
    | some j => s.tableLevel k j.parent + 1
    | none => 1

/-- The levels of a copied table follow from its parents (R16). -/
def State.relevel (s : State) : State :=
  { s with tree := { s.tree with joins := s.tree.joins.map (fun j => { j with level := s.tableLevel 5 j.die }) } }

/-- The copy image at this moment (R352, log 27). -/
def State.claspImage (s : State) : List Byte :=
  padTo 64 (leBytes 4 s.time.orbit ++ leBytes 4 (s.rd Reg.TRG_EVT) ++ leBytes 4 (s.rd Reg.CLASP_SEQ) ++ leBytes 4 s.clasp.xors
      ++ leBytes 4 (s.rd Reg.CLASP_STATUS))
    ++ (List.range 1024).flatMap s.imageDie
    ++ (List.range 8192).flatMap (fun r => s.wordBytes (Reg.RING_BASE r) 8)

/-- What the copy compares at COMMIT: the image without the words in which the members differ by their role (log 27). -/
def State.imageHash (s : State) : List Byte :=
  padTo 32 (Config.sha256 (leBytes 4 (s.rd Reg.CLASP_SEQ) ++ leBytes 4 s.clasp.xors ++ (s.claspImage.drop 64)))

/-- Up to `k` chunks in image order (R352). -/
def sendChunks : Nat → State → State
  | 0, s => s
  | k + 1, s =>
    let o := s.clasp.copySent
    if imageSize ≤ o then s
    else
      let s1 := s.sendMember 0x46 (leBytes 4 o ++ leBytes 4 (s.rd Reg.CLASP_SEQ) ++ slice s.claspImage o 1000)
      sendChunks k { s1 with clasp := { s1.clasp with copySent := min imageSize (o + 1000) } }

/-- In a quiet window the active sends chunks, and after the last one COMMIT (R352). -/
def claspChunkSend (s : State) : State :=
  if ¬ s.clasped ∨ s.clState ≠ clActive ∨ ¬ s.clasp.copying ∨ ¬ s.clasp.linkUp ∨ ¬ s.quietWork ∨ imageSize ≤ s.clasp.copySent then s
  else
    let s1 := sendChunks (atLeast1 (s.get F.CLASP_SYNC_CHUNKS)) s
    if imageSize ≤ s1.clasp.copySent then
      s1.sendMember 0x47 (leBytes 4 (s1.rd Reg.CLASP_SEQ) ++ leBytes 4 imageSize ++ s1.imageHash)
    else s1

/-- The image's ring words and routes that chunk bytes at offset `o` carry are loaded, word by word. -/
def loadImage (o : Nat) : Nat → List Byte → State → State
  | 0, _, s => s
  | k + 1, bs, s =>
    if bs.length < 4 then s
    else
      let w := byteField bs 0 4
      let n := (o - 64) / 2
      let s1 :=
        if o < 64 then s
        else if o < 2112 then (s.loadDie n (w % 2 ^ 16)).loadDie (n + 1) (bitsOf w 16 16)
        else s.wr (Reg.RING_BASE 0 + (o - 2112)) w
      loadImage (o + 4) k (bs.drop 4) s1

/-- CHUNK received (R352): bytes load in order; the counters of the first wait for the next orbit start. -/
def chunkReceived (offset seq : Nat) (bs : List Byte) (s : State) : State :=
  if ¬ s.clasped ∨ s.clState ≠ clSync ∨ offset ≠ s.clasp.copyDone then s
  else
    let s1 := if offset = 0 then
        let s1 := s.wr Reg.CLASP_SEQ seq
        { s1 with clasp := { s1.clasp with
          xors := byteField bs 12 4, counters := some (s.time.orbit, byteField bs 0 4, byteField bs 4 4) } }
      else s
    let s2 := loadImage offset (bs.length / 4) bs s1
    { s2 with clasp := { s2.clasp with copyDone := offset + bs.length } }

/-- At an orbit start the copied counters load, advanced by the orbits elapsed (R352): the orbit that starts takes the next
number. -/
def State.claspOrbit (s : State) : State :=
  match s.clasp.counters with
  | none => s
  | some (at', orbit, trig) =>
    let s1 := { s with
      time := { s.time with orbit := (orbit + (s.time.orbit - at')) % 2 ^ 32 }
      clasp := { s.clasp with counters := none } }
    s1.wr Reg.TRG_EVT trig

/-- COMMIT received (R348, R352): an equal image ends the copy. -/
def commitReceived (hash : List Byte) (s : State) : State :=
  if ¬ s.clasped ∨ s.clState ≠ clSync then s
  else if s.imageHash = hash then
    let s1 := (s.toClasp clStandby).relevel.sendMember 0x48 (leBytes 1 0)
    { s1 with clasp := { s1.clasp with stateHeard := s.time.orbit, lostOrbit := none } }
  else
    let s1 := (s.sendMember 0x48 (leBytes 1 1)).inc Reg.CLASP_SYNC_RESTART_CNT
    { s1 with clasp := { s1.clasp with copyDone := 0 } }

/-- COMMIT_ACK received (R348): equal ends the copy and clears ALONE; else the copy starts again. -/
def commitAck (differs : Bool) (s : State) : State :=
  if ¬ s.clasped ∨ s.clState ≠ clActive ∨ ¬ s.clasp.copying then s
  else if differs then { s with clasp := { s.clasp with copySent := 0 } }
  else { s.unflag F.CLASP_STATUS_ALONE with clasp := { s.clasp with copying := false, digs := [] } }

/-! Keys (R410). -/

/-- A root takes an origin's end-to-end key; the one before it stands for 16 orbits (R408). -/
def State.takeE2eKey (s : State) (o : Nat) (key : List Byte) : State :=
  let rest := s.hall.keys.filter (fun k => decide (k.origin ≠ o))
  let k : E2eKey := match s.e2eKeyOf o with
    | none => { origin := o, key := key, at' := s.time.orbit }
    | some old => { origin := o, key := key, at' := s.time.orbit, old := old.key, oldEnds := s.time.orbit + 16 }
  { s with hall := { s.hall with keys := k :: rest } }

/-- KEY to the standby (R410), under the clasp link's traffic key with its next transmit counter. -/
def State.sendKey (s : State) (o : Nat) (key : List Byte) : State :=
  if s.clasped ∧ s.clState = clActive ∧ s.portUp? 15 then
    match (s.port 15).sess.tx with
    | none => s
    | some k =>
      let s1 := s.setPort 15 { s.port 15 with sess := { (s.port 15).sess with tx := some { k with ctr := k.ctr + 1 } } }
      let iv := ivOf k.salt k.ctr
      s1.sendMember 0x49 (leBytes 2 o ++ leBytes 2 0 ++ (leBytes 8 k.ctr).reverse ++ padTo 16 (Config.gcmCrypt k.key iv key)
        ++ padTo 16 (Config.gcmTag k.key iv [] key))
  else s

/-- KEY received (R410): decrypted and stored if its tag is right. -/
def keyReceived (o ctr : Nat) (ct tag : List Byte) (s : State) : State :=
  match (s.port 15).sess.rx with
  | none => s
  | some k =>
    let iv := ivOf k.salt ctr
    let key := padTo 16 (Config.gcmCrypt k.key iv ct)
    if s.clasped ∧ padTo 16 (Config.gcmTag k.key iv [] key) = tag then s.takeE2eKey o key else s

end Sys2Proof.Machine
end

