-- ==== Sys2Proof/Machine/Orbit.lean ====
section
/-! DEFINITION. Orbits (R36–R64), the calendar's entries (R47–R52), the exchange and the marker blocks (R53–R62, R295–R298),
and the WALL sources (R69–R73, R358), as operations. -/

namespace Sys2Proof.Machine

/-! Moments. -/

/-- Time reaches the F-cycle `d` F-cycles from now, if it lies within this orbit (log 7). -/
def State.ahead (s : State) (d : Nat) (k : State → State) : State := s.reachF (s.fNow + d) k

/-- Time reaches the start of the slot `d` slots from now; 0 is the slot that runs. -/
def State.aheadSlots (s : State) (d : Nat) (k : State → State) : State :=
  if d = 0 then k s else s.reachSlot (s.time.slots + d) k

/-- F-cycles from now to the end of the orbit. -/
def State.toOrbitEnd (s : State) : Nat := s.time.len * 64 - (s.time.slot * 64 + s.time.fcyc)

/-- A stamp of machine time in fine units (R295), `sub` fine units into the F-cycle; before the counters are loaded it counts
from reset. -/
def State.stampHere (s : State) (sub : Nat) : Nat :=
  if s.time.counting then s.stampNow (s.time.fcyc * 1024 + sub)
  else (s.time.slots * 65536 + s.time.fcyc * 1024 + sub) % 2 ^ 32

/-! Strike decay and lowered limits at an orbit start (R454, R455). -/

/-- Every non-zero counter of a type decreases by 1. -/
def State.decayType (s : State) (ty : Nat) : State :=
  { s with fault := { s.fault with strikes := s.fault.strikes.filterMap (fun p =>
      if p.1 / 2 ^ 20 = ty then (if p.2 ≤ 1 then none else some (p.1, p.2 - 1)) else some p) } }

/-- The decay of a type (R454). -/
def State.decayOf (s : State) (ty : Nat) : Nat := s.get (F.FAULT_POLICY_DECAY ty)

/-- One type's countdown at an orbit start; the first orbit start after the PLL locks starts it (R454). -/
def decayTick (s : State) (ty : Nat) : State :=
  let d := s.decayOf ty
  let c := sget 0 s.fault.count ty
  let load : Nat → State → State := fun v s => { s with fault := { s.fault with count := sset 0 s.fault.count ty v } }
  if d = 0 then load 0 s
  else if ¬ s.fault.started ∨ c = 0 then load d s
  else if c = 1 then load d (s.decayType ty)
  else load (c - 1) s

/-- The countdowns of all types at an orbit start (R454). -/
def State.decays (s : State) : State :=
  if s.fault.started ∨ s.on F.ORB_STATUS_PLL_LOCK then
    let s1 := ((List.range 9).map (· + 1)).foldl decayTick s
    { s1 with fault := { s1.fault with started := true } }
  else s

/-- The unit type's countdown expires at the orbit start that comes (R454): its counters decrease in this orbit's last
F-cycle, and that orbit start only reloads the countdown. -/
def strikeDecay (ty : Nat) (s : State) : State :=
  if s.fault.started ∧ sget 0 s.fault.count ty = 1 ∧ 0 < s.decayOf ty ∧ s.time.fRun ∧ s.time.counting then
    let s1 := (s.elapse (s.toOrbitEnd - 1)).decayType ty
    { s1 with fault := { s1.fault with count := sset 0 s1.fault.count ty (s1.decayOf ty + 1) } }
  else s

/-- A unit at its limit retires as its block's rule states (R92, R119, R156, R223, R319, R441, R452). -/
def State.retireUnit (s : State) (ty ix : Nat) : State :=
  if ty = 1 then s.pendRetire 1 ix
  else if ty = 2 then (s.retire 2 ix).dropCal ix
  else if ty = 3 then (s.retire 3 ix).tileDown ix
  else if ty = 4 then (List.range 16).foldl (fun s r => s.tileDown (r * 16 + ix)) (s.retire 4 ix)
  else if ty = 5 then s.laneRetire ix
  else if ty = 6 then s.portRetire ix
  else if ty = 7 then (s.retire 7 ix).queueRow ix
  else if ty = 8 then (s.retire 8 ix).flag (F.MON_IN_STAT_RETIRED ix)
  else if ty = 9 then s.parentRetire ix
  else s

/-- A lowered limit retires every unit of its type at or above it (R455). -/
def State.lowered (s : State) : State :=
  let s1 := s.fault.strikes.foldl (fun s p =>
    if s.fault.lowered.contains (p.1 / 2 ^ 20) ∧ s.atLimit (p.1 / 2 ^ 20) (p.1 % 2 ^ 20) then
      s.retireUnit (p.1 / 2 ^ 20) (p.1 % 2 ^ 20)
    else s) s
  { s1 with fault := { s1.fault with lowered := [] } }

/-! Orbit starts (R34, R39–R41, R48, R51, R296). -/

/-- The marker blocks of one drift port at slot 0 (R37, R43, R296). OFS is an open value: the block boundary is the lane's. -/
def State.sendMarker (s : State) (p : Nat) : State :=
  let (f, s1) := s.fresh
  let hold := s.on F.ORB_STATUS_HOLDOVER || decide (s.sys.run = .safe)
  let path := min (s.get F.TREE_STATUS_PATHV) (s.portVersion p)
  let om0 := s.time.orbit + s.time.len * 2 ^ 32 + b2n hold * 2 ^ 46 + path * 2 ^ 48
  let om2 := s.wallNs + (s.get F.ORB_PA_STATUS_CHAIN + f % 4096 * 2 ^ 12) * 2 ^ 32
  ((s1.block p 0x78 om0).block p 0x79 s.wallSec).block p 0x7A om2

/-- ORBIT is lost (R41). -/
def State.orbitLost (s : State) : State :=
  let n := atLeast1 (s.get F.ORB_CTRL_MISS_LIMIT)
  let sp := s.time.spacings.take n
  let same := decide (sp.length = n) && (match sp with
    | [] => false
    | x :: xs => xs.all (fun y => decide (y = x)) && decide (x ≠ s.time.len))
  let s1 := if same then s.flag F.ORB_STATUS_LEN_MISMATCH else s
  let s2 := s1.unflag F.ORB_STATUS_ORBIT_LOCK
  ({ s2 with time := { s2.time with missRun := 0, relockRun := 0 } }).loseTiming

/-- No marker at flywheel slot 0 (R40, R41). -/
def State.missing (s : State) : State :=
  let s1 := (s.flag F.ORB_STATUS_MISS).inc Reg.ORB_MISS_CNT
  let n := s.time.missRun + 1
  let s2 := { s1 with time := { s1.time with missRun := n } }
  if atLeast1 (s.get F.ORB_CTRL_MISS_LIMIT) ≤ n then s2.orbitLost else s2

/-- What an orbit's first slot brings: its marker as a TIU edge, calendar writes, the pending threshold offset, marker blocks, decay, and the per-orbit
evaluations of the blocks. -/
def State.orbitBegin (s : State) (above below : List Nat) : State :=
  let s1 := ((tiuMarker s).calUpdate).calRange
  let s2 := if s1.on F.ORB_STATUS_NO_QUIET then s1.ofsApply else s1
  let s3 := { s2 with fe := { s2.fe with injNow := s2.rd Reg.FE_INJ_CTRL }, wall := { s2.wall with atStart := s2.wall.t }
                      hall := { s2.hall with restarted := [] } }
  let s4 := s3.driftsUp.foldl State.sendMarker s3
  let s5 := (noiseCheck (leakUpdate above below s4)).decays.lowered
  let s6 := (List.range 16).foldl (fun s p =>
    s.put (F.HALL_PORT_LEVEL p) (s.get (F.HALL_PORT_LEVEL p) - 1)) s5
  let s7 := tallyOrbit (tallyMirror (busyRefresh s6))
  (s7.newChildResend).claspOrbit

/-- WALL takes WALL_SET (R73). -/
def State.wallLoad (s : State) : State :=
  let sec := s.rd Reg.WALL_SET + s.rd (Reg.WALL_SET + 4) % 2 ^ 16 * 2 ^ 32
  (s.setWall (((sec * 1000000000 + s.rd (Reg.WALL_SET + 8) % 2 ^ 30) * 2 ^ 32 : Nat) : Int)).flag F.WALL_STATUS_STEPPED

/-- What has waited for this slot takes effect. -/
def State.takeLater (s : State) : Later → State
  | .wallSet => s.wallLoad
  | .retire n => s.retireNow n
  | .trigWord w => trigStage w s
  | .unfreeze => endFreeze s
  | .tiuCmd abort start => tiuCommand abort start s

/-- All that has waited for this slot takes effect, in order. -/
def State.runLater (s : State) : State :=
  s.time.later.foldl State.takeLater { s with time := { s.time with later := [] } }

/-- The counters pass to a new orbit at this instant (R34, R39); a quiet window never spans an orbit boundary (R52), and what
waited for the new orbit's first slot takes effect. -/
def State.wrapOrbit (s : State) : State :=
  let reset := s.time.orbitReset
  let s1 := if s.time.orbit = 0xFFFFFFFF ∧ ¬ reset then s.flag F.ORB_STATUS_ORBIT_WRAP else s
  let s2 := { s1 with
    time := { s1.time with
      slot := 0, fcyc := 0, orbit := if reset then 0 else (s.time.orbit + 1) % 2 ^ 32, orbitReset := false
      len := s.get F.ORB_LEN_LEN, doneNow := [], fired := if s.time.rearm then [] else s.time.fired, rearm := false
      markerAge := s.time.markerAge + 1 }
    wall := { s1.wall with ptmAge := s1.wall.ptmAge.map (fun n => n + 1), ptmHeard := s1.wall.ptmHeard + 1 } }
  let s3 := if s2.on F.ORB_STATUS_QUIET then
      ({ s2 with time := { s2.time with
        quiets := s2.time.quiets.map (fun (w : Nat × Nat) => (w.1, min w.2 s2.time.slots)) } }).closeQuiet
    else s2
  s3.runLater

/-- The other shaft port at an orbit's end (R336): the mean offset of the orbit, and warmth lost with a missing marker. -/
def State.altOrbitEnd (s : State) : State :=
  match s.otherShaft with
  | none => s
  | some p =>
    let ts := s.phase.altThetas
    let s1 := if ts = [] then s else s.wrS Reg.TREE_ALT_OFS (roundDiv (thetaSum ts) (2 * ts.length))
    let s2 := { s1 with phase := { s1.phase with altThetas := [] } }
    if (s2.port p).heard ≠ some s2.time.orbit ∨ s2.get F.ORB_PA_CTRL_LOSS * 16 < (s2.rdS Reg.TREE_ALT_OFS).natAbs then
      s2.unflag F.TREE_STATUS_ALT_WARM
    else s2

/-- What an orbit's last F-cycle brings: a pending STOP of a RUNNING die (R133) and the phase loop's evaluation (R58), with the
strike of a loop that enters LOST (R452). A STOP that a HOLD overtook waits until the die runs again: in HOLD no orbit end is an
event of R19 (log 82). HOLD counts orbit ends, so the orbit in which it begins counts as one (DESIGN CHOICE, log 83). -/
def State.orbitEnd (s : State) : State :=
  let s1 := if s.sys.stopPend ∧ s.sys.run = .running then s.endCapture else s
  let s2 := s1.phaseOrbitEnd
  let s3 := if s2.pa = paLost ∧ s1.pa ≠ paLost then
      match s2.shaftPort with | some p => s2.strikeParent p | none => s2
    else s2
  let s4 := s3.altOrbitEnd
  { s4 with sys := { s4.sys with holdOrbits := if s4.sys.run = .hold then s4.sys.holdOrbits + 1 else 0 } }

/-- A new orbit starts (R39). `marker`: the ORBIT ball is high in its slot 0; `above` and `below`: the channels whose DC
current is above 200 nA and back below 190 nA (R75). -/
def orbitStart (marker : Bool) (above below : List Nat) (s : State) : State :=
  if s.time.fRun ∧ s.time.counting then
    let s1 := ((s.elapse s.toOrbitEnd).orbitEnd).wrapOrbit
    let s2 := if s1.srcBall ∧ s1.on F.ORB_STATUS_ORBIT_LOCK ∧ ¬ marker then s1.missing else s1
    s2.orbitBegin above below
  else s

/-- The counters start at slot 0 of the orbit in which they stood. -/
def State.startCounters (s : State) : State :=
  if s.time.counting then s
  else
    ({ s with time := { s.time with counting := true, slot := 0, fcyc := 0, len := s.get F.ORB_LEN_LEN } }).orbitBegin [] []

/-- Timing by the die's own clock and ORBIT is locked again: HOLDOVER ends, and HOLD with it (R19, R45). -/
def State.tryRegain (s : State) : State := if s.locked ∧ ¬ s.srcShaft then s.regainTiming else s

/-- The relock run is complete (R41): the marker's slot becomes slot 0. -/
def State.relocked (s : State) : State :=
  let s1 := s.flag F.ORB_STATUS_ORBIT_LOCK
  let s2 := { s1 with time := { s1.time with missRun := 0, relockRun := 0 } }
  let s3 := if ¬ s2.time.counting then s2.startCounters
    else if s2.time.slot = 0 then s2
    else (((s2.flag F.ORB_STATUS_REPHASED).orbitEnd).wrapOrbit).orbitBegin [] []
  s3.tryRegain

/-- A marker at the slot that runs (R36, R40, R41). -/
def State.markerHere (s : State) : State :=
  let t := s.time.slots
  if s.time.highAt.any (fun h => decide (h + 1 = t)) then
    ({ s with time := { s.time with highAt := some t } }).flag F.ORB_STATUS_WIDE
  else
    let sp := s.time.lastMark.map (fun l => t - l)
    let s1 := match sp with | some d => s.put F.ORB_MARK_MEAS_LEN (min 65535 d) | none => s
    let run := if s.time.relockRun ≠ 0 ∧ sp = some (s.get F.ORB_LEN_LEN) then s.time.relockRun + 1 else 1
    let s2 := { s1 with time := { s1.time with highAt := some t, lastMark := some t
                                               spacings := (sp.toList ++ s.time.spacings).take 15 } }
    if s2.on F.ORB_STATUS_ORBIT_LOCK then
      if s2.time.slot = 0 then { s2 with time := { s2.time with missRun := 0 } }
      else ((s2.flag F.ORB_STATUS_EXTRA).inc Reg.ORB_EXTRA_CNT).put F.ORB_MARK_EXTRA_SLOT s2.time.slot
    else if s2.on F.ORB_STATUS_PLL_LOCK then
      let s3 := { s2 with time := { s2.time with relockRun := run } }
      if atLeast1 (s.get F.ORB_CTRL_RELOCK) ≤ run then s3.relocked else s3
    else s2

/-- The ORBIT ball is sampled high `d` slots from now (R36). -/
def orbitMarkerSampled (d : Nat) (s : State) : State :=
  if s.srcBall ∧ s.time.fRun then s.aheadSlots d State.markerHere else s

/-- The STOP of a RUNNING die takes effect in the orbit's last F-cycle (R19, R133). -/
def stopOrbitEnd (s : State) : State :=
  if s.sys.stopPend ∧ s.sys.run = .running ∧ s.time.fRun ∧ s.time.counting then
    (s.elapse (s.toOrbitEnd - 1)).endCapture
  else s

/-- HOLD has lasted SYS_HOLD_LIMIT orbits (R19–R21); 0 never times out. -/
def holdLimitExpire (s : State) : State :=
  let n := s.get F.SYS_HOLD_LIMIT_LIMIT
  if s.sys.run = .hold ∧ n ≠ 0 ∧ n ≤ s.sys.holdOrbits then (s.endCapture).warn F.SYS_STATUS_RUN_STATE n else s

/-! The clock and its loss (R37, R44, R45). -/

/-- The PLL re-locks (R37, R45); the TIU sees a gap (R129). -/
def State.relock (s : State) : State := tiuGap (s.unflag F.ORB_STATUS_PLL_LOCK)

/-- BCLK or REFCLK is lost (R44). -/
def bclkLost (s : State) : State :=
  if s.srcBall ∨ s.srcRef then
    let s1 := ((s.relock).flag F.ORB_STATUS_BCLK_LOST).unflag F.ORB_STATUS_ORBIT_LOCK
    ({ s1 with time := { s1.time with missRun := 0, relockRun := 0 } }).loseTiming
  else s

/-- The clock returns and the PLL starts to re-lock (R45); PLL_LOCK says when it has. -/
def bclkReturn (s : State) : State :=
  if (s.srcBall ∨ s.srcRef) ∧ ¬ s.on F.ORB_STATUS_PLL_LOCK then
    { s with time := { s.time with relockRun := 0, highAt := none } }
  else s

/-- The state of the phase loop follows the clock source (R58). -/
def State.loopSource (s : State) : State :=
  if s.srcShaft then (if s.pa = paReference then s.put F.ORB_PA_STATUS_STATE paHunt else s)
  else
    let s1 := if s.pa = paReference ∨ s.pa = paAligned then s else s.sawOff s.time.slots
    (s1.put F.ORB_PA_STATUS_STATE paReference).put F.ORB_PA_STATUS_CHAIN 0

/-- ORB_CLK or ORB_LEN has changed (R37): the PLL re-locks. -/
def State.clockChanged (s : State) : State :=
  let s1 := (s.relock).loopSource
  { s1 with time := { s1.time with reload := s1.srcShaft, len := if s1.time.counting then s1.time.len else s1.get F.ORB_LEN_LEN } }

/-! The calendar's entries (R47–R52). -/

/-- RUN_START fires in ARMED, from the orbit of ORB_RUN_ORBIT on (R49, R50). -/
def calRunStart (i : Nat) (s : State) : State :=
  s.calFire i 1
    (fun t => decide (t.sys.run = .armed) && decide (0 ≤ toSigned 32 (ofSigned 32 ((t.time.orbit : Int) - t.rd Reg.ORB_RUN_ORBIT))))
    (fun _ t =>
      let s1 := (if t.quietAt t.time.slots then t else t.stopQuietWork t.fNow).enter .running
      let g := s1.time.slot / 16
      { s1 with
        time := { s1.time with runStart := some s1.time.slots }
        asm := { s1.asm with groupFrom := some (s1.time.slots - s1.time.slot % 16), groupNo := g, groupOrbit := s1.time.orbit }
        tally := if s1.tally.began then s1.tally else { s1.tally with began := true, startOrbit := s1.time.orbit } })

/-- A quiet window opens at this slot, to the orbit's end unless a QUIET_END comes first (R52): the pending threshold offset is
applied in its first slot (R77), and a burst that waits is scrubbed (R221). In a window that is open, or ends with this slot, a
further QUIET_BEGIN only keeps it open. -/
def State.openQuiet (s : State) : State :=
  let t := s.time.slots
  let stop := t + (s.time.len - s.time.slot)
  if s.on F.ORB_STATUS_QUIET then
    { s with time := { s.time with quiets := match s.time.quiets with
      | w :: ws => (w.1, stop) :: ws
      | [] => [(t, stop)] } }
  else
    let s1 := { s with time := { s.time with quiets := (t, stop) :: s.time.quiets.take 1 } }
    (((s1.flag F.ORB_STATUS_QUIET).ofsApply).burstRun).repairRun

/-- QUIET_BEGIN opens the window (R49, R52). -/
def quietBegin (i : Nat) (s : State) : State := s.calFire i 2 (fun t => t.locked) (fun _ t => t.openQuiet)

/-- QUIET_END: this slot is the window's last (R49, R52). -/
def quietEnd (i : Nat) (s : State) : State :=
  s.calFire i 3 (fun t => t.locked) (fun _ t =>
    if t.on F.ORB_STATUS_QUIET then
      { t with time := { t.time with quiets := match t.time.quiets with
        | w :: ws => (w.1, t.time.slots + 1) :: ws
        | [] => [] } }
    else t)

/-- An entry that fires in RUNNING and HOLD (R49). -/
def State.calWork (s : State) (i act : Nat) (k : Nat → State → State) : State := s.calFire i act (fun t => t.sys.run.capturing) k

/-- Every counter of a list of registers is cleared. -/
def State.clearAll (s : State) (l : List Nat) : State := l.foldl (fun s a => s.wr a 0) s

/-- The registers of a counter group (R47, log 35): the event counters of ORB and WALL, the trigger and fragment statistics, the
link error counters, the TIU statistics. -/
def counterGroup : Nat → List Nat
  | 0 => [Reg.ORB_MISS_CNT, Reg.ORB_EXTRA_CNT, Reg.WALL_PPS_REJ_CNT]
  | 1 => (List.range 11).map (fun i => Reg.TRG_ACCEPT_CNT + 4 * i) ++ (List.range 7).map (fun i => Reg.TRG_SPEC_SENT + 4 * i)
      ++ [Reg.FRAG_MISSING_CNT, Reg.FRAG_LATE_CNT] ++ (List.range 4).map (fun i => Reg.FRAG_RX_ORPHAN_CNT + 4 * i)
  | 2 => (List.range 16).flatMap (fun i =>
      [Reg.LANE_HDR_ERR_CNT i, Reg.LANE_LOCK_LOSS_CNT i, Reg.LANE_RETRAIN_CNT i, Reg.LANE_PRBS_ERR_CNT i,
       Reg.PORT_CRC_ERR_CNT i, Reg.PORT_SEQ_ERR_CNT i, Reg.PORT_REPLAY_CNT i, Reg.PORT_BAD_BLOCK_CNT i,
       Reg.PORT_PROBE_LOST_CNT i, Reg.PORT_LOOP_ERR_CNT i])
  | 3 => [Reg.TIU_TIMEOUT_CNT, Reg.TIU_LOST_CNT, Reg.TIU_EXTRA_CNT, Reg.TIU_STALE_CNT]
  | _ => []

/-- COUNTER_RESET clears the groups that ARG selects (R47). -/
def calCounterReset (i : Nat) (s : State) : State :=
  s.calWork i 5 (fun arg t => (List.range 4).foldl (fun s g => if bitsOf arg g 1 = 1 then s.clearAll (counterGroup g) else s) t)

/-- INJECT (R85). -/
def calInject (i : Nat) (s : State) : State := s.calWork i 4 inject
/-- CAL_VTDC (R112). -/
def calVtdcFire (i : Nat) (s : State) : State := s.calWork i 6 (fun _ => calVtdc)
/-- SCRUB_BURST (R221). -/
def calScrubBurst (i : Nat) (s : State) : State := s.calWork i 8 scrubBurst
/-- DUMP (R208). -/
def calDump (i : Nat) (s : State) : State := s.calWork i 9 dumpStart

/-! The exchange (R53–R55, R298). -/

/-- A shaft port's stamps are taken: it is a shaft port of a die whose clock runs, and its link carries blocks (R298). -/
def State.exchanges (s : State) (p : Nat) : Bool :=
  (decide (s.mainShaft = some p) || decide (s.altShaft = some p)) && !s.isRoot && s.time.fRun &&
    (s.lanesFor p).any (fun l => s.on (F.LANE_STATUS_LOCK l))

/-- The 64 slots in which an exchange may begin now: the orbit, and the number of its 64 slots (R53); before the counters are
loaded, those since reset. -/
def State.exchangePeriod (s : State) : Nat × Nat :=
  if s.time.counting then (s.time.orbit, s.time.slot / 64) else (0, s.time.slots / 64)

/-- An exchange may begin on a port now: floor(ORBIT_LEN / 64) of them in an orbit, one in each of its 64 slots (R53, log 84). -/
def State.exchangeDue (s : State) (p : Nat) : Bool :=
  decide ((s.port p).probed ≠ some s.exchangePeriod) &&
    (!s.time.counting || decide (s.time.slot / 64 < s.time.len / 64))

/-- The child sends PROBE, `d` F-cycles and `sub` fine units from now, if one is due then and fewer than four are outstanding
(R53, R298). -/
def exchangeStart (p d sub : Nat) (s : State) : State :=
  if s.exchanges p then
    s.ahead d (fun s =>
      if 4 ≤ (s.phase.exch.filter (fun e => decide (e.port = p))).length ∨ s.exchangeDue p = false then s
      else
        let q := s.phase.nextSeq
        let e : Exch := { seq := q, port := p, t1 := s.stampHere sub, began := s.time.slots }
        let s1 := { s with phase := { s.phase with nextSeq := (q + 1) % 256, exch := s.phase.exch ++ [e] } }
        (s1.setPort p { s1.port p with probed := some s1.exchangePeriod }).block p 0x87 q)
  else s

/-- The fused asymmetry of a port's timing lane, in 1/16 fine unit (R54). -/
def State.laneAsymOf (s : State) (p : Nat) : Int := sget 0 s.fuse.laneAsym (s.get (F.PORT_STATUS_TLANE p))

/-- A parent's stamp referred to its balls: less half of the fused value of its drift timing lane, to the nearest fine unit
(R54; DESIGN CHOICE, log 85). -/
def State.stampAtBall (s : State) (p sub : Nat) : Nat :=
  ofSigned 32 ((s.stampHere sub : Int) - roundDiv (s.laneAsymOf p) 32)

/-- The parent stamps an arriving PROBE and answers with REPLY2 and REPLY3, whose stamp comes `d3` F-cycles later (R54, R298). -/
def probeReceived (p seq d2 sub2 d3 sub3 : Nat) (s : State) : State :=
  if s.portKind p = 3 ∧ s.time.fRun ∧ 0 < s.portState p then
    s.ahead d2 (fun s =>
      let s1 := s.block p 0x88 (seq % 256 + s.stampAtBall p sub2 * 256)
      s1.ahead d3 (fun s => s.block p 0x89 (seq % 256 + s.stampAtBall p sub3 * 256)))
  else s

/-- The exchange of a SEQ on a port. -/
def State.exchOf (s : State) (p seq : Nat) : Option Exch := s.phase.exch.find? (fun e => decide (e.port = p ∧ e.seq = seq))

/-- The exchange is no longer outstanding. -/
def State.dropExch (s : State) (p seq : Nat) : State :=
  { s with phase := { s.phase with exch := s.phase.exch.filter (fun e => decide (¬(e.port = p ∧ e.seq = seq))) } }

/-- REPLY2 gives t2 (R298). -/
def reply2Received (p seq t2 : Nat) (s : State) : State :=
  { s with phase := { s.phase with exch := s.phase.exch.map (fun e =>
      if e.port = p ∧ e.seq = seq then { e with t2 := some t2 } else e) } }

/-- Difference of two stamps, modulo 2^32, as a signed number (R295). -/
def stampDiff (a b : Nat) : Int := toSigned 32 (ofSigned 32 ((a : Int) - b))

/-- The asymmetry of a shaft port's hop in 1/16 fine unit (R54, R336): fused, of its timing lane, plus yours. -/
def State.asymOf (s : State) (p : Nat) : Int :=
  s.laneAsymOf p +
    (if s.shaftPort = some p then s.getS F.ORB_ASYM_ASYM else s.getS F.TREE_ALT_ASYM)

/-- The exchange ran while the child's phase changed (R55). -/
def State.moved (s : State) (e : Exch) : Bool :=
  s.phase.plan.any (fun m => decide (e.began < m.last ∧ m.first ≤ s.time.slots ∧ m.first < m.last))

/-- REPLY3 ends the exchange: rtt, and θ in 1/32 fine unit (R54, R55). -/
def reply3Received (p seq t3 d sub : Nat) (s : State) : State :=
  match s.exchOf p seq with
  | none => s
  | some e =>
    match e.t2 with
    | none => s
    | some t2 =>
      s.ahead d (fun s =>
        let t4 := s.stampHere sub
        let up := stampDiff t2 e.t1
        let down := stampDiff t4 t3
        let rtt := toSigned 32 (ofSigned 32 (up + down))
        let theta := 16 * (down - up) - s.asymOf p
        let q := s.port p
        let s1 := (s.dropExch p seq).setPort p { q with rttSum := q.rttSum + rtt, rttCnt := q.rttCnt + 1 }
        if s.shaftPort = some p then
          let s2 := s1.wrS Reg.ORB_PA_RTT rtt
          if s.moved e then s2 else { s2 with phase := { s2.phase with thetas := s2.phase.thetas ++ [theta] } }
        else if s.moved e then s1
        else { s1 with phase := { s1.phase with altThetas := s1.phase.altThetas ++ [theta] } })

/-- No REPLY3 256 slots after PROBE (R298). -/
def probeTimeout (p seq : Nat) (s : State) : State :=
  match s.exchOf p seq with
  | none => s
  | some e => s.reachSlot (e.began + 256) (fun s => (s.dropExch p seq).inc (Reg.PORT_PROBE_LOST_CNT p))

/-! Marker blocks (R42, R43, R58, R62, R70, R296, R297, R337). -/

/-- PATHV of a marker; below 3 it demotes a SPECULATIVE die until SPECULATIVE is written anew (R30, R296). -/
def State.takePath (s : State) (pathv : Nat) : State :=
  let s1 := s.put F.TREE_STATUS_PATHV pathv
  if (pathv = 1 ∨ pathv = 2) ∧ s1.get F.TRG_MODE_READOUT = 2 ∧ s1.trg.demoted = false then
    (({ s1 with trg := { s1.trg with demoted := true } }).flag F.TRG_STATUS_SPEC_DEMOTED).warn F.TRG_STATUS_SPEC_DEMOTED pathv
  else s1

/-- F-cycles since the parent's slot 0: half the mean round trip and OFS (R297). -/
def State.sinceSlot0 (s : State) (p ofs : Nat) : Nat :=
  let q := s.port p
  ofs + ((q.rttSum / (2 * atLeast1 q.rttCnt)) / 1024).toNat

/-- What tiles, retrievals and the trigger engine hold keeps its orbit and slot as the counters are loaded anew, from those of `old`
(R45). -/
def State.shiftFrom (s old : State) : State :=
  let len : Int := atLeast1 s.time.len
  let z := ((s.time.slot : Int) - old.time.slot - (s.time.slots - old.time.slots : Nat)) % len
  let d := if len < 2 * z then z - len else z
  let orbits := toSigned 32 (ofSigned 32 ((s.time.orbit : Int) - old.time.orbit))
  (s.shiftTiles d orbits).shiftTrg
    ((s.time.slot : Int) - old.time.slot - (s.time.slots - old.time.slots : Nat) + orbits * len)

/-- The counters are loaded from a marker (R45, R58, R297); outstanding exchanges keep their round trips. -/
def State.loadCounters (s : State) (p : Nat) (m : MarkerMsg) : State :=
  let e := s.sinceSlot0 p m.ofs
  let slot := e / 64 % m.len
  let orbit := (m.orbit + e / 64 / m.len) % 2 ^ 32
  let fcyc := e % 64
  let same := decide (slot = s.time.slot ∧ orbit = s.time.orbit)
  let s1 := if s.time.counting ∧ s.time.reload ∧ ¬ same then s.flag F.ORB_STATUS_REPHASED else s
  let old := s.stampHere 0
  let s2 := { s1 with time := { s1.time with
    counting := true, reload := false, slot := slot, orbit := orbit, fcyc := fcyc, len := m.len
    slots := s1.time.slots + (if fcyc < s1.time.fcyc then 1 else 0) } }
  let jump := s2.stampHere 0 + 2 ^ 32 - old
  let s3 := if s.time.counting then s2.shiftFrom s else s2.calUpdate
  { s3 with phase := { s3.phase with
      exch := s3.phase.exch.map (fun (x : Exch) => { x with t1 := (x.t1 + jump) % 2 ^ 32 })
      corr := s3.phaseCorr, plan := [{ first := s3.time.slots, last := s3.time.slots + 1, amount := 0 }], inTol := 0, inAcq := 0, overLoss := 0, thetas := [] } }

/-- The WALL servo's update from the parent's marker (R70). -/
def State.shaftServo (s : State) (m : MarkerMsg) : State :=
  if s.get F.WALL_SERVO_SRC = 1 ∧ (s.pa = paAligned ∨ s.pa = paDegraded) then
    s.servo ((s.wall.atStart : Int) - (m.sec * 1000000000 + m.ns) * 4294967296) s.orbitSpan
  else s

/-- A complete marker on the port in use. -/
def State.markerInUse (s : State) (p : Nat) (m : MarkerMsg) : State :=
  let s1 := s.takePath m.pathv
  let s2 := { s1 with time := { s1.time with markerAge := 0 }, phase := { s1.phase with parent := m.chain } }
  if ¬ s2.srcShaft then s2
  else
    let s3 := if s2.pa = paReference then s2 else s2.chainUpdate
    let s4 := if m.len = s3.get F.ORB_LEN_LEN then s3 else s3.flag F.ORB_STATUS_LEN_MISMATCH
    if m.holdover then
      if s4.warm then { s4 with tree := { s4.tree with switch := true } }
      else
        let s5 := if m.len = s3.get F.ORB_LEN_LEN then s4.loseShaft else s4.shaftTimingLost p
        { s5 with tree := { s5.tree with switch := s5.tree.switch || s5.otherShaft.isSome } }
    else if m.len ≠ s3.get F.ORB_LEN_LEN then s4.shaftTimingLost p
    else if s4.pa = paFrozen then s4.put F.ORB_PA_STATUS_STATE paHunt
    else if s4.pa = paHunt then
      if s4.on F.ORB_PA_CTRL_FREEZE ∨ (s4.port p).rttCnt = 0 ∨ ¬ s4.time.fRun then s4
      else (s4.loadCounters p m).put F.ORB_PA_STATUS_STATE paAcquire
    else s4.shaftServo m

/-- A complete marker on the other shaft port (R336). -/
def State.markerOther (s : State) (p : Nat) (m : MarkerMsg) : State :=
  s.flagIf F.TREE_STATUS_ALT_WARM
    (s.portUp? p && (s.port p).joined && !m.holdover && decide (m.orbit = s.time.orbit) &&
      decide ((s.rdS Reg.TREE_ALT_OFS).natAbs ≤ s.get F.ORB_PA_CTRL_LOSS * 16) && !s.isRetired 9 (s.parentOf p))

/-- A complete marker arrives, its OM0 `d` F-cycles from now (R297). -/
def markerBlockReceived (p : Nat) (m : MarkerMsg) (d : Nat) (s : State) : State :=
  if (s.mainShaft = some p ∨ s.altShaft = some p) ∧ ¬ s.isRoot ∧ 0 < m.len then
    s.ahead d (fun s =>
      let s1 := s.setPort p { s.port p with heard := some m.orbit, heardHold := m.holdover }
      if s1.shaftPort = some p then s1.markerInUse p m else s1.markerOther p m)
  else s

/-- No marker block for 2 orbits of the flywheeled counter (R42). -/
def shaftMarkerTimeout (s : State) : State :=
  if s.srcShaft ∧ 3 ≤ s.time.markerAge ∧ (s.pa = paAcquire ∨ s.pa = paAligned ∨ s.pa = paDegraded) then
    match s.shaftPort with
    | some p => s.shaftTimingLost p
    | none => s.loseShaft
  else s

/-! WALL (R69–R73, R358). -/

/-- `WALL_CMD.SET_NOW`: WALL takes WALL_SET at the next F-cycle, which may be the next orbit's first, or when the F-clock starts
(R73). -/
def State.wallSetNow (s : State) : State :=
  if s.time.fRun then s.nextF .wallSet State.wallLoad else { s with wall := { s.wall with setNow := true } }

/-- A second in units of WALL. -/
abbrev secUnit : Nat := 1000000000 * 4294967296

/-- WALL less the nearest whole second (R70). -/
def State.ppsOffset (s : State) : Int :=
  let r := s.wall.t % secUnit
  if 2 * r < secUnit then r else (r : Int) - secUnit

/-- A PPS edge `d` F-cycles from now (R70, R71, R73). An edge that loads WALL_SET counts as accepted and makes no servo update
(DESIGN CHOICE, log 86). T of an update is the time since the last one at WALL_NOM, to the nearest second and at least 1 s
(DESIGN CHOICE, log 87). -/
def ppsEdge (d : Nat) (s : State) : State :=
  if s.time.fRun then
    s.ahead d (fun s =>
      if s.wall.setAtPps then
        let s1 := s.wallLoad
        { s1 with wall := { s1.wall with setAtPps := false, sinceAcc := 0 } }
      else if s.get F.WALL_SERVO_SRC ≠ 2 then s
      else
        let e := s.ppsOffset
        if s.on F.WALL_STATUS_LOCKED ∧ s.get F.WALL_PPS_WIN_WIN * 4294967296 < e.natAbs then s.inc Reg.WALL_PPS_REJ_CNT
        else
          let span : Nat := match s.wall.lastUpd with | some u => (s.time.now - u) * s.rd Reg.WALL_NOM | none => secUnit
          let s1 := s.servo e (atLeast1 (roundDivNat span secUnit) * secUnit)
          { s1 with wall := { s1.wall with sinceAcc := 0 } })
  else s

/-- PTM's period in orbits (R70). -/
def State.ptmPeriod (s : State) : Nat := atLeast1 (s.get F.WALL_SERVO_PERIOD)

/-- The source has given no update for 2 s of WALL with PPS, or for 4 periods with PTM (R71). -/
def State.srcSilent (s : State) : Bool :=
  (decide (s.get F.WALL_SERVO_SRC = 2) && decide (2 * secUnit ≤ s.wall.sinceAcc)) ||
    (decide (s.get F.WALL_SERVO_SRC = 3) && decide (4 * s.ptmPeriod ≤ s.wall.ptmHeard))

/-- The source is found lost, once until it gives its next update (R71). -/
def wallSrcLost (s : State) : State := if s.srcSilent ∧ s.wall.srcLost = false then s.servoLost else s

/-- A PTM request, one every PERIOD orbits (R70, R358). -/
def ptmRequest (s : State) : State :=
  if s.isRoot ∧ s.get F.WALL_SERVO_SRC = 3 ∧ s.on F.HIF_STATUS_PTM_EN ∧
      (match s.wall.ptmAge with | none => true | some n => decide (s.ptmPeriod ≤ n)) = true then
    ({ s with wall := { s.wall with ptmOut := some s.wall.t, ptmAge := some 0 } }).emit .ptm
  else s

/-- A PTM response with the master time at the request (R70). -/
def ptmResponse (sec ns : Nat) (s : State) : State :=
  match s.wall.ptmOut with
  | none => s
  | some w =>
    let s1 := { s with wall := { s.wall with ptmOut := none, ptmHeard := 0 } }
    if s.get F.WALL_SERVO_SRC = 3 then
      s1.servo ((w : Int) - (sec * 1000000000 + ns) * 4294967296) (s.ptmPeriod * s.orbitSpan)
    else s1

end Sys2Proof.Machine
end

