-- ==== Sys2Proof/Machine/Auth.lean ====
section
/-! DEFINITION. Link and end-to-end sessions as their messages arrive, and rekeys (R314, R401–R410). -/

namespace Sys2Proof.Machine

/-! Link sessions (R401–R403). -/

/-- Change the session of a port. -/
def State.setSess (s : State) (p : Nat) (x : Sess) : State := s.setPort p { s.port p with sess := x }

/-- The mode that the two sides have negotiated is not OFF (R316, R401; log 36). -/
def State.authWanted (s : State) (p : Nat) : Bool :=
  s.get F.HALL_AUTH_MODE != 0 || (s.port p).set.any (fun t => t.auth != 0)

/-- A port's lanes are aligned (R314). -/
def deskewDone (p : Nat) (s : State) : State :=
  if s.portState p = 4 then (if s.authWanted p then s.toAuth p else s.portUp p true) else s

/-- A session or a rekey is in progress on a port: in AUTH, or in UP with SESSION at REKEY. -/
def State.authOpen (s : State) (p : Nat) : Bool := decide (s.portState p = 5) || (s.portUp? p && decide (s.sessState p = 5))

/-- A HELLO arrives (R401, R402); on a keyed port in UP it begins a rekey (R406). -/
def helloReceived (p : Nat) (m : List Byte) (s : State) : State :=
  let rekey := s.portUp? p && (s.port p).sess.tx.isSome
  if ¬ (s.portState p = 5 ∨ rekey = true) then s
  else if s.helloFails m ≠ 0 then s.failWith p (s.helloFails m)
  else
    let s1 := if (s.port p).sess.mine = [] then s.sendHello p else s
    let x : Sess := { (s1.port p).sess with peer := m }
    let s2 := (s1.setSess p x).sendAuth p (s1.proofMsg x (s.driftSide p))
    s2.put (F.HALL_PORT_SESSION p) (if rekey then 5 else 2)

/-- A PROOF arrives (R402): with the partner's identity key verified, the keys are derived and FINISH goes. -/
def proofReceived (p : Nat) (m : List Byte) (s : State) : State :=
  let x := (s.port p).sess
  let d := s.driftSide p
  if ¬ s.authOpen p ∨ x.mine = [] ∨ x.peer = [] then s
  else if ¬ x.proofOk d m then s.failWith p 1
  else
    let x1 := x.derive d
    let s1 := (s.setSess p x1).sendAuth p (finishMsg x1.confTx (x1.hash d))
    if s.portState p = 5 then s1.put (F.HALL_PORT_SESSION p) 3 else s1

/-- The attempt on a port has run for more than 50 ms (R403). -/
def State.authLate (s : State) (p : Nat) : Bool := s.time.fRun && decide ((s.port p).sess.since + s.usCycles 50000 < s.fNow)

/-- A FINISH arrives (R402, R403, R406): the session is established, unless it is too late, or the rekey's keys wait for their
first frame. -/
def finishReceived (p : Nat) (m : List Byte) (s : State) : State :=
  let x := (s.port p).sess
  if ¬ s.authOpen p then s
  else if s.portState p = 5 ∧ s.authLate p then s.failWith p 6
  else if ¬ x.finishOk (s.driftSide p) m then s.failWith p 5
  else
    let y : Sess := { x.drop with keyedAt := s.time.orbit, redo := false, ends := none }
    if s.portState p = 5 then
      let s1 := (s.setSess p { y with tx := x.dTx, rx := x.dRx }).put (F.HALL_PORT_SESSION p) 4
      (s1.inc Reg.HALL_SESSION_CNT).portUp p false
    else
      ((s.setSess p { y with txNew := x.dTx, rxNew := x.dRx, oldEnds := s.time.slots + s.time.len }).put (F.HALL_PORT_SESSION p) 4).inc
        Reg.HALL_REKEY_CNT

/-- A FAIL arrives (R403): the attempt ends. -/
def failReceived (p : Nat) (s : State) : State := if s.authOpen p then s.authFails p else s

/-- No session within 50 ms of AUTH, or of the start of a rekey (R403, R406, log 107). -/
def authTimeout (p : Nat) (s : State) : State :=
  if s.authOpen p then s.afterUs (s.port p).sess.since 50000 (fun s => s.failWith p 6) else s

/-- 100 ms after a failure the port may enter BASE again (R403). -/
def authRetry (p : Nat) (s : State) : State :=
  if (s.port p).sess.retry then
    s.afterUs (s.port p).sess.since 100000 (fun s => (s.setSess p { (s.port p).sess with retry := false }).toBase p)
  else s

/-! Rekeys (R406). -/

/-- The drift side of a keyed port in UP starts a rekey. -/
def State.rekeyPort (s : State) (p : Nat) : State :=
  if s.portUp? p ∧ s.driftSide p ∧ (s.port p).sess.tx.isSome ∧ s.sessState p = 4 then
    (s.sendHello p).put (F.HALL_PORT_SESSION p) 5
  else s

/-- A root starts to renew the end-to-end key of an origin (R408). -/
def State.rekeyE2e (s : State) (o : Nat) : State :=
  if s.isRoot ∧ ¬ s.standsBy ∧ (s.e2eKeyOf o).isSome ∧ (s.opening o).isNone then
    let (m, x, s1) := s.newHello {}
    (s1.setOpening o (some x)).sendTo o (s1.e2eMsg o m)
  else s

/-- 2^REKEY_LOG2 orbits have passed since orbit `o` (R406). -/
def State.rekeyTime (s : State) (o : Nat) : Bool :=
  decide (2 ^ s.get F.HALL_POLICY_REKEY_LOG2 ≤ (s.time.orbit + 2 ^ 32 - o % 2 ^ 32) % 2 ^ 32)

/-- A rekey of a port is due (R406): by orbits, by a counter that has reached a multiple of 2^32, or again after a failure. -/
def State.portRekeyDue (s : State) (p : Nat) : Bool :=
  let x := (s.port p).sess
  let full : Option DirKey → Bool := fun k => k.any (fun d => decide (2 ^ 32 ≤ d.ctr))
  x.redo || full x.tx || full x.rx || s.rekeyTime x.keyedAt

/-- A rekey is due (R406, R408): of port `n`, or of the end-to-end session with origin `n`. -/
def rekeyDue (e2e : Bool) (n : Nat) (s : State) : State :=
  if e2e then (if (s.e2eKeyOf n).any (fun k => s.rekeyTime k.at') then s.rekeyE2e n else s)
  else if s.portRekeyDue n then s.rekeyPort n else s

/-- `HALL_CMD.REKEY` (R406): every session of which this die is the drift side. -/
def State.rekeyAll (s : State) : State :=
  s.hall.keys.foldl (fun s k => s.rekeyE2e k.origin) ((List.range 16).foldl State.rekeyPort s)

/-- One orbit after a rekey the receiver's old key goes (R406). -/
def oldKeyExpire (p : Nat) (s : State) : State :=
  let x := (s.port p).sess
  s.reachSlot x.oldEnds (fun s =>
    match x.rxNew with
    | some n => s.setSess p { x with rx := some n, rxNew := none, rxOld := none, rxPhase := 1 - x.rxPhase, movedVc := [] }
    | none => s.setSess p { x with rxOld := none, movedVc := [] })

/-! End-to-end sessions (R408, R410). -/

/-- The pair's clasp link runs without authentication, so its roots open no end-to-end session (R410). -/
def State.claspOpen (s : State) : Bool := s.clasped && !s.authWanted 15

/-- The die's side of the session with `o`: at a root the one it opens with that origin, else its own. -/
def State.e2eSess (s : State) (o : Nat) : Sess := if s.isRoot then (s.opening o).getD {} else s.hall.e2e

/-- Hold the die's side of the session with `o`. -/
def State.setE2e (s : State) (o : Nat) (x : Sess) : State :=
  if s.isRoot then s.setOpening o (some x) else { s with hall := { s.hall with e2e := x } }

/-- Where end-to-end messages with `o` go: to the origin, or up to the root. -/
def State.e2eSend (s : State) (o : Nat) (m : List Byte) : State :=
  if s.isRoot then s.sendTo o (s.e2eMsg o m) else s.sendUp0 (s.e2eMsg dstRoot m)

/-- An end-to-end attempt ends with FAIL; a key in force stays. -/
def State.e2eFail (s : State) (o reason : Nat) : State :=
  let s1 := s.e2eSend o (failMsg reason)
  if s.isRoot then s1.setOpening o none else { s1 with hall := { s1.hall with e2e := s1.hall.e2e.drop } }

/-- An end-to-end HELLO from `o` arrives on port `p` (R408, R410). A standby takes its keys from the active member and answers
none. -/
def e2eHello (p o : Nat) (m : List Byte) (s : State) : State :=
  inUse p (fun s =>
    if ¬ s.isRoot ∧ ¬ s.claimed? ∨ s.isRoot ∧ s.standsBy then s
    else if s.isRoot ∧ s.claspOpen then s.e2eSend o (failMsg 4)
    else if s.helloFails m ≠ 0 then s.e2eFail o (s.helloFails m)
    else
      let x0 := s.e2eSess o
      let (x1, s1) := if x0.mine = [] ∨ x0.peer ≠ [] then
          let (h, x, s1) := s.newHello { x0 with peer := [] }
          (x, s1.e2eSend o h)
        else (x0, s)
      let x2 : Sess := { x1 with peer := m }
      (s1.setE2e o x2).e2eSend o (s1.proofMsg x2 s.isRoot)) s

/-- An end-to-end PROOF (R402, R408). -/
def e2eProof (p o : Nat) (m : List Byte) (s : State) : State :=
  inUse p (fun s =>
    let x := s.e2eSess o
    if x.mine = [] ∨ x.peer = [] then s
    else if ¬ x.proofOk s.isRoot m then s.e2eFail o 1
    else
      let x1 := x.derive s.isRoot
      (s.setE2e o x1).e2eSend o (finishMsg x1.confTx (x1.hash s.isRoot))) s

/-- An end-to-end FINISH opens the session (R408, R410). -/
def e2eFinish (p o : Nat) (m : List Byte) (s : State) : State :=
  inUse p (fun s =>
    let x := s.e2eSess o
    if x.mine = [] then s
    else if ¬ x.finishOk s.isRoot m then s.e2eFail o 5
    else
      match x.dTx, x.dRx with
      | some t, some r =>
        if s.isRoot then
          (((s.setOpening o none).takeE2eKey o r.key).sendKey o r.key).flag F.HALL_STATUS_E2E_UP
        else
          { s.flag F.HALL_STATUS_E2E_UP with hall := { s.hall with
              e2e := { x.drop with tx := some t, rx := some r, keyedAt := s.time.orbit } } }
      | _, _ => s) s

/-- An end-to-end FAIL ends the attempt (R408). -/
def e2eFailed (p o : Nat) (s : State) : State :=
  inUse p (fun s =>
    if s.isRoot then s.setOpening o none else { s with hall := { s.hall with e2e := s.hall.e2e.drop } }) s

/-- E2E_RESTART makes the origin open a new session; its mode stays (R408). -/
def e2eRestartReceived (p : Nat) (s : State) : State := inUse p State.e2eOpen s

end Sys2Proof.Machine
end

