-- ==== Sys2Proof/Machine/RegRead.lean ====
section
/-! DEFINITION. What a register reads as (R6, R9, R33, R67, R468–R475), and the vault window (R218, R219, R361). -/

namespace Sys2Proof.Machine

/-! The Assay table (R472–R477). -/

/-- Word `k` of the entry of a block (R473). -/
def State.assayEntry (s : State) (b : Block) (k : Nat) : Nat :=
  if k = 0 then b.typ * 2 ^ 16 + 0x10 * 2 ^ 8 + b.count
  else if k = 1 then b.base
  else if k = 2 then b.stride
  else if b = .tally ∧ s.isRoot then 0
  else b.cap

/-- Word `i` of the Assay table: the header, then the entries (R472). -/
def State.assayWord (s : State) (i : Nat) : Nat :=
  if i = 0 then 0x01000018
  else if i = 1 then 0x01000000 + s.fuse.stepping % 256 * 256
  else if i = 2 then 0x00100000
  else if i = 3 then 0x02000000
  else match Block.all[(i - 4) / 4]? with
    | some b => s.assayEntry b (i % 4)
    | none => 0

/-! Gated blocks (R9, R10, R284). -/

/-- Why the block of an offset is gated, and the register that names the reason (R9, R10, R26); gated registers read 0, those of
TALLY in a root with them (the register table of 07_tally_and_vault). -/
def State.gate (s : State) (a : Nat) : Option (Nat × Nat) :=
  let relay := decide (s.sys.role = .relay ∨ s.sys.role = .factory)
  match blockOf a with
  | some .fe | some .vtdc | some .tile =>
    if a = Reg.FE_CTRL then none
    else if s.isRoot then some (1, Reg.SYS_STATUS)
    else if relay ∧ ¬ s.on F.FE_CTRL_MATRIX_EN then some (0x0B, Reg.FE_CTRL)
    else none
  | some .tally => if s.isRoot then some (1, Reg.SYS_STATUS) else none
  | some .lane => if s.isRoot ∧ Reg.LANE_CTRL 8 ≤ a then some (1, Reg.SYS_STATUS) else none
  | some .clasp => if s.isRoot ∨ a = Reg.CLASP_CTRL then none else some (1, Reg.SYS_STATUS)
  | some .hif | some .ring => if s.isRoot then none else some (1, Reg.SYS_STATUS)
  | _ => none

/-! Words that the die computes as they are read. -/

/-- Channels with LEAK_SAT or TRIM_SAT set, as `f` names the flag. -/
def State.chanCount (s : State) (f : Nat → Fld) : Nat := (s.chansWith f).length

/-- Retired units of a type. -/
def State.retiredOf (s : State) (ty : Nat) : List Nat :=
  (s.fault.retired.filter (fun k => decide (k / 2 ^ 20 = ty))).map (fun k => k % 2 ^ 20)

/-- Channels without a pair in service (R119). -/
def State.noPairs (s : State) : Nat :=
  ((s.retiredOf 2).filter (fun p => decide (p < 32768 ∧ p % 2 = 0) && s.isRetired 2 (p + 1))).length

/-- Word `i` of bytes. -/
def wordAt (bs : List Byte) (i : Nat) : Nat := byteField bs (4 * i) 4

/-- A register word as it reads, out of its stored word `v`: identity, run state, counters of time, and what other state of
the block shows. -/
def State.shown (s : State) (h : Hit) (v : Nat) : Nat :=
  let o := h.row.off
  match h.blk with
  | .assay => s.assayWord h.i
  | .sys =>
    if o = 0 then s.sys.role.code * 256 + s.sys.run.code * 16 + b2n s.sys.run.isReady
    else if o = 0x10 then s.sys.straps % 4 + b2n s.sys.claspId * 4
    else v
  | .orb =>
    if o = 0x10 then setBits v 2 1 (b2n s.locked)
    else if o = 0x14 then (if s.time.counting then s.time.slot + s.time.fcyc * 2 ^ 16 else 0)
    else if o = 0x18 then s.time.orbitLatch
    else v
  | .wall =>
    if o = 0 then s.wallNs
    else if o = 4 then s.wall.secLatch % 2 ^ 32
    else if o = 8 then s.wall.secLatch / 2 ^ 32
    else if o = 0xC then s.wall.stamp
    else v
  | .tiu => if o = 0x1C then setBits v 2 1 (b2n (decide (bitsOf v 2 1 = 1) || !s.on F.ORB_STATUS_PLL_LOCK)) else v
  | .vtdc =>
    if o = 0xC then s.fuse.vtdcOfs * 2 ^ 16 + s.fuse.vtdcBin
    else if o = 0x24 then s.noPairs
    else v
  | .tile =>
    if o = 4 then setBits v 0 1 (b2n s.depthClamped)
    else if o = 0xC then ((List.range 256).filter (fun t => !s.tileUp t)).length
    else if o = 0x1000 then
      setBits (setBits (setBits v 0 10 (s.tile h.i).occ) 31 1 (b2n (s.isRetired 3 h.i))) 30 1 (b2n (s.isRetired 4 (h.i % 16)))
    else v
  | .trg =>
    if o = 8 then setBits (setBits v 3 1 (b2n s.winClamped)) 1 1 (b2n s.rateLimited)
    else if o = 0x38 then s.trg.ready.length
    else v
  | .tally =>
    if o = 0x10000 then s.tallyCnt h.i
    else if o = 0x20000 then s.tallySum h.i / 2 ^ (32 * h.w) % 2 ^ 32
    else v
  | .arb => if o = 4 then s.arbStatus h.i else v
  | .frag => if o = 0x8C then s.asm.frags.length else v
  | .clasp => if o = 0x18 then setBits v 16 10 s.witnesses else v
  | .lane => if o = 0x20 then s.prbsCount h.i / 2 ^ (32 * h.w) % 2 ^ 32
    else if o = 0x3C then ofSigned 16 (sget 0 s.fuse.laneAsym h.i) else v
  | .hall =>
    if o = 0 then setBits (setBits (setBits v 0 1 (b2n s.claimed?)) 1 1 (b2n s.hall.broken)) 7 1 (b2n (decide (16383 ≤ s.fuse.boots)))
    else if o = 0x14 then wordAt s.serial h.w
    else if o = 0x1C then s.fuse.boots % 2 ^ 14
    else if o = 0x40 then wordAt (padTo 64 (Config.pubOf Config.identity)) h.w
    else if o = 0x80 then wordAt s.ownerHash h.w
    else if o = 0xC0 then wordAt s.fuseHash h.w
    else if o = 0x100 then wordAt s.endorse h.w
    else v
  | .mon => if o = 0x4000 then s.scopeWord h.i else v
  | .fe =>
    if o = 0x1C then s.fuse.injLsb
    else if o = 0x20 then s.chanCount F.FE_CH_LEAK_SAT
    else if o = 0x24 then s.chanCount F.FE_CH_TRIM_SAT
    else if o = 0x28 then (s.retiredOf 1).length
    else if o = 0x10000 then
      setBits (setBits v 10 6 (ofSigned 6 (s.factTrim h.i))) 18 1 (b2n (s.isRetired 1 h.i))
    else v
  | _ => v

/-- The bits of a register that come from the fuses, and are open before fuse load (R5; log 4); reserved bits are never among
them (R7). -/
def fuseBits (h : Hit) : Nat :=
  let o := h.row.off
  match h.blk with
  | .assay => if h.i = 1 then 0xFF00 else 0
  | .vtdc => if o = 0xC then 0xFFFFFFFF else if o = 0x70 then 0x03FF0000 else 0
  | .vault => if o = 0x100 then 0x3F3F else if o = 0x1000 then 0xC00007FF else 0
  | .lane => if o = 0x3C then 0xFFFF else 0
  | .hall => if o = 0 then 0x83 else if o = 0x1C then 0x3FFF else if o = 0x14 ∨ o = 0x40 ∨ o = 0x80 ∨ o = 0xC0 ∨ o = 0x100 then 0xFFFFFFFF else 0
  | .mon => if o = 0x500 ∨ o = 0x520 then 0xFFFFFF else if o = 0x1000 ∧ 22 ≤ h.i ∧ h.i ≤ 25 then 0xFFFFFFFF else 0
  | .fe => if o = 0x1C then 0xFFFF else if o = 0x10000 then 0xFC00 else 0
  | _ => 0

/-- A word before fuse load: its fuse bits are an open value. -/
def State.beforeFuses (s : State) (h : Hit) (v : Nat) : Nat × State :=
  let m := fuseBits h
  if s.sys.fuseDone ∨ m = 0 then (v, s)
  else
    let (f, s1) := s.fresh
    ((v &&& (0xFFFFFFFF ^^^ m)) ||| (f % 2 ^ 32 &&& m), s1)

/-- The value of a register word now, 0 in a gated block (R9). -/
def State.wordNow (s : State) (h : Hit) (a : Nat) : Nat :=
  if (s.gate a).isSome then 0 else s.shown h (s.rd a) % 2 ^ 32

/-! Reads (R33, R67, R468–R470). -/

/-- A register whose lower words are held until its highest is written (R470). -/
def RegRow.held (r : RegRow) : Bool :=
  decide (1 < r.words) && !r.cnt && (match r.cls with | .mode | .operating | .live => decide (r.words < 4) | _ => false)

/-- TRG_EXP's two words are written one by one (R182). -/
def Hit.held (h : Hit) : Bool := h.row.held && !decide (h.blk = .trg)

/-- The other words of a register are latched as its lowest word is read (R469). -/
def State.latchWords (s : State) (h : Hit) (a : Nat) : State :=
  if h.row.words = 1 ∨ h.w ≠ 0 then s
  else
    ((List.range (h.row.words - 1)).map (· + 1)).foldl (fun s k =>
      let h' : Hit := { h with w := k }
      let (v, s) := s.beforeFuses h' (s.wordNow h' (a + 4 * k))
      { s with bus := { s.bus with latched := sset 0 s.bus.latched (a + 4 * k) v } }) s

/-- Latches that span registers: ORB_SLOT takes the orbit (R33), WALL_NS the date (R67). -/
def State.latchTime (s : State) (a : Nat) : State :=
  if a = Reg.ORB_SLOT then { s with time := { s.time with orbitLatch := s.orbitNow } }
  else if a = Reg.WALL_NS then { s with wall := { s.wall with secLatch := s.wallSec, stamp := s.stamp32 } }
  else s

/-- A read of configuration offset `a` in the register range (R468, R469). -/
def State.regRead (s : State) (a : Nat) : Nat × State :=
  match findReg a with
  | none => (0, s.inc Reg.SYS_BADADDR_CNT)
  | some h =>
    let s1 := (s.latchWords h a).latchTime a
    if (s1.gate a).isSome then (0, s1)
    else
      match s.bus.held.find? (fun p => decide (p.1 = a) && h.held) with
      | some p => (p.2, s1)
      | none =>
        if 1 < h.row.words ∧ h.w ≠ 0 then (sget 0 s.bus.latched a, s1)
        else s1.beforeFuses h (s1.wordNow h a)

/-! The vault window (R218, R219). -/

/-- First byte of the vault window (R467). -/
abbrev vaultBase : Nat := 0x10000000

/-- The offset lies in the vault window. -/
def inVault (a : Nat) : Bool := decide (vaultBase ≤ a ∧ a < vaultBase + 0x2000000)

/-- A read of word `w` through the window: increments that wait for it come first (R209). -/
def State.windowWord (s : State) (w : Nat) : Nat × Bool × State := ((s.settleWord w).bankOp (bankOf w) 3).readWord w false

/-- An entry that the window's regions hold: any histogram bin, or with HBINS the bins, the occupancy and the mirrors (R201). -/
def State.regionEntry (s : State) (e : Nat) : Bool :=
  if s.on F.TALLY_CTRL_HBINS then
    decide (e < 8388608) || decide (8388608 ≤ e ∧ e < 12582656) || decide (12582912 ≤ e ∧ e < 12681216)
  else decide (e < 16777216)

/-- A read of `n` bytes at offset `a` of the window; data, and whether it is poisoned. Entries outside the regions hold 0 (R201). -/
def State.vaultRead (s : State) (a n : Nat) : Nat × Bool × State :=
  let b := a - vaultBase
  if s.isRoot ∨ s.regionEntry (b / 2) then
    let (d, bad, s1) := s.windowWord (b / 8)
    (bitsOf d (8 * (b % 8)) (8 * n), bad, s1)
  else (0, false, s)

/-- A 16-bit entry is written through the window (R219); one outside the regions stays 0. -/
def State.windowEntry (s : State) (e x : Nat) : State :=
  if s.isRoot ∨ s.regionEntry e then ((s.settleWord (e / 4)).bankOp (bankOf (e / 4)) 3).writeEntry e x else s

/-- `n` bytes, 2, 4 or 8, are written at offset `a`: whole words as words, less as entries (R219, R359). -/
def State.vaultWrite (s : State) (a n v : Nat) : State :=
  let b := a - vaultBase
  if n = 8 then
    if s.isRoot ∨ s.regionEntry (b / 2) then ((s.settleWord (b / 8)).bankOp (bankOf (b / 8)) 3).writeWord (b / 8) (v % 2 ^ 64) else s
  else (List.range (n / 2)).foldl (fun s i => s.windowEntry (b / 2 + i) (bitsOf v (16 * i) 16)) s

end Sys2Proof.Machine
end

