-- ==== Sys2Proof/Machine/RegWrite.lean ====
section
/-! DEFINITION. Register writes: how a write is judged (R6–R10, R24–R31, R89, R391, R468, R479, R480), what it stores (R6–R8,
R461, R462, R470), and what follows from it. -/

namespace Sys2Proof.Machine

/-! Answers (R25, R26, R365, R391). -/

/-- How a write or a command is answered: status, three bytes of detail and a data word (R365). -/
structure Ans where
  status : Nat
  detail : Nat := 0
  data   : Nat := 0
deriving DecidableEq, Repr

/-- OK. -/
def ansOk : Ans := { status := 0 }
/-- STATE_REJECT with the run-state code (R25). -/
def State.ansState (s : State) : Ans := { status := 1, detail := s.sys.run.code }
/-- MODE_REJECT with the reason and the register that holds the conflicting setting (R26). -/
def ansMode (reason a : Nat) : Ans := { status := 2, detail := reason + regType a * 2 ^ 8, data := regRel a }
/-- PROTECTED with the offset written (R391). -/
def ansProt (a : Nat) : Ans := { status := 0x10, data := a }
/-- BAD_ARG (R365). -/
def ansBadArg : Ans := { status := 0x81 }
/-- FEATURE (R365, R379). -/
def ansFeature : Ans := { status := 0x83 }

/-- HIF_LAST_REJECT records a write that was refused (R360, R379). -/
def State.lastReject (s : State) (r : Ans) (a : Nat) : State :=
  ((s.put F.HIF_LAST_REJECT_STATUS r.status).put F.HIF_LAST_REJECT_DETAIL r.detail).wr (Reg.HIF_LAST_REJECT + 4) a

/-! Classes and run states (R24, R89, R391, R479, R480). -/

/-- A direct write of a class is accepted in a run state; a Protected one never is (R24, R391). -/
def Cls.accepts (c : Cls) (r : RunState) : Bool :=
  match c with
  | .mode => decide (r = .ready)
  | .operating => decide (r = .ready ∨ r = .armed)
  | .live | .ro => r.isReady
  | .prot => false
  | .msix => decide (r ≠ .reset)

/-- The class a write is judged in: FE_CH by the fields it changes (R89). -/
def State.classOf (s : State) (h : Hit) (a nw : Nat) : Cls :=
  if h.blk = .fe ∧ h.row.off = 0x10000 then
    (if setBits (s.rd a) 0 1 0 = setBits nw 0 1 0 then .live else .operating)
  else h.row.cls

/-! The word a write would store (R6–R8). -/

/-- A field written with a reserved code keeps its previous value (R8). -/
def keepFld (f : Fld) (bad : Nat → Bool) (old w : Nat) : Nat :=
  if bad (bitsOf w f.lo f.w) then setBits w f.lo f.w (bitsOf old f.lo f.w) else w

/-- A field is stored at the nearest value of its range. -/
def rangeFld (f : Fld) (lo hi w : Nat) : Nat := setBits w f.lo f.w (max lo (min hi (bitsOf w f.lo f.w)))

/-- Reserved codes and stored bounds of a word, by block and register. -/
def fixWord (h : Hit) (old w : Nat) : Nat :=
  let o := h.row.off
  match h.blk with
  | .orb =>
    if o = 0 then keepFld F.ORB_CLK_SRC (fun v => decide (v = 3)) old w
    else if o = 4 then rangeFld F.ORB_LEN_LEN 512 16383 w
    else if o = 0xC then rangeFld F.ORB_CAL_LEN_LEN 0 64 w
    else if o = 0x100 then keepFld (F.ORB_CAL_ACTION 0) (fun v => decide (0xC < v)) old w
    else w
  | .tiu =>
    if o = 0x10 then
      rangeFld F.TIU_MEAS_N 0 (2 ^ 20) (keepFld F.TIU_MEAS_START_SRC (fun v => decide (4 < v)) old
        (keepFld F.TIU_MEAS_STOP_SRC (fun v => decide (4 < v)) old w))
    else w
  | .trg =>
    if o = 4 then rangeFld F.TRG_LAT_DOMAIN 32 2047 w
    else if o = 0x14 then rangeFld F.TRG_RATE_BURST 0 8 w
    else if o = 0x20 then rangeFld F.TRG_SELF_MULT_N 0 64 (rangeFld F.TRG_SELF_ADJ_N 0 8 w)
    else if o = 0x28 then rangeFld F.TRG_SPEC_Q_QUAR 0 32 w
    else if o = 0x100 then keepFld (F.TRG_TYPE_SRC 0) (fun v => decide (9 < v)) old w
    else w
  | .vault => if o = 0 then rangeFld F.VAULT_SCRUB_PERIOD_LOG2 16 30 w else w
  | .tally => if o = 0 then keepFld F.TALLY_CTRL_SOURCE (fun v => decide (v = 3)) old w else w
  | .fe => if o = 0 then keepFld F.FE_CTRL_CDET (fun v => decide (v = 3)) old w else w
  | .hall =>
    if o = 4 then keepFld F.HALL_AUTH_MODE (fun v => decide (v = 3)) old w
    else if o = 8 then keepFld F.HALL_POLICY_MIN_AUTH (fun v => decide (v = 3)) old w
    else w
  | .mon =>
    if o = 0 then keepFld F.MON_CTRL_MODE (fun v => decide (v = 3)) old w
    else if o = 0xC then rangeFld F.MON_SEQ_CTRL_LEN 0 32 w
    else if o = 0x1C then keepFld F.MON_INJ_ODR (fun v => decide (v = 15)) old w
    else if o = 0x28 then keepFld F.MON_CAL_CMD_ODR (fun v => decide (v = 15)) old
      (keepFld F.MON_CAL_CMD_OP (fun v => decide (4 < v)) old w)
    else if o = 0x600 then keepFld (F.MON_SEQ_ODR 0) (fun v => decide (v = 15)) old w
    else if o = 0x700 then keepFld F.MON_SCOPE_ODR (fun v => decide (v = 15)) old w
    else w
  | .ring => if o = 0x10008 then rangeFld (F.RING_CFG_SIZE_LOG2 0) 6 16 w else w
  | _ => w

/-- Fields whose feature is not accepted stay 0 (R378, R379). -/
def featWord (feats : Nat) (h : Hit) (w : Nat) : Nat :=
  let has : Nat → Bool := fun k => decide (bitsOf feats k 1 = 1)
  match h.blk with
  | .ring =>
    if h.row.off = 0x10008 then
      let w1 := if has 2 then w else setBits w 0 1 0
      let w2 := if has 3 then w1 else setBits w1 2 1 0
      if ¬ has 1 ∧ bitsOf w2 29 2 = 3 then setBits w2 29 2 0 else w2
    else w
  | .hif => if h.row.off = 0x58 ∧ ¬ has 6 then setBits w 0 1 0 else w
  | _ => w

/-- The word that a write of `v` leaves at offset `a`: writable bits taken, flags written with 1 cleared (R6, R7, R461). -/
def State.newWord (s : State) (h : Hit) (a v : Nat) : Nat :=
  let old := s.rd a
  let m := h.row.rw h.i h.j h.w
  let w := ((old &&& (0xFFFFFFFF ^^^ m)) ||| (v &&& m)) &&& (0xFFFFFFFF ^^^ (v &&& h.row.w1c))
  featWord s.hif.feats h (fixWord h old w)

/-! Mode conflicts (R30, R31, R284). -/

/-- Another port that holds a type already, where one more would be too many (R284). -/
def State.typeFull (s : State) (p ty : Nat) : Option Nat :=
  let held := (List.range 16).filter (fun q => decide (q ≠ p) && decide (s.portKind q = ty))
  let most := if ty = 3 then (if s.isRoot then 8 else 12) else 1
  if ty ≠ 0 ∧ most ≤ held.length then held.head? else none

/-- The conflict that a write of PORT_CFG forms (R14, R15, R284). -/
def State.portConflict (s : State) (p w : Nat) : Option (Nat × Nat) :=
  let ty := bitsOf w 30 2
  let lanes := bitsOf w 0 16
  if 4 < popCount 16 lanes then some (0x0A, Reg.PORT_CFG p)
  else if s.isRoot ∧ (ty = 1 ∨ ty = 2 ∨ 256 ≤ lanes) then some (1, Reg.SYS_STATUS)
  else if s.isLeaf ∧ ty = 3 then some (1, Reg.SYS_STATUS)
  else if s.clasped ∧ p ≠ 15 ∧ bitsOf lanes 6 2 ≠ 0 then some (1, Reg.CLASP_CTRL)
  else (s.typeFull p ty).map (fun q => (1, Reg.PORT_CFG q))

/-- The conflict that a write would form: its reason and the register named (R26, R30, R31). `nw` is the word that would be
stored at offset `a`. -/
def State.conflict (s : State) (h : Hit) (a v nw : Nat) : Option (Nat × Nat) :=
  let o := h.row.off
  let new : Fld → Nat := fun f => bitsOf nw f.lo f.w
  match h.blk with
  | .fe => if o = 0 ∧ s.isRoot ∧ new F.FE_CTRL_MATRIX_EN = 1 then some (1, Reg.SYS_STATUS) else none
  | .tally =>
    if o = 0 then
      if new F.TALLY_CTRL_OCC_EN = 1 ∧ new F.TALLY_CTRL_HBINS = 0 then some (0x0A, a)
      else if new F.TALLY_CTRL_SOURCE = 1 ∧ s.get F.TRG_MODE_READOUT = 1 then some (8, Reg.TRG_MODE)
      else none
    else none
  | .trg =>
    if o = 0 then
      if new F.TRG_MODE_READOUT = 1 ∧ s.get F.TALLY_CTRL_SOURCE = 1 then some (8, Reg.TALLY_CTRL)
      else if new F.TRG_MODE_READOUT = 2 ∧ ¬ s.isRoot ∧ (s.get F.TREE_STATUS_PATHV = 1 ∨ s.get F.TREE_STATUS_PATHV = 2) then
        some (2, Reg.TREE_STATUS)
      else none
    else if o = 4 then (if new F.TRG_LAT_DOMAIN ≤ new F.TRG_LAT_IN_DELAY then some (0x0A, a) else none)
    else if o = 0x10 then
      if new F.TRG_BUSY_Q_ON ≤ new F.TRG_BUSY_Q_OFF ∨ new F.TRG_BUSY_BUF_ON ≤ new F.TRG_BUSY_BUF_OFF then some (0x0A, a) else none
    else none
  | .facet => if o = 0 ∧ 2 ≤ new F.FACET_CTRL_ENABLE then some (7, Reg.FACET_CTRL) else none
  | .hall =>
    if o = 4 then
      if new F.HALL_AUTH_MODE ≠ 0 ∧ ¬ s.claimed? then some (4, Reg.HALL_STATUS)
      else if new F.HALL_AUTH_MODE = 2 ∧ ¬ s.on F.HALL_STATUS_E2E_UP then some (3, Reg.HALL_STATUS)
      else none
    else none
  | .orb =>
    if o = 0 then
      if s.isRoot ∧ v % 4 = 1 ∨ ¬ s.isRoot ∧ v % 4 = 0 then some (5, Reg.SYS_STATUS)
      else if v % 4 = 2 ∧ ¬ s.isRoot ∧ s.on F.TREE_ID_NUMBERED then some (9, Reg.TREE_ID)
      else if v % 4 = 2 ∧ s.clasped then some (5, Reg.CLASP_CTRL)
      else none
    else none
  | .wall =>
    if o = 0x18 then
      if s.isRoot ∧ new F.WALL_SERVO_SRC = 1 ∨ ¬ s.isRoot ∧ new F.WALL_SERVO_SRC = 3 then some (6, Reg.SYS_STATUS) else none
    else if o = 0x44 ∧ v % 4 ≠ 0 ∧ s.get F.WALL_SERVO_SRC = 1 then some (6, Reg.WALL_SERVO)
    else none
  | .tree =>
    if o = 4 then
      if ¬ s.isRoot then some (1, Reg.SYS_STATUS)
      else if s.tree.fixed then some (0x0C, Reg.TREE_CTRL)
      else if 1024 < new F.TREE_RANGE_BASE + new F.TREE_RANGE_COUNT then some (0x0A, a)
      else none
    else none
  | .port => if o = 0 then s.portConflict h.i nw else none
  | .clasp =>
    if o = 0 ∧ new F.CLASP_CTRL_ENABLE = 1 then
      if ¬ s.isRoot then some (1, Reg.SYS_STATUS) else if s.srcRef then some (5, Reg.ORB_CLK) else none
    else none
  | _ => none

/-! Effects of a stored word. -/

/-- Writes of a register clear it, and of a 64-bit counter its low word both words (R27, R462, R470). -/
def State.clearCnt (s : State) (h : Hit) (a : Nat) : State :=
  if h.w = 0 then
    let t := (List.range h.row.words).foldl (fun s k => s.wr (a + 4 * k) 0) s
    if h.blk = .lane ∧ h.row.off = 0x20 ∧ (t.lane h.i).prbs.isSome then
      t.setLane h.i { t.lane h.i with prbs := (t.lane h.i).prbs.map (fun x => (x.1, max x.2 (t.bitsSince h.i x.1))) }
    else t
  else s

/-- The lanes of every other port follow a change of PORT_CFG or CLASP_CTRL: a lane that another port now holds leaves (R284). -/
def State.relane (s : State) (p : Nat) : State :=
  ((List.range 16).filter (fun q => decide (q ≠ p))).foldl (fun s q =>
    let ls := (s.port q).lanes
    let stay := ls.filter (fun l => decide (s.portOfLane l = some q))
    if stay = ls then s
    else if stay = [] then (s.setLanes q []).portLost q
    else s.setLanes q stay) s.conflicts

/-- A write of PORT_CFG: the port starts anew under its type and lanes (R284, R314). -/
def State.portCfgWrite (s : State) (p nw : Nat) : State :=
  let s1 := ((s.portDown p).setLanes p []).wr (Reg.PORT_CFG p) nw
  let s2 := s1.relane p
  let s3 := (List.range 16).foldl (fun s l =>
    if bitsOf (s.rd (Reg.PORT_CFG p) ||| nw) l 1 = 1 ∧ s.portOfLane l = none ∧ ¬ s.hostLane l then s.lanePower l false else s) s2
  s3.toBase p

/-- A write of LANE_CTRL that changes LOOP (R321). -/
def State.loopWrite (s : State) (l old new : Nat) : State :=
  if old = new then s
  else
    let s1 := if old = 3 then (s.setLane l { s.lane l with loop := 0 }).laneBlock l 0xE1 3 else s
    if new = 0 then s1.laneReturns l
    else
      let s2 := if old = 0 then s1.laneLeaves l else s1
      if new = 3 then (s2.setLane l { s2.lane l with loop := 1 }).laneBlock l 0xE1 0 else s2

/-- A write of FE_CTRL (R9, R13, R74). -/
def State.feCtrlWrite (s : State) (old nw : Nat) : State :=
  let was := decide (bitsOf old 0 1 = 1)
  let now := decide (bitsOf nw 0 1 = 1)
  if was = false ∧ now = true then
    let s1 := (if s.isLeaf then s else s.ungateMatrix).unflag F.FE_STATUS_SETTLED
    { s1 with fe := { s1.fe with calDue := true } }
  else if was = true ∧ now = false then
    let s1 := (s.unflag F.FE_STATUS_SETTLED).abandonCals false
    if s1.isLeaf then s1 else fragOut s1.gateMatrix
  else if now = true ∧ old ≠ nw then s.unflag F.FE_STATUS_SETTLED
  else s

/-- A write of FE_CH (R76, R88, R102): MASK from the next slot start, PD and the trim at once. -/
def State.feChWrite (s : State) (n old nw : Nat) : State :=
  let c := s.chan n
  let s1 := if bitsOf old 0 1 ≠ bitsOf nw 0 1 then
      (if c.maskWas.any (fun e => decide (e.1 = s.time.slots + 1)) then s
       else s.setChan n { c with
         maskWas := (c.maskWas.drop (c.maskWas.length - 1)) ++ [(s.time.slots + 1, decide (bitsOf old 0 1 = 1))] }) else s
  let s2 := if bitsOf old 1 1 = 1 ∧ bitsOf nw 1 1 = 0 then s1.setChan n { s1.chan n with settling := true }
    else if bitsOf old 1 1 = 0 ∧ bitsOf nw 1 1 = 1 then s1.dropCals n
    else s1
  if bitsOf old 4 6 = bitsOf nw 4 6 then s2 else s2.trimCheck n

/-- A write of FAULT_POLICY reloads the type's countdown; a lowered LIMIT takes effect at the next orbit start (R454, R455). -/
def State.policyWrite (s : State) (ty old nw : Nat) : State :=
  let s1 := { s with fault := { s.fault with count := sset 0 s.fault.count ty (bitsOf nw 0 24) } }
  if bitsOf nw 24 8 < bitsOf old 24 8 ∧ ¬ s.fault.lowered.contains ty then
    { s1 with fault := { s1.fault with lowered := s1.fault.lowered ++ [ty] } }
  else s1

/-- The lowest bit of `n` bits set in `v`. -/
def lowestBit (n v : Nat) : Nat := ((List.range n).find? (fun k => decide (bitsOf v k 1 = 1))).getD 0

/-- HIF_FEAT_STATUS is set with the outcome of a commit (R377). -/
def State.featStatus (s : State) (st reason bit : Nat) : State :=
  ((s.put F.HIF_FEAT_STATUS_STATE st).put F.HIF_FEAT_STATUS_REASON reason).put F.HIF_FEAT_STATUS_BIT bit

/-- Fields of features no longer accepted read 0 (R378). -/
def State.dropFields (s : State) : State :=
  let cfgs := (s.regs.map (fun e => e.1)).filter (fun a =>
    decide (Reg.RING_CFG 0 ≤ a ∧ a < Reg.RING_CFG 8192 ∧ (a - Reg.RING_CFG 0) % 32 = 0 ∨ a = Reg.HIF_TPRIM))
  cfgs.foldl (fun s a => match findReg a with
    | some h => s.wr a (featWord s.hif.feats h (s.rd a))
    | none => s) s

/-- `HIF_FEAT_CMD.COMMIT` (R377). -/
def State.commitFeats (s : State) : State :=
  let set := s.rd (Reg.HIF_FEAT_ACCEPT 0) + s.rd (Reg.HIF_FEAT_ACCEPT 1) * 2 ^ 32 + s.rd (Reg.HIF_FEAT_ACCEPT 2) * 2 ^ 64
    + s.rd (Reg.HIF_FEAT_ACCEPT 3) * 2 ^ 96
  let extra := set / 512
  let take : Nat → State → State := fun v t => ({ t with hif := { t.hif with feats := v } }).dropFields
  if s.regs.any (fun e => decide (Reg.RING_CFG 0 ≤ e.1 ∧ e.1 < Reg.RING_CFG 8192 ∧ (e.1 - Reg.RING_CFG 0) % 32 = 0) &&
      decide (bitsOf e.2.toNat 31 1 = 1)) then take 0 (s.featStatus 2 3 0x7F)
  else if extra ≠ 0 then take 0 (s.featStatus 2 1 (9 + lowestBit 119 extra))
  else if set % 2 = 0 then take 0 (s.featStatus 2 2 0)
  else take set (s.featStatus 1 0 0)

/-- `HIF_NUDGE` with feature NUDGE (R363, R378, R382): the block's read is issued, or one more is noted while it is being read. -/
def State.nudge (s : State) (b : Nat) : State :=
  if ¬ s.feat 4 ∨ ¬ s.hostReads then s
  else if s.hif.nudges.any (fun e => decide (e.1 = b)) then
    { s with hif := { s.hif with nudges := s.hif.nudges.map (fun e => if e.1 = b then (b, true) else e) } }
  else
    ({ s with hif := { s.hif with nudges := s.hif.nudges ++ [(b, false)] } }).emit
      (.dmaRead (s.rd64 Reg.HIF_DB_BASE + 256 * b) 256)

/-- A write of RING_CFG (R363, R382): a ring enabled starts empty, and one disabled forgets what it has read. -/
def State.ringWrite (s : State) (r old nw : Nat) : State :=
  let clear : State → State := fun t => (t.setCmds r []).setBufs r []
  if bitsOf old 31 1 = 0 ∧ bitsOf nw 31 1 = 1 then clear ((s.wr (Reg.RING_HEAD r) 0).wr (Reg.RING_TAIL_SEEN r) 0)
  else if bitsOf old 31 1 = 1 ∧ bitsOf nw 31 1 = 0 then clear (s.unflag (F.RING_STATUS_WAITING r))
  else s

/-- A write of CLASP_CTRL, which only a capsule makes (R284, R342): the clasp link takes L6 and L7, and the member pairs. -/
def State.claspWrite (s : State) (old nw : Nat) : State :=
  if bitsOf old 0 1 = bitsOf nw 0 1 then s
  else if bitsOf nw 0 1 = 1 then
    let s1 := ((s.relane 16).put F.CLASP_STATUS_STATE clPairing)
    (s1.setLanes 15 []).toBase 15
  else ((s.portDown 15).put F.CLASP_STATUS_STATE clUnpaired).relane 16

/-- What follows from a write of `v`, where word `nw` now stands in place of `old`. -/
def State.wrote (s : State) (h : Hit) (old v nw : Nat) : State :=
  let o := h.row.off
  let strobe : Nat → Bool := fun k => decide (bitsOf v k 1 = 1)
  match h.blk with
  | .orb =>
    if o = 0 ∨ o = 4 then (if old = nw then s else s.clockChanged)
    else if o = 0x40 then (if bitsOf old 31 1 = 0 ∧ bitsOf nw 31 1 = 1 then s.holdPhase else s)
    else if (o = 0xC ∨ o = 0x100) ∧ ¬ s.time.counting then s.calUpdate
    else s
  | .wall =>
    if o = 0x18 then
      (if bitsOf old 0 2 = bitsOf nw 0 2 then s else { s with wall := { s.wall with
        fresh := true, sinceAcc := 0, srcLost := false, ptmAge := none, ptmHeard := 0 } })
    else if o = 0x44 then
      let s1 := if strobe 0 then s.wallSetNow else s
      if strobe 1 then { s1 with wall := { s1.wall with setAtPps := true } } else s1
    else s
  | .tiu =>
    if o = 0x18 then
      (if strobe 0 ∨ strobe 1 then s.nextF (.tiuCmd (strobe 1) (strobe 0)) (tiuCommand (strobe 1) (strobe 0)) else s)
    else s
  | .vtdc => if o = 0x60 then pselLatch s else s
  | .tile =>
    if o = 8 ∧ strobe 0 then
      (List.range 256).foldl (fun s t => s.put (F.TILE_T_OCC_MAX t) (s.tile t).occ) s
    else s
  | .trg =>
    if o = 0 then
      (if bitsOf nw 0 2 = 2 then ({ s with trg := { s.trg with demoted := false } }).unflag F.TRG_STATUS_SPEC_DEMOTED else s)
    else if o = 0xC then
      let s1 := if strobe 2 then trgForce s else s
      let s2 := if strobe 1 then trgEvidence s1 else s1
      if strobe 0 then trgUnfreeze s2 else s2
    else if o = 0x14 then (s.wr Reg.TRG_RATE old).busyFollows s.rateWrite
    else if o = 0x30 then s.put F.TRG_MARGIN_MIN 0x7FFF
    else s
  | .vault => if o = 8 ∧ strobe 31 then vaultRepairCmd s else s
  | .arb => if o = 0x20 ∨ o = 0 then s.arbReclass h.i else s
  | .lane =>
    if o = 0 ∧ bitsOf old 0 6 ≠ bitsOf nw 0 6 then
      ((s.prbsKeep h.i).loopWrite h.i (bitsOf old 0 2) (bitsOf nw 0 2)).prbsStart h.i
    else s
  | .port => if o = 0x24 then portWidthSet h.i s else s
  | .tree =>
    if o = 8 then (if bitsOf nw 0 1 = 1 then discoverSet s else s)
    else if o = 0x10 ∧ strobe 0 then treeRehome s
    else s
  | .clasp =>
    if o = 0 then s.claspWrite old nw
    else if o = 0x1C ∧ strobe 0 then claspPromote s
    else s
  | .hall => if o = 0x10 ∧ strobe 0 then s.rekeyAll else s
  | .fault =>
    if o = 0x44 then s.policyWrite (h.i + 1) old nw
    else if o = 0x14 then s.wr Reg.FAULT_UNIT (s.faultUnitWord (bitsOf nw 28 4) (bitsOf nw 0 16))
    else s
  | .mon =>
    if o = 0 then monModeSet s
    else if o = 8 then excWritten s.isrcInputs (strobe 31) s
    else if o = 0x104 then excWritten [h.i] (strobe 31) s
    else if o = 0x10 then
      let s1 := if strobe 1 then monSeqStop s else s
      if strobe 0 then monSeqStart s1 else s1
    else if o = 0x1C ∧ strobe 31 then monInjGo s
    else if o = 0x28 ∧ strobe 31 then (if bitsOf v 16 3 ≤ 4 then calGo (bitsOf nw 16 3) s else s)
    else if o = 0x710 then
      let s1 := if strobe 1 then scopeAbort s else s
      let s2 := if strobe 0 then scopeArm s1 else s1
      if strobe 2 then scopeForce s2 else s2
    else s
  | .fe =>
    if o = 0 then s.feCtrlWrite old nw
    else if o = 4 then s.clampCheck
    else if o = 8 then thrOfsWritten s
    else if o = 0xC then
      (if s.time.counting ∧ s.sys.run ≠ .ready then s else { s with fe := { s.fe with injNow := nw } })
    else if o = 0x10000 then s.feChWrite h.i old nw
    else s
  | .tally => if o = 0xC ∧ strobe 31 then tallyDumpGo s else s
  | .hif =>
    if o = 0x30 ∧ strobe 0 then s.commitFeats
    else if o = 0x4C then s.nudge (bitsOf v 0 7)
    else if o = 0x400 then s.coalWrite h.i
    else if o = 0x8000 then s.sendPending
    else s
  | .ring => if o = 0x10008 then s.ringWrite h.i old nw else s
  | _ => s

/-- The words of a write that takes effect: those held below its highest word, then the word itself (R470). -/
def State.heldWords (s : State) (h : Hit) (a v : Nat) : List (Nat × Nat) :=
  if h.held then s.bus.held.filter (fun p => decide (a < p.1 + 4 * h.row.words ∧ p.1 < a)) ++ [(a, v)] else [(a, v)]

/-- An accepted write takes effect: stored, its effects, and the digest if a digested bit has changed (R399). -/
def State.applyWord (s : State) (h : Hit) (a v : Nat) : State :=
  if h.row.cnt then s.clearCnt h a
  else if h.blk = .wall ∧ h.row.off = 0x14 ∧ s.get F.WALL_SERVO_SRC ≠ 0 then s
  else
    let old := s.rd a
    let nw := s.newWord h a v
    let s1 := if h.blk = .port ∧ h.row.off = 0 then s.portCfgWrite h.i nw else s.wr a nw
    let s2 := s1.wrote h old v nw
    match digestMask a with
    | some m => if old &&& m = nw &&& m then s2 else s2.redigest
    | none => s2

/-- A write to a register that is accepted: a lower word of a multi-word register waits for the highest (R470). -/
def State.takeWrite (s : State) (h : Hit) (a v : Nat) : State :=
  if h.held ∧ h.w + 1 < h.row.words then
    { s with bus := { s.bus with held := sset 0x100000000 s.bus.held a (v &&& h.row.rw h.i h.j h.w) } }
  else
    let ws := s.heldWords h a v
    let s1 := { s with bus := { s.bus with held := s.bus.held.filter (fun p => !ws.any (fun w => decide (w.1 = p.1))) } }
    ws.foldl (fun s w => match findReg w.1 with | some k => s.applyWord k w.1 w.2 | none => s) s1

/-! Judging a write (R9, R24–R31, R391, R468). -/

/-- A refused write: SYS_REJECT_CNT, and HALL_PROTECTED_REJ_CNT where the target is Protected (R27, R391). -/
def State.rejected (s : State) (prot : Bool) : State :=
  let s1 := s.inc Reg.SYS_REJECT_CNT
  if prot then s1.inc Reg.HALL_PROTECTED_REJ_CNT else s1

/-- The target of a write is Protected: an RWL register, or at a root the vault window (R391, R480). -/
def State.protTarget (s : State) (a : Nat) : Bool :=
  if inVault a then s.isRoot
  else match findReg a with | some h => decide (h.row.cls = .prot) | none => false

/-- A write to a register, `capsule` if it is an item of a capsule, which may write Protected fields (R24, R391, R393). Answers
the status, and the state after it. -/
def State.regWrite (s : State) (capsule : Bool) (a v : Nat) : Ans × State :=
  match findReg a with
  | none => (ansBadArg, s.inc Reg.SYS_BADADDR_CNT)
  | some h =>
    let v := v % 2 ^ 32
    let nw := s.newWord h a v
    let low := decide (h.blk = .hall) && decide (h.row.off = 4) &&
      decide (bitsOf nw 0 2 < s.get F.HALL_POLICY_MIN_AUTH)
    let prot := decide (h.row.cls = .prot)
    let open' := decide (s.sys.run = .ready ∨ s.sys.run = .armed)
    if !capsule && (prot || low) && open' then (ansProt a, s.rejected true)
    else if !((s.classOf h a nw).accepts s.sys.run || (capsule && prot && open')) then (s.ansState, s.rejected (prot || low))
    else match s.gate a with
      | some (reason, reg) => (ansMode reason reg, s.rejected false)
      | none =>
        if h.row.cls = .ro then (ansOk, s)
        else if h.blk = .ring ∧ h.row.off = 0x10008 ∧ bitsOf v 31 1 = 1 ∧ s.get F.HIF_FEAT_STATUS_STATE ≠ 1 then (ansFeature, s.lastReject ansFeature a)
        else match s.conflict h a v nw with
          | some (reason, reg) => (ansMode reason reg, s.rejected false)
          | none => (ansOk, s.takeWrite h a v)

/-- A write of a 32-bit word at a configuration offset: the register range or the vault window (R24, R219, R467, R468). A write of
the window that is not aligned answers BAD_ARG before the run state is looked at, in SAFE too (R468 before R23; DESIGN CHOICE,
log 89). -/
def State.busWrite (s : State) (a v : Nat) : Ans × State :=
  if s.sys.run = .reset then (ansOk, s)
  else if inVault a then
    if a % 4 ≠ 0 then (ansBadArg, s)
    else if s.isRoot then
      (if s.sys.run = .ready ∨ s.sys.run = .armed then (ansProt a, s.rejected true) else (s.ansState, s.rejected true))
    else if s.sys.run = .ready ∨ s.sys.run = .armed then (ansOk, s.vaultWrite a 4 v)
    else (s.ansState, s.rejected false)
  else if s.sys.run = .init ∨ s.sys.run = .safe then
    match findReg a with
    | some h => if h.row.cls = .msix then s.regWrite false a v else (s.ansState, s.rejected (s.protTarget a))
    | none => (s.ansState, s.rejected false)
  else if a % 4 ≠ 0 then (ansBadArg, s)
  else s.regWrite false a v

/-- A read of a 32-bit word at a configuration offset (R468, R469). -/
def State.busRead (s : State) (a : Nat) : Nat × Bool × State :=
  if inVault a then s.vaultRead a 4 else let (v, t) := s.regRead a; (v, false, t)

/-- A write as a command brings it: `bar` says that it comes by a BAR of a root, where a refusal is recorded (R360). -/
def State.write (s : State) (bar : Bool) (a v : Nat) : State :=
  let (r, t) := s.busWrite a v
  if bar ∧ s.isRoot ∧ r.status ≠ 0 then t.lastReject r a else t

/-- A write that names a register of its own (R24): by a BAR it takes place only with all byte enables set (R359). -/
def State.registerWrite (s : State) (bar : Bool) (a v be : Nat) : State :=
  if bar ∧ be % 16 ≠ 15 then s else s.write bar a v

/-- A read of a register, and the value that goes back (R33, R67, R469). -/
def State.readBack (s : State) (a : Nat) : State :=
  let (v, ep, t) := s.busRead a
  t.emit (.readback v ep)

/-- A write of `n` bytes into the vault window (R219, R359, R391): Protected at a root, else Operating. -/
def State.windowWrite (s : State) (bar : Bool) (a n v : Nat) : State :=
  if ¬ inVault a then s
  else if ¬ (n = 2 ∨ n = 4 ∨ n = 8) ∨ a % n ≠ 0 then (if bar ∧ s.isRoot then s.lastReject ansBadArg a else s)
  else if s.sys.run = .ready ∨ s.sys.run = .armed then
    (if s.isRoot then
      let t := s.rejected true
      if bar then t.lastReject (ansProt a) a else t
    else s.vaultWrite a n v)
  else
    let t := s.rejected s.isRoot
    if bar ∧ s.isRoot then t.lastReject s.ansState a else t

/-- A BAR2 read of `n` bytes at offset `o` (R219, R359, R361): poison sets EP and is counted. -/
def State.bar2Read (s : State) (o n : Nat) : State :=
  if ¬ s.isRoot ∨ ¬ inVault (vaultBase + o) then s
  else
    let (v, bad, t) := s.vaultRead (vaultBase + o) n
    (if bad then t.inc Reg.HIF_POISON_READ_CNT else t).emit (.readback v bad)

/-- A write word of MON_CAL_CMD with GO and an OP (R430). -/
def calWordOf (op v : Nat) : Nat := setBits (setBits v 16 3 op) 31 1 1

end Sys2Proof.Machine
end

