-- ==== Sys2Proof/Machine/Host.lean ====
section
/-! DEFINITION. The host port of a root: doorbells (R380–R382), the commands of rings and of the tree (R366–R368, R386),
CFG_RD, CFG_WR and CFG_RESP (R327), response records (R376), READMIT (R458), the function-level reset (R357) and PCI Express
configuration (R355). -/

namespace Sys2Proof.Machine

/-! Doorbells (R380–R382). -/

/-- The polling interval ends: the whole doorbell array is read (R380). -/
def doorbellPoll (s : State) : State :=
  if s.hostReads ∧ s.get F.HIF_DB_POLL_POLL ≠ 0 then
    s.afterUs s.hif.pollAt (s.get F.HIF_DB_POLL_POLL) (fun s =>
      ({ s with hif := { s.hif with pollAt := s.fNow } }).emit (.dmaRead (s.rd64 Reg.HIF_DB_BASE) 32768))
  else s

/-- A command of the bytes of a descriptor (R365). -/
def parseCmd (ix : Nat) (bs : List Byte) : HCmd :=
  { ix := ix, op := byteField bs 0 1, flags := byteField bs 1 1, die := byteField bs 2 2 % 1024, tag := byteField bs 4 2,
    arg0 := byteField bs 8 4, arg1 := byteField bs 12 4, arg2 := byteField bs 16 8 }

/-- A buffer of the bytes of a descriptor (R369). -/
def parseBuf (ix : Nat) (bs : List Byte) : HBuf :=
  { ix := ix, addr := byteField bs 0 8, len := byteField bs 8 4, id := byteField bs 12 4 }

/-- Descriptors of a ring that the device has read and not yet completed. -/
def State.heldDescs (s : State) (r : Nat) : Nat :=
  if s.ringType r = 1 then (s.cmdsOf r).length else if s.ringType r = 2 then (s.bufsOf r).length else 0

/-- A tail word arrives (R380, R382): one unchanged has no effect, an invalid one or a failed fetch disables the ring. -/
def takeTail (s : State) (t : TailWord) : State :=
  let r := t.ring
  if ¬ s.ringOn r ∨ s.rd (Reg.RING_TAIL_SEEN r) = t.tail % 2 ^ 32 then s
  else
    let head := s.rd (Reg.RING_HEAD r)
    let n := (t.tail % 2 ^ 32 + 2 ^ 32 - head) % 2 ^ 32
    if 2 ^ s.ringLog2 r < n then s.ringFail r (F.RING_STATUS_DB_ERR r)
    else
      let s1 := s.wr (Reg.RING_TAIL_SEEN r) (t.tail % 2 ^ 32)
      let have' := s.heldDescs r
      let first := head + have'
      if s.ringType r = 3 then s1
      else if t.fail ∨ t.descs.length < n - have' then (s1.ringFail r (F.RING_STATUS_FETCH_ERR r)).emit (.aer r)
      else
        let new := (t.descs.take (n - have')).mapIdx (fun k bs => ((first + k) % 2 ^ 32, bs))
        if s.ringType r = 1 then s1.setCmds r (s1.cmdsOf r ++ new.map (fun e => parseCmd e.1 e.2))
        else if s.ringType r = 2 then s1.setBufs r (s1.bufsOf r ++ new.map (fun e => parseBuf e.1 e.2))
        else s1

/-- A doorbell read ends (R380, R382): of one block, which is read once more if it was nudged meanwhile, or of the whole array. -/
def doorbellReadDone (block : Option Nat) (tails : List TailWord) (s : State) : State :=
  if ¬ s.hostReads then s
  else
    let s1 := match block with
      | none => s
      | some b =>
        let more := s.hif.nudges.any (fun e => decide (e.1 = b) && e.2)
        let s1 := { s with hif := { s.hif with nudges := s.hif.nudges.filter (fun e => decide (e.1 ≠ b)) } }
        if more then s1.nudge b else s1
    (tails.filter (fun t => match block with | none => true | some b => decide (t.ring / 64 = b))).foldl takeTail s1

/-! Running a command (R366, R367, R386). -/

/-- A command is accepted in a run state (R367); of CFG_WR, that any class is. -/
def opAccepted (op : Nat) (r : RunState) : Bool :=
  match r with
  | .reset | .init => false
  | .ready => decide (op ≠ 6 ∧ op ≠ 7)
  | .armed => decide (op ≠ 5 ∧ op ≠ 7)
  | .running | .hold => decide (op ≠ 5 ∧ op ≠ 6 ∧ op ≠ 8 ∧ op ≠ 9)
  | .safe => decide (op = 1 ∨ op = 2 ∨ op = 4 ∨ op = 0xA ∨ op = 0xB)

/-- How a command that runs ends: with a status now, with the delivery of its response record, or later. -/
inductive Done where
  | now (a : Ans)
  | record
  | later
deriving DecidableEq, Repr

/-- A command at its target: refused by its run state, or run (R367). -/
def State.atTarget (s : State) (op arg0 : Nat) (f : State → Done × State) : Done × State :=
  if opAccepted op s.sys.run then f s
  else (.now s.ansState, s.rejected (decide (op = 3) && s.protTarget arg0))

/-- Commands that the tree's messages carry (R325); the messages of the others the manual does not give (log 21). -/
def State.sendCommand (s : State) (c : HCmd) (vtag : Nat) : State :=
  let msg : Nat → List Byte → State := fun m body => s.sendTo c.die (vc0Bytes m c.die s.dieNo vtag body)
  if c.op = 2 then msg 0x18 (leBytes 4 c.arg0)
  else if c.op = 3 then msg 0x19 (leBytes 4 c.arg0 ++ leBytes 4 c.arg1)
  else match s.routePort c.die with
    | some p => s.emit (.command p c.die vtag c.op c.tag c.arg0 c.arg1)
    | none => s

/-- The command at an index of a ring has left for its target under a VC0 TAG (R366). -/
def State.setFlight (s : State) (r ix vtag : Nat) : State :=
  s.setCmds r ((s.cmdsOf r).map (fun (c : HCmd) => if c.ix = ix then { c with place := .flight vtag, since := s.fNow } else c))

/-- A command for another die: a root with its host's DMA sends it by `send` or answers for the child it cannot reach; a standby
only shadows it, and an active member waits out its CHECK (R328, R347, R366, R386). -/
def State.forward (s : State) (r : Nat) (c : HCmd) (send : State → Nat → State) : State :=
  if s.dmaOn then
    match s.requestFails c.die with
    | some (st, det) =>
      let s1 := if st = 4 then s.inc Reg.TREE_PARENT_ANSWER_CNT else s
      s1.completeCmd r c.ix st det 0 s.dieNo
    | none =>
      let v := s.hif.vtag
      let s1 := { s with hif := { s.hif with vtag := (v + 1) % 2 ^ 16 } }
      send (s1.setFlight r c.ix v) v
  else if s.standsBy then s.setPlace r c.ix .inside
  else s

/-- The outcome of a command that a ring of this root brought. -/
def State.ringDone (s : State) (r ix : Nat) (d : Done) : State :=
  match d with
  | .now a => s.completeCmd r ix a.status a.detail a.data s.dieNo
  | .record => s.setPlace r ix .record
  | .later => s.setPlace r ix .inside

/-- The outcome of a command that the tree brought. -/
def State.treeDone (s : State) (src vtag : Nat) (d : Done) : State :=
  match d with
  | .now a => s.answer src vtag a.status a.detail a.data
  | .record => s
  | .later => { s with sys := { s.sys with stops := s.sys.stops ++ [(src, vtag)] } }

/-- The response stream has room for a record of `n` data bytes, its header and a tag (R268, R269). -/
def State.roomFor (s : State) (n : Nat) : Bool := decide (n = 0 ∨ partCost .resp (n + 24) ≤ s.partFree .resp)

/-- A host command is run where it is addressed to (R366, R367, R386): `f` takes the command's TAG, ARG0 and ARG1. A command whose
response record, of `need` data bytes for its ARG1, finds no room waits (R268). -/
def State.command (s : State) (from' : CmdSrc) (op : Nat) (f : Nat → Nat → Nat → State → Done × State)
    (need : Nat → Nat := fun _ => 0) : State :=
  match from' with
  | .ring r =>
    if ¬ s.hostReads then s
    else match s.nextCmd r with
      | none => s
      | some c =>
        if c.op ≠ op then s
        else if s.isMine c.die then
          if ¬ s.roomFor (need c.arg1) then s else
          let (d, t) := s.atTarget op c.arg0 (f c.tag c.arg0 c.arg1)
          t.ringDone r c.ix d
        else s.forward r c (fun t v => t.sendCommand c v)
  | .tree p src vtag tag arg0 arg1 =>
    if ¬ s.on F.TREE_ID_NUMBERED ∨ s.isRoot ∨ ¬ s.roomFor (need arg1) then s
    else inUse p (fun s =>
      let (d, t) := s.atTarget op arg0 (f tag arg0 arg1)
      t.treeDone src vtag d) s

/-! CFG_RD, CFG_WR and their answers (R327, R367). -/

/-- A read of a register (R327, R468). -/
def State.cfgRd (s : State) (a : Nat) : Ans × State :=
  if a % 4 ≠ 0 then (ansBadArg, s)
  else
    let (v, _, t) := s.busRead a
    ({ ansOk with data := v }, t)

/-- The NOP command. -/
def cmdNop (src : CmdSrc) (s : State) : State := s.command src 1 (fun _ _ _ s => (.now ansOk, s))

/-- The CFG_RD command. -/
def cmdCfgRd (src : CmdSrc) (s : State) : State :=
  s.command src 2 (fun _ a _ s => let (r, t) := s.cfgRd a; (.now r, t))

/-- The CFG_WR command. -/
def cmdCfgWr (src : CmdSrc) (s : State) : State :=
  s.command src 3 (fun _ a v s => let (r, t) := s.busWrite a v; (.now r, t))

/-- A message of VC0 for this die is consumed on the port in use (R334). -/
def State.consume (s : State) (p : Nat) (k : State → State) : State :=
  if s.sys.run = .reset then s else inUse p k s

/-- CFG_RD received: the target answers (R327, R450). -/
def cfgRdMsg (p src tag off : Nat) (s : State) : State :=
  s.consume p (fun s =>
    if s.sys.run = .init then (s.rejected false).answer src tag 1 s.sys.run.code 0
    else
      let (a, t) := s.cfgRd off
      t.answer src tag a.status a.detail a.data)

/-- CFG_WR received: the write is judged and the target answers (R327, R450). -/
def cfgWrMsg (p src tag off v : Nat) (s : State) : State :=
  s.consume p (fun s =>
    let (a, t) := s.busWrite off v
    t.answer src tag a.status a.detail a.data)

/-- The command in flight under a VC0 TAG: its ring and itself. -/
def State.inFlight (s : State) (vtag : Nat) : Option (Nat × HCmd) :=
  s.hif.cmds.findSome? (fun e => (e.2.find? (fun (c : HCmd) => decide (c.place = .flight vtag))).map (fun c => (e.1, c)))

/-- CFG_RESP reaches the root (R327, R366): the command it answers completes; with none in flight it is discarded. -/
def cfgResp (die tag status detail data : Nat) (s : State) : State :=
  if ¬ s.isRoot then s
  else match s.inFlight tag with
    | some (r, c) => s.completeCmd r c.ix status detail data die
    | none => s

/-- No answer has come within HIF_CMD_TMO µs (R366): TIMEOUT. -/
def commandTimeout (r ix : Nat) (s : State) : State :=
  match (s.cmdsOf r).find? (fun c => decide (c.ix = ix)) with
  | some c => (match c.place with
    | .flight _ => s.afterUs c.since (atLeast1 (s.get F.HIF_CMD_TMO_TMO)) (fun s => s.completeCmd r ix 0x82 0 0 c.die)
    | _ => s)
  | none => s

/-- A command with an unknown OP (R368). -/
def badOp (r : Nat) (s : State) : State :=
  if ¬ s.hostReads then s
  else match s.nextCmd r with
    | some c => if c.op = 0 ∨ 0xB < c.op then s.completeCmd r c.ix 0x80 0 0 s.dieNo else s
    | none => s

/-! Response records (R376). -/

/-- A response record: header and data words. -/
def respRecord (op status die tag : Nat) (words : List Byte) : List Byte :=
  leBytes 1 op ++ leBytes 1 status ++ leBytes 2 die ++ leBytes 2 tag ++ leBytes 2 (words.length / 4) ++ List.replicate 8 0 ++ words

/-- The die's answer as a response record. -/
def State.respond (s : State) (op tag : Nat) (words : List Byte) : State :=
  (s.pushUnit 4 .resp false (respRecord op 0 s.dieNo tag words)).uplinks

/-- Words read from a configuration offset on, as bytes. -/
def readWords : Nat → Nat → State → List Byte × State
  | 0, _, s => ([], s)
  | k + 1, a, s =>
    let (v, _, s1) := s.busRead a
    let (bs, s2) := readWords k (a + 4) s1
    (leBytes 4 v ++ bs, s2)

/-- The CFG_RD_BLOCK command. -/
def cmdCfgRdBlock (src : CmdSrc) (s : State) : State :=
  s.command src 4 (fun tag a n s =>
    if a % 4 ≠ 0 ∨ n = 0 ∨ 256 < n then (.now ansBadArg, s)
    else
      let (bs, t) := readWords n a s
      (.record, t.respond 4 tag bs)) (fun n => 4 * min n 256)

/-- The LOG_READ command (R466). -/
def cmdLogRead (src : CmdSrc) (s : State) : State :=
  s.command src 0xB (fun tag i n s =>
    if 255 < i ∨ n = 0 ∨ 256 < n then (.now ansBadArg, s)
    else
      let bs := (List.range n).flatMap (fun k => padTo 32 (sget [] s.fault.log ((i + k) % 256)))
      (.record, s.respond 0xB tag bs)) (fun n => 32 * min n 256)

/-! ARM, DISARM and STOP (R19, R353, R378). -/

/-- The ARM command. -/
def cmdArm (src : CmdSrc) (s : State) : State :=
  s.command src 5 (fun _ _ _ s =>
    if s.clasped ∧ ¬ s.feat 8 then (.now ansFeature, s)
    else if ¬ s.on F.HALL_STATUS_DIGEST_VALID ∨ ¬ s.locked then (.now s.ansState, s.rejected false)
    else
      let s1 := { s.enter .armed with time := { s.time with fired := [] } }
      let s2 := if s.clasp.cold then
          { s1.unflag F.ORB_STATUS_HOLDOVER with clasp := { s1.clasp with cold := false } } else s1
      let s3 := if s.clasped ∧ s.clState = clPairing then
          (s2.put F.CLASP_STATUS_STATE clActive).flag F.CLASP_STATUS_ALONE else s2
      (.now ansOk, s3))

/-- The DISARM command. -/
def cmdDisarm (src : CmdSrc) (s : State) : State := s.command src 6 (fun _ _ _ s => (.now ansOk, s.enter .ready))

/-- The STOP command: from HOLD at once, from RUNNING at the end of the orbit. -/
def cmdStop (src : CmdSrc) (s : State) : State :=
  s.command src 7 (fun _ _ _ s =>
    if s.sys.run = .hold then (.now ansOk, s.endCapture)
    else (.later, { s with sys := { s.sys with stopPend := true } }))

/-! READMIT (R458). -/

/-- The next edge of the channel or UTIL input of these pairs goes to pair A where both are idle (R96). -/
def State.pairAnew (s : State) (i : Nat) : State :=
  if i < 16384 then s.setChan i { s.chan i with lastB := true }
  else { s with tiu := { s.tiu with lastB := s.tiu.lastB.filter (fun k => decide (k ≠ i - 16384)) } }

/-- What a re-admitted unit does (R458): a channel settles, a pair is NOCAL and keeps its age (R103, R104). -/
def State.resumeUnit (s : State) (ty ix : Nat) : State :=
  if ty = 1 then s.setChan ix { s.chan ix with settling := true, lastB := true }
  else if ty = 2 then
    (s.setPair ix { s.pair ix with nocal := true, cal := false, stopped := s.on F.VTDC_STATUS_BULK_ACTIVE }).pairAnew (ix / 2)
  else if ty = 3 then s.setTile ix {}
  else if ty = 5 then (s.unflag (F.LANE_STATUS_RETIRED ix)).laneReturns ix
  else if ty = 6 then s.toBase ix
  else if ty = 8 then s.unflag (F.MON_IN_STAT_RETIRED ix)
  else s

/-- A port's bit in HALL_PORT_SAFE and its fail level clear (R407, R458). -/
def State.unsafePort (s : State) (p : Nat) : State :=
  (s.wr Reg.HALL_PORT_SAFE (setBits (s.rd Reg.HALL_PORT_SAFE) p 1 0)).put (F.HALL_PORT_LEVEL p) 0

/-- A unit is re-admitted (R458): back in service if it was retired, and an INFO alert then. -/
def State.readmit (s : State) (ty ix : Nat) : Ans × State :=
  if ¬ unitExists ty ix ∨ ty = 7 then (ansBadArg, s)
  else
    let back := s.isRetired ty ix
    let told := back || (decide (ty = 9) && s.isPending ty ix)
    let s1 := s.readmitUnit ty ix
    let held := decide (ty = 6) && decide (bitsOf (s.rd Reg.HALL_PORT_SAFE) ix 1 = 1)
    let s2 := if held ∨ (ty = 6 ∧ back = true) then s1.unsafePort ix else s1
    let s3 := if back = true ∨ held = true then s2.resumeUnit ty ix else s2
    (ansOk, if told then s3.alert .info Reg.FAULT_STATUS 8 ty ix 0 else s3)

/-- The READMIT command. -/
def cmdReadmit (src : CmdSrc) (s : State) : State :=
  s.command src 8 (fun _ ty ix s => let (a, t) := s.readmit ty ix; (.now a, t))

/-! The function (R355, R357). -/

/-- A Function Level Reset (R357): HIF and RING registers but for counters and what HIF_STATUS shows of the link, and what the
host port held. -/
def flr (s : State) : State :=
  if ¬ s.isRoot then s
  else
    let stays : Nat → Bool := fun a =>
      decide (a = Reg.HIF_STATUS) ||
        (match findReg a with
         | some h => decide (h.blk ≠ .hif ∧ h.blk ≠ .ring) || h.row.cnt
         | none => true)
    ({ s with regs := s.regs.filter (fun e => stays e.1), hif := {} }).unflag F.HIF_STATUS_PTM_EN

/-- A write of the function's configuration space, or a change of its link (R355). -/
def pcieConfigWrite (w : PcieCfg) (s : State) : State :=
  if ¬ s.isRoot then s
  else match w with
    | .power d3 =>
      let s1 := { s with hif := { s.hif with d3 := d3 } }
      if d3 then s1 else s1.flushAll.sendPending
    | .msix en mask => ({ s with hif := { s.hif with msixOn := en, msixMask := mask } }).sendPending
    | .ptm en => s.flagIf F.HIF_STATUS_PTM_EN en
    | .word off v => { s with hif := { s.hif with cfg := sset 0 s.hif.cfg off v } }
    | .link width rate =>
      ((s.flagIf F.HIF_STATUS_LINK_UP (decide (width ≠ 0))).put F.HIF_STATUS_WIDTH width).put F.HIF_STATUS_RATE rate

end Sys2Proof.Machine
end

