-- ==== Sys2Proof/Machine/Capsule.lean ====
section
/-! DEFINITION. Capsules (R392–R397), the digest's completion (R399) and attestation (R400). -/

namespace Sys2Proof.Machine

/-! The form of a capsule (R392). -/

/-- LENGTH of a capsule. -/
def capLen (bs : List Byte) : Nat := byteField bs 4 4
/-- CLAIM of a capsule. -/
def capClaim (bs : List Byte) : Bool := decide (bitsOf (byteField bs 2 2) 1 1 = 1)
/-- LOCK of a capsule. -/
def capLock (bs : List Byte) : Bool := decide (bitsOf (byteField bs 2 2) 0 1 = 1)
/-- Largest capsule, and the size of the capsule store (R392, R395). -/
abbrev capMax : Nat := 270336

/-- Words of `bs` as writes to consecutive offsets from `a`. -/
def wordsAt : Nat → Nat → List Byte → List (Nat × Nat)
  | 0, _, _ => []
  | k + 1, a, bs => (a, byteField bs 0 4) :: wordsAt k (a + 4) (bs.drop 4)

/-- `n` items of a capsule as single-word writes in order, and the bytes left; none where an item runs past the end. -/
def capItems : Nat → List Byte → Option (List (Nat × Nat) × List Byte)
  | 0, bs => some ([], bs)
  | n + 1, bs =>
    let words := byteField bs 4 4
    if bs.length < 8 ∨ bs.length - 8 < 4 * words then none
    else
      match capItems n (bs.drop (8 + 4 * words)) with
      | some (ws, rest) => some (wordsAt words (byteField bs 0 4) (bs.drop 8) ++ ws, rest)
      | none => none

/-- An offset names an existing writable field (R393). -/
def writable (a : Nat) : Bool :=
  decide (a % 4 = 0) && (inVault a || (match findReg a with | some h => decide (h.row.cls ≠ .ro) | none => false))

/-- The Protected group of an offset, as its bit in HALL_LOCK (R391, R393). -/
def State.lockGroup (s : State) (a : Nat) : Option Nat :=
  if a = Reg.CLASP_CTRL then some 0
  else if inVault a then (if s.isRoot then some 1 else none)
  else if a = Reg.HALL_POLICY then some 2
  else none

/-! Verification (R393, R396). -/

/-- A capsule ends with a failure (R393). -/
def State.capFails (s : State) : State := ((s.inc Reg.HALL_CAP_FAIL_CNT).flag F.HALL_STATUS_CAP_FAIL).warn F.HALL_STATUS_CAP_FAIL

/-- The sender of a capsule is answered (R395). -/
def State.capAnswer (s : State) (f : CapFrom) (a : Ans) : State :=
  match f with
  | .ring r ix => s.completeCmd r ix a.status a.detail a.data s.dieNo
  | .tree src tag => s.answer src tag a.status a.detail a.data

/-- Steps 1 and 2 as a capsule is handed over; one that passes is being verified (R393, R396). -/
def State.capBegin (s : State) (f : CapFrom) (bs : List Byte) : State :=
  let open' := decide (s.sys.run = .ready) || (decide (s.sys.run = .armed) && !capClaim bs)
  if ¬ open' then
    let s1 := s.rejected false
    (if capClaim bs then s1 else s1.capFails).capAnswer f s.ansState
  else if s.hall.verify.isSome then s.capFails.capAnswer f { status := 0x17 }
  else ({ s with hall := { s.hall with verify := some (bs, f) } }).flag F.HALL_STATUS_CAP_BUSY

/-- What step 3 leaves of a capsule: its writes, or CAP_FORMAT with the offset. -/
def capParse (bs : List Byte) : Except Ans (List (Nat × Nat)) :=
  let bad : Nat → Ans := fun a => { status := 0x16, detail := a % 2 ^ 24 }
  let n := capLen bs
  if byteField bs 0 2 ≠ 1 ∨ n < 156 ∨ capMax < n ∨ bs.length < n ∨ byteField bs 20 4 = 0 then .error (bad 0)
  else
    match capItems (byteField bs 24 4) ((bs.take (n - 64)).drop 92) with
    | some (ws, []) =>
      match ws.find? (fun w => !writable w.1) with
      | some w => .error (bad w.1)
      | none => .ok ws
    | _ => .error (bad 0)

/-- The last value that writes give to an offset. -/
def lastValue (ws : List (Nat × Nat)) (a : Nat) : Nat := ws.foldl (fun acc w => if w.1 = a then w.2 else acc) 0

/-- A capsule's write of the vault window: `all` are the capsule's writes, `rest` those still to come. A word of which it writes all
four entries is written whole, with the last write of it (R229). -/
def State.vaultItem (s : State) (all rest : List (Nat × Nat)) (a v : Nat) : State :=
  let lo := a / 8 * 8
  if ¬ (all.any (fun w => decide (w.1 = lo)) ∧ all.any (fun w => decide (w.1 = lo + 4))) then s.vaultWrite a 4 v
  else if rest.any (fun w => decide (w.1 / 8 * 8 = lo)) then s
  else s.vaultWrite lo 8 (lastValue all lo + lastValue all (lo + 4) * 2 ^ 32)

/-- The writes of a capsule in order, each judged against the state that the earlier ones leave (R393 step 9); `all` are all of
them. -/
def applyItems (all : List (Nat × Nat)) : List (Nat × Nat) → State → Except Ans State
  | [], s => .ok s
  | (a, v) :: ws, s =>
    if inVault a then
      if s.sys.run = .ready ∨ s.sys.run = .armed then applyItems all ws (s.vaultItem all ws a v) else .error s.ansState
    else
      let (r, t) := s.regWrite true a v
      if r.status = 0 then applyItems all ws t else .error r

/-- SIGNER and SIGNATURE verify over the capsule (R392, R393). -/
def capSigned (bs : List Byte) : Bool :=
  let n := capLen bs
  Config.ecdsaVerify (slice bs 28 64) (bs.take (n - 64)) (slice bs (n - 64) 64)

/-- SHA-256 of the SIGNER. -/
def capOwner (bs : List Byte) : List Byte := padTo 32 (Config.sha256 (slice bs 28 64))

/-- SERIAL and BOOT name this die (R393 step 4); a claim must name it (R396). -/
def State.capTarget (s : State) (bs : List Byte) : Bool :=
  let ser := slice bs 8 8
  let boot := byteField bs 16 4
  (decide (ser = s.serial) || (!capClaim bs && decide (ofLE ser = 0))) && decide (boot = 0 ∨ boot = s.fuse.boots % 2 ^ 14)

/-- Steps 3 to 9 of a capsule that is no claim: a failure, or the state with its items applied (R393, R394). -/
def State.capRun (s : State) (bs : List Byte) : Except Ans State :=
  match capParse bs with
  | .error a => .error a
  | .ok ws =>
    if ¬ s.capTarget bs then .error { status := 0x14 }
    else if s.claimed? ∧ capOwner bs ≠ s.ownerHash then .error { status := 0x12 }
    else if ¬ capSigned bs then .error { status := 0x11 }
    else if byteField bs 20 4 ≤ s.rd Reg.HALL_CAP_VER then .error { status := 0x13 }
    else
      match ws.find? (fun w => match s.lockGroup w.1 with | some g => decide (bitsOf (s.rd Reg.HALL_LOCK) g 1 = 1) | none => false) with
      | some w => .error { status := 0x15, detail := w.1 % 2 ^ 24 }
      | none =>
        match applyItems ws ws s with
        | .error a => .error a
        | .ok t =>
          let t1 := (t.wr Reg.HALL_CAP_VER (byteField bs 20 4)).inc Reg.HALL_CAP_OK_CNT
          let t2 := if capLock bs then ws.foldl (fun t w => match s.lockGroup w.1 with
              | some g => t.wr Reg.HALL_LOCK (setBits (t.rd Reg.HALL_LOCK) g 1 1)
              | none => t) t1 else t1
          .ok t2.redigest

/-- On an unclaimed die a capsule that reaches step 5 sets OPEN (R393). -/
def State.capOpen (s : State) (bs : List Byte) : State :=
  if ¬ s.claimed? ∧ (capParse bs).toOption.isSome ∧ s.capTarget bs then s.flag F.HALL_STATUS_OPEN else s

/-- The verification of a capsule ends: it fails, or its items are applied before anything else (R393, R394). -/
def capsuleApply (s : State) : State :=
  match s.hall.verify with
  | none => s
  | some (bs, f) =>
    if capClaim bs then s
    else
      let s1 := ({ s with hall := { s.hall with verify := none } }).unflag F.HALL_STATUS_CAP_BUSY
      let s2 := s1.capOpen bs
      match s2.capRun bs with
      | .error a => s2.capFails.capAnswer f a
      | .ok t => t.capAnswer f ansOk

/-- Every bit burnt in `old` is 1 in `new` (R397). -/
def burnsOver (old new : List Byte) : Bool := decide ((old.zipWith (fun a b => a ||| b) new) = new)

/-- The checks of a claim in R396's order: the failure, or none. -/
def State.claimFails (s : State) (bs : List Byte) : Option Ans :=
  match capParse bs with
  | .error a => some a
  | .ok ws =>
    if ws ≠ [] ∨ capLen bs ≠ 156 then some { status := 0x16 }
    else if ¬ s.capTarget bs then some { status := 0x14 }
    else if ¬ capSigned bs then some { status := 0x11 }
    else if s.claimed? then some { status := 0x18 }
    else if ¬ burnsOver s.ownerHash (capOwner bs) then some { status := 0x19 }
    else none

/-- A CLAIM capsule ends (R396, R397): it fails, or the owner hash and then CLAIMED are burnt. -/
def claim (s : State) : State :=
  match s.hall.verify with
  | none => s
  | some (bs, f) =>
    if ¬ capClaim bs then s
    else
      let s1 := ({ s with hall := { s.hall with verify := none } }).unflag F.HALL_STATUS_CAP_BUSY
      match s1.claimFails bs with
      | some a => s1.capFails.capAnswer f a
      | none =>
        let s2 := { s1 with
          fuse := { s1.fuse with owner := capOwner bs, claimed := true }
          hall := { s1.hall with broken := false } }
        let s3 := (s2.inc Reg.HALL_CAP_OK_CNT).capAnswer f ansOk
        if s3.on F.TREE_ID_NUMBERED then s3.e2eOpen else s3

/-! Capsules by command and by chunks (R367, R382, R395). -/

/-- Up to `k` chunks of 1,008 bytes of a capsule for another die (R395). -/
def capChunks (die vtag : Nat) : Nat → Nat → List Byte → State → State
  | 0, _, _, s => s
  | k + 1, o, bs, s =>
    if bs = [] then s
    else
      capChunks die vtag k (o + 1008) (bs.drop 1008)
        (s.sendTo die (vc0Bytes 0x35 die s.dieNo vtag (padWord (leBytes 4 o ++ bs.take 1008))))

/-- The bytes a command fetched, or its failure: BAD_ARG, and the ring is disabled (R368, R382). -/
def State.fetched (s : State) (r : Nat) (c : HCmd) (bytes : Option (List Byte)) (k : List Byte → State) : State :=
  match bytes with
  | some bs => k (bs.take c.arg1)
  | none => (s.completeCmd r c.ix 0x81 0 0 s.dieNo).ringFail r (F.RING_STATUS_FETCH_ERR r)

/-- The CAPSULE command of ring `r` with the bytes that its fetch returned (R367, R395). -/
def cmdCapsule (r : Nat) (bytes : Option (List Byte)) (s : State) : State :=
  if ¬ s.hostReads then s
  else match s.nextCmd r with
    | none => s
    | some c =>
      if c.op ≠ 9 then s
      else s.fetched r c bytes (fun bs =>
        if s.isMine c.die then (s.setPlace r c.ix .inside).capBegin (.ring r c.ix) bs
        else s.forward r c (fun t v => capChunks c.die v 269 0 bs t))

/-- CAP_CHUNK received (R395): staged in order; with its last byte the capsule is verified. -/
def capChunk (p src tag off : Nat) (bs : List Byte) (s : State) : State :=
  s.consume p (fun s =>
    let same := decide (s.hall.stageFor = (src, tag))
    let have' := if same then s.hall.staged else []
    let keep : List Byte → State := fun x => { s with hall := { s.hall with staged := x, stageFor := (src, tag) } }
    let abandon := (keep []).capFails.answer src tag 0x16 (off % 2 ^ 24) 0
    if off ≠ have'.length then abandon
    else
      let all := have' ++ bs
      if capMax < capLen all ∧ 8 ≤ all.length then abandon
      else if 8 ≤ all.length ∧ capLen all ≤ all.length then (keep []).capBegin (.tree src tag) (all.take (max 8 (capLen all)))
      else keep all)

/-! The digest (R399). -/

/-- The recomputation of the digest completes (R399). -/
def digestDone (s : State) : State :=
  if s.hall.hashing then
    let s1 := (s.wrBytes Reg.HALL_DIGEST s.configDigest).flag F.HALL_STATUS_DIGEST_VALID
    { s1 with hall := { s1.hall with hashing := false } }
  else s

/-! Attestation (R400). -/

/-- The report's bytes 0 to 287. -/
def State.reportBody (s : State) (nonce : List Byte) : List Byte :=
  let link := if s.isRoot then 0 else match s.shaftPort with | some p => s.rd64 (Reg.PORT_FEAT p) | none => 0
  let flags := b2n (s.on F.HALL_STATUS_DIGEST_VALID) + b2n s.claimed? * 2 + b2n s.hall.broken * 4 + b2n (s.on F.HALL_STATUS_E2E_UP) * 8
    + b2n (decide (16383 ≤ s.fuse.boots)) * 16 + b2n (s.on F.HALL_STATUS_OPEN) * 32 + s.rd Reg.HALL_LOCK % 8 * 256
  leBytes 2 1 ++ leBytes 2 352 ++ leBytes 2 s.dieNo
    ++ leBytes 1 (s.sys.run.code + s.sys.role.code * 16 + s.get F.HALL_AUTH_MODE * 64) ++ leBytes 1 0
    ++ s.serial ++ s.fuseHash ++ s.digest ++ s.ownerHash ++ leBytes 16 (if s.isRoot then s.hif.feats else 0)
    ++ leBytes 8 link ++ leBytes 4 (s.fuse.boots % 2 ^ 14) ++ leBytes 4 (s.rd Reg.HALL_CAP_VER) ++ leBytes 4 s.orbitNow
    ++ leBytes 4 flags ++ padTo 64 (Config.pubOf Config.identity) ++ leBytes 1 nonce.length ++ leBytes 7 0 ++ padTo 64 nonce

/-- The signed report, which the signing die counts. -/
def State.report (s : State) (nonce : List Byte) : List Byte × State :=
  let b := s.reportBody nonce
  (b ++ padTo 64 (Config.ecdsaSign Config.identity b), s.inc Reg.HALL_ATTEST_CNT)

/-- A nonce's length is allowed. -/
def nonceOk (nonce : List Byte) : Bool := decide (16 ≤ nonce.length ∧ nonce.length ≤ 64)

/-- The ATTEST command of ring `r` with the nonce that its fetch returned. -/
def cmdAttest (r : Nat) (bytes : Option (List Byte)) (s : State) : State :=
  if ¬ s.hostReads then s
  else match s.nextCmd r with
    | none => s
    | some c =>
      if c.op ≠ 0xA then s
      else s.fetched r c bytes (fun nonce =>
        if ¬ nonceOk nonce then s.completeCmd r c.ix 0x81 0 0 s.dieNo
        else if s.isMine c.die then
          if ¬ s.roomFor 352 then s else
          let (d, t) := s.atTarget 0xA 0 (fun s => let (rep, t) := s.report nonce; (.record, t.respond 0xA c.tag rep))
          t.ringDone r c.ix d
        else s.forward r c (fun t v =>
          t.sendTo c.die (vc0Bytes 0x37 c.die t.dieNo v (padWord (leBytes 1 nonce.length ++ leBytes 3 0 ++ nonce)))))

/-- ATTEST_REQ received: the die signs and answers with ATTEST_RESP. -/
def attestReq (p src tag : Nat) (nonce : List Byte) (s : State) : State :=
  s.consume p (fun s =>
    if ¬ opAccepted 0xA s.sys.run then (s.rejected false).answer src tag 1 s.sys.run.code 0
    else if ¬ nonceOk nonce then s.answer src tag 0x81 0 0
    else
      let (rep, t) := s.report nonce
      t.sendTo src (vc0Bytes 0x38 src t.dieNo tag rep))

/-- ATTEST_RESP reaches the root, which delivers the report as a response record of the answering die (R376, R400). -/
def attestResp (die tag : Nat) (rep : List Byte) (s : State) : State :=
  if ¬ s.isRoot then s
  else match s.inFlight tag with
    | some (r, c) =>
      if c.op ≠ 0xA ∨ ¬ s.roomFor 352 then s
      else
        let u : BUnit := { stream := 4, origin := die, q := false, part := .resp,
                           bytes := respRecord 0xA 0 die c.tag (padTo 352 rep), orbit := s.time.orbit }
        let s1 := s.setPlace r c.ix .record
        { s1 with buf := { s1.buf with units := s1.buf.units ++ [u] } }
    | none => s

end Sys2Proof.Machine
end

