-- ==== Sys2Proof/Machine/Reset.lean ====
section
/-! DEFINITION. Reset and start-up (R443–R451), supplies (R487, R488), permanent faults (R459), canary bites (R242, R245), the
arbiters' releases (R233), alerts that waited (R465), and the TAP (R496). -/

namespace Sys2Proof.Machine

/-! Reset (R19, R443). -/

/-- Power fails while a claim burns its fuses: bits of the owner hash may have burnt (R397); which ones is open (log 3). -/
def State.claimInterrupted (s : State) : State :=
  match s.hall.verify with
  | some (bs, _) =>
    if capClaim bs ∧ ¬ s.fuse.claimed then
      let burnt := (capOwner bs).zipWith (fun a b => a &&& b) (drawn s.free 32)
      { s with free := s.free + 1, fuse := { s.fuse with owner := s.ownerHash.zipWith (fun a b => a ||| b) burnt } }
    else s
  | none => s

/-- Every block in reset: what stays are fuses, the TAP, the supplies, and, but for a power-on, the fault log (R443, R445, R466). -/
def State.cleared (s : State) (por : Bool) : State :=
  { fuse := s.fuse, tap := s.tap, out := s.out, free := s.free, pending := s.pending
    sys := { run := .reset, porSeen := false, serialUp := s.sys.serialUp }
    fault := { log := if por then [] else s.fault.log }
    regs := if por then [] else s.regs.filter (fun e => decide (e.1 = Reg.FAULT_LOG_NEXT)) }

/-- A power-on reset (R443, R487). -/
def powerOnReset (s : State) : State :=
  let seen := decide (s.sys.run = .reset)
  let s1 := s.claimInterrupted.cleared true
  { s1 with sys := { s1.sys with porSeen := true, rstSeen := seen && s.sys.rstSeen, perstSeen := seen && s.sys.perstSeen } }

/-- RST_N (R443). -/
def rstNAssert (s : State) : State :=
  if s.sys.run = .reset then { s with sys := { s.sys with rstSeen := true } }
  else let s1 := s.cleared false; { s1 with sys := { s1.sys with rstSeen := true } }

/-- PERST_N acts on a root; in RESET the live straps decide (R11, R443). -/
def perstNAssert (straps : Nat) (s : State) : State :=
  if s.sys.run = .reset then
    if straps % 4 = 2 then { s with sys := { s.sys with perstSeen := true } } else s
  else if s.isRoot then let s1 := s.cleared false; { s1 with sys := { s1.sys with perstSeen := true } }
  else s

/-- FAULT_BOOT.CAUSE: power-on before RST_N before PERST_N (R443). -/
def State.bootCause (s : State) : Nat := if s.sys.porSeen then 0 else if s.sys.rstSeen then 1 else 2

/-- Reset values that follow the role (R12, R37, R70, R74, R285, R296). -/
def State.roleResets (s : State) : State :=
  if s.isRoot then s.put F.TREE_STATUS_PATHV 3
  else
    let s1 := ((s.put F.ORB_CLK_SRC 1).put F.WALL_SERVO_SRC 1).wr (Reg.PORT_CFG 0) (2 ^ 30 + 0xF)
    if s.isLeaf then s1.put F.FE_CTRL_MATRIX_EN 1 else s1

/-- Reset is released: the straps are sampled, a boot fuse is burnt, INIT begins (R11, R19, R390, R443, R445). -/
def resetDeassert (straps : Nat) (claspId : Bool) (s : State) : State :=
  if s.sys.run ≠ .reset then s
  else
    let s1 := { s with
      sys := { s.sys with run := .init, role := Role.ofCode (straps % 4), straps := straps % 4, claspId := claspId }
      fuse := { s.fuse with boots := min 16383 (s.fuse.boots + 1) } }
    let s2 := ((s1.roleResets).put F.FAULT_BOOT_CAUSE s.bootCause).flagIf F.FAULT_BOOT_LOG_KEPT (decide (s.bootCause ≠ 0))
    s2.flagIf F.CLASP_STATUS_CLASP_ID claspId

/-! INIT (R445–R449). -/

/-- Fuse values that registers hold (R5, R226, R429, R503). -/
def State.loadFuses (s : State) : State :=
  let s1 := (List.range 8).foldl (fun s g => (s.put (F.MON_FACT_OFS_OFS g) (ofSigned 24 (sget 0 s.fuse.monOfs g))).put
    (F.MON_FACT_GAIN_GAIN g) (sget 0x400000 s.fuse.monGain g)) s
  let s2 := (s.fuse.monPwl.filter (fun e => decide (22 ≤ e.1 / 32 ∧ e.1 / 32 ≤ 25 ∧ e.1 % 32 < 17))).foldl
    (fun s e => s.wr (Reg.MON_PWL (e.1 / 32) (e.1 % 32)) e.2) s1
  (List.range 16).foldl (fun s b =>
    let rows := ((s.fuse.vaultRepair.filter (fun e => decide (e.1 = b))).map (fun e => e.2)).take 32
    let t := rows.zipIdx.foldl (fun s r => s.wr (Reg.VAULT_REPAIR_LOG (32 * b + r.2)) (2 ^ 31 + r.1 % 2048)) s
    let u := t.wr (Reg.VAULT_SPARE b) (rows.length * 256 + (32 - rows.length))
    { u with vault := { u.vault with done := u.vault.done ++ rows.map (fun r => b * 2048 + r % 2048) } }) s2.fuseTrims

/-- Step 1 ends (R445, R488): fuses are loaded and lanes start to train; straps 0b11 without the factory-test fuse end in SAFE
(R12). `us`: microseconds since reset was released (R451). -/
def fuseLoadDone (us : Nat) (s : State) : State :=
  if s.sys.run ≠ .init ∨ s.sys.fuseDone then s
  else
    let s1 := { s with
      sys := { s.sys with fuseDone := true }
      hall := { s.hall with broken := !s.fuse.claimed && s.ownerHash.any (fun b => decide (b ≠ 0)) } }
    let s2 := (s1.loadFuses).put (F.FAULT_START_US 0) us
    if s.sys.role = .factory ∧ ¬ s.fuse.factoryTest then s2.safeStop 5
    else (List.range 16).foldl (fun s p => s.toBase p) s2

/-- A vault row fails its read-back: it takes a spare row, or stays where its bank has none left (R226, R449). -/
def State.initRow (s : State) (row : Nat) : State :=
  let left := s.get (F.VAULT_SPARE_LEFT (row / 2048))
  if left = 0 then (s.flag F.VAULT_STATUS_NO_SPARE).warn F.VAULT_STATUS_NO_SPARE row else s.remapRow row (32 - left)

/-- Step 2 ends (R445, R449): `rows` are the vault rows and `tiles` the tiles of the buffer entries that failed, `words` the failing
words of other memories; `hallmark`: the key derivation and self-tests have passed (R389). The digest of the settings starts (R399). -/
def memoryInitDone (us : Nat) (rows tiles : List Nat) (words : Nat) (hallmark : Bool) (s : State) : State :=
  if s.sys.run ≠ .init ∨ ¬ s.sys.fuseDone ∨ s.sys.memDone then s
  else
    let s1 := ({ s with sys := { s.sys with memDone := true } }).put (F.FAULT_START_US 1) us
    if ¬ hallmark then s1.safeStop 3
    else
      let s2 := (rows.filter (fun r => decide (r < 32768))).foldl State.initRow s1
      let s3 := (tiles.filter (fun t => decide (t < 256))).foldl State.strikeTile s2
      let s4 := (List.range words).foldl (fun s _ => (s.inc Reg.FAULT_INIT_MEM_CNT).warnCnt Reg.FAULT_INIT_MEM_CNT) s3
      s4.redigest

/-- The PLL locks to its reference (R37, R44, R45, R446, R448): the F-clock runs, and what waited for it goes on; GAP stays set
from the time without lock (R129; DEDUCED, log 93). In INIT step 3
ends. A lock to lanes needs their supplies (R488). -/
def pllLock (us : Nat) (s : State) : State :=
  if s.on F.ORB_STATUS_PLL_LOCK ∨ ¬ s.sys.fuseDone ∨ (s.srcShaft ∧ ¬ s.sys.serialUp) then s
  else
    let first := !s.sys.pllDone && !s.sys.noRef && decide (s.sys.run = .init)
    let s0 := { s with time := { s.time with fRun := true }, sys := { s.sys with pllDone := true } }
    let s1 := (((if s.time.fRun then s0 else s0.runLater).flag F.TIU_STATUS_GAP).flag F.ORB_STATUS_PLL_LOCK).loopSource
    let s2 := if first then s1.put (F.FAULT_START_US 2) us else s1
    let s3 := if s2.wall.setNow then ({ s2 with wall := { s2.wall with setNow := false } }).wallLoad else s2
    let s4 := if s3.srcRef then s3.startCounters else s3
    s4.tryRegain

/-- No reference has come 10 ms after reset was released: step 3 ends without one (R448). -/
def noReferenceTimeout (s : State) : State :=
  if s.sys.run ≠ .init ∨ ¬ s.sys.fuseDone ∨ s.sys.pllDone ∨ s.sys.noRef then s
  else (({ s with sys := { s.sys with noRef := true } }).flag F.FAULT_BOOT_NOREF).put (F.FAULT_START_US 2) 10000

/-- The start-up calibration of the pairs that are powered: with the matrix off, those of the UTIL inputs (R116). -/
def State.calPowered (s : State) (c : CalSet) : State :=
  if s.matrixOn then feSettled c s else s.calAll c true

/-- The start-up calibration of the converter at gain 1 on inputs 30 and 16 (R445): drift offset and reference ratio. -/
def State.calConverter (s : State) (zero check : List MonConv) : State :=
  let d := roundDiv (sumInt (zero.map (fun v => v.x - s.getS (F.MON_FACT_OFS_OFS 0)))) (atLeast1 zero.length)
  let s1 := s.put (F.MON_DRIFT_OFS_OFS 0) (ofSigned 24 d)
  let r := roundDiv (sumInt (check.map (fun v => s1.monCode 0 (s1.monCoef 16) v))) (atLeast1 check.length)
  (s1.put F.MON_REF_RATIO_CODE (ofSigned 16 r)).calStamp

/-- Step 4 ends and the die enters READY with its START alert (R19, R22, R445, R464): `c` the pairs' calibration, `zero` and `check`
the converter's 16 outputs on inputs 30 and 16. -/
def selfCalibrationDone (us : Nat) (c : CalSet) (zero check : List MonConv) (s : State) : State :=
  if s.sys.run ≠ .init ∨ ¬ s.sys.memDone ∨ ¬ (s.sys.pllDone ∨ s.sys.noRef) then s
  else
    let s1 := if s.time.fRun ∧ ¬ s.on F.FAULT_BOOT_NOREF then s.calPowered c else s
    let s2 := ((s1.calConverter zero check).put (F.FAULT_START_US 3) us).enter .ready
    let s3 := { s2 with sys := { s2.sys with startSent := true } }
    s3.alert .start F.SYS_STATUS_READY.reg F.SYS_STATUS_READY.lo 0 0
      (s3.get F.FAULT_BOOT_CAUSE + b2n (s3.on F.FAULT_BOOT_NOREF) * 16 + b2n (s3.on F.FAULT_BOOT_LOG_KEPT) * 32)

/-! Permanent faults and supplies. -/

/-- A permanent fault of R459, or in INIT of R449; a strap fault belongs to INIT alone. -/
def permanentFault (code : Nat) (s : State) : State :=
  if 1 ≤ code ∧ code ≤ 4 ∧ s.sys.run ≠ .reset then s.safeStop code else s

/-- VDDS or VDDH falls below or returns above 90 % of its minimum (R488): the lanes and the PCI Express port power down or up. -/
def serialSupplyChange (up : Bool) (s : State) : State :=
  if up = s.sys.serialUp then s
  else
    let s1 := { s with sys := { s.sys with serialUp := up } }
    if s.sys.run = .reset then s1
    else if up then (List.range 16).foldl (fun s p => s.toBase p) s1
    else
      let s2 := (List.range 16).foldl (fun s p =>
        if s.portKind p = 0 then s else (s.lanesFor p).foldl (fun s l => s.lanePower l false) (s.portDown p)) s1
      pcieConfigWrite (.link 0 0) s2

/-! Alerts that waited, the TAP and the balls. -/

/-- The die is numbered: the alerts that waited enter the stream, oldest first (R465). -/
def alertRelease (s : State) : State :=
  if s.on F.TREE_ID_NUMBERED ∧ s.sys.run ≠ .safe then
    let s1 : State := { s with fault := { s.fault with waiting := [] } }
    (s.fault.waiting.foldl (fun (s : State) r => s.pushUnit 5 .alert false r) s1).uplinks
  else s

/-- A TAP instruction is loaded, or TRST_N resets the TAP and nothing else (R443, R496). -/
def tapOperation (o : TapOp) (s : State) : State :=
  match o with
  | .load ir ext bits => { s with tap := { ir := ir, extest := ext, boundary := bits } }
  | .trst => { s with tap := {} }

/-- The READY ball as the die drives it; none while EXTEST puts the boundary register in its place (R22, R494, R496). -/
def State.readyOut (s : State) : Option Bool := if s.tap.extest then none else some s.sys.readyBall

/-- BUSY_OUT as the die drives it; none where it is high impedance or under EXTEST (R175, R494, R496). -/
def State.busyBall (s : State) : Option Bool :=
  if s.tap.extest ∨ ¬ s.isRoot ∨ ¬ s.sys.run.isReady then none else some s.busyOut

/-- TPRIM_OUT as the die drives it in the present slot; none where it is high impedance or under EXTEST (R180, R494, R496). -/
def State.tprimBall (s : State) : Option Nat :=
  if s.tap.extest ∨ ¬ s.isRoot ∨ ¬ s.sys.run.isReady then none else some s.tprimOut

/-! Releases and bites. -/

/-- An owner's last word moves or its request drops (R233, R235); on the uplink the frame goes out, and room it frees is taken
(R247, R268). -/
def arbRelease (i : Nat) (s : State) : State :=
  if i = 16 ∨ i = 17 then fragOut ((s.uplinks.uplinkSend i).arbRelease i)
  else if i < 35 then s.arbRelease i
  else s

/-- An evaluation point (R234); on the uplink a pre-empted frame is suspended, and one whose last word moves there leaves (R247). -/
def arbEvaluate (i : Nat) (s : State) : State :=
  if i = 16 ∨ i = 17 then fragOut (s.uplinks.uplinkEvaluate i) else arbEvaluationPoint i s

/-- Flow control lets the owner of an instance move a word (R241). Posted-write credit is the host's, and is there (log 44). -/
def State.ownerReady (s : State) (i : Nat) (q : ArbReq) : Bool :=
  if i < 16 then s.hasCredit i
  else if i < 18 then (match s.uplinkPort i with | some p => s.uplinkGo p q | none => false)
  else true

/-- What a bite does to the owner `q` of an instance (R242, R245): a tile's response is abandoned and its tile struck; an uplink's frame
in progress ends with the abort marker and is asked for again, and its drift port is struck; a ring group begins its record again. -/
def State.bite (s : State) (i : Nat) (q : ArbReq) : State :=
  let s1 := s.biteRecord i q.r
  if i < 16 then fragOut ((galleryBite i s1).strikeTile (q.r * 16 + i))
  else if i < 18 then
    let s2 := match s.uplinkPort i with
      | some p => if 0 < q.prog ∨ q.susp then s1.block p 0x4B 2 else s1
      | none => s1
    let s3 := (s2.biteRelease i).uplinks
    match (if q.r < 12 then s3.driftPort q.r else none) with
    | some d => s3.strikePort d
    | none => s3
  else ((s1.biteRelease i).arbJoin i { q with prog := 0 }).arbSettle i

/-- A canary bites (R241–R245), unless its owner has moved a word or released by then. -/
def canaryBite (i : Nat) (s : State) : State :=
  if 18 ≤ i ∧ i < 34 then s.bankBite (i - 18)
  else if 35 ≤ i then s
  else s.biteAt i (fun s =>
    match (s.arb i).owner with
    | none => s
    | some q => if s.ownerReady i q then s.bite i q else s)

end Sys2Proof.Machine
end

