-- ==== Sys2Proof/Machine/CaptureCmds.lean ====
section
/-! DEFINITION. The meanings of the commands of tile capture, arbitration and coding, one for each row of the table. -/

namespace Sys2Proof.Machine

/-- ENTRY_EXPIRE (R134). -/
def execEntryExpire (t : Nat) (s : State) : Host.Outcome State Fault Refusal :=
  finish s (fragOut (entryExpire t s))

/-- RETRIEVAL_START (R141). -/
def execRetrievalStart (tag : Nat) (s : State) : Host.Outcome State Fault Refusal :=
  finish s (fragOut (retrievalStart tag s))

/-- STREAM_GROUP_ISSUE (R146). -/
def execStreamGroupIssue (s : State) : Host.Outcome State Fault Refusal :=
  finish s (fragOut (streamGroupIssue s))

/-- GALLERY_WORD_ARRIVE (R153). -/
def execGalleryWordArrive (t : Nat) (s : State) : Host.Outcome State Fault Refusal :=
  finish s (fragOut (galleryWord t s))

/-- GRANT_TIMEOUT (R154). -/
def execGrantTimeout (t : Nat) (s : State) : Host.Outcome State Fault Refusal :=
  finish s (fragOut (grantTimeout t s))

/-- TOTAL_TIMEOUT (R154). -/
def execTotalTimeout (tag t : Nat) (s : State) : Host.Outcome State Fault Refusal :=
  finish s (fragOut (totalTimeout tag t s))

/-- ARB_EVALUATION_POINT (R234). -/
def execArbEvaluationPoint (inst : Nat) (s : State) : Host.Outcome State Fault Refusal :=
  finish s (arbEvaluate inst s)

/-- ARB_WINDOW_END (R232). -/
def execArbWindowEnd (inst : Nat) (s : State) : Host.Outcome State Fault Refusal :=
  finish s (arbWindowEnd inst s)

/-- CANARY_BITE (R242). -/
def execCanaryBite (inst : Nat) (s : State) : Host.Outcome State Fault Refusal :=
  finish s (canaryBite inst s)

/-- FACET_CODING_DONE (R279). -/
def execFacetCodingDone (e : Nat) (s : State) : Host.Outcome State Fault Refusal :=
  finish s (facetCodingDone e s)

/-- ARB_RELEASE (R233). -/
def execArbRelease (inst : Nat) (s : State) : Host.Outcome State Fault Refusal :=
  finish s (arbRelease inst s)

end Sys2Proof.Machine
end

