-- ==== Sys2Proof/Machine/ClaspCmds.lean ====
section
/-! DEFINITION. The meanings of the commands of the clasp pair, one for each row of the table. -/

namespace Sys2Proof.Machine

/-- WITNESS_RECEIVED (R341). -/
def execWitnessReceived (src orbit shaft alt : Nat) (s : State) : Host.Outcome State Fault Refusal :=
  finish s (witnessReceived src orbit shaft alt s)

/-- WITNESS_ROUND_CLOSE (R341). -/
def execWitnessRoundClose (s : State) : Host.Outcome State Fault Refusal :=
  finish s (witnessRoundClose s)

/-- PAIR (R342). -/
def execPair (src id peerState : Nat) (digest : List Byte) (s : State) : Host.Outcome State Fault Refusal :=
  finish s (pairReceived src id peerState digest s)

/-- CLASP_LINK_UP (R342). -/
def execClaspLinkUp (s : State) : Host.Outcome State Fault Refusal :=
  finish s (claspLinkUp s)

/-- CLASP_LINK_LOST (R348). -/
def execClaspLinkLost (s : State) : Host.Outcome State Fault Refusal :=
  finish s (claspLinkLost s)

/-- DIG (R344). -/
def execDig (seq r ix origin stream key digest : Nat) (s : State) : Host.Outcome State Fault Refusal :=
  finish s (digReceived seq r ix origin stream key digest s)

/-- ECHO (R346). -/
def execEcho (seq : Nat) (absent : Bool) (digest : Nat) (s : State) : Host.Outcome State Fault Refusal :=
  finish s (echoReceived seq absent digest s)

/-- ECHO_TIMEOUT (R346). -/
def execEchoTimeout (seq : Nat) (s : State) : Host.Outcome State Fault Refusal :=
  finish s (echoTimeout seq s)

/-- CLASP_STATE (R345). -/
def execClaspState (seq digest : Nat) (s : State) : Host.Outcome State Fault Refusal :=
  finish s (stateReceived seq digest s)

/-- STATE_MISSING (R346). -/
def execStateMissing (s : State) : Host.Outcome State Fault Refusal :=
  finish s (stateMissing s)

/-- CLASP_CHECK (R347). -/
def execClaspCheck (s : State) : Host.Outcome State Fault Refusal :=
  finish s (checkReceived s)

/-- SELF_CHECK_DONE (R347). -/
def execSelfCheckDone (knownOk : Bool) (s : State) : Host.Outcome State Fault Refusal :=
  finish s (selfCheckDone knownOk s)

/-- CLASP_RESULT (R348). -/
def execClaspResult (fails : Bool) (s : State) : Host.Outcome State Fault Refusal :=
  finish s (resultReceived fails s)

/-- CLASP_PROMOTE (R348). -/
def execClaspPromote (bar : Bool) (s : State) : Host.Outcome State Fault Refusal :=
  finish s (s.write bar Reg.CLASP_CMD 1)

/-- CLASP_ORPHAN (R344). -/
def execClaspOrphan (s : State) : Host.Outcome State Fault Refusal :=
  finish s (claspOrphan s)

/-- CLASP_CHUNK_SEND (R352). -/
def execClaspChunkSend (s : State) : Host.Outcome State Fault Refusal :=
  finish s (claspChunkSend s)

/-- CLASP_CHUNK (R352). -/
def execClaspChunk (offset seq : Nat) (bs : List Byte) (s : State) : Host.Outcome State Fault Refusal :=
  finish s (chunkReceived offset seq bs s)

/-- CLASP_COMMIT (R348). -/
def execClaspCommit (hash : List Byte) (s : State) : Host.Outcome State Fault Refusal :=
  finish s (commitReceived hash s)

/-- COMMIT_ACK (R348). -/
def execCommitAck (differs : Bool) (s : State) : Host.Outcome State Fault Refusal :=
  finish s (commitAck differs s)

/-- CLASP_KEY (R410). -/
def execClaspKey (o ctr : Nat) (ct tag : List Byte) (s : State) : Host.Outcome State Fault Refusal :=
  finish s (keyReceived o ctr ct tag s)

/-- CHECK_RESULT_TIMEOUT (R348). -/
def execCheckResultTimeout (s : State) : Host.Outcome State Fault Refusal :=
  finish s (checkResultTimeout s)

end Sys2Proof.Machine
end

