-- ==== Sys2Proof/Machine/FrontEndCmds.lean ====
section
/-! DEFINITION. The meanings of the commands of the front end, the vernier TDC and the TIU, one for each row of the table. -/

namespace Sys2Proof.Machine

/-- FE_CTRL_WRITE (R74). -/
def execFeCtrlWrite (bar : Bool) (v : Nat) (s : State) : Host.Outcome State Fault Refusal :=
  finish s (s.write bar Reg.FE_CTRL v)

/-- FE_SETTLED (R74). -/
def execFeSettled (c : CalSet) (s : State) : Host.Outcome State Fault Refusal :=
  finish s (feSettled c s)

/-- FE_THR_OFS_WRITE (R77). -/
def execFeThrOfsWrite (bar : Bool) (v : Nat) (s : State) : Host.Outcome State Fault Refusal :=
  finish s (s.write bar Reg.FE_THR_OFS v)

/-- THR_OFS_APPLY (R77). -/
def execThrOfsApply (s : State) : Host.Outcome State Fault Refusal :=
  finish s (thrOfsApply s)

/-- FE_CH_WRITE (R89). -/
def execFeChWrite (bar : Bool) (n v : Nat) (s : State) : Host.Outcome State Fault Refusal :=
  finish s (s.write bar (Reg.FE_CH (n % 16384)) v)

/-- LEADING_EDGE (R96). -/
def execLeadingEdge (n ls lf : Nat) (e : LeadEdge) (s : State) : Host.Outcome State Fault Refusal :=
  finish s (leadingEdge n ls lf e.cnt e.out s)

/-- TRAILING_EDGE (R106). -/
def execTrailingEdge (n ts : Nat) (e : TrailEdge) (s : State) : Host.Outcome State Fault Refusal :=
  finish s (trailingEdge n ts e.tq e.out s)

/-- HOLDOFF_END (R79). -/
def execHoldoffEnd (n : Nat) (s : State) : Host.Outcome State Fault Refusal :=
  finish s (holdoffEnd n s)

/-- OVER_RANGE (R81). -/
def execOverRange (n : Nat) (s : State) : Host.Outcome State Fault Refusal :=
  finish s (overRange n s)

/-- BLIND_END (R82). -/
def execBlindEnd (n : Nat) (s : State) : Host.Outcome State Fault Refusal :=
  finish s (blindEnd n s)

/-- INJECTION_WINDOW_CLOSE (R91). -/
def execInjectionWindowClose (s : State) : Host.Outcome State Fault Refusal :=
  finish s (injectionWindowClose s)

/-- CHANNEL_RETIRE (R92). -/
def execChannelRetire (n : Nat) (s : State) : Host.Outcome State Fault Refusal :=
  finish s (channelRetire n s)

/-- CHANNEL_SETTLED (R88). -/
def execChannelSettled (n : Nat) (s : State) : Host.Outcome State Fault Refusal :=
  finish s (channelSettled n s)

/-- PAIR_IDLE (R95). -/
def execPairIdle (ix : Nat) (s : State) : Host.Outcome State Fault Refusal :=
  finish s (pairIdle ix s)

/-- CONVERSION_DONE (R111). -/
def execConversionDone (n : Nat) (s : State) : Host.Outcome State Fault Refusal :=
  finish s (conversionDone n s)

/-- TOT_TIMEOUT (R109). -/
def execTotTimeout (n : Nat) (s : State) : Host.Outcome State Fault Refusal :=
  finish s (totTimeout n s)

/-- CONVERSION_OVERRUN (R110). -/
def execConversionOverrun (ix : Nat) (s : State) : Host.Outcome State Fault Refusal :=
  finish s (conversionOverrun ix s)

/-- VTDC_CAL_START (R99). -/
def execVtdcCalStart (p : Nat) (s : State) : Host.Outcome State Fault Refusal :=
  finish s (vtdcCalStart p s)

/-- VTDC_CAL_DONE (R100). -/
def execVtdcCalDone (p s1 s2 : Nat) (s : State) : Host.Outcome State Fault Refusal :=
  finish s (vtdcCalDone p s1 s2 s)

/-- BULK_PASS_RESUME (R113). -/
def execBulkPassResume (p : Nat) (s : State) : Host.Outcome State Fault Refusal :=
  finish s (bulkPassResume p s)

/-- BULK_PASS_END (R114). -/
def execBulkPassEnd (fin : List PairCounts) (s : State) : Host.Outcome State Fault Refusal :=
  finish s (bulkPassEnd fin s)

/-- VTDC_PSEL_WRITE (R120). -/
def execVtdcPselWrite (bar : Bool) (v : Nat) (s : State) : Host.Outcome State Fault Refusal :=
  finish s (s.write bar Reg.VTDC_PSEL v)

/-- TIU_START (R123). -/
def execTiuStart (bar : Bool) (s : State) : Host.Outcome State Fault Refusal :=
  finish s (s.write bar Reg.TIU_CMD 1)

/-- TIU_ABORT (R128). -/
def execTiuAbort (bar : Bool) (s : State) : Host.Outcome State Fault Refusal :=
  finish s (s.write bar Reg.TIU_CMD 2)

/-- UTIL_EDGE (R124). -/
def execUtilEdge (k ls lf : Nat) (e : UtilMove) (s : State) : Host.Outcome State Fault Refusal :=
  finish s (utilEdge k ls lf e.cnt e.rise e.swing s)

/-- TIU_INTERVAL_TIMEOUT (R126). -/
def execTiuIntervalTimeout (s : State) : Host.Outcome State Fault Refusal :=
  finish s (tiuTimeout s)

end Sys2Proof.Machine
end

