-- ==== Sys2Proof/Machine/HallmarkCmds.lean ====
section
/-! DEFINITION. The meanings of the commands of the Hallmark and its sessions, one for each row of the table. -/

namespace Sys2Proof.Machine

/-- CAP_CHUNK (R395). -/
def execCapChunk (p src tag off : Nat) (bs : List Byte) (s : State) : Host.Outcome State Fault Refusal :=
  finish s (capChunk p src tag off bs s)

/-- CAPSULE_APPLY (R394). -/
def execCapsuleApply (s : State) : Host.Outcome State Fault Refusal :=
  finish s (capsuleApply s)

/-- CLAIM (R396). -/
def execClaim (s : State) : Host.Outcome State Fault Refusal :=
  finish s (claim s)

/-- DIGEST_DONE (R399). -/
def execDigestDone (s : State) : Host.Outcome State Fault Refusal :=
  finish s (digestDone s)

/-- ATTEST_REQ (R400). -/
def execAttestReq (p src tag : Nat) (nonce : List Byte) (s : State) : Host.Outcome State Fault Refusal :=
  finish s (attestReq p src tag nonce s)

/-- ATTEST_RESP (R400). -/
def execAttestResp (die tag : Nat) (rep : List Byte) (s : State) : Host.Outcome State Fault Refusal :=
  finish s (attestResp die tag rep s)

/-- HELLO (R401). -/
def execHello (p : Nat) (m : List Byte) (s : State) : Host.Outcome State Fault Refusal :=
  finish s (helloReceived p m s)

/-- PROOF (R402). -/
def execProof (p : Nat) (m : List Byte) (s : State) : Host.Outcome State Fault Refusal :=
  finish s (proofReceived p m s)

/-- FINISH (R402). -/
def execFinish (p : Nat) (m : List Byte) (s : State) : Host.Outcome State Fault Refusal :=
  finish s (finishReceived p m s)

/-- FAIL (R403). -/
def execFail (p : Nat) (s : State) : Host.Outcome State Fault Refusal :=
  finish s (failReceived p s)

/-- AUTH_TIMEOUT (R403). -/
def execAuthTimeout (p : Nat) (s : State) : Host.Outcome State Fault Refusal :=
  finish s (authTimeout p s)

/-- AUTH_RETRY (R403). -/
def execAuthRetry (p : Nat) (s : State) : Host.Outcome State Fault Refusal :=
  finish s (authRetry p s)

/-- REKEY_DUE (R406). -/
def execRekeyDue (e2e : Bool) (n : Nat) (s : State) : Host.Outcome State Fault Refusal :=
  finish s (rekeyDue e2e n s)

/-- HALL_CMD_REKEY (R406). -/
def execHallCmdRekey (bar : Bool) (s : State) : Host.Outcome State Fault Refusal :=
  finish s (s.write bar Reg.HALL_CMD 1)

/-- OLD_KEY_EXPIRE (R406). -/
def execOldKeyExpire (p : Nat) (s : State) : Host.Outcome State Fault Refusal :=
  finish s (oldKeyExpire p s)

/-- E2E_HELLO (R408). -/
def execE2eHello (p o : Nat) (m : List Byte) (s : State) : Host.Outcome State Fault Refusal :=
  finish s (e2eHello p o m s)

/-- E2E_PROOF (R408). -/
def execE2eProof (p o : Nat) (m : List Byte) (s : State) : Host.Outcome State Fault Refusal :=
  finish s (e2eProof p o m s)

/-- E2E_FINISH (R408). -/
def execE2eFinish (p o : Nat) (m : List Byte) (s : State) : Host.Outcome State Fault Refusal :=
  finish s (e2eFinish p o m s)

/-- E2E_FAIL (R408). -/
def execE2eFail (p o : Nat) (s : State) : Host.Outcome State Fault Refusal :=
  finish s (e2eFailed p o s)

/-- E2E_RESTART (R408). -/
def execE2eRestart (p : Nat) (s : State) : Host.Outcome State Fault Refusal :=
  finish s (e2eRestartReceived p s)

end Sys2Proof.Machine
end

