-- ==== Sys2Proof/Machine/HostCmds.lean ====
section
/-! DEFINITION. The meanings of the commands of the host port and registers, one for each row of the table. -/

namespace Sys2Proof.Machine

/-- ARM (R19). -/
def execArm (src : CmdSrc) (s : State) : Host.Outcome State Fault Refusal :=
  finish s (cmdArm src s)

/-- DISARM (R19). -/
def execDisarm (src : CmdSrc) (s : State) : Host.Outcome State Fault Refusal :=
  finish s (cmdDisarm src s)

/-- STOP (R19). -/
def execStop (src : CmdSrc) (s : State) : Host.Outcome State Fault Refusal :=
  finish s (fragOut (cmdStop src s))

/-- FLR (R357). -/
def execFlr (s : State) : Host.Outcome State Fault Refusal :=
  finish s (flr s)

/-- FEATURE_COMMIT (R377). -/
def execFeatureCommit (bar : Bool) (s : State) : Host.Outcome State Fault Refusal :=
  finish s (s.write bar Reg.HIF_FEAT_CMD 1)

/-- RING_CFG_WRITE (R379). -/
def execRingCfgWrite (bar : Bool) (r v : Nat) (s : State) : Host.Outcome State Fault Refusal :=
  finish s (s.write bar (Reg.RING_CFG (r % 8192)) v)

/-- HIF_NUDGE (R380). -/
def execHifNudge (bar : Bool) (v : Nat) (s : State) : Host.Outcome State Fault Refusal :=
  finish s (s.write bar Reg.HIF_NUDGE v)

/-- DOORBELL_POLL (R380). -/
def execDoorbellPoll (s : State) : Host.Outcome State Fault Refusal :=
  finish s (doorbellPoll s)

/-- DOORBELL_READ_DONE (R382). -/
def execDoorbellReadDone (block : Option Nat) (tails : List TailWord) (s : State) : Host.Outcome State Fault Refusal :=
  finish s (doorbellReadDone block tails s)

/-- NOP (R367). -/
def execNop (src : CmdSrc) (s : State) : Host.Outcome State Fault Refusal :=
  finish s (cmdNop src s)

/-- CFG_RD (R367). -/
def execCfgRd (src : CmdSrc) (s : State) : Host.Outcome State Fault Refusal :=
  finish s (cmdCfgRd src s)

/-- CFG_WR (R367). -/
def execCfgWr (src : CmdSrc) (s : State) : Host.Outcome State Fault Refusal :=
  finish s (cmdCfgWr src s)

/-- CFG_RD_BLOCK (R367). -/
def execCfgRdBlock (src : CmdSrc) (s : State) : Host.Outcome State Fault Refusal :=
  finish s (cmdCfgRdBlock src s)

/-- READMIT (R458). -/
def execReadmit (src : CmdSrc) (s : State) : Host.Outcome State Fault Refusal :=
  finish s (cmdReadmit src s)

/-- CAPSULE (R395). -/
def execCapsule (r : Nat) (bytes : Option (List Byte)) (s : State) : Host.Outcome State Fault Refusal :=
  finish s (cmdCapsule r bytes s)

/-- ATTEST (R400). -/
def execAttest (r : Nat) (bytes : Option (List Byte)) (s : State) : Host.Outcome State Fault Refusal :=
  finish s (cmdAttest r bytes s)

/-- LOG_READ (R466). -/
def execLogRead (src : CmdSrc) (s : State) : Host.Outcome State Fault Refusal :=
  finish s (cmdLogRead src s)

/-- BAD_OP (R368). -/
def execBadOp (r : Nat) (s : State) : Host.Outcome State Fault Refusal :=
  finish s (badOp r s)

/-- COMMAND_TIMEOUT (R366). -/
def execCommandTimeout (r ix : Nat) (s : State) : Host.Outcome State Fault Refusal :=
  finish s (commandTimeout r ix s)

/-- UNIT_DELIVER (R370). -/
def execUnitDeliver (r : Nat) (s : State) : Host.Outcome State Fault Refusal :=
  finish s (unitDeliver r s)

/-- RING_DROP_TIMEOUT (R375). -/
def execRingDropTimeout (r : Nat) (s : State) : Host.Outcome State Fault Refusal :=
  finish s (ringDropTimeout r s)

/-- COALESCE_TIMEOUT (R384). -/
def execCoalesceTimeout (g : Nat) (s : State) : Host.Outcome State Fault Refusal :=
  finish s (coalesceTimeout g s)

/-- MULTIWORD_READ (R469). -/
def execMultiwordRead (a : Nat) (s : State) : Host.Outcome State Fault Refusal :=
  finish s (s.readBack a)

/-- REGISTER_WRITE (R24). -/
def execRegisterWrite (bar : Bool) (a v be : Nat) (s : State) : Host.Outcome State Fault Refusal :=
  finish s (s.registerWrite bar a v be)

/-- PCIE_CONFIG_WRITE (R355). -/
def execPcieConfigWrite (w : PcieCfg) (s : State) : Host.Outcome State Fault Refusal :=
  finish s (pcieConfigWrite w s)

end Sys2Proof.Machine
end

