-- ==== Sys2Proof/Machine/LinkCmds.lean ====
section
/-! DEFINITION. The meanings of the commands of lanes and links, one for each row of the table. -/

namespace Sys2Proof.Machine

/-- FRAME_RECEIVED (R311). -/
def execFrameReceived (p : Nat) (loop : Bool) (bs : List Byte) (s : State) : Host.Outcome State Fault Refusal :=
  finish s (frameReceived p loop bs s)

/-- RX_STAGE_ADMIT (R268). -/
def execRxStageAdmit (p : Nat) (s : State) : Host.Outcome State Fault Refusal :=
  finish s (rxStageAdmit p s)

/-- BLOCK_LOCK (R290). -/
def execBlockLock (l : Nat) (s : State) : Host.Outcome State Fault Refusal :=
  finish s (blockLock l s)

/-- BLOCK_LOCK_LOSS (R290). -/
def execBlockLockLoss (l bad : Nat) (s : State) : Host.Outcome State Fault Refusal :=
  finish s (blockLockLoss l bad s)

/-- BAD_CONTROL_BLOCK (R291). -/
def execBadControlBlock (p : Nat) (s : State) : Host.Outcome State Fault Refusal :=
  finish s (badControlBlock p s)

/-- ABORT_BLOCK (R294). -/
def execAbortBlock (p v len : Nat) (s : State) : Host.Outcome State Fault Refusal :=
  finish s (abortBlock p v len s)

/-- SUSPEND_BLOCK (R293). -/
def execSuspendBlock (p v : Nat) (s : State) : Host.Outcome State Fault Refusal :=
  finish s (suspendBlock p v s)

/-- RESUME_BLOCK (R293). -/
def execResumeBlock (p v : Nat) (s : State) : Host.Outcome State Fault Refusal :=
  finish s (resumeBlock p v s)

/-- ALIGN_RECEIVED (R303). -/
def execAlignReceived (l count skew : Nat) (round : Bool) (s : State) : Host.Outcome State Fault Refusal :=
  finish s (alignReceived l count skew round s)

/-- ALIGN_CADENCE (R302). -/
def execAlignCadence (p : Nat) (s : State) : Host.Outcome State Fault Refusal :=
  finish s (alignCadence p s)

/-- CREDIT_BLOCK (R309). -/
def execCreditBlock (p v cum : Nat) (s : State) : Host.Outcome State Fault Refusal :=
  finish s (creditBlock p v cum s)

/-- CREDIT_REFRESH (R309). -/
def execCreditRefresh (p : Nat) (s : State) : Host.Outcome State Fault Refusal :=
  finish s (creditRefresh p s)

/-- ACK_BLOCK (R310). -/
def execAckBlock (p v seq : Nat) (s : State) : Host.Outcome State Fault Refusal :=
  finish s (ackBlock p v seq s)

/-- NAK_BLOCK (R312). -/
def execNakBlock (p v seq : Nat) (s : State) : Host.Outcome State Fault Refusal :=
  finish s (nakBlock p v seq s)

/-- REPLAY_TIMEOUT (R312). -/
def execReplayTimeout (p v : Nat) (s : State) : Host.Outcome State Fault Refusal :=
  finish s (replayTimeout p v s)

/-- HOLD_BLOCK (R304). -/
def execHoldBlock (p mask : Nat) (release : Bool) (s : State) : Host.Outcome State Fault Refusal :=
  finish s (holdBlock p mask release s)

/-- SLEEP_BLOCK (R307). -/
def execSleepBlock (p mask : Nat) (s : State) : Host.Outcome State Fault Refusal :=
  finish s (sleepBlock p mask s)

/-- PORT_WIDTH_WRITE (R306). -/
def execPortWidthWrite (bar : Bool) (p v : Nat) (s : State) : Host.Outcome State Fault Refusal :=
  finish s (s.write bar (Reg.PORT_WIDTH (p % 16)) v)

/-- LANE_WAKE_READY (R306). -/
def execLaneWakeReady (p : Nat) (s : State) : Host.Outcome State Fault Refusal :=
  finish s (laneWakeReady p s)

/-- EYE_MEASURE (R300). -/
def execEyeMeasure (l width height : Nat) (s : State) : Host.Outcome State Fault Refusal :=
  finish s (eyeMeasure l width height s)

/-- LANE_RETRAIN_DONE (R300). -/
def execLaneRetrainDone (l width : Nat) (s : State) : Host.Outcome State Fault Refusal :=
  finish s (laneRetrainDone l width s)

/-- EQ_SLOW (R299). -/
def execEqSlow (l : Nat) (s : State) : Host.Outcome State Fault Refusal :=
  finish s (eqSlow l s)

/-- EQ_FREEZE (R299). -/
def execEqFreeze (l : Nat) (s : State) : Host.Outcome State Fault Refusal :=
  finish s (eqFreeze l s)

/-- PORT_CFG_WRITE (R284). -/
def execPortCfgWrite (bar : Bool) (p v : Nat) (s : State) : Host.Outcome State Fault Refusal :=
  finish s (s.write bar (Reg.PORT_CFG (p % 16)) v)

/-- LANE_CTRL_WRITE (R321). -/
def execLaneCtrlWrite (bar : Bool) (l v : Nat) (s : State) : Host.Outcome State Fault Refusal :=
  finish s (s.write bar (Reg.LANE_CTRL (l % 16)) v)

/-- TRAIN_ATTEMPT_TIMEOUT (R314). -/
def execTrainAttemptTimeout (l : Nat) (signal : Bool) (s : State) : Host.Outcome State Fault Refusal :=
  finish s (trainAttemptTimeout l signal s)

/-- PORT_BASE_DONE (R314). -/
def execPortBaseDone (p : Nat) (s : State) : Host.Outcome State Fault Refusal :=
  finish s (portBaseDone p s)

/-- TRAIN_SET_RECEIVED (R316). -/
def execTrainSetReceived (p : Nat) (t : TrainSet) (s : State) : Host.Outcome State Fault Refusal :=
  finish s (trainSetReceived p t s)

/-- SWITCH_DONE (R314). -/
def execSwitchDone (p : Nat) (s : State) : Host.Outcome State Fault Refusal :=
  finish s (switchDone p s)

/-- DESKEW_DONE (R314). -/
def execDeskewDone (p : Nat) (s : State) : Host.Outcome State Fault Refusal :=
  finish s (deskewDone p s)

/-- LOOP_REQUEST (R321). -/
def execLoopRequest (l : Nat) (s : State) : Host.Outcome State Fault Refusal :=
  finish s (loopRequest l s)

/-- LOOP_GRANT (R321). -/
def execLoopGrant (l : Nat) (s : State) : Host.Outcome State Fault Refusal :=
  finish s (loopGrant l s)

/-- LOOP_REFUSE (R321). -/
def execLoopRefuse (l : Nat) (s : State) : Host.Outcome State Fault Refusal :=
  finish s (loopRefuse l s)

/-- LOOP_END (R321). -/
def execLoopEnd (l : Nat) (s : State) : Host.Outcome State Fault Refusal :=
  finish s (loopEnd l s)

end Sys2Proof.Machine
end

