-- ==== Sys2Proof/Machine/MonitorCmds.lean ====
section
/-! DEFINITION. The meanings of the commands of the monitor converter, one for each row of the table. -/

namespace Sys2Proof.Machine

/-- MON_CONVERSION_DONE (R420). -/
def execMonConversionDone (v : MonConv) (s : State) : Host.Outcome State Fault Refusal :=
  finish s (monConversionDone v s)

/-- MON_GUARD_DONE (R423). -/
def execMonGuardDone (v : MonConv) (s : State) : Host.Outcome State Fault Refusal :=
  finish s (monGuardDone v s)

/-- MON_PASS_START (R425). -/
def execMonPassStart (s : State) : Host.Outcome State Fault Refusal :=
  finish s (monPassStart s)

/-- MON_SEQ_START (R425). -/
def execMonSeqStart (bar : Bool) (s : State) : Host.Outcome State Fault Refusal :=
  finish s (s.write bar Reg.MON_SEQ_CMD 1)

/-- MON_SEQ_STOP (R425). -/
def execMonSeqStop (bar : Bool) (s : State) : Host.Outcome State Fault Refusal :=
  finish s (s.write bar Reg.MON_SEQ_CMD 2)

/-- MON_INJ_GO (R427). -/
def execMonInjGo (bar : Bool) (v : Nat) (s : State) : Host.Outcome State Fault Refusal :=
  finish s (s.write bar Reg.MON_INJ (setBits v 31 1 1))

/-- MON_EXC_WRITE (R416). -/
def execMonExcWrite (bar isrc : Bool) (k v : Nat) (s : State) : Host.Outcome State Fault Refusal :=
  finish s (s.write bar (if isrc then Reg.MON_ISRC else Reg.MON_EXC (k % 32)) v)

/-- MON_MODE_WRITE (R421). -/
def execMonModeWrite (bar : Bool) (v : Nat) (s : State) : Host.Outcome State Fault Refusal :=
  finish s (s.write bar Reg.MON_CTRL v)

/-- MON_CAL_NONE (R430). -/
def execMonCalNone (bar : Bool) (v : Nat) (s : State) : Host.Outcome State Fault Refusal :=
  finish s (s.write bar Reg.MON_CAL_CMD (calWordOf 0 v))

/-- INT_ZERO (R430). -/
def execIntZero (bar : Bool) (v : Nat) (s : State) : Host.Outcome State Fault Refusal :=
  finish s (s.write bar Reg.MON_CAL_CMD (calWordOf 1 v))

/-- SYS_ZERO (R431). -/
def execSysZero (bar : Bool) (v : Nat) (s : State) : Host.Outcome State Fault Refusal :=
  finish s (s.write bar Reg.MON_CAL_CMD (calWordOf 2 v))

/-- SYS_FULL (R431). -/
def execSysFull (bar : Bool) (v : Nat) (s : State) : Host.Outcome State Fault Refusal :=
  finish s (s.write bar Reg.MON_CAL_CMD (calWordOf 3 v))

/-- REF_CHECK (R430). -/
def execRefCheck (bar : Bool) (v : Nat) (s : State) : Host.Outcome State Fault Refusal :=
  finish s (s.write bar Reg.MON_CAL_CMD (calWordOf 4 v))

/-- MON_CAL_RUN (R430). -/
def execMonCalRun (s : State) : Host.Outcome State Fault Refusal :=
  finish s (monCalRun s)

/-- MON_CAL_DONE (R431). -/
def execMonCalDone (convs : List (List MonConv)) (checks : List MonConv) (s : State) : Host.Outcome State Fault Refusal :=
  finish s (monCalDone convs checks s)

/-- SCOPE_ARM (R435). -/
def execScopeArm (bar : Bool) (s : State) : Host.Outcome State Fault Refusal :=
  finish s (s.write bar Reg.MON_SCOPE_CMD 1)

/-- SCOPE_ABORT (R437). -/
def execScopeAbort (bar : Bool) (s : State) : Host.Outcome State Fault Refusal :=
  finish s (s.write bar Reg.MON_SCOPE_CMD 2)

/-- SCOPE_FORCE (R436). -/
def execScopeForce (bar : Bool) (s : State) : Host.Outcome State Fault Refusal :=
  finish s (s.write bar Reg.MON_SCOPE_CMD 4)

/-- SCOPE_SAMPLE (R436). -/
def execScopeSample (v : MonConv) (s : State) : Host.Outcome State Fault Refusal :=
  finish s (scopeSample v s)

/-- SCOPE_AUTO_TIMEOUT (R436). -/
def execScopeAutoTimeout (s : State) : Host.Outcome State Fault Refusal :=
  finish s (scopeAutoTimeout s)

/-- SCOPE_RECORD_WRITE (R440). -/
def execScopeRecordWrite (s : State) : Host.Outcome State Fault Refusal :=
  finish s (scopeRecordWrite s)

/-- SCOPE_REARM (R437). -/
def execScopeRearm (s : State) : Host.Outcome State Fault Refusal :=
  finish s (scopeRearm s)

end Sys2Proof.Machine
end

