-- ==== Sys2Proof/Machine/ResetCmds.lean ====
section
/-! DEFINITION. The meanings of the commands of reset, start-up, faults and the TAP, one for each row of the table. -/

namespace Sys2Proof.Machine

/-- POWER_ON_RESET (R487). -/
def execPowerOnReset (s : State) : Host.Outcome State Fault Refusal :=
  finishReset s (powerOnReset s)

/-- RST_N_ASSERT (R443). -/
def execRstNAssert (s : State) : Host.Outcome State Fault Refusal :=
  finishReset s (rstNAssert s)

/-- PERST_N_ASSERT (R443). -/
def execPerstNAssert (straps : Nat) (s : State) : Host.Outcome State Fault Refusal :=
  finishReset s (perstNAssert straps s)

/-- RESET_DEASSERT (R445). -/
def execResetDeassert (straps : Nat) (claspId : Bool) (s : State) : Host.Outcome State Fault Refusal :=
  finishReset s (resetDeassert straps claspId s)

/-- FUSE_LOAD_DONE (R445). -/
def execFuseLoadDone (us : Nat) (s : State) : Host.Outcome State Fault Refusal :=
  finish s (fuseLoadDone us s)

/-- MEMORY_INIT_DONE (R445). -/
def execMemoryInitDone (us : Nat) (rows tiles : List Nat) (words : Nat) (hallmark : Bool) (s : State) : Host.Outcome State Fault Refusal :=
  finish s (memoryInitDone us rows tiles words hallmark s)

/-- PLL_LOCK (R446). -/
def execPllLock (us : Nat) (s : State) : Host.Outcome State Fault Refusal :=
  finish s (pllLock us s)

/-- NO_REFERENCE_TIMEOUT (R448). -/
def execNoReferenceTimeout (s : State) : Host.Outcome State Fault Refusal :=
  finish s (noReferenceTimeout s)

/-- SELF_CALIBRATION_DONE (R445). -/
def execSelfCalibrationDone (us : Nat) (c : CalSet) (zero check : List MonConv) (s : State) : Host.Outcome State Fault Refusal :=
  finish s (selfCalibrationDone us c zero check s)

/-- PERMANENT_FAULT (R459). -/
def execPermanentFault (code : Nat) (s : State) : Host.Outcome State Fault Refusal :=
  finish s (permanentFault code s)

/-- SERIAL_SUPPLY_CHANGE (R488). -/
def execSerialSupplyChange (up : Bool) (s : State) : Host.Outcome State Fault Refusal :=
  finishAny s (serialSupplyChange up s)

/-- STRIKE_DECAY (R454). -/
def execStrikeDecay (ty : Nat) (s : State) : Host.Outcome State Fault Refusal :=
  finish s (strikeDecay ty s)

/-- FAULT_POLICY_WRITE (R455). -/
def execFaultPolicyWrite (bar : Bool) (ty v : Nat) (s : State) : Host.Outcome State Fault Refusal :=
  finish s (s.write bar (Reg.FAULT_POLICY (1 + (ty - 1) % 9)) v)

/-- ALERT_RELEASE (R465). -/
def execAlertRelease (s : State) : Host.Outcome State Fault Refusal :=
  finish s (alertRelease s)

/-- TAP_OPERATION (R496). -/
def execTapOperation (o : TapOp) (s : State) : Host.Outcome State Fault Refusal :=
  finishAny s (tapOperation o s)

end Sys2Proof.Machine
end

