-- ==== Sys2Proof/Machine/TimeCmds.lean ====
section
/-! DEFINITION. The meanings of the commands of orbit, slot and wall time, one for each row of the table. -/

namespace Sys2Proof.Machine

/-- STOP_ORBIT_END (R133). -/
def execStopOrbitEnd (s : State) : Host.Outcome State Fault Refusal :=
  finish s (fragOut (stopOrbitEnd s))

/-- HOLD_LIMIT_EXPIRE (R20). -/
def execHoldLimitExpire (s : State) : Host.Outcome State Fault Refusal :=
  finish s (fragOut (holdLimitExpire s))

/-- ORBIT_START (R39). -/
def execOrbitStart (marker : Bool) (above below : List Nat) (s : State) : Host.Outcome State Fault Refusal :=
  finish s (fragOut (orbitStart marker above below s))

/-- ORBIT_MARKER_SAMPLED (R40). -/
def execOrbitMarkerSampled (d : Nat) (s : State) : Host.Outcome State Fault Refusal :=
  finish s (orbitMarkerSampled d s)

/-- BCLK_LOST (R44). -/
def execBclkLost (s : State) : Host.Outcome State Fault Refusal :=
  finish s (bclkLost s)

/-- BCLK_RETURN (R45). -/
def execBclkReturn (s : State) : Host.Outcome State Fault Refusal :=
  finish s (bclkReturn s)

/-- ORB_CLK_WRITE (R37). -/
def execOrbClkWrite (bar : Bool) (v : Nat) (s : State) : Host.Outcome State Fault Refusal :=
  finish s (s.write bar Reg.ORB_CLK v)

/-- ORB_LEN_WRITE (R37). -/
def execOrbLenWrite (bar : Bool) (v : Nat) (s : State) : Host.Outcome State Fault Refusal :=
  finish s (s.write bar Reg.ORB_LEN v)

/-- MARKER_BLOCK_RECEIVED (R297). -/
def execMarkerBlockReceived (p : Nat) (m : MarkerMsg) (d : Nat) (s : State) : Host.Outcome State Fault Refusal :=
  finish s (markerBlockReceived p m d s)

/-- SHAFT_MARKER_TIMEOUT (R42). -/
def execShaftMarkerTimeout (s : State) : Host.Outcome State Fault Refusal :=
  finish s (shaftMarkerTimeout s)

/-- CAL_RUN_START (R50). -/
def execCalRunStart (entry : Nat) (s : State) : Host.Outcome State Fault Refusal :=
  finish s (calRunStart entry s)

/-- QUIET_BEGIN (R52). -/
def execQuietBegin (entry : Nat) (s : State) : Host.Outcome State Fault Refusal :=
  finish s (quietBegin entry s)

/-- QUIET_END (R52). -/
def execQuietEnd (entry : Nat) (s : State) : Host.Outcome State Fault Refusal :=
  finish s (quietEnd entry s)

/-- CAL_INJECT (R85). -/
def execCalInject (entry : Nat) (s : State) : Host.Outcome State Fault Refusal :=
  finish s (calInject entry s)

/-- CAL_COUNTER_RESET (R47). -/
def execCalCounterReset (entry : Nat) (s : State) : Host.Outcome State Fault Refusal :=
  finish s (calCounterReset entry s)

/-- CAL_VTDC (R112). -/
def execCalVtdc (entry : Nat) (s : State) : Host.Outcome State Fault Refusal :=
  finish s (calVtdcFire entry s)

/-- CAL_MON (R432). -/
def execCalMon (entry : Nat) (s : State) : Host.Outcome State Fault Refusal :=
  finish s (calMon entry s)

/-- CAL_SCRUB_BURST (R221). -/
def execCalScrubBurst (entry : Nat) (s : State) : Host.Outcome State Fault Refusal :=
  finish s (calScrubBurst entry s)

/-- CAL_DUMP (R208). -/
def execCalDump (entry : Nat) (s : State) : Host.Outcome State Fault Refusal :=
  finish s (calDump entry s)

/-- CAL_CLASP_DIGEST (R345). -/
def execCalClaspDigest (entry : Nat) (s : State) : Host.Outcome State Fault Refusal :=
  finish s (calClaspDigest entry s)

/-- CAL_SCOPE_TRIGGER (R436). -/
def execCalScopeTrigger (entry : Nat) (s : State) : Host.Outcome State Fault Refusal :=
  finish s (calScopeTrigger entry s)

/-- EXCHANGE_START (R298). -/
def execExchangeStart (p d sub : Nat) (s : State) : Host.Outcome State Fault Refusal :=
  finish s (exchangeStart p d sub s)

/-- PROBE_RECEIVED (R298). -/
def execProbeReceived (p seq d2 sub2 d3 sub3 : Nat) (s : State) : Host.Outcome State Fault Refusal :=
  finish s (probeReceived p seq d2 sub2 d3 sub3 s)

/-- REPLY2_RECEIVED (R298). -/
def execReply2Received (p seq t2 : Nat) (s : State) : Host.Outcome State Fault Refusal :=
  finish s (reply2Received p seq t2 s)

/-- REPLY3_RECEIVED (R54). -/
def execReply3Received (p seq t3 d sub : Nat) (s : State) : Host.Outcome State Fault Refusal :=
  finish s (reply3Received p seq t3 d sub s)

/-- PROBE_TIMEOUT (R298). -/
def execProbeTimeout (p seq : Nat) (s : State) : Host.Outcome State Fault Refusal :=
  finish s (probeTimeout p seq s)

/-- PPS_EDGE (R71). -/
def execPpsEdge (d : Nat) (s : State) : Host.Outcome State Fault Refusal :=
  finish s (ppsEdge d s)

/-- WALL_SRC_LOST (R71). -/
def execWallSrcLost (s : State) : Host.Outcome State Fault Refusal :=
  finish s (wallSrcLost s)

/-- PTM_REQUEST (R358). -/
def execPtmRequest (s : State) : Host.Outcome State Fault Refusal :=
  finish s (ptmRequest s)

/-- PTM_RESPONSE (R70). -/
def execPtmResponse (sec ns : Nat) (s : State) : Host.Outcome State Fault Refusal :=
  finish s (ptmResponse sec ns s)

/-- WALL_SET_NOW (R73). -/
def execWallSetNow (bar : Bool) (s : State) : Host.Outcome State Fault Refusal :=
  finish s (s.write bar Reg.WALL_CMD 1)

/-- WALL_SET_AT_PPS (R73). -/
def execWallSetAtPps (bar : Bool) (s : State) : Host.Outcome State Fault Refusal :=
  finish s (s.write bar Reg.WALL_CMD 2)

/-- ORB_SLOT_READ (R33). -/
def execOrbSlotRead (s : State) : Host.Outcome State Fault Refusal :=
  finish s (s.readBack Reg.ORB_SLOT)

/-- WALL_NS_READ (R67). -/
def execWallNsRead (s : State) : Host.Outcome State Fault Refusal :=
  finish s (s.readBack Reg.WALL_NS)

end Sys2Proof.Machine
end

