-- ==== Sys2Proof/Machine/TreeCmds.lean ====
section
/-! DEFINITION. The meanings of the commands of the read-out tree, one for each row of the table. -/

namespace Sys2Proof.Machine

/-- VC0_MESSAGE_ROUTE (R326). -/
def execVc0MessageRoute (p : Nat) (bs : List Byte) (s : State) : Host.Outcome State Fault Refusal :=
  finish s (vc0Route p bs s)

/-- NEW_CHILD (R330). -/
def execNewChild (p src tag drift ptype role die hint : Nat) (s : State) : Host.Outcome State Fault Refusal :=
  finish s (newChildReceived p src tag drift ptype role die hint s)

/-- ASSIGN (R330). -/
def execAssign (p dst src tag drift : Nat) (alt dup : Bool) (level die root : Nat) (s : State) : Host.Outcome State Fault Refusal :=
  finish s (assignReceived p dst src tag drift alt dup level die root s)

/-- REFUSE (R331). -/
def execRefuse (p drift reason : Nat) (s : State) : Host.Outcome State Fault Refusal :=
  finish s (refuseReceived p drift reason s)

/-- JOINED (R330). -/
def execJoined (s : State) : Host.Outcome State Fault Refusal :=
  finish s (joinedReceived s)

/-- REHOMED (R338). -/
def execRehomed (p : Nat) (map : List Byte) (s : State) : Host.Outcome State Fault Refusal :=
  finish s (rehomedReceived p map s)

/-- DETACH (R338). -/
def execDetach (p : Nat) (map : List Byte) (s : State) : Host.Outcome State Fault Refusal :=
  finish s (detachReceived p map s)

/-- HOME (R335). -/
def execHome (p : Nat) (promote : Bool) (h : HomeRest) (s : State) : Host.Outcome State Fault Refusal :=
  finish s (homeReceived p promote h.dup h.root h.peer s)

/-- CFG_RD_MSG (R327). -/
def execCfgRdMsg (p src tag off : Nat) (s : State) : Host.Outcome State Fault Refusal :=
  finish s (cfgRdMsg p src tag off s)

/-- CFG_WR_MSG (R327). -/
def execCfgWrMsg (p src tag off v : Nat) (s : State) : Host.Outcome State Fault Refusal :=
  finish s (cfgWrMsg p src tag off v s)

/-- CFG_RESP (R366). -/
def execCfgResp (die tag status detail data : Nat) (s : State) : Host.Outcome State Fault Refusal :=
  finish s (cfgResp die tag status detail data s)

/-- TREE_DISCOVER_WRITE (R329). -/
def execTreeDiscoverWrite (bar : Bool) (v : Nat) (s : State) : Host.Outcome State Fault Refusal :=
  finish s (s.write bar Reg.TREE_CTRL (setBits v 0 1 1))

/-- TREE_REHOME (R337). -/
def execTreeRehome (bar : Bool) (s : State) : Host.Outcome State Fault Refusal :=
  finish s (s.write bar Reg.TREE_CMD 1)

/-- SHAFT_SWITCH (R337). -/
def execShaftSwitch (s : State) : Host.Outcome State Fault Refusal :=
  finish s (shaftSwitch s)

/-- WITNESS_SEND (R340). -/
def execWitnessSend (s : State) : Host.Outcome State Fault Refusal :=
  finish s (witnessSend s)

end Sys2Proof.Machine
end

