-- ==== Sys2Proof/Machine/TriggerCmds.lean ====
section
/-! DEFINITION. The meanings of the commands of the trigger engine and speculation, one for each row of the table. -/

namespace Sys2Proof.Machine

/-- TRIG_IN_WORD (R159). -/
def execTrigInWord (w : Nat) (s : State) : Host.Outcome State Fault Refusal :=
  finish s (fragOut (trigInWord w s))

/-- TOKEN_REFILL (R160). -/
def execTokenRefill (s : State) : Host.Outcome State Fault Refusal :=
  finish s (tokenRefill s)

/-- AUTO_FORCED_ACCEPT (R162). -/
def execAutoForcedAccept (s : State) : Host.Outcome State Fault Refusal :=
  finish s (autoForcedAccept s)

/-- TRG_FORCE (R159). -/
def execTrgForce (bar : Bool) (s : State) : Host.Outcome State Fault Refusal :=
  finish s (s.write bar Reg.TRG_CMD 4)

/-- TRIGGER_MSG_RECEIVED (R165). -/
def execTriggerMsgReceived (p : Nat) (m : TrigMsg) (s : State) : Host.Outcome State Fault Refusal :=
  finish s (triggerReceived p m s)

/-- TRIGGER_APPLY (R166). -/
def execTriggerApply (s : State) : Host.Outcome State Fault Refusal :=
  finish s (fragOut (triggerApply s))

/-- ACCEPT_ISSUE (R169). -/
def execAcceptIssue (s : State) : Host.Outcome State Fault Refusal :=
  finish s (fragOut (acceptIssue s))

/-- BUSY_CHANGE (R174). -/
def execBusyChange (s : State) : Host.Outcome State Fault Refusal :=
  finish s (busyUpdate s)

/-- BUSY_MSG_RECEIVED (R174). -/
def execBusyMsgReceived (p : Nat) (busy : Bool) (s : State) : Host.Outcome State Fault Refusal :=
  finish s (busyReceived p busy s)

/-- SELF_TRIGGER_EVAL (R176). -/
def execSelfTriggerEval (slot : Nat) (s : State) : Host.Outcome State Fault Refusal :=
  finish s (selfTriggerEval slot s)

/-- SPEC_RELEASE (R185). -/
def execSpecRelease (slot : Nat) (s : State) : Host.Outcome State Fault Refusal :=
  finish s (fragOut (specRelease slot s))

/-- PRIM_MSG_RECEIVED (R178). -/
def execPrimMsgReceived (p : Nat) (m : PrimMsg) (s : State) : Host.Outcome State Fault Refusal :=
  finish s (primReceived p m s)

/-- PRIM_DEADLINE (R179). -/
def execPrimDeadline (s : State) : Host.Outcome State Fault Refusal :=
  finish s (primDeadline s)

/-- MASK_TEST_EVAL (R182). -/
def execMaskTestEval (s : State) : Host.Outcome State Fault Refusal :=
  finish s (maskTestEval s)

/-- TRG_EVIDENCE (R183). -/
def execTrgEvidence (bar : Bool) (s : State) : Host.Outcome State Fault Refusal :=
  finish s (fragOut (s.write bar Reg.TRG_CMD 2))

/-- TRG_UNFREEZE (R184). -/
def execTrgUnfreeze (bar : Bool) (s : State) : Host.Outcome State Fault Refusal :=
  finish s (s.write bar Reg.TRG_CMD 1)

/-- SPEC_RESOLVE (R187). -/
def execSpecResolve (s : State) : Host.Outcome State Fault Refusal :=
  finish s (fragOut (specResolve s))

/-- CONFIRM_RECEIVED (R189). -/
def execConfirmReceived (p : Nat) (m : SpecMsg) (s : State) : Host.Outcome State Fault Refusal :=
  finish s (fragOut (confirmReceived p m s))

/-- CANCEL_RECEIVED (R189). -/
def execCancelReceived (p : Nat) (m : SpecMsg) (s : State) : Host.Outcome State Fault Refusal :=
  finish s (fragOut (cancelReceived p m s))

/-- NACK_RECEIVED (R192). -/
def execNackReceived (p : Nat) (m : SpecMsg) (s : State) : Host.Outcome State Fault Refusal :=
  finish s (fragOut (nackReceived p m s))

/-- SPEC_TTL_EXPIRE (R191). -/
def execSpecTtlExpire (s : State) : Host.Outcome State Fault Refusal :=
  finish s (fragOut (specTtlExpire s))

end Sys2Proof.Machine
end

