-- ==== Sys2Proof/Machine/VaultCmds.lean ====
section
/-! DEFINITION. The meanings of the commands of the tally and the vault, one for each row of the table. -/

namespace Sys2Proof.Machine

/-- TALLY_DUMP_GO (R208). -/
def execTallyDumpGo (bar : Bool) (v : Nat) (s : State) : Host.Outcome State Fault Refusal :=
  finish s (s.write bar Reg.TALLY_DUMP (setBits v 31 1 1))

/-- DUMP_RECORD_WRITE (R210). -/
def execDumpRecordWrite (s : State) : Host.Outcome State Fault Refusal :=
  finish s (dumpRecordWrite s)

/-- SCRUB_SLOT (R220). -/
def execScrubSlot (s : State) : Host.Outcome State Fault Refusal :=
  finish s (scrubSlot s)

/-- VAULT_REPAIR_CMD (R224). -/
def execVaultRepairCmd (bar : Bool) (v : Nat) (s : State) : Host.Outcome State Fault Refusal :=
  finish s (s.write bar Reg.VAULT_CMD (setBits v 31 1 1))

/-- VAULT_REPAIR_START (R225). -/
def execVaultRepairStart (s : State) : Host.Outcome State Fault Refusal :=
  finish s (vaultRepairStart s)

/-- VAULT_REPAIR_DONE (R225). -/
def execVaultRepairDone (s : State) : Host.Outcome State Fault Refusal :=
  finish s (vaultRepairDone s)

/-- VAULT_WINDOW_WRITE (R219). -/
def execVaultWindowWrite (bar : Bool) (a n v : Nat) (s : State) : Host.Outcome State Fault Refusal :=
  finish s (s.windowWrite bar a n v)

/-- BAR2_READ (R361). -/
def execBar2Read (o n : Nat) (s : State) : Host.Outcome State Fault Refusal :=
  finish s (s.bar2Read o n)

end Sys2Proof.Machine
end

