-- ==== Sys2Proof/Machine/Dispatch.lean ====
section
/-! DEFINITION. One arm per command: each calls its meaning. -/

namespace Sys2Proof.Machine

/-- The effect of a command on everything but the queue. -/
def exec (i : Instr) (s : State) : Host.Outcome State Fault Refusal :=
  match i with
  | .powerOnReset => Sys2Proof.Machine.execPowerOnReset s
  | .rstNAssert => Sys2Proof.Machine.execRstNAssert s
  | .perstNAssert straps => Sys2Proof.Machine.execPerstNAssert straps s
  | .resetDeassert straps claspId => Sys2Proof.Machine.execResetDeassert straps claspId s
  | .fuseLoadDone us => Sys2Proof.Machine.execFuseLoadDone us s
  | .memoryInitDone us rows tiles words hallmark => Sys2Proof.Machine.execMemoryInitDone us rows tiles words hallmark s
  | .pllLock us => Sys2Proof.Machine.execPllLock us s
  | .noReferenceTimeout => Sys2Proof.Machine.execNoReferenceTimeout s
  | .selfCalibrationDone us c zero check => Sys2Proof.Machine.execSelfCalibrationDone us c zero check s
  | .permanentFault code => Sys2Proof.Machine.execPermanentFault code s
  | .serialSupplyChange up => Sys2Proof.Machine.execSerialSupplyChange up s
  | .arm src => Sys2Proof.Machine.execArm src s
  | .disarm src => Sys2Proof.Machine.execDisarm src s
  | .stop src => Sys2Proof.Machine.execStop src s
  | .stopOrbitEnd => Sys2Proof.Machine.execStopOrbitEnd s
  | .holdLimitExpire => Sys2Proof.Machine.execHoldLimitExpire s
  | .orbitStart marker above below => Sys2Proof.Machine.execOrbitStart marker above below s
  | .orbitMarkerSampled d => Sys2Proof.Machine.execOrbitMarkerSampled d s
  | .bclkLost => Sys2Proof.Machine.execBclkLost s
  | .bclkReturn => Sys2Proof.Machine.execBclkReturn s
  | .orbClkWrite bar v => Sys2Proof.Machine.execOrbClkWrite bar v s
  | .orbLenWrite bar v => Sys2Proof.Machine.execOrbLenWrite bar v s
  | .markerBlockReceived p m d => Sys2Proof.Machine.execMarkerBlockReceived p m d s
  | .shaftMarkerTimeout => Sys2Proof.Machine.execShaftMarkerTimeout s
  | .calRunStart entry => Sys2Proof.Machine.execCalRunStart entry s
  | .quietBegin entry => Sys2Proof.Machine.execQuietBegin entry s
  | .quietEnd entry => Sys2Proof.Machine.execQuietEnd entry s
  | .calInject entry => Sys2Proof.Machine.execCalInject entry s
  | .calCounterReset entry => Sys2Proof.Machine.execCalCounterReset entry s
  | .calVtdc entry => Sys2Proof.Machine.execCalVtdc entry s
  | .calMon entry => Sys2Proof.Machine.execCalMon entry s
  | .calScrubBurst entry => Sys2Proof.Machine.execCalScrubBurst entry s
  | .calDump entry => Sys2Proof.Machine.execCalDump entry s
  | .calClaspDigest entry => Sys2Proof.Machine.execCalClaspDigest entry s
  | .calScopeTrigger entry => Sys2Proof.Machine.execCalScopeTrigger entry s
  | .exchangeStart p d sub => Sys2Proof.Machine.execExchangeStart p d sub s
  | .probeReceived p seq d2 sub2 d3 sub3 => Sys2Proof.Machine.execProbeReceived p seq d2 sub2 d3 sub3 s
  | .reply2Received p seq t2 => Sys2Proof.Machine.execReply2Received p seq t2 s
  | .reply3Received p seq t3 d sub => Sys2Proof.Machine.execReply3Received p seq t3 d sub s
  | .probeTimeout p seq => Sys2Proof.Machine.execProbeTimeout p seq s
  | .ppsEdge d => Sys2Proof.Machine.execPpsEdge d s
  | .wallSrcLost => Sys2Proof.Machine.execWallSrcLost s
  | .ptmRequest => Sys2Proof.Machine.execPtmRequest s
  | .ptmResponse sec ns => Sys2Proof.Machine.execPtmResponse sec ns s
  | .wallSetNow bar => Sys2Proof.Machine.execWallSetNow bar s
  | .wallSetAtPps bar => Sys2Proof.Machine.execWallSetAtPps bar s
  | .orbSlotRead => Sys2Proof.Machine.execOrbSlotRead s
  | .wallNsRead => Sys2Proof.Machine.execWallNsRead s
  | .feCtrlWrite bar v => Sys2Proof.Machine.execFeCtrlWrite bar v s
  | .feSettled c => Sys2Proof.Machine.execFeSettled c s
  | .feThrOfsWrite bar v => Sys2Proof.Machine.execFeThrOfsWrite bar v s
  | .thrOfsApply => Sys2Proof.Machine.execThrOfsApply s
  | .feChWrite bar n v => Sys2Proof.Machine.execFeChWrite bar n v s
  | .leadingEdge n ls lf e => Sys2Proof.Machine.execLeadingEdge n ls lf e s
  | .trailingEdge n ts e => Sys2Proof.Machine.execTrailingEdge n ts e s
  | .holdoffEnd n => Sys2Proof.Machine.execHoldoffEnd n s
  | .overRange n => Sys2Proof.Machine.execOverRange n s
  | .blindEnd n => Sys2Proof.Machine.execBlindEnd n s
  | .injectionWindowClose => Sys2Proof.Machine.execInjectionWindowClose s
  | .channelRetire n => Sys2Proof.Machine.execChannelRetire n s
  | .channelSettled n => Sys2Proof.Machine.execChannelSettled n s
  | .pairIdle ix => Sys2Proof.Machine.execPairIdle ix s
  | .conversionDone n => Sys2Proof.Machine.execConversionDone n s
  | .totTimeout n => Sys2Proof.Machine.execTotTimeout n s
  | .conversionOverrun ix => Sys2Proof.Machine.execConversionOverrun ix s
  | .vtdcCalStart p => Sys2Proof.Machine.execVtdcCalStart p s
  | .vtdcCalDone p s1 s2 => Sys2Proof.Machine.execVtdcCalDone p s1 s2 s
  | .bulkPassResume p => Sys2Proof.Machine.execBulkPassResume p s
  | .bulkPassEnd fin => Sys2Proof.Machine.execBulkPassEnd fin s
  | .vtdcPselWrite bar v => Sys2Proof.Machine.execVtdcPselWrite bar v s
  | .tiuStart bar => Sys2Proof.Machine.execTiuStart bar s
  | .tiuAbort bar => Sys2Proof.Machine.execTiuAbort bar s
  | .utilEdge k ls lf e => Sys2Proof.Machine.execUtilEdge k ls lf e s
  | .tiuIntervalTimeout => Sys2Proof.Machine.execTiuIntervalTimeout s
  | .entryExpire t => Sys2Proof.Machine.execEntryExpire t s
  | .retrievalStart tag => Sys2Proof.Machine.execRetrievalStart tag s
  | .streamGroupIssue => Sys2Proof.Machine.execStreamGroupIssue s
  | .galleryWordArrive t => Sys2Proof.Machine.execGalleryWordArrive t s
  | .grantTimeout t => Sys2Proof.Machine.execGrantTimeout t s
  | .totalTimeout tag t => Sys2Proof.Machine.execTotalTimeout tag t s
  | .arbEvaluationPoint inst => Sys2Proof.Machine.execArbEvaluationPoint inst s
  | .arbWindowEnd inst => Sys2Proof.Machine.execArbWindowEnd inst s
  | .canaryBite inst => Sys2Proof.Machine.execCanaryBite inst s
  | .trigInWord w => Sys2Proof.Machine.execTrigInWord w s
  | .tokenRefill => Sys2Proof.Machine.execTokenRefill s
  | .autoForcedAccept => Sys2Proof.Machine.execAutoForcedAccept s
  | .trgForce bar => Sys2Proof.Machine.execTrgForce bar s
  | .triggerMsgReceived p m => Sys2Proof.Machine.execTriggerMsgReceived p m s
  | .triggerApply => Sys2Proof.Machine.execTriggerApply s
  | .acceptIssue => Sys2Proof.Machine.execAcceptIssue s
  | .busyChange => Sys2Proof.Machine.execBusyChange s
  | .busyMsgReceived p busy => Sys2Proof.Machine.execBusyMsgReceived p busy s
  | .selfTriggerEval slot => Sys2Proof.Machine.execSelfTriggerEval slot s
  | .specRelease slot => Sys2Proof.Machine.execSpecRelease slot s
  | .primMsgReceived p m => Sys2Proof.Machine.execPrimMsgReceived p m s
  | .primDeadline => Sys2Proof.Machine.execPrimDeadline s
  | .maskTestEval => Sys2Proof.Machine.execMaskTestEval s
  | .trgEvidence bar => Sys2Proof.Machine.execTrgEvidence bar s
  | .trgUnfreeze bar => Sys2Proof.Machine.execTrgUnfreeze bar s
  | .specResolve => Sys2Proof.Machine.execSpecResolve s
  | .confirmReceived p m => Sys2Proof.Machine.execConfirmReceived p m s
  | .cancelReceived p m => Sys2Proof.Machine.execCancelReceived p m s
  | .nackReceived p m => Sys2Proof.Machine.execNackReceived p m s
  | .specTtlExpire => Sys2Proof.Machine.execSpecTtlExpire s
  | .tallyDumpGo bar v => Sys2Proof.Machine.execTallyDumpGo bar v s
  | .dumpRecordWrite => Sys2Proof.Machine.execDumpRecordWrite s
  | .scrubSlot => Sys2Proof.Machine.execScrubSlot s
  | .vaultRepairCmd bar v => Sys2Proof.Machine.execVaultRepairCmd bar v s
  | .vaultRepairStart => Sys2Proof.Machine.execVaultRepairStart s
  | .vaultRepairDone => Sys2Proof.Machine.execVaultRepairDone s
  | .vaultWindowWrite bar a n v => Sys2Proof.Machine.execVaultWindowWrite bar a n v s
  | .bar2Read o n => Sys2Proof.Machine.execBar2Read o n s
  | .facetCodingDone e => Sys2Proof.Machine.execFacetCodingDone e s
  | .frameReceived p loop bs => Sys2Proof.Machine.execFrameReceived p loop bs s
  | .rxStageAdmit p => Sys2Proof.Machine.execRxStageAdmit p s
  | .blockLock l => Sys2Proof.Machine.execBlockLock l s
  | .blockLockLoss l bad => Sys2Proof.Machine.execBlockLockLoss l bad s
  | .badControlBlock p => Sys2Proof.Machine.execBadControlBlock p s
  | .abortBlock p v len => Sys2Proof.Machine.execAbortBlock p v len s
  | .suspendBlock p v => Sys2Proof.Machine.execSuspendBlock p v s
  | .resumeBlock p v => Sys2Proof.Machine.execResumeBlock p v s
  | .alignReceived l count skew round => Sys2Proof.Machine.execAlignReceived l count skew round s
  | .alignCadence p => Sys2Proof.Machine.execAlignCadence p s
  | .creditBlock p v cum => Sys2Proof.Machine.execCreditBlock p v cum s
  | .creditRefresh p => Sys2Proof.Machine.execCreditRefresh p s
  | .ackBlock p v seq => Sys2Proof.Machine.execAckBlock p v seq s
  | .nakBlock p v seq => Sys2Proof.Machine.execNakBlock p v seq s
  | .replayTimeout p v => Sys2Proof.Machine.execReplayTimeout p v s
  | .holdBlock p mask release => Sys2Proof.Machine.execHoldBlock p mask release s
  | .sleepBlock p mask => Sys2Proof.Machine.execSleepBlock p mask s
  | .portWidthWrite bar p v => Sys2Proof.Machine.execPortWidthWrite bar p v s
  | .laneWakeReady p => Sys2Proof.Machine.execLaneWakeReady p s
  | .eyeMeasure l width height => Sys2Proof.Machine.execEyeMeasure l width height s
  | .laneRetrainDone l width => Sys2Proof.Machine.execLaneRetrainDone l width s
  | .eqSlow l => Sys2Proof.Machine.execEqSlow l s
  | .eqFreeze l => Sys2Proof.Machine.execEqFreeze l s
  | .portCfgWrite bar p v => Sys2Proof.Machine.execPortCfgWrite bar p v s
  | .laneCtrlWrite bar l v => Sys2Proof.Machine.execLaneCtrlWrite bar l v s
  | .trainAttemptTimeout l signal => Sys2Proof.Machine.execTrainAttemptTimeout l signal s
  | .portBaseDone p => Sys2Proof.Machine.execPortBaseDone p s
  | .trainSetReceived p t => Sys2Proof.Machine.execTrainSetReceived p t s
  | .switchDone p => Sys2Proof.Machine.execSwitchDone p s
  | .deskewDone p => Sys2Proof.Machine.execDeskewDone p s
  | .loopRequest l => Sys2Proof.Machine.execLoopRequest l s
  | .loopGrant l => Sys2Proof.Machine.execLoopGrant l s
  | .loopRefuse l => Sys2Proof.Machine.execLoopRefuse l s
  | .loopEnd l => Sys2Proof.Machine.execLoopEnd l s
  | .vc0MessageRoute p bs => Sys2Proof.Machine.execVc0MessageRoute p bs s
  | .newChild p src tag drift ptype role die hint => Sys2Proof.Machine.execNewChild p src tag drift ptype role die hint s
  | .assign p dst src tag drift alt dup level die root => Sys2Proof.Machine.execAssign p dst src tag drift alt dup level die root s
  | .refuse p drift reason => Sys2Proof.Machine.execRefuse p drift reason s
  | .joined => Sys2Proof.Machine.execJoined s
  | .rehomed p map => Sys2Proof.Machine.execRehomed p map s
  | .detach p map => Sys2Proof.Machine.execDetach p map s
  | .home p promote h => Sys2Proof.Machine.execHome p promote h s
  | .cfgRdMsg p src tag off => Sys2Proof.Machine.execCfgRdMsg p src tag off s
  | .cfgWrMsg p src tag off v => Sys2Proof.Machine.execCfgWrMsg p src tag off v s
  | .cfgResp die tag status detail data => Sys2Proof.Machine.execCfgResp die tag status detail data s
  | .treeDiscoverWrite bar v => Sys2Proof.Machine.execTreeDiscoverWrite bar v s
  | .treeRehome bar => Sys2Proof.Machine.execTreeRehome bar s
  | .shaftSwitch => Sys2Proof.Machine.execShaftSwitch s
  | .witnessSend => Sys2Proof.Machine.execWitnessSend s
  | .witnessReceived src orbit shaft alt => Sys2Proof.Machine.execWitnessReceived src orbit shaft alt s
  | .witnessRoundClose => Sys2Proof.Machine.execWitnessRoundClose s
  | .pair src id peerState digest => Sys2Proof.Machine.execPair src id peerState digest s
  | .claspLinkUp => Sys2Proof.Machine.execClaspLinkUp s
  | .claspLinkLost => Sys2Proof.Machine.execClaspLinkLost s
  | .dig seq r ix origin stream key digest => Sys2Proof.Machine.execDig seq r ix origin stream key digest s
  | .echo seq absent digest => Sys2Proof.Machine.execEcho seq absent digest s
  | .echoTimeout seq => Sys2Proof.Machine.execEchoTimeout seq s
  | .claspState seq digest => Sys2Proof.Machine.execClaspState seq digest s
  | .stateMissing => Sys2Proof.Machine.execStateMissing s
  | .claspCheck => Sys2Proof.Machine.execClaspCheck s
  | .selfCheckDone knownOk => Sys2Proof.Machine.execSelfCheckDone knownOk s
  | .claspResult fails => Sys2Proof.Machine.execClaspResult fails s
  | .claspPromote bar => Sys2Proof.Machine.execClaspPromote bar s
  | .claspOrphan => Sys2Proof.Machine.execClaspOrphan s
  | .claspChunkSend => Sys2Proof.Machine.execClaspChunkSend s
  | .claspChunk offset seq bs => Sys2Proof.Machine.execClaspChunk offset seq bs s
  | .claspCommit hash => Sys2Proof.Machine.execClaspCommit hash s
  | .commitAck differs => Sys2Proof.Machine.execCommitAck differs s
  | .claspKey o ctr ct tag => Sys2Proof.Machine.execClaspKey o ctr ct tag s
  | .flr => Sys2Proof.Machine.execFlr s
  | .featureCommit bar => Sys2Proof.Machine.execFeatureCommit bar s
  | .ringCfgWrite bar r v => Sys2Proof.Machine.execRingCfgWrite bar r v s
  | .hifNudge bar v => Sys2Proof.Machine.execHifNudge bar v s
  | .doorbellPoll => Sys2Proof.Machine.execDoorbellPoll s
  | .doorbellReadDone block tails => Sys2Proof.Machine.execDoorbellReadDone block tails s
  | .nop src => Sys2Proof.Machine.execNop src s
  | .cfgRd src => Sys2Proof.Machine.execCfgRd src s
  | .cfgWr src => Sys2Proof.Machine.execCfgWr src s
  | .cfgRdBlock src => Sys2Proof.Machine.execCfgRdBlock src s
  | .readmit src => Sys2Proof.Machine.execReadmit src s
  | .capsule r bytes => Sys2Proof.Machine.execCapsule r bytes s
  | .attest r bytes => Sys2Proof.Machine.execAttest r bytes s
  | .logRead src => Sys2Proof.Machine.execLogRead src s
  | .badOp r => Sys2Proof.Machine.execBadOp r s
  | .commandTimeout r ix => Sys2Proof.Machine.execCommandTimeout r ix s
  | .unitDeliver r => Sys2Proof.Machine.execUnitDeliver r s
  | .ringDropTimeout r => Sys2Proof.Machine.execRingDropTimeout r s
  | .coalesceTimeout g => Sys2Proof.Machine.execCoalesceTimeout g s
  | .capChunk p src tag off bs => Sys2Proof.Machine.execCapChunk p src tag off bs s
  | .capsuleApply => Sys2Proof.Machine.execCapsuleApply s
  | .claim => Sys2Proof.Machine.execClaim s
  | .digestDone => Sys2Proof.Machine.execDigestDone s
  | .attestReq p src tag nonce => Sys2Proof.Machine.execAttestReq p src tag nonce s
  | .attestResp die tag rep => Sys2Proof.Machine.execAttestResp die tag rep s
  | .hello p m => Sys2Proof.Machine.execHello p m s
  | .proof p m => Sys2Proof.Machine.execProof p m s
  | .finish p m => Sys2Proof.Machine.execFinish p m s
  | .fail p => Sys2Proof.Machine.execFail p s
  | .authTimeout p => Sys2Proof.Machine.execAuthTimeout p s
  | .authRetry p => Sys2Proof.Machine.execAuthRetry p s
  | .rekeyDue e2e n => Sys2Proof.Machine.execRekeyDue e2e n s
  | .hallCmdRekey bar => Sys2Proof.Machine.execHallCmdRekey bar s
  | .oldKeyExpire p => Sys2Proof.Machine.execOldKeyExpire p s
  | .e2eHello p o m => Sys2Proof.Machine.execE2eHello p o m s
  | .e2eProof p o m => Sys2Proof.Machine.execE2eProof p o m s
  | .e2eFinish p o m => Sys2Proof.Machine.execE2eFinish p o m s
  | .e2eFail p o => Sys2Proof.Machine.execE2eFail p o s
  | .e2eRestart p => Sys2Proof.Machine.execE2eRestart p s
  | .monConversionDone v => Sys2Proof.Machine.execMonConversionDone v s
  | .monGuardDone v => Sys2Proof.Machine.execMonGuardDone v s
  | .monPassStart => Sys2Proof.Machine.execMonPassStart s
  | .monSeqStart bar => Sys2Proof.Machine.execMonSeqStart bar s
  | .monSeqStop bar => Sys2Proof.Machine.execMonSeqStop bar s
  | .monInjGo bar v => Sys2Proof.Machine.execMonInjGo bar v s
  | .monExcWrite bar isrc k v => Sys2Proof.Machine.execMonExcWrite bar isrc k v s
  | .monModeWrite bar v => Sys2Proof.Machine.execMonModeWrite bar v s
  | .monCalNone bar v => Sys2Proof.Machine.execMonCalNone bar v s
  | .intZero bar v => Sys2Proof.Machine.execIntZero bar v s
  | .sysZero bar v => Sys2Proof.Machine.execSysZero bar v s
  | .sysFull bar v => Sys2Proof.Machine.execSysFull bar v s
  | .refCheck bar v => Sys2Proof.Machine.execRefCheck bar v s
  | .monCalRun => Sys2Proof.Machine.execMonCalRun s
  | .monCalDone convs checks => Sys2Proof.Machine.execMonCalDone convs checks s
  | .scopeArm bar => Sys2Proof.Machine.execScopeArm bar s
  | .scopeAbort bar => Sys2Proof.Machine.execScopeAbort bar s
  | .scopeForce bar => Sys2Proof.Machine.execScopeForce bar s
  | .scopeSample v => Sys2Proof.Machine.execScopeSample v s
  | .scopeAutoTimeout => Sys2Proof.Machine.execScopeAutoTimeout s
  | .scopeRecordWrite => Sys2Proof.Machine.execScopeRecordWrite s
  | .scopeRearm => Sys2Proof.Machine.execScopeRearm s
  | .strikeDecay ty => Sys2Proof.Machine.execStrikeDecay ty s
  | .faultPolicyWrite bar ty v => Sys2Proof.Machine.execFaultPolicyWrite bar ty v s
  | .alertRelease => Sys2Proof.Machine.execAlertRelease s
  | .multiwordRead a => Sys2Proof.Machine.execMultiwordRead a s
  | .registerWrite bar a v be => Sys2Proof.Machine.execRegisterWrite bar a v be s
  | .arbRelease inst => Sys2Proof.Machine.execArbRelease inst s
  | .checkResultTimeout => Sys2Proof.Machine.execCheckResultTimeout s
  | .pcieConfigWrite w => Sys2Proof.Machine.execPcieConfigWrite w s
  | .tapOperation o => Sys2Proof.Machine.execTapOperation o s

end Sys2Proof.Machine
end

