-- ==== Sys2Proof/Machine/Step.lean ====
section
/-! DEFINITION. One step: the command at the front of the queue, or on an empty queue one F-cycle. -/

namespace Sys2Proof.Machine

/-- One F-cycle in which nothing is commanded (log 30): time runs, and a slot counter that wraps starts an orbit (R32, R39). -/
def State.idle (s : State) : State :=
  if s.time.fRun ∧ s.time.counting ∧ s.toOrbitEnd ≤ 1 then fragOut (orbitStart false [] [] s) else s.elapse 1

/-- One step of the die. -/
def step (s : State) : Host.Outcome State Fault Refusal :=
  match s.pending with
  | [] => finish s s.idle
  | c :: rest => exec c { s with pending := rest }

/-- The state with the command that a word spells put at the front of the queue; the table spells none (log 34). -/
def State.withFetchWord (s : State) (nbits w : Nat) : State :=
  match decodeTableWord nbits w with
  | some c => { s with pending := c :: s.pending }
  | none => s

end Sys2Proof.Machine
end

