-- ==== Sys2Proof/Safety.lean ====
section
/-! DEFINITION. What claims about commands are stated in: the edges of R19's table, a sound READY ball, which registers a
command leaves alone, and that a run of the queue is out of reset. -/

namespace Sys2Proof.Machine

/-- The edges of R19's table, less the resets: a run state may also stay. -/
def runEdge (a b : RunState) : Prop :=
  a = b ∨ (a = .init ∧ (b = .ready ∨ b = .safe)) ∨ (a = .ready ∧ (b = .armed ∨ b = .safe)) ∨
    (a = .armed ∧ (b = .ready ∨ b = .running ∨ b = .safe)) ∨ (a = .running ∧ (b = .ready ∨ b = .hold ∨ b = .safe)) ∨
    (a = .hold ∧ (b = .running ∨ b = .ready ∨ b = .safe))

/-- The READY ball agrees with the run state (R22). -/
abbrev readySound (s : State) : Prop :=
  s.sys.readyBall = true ↔ (s.sys.run = .ready ∨ s.sys.run = .armed ∨ s.sys.run = .running ∨ s.sys.run = .hold)

/-- The die is out of reset, and its READY ball is sound. -/
abbrev Awake (s : State) : Prop := s.sys.run ≠ .reset ∧ readySound s

/-- Every register word but those at the offsets `ks` reads in `t` as in `s`. -/
def regsBut (ks : List Nat) (s t : State) : Prop := ∀ a, a ∉ ks → t.rd a = s.rd a

/-! The die at a later moment of this orbit: what an event finds when it comes about (log 7). -/

/-- The die once time has come to F-cycle `t`, counted as `fNow` counts, if this orbit gets there. -/
def State.atF (s : State) (t : Nat) : Option State :=
  if t ≤ s.fNow then some s
  else if s.time.fRun ∧ (s.time.counting → s.time.slot * 64 + s.time.fcyc + (t - s.fNow) < s.time.len * 64) then
    some (s.elapse (t - s.fNow))
  else none

/-- The die once `us` µs have passed since F-cycle `since`, as `State.afterUs` counts them (log 106). -/
def State.atUs (s : State) (since us : Nat) : Option State :=
  if s.time.fRun then s.atF (since + s.usCycles us) else some s

/-- The die once slot `t`, counted since reset, has started, if this orbit gets there. -/
def State.atSlot (s : State) (t : Nat) : Option State :=
  if t ≤ s.time.slots then some s
  else if s.time.fRun ∧ (s.time.counting → s.time.slot + (t - s.time.slots) < s.time.len) then
    some (s.elapse ((t - s.time.slots) * 64 - s.time.fcyc))
  else none

/-- The die at F-cycle `f` of slot `slot` of this orbit, if that is not past. -/
def State.atCycle (s : State) (slot f : Nat) : Option State := (s.until? slot f).map s.elapse

/-- The die at the slot of calendar entry `i` (R49): now where that slot runs, else once it starts, if it is not past. -/
def State.atEntry (s : State) (i : Nat) : Option State :=
  if s.time.counting ∧ s.time.slot = calSlot (s.calWord i) then some s else s.atCycle (calSlot (s.calWord i)) 0

/-- A reset command (R443). -/
def isReset : Instr → Prop
  | .powerOnReset => True
  | .rstNAssert => True
  | .perstNAssert _ => True
  | .resetDeassert _ _ => True
  | _ => False

end Sys2Proof.Machine
end

