-- ==== Sys2Proof/Certificates/Slice0/Obligations.lean ====
section
/-! DEFINITION. The statements for the provers. A name `u` in them is the die at the moment a command carries; `regsBut` lists the
registers a command may change, and the equations of `t` name every other field it may. -/

open Sys2Proof Sys2Proof.Machine

/-- A step runs the command at the front of the queue, on the state with the queue's rest (the queue is the model's, log 34). The model's reading or
choice here: log 34. -/
def Obligations.StepRunsTheFrontCommand : Prop :=
  ∀ (s : State) (c : Instr) (rest : List Instr), step { s with pending := c :: rest } = exec c { s with pending := rest }

/-- On an empty queue one F-cycle passes (R32, R52, R65, R446; that a step is one F-cycle is the model's choice, log 30): slot, orbit and WALL advance
as their rules say, BUSY slots are counted, a quiet window ends with its last slot (R52), and nothing moves while the F-clock is stopped. The
model's reading or choice here: log 30. -/
def Obligations.StepOnEmptyQueueIsOneFCycle : Prop :=
  ∀ (s : State), s.pending = [] → Awake s →
    (s.time.fRun = false → step s = .next s) ∧
    (s.time.fRun = true → (s.time.counting = false ∨ 1 < s.toOrbitEnd) →
      ∃ t, step s = .next t ∧ t.time.now = s.time.now + 1 ∧ t.time.slots * 64 + t.time.fcyc = s.time.slots * 64 + s.time.fcyc + 1 ∧
        t.time.fcyc < 64 ∧ t.time.orbit = s.time.orbit ∧ t.time.len = s.time.len ∧
        (t.wall.t : Int) = ((s.wall.t : Int) + s.wallInc) % (wallModulus : Int) ∧
        (s.on F.ORB_STATUS_QUIET = true → t.on F.ORB_STATUS_QUIET = s.quietAt t.time.slots) ∧
        (s.on F.ORB_STATUS_QUIET = false ∨ s.quietAt t.time.slots = true → t.vtdc = s.vtdc ∧ t.vault = s.vault ∧ regsBut [Reg.TRG_BUSY_SLOTS] s t) ∧
        t = { s with regs := t.regs, time := t.time, wall := t.wall, vtdc := t.vtdc, vault := t.vault } ∧
        regsBut [Reg.TRG_BUSY_SLOTS, Reg.ORB_STATUS] s t)

/-- Every command ends in a next state and leaves the queue as it is: no command of the table stops the die. -/
def Obligations.EveryCommandEndsInANextState : Prop :=
  ∀ (c : Instr) (s : State), ∃ t, exec c s = .next t ∧ t.pending = s.pending

/-- READY is asserted in READY, ARMED, RUNNING and HOLD and deasserted in RESET, INIT and SAFE (R22), as the ball and as `SYS_STATUS.READY`: every
step, whatever command it runs, keeps that, from any state where it holds. -/
def Obligations.StepKeepsTheReadyBall : Prop :=
  ∀ (s t : State), readySound s → step s = .next t → readySound t ∧
    (bitsOf (t.regRead Reg.SYS_STATUS).1 0 1 = 1 ↔ (t.sys.run = .ready ∨ t.sys.run = .armed ∨ t.sys.run = .running ∨ t.sys.run = .hold))

/-- After reset (R19, R22, R37, R70, R74, R285, R443, R445): the die is in INIT with READY low, memory lists nothing, the registers that follow the
role read a leaf's values and every other register reads its reset value; its registers are in canonical form. Outputs are appended to `out`: log
8. The model's reading or choice here: log 5, 31. -/
def Obligations.ResetLeavesTheDieInInit : Prop :=
  ∀ (a : Nat), readySound State.reset ∧ State.reset.sys.run = .init ∧ State.reset.sys.readyBall = false ∧ State.reset.pending = [] ∧
    State.reset.vault = {} ∧ State.reset.tiles = [] ∧ State.reset.out = [] ∧ State.reset.buf = {} ∧ State.reset.time = {} ∧ State.reset.fault = {} ∧
    State.reset.get F.ORB_CLK_SRC = 1 ∧ State.reset.get F.WALL_SERVO_SRC = 1 ∧ State.reset.on F.FE_CTRL_MATRIX_EN = true ∧
    State.reset.portKind 0 = 1 ∧ swf resetWord State.reset.regs = true ∧
    (a ∉ [Reg.ORB_CLK, Reg.WALL_SERVO, Reg.PORT_CFG 0, Reg.FE_CTRL] → State.reset.rd a = (resetWord a).toNat)

/-- The run state moves only along R19's table, and the role is held until the next reset (R11, R19, R23): of all commands only the four reset
commands make another move, so SAFE is left by a reset alone. The model's reading or choice here: log 42. -/
def Obligations.RunStateMovesOnlyAlongItsTable : Prop :=
  ∀ (c : Instr) (s t : State), exec c s = .next t →
    (¬ isReset c → runEdge s.sys.run t.sys.run ∧ t.sys.role = s.sys.role) ∧
    (s.sys.run = .safe → t.sys.run ≠ .safe → isReset c) ∧
    (s.sys.run = .reset → t.sys.run ≠ .reset → isReset c)

/-- A refused write has no side effect (R27): the register keeps its value and SYS_REJECT_CNT rises by 1, saturating; only the count of Protected
refusals (R391) may rise with it. Any write of the counter that is accepted clears it. -/
def Obligations.RefusedWritesHaveNoSideEffect : Prop :=
  ∀ (s : State) (a v : Nat), Awake s →
    ((s.busWrite a v).1.status = 1 ∨ (s.busWrite a v).1.status = 2 ∨ (s.busWrite a v).1.status = 0x10 →
      ∃ t, exec (.registerWrite false a v 15) s = .next t ∧ t.rd Reg.SYS_REJECT_CNT = min (s.rd Reg.SYS_REJECT_CNT + 1) 0xFFFFFFFF ∧
        regsBut [Reg.SYS_REJECT_CNT, Reg.HALL_PROTECTED_REJ_CNT] s t ∧ t = { s with regs := t.regs }) ∧
    (s.sys.run.isReady = true → ∃ t, exec (.registerWrite false Reg.SYS_REJECT_CNT v 15) s = .next t ∧ t.rd Reg.SYS_REJECT_CNT = 0 ∧
      regsBut [Reg.SYS_REJECT_CNT] s t ∧ t = { s with regs := t.regs })

/-- Multi-byte values are little-endian (R4), and a nugget's fields lie at the bits of R144's table: what is put in is read back. -/
def Obligations.BytesAndNuggetsReadBack : Prop :=
  ∀ (n v tile len trig data : Nat), tile < 256 →
    ((leBytes n v).length = n ∧ ofLE (leBytes n v) = v % 256 ^ n) ∧
    (-8 ≤ relSlot len (bitsOf data 34 14) trig → relSlot len (bitsOf data 34 14) trig ≤ 7 →
      toSigned 4 (bitsOf (nuggetOf tile len trig data) 30 4) = relSlot len (bitsOf data 34 14) trig) ∧
    (nuggetOf tile len trig data < 2 ^ 48 ∧ bitsOf (nuggetOf tile len trig data) 34 14 = tile * 64 + bitsOf data 28 6 ∧
      bitsOf (nuggetOf tile len trig data) 14 16 = bitsOf data 12 16 ∧ bitsOf (nuggetOf tile len trig data) 2 12 = bitsOf data 0 12)

/-- Resets (R23, R443, R444, R466): power-on clears every register and the fault log; RST_N, and PERST_N at a root, clear everything but the fault
log; each puts the die in RESET with READY low. The end of reset (R5, R11, R12, R19, R390, R443, R466): straps fix the role, INIT begins, one boot
fuse is burnt, FAULT_BOOT names the cause, and the registers that follow the role take its values. Where a command's condition fails it leaves the
die as it is: log 1. The model's reading or choice here: log 4, 32. -/
def Obligations.ResetsAndTheirRelease : Prop :=
  (∀ (s : State) (straps : Nat),
      (∃ t, exec .powerOnReset s = .next t ∧ t.sys.run = .reset ∧ t.sys.readyBall = false ∧ t.sys.porSeen = true ∧
        (∀ a, t.rd a = (resetWord a).toNat) ∧ t.fault.log = [] ∧ t.vault = {} ∧ t.time = {} ∧ t.ports = [] ∧ t.buf = {} ∧
        t.tap = s.tap ∧ t.fuse.boots = s.fuse.boots ∧ t.pending = s.pending) ∧
      (s.sys.run ≠ .reset → ∃ t, exec .rstNAssert s = .next t ∧ t.sys.run = .reset ∧ t.sys.readyBall = false ∧
        t.sys.rstSeen = true ∧ t.sys.porSeen = false ∧ (∀ a, a ≠ Reg.FAULT_LOG_NEXT → t.rd a = (resetWord a).toNat) ∧
        t.rd Reg.FAULT_LOG_NEXT = s.rd Reg.FAULT_LOG_NEXT ∧ t.fault.log = s.fault.log ∧ t.vault = {} ∧ t.time = {} ∧
        t.ports = [] ∧ t.buf = {} ∧ t.tap = s.tap ∧ t.fuse = s.fuse ∧ t.pending = s.pending) ∧
      (s.sys.run ≠ .reset → s.sys.role = .root → ∃ t, exec (.perstNAssert straps) s = .next t ∧
        t.sys.run = .reset ∧ t.sys.readyBall = false ∧ t.sys.perstSeen = true ∧ t.sys.rstSeen = false ∧
        (∀ a, a ≠ Reg.FAULT_LOG_NEXT → t.rd a = (resetWord a).toNat) ∧
        t.rd Reg.FAULT_LOG_NEXT = s.rd Reg.FAULT_LOG_NEXT ∧ t.fault.log = s.fault.log ∧ t.vault = {} ∧ t.time = {} ∧
        t.ports = [] ∧ t.buf = {} ∧ t.tap = s.tap ∧ t.fuse = s.fuse ∧ t.pending = s.pending) ∧
      (s.sys.run ≠ .reset → s.sys.role ≠ .root → exec (.perstNAssert straps) s = .next s)) ∧
  (∀ (s : State) (straps : Nat) (claspId : Bool),
      (s.sys.run = .reset → ∃ t, exec (.resetDeassert straps claspId) s = .next t ∧ t.sys.run = .init ∧
        t.sys.role = Role.ofCode (straps % 4) ∧ t.sys.straps = straps % 4 ∧ t.sys.claspId = claspId ∧
        t.fuse = { s.fuse with boots := min 16383 (s.fuse.boots + 1) } ∧
        t.get F.FAULT_BOOT_CAUSE = (if s.sys.porSeen then 0 else if s.sys.rstSeen then 1 else 2) ∧
        t.on F.FAULT_BOOT_LOG_KEPT = !s.sys.porSeen ∧
        (straps % 4 ≠ 2 → t.get F.ORB_CLK_SRC = 1 ∧ t.get F.WALL_SERVO_SRC = 1 ∧ t.rd (Reg.PORT_CFG 0) = 0x4000000F) ∧
        (straps % 4 = 2 → t.get F.TREE_STATUS_PATHV = 3 ∧ regsBut [Reg.FAULT_BOOT, Reg.CLASP_STATUS, Reg.TREE_STATUS] s t) ∧
        (straps % 4 ≠ 2 → t.rd Reg.TREE_STATUS = s.rd Reg.TREE_STATUS) ∧
        (straps % 4 = 0 → t.get F.FE_CTRL_MATRIX_EN = 1) ∧
        regsBut [Reg.ORB_CLK, Reg.WALL_SERVO, Reg.PORT_CFG 0, Reg.FE_CTRL, Reg.FAULT_BOOT, Reg.CLASP_STATUS, Reg.TREE_STATUS] s t ∧
        t = { s with regs := t.regs, sys := t.sys, fuse := t.fuse }) ∧
      (s.sys.run ≠ .reset → exec (.resetDeassert straps claspId) s = .next s))

/-- INIT (R12, R44, R445, R448, R449, R451, R464): the ends of fuse load, memory initialisation, PLL lock and self-calibration, and the die in READY
after them with its START alert; without the factory fuse or with the Hallmark's tests failed it ends in SAFE; 10 ms without a reference end step
3. The model's reading or choice here: log 33, 39, 40, 41, 60, 93. -/
def Obligations.StartUpStepsLeadToReady : Prop :=
  ∀ (s : State) (us words : Nat) (rows tiles : List Nat) (c : CalSet) (zero check : List MonConv), Awake s →
    (s.sys.run = .init → s.sys.fuseDone = false → (s.sys.role ≠ .factory ∨ s.fuse.factoryTest = true) →
      ∃ t, exec (.fuseLoadDone us) s = .next t ∧ t.sys = { s.sys with fuseDone := true }) ∧
    (s.sys.run = .init → s.sys.fuseDone = false → s.sys.role = .factory → s.fuse.factoryTest = false →
      ∃ t, exec (.fuseLoadDone us) s = .next t ∧ t.sys.run = .safe ∧ t.get F.FAULT_STATUS_SAFE_CAUSE = 5) ∧
    (s.sys.run = .init → s.sys.fuseDone = true → s.sys.memDone = false →
      (∃ t, exec (.memoryInitDone us rows tiles words true) s = .next t ∧ t.sys = { s.sys with memDone := true } ∧
        t.hall.hashing = true ∧ t.on F.HALL_STATUS_DIGEST_VALID = false) ∧
      (∃ t, exec (.memoryInitDone us rows tiles words false) s = .next t ∧ t.sys.run = .safe ∧
        t.get F.FAULT_STATUS_SAFE_CAUSE = 3)) ∧
    (s.sys.fuseDone = true → s.on F.ORB_STATUS_PLL_LOCK = false → (s.srcShaft = true → s.sys.serialUp = true) →
      ∃ t, exec (.pllLock us) s = .next t ∧ t.time.fRun = true ∧ t.sys.pllDone = true) ∧
    (s.sys.run = .init → s.sys.memDone = true → (s.sys.pllDone = true ∨ s.sys.noRef = true) →
      ∃ t, exec (.selfCalibrationDone us c zero check) s = .next t ∧ t.sys.run = .ready ∧ t.sys.readyBall = true ∧
        t.sys.startSent = true ∧ t.get (F.FAULT_START_US 3) = us % 2 ^ 16) ∧
    (s.sys.run = .init → s.sys.fuseDone = true → s.sys.pllDone = false → s.sys.noRef = false →
      ∃ t, exec .noReferenceTimeout s = .next t ∧ t.on F.FAULT_BOOT_NOREF = true ∧ t.get (F.FAULT_START_US 2) = 10000 ∧
        regsBut [Reg.FAULT_BOOT, Reg.FAULT_START 2] s t ∧
        t = { s with regs := t.regs, sys := { s.sys with noRef := true } })

/-- The TAP, permanent faults and alerts that waited (R19, R443, R459, R460, R465, R494, R496): a TAP load replaces instruction and boundary, and
EXTEST takes the balls; a permanent fault enters SAFE, where capture and tiles are gone; the alerts raised before numbering leave in order, with
the die's number. Supplies, decay and the fault policy (R454, R488): a serial supply that goes takes every port and the host link down, and one
that returns lets ports train; a countdown's end lowers every counter of its type and reloads; a write of FAULT_POLICY reloads its type's
countdown. Where a command's condition fails it leaves the die as it is: log 1. The model's reading or choice here: log 42, 63, 71, 73, 74. -/
def Obligations.FaultsSuppliesAndPolicyTakeEffect : Prop :=
  (∀ (s : State) (ir code : Nat) (ext : Bool) (bits : List Bool), Awake s →
      (exec (.tapOperation (.load ir ext bits)) s = .next { s with tap := { ir := ir, extest := ext, boundary := bits } }) ∧
      (exec (.tapOperation .trst) s = .next { s with tap := {} }) ∧
      (∃ t, exec (.tapOperation (.load ir true bits)) s = .next t ∧ t.readyOut = none ∧ t.busyBall = none ∧ t.tprimBall = none) ∧
      (∃ t, exec (.tapOperation .trst) s = .next t ∧ t.readyOut = some s.sys.readyBall) ∧
      (1 ≤ code → code ≤ 4 → s.sys.run ≠ .safe → ∃ t, exec (.permanentFault code) s = .next t ∧ t.sys.run = .safe ∧ t.sys.readyBall = false ∧
        t.get F.FAULT_STATUS_SAFE_CAUSE = code ∧ t.tiles = [] ∧ t.asm.frags = [] ∧ t.trg.queue = [] ∧ t.trg.ready = [] ∧
        t.on F.ORB_STATUS_HOLDOVER = true ∧ t.time = s.time ∧ t.ports = s.ports) ∧
      (1 ≤ code → code ≤ 4 → s.sys.run = .safe → exec (.permanentFault code) s = .next s) ∧
      (s.on F.TREE_ID_NUMBERED = true → s.sys.run ≠ .safe → s.uplinks = s → ∃ t, exec .alertRelease s = .next t ∧ t.fault = { s.fault with waiting := [] } ∧
        t.buf.units.take s.buf.units.length = s.buf.units ∧ t.buf.units.length = s.buf.units.length + s.fault.waiting.length ∧
        (s.hall.e2e.tx = none ∨ s.get F.HALL_AUTH_MODE ≠ 2 →
          (t.buf.units.drop s.buf.units.length).map (fun u => (u.stream, u.origin, u.part, u.bytes))
            = s.fault.waiting.map (fun r => (5, s.get F.TREE_ID_DIE, Part.alert, r))) ∧
        (∀ i, i ≠ 16 → i ≠ 17 → t.arb i = s.arb i) ∧
        regsBut [Reg.ARB_GRANT_CNT 16, Reg.ARB_GRANT_CNT 17, Reg.ARB_QMASK_CNT 16, Reg.ARB_QMASK_CNT 17] s t ∧
        t = { s with buf := t.buf, fault := t.fault, regs := t.regs, arbs := t.arbs }) ∧
      (s.on F.TREE_ID_NUMBERED = false ∨ s.sys.run = .safe → exec .alertRelease s = .next s)) ∧
  (∀ (s : State) (ty v p : Nat) (bar : Bool), Awake s → 1 ≤ ty → ty ≤ 9 → p < 16 →
      (s.sys.serialUp = true → s.portKind p ≠ 0 → ∃ t, exec (.serialSupplyChange false) s = .next t ∧ t.sys.serialUp = false ∧ t.portState p = 0 ∧
        (s.isRoot = true → t.on F.HIF_STATUS_LINK_UP = false ∧ t.get F.HIF_STATUS_WIDTH = 0) ∧
        (s.srcShaft = false → t.sys = { s.sys with serialUp := false } ∧ t.time = s.time ∧ t.wall = s.wall ∧ t.fault.strikes = s.fault.strikes)) ∧
      (s.sys.serialUp = false → ∃ t, exec (.serialSupplyChange true) s = .next t ∧ t.sys = { s.sys with serialUp := true } ∧ t.time = s.time ∧
        t.wall = s.wall ∧ t.fault.strikes = s.fault.strikes ∧
        (s.portState p = 0 → { s with sys := { s.sys with serialUp := true } }.mayTrain p = true → t.portState p = 1) ∧
        ({ s with sys := { s.sys with serialUp := true } }.mayTrain p = false → t.portState p = s.portState p)) ∧
      (exec (.serialSupplyChange s.sys.serialUp) s = .next s) ∧
      (s.fault.started = true → sget 0 s.fault.count ty = 1 → 0 < s.get (F.FAULT_POLICY_DECAY ty) → s.time.fRun = true →
        s.time.counting = true → ∃ t, exec (.strikeDecay ty) s = .next t ∧
          t.fault.strikes = s.fault.strikes.filterMap (fun p =>
            if p.1 / 2 ^ 20 = ty then (if p.2 ≤ 1 then none else some (p.1, p.2 - 1)) else some p) ∧
          t.fault.retired = s.fault.retired ∧ t.fault.log = s.fault.log ∧ regsBut [Reg.TRG_BUSY_SLOTS, Reg.ORB_STATUS] s t ∧
          t = { s with regs := t.regs, time := t.time, wall := t.wall, fault := t.fault, vtdc := t.vtdc, vault := t.vault } ∧
          (s.on F.ORB_STATUS_QUIET = false → t.vtdc = s.vtdc ∧ t.vault = s.vault ∧ t.rd Reg.ORB_STATUS = s.rd Reg.ORB_STATUS)) ∧
      (s.sys.run = .ready ∨ s.sys.run = .armed → s.bus.held = [] → ∃ t, exec (.faultPolicyWrite bar ty v) s = .next t ∧
        t.get (F.FAULT_POLICY_DECAY ty) = v % 2 ^ 24 ∧ t.get (F.FAULT_POLICY_LIMIT ty) = v / 2 ^ 24 % 2 ^ 8 ∧
        sget 0 t.fault.count ty = v % 2 ^ 24 ∧ t.fault.strikes = s.fault.strikes ∧ t.fault.retired = s.fault.retired ∧
        (∀ x, x ≠ ty → sget 0 t.fault.count x = sget 0 s.fault.count x) ∧
        regsBut [Reg.FAULT_POLICY ty, Reg.HALL_STATUS] s t ∧
        t = { s with regs := t.regs, fault := t.fault, hall := { s.hall with hashing := t.hall.hashing } }) ∧
      (s.sys.run = .running ∨ s.sys.run = .hold → exec (.faultPolicyWrite false ty v) s = .next (s.incBy Reg.SYS_REJECT_CNT 1)))

/-- An orbit starts at the end of the one before, marker or not (R34, R39–R41, R51): slot and F-cycle are 0, the orbit number rises, ORB_LEN takes
effect; with the BALL source locked and no marker a miss is counted, and at the limit ORBIT is lost. A marker sampled now (R36, R40, R41):
MEAS_LEN holds the spacing; while ORBIT is locked one at slot 0 clears the miss run and one elsewhere is an extra; a second high slot is WIDE and
no marker. Capture ends with the orbit of a STOP that finds the die RUNNING, or when HOLD has lasted its limit (R19–R21, R133): the die is READY,
and with no retrieval left every tile frees the entries and drop marks of the slots up to then. That a STOP which a HOLD overtook waits until the
die runs again is the model's reading of R19 (log 82). Where a command's condition fails it leaves the die as it is: log 1. The model's reading or
choice here: log 67, 78, 80, 81, 82, 83, 99, 102. -/
def Obligations.OrbitsMarkersAndTheEndOfCapture : Prop :=
  (∀ (s : State) (marker : Bool) (above below : List Nat), Awake s → s.time.fRun = true → s.time.counting = true →
      s.time.slot < s.time.len → s.time.fcyc < 64 →
      ∃ t, exec (.orbitStart marker above below) s = .next t ∧ t.time.counting = true ∧ t.time.slot = 0 ∧ t.time.fcyc = 0 ∧
        t.time.slots = s.time.slots + (s.time.len - s.time.slot) ∧
        t.time.orbit = (if s.time.orbitReset then 0 else (s.time.orbit + 1) % 2 ^ 32) ∧ t.time.len = s.get F.ORB_LEN_LEN ∧
        t.time.calLen = s.get F.ORB_CAL_LEN_LEN ∧ t.time.doneNow = [] ∧
        (s.srcBall = true → s.on F.ORB_STATUS_ORBIT_LOCK = true → marker = false → t.on F.ORB_STATUS_MISS = true ∧
          t.rd Reg.ORB_MISS_CNT = min (s.rd Reg.ORB_MISS_CNT + 1) 0xFFFFFFFF ∧
          (t.on F.ORB_STATUS_ORBIT_LOCK = decide (s.time.missRun + 1 < max 1 (s.get F.ORB_CTRL_MISS_LIMIT)))) ∧
        (s.srcBall = true → s.on F.ORB_STATUS_ORBIT_LOCK = true → marker = true →
          t.rd Reg.ORB_MISS_CNT = s.rd Reg.ORB_MISS_CNT ∧ t.on F.ORB_STATUS_ORBIT_LOCK = true)) ∧
  (∀ (s : State) (l : Nat), Awake s → s.srcBall = true → s.time.fRun = true →
      (∀ h, s.time.highAt = some h → h + 1 = s.time.slots → ∃ t, exec (.orbitMarkerSampled 0) s = .next t ∧
        t.on F.ORB_STATUS_WIDE = true ∧ regsBut [Reg.ORB_STATUS] s t ∧
        t = { s with regs := t.regs, time := { s.time with highAt := some s.time.slots } }) ∧
      (s.time.highAt = none → s.time.lastMark = some l → s.on F.ORB_STATUS_ORBIT_LOCK = true → s.time.slot = 0 →
        ∃ t, exec (.orbitMarkerSampled 0) s = .next t ∧ t.get F.ORB_MARK_MEAS_LEN = min 65535 (s.time.slots - l) ∧
          t.time.missRun = 0 ∧ t.time.lastMark = some s.time.slots ∧ regsBut [Reg.ORB_MARK] s t ∧
          t = { s with regs := t.regs, time := t.time }) ∧
      (s.time.highAt = none → s.time.lastMark = some l → s.on F.ORB_STATUS_ORBIT_LOCK = true → 0 < s.time.slot → s.time.slot < 2 ^ 14 →
        ∃ t, exec (.orbitMarkerSampled 0) s = .next t ∧ t.get F.ORB_MARK_MEAS_LEN = min 65535 (s.time.slots - l) ∧
          t.on F.ORB_STATUS_EXTRA = true ∧ t.rd Reg.ORB_EXTRA_CNT = min (s.rd Reg.ORB_EXTRA_CNT + 1) 0xFFFFFFFF ∧
          t.get F.ORB_MARK_EXTRA_SLOT = s.time.slot ∧ t.time.missRun = s.time.missRun ∧
          regsBut [Reg.ORB_MARK, Reg.ORB_STATUS, Reg.ORB_EXTRA_CNT] s t ∧ t = { s with regs := t.regs, time := t.time }) ∧
      (s.time.highAt = none → s.on F.ORB_STATUS_ORBIT_LOCK = false → s.on F.ORB_STATUS_PLL_LOCK = false →
        ∃ t, exec (.orbitMarkerSampled 0) s = .next t ∧ t.rd Reg.ORB_EXTRA_CNT = s.rd Reg.ORB_EXTRA_CNT ∧
          t.rd Reg.ORB_MISS_CNT = s.rd Reg.ORB_MISS_CNT ∧ t.time.missRun = s.time.missRun ∧
          t.time.lastMark = some s.time.slots ∧ t = { s with regs := t.regs, time := t.time })) ∧
  (∀ s : State, Awake s → s.trg.ready = [] → s.asm.frags = [] → s.asm.waits = [] → s.asm.groupFrom = none →
      (∀ x ∈ s.tiles, x.2.resp = []) →
      (s.sys.stopPend = true → s.sys.run = .running → s.time.fRun = true → s.time.counting = true →
        s.time.slot < s.time.len → s.time.fcyc < 64 →
        ∃ t, exec .stopOrbitEnd s = .next t ∧ t.sys.run = .ready ∧ t.sys.readyBall = true ∧ t.sys.stopPend = false ∧ t.sys.stops = [] ∧
          t.time.slot = s.time.len - 1 ∧ t.time.fcyc = 63 ∧ t.trg.frozen = false ∧ t.on F.TRG_STATUS_MT_FROZEN = (s.on F.TRG_STATUS_MT_FROZEN && !s.trg.frozen) ∧
          (∀ k, k < 256 → (t.tile k).buf.all (fun e => decide (t.time.slots < e.slots)) = true ∧
            (t.tile k).drops.all (fun d => decide (t.time.slots < d)) = true)) ∧
      (s.sys.stopPend = true → s.sys.run = .hold → exec .stopOrbitEnd s = .next s) ∧
      (s.sys.run = .hold → 0 < s.get F.SYS_HOLD_LIMIT_LIMIT → s.get F.SYS_HOLD_LIMIT_LIMIT ≤ s.sys.holdOrbits →
        ∃ t, exec .holdLimitExpire s = .next t ∧ t.sys.run = .ready ∧ t.sys.readyBall = true ∧ t.time = s.time ∧
          (∀ k, k < 256 → (t.tile k).buf.all (fun e => decide (t.time.slots < e.slots)) = true ∧
            (t.tile k).drops.all (fun d => decide (t.time.slots < d)) = true)) ∧
      (s.sys.run = .hold → s.get F.SYS_HOLD_LIMIT_LIMIT = 0 → exec .holdLimitExpire s = .next s))

/-- The clock is lost and returns (R21, R38, R44, R45): locks clear, BCLK_LOST and HOLDOVER are set, a RUNNING die enters HOLD, the machine time goes
on; the return only starts the PLL. Shaft timing times out (R42, R45, R58): the phase loop freezes, HOLDOVER is set, a RUNNING die enters HOLD,
and the counters wait to be reloaded; a parent whose unit is retired has no further strike. A marker in time is no loss. A marker block on the
port in use (R42, R58, R62, R296, R297): PATHV and the parent's CHAIN are taken, its age starts anew; one of a wrong ORBIT_LEN sets LEN_MISMATCH
and is a loss of timing; after a loss one leads the loop to HUNT, and in HUNT with a round trip measured the counters are loaded and the loop
acquires; in ALIGNED CHAIN is the parent's and the die's own. Where a command's condition fails it leaves the die as it is: log 1. The model's
reading or choice here: log 58, 62, 79. -/
def Obligations.TimingIsLostHeldAndFollowed : Prop :=
  (∀ s : State, Awake s → s.srcBall = true ∨ s.srcRef = true →
      (∃ t, exec .bclkLost s = .next t ∧ t.on F.ORB_STATUS_PLL_LOCK = false ∧
        t.on F.ORB_STATUS_ORBIT_LOCK = false ∧ t.on F.ORB_STATUS_BCLK_LOST = true ∧ t.on F.ORB_STATUS_HOLDOVER = true ∧
        t.sys.run = (if s.sys.run = .running then .hold else s.sys.run) ∧ t.on F.TIU_STATUS_GAP = true ∧ t.tiu.openAt = none ∧
        t.time = { s.time with missRun := 0, relockRun := 0 } ∧ regsBut [Reg.ORB_STATUS, Reg.TIU_STATUS] s t ∧
        t = { s with regs := t.regs, sys := t.sys, time := t.time, tiu := t.tiu }) ∧
      (s.on F.ORB_STATUS_PLL_LOCK = false →
        exec .bclkReturn s = .next { s with time := { s.time with relockRun := 0, highAt := none } })) ∧
  (∀ s : State, Awake s → s.srcShaft = true →
      (3 ≤ s.time.markerAge → s.pa = paAligned ∨ s.pa = paDegraded ∨ s.pa = paAcquire → s.shaftPort = none →
        ∃ t, exec .shaftMarkerTimeout s = .next t ∧ t.pa = paFrozen ∧ t.on F.ORB_STATUS_HOLDOVER = true ∧
          t.time = { s.time with reload := true } ∧ t.sys.run = (if s.sys.run = .running then .hold else s.sys.run) ∧
          regsBut [Reg.ORB_STATUS, Reg.ORB_PA_STATUS] s t ∧ t = { s with regs := t.regs, sys := t.sys, time := t.time, phase := t.phase }) ∧
      (∀ p, 3 ≤ s.time.markerAge → s.pa = paAligned ∨ s.pa = paDegraded ∨ s.pa = paAcquire → s.shaftPort = some p →
        ∃ t, exec .shaftMarkerTimeout s = .next t ∧ t.pa = paFrozen ∧ t.on F.ORB_STATUS_HOLDOVER = true ∧
          t.time = { s.time with reload := true } ∧ t.sys.run = (if s.sys.run = .running then .hold else s.sys.run) ∧
          (s.isRetired 9 (s.parentOf p) = true → regsBut [Reg.ORB_STATUS, Reg.ORB_PA_STATUS] s t ∧
            t = { s with regs := t.regs, sys := t.sys, time := t.time, phase := t.phase })) ∧
      (s.time.markerAge < 3 → exec .shaftMarkerTimeout s = .next s)) ∧
  (∀ (s : State) (p : Nat) (m : MarkerMsg), Awake s → s.isRoot = false → s.srcShaft = true → s.mainShaft = some p →
      s.shaftPort = some p → 0 < m.len → m.pathv = 3 →
      (m.holdover = false → m.len ≠ s.get F.ORB_LEN_LEN → s.pa ≠ paReference → s.pa ≠ paFrozen →
        ∃ t, exec (.markerBlockReceived p m 0) s = .next t ∧ t.get F.TREE_STATUS_PATHV = 3 ∧ t.on F.ORB_STATUS_LEN_MISMATCH = true ∧
          t.pa = paFrozen ∧ t.on F.ORB_STATUS_HOLDOVER = true ∧ t.time = { s.time with markerAge := 0, reload := true } ∧
          t.get F.ORB_PA_STATUS_CHAIN = min 4095 (m.chain + s.get F.ORB_PA_QUAL_QUAL) ∧ t.phase.parent = m.chain ∧
          t.sys.run = (if s.sys.run = .running then .hold else s.sys.run) ∧ (t.port p).heard = some m.orbit ∧
          (s.isRetired 9 (s.parentOf p) = true → regsBut [Reg.TREE_STATUS, Reg.ORB_STATUS, Reg.ORB_PA_STATUS] s t ∧
            t = { s with regs := t.regs, sys := t.sys, time := t.time, phase := t.phase, ports := t.ports })) ∧
      (m.holdover = false → m.len = s.get F.ORB_LEN_LEN → s.pa = paFrozen → ∃ t, exec (.markerBlockReceived p m 0) s = .next t ∧
        t.pa = paHunt ∧ t.get F.TREE_STATUS_PATHV = 3 ∧ t.time = { s.time with markerAge := 0 } ∧
        regsBut [Reg.TREE_STATUS, Reg.ORB_PA_STATUS] s t ∧
        t = { s with regs := t.regs, time := t.time, phase := t.phase, ports := t.ports }) ∧
      (m.holdover = false → m.len = s.get F.ORB_LEN_LEN → s.pa = paHunt → s.on F.ORB_PA_CTRL_FREEZE = false → 0 < (s.port p).rttCnt →
        s.time.fRun = true → s.on F.ORB_STATUS_PLL_LOCK = true → ∃ t, exec (.markerBlockReceived p m 0) s = .next t ∧
          t.pa = paAcquire ∧ t.time.counting = true ∧ t.time.reload = false ∧ t.time.len = m.len ∧
          t.time.slot = s.sinceSlot0 p m.ofs / 64 % m.len ∧ t.time.fcyc = s.sinceSlot0 p m.ofs % 64 ∧
          t.time.orbit = (m.orbit + s.sinceSlot0 p m.ofs / 64 / m.len) % 2 ^ 32 ∧ t.phase.parent = m.chain) ∧
      (m.holdover = false → m.len = s.get F.ORB_LEN_LEN → s.pa = paAligned → s.get F.WALL_SERVO_SRC ≠ 1 →
        ∃ t, exec (.markerBlockReceived p m 0) s = .next t ∧
          t.get F.ORB_PA_STATUS_CHAIN = min 4095 (m.chain + s.get F.ORB_PA_QUAL_QUAL) ∧ t.pa = paAligned ∧ t.wall = s.wall ∧
          regsBut [Reg.TREE_STATUS, Reg.ORB_PA_STATUS] s t))

/-- The clock source and the orbit length are written in READY (R35, R37): a changed source or length makes the PLL re-lock while the slot counter
runs on; a new length governs the next orbit, or at once where the counters stand; a word that changes neither, or names the reserved source,
leaves the clock alone. WALL_CMD sets WALL at the next F-cycle or at the next PPS edge (R73); in an orbit's last F-cycle the next one is the next
orbit's first, and without the F-clock the first that comes. The model's reading or choice here: log 61. -/
def Obligations.ClockAndWallWritesTakeEffect : Prop :=
  ∀ (s u : State) (bar : Bool) (v : Nat), Awake s → s.sys.run.isReady = true → u = s.elapse 1 →
    (s.sys.run = .ready → (v % 4 = 0 ∧ s.isRoot = true ∨ v % 4 = 1 ∧ s.isRoot = false ∨
        v % 4 = 2 ∧ (s.isRoot = true ∨ s.on F.TREE_ID_NUMBERED = false) ∧ s.clasped = false) → v % 4 ≠ s.get F.ORB_CLK_SRC →
      ∃ t, exec (.orbClkWrite bar v) s = .next t ∧ t.get F.ORB_CLK_SRC = v % 4 ∧ t.on F.ORB_STATUS_PLL_LOCK = false ∧
        t.pa = (if v % 4 = 1 then (if s.pa = paReference then paHunt else s.pa) else paReference) ∧
        t.on F.TIU_STATUS_GAP = true ∧ t.tiu = { s.tiu with openAt := none } ∧
        t.time.slot = s.time.slot ∧ t.time.fcyc = s.time.fcyc ∧ t.time.orbit = s.time.orbit ∧
        t.time.counting = s.time.counting ∧ t.time.fRun = s.time.fRun ∧
        regsBut [Reg.ORB_CLK, Reg.ORB_STATUS, Reg.ORB_PA_STATUS, Reg.TIU_STATUS, Reg.HALL_STATUS] s t ∧
        t = { s with regs := t.regs, time := t.time, tiu := t.tiu, hall := { s.hall with hashing := t.hall.hashing }, bus := t.bus }) ∧
    (s.sys.run = .ready → (v % 4 = 0 ∧ s.isRoot = true ∨ v % 4 = 1 ∧ s.isRoot = false ∨
        v % 4 = 2 ∧ (s.isRoot = true ∨ s.on F.TREE_ID_NUMBERED = false) ∧ s.clasped = false ∨ v % 4 = 3) →
      (v % 4 = 3 ∨ v % 4 = s.get F.ORB_CLK_SRC) →
      ∃ t, exec (.orbClkWrite bar v) s = .next t ∧ regsBut [] s t ∧ t = { s with regs := t.regs, bus := t.bus }) ∧
    (s.sys.run = .ready → max 512 (v % 2 ^ 14) ≠ s.get F.ORB_LEN_LEN →
      ∃ t, exec (.orbLenWrite bar v) s = .next t ∧ t.get F.ORB_LEN_LEN = max 512 (v % 2 ^ 14) ∧
        t.time.len = (if s.time.counting then s.time.len else max 512 (v % 2 ^ 14)) ∧
        t.on F.ORB_STATUS_PLL_LOCK = false ∧ t.on F.TIU_STATUS_GAP = true ∧ t.tiu = { s.tiu with openAt := none } ∧
        t.time.slot = s.time.slot ∧ t.time.fcyc = s.time.fcyc ∧ t.time.orbit = s.time.orbit ∧
        t.time.counting = s.time.counting ∧ t.time.fRun = s.time.fRun ∧
        regsBut [Reg.ORB_LEN, Reg.ORB_STATUS, Reg.ORB_PA_STATUS, Reg.TIU_STATUS, Reg.HALL_STATUS] s t ∧
        t = { s with regs := t.regs, time := t.time, tiu := t.tiu, hall := { s.hall with hashing := t.hall.hashing }, bus := t.bus }) ∧
    (s.sys.run = .ready → max 512 (v % 2 ^ 14) = s.get F.ORB_LEN_LEN →
      ∃ t, exec (.orbLenWrite bar v) s = .next t ∧ regsBut [] s t ∧ t = { s with regs := t.regs, bus := t.bus }) ∧
    (s.get F.WALL_SERVO_SRC ≠ 1 → s.time.fRun = false → ∃ t, exec (.wallSetNow bar) s = .next t ∧
      t.wall = { s.wall with setNow := true } ∧ regsBut [] s t ∧ t = { s with regs := t.regs, wall := t.wall, bus := t.bus }) ∧
    (s.get F.WALL_SERVO_SRC ≠ 1 → s.time.fRun = true → (s.time.counting = true → s.time.slot * 64 + s.time.fcyc + 1 < s.time.len * 64) →
      ∃ t, exec (.wallSetNow bar) s = .next t ∧
        t.wall = { u.wall with
          t := (((s.rd Reg.WALL_SET + s.rd (Reg.WALL_SET + 4) % 2 ^ 16 * 2 ^ 32) * 1000000000 + s.rd (Reg.WALL_SET + 8) % 2 ^ 30) * 2 ^ 32) % wallModulus } ∧
        t.time = u.time ∧ u.time.now = s.time.now + 1 ∧ t.on F.WALL_STATUS_STEPPED = true ∧
        regsBut [Reg.WALL_STATUS] u t ∧ t = { u with regs := t.regs, wall := t.wall, bus := t.bus }) ∧
    (s.get F.WALL_SERVO_SRC ≠ 1 → s.time.fRun = true → s.time.counting = true → s.time.len * 64 ≤ s.time.slot * 64 + s.time.fcyc + 1 →
      ∃ t, exec (.wallSetNow bar) s = .next t ∧ t.time = { s.time with later := s.time.later ++ [.wallSet] } ∧ regsBut [] s t ∧
        t = { s with regs := t.regs, time := t.time, bus := t.bus }) ∧
    (s.get F.WALL_SERVO_SRC ≠ 1 → ∃ t, exec (.wallSetAtPps bar) s = .next t ∧
      t.wall = { s.wall with setAtPps := true } ∧ regsBut [] s t ∧ t = { s with regs := t.regs, wall := t.wall, bus := t.bus })

/-- A due calendar entry fires at its slot (R46–R52): RUN_START takes an ARMED die to RUNNING with a full accept bucket and capture from this slot,
and outside a window stops quiet-only work; QUIET_BEGIN opens the window to the orbit's end and applies the pending offset (R77); QUIET_END makes
this slot the window's last; an entry that is not due does nothing. `u` is the die at the entry's slot. The entries that act in RUNNING and HOLD
(R47, R49, R52, R85, R112, R208, R221, R345, R432, R436): each fires when due and does its block's work with the entry's argument; in other run
states none does. `u` is the die at the entry's slot. Where a command's condition fails it leaves the die as it is: log 1. That time moves on to
the moment an event carries is log 7. Outputs are appended to `out`: log 8. The model's reading or choice here: log 11, 35. -/
def Obligations.CalendarEntriesFireAtTheirSlot : Prop :=
  (∀ (s u : State) (i : Nat), Awake s → s.atEntry i = some u →
      (s.calDue i 1 = true → s.sys.run = .armed → 0 ≤ toSigned 32 (ofSigned 32 ((u.time.orbit : Int) - u.rd Reg.ORB_RUN_ORBIT)) →
        ∃ t, exec (.calRunStart i) s = .next t ∧ t.sys.run = .running ∧ t.sys.readyBall = true ∧
          t.time.runStart = some u.time.slots ∧ t.trg.tokens = max 1 (u.get F.TRG_RATE_BURST) ∧ t.time.doneNow = i :: u.time.doneNow ∧
          (calEvery (s.calWord i) = 15 → t.time.fired = i :: u.time.fired) ∧ t.regs = u.regs ∧
          (u.quietAt u.time.slots = true ∨ u.on F.VTDC_STATUS_BULK_ACTIVE = false → t.vtdc = u.vtdc) ∧
          (u.quietAt u.time.slots = false → u.on F.VTDC_STATUS_BULK_ACTIVE = true → ∀ p, p < 32768 → (t.pair p).stopped = true) ∧
          (u.quietAt u.time.slots = true ∨ u.vault.repair = none → t.vault = u.vault) ∧
          t = { u with sys := t.sys, time := t.time, trg := t.trg, facet := t.facet, asm := t.asm, tally := t.tally, vtdc := t.vtdc, vault := t.vault }) ∧
      (s.calDue i 1 = true → s.sys.run ≠ .armed → exec (.calRunStart i) s = .next u) ∧
      (s.calDue i 2 = true → u.locked = true → u.on F.ORB_STATUS_QUIET = false → ∃ t, exec (.quietBegin i) s = .next t ∧
        t.on F.ORB_STATUS_QUIET = true ∧ t.quietAt u.time.slots = decide (0 < u.time.len - u.time.slot) ∧ t.time.doneNow = i :: u.time.doneNow ∧
        t.time.quiets = (u.time.slots, u.time.slots + (u.time.len - u.time.slot)) :: u.time.quiets.take 1 ∧
        (u.on F.FE_STATUS_OFS_PEND = true → t.fe.ofsNow = u.get F.FE_THR_OFS_OFS ∧ t.on F.FE_STATUS_OFS_PEND = false) ∧
        t.time.slots = u.time.slots ∧ t.time.fcyc = u.time.fcyc ∧
        (u.vault.burst = 0 → u.vault.repair = none → regsBut [Reg.ORB_STATUS, Reg.FE_STATUS] u t ∧
          t = { u with regs := t.regs, time := t.time, fe := t.fe })) ∧
      (s.calDue i 2 = true → u.locked = true → u.on F.ORB_STATUS_QUIET = true → ∃ t, exec (.quietBegin i) s = .next t ∧
        t = { u with time := t.time } ∧ t.time.slots = u.time.slots ∧ t.time.fcyc = u.time.fcyc ∧ t.time.doneNow = i :: u.time.doneNow ∧
        (0 < u.time.len - u.time.slot → t.quietAt u.time.slots = true)) ∧
      (s.calDue i 3 = true → u.locked = true → ∃ t, exec (.quietEnd i) s = .next t ∧ t = { u with time := t.time } ∧
        t.time.slots = u.time.slots ∧ t.time.fcyc = u.time.fcyc ∧ t.time.doneNow = i :: u.time.doneNow ∧
        (∀ w ∈ u.time.quiets.head?, u.on F.ORB_STATUS_QUIET = true → t.time.quiets = (w.1, u.time.slots + 1) :: u.time.quiets.tail) ∧
        (u.on F.ORB_STATUS_QUIET = false → t.time.quiets = u.time.quiets)) ∧
      (s.calDue i 2 = true → u.locked = false → exec (.quietBegin i) s = .next u) ∧
      (s.calDue i 3 = true → u.locked = false → exec (.quietEnd i) s = .next u) ∧
      (s.calDue i 1 = false → exec (.calRunStart i) s = .next s) ∧
      (s.calDue i 2 = false → exec (.quietBegin i) s = .next s) ∧
      (s.calDue i 3 = false → exec (.quietEnd i) s = .next s)) ∧
  (∀ (s u : State) (i : Nat), Awake s → s.atEntry i = some u →
      (s.calDue i 4 = true → s.sys.run.capturing = true → u.listens = true →
        ∃ t, exec (.calInject i) s = .next t ∧
          t.fe.wins = u.fe.wins ++ [{
            first := u.time.slots, last := u.time.slots + u.inj F.FE_INJ_CTRL_SPAN,
            group := calArg (s.calWord i), stride := u.inj F.FE_INJ_CTRL_STRIDE, dead := decide (u.inj F.FE_INJ_CTRL_DEAD_CHECK = 1) }] ∧
          (u.fe.wins = [] → t.out = u.out ++ [.inject (calArg (s.calWord i)) (u.inj F.FE_INJ_CTRL_STRIDE)
            (u.inj F.FE_INJ_CTRL_CODE * u.fuse.injLsb) (u.on F.FE_CTRL_POL) u.time.slots (u.inj F.FE_INJ_CTRL_FCYC)]) ∧
          t.time.doneNow = i :: u.time.doneNow ∧ regsBut [] u t ∧
          t = { u with time := t.time, fe := t.fe, trg := { u.trg with injs := t.trg.injs, tests := t.trg.tests }, out := t.out }) ∧
      (s.calDue i 4 = true → s.sys.run.capturing = true → u.listens = false → exec (.calInject i) s = .next (u.calMark i)) ∧
      (s.calDue i 5 = true → s.sys.run.capturing = true → ∃ t, exec (.calCounterReset i) s = .next t ∧
        (∀ g, g < 4 → bitsOf (calArg (s.calWord i)) g 1 = 1 → (counterGroup g).all (fun a => decide (t.rd a = 0)) = true) ∧
        (∀ a, (∀ g, g < 4 → bitsOf (calArg (s.calWord i)) g 1 = 1 → a ∉ counterGroup g) → t.rd a = u.rd a) ∧
        t = { u with regs := t.regs, time := t.time }) ∧
      (s.calDue i 6 = true → s.sys.run.capturing = true → u.quiet = true → u.on F.VTDC_STATUS_BULK_ACTIVE = false → ∃ t,
        exec (.calVtdc i) s = .next t ∧ t.on F.VTDC_STATUS_BULK_ACTIVE = true ∧ (∀ p, (t.pair p).stopped = false) ∧
        regsBut [Reg.VTDC_STATUS] u t ∧
        t = { u with regs := t.regs, time := t.time, vtdc := { u.vtdc with windows := 0, dflt := t.vtdc.dflt, pairs := t.vtdc.pairs } }) ∧
      (s.calDue i 6 = true → s.sys.run.capturing = true → u.quiet = false → exec (.calVtdc i) s = .next (u.calMark i)) ∧
      (s.calDue i 7 = true → s.sys.run.capturing = true → (u.get F.MON_CAL_STATUS_STATE = 1 ∨ u.get F.MON_CAL_STATUS_STATE = 2) →
        ∃ t, exec (.calMon i) s = .next t ∧
          t.rd Reg.MON_CAL_SKIP_CNT = min (u.rd Reg.MON_CAL_SKIP_CNT + (if calArg (s.calWord i) % 4 = 0 ∨ calArg (s.calWord i) % 4 = 3 then 2 else 1)) 0xFFFFFFFF ∧
          regsBut [Reg.MON_CAL_SKIP_CNT] u t ∧ t = { u with regs := t.regs, time := t.time }) ∧
      (s.calDue i 7 = true → s.sys.run.capturing = true → (u.get F.MON_CAL_STATUS_STATE = 0 ∨ u.get F.MON_CAL_STATUS_STATE = 3) →
        ∃ t, exec (.calMon i) s = .next t ∧ t.get F.MON_CAL_STATUS_STATE = 1 ∧
          (calArg (s.calWord i) % 4 = 1 → t.mon.calQ = [(1, 0)]) ∧ (calArg (s.calWord i) % 4 = 2 → t.mon.calQ = [(4, 0)]) ∧
          (calArg (s.calWord i) % 4 = 0 ∨ calArg (s.calWord i) % 4 = 3 → t.mon.calQ = [(1, 0), (4, 0)]) ∧
          regsBut [Reg.MON_CAL_STATUS] u t ∧ t = { u with regs := t.regs, time := t.time, mon := { u.mon with calQ := t.mon.calQ, calOdr := u.get F.MON_CAL_CMD_ODR } }) ∧
      (s.calDue i 8 = true → s.sys.run.capturing = true → u.scrubs = true → u.quietWork = false → ∃ t,
        exec (.calScrubBurst i) s = .next t ∧ t.vault = { u.vault with burst := u.vault.burst + calArg (s.calWord i) * 64 } ∧
        t = { u with time := t.time, vault := t.vault }) ∧
      (s.calDue i 9 = true → s.sys.run.capturing = true → s.isRoot = false → u.tally.dump = none → ∃ t,
        exec (.calDump i) s = .next t ∧ t.tally = { u.tally with dump := some {
          sel := if calArg (s.calWord i) % 16 = 0 then u.tallyEnabled else (calArg (s.calWord i) % 16) &&& u.tallyEnabled
          keep := decide (bitsOf (calArg (s.calWord i)) 4 1 = 1), id := u.rd Reg.TALLY_DUMP_ID, at' := .first } } ∧
        t.on F.TALLY_STATUS_DUMP_ACTIVE = true ∧ t.rd Reg.TALLY_DUMP_ID = (u.rd Reg.TALLY_DUMP_ID + 1) % 2 ^ 32 ∧
        regsBut [Reg.TALLY_DUMP_ID, Reg.TALLY_STATUS] u t ∧ t = { u with regs := t.regs, time := t.time, tally := t.tally }) ∧
      (s.calDue i 9 = true → s.sys.run.capturing = true → s.isRoot = false → u.tally.dump.isSome = true → ∃ t,
        exec (.calDump i) s = .next t ∧ t.on F.TALLY_STATUS_DUMP_SKIP = true ∧
        t.rd Reg.TALLY_DUMP_SKIP_CNT = min (u.rd Reg.TALLY_DUMP_SKIP_CNT + 1) 0xFFFFFFFF ∧
        regsBut [Reg.TALLY_DUMP_SKIP_CNT, Reg.TALLY_STATUS] u t ∧ t = { u with regs := t.regs, time := t.time }) ∧
      (s.calDue i 0xA = true → s.sys.run.capturing = true → s.clasped = true → ∃ t, exec (.calClaspDigest i) s = .next t ∧
        t = (u.calMark i).sendState) ∧
      (s.calDue i 0xC = true → s.sys.run.capturing = true → u.mon.scope.on = true → ∃ t, exec (.calScopeTrigger i) s = .next t ∧
        t.mon = { u.mon with scope := { u.mon.scope with cal := true } } ∧ t = { u with time := t.time, mon := t.mon }) ∧
      (s.sys.run.capturing = false → (s.calDue i 4 = true → exec (.calInject i) s = .next u) ∧
        (s.calDue i 5 = true → exec (.calCounterReset i) s = .next u) ∧ (s.calDue i 6 = true → exec (.calVtdc i) s = .next u) ∧
        (s.calDue i 7 = true → exec (.calMon i) s = .next u) ∧ (s.calDue i 8 = true → exec (.calScrubBurst i) s = .next u) ∧
        (s.calDue i 9 = true → exec (.calDump i) s = .next u) ∧ (s.calDue i 0xA = true → exec (.calClaspDigest i) s = .next u) ∧
        (s.calDue i 0xC = true → exec (.calScopeTrigger i) s = .next u)))

/-- The two-way exchange (R53–R55, R295, R298): one PROBE in each 64 slots of an orbit, with its t1, while fewer than four are outstanding; the parent
answers with REPLY2 and REPLY3, its stamps referred to its balls; REPLY2 gives t2 and REPLY3 the round trip and the offset, which is used unless
the child's phase moved meanwhile; an exchange without an answer is counted lost. `u` is the die at the moment, `v` at the second answer's. WALL's
outside sources (R69–R73, R358): a PPS edge with SET_AT_PPS pending loads WALL from WALL_SET, and that it makes no servo update is the model's
choice (log 86); one outside the window of a locked servo is only counted; any other updates the servo, with a step at the first update or beyond
the step threshold; a source silent for 2 s, or 4 periods, is lost once and LOCKED clears; a PTM request leaves once a period, and its response
updates the servo. `u` is the die at the edge. Where a command's condition fails it leaves the die as it is: log 1. That time moves on to the
moment an event carries is log 7. Outputs are appended to `out`: log 8. The model's reading or choice here: log 9, 61, 84, 85, 86, 87. -/
def Obligations.ExchangesAndWallSourcesMeasure : Prop :=
  (∀ (s u v : State) (p seq d sub d3 t2 t3 : Nat) (e : Exch), Awake s →
      (s.exchanges p = true → s.atF (s.fNow + d) = some u → (u.phase.exch.filter (fun e => decide (e.port = p))).length < 4 →
        u.exchangeDue p = true →
        ∃ t, exec (.exchangeStart p d sub) s = .next t ∧ t.phase = { u.phase with
          nextSeq := (u.phase.nextSeq + 1) % 256
          exch := u.phase.exch ++ [{ seq := u.phase.nextSeq, port := p, t1 := u.stampHere sub, began := u.time.slots }] } ∧
          (t.port p).probed = some u.exchangePeriod ∧
          t = (({ u with phase := t.phase }).setPort p { u.port p with probed := some u.exchangePeriod }).block p 0x87 u.phase.nextSeq) ∧
      (s.exchanges p = true → s.atF (s.fNow + d) = some u →
        (4 ≤ (u.phase.exch.filter (fun e => decide (e.port = p))).length ∨ u.exchangeDue p = false) →
        exec (.exchangeStart p d sub) s = .next u) ∧
      (s.exchanges p = false → exec (.exchangeStart p d sub) s = .next s) ∧
      (s.portKind p = 3 → s.time.fRun = true → 0 < s.portState p → s.atF (s.fNow + d) = some u →
        (u.block p 0x88 (seq % 256 + u.stampAtBall p sub * 256)).atF (u.fNow + d3) = some v → ∃ t,
        exec (.probeReceived p seq d sub d3 t3) s = .next t ∧ t = v.block p 0x89 (seq % 256 + v.stampAtBall p t3 * 256)) ∧
      (s.portKind p ≠ 3 ∨ s.time.fRun = false ∨ s.portState p = 0 → exec (.probeReceived p seq d sub d3 t3) s = .next s) ∧
      (∃ t, exec (.reply2Received p seq t2) s = .next t ∧ t = { s with phase := { s.phase with
        exch := s.phase.exch.map (fun e => if e.port = p ∧ e.seq = seq then { e with t2 := some t2 } else e) } }) ∧
      (s.exchOf p seq = some e → e.t2 = some t2 → s.atF (s.fNow + d) = some u → ∃ t, exec (.reply3Received p seq t3 d sub) s = .next t ∧
        t.exchOf p seq = none ∧
        (t.port p).rttSum = (u.port p).rttSum + toSigned 32 (ofSigned 32 (stampDiff t2 e.t1 + stampDiff (u.stampHere sub) t3)) ∧
        (t.port p).rttCnt = (u.port p).rttCnt + 1 ∧
        (u.shaftPort = some p → t.rd Reg.ORB_PA_RTT = ofSigned 32 (toSigned 32 (ofSigned 32 (stampDiff t2 e.t1 + stampDiff (u.stampHere sub) t3)))) ∧
        (u.shaftPort = some p → u.moved e = false → t.phase.altThetas = u.phase.altThetas ∧ t.phase.thetas = u.phase.thetas ++
          [16 * (stampDiff (u.stampHere sub) t3 - stampDiff t2 e.t1) - u.asymOf p]) ∧
        (u.shaftPort ≠ some p → u.moved e = false → t.phase.thetas = u.phase.thetas ∧ t.phase.altThetas = u.phase.altThetas ++
          [16 * (stampDiff (u.stampHere sub) t3 - stampDiff t2 e.t1) - u.asymOf p]) ∧
        (u.moved e = true → t.phase.thetas = u.phase.thetas ∧ t.phase.altThetas = u.phase.altThetas) ∧
        regsBut [Reg.ORB_PA_RTT] u t ∧ t = { u with regs := t.regs, phase := t.phase, ports := t.ports }) ∧
      (s.exchOf p seq = some e → s.atSlot (e.began + 256) = some u → ∃ t, exec (.probeTimeout p seq) s = .next t ∧
        t.exchOf p seq = none ∧ t.rd (Reg.PORT_PROBE_LOST_CNT p) = min (u.rd (Reg.PORT_PROBE_LOST_CNT p) + 1) 0xFFFFFFFF ∧
        regsBut [Reg.PORT_PROBE_LOST_CNT p] u t ∧ t = { u with regs := t.regs, phase := t.phase }) ∧
      (s.exchOf p seq = none → exec (.probeTimeout p seq) s = .next s ∧ exec (.reply3Received p seq t3 d sub) s = .next s)) ∧
  (∀ (s u : State) (d w sec ns : Nat), Awake s →
      (s.time.fRun = true → s.atF (s.fNow + d) = some u → u.wall.setAtPps = true → ∃ t, exec (.ppsEdge d) s = .next t ∧
        t.wall.t = (((s.rd Reg.WALL_SET + s.rd (Reg.WALL_SET + 4) % 2 ^ 16 * 2 ^ 32) * 1000000000 + s.rd (Reg.WALL_SET + 8) % 2 ^ 30) * 2 ^ 32) % wallModulus ∧
        t.wall = { u.wall with t := t.wall.t, setAtPps := false, sinceAcc := 0 } ∧ t.on F.WALL_STATUS_STEPPED = true ∧
        regsBut [Reg.WALL_STATUS] u t ∧ t = { u with regs := t.regs, wall := t.wall }) ∧
      (s.time.fRun = true → s.atF (s.fNow + d) = some u → u.wall.setAtPps = false → s.get F.WALL_SERVO_SRC = 2 →
        s.on F.WALL_STATUS_LOCKED = true → s.get F.WALL_PPS_WIN_WIN * 4294967296 < u.ppsOffset.natAbs → ∃ t,
        exec (.ppsEdge d) s = .next t ∧ t.rd Reg.WALL_PPS_REJ_CNT = min (u.rd Reg.WALL_PPS_REJ_CNT + 1) 0xFFFFFFFF ∧
        regsBut [Reg.WALL_PPS_REJ_CNT] u t ∧ t = { u with regs := t.regs }) ∧
      (s.time.fRun = true → s.atF (s.fNow + d) = some u → u.wall.setAtPps = false → s.get F.WALL_SERVO_SRC = 2 →
        (s.on F.WALL_STATUS_LOCKED = false ∨ u.ppsOffset.natAbs ≤ s.get F.WALL_PPS_WIN_WIN * 4294967296) → ∃ t, exec (.ppsEdge d) s = .next t ∧
          ((u.wall.fresh = true ∨ s.get F.WALL_STEP_THR_THR * 4294967296 < u.ppsOffset.natAbs) →
            (t.wall.t : Int) = ((u.wall.t : Int) - u.ppsOffset) % (wallModulus : Int) ∧ t.on F.WALL_STATUS_STEPPED = true ∧
            t.wall.integ = 0 ∧ t.rd Reg.WALL_ADJ = u.rd Reg.WALL_ADJ) ∧
          (u.wall.fresh = false → u.ppsOffset.natAbs ≤ s.get F.WALL_STEP_THR_THR * 4294967296 → t.wall.t = u.wall.t) ∧
          t.wall.fresh = false ∧ t.wall.sinceAcc = 0 ∧ t.wall.srcLost = false ∧ t.wall.lastUpd = some u.time.now ∧
          t.rd Reg.WALL_OFFSET = ofSigned 32 (roundDiv u.ppsOffset (2 ^ 24)) ∧
          regsBut [Reg.WALL_OFFSET, Reg.WALL_STATUS, Reg.WALL_ADJ] u t ∧ t = { u with regs := t.regs, wall := t.wall }) ∧
      (s.time.fRun = true → s.atF (s.fNow + d) = some u → u.wall.setAtPps = false → s.get F.WALL_SERVO_SRC ≠ 2 →
        exec (.ppsEdge d) s = .next u) ∧
      (s.time.fRun = false → exec (.ppsEdge d) s = .next s) ∧
      (((s.get F.WALL_SERVO_SRC = 2 ∧ 2 * secUnit ≤ s.wall.sinceAcc) ∨ (s.get F.WALL_SERVO_SRC = 3 ∧ 4 * s.ptmPeriod ≤ s.wall.ptmHeard)) →
        s.wall.srcLost = false → ∃ t,
        exec .wallSrcLost s = .next t ∧ t.on F.WALL_STATUS_SRC_LOST = true ∧ t.on F.WALL_STATUS_LOCKED = false ∧
        t.wall = { s.wall with good := 0, fresh := true, srcLost := true } ∧ t.rd Reg.WALL_ADJ = s.rd Reg.WALL_ADJ ∧
        regsBut [Reg.WALL_STATUS, Reg.FAULT_ALERT_SEQ, Reg.FAULT_LOG_NEXT, Reg.FAULT_ALERT_DROP_CNT, Reg.FAULT_STATUS] s t ∧
        t = { s with regs := t.regs, wall := t.wall, fault := t.fault, buf := t.buf }) ∧
      (((s.get F.WALL_SERVO_SRC = 2 → s.wall.sinceAcc < 2 * secUnit) ∧ (s.get F.WALL_SERVO_SRC = 3 → s.wall.ptmHeard < 4 * s.ptmPeriod) ∨
        s.wall.srcLost = true) → exec .wallSrcLost s = .next s) ∧
      (s.isRoot = true → s.get F.WALL_SERVO_SRC = 3 → s.on F.HIF_STATUS_PTM_EN = true → s.wall.ptmAge.all (fun n => decide (s.ptmPeriod ≤ n)) = true →
        exec .ptmRequest s = .next { s with wall := { s.wall with ptmOut := some s.wall.t, ptmAge := some 0 }, out := s.out ++ [.ptm] }) ∧
      (s.wall.ptmAge.any (fun n => decide (n < s.ptmPeriod)) = true → exec .ptmRequest s = .next s) ∧
      (s.wall.ptmOut = none → exec (.ptmResponse sec ns) s = .next s) ∧
      (s.wall.ptmOut = some w → s.get F.WALL_SERVO_SRC = 3 → ∃ t, exec (.ptmResponse sec ns) s = .next t ∧
        t.wall.ptmOut = none ∧ t.wall.ptmHeard = 0 ∧ t.wall.fresh = false ∧ t.wall.srcLost = false ∧
        (s.wall.fresh = true → (t.wall.t : Int) = ((s.wall.t : Int) - ((w : Int) - (sec * 1000000000 + ns) * 4294967296)) % (wallModulus : Int) ∧
          t.on F.WALL_STATUS_STEPPED = true) ∧
        regsBut [Reg.WALL_OFFSET, Reg.WALL_STATUS, Reg.WALL_ADJ] s t ∧ t = { s with regs := t.regs, wall := t.wall }) ∧
      (s.wall.ptmOut = some w → s.get F.WALL_SERVO_SRC ≠ 3 → exec (.ptmResponse sec ns) s =
        .next { s with wall := { s.wall with ptmOut := none, ptmHeard := 0 } }))

/-- Reads of registers (R9, R33, R67, R468, R469): ORB_SLOT answers slot and F-cycle and latches the orbit that ORB_ORBIT then answers; WALL_NS
answers the nanoseconds and latches the seconds; the lowest word of any other register answers its value and latches the others, 0 in a gated
block (R9); a read outside every register answers 0 and is counted. Outputs are appended to `out`: log 8. The model's reading or choice here: log
75. -/
def Obligations.ReadsAnswerAndLatch : Prop :=
  ∀ (s : State) (a : Nat), Awake s → s.sys.fuseDone = true →
    (∀ p ∈ s.bus.held, p.1 ∉ [Reg.ORB_SLOT, Reg.WALL_NS, Reg.ORB_ORBIT, Reg.TALLY_SUM 5]) →
    (∃ t, exec .orbSlotRead s = .next t ∧
      t.out = s.out ++ [.readback ((if s.time.counting then s.time.slot + s.time.fcyc * 2 ^ 16 else 0) % 2 ^ 32) false] ∧
      t.time = { s.time with orbitLatch := if s.time.counting then s.time.orbit else 0 } ∧ t = { s with time := t.time, out := t.out }) ∧
    (∃ t, exec .wallNsRead s = .next t ∧ t.out = s.out ++ [.readback (s.wall.t / 2 ^ 32 % 1000000000) false] ∧
      t.wall = { s.wall with secLatch := s.wall.t / (1000000000 * 2 ^ 32), stamp := s.stamp32 } ∧ t = { s with wall := t.wall, out := t.out }) ∧
    (∃ t, exec (.multiwordRead Reg.ORB_ORBIT) s = .next t ∧ t = { s with out := s.out ++ [.readback (s.time.orbitLatch % 2 ^ 32) false] }) ∧
    (s.isRoot = false → ∃ t, exec (.multiwordRead (Reg.TALLY_SUM 5)) s = .next t ∧
      t.out = s.out ++ [.readback (s.tallySum 5 % 2 ^ 32) false] ∧
      sget 0 t.bus.latched (Reg.TALLY_SUM 5 + 4) = s.tallySum 5 / 2 ^ 32 % 2 ^ 32 ∧ t = { s with bus := t.bus, out := t.out }) ∧
    (∀ h ∈ findReg a, h.w = 0 → a ≠ Reg.ORB_SLOT → a ≠ Reg.WALL_NS → inVault a = false → s.bus.held.all (fun p => decide (p.1 ≠ a)) = true →
      ∃ t, exec (.multiwordRead a) s = .next t ∧ t.out = s.out ++ [.readback (s.wordNow h a) false] ∧
        (s.gate a = none → s.wordNow h a = s.shown h (s.rd a) % 2 ^ 32) ∧ ((s.gate a).isSome = true → s.wordNow h a = 0) ∧
        (∀ k, 0 < k → k < h.row.words → sget 0 t.bus.latched (a + 4 * k) = s.wordNow { h with w := k } (a + 4 * k)) ∧
        t = { s with bus := t.bus, out := t.out }) ∧
    (findReg a = none → inVault a = false → exec (.multiwordRead a) s =
      .next ((s.incBy Reg.SYS_BADADDR_CNT 1).emit (.readback 0 false)))

/-- FE_CTRL, the threshold offset, FE_CH and the pair select are written in READY (R74, R77, R88, R120): the matrix that powers up starts to settle,
in a relay with its registers at their reset values (R9), the offset pends until a quiet window applies it, MASK acts from the next slot and PD at
once, and the pair select latches both pairs' snapshots. The pending threshold offset is applied in the first slot of the next quiet window of the
calendar and nowhere else (R77); the matrix settles (R74), with the calibration of every powered pair where one is due (R116), and NOREF clears
(R448). `u` is the die at that slot. Where a command's condition fails it leaves the die as it is: log 1. That time moves on to the moment an
event carries is log 7. The model's reading or choice here: log 39, 90, 92. -/
def Obligations.FrontEndIsSetAndSettles : Prop :=
  (∀ (s : State) (bar : Bool) (v : Nat), Awake s → s.sys.run = .ready → s.isRoot = false →
      (s.on F.FE_CTRL_MATRIX_EN = false → v % 2 = 1 → ∃ t, exec (.feCtrlWrite bar v) s = .next t ∧
        t.on F.FE_CTRL_MATRIX_EN = true ∧ t.on F.FE_STATUS_SETTLED = false ∧ t.fe = { s.fe with calDue := true } ∧
        (s.sys.role = .leaf → regsBut [Reg.FE_CTRL, Reg.FE_STATUS, Reg.HALL_STATUS] s t) ∧
        (s.sys.role ≠ .leaf → (∀ a, inMatrix a = false → a ∉ [Reg.FE_CTRL, Reg.HALL_STATUS] → t.rd a = s.rd a) ∧
          (∀ n, n < 16384 → t.rd (Reg.FE_CH n) = 0)) ∧
        t = { s with regs := t.regs, fe := t.fe, hall := { s.hall with hashing := t.hall.hashing }, bus := t.bus }) ∧
      (s.on F.FE_CTRL_MATRIX_EN = true → v % 2 = 0 → ∃ t, exec (.feCtrlWrite bar v) s = .next t ∧
        t.on F.FE_CTRL_MATRIX_EN = false ∧ t.on F.FE_STATUS_SETTLED = false ∧ (∀ p, p < 32768 → (t.pair p).cal = false) ∧
        (s.sys.role ≠ .leaf → t.tiles = [] ∧ t.fe = {} ∧ (∀ n, n < 16384 → t.rd (Reg.FE_CH n) = 0)) ∧
        (s.sys.role = .leaf → t.tiles = s.tiles ∧ t.fe = s.fe ∧ regsBut [Reg.FE_CTRL, Reg.FE_STATUS, Reg.HALL_STATUS] s t) ∧
        t.sys = s.sys ∧ t.time = s.time ∧
        (s.asm.frags = [] → t = { s with regs := t.regs, fe := t.fe, vtdc := t.vtdc, tiles := t.tiles, arbs := t.arbs, asm := t.asm
                                         hall := { s.hall with hashing := t.hall.hashing }, bus := t.bus })) ∧
      (s.on F.FE_CTRL_MATRIX_EN = true → ∃ t, exec (.feThrOfsWrite bar v) s = .next t ∧
        t.get F.FE_THR_OFS_OFS = v % 2 ^ 10 ∧ t.on F.FE_STATUS_OFS_PEND = true ∧ t.fe = s.fe ∧
        regsBut [Reg.FE_THR_OFS, Reg.FE_STATUS, Reg.HALL_STATUS] s t ∧
        t = { s with regs := t.regs, hall := { s.hall with hashing := t.hall.hashing }, bus := t.bus }) ∧
      (∀ n, n < 16384 → s.on F.FE_CTRL_MATRIX_EN = true → ∃ t, exec (.feChWrite bar n v) s = .next t ∧
        t.get (F.FE_CH_MASK n) = v % 2 ∧ t.get (F.FE_CH_PD n) = v / 2 % 2 ∧ t.get (F.FE_CH_INJ_EN n) = v / 4 % 2 ∧
        t.get (F.FE_CH_USER_TRIM n) = v / 16 % 2 ^ 6 ∧
        (s.isRetired 1 n = false → ((s.chan n).maskWas.all (fun e => decide (e.1 ≤ s.time.slots)) = true →
            t.maskedAt n s.time.slots = s.on (F.FE_CH_MASK n)) ∧
          ((s.chan n).maskWas.all (fun e => decide (e.1 ≤ s.time.slots + 1)) = true → t.maskedAt n (s.time.slots + 1) = decide (v % 2 = 1))) ∧
        (s.on (F.FE_CH_PD n) = true → v / 2 % 2 = 0 → (t.chan n).settling = true) ∧
        (∀ m, m ≠ n → t.chan m = s.chan m) ∧
        regsBut [Reg.FE_CH n, Reg.HALL_STATUS] s t ∧
        t = { s with regs := t.regs, fe := t.fe, vtdc := t.vtdc, hall := { s.hall with hashing := t.hall.hashing }, bus := t.bus }) ∧
      (s.on F.FE_CTRL_MATRIX_EN = true → ∃ t, exec (.vtdcPselWrite bar v) s = .next t ∧
        t.get F.VTDC_PSEL_CH = v % 2 ^ 14 ∧
        t.get F.VTDC_P_AGE_AGE_A = s.pairAge (2 * (v % 2 ^ 14)) ∧ t.get F.VTDC_P_AGE_AGE_B = s.pairAge (2 * (v % 2 ^ 14) + 1) ∧
        regsBut [Reg.VTDC_PSEL, Reg.VTDC_PA_CAL, Reg.VTDC_PB_CAL, Reg.VTDC_P_AGE, Reg.VTDC_P_STAT] s t ∧
        t = { s with regs := t.regs, bus := t.bus })) ∧
  (∀ (s u : State) (c : CalSet) (q : Nat), Awake s →
      (s.on F.FE_STATUS_OFS_PEND = true → s.locked = true → s.nextQuiet = some q →
        (if q = s.time.slot then some s else s.atCycle q 0) = some u → u.on F.FE_STATUS_OFS_PEND = true → ∃ t, exec .thrOfsApply s = .next t ∧
        t.fe = { u.fe with ofsNow := u.get F.FE_THR_OFS_OFS } ∧ t.on F.FE_STATUS_OFS_PEND = false ∧
        (0 ≤ t.thrSum → t.thrSum ≤ 1023 → t.on F.FE_STATUS_OFS_CLAMP = u.on F.FE_STATUS_OFS_CLAMP) ∧
        (1023 < t.thrSum ∨ t.thrSum < 0 → t.on F.FE_STATUS_OFS_CLAMP = true) ∧
        regsBut [Reg.FE_STATUS] u t ∧ t = { u with regs := t.regs, fe := t.fe }) ∧
      (s.on F.FE_STATUS_OFS_PEND = false ∨ s.locked = false ∨ s.nextQuiet = none → exec .thrOfsApply s = .next s) ∧
      (s.matrixOn = true → s.time.fRun = true → s.on F.FE_STATUS_SETTLED = false → s.sys.run ≠ .init →
        ∃ t, exec (.feSettled c) s = .next t ∧ t.on F.FE_STATUS_SETTLED = true ∧ t.on F.FAULT_BOOT_NOREF = false ∧
          t.fe.calDue = false ∧ t.fe.ofsNow = s.fe.ofsNow ∧ t.sys = s.sys ∧ t.time = s.time ∧
          (s.fe.calDue = false → t.vtdc = s.vtdc ∧ regsBut [Reg.FE_STATUS, Reg.FAULT_BOOT] s t) ∧
          (s.fe.calDue = true → t.on F.VTDC_STATUS_BULK_DONE = true ∧ t.rd Reg.VTDC_CAL_CNT = (s.rd Reg.VTDC_CAL_CNT + 1) % 2 ^ 32)) ∧
      (s.matrixOn = false → s.time.fRun = true → s.on F.FAULT_BOOT_NOREF = true → s.sys.run ≠ .init → s.sys.run ≠ .safe →
        ∃ t, exec (.feSettled c) s = .next t ∧ t.on F.FAULT_BOOT_NOREF = false ∧ t.on F.VTDC_STATUS_BULK_DONE = true ∧
          (∀ p, p < 32768 → t.pair p = s.pair p) ∧ t.fe = s.fe ∧ t.time = s.time))

/-- A leading edge that comes about (R76, R79, R82, R88, R96–R98, R105): an output that reaches q_lead and is heard, past its hold-off and not blind,
is stamped and takes a free pair; with no free pair it is lost and counted; in hold-off it is ignored and counted; on a channel that is not heard,
is blind or has no pair in service it is ignored; below q_lead there is no edge. `u` is the die at the launch edge. A trailing edge ends the hit
in progress with its TOT (R74, R78, R79, R106–R109): where the output has fallen below q_trail it is low, the hold-off starts from the edge, and
ORDER, TIMEOUT and NARROW are counted. With no trailing edge in time TOT is 4,095 (R109). `u` is the die at the edge. That time moves on to the
moment an event carries is log 7. The model's reading or choice here: log 69, 88, 91. -/
def Obligations.EdgesAreStampedAndGiveTheirTot : Prop :=
  (∀ (s u : State) (n ls lf cnt : Nat) (out : Int), Awake s → n < 16384 → s.atCycle ls lf = some u →
      ((u.chan n).high = true ∨ out < u.qLead n → exec (.leadingEdge n ls lf ⟨cnt, out⟩) s = .next u) ∧
      ((u.chan n).high = false → u.qLead n ≤ out →
      (u.hears n (edgeFine u.fNow cnt / 65536) = false →
        exec (.leadingEdge n ls lf ⟨cnt, out⟩) s = .next (u.setChan n { u.chan n with high := true, ignored := true })) ∧
      (u.hears n (edgeFine u.fNow cnt / 65536) = true → edgeFine u.fNow cnt < (u.chan n).holdTo → exec (.leadingEdge n ls lf ⟨cnt, out⟩) s =
        .next ((u.setChan n { u.chan n with high := true, ignored := true }).incBy Reg.FE_HOLDOFF_CNT 1)) ∧
      (u.hears n (edgeFine u.fNow cnt / 65536) = true → (u.chan n).holdTo ≤ edgeFine u.fNow cnt →
        ((u.chan n).blindIn (edgeFine u.fNow cnt / 65536) || (u.isRetired 2 (2 * n) && u.isRetired 2 (2 * n + 1))) = true →
        exec (.leadingEdge n ls lf ⟨cnt, out⟩) s = .next (u.setChan n { u.chan n with high := true, ignored := true })) ∧
      (u.hears n (edgeFine u.fNow cnt / 65536) = true → (u.chan n).holdTo ≤ edgeFine u.fNow cnt → (u.chan n).blindIn (edgeFine u.fNow cnt / 65536) = false →
        (u.isRetired 2 (2 * n) && u.isRetired 2 (2 * n + 1)) = false →
        (choosePair (u.pairFree (2 * n)) (u.pairFree (2 * n + 1)) (u.chan n).lastB = none →
          ∃ t, exec (.leadingEdge n ls lf ⟨cnt, out⟩) s = .next t ∧ (t.chan n).high = true ∧ (t.chan n).lost = true ∧
            (t.chan n).hits = (u.chan n).hits ∧ t.rd Reg.VTDC_LOST_CNT = min (u.rd Reg.VTDC_LOST_CNT + 1) 0xFFFFFFFF ∧
            regsBut [Reg.VTDC_LOST_CNT, Reg.VTDC_CAL_ABORT_CNT] u t ∧ t = { u with regs := t.regs, fe := t.fe, vtdc := t.vtdc }) ∧
        (∀ p, choosePair (u.pairFree (2 * n)) (u.pairFree (2 * n + 1)) (u.chan n).lastB = some p →
          ∃ t, exec (.leadingEdge n ls lf ⟨cnt, out⟩) s = .next t ∧ (t.chan n).high = true ∧ (t.chan n).lost = false ∧
            (t.chan n).lastB = decide (p = 1) ∧ (t.pair (2 * n + p)).busy = true ∧
            (t.chan n).hits = (u.chan n).hits ++ [{
                pair := p, launch := u.fNow, n := cnt, ovl := decide (511 ≤ cnt),
                tfu := if 511 ≤ cnt then (u.fNow : Int) * 1024 - 512
                  else stampTime u.fNow (u.pairCal (2 * n + p)).1 (u.pairCal (2 * n + p)).2 cnt,
                stale := u.pairStale (2 * n + p) ((if 511 ≤ cnt then (u.fNow : Int) * 1024 - 512
                  else stampTime u.fNow (u.pairCal (2 * n + p)).1 (u.pairCal (2 * n + p)).2 cnt) / 65536).toNat
                nbrs := u.liveNeighbours n ((if 511 ≤ cnt then (u.fNow : Int) * 1024 - 512
                  else stampTime u.fNow (u.pairCal (2 * n + p)).1 (u.pairCal (2 * n + p)).2 cnt) / 65536).toNat }] ∧
            (∀ m, m ≠ n → t.chan m = u.chan m) ∧
            regsBut [Reg.VTDC_STALE_CNT, Reg.VTDC_CAL_ABORT_CNT] u t ∧
            t = { u with regs := t.regs, fe := t.fe, vtdc := t.vtdc, trg := { u.trg with edges := t.trg.edges } })))) ∧
  (∀ (s u : State) (n ts tq : Nat) (out : Int) (h : Hit0), Awake s →
      (s.atCycle ts (tq / 4) = some u → (u.chan n).high = false ∨ u.qTrail n ≤ out → exec (.trailingEdge n ts ⟨tq, out⟩) s = .next u) ∧
      (s.atCycle ts (tq / 4) = some u → (u.chan n).high = true → out < u.qTrail n → (u.chan n).ignored = false → u.listens = true →
        (u.chan n).hits.find? (fun h => h.tot.isNone) = some h → ∃ t, exec (.trailingEdge n ts ⟨tq, out⟩) s = .next t ∧
          (t.chan n).high = false ∧
          (t.chan n).holdTo = (u.time.slots * 256 + tq) * 256 + 128 + u.get F.FE_THR_HOLDOFF * 1024 ∧
          (t.chan n).hits = closeHit (fun g => { g with
            tot := some (totOf (u.time.slots * 256 + tq) h.tfu (u.get F.VTDC_CTRL_NARROW_MIN)).1,
            order := (totOf (u.time.slots * 256 + tq) h.tfu (u.get F.VTDC_CTRL_NARROW_MIN)).2.1,
            tmo := g.tmo || (totOf (u.time.slots * 256 + tq) h.tfu (u.get F.VTDC_CTRL_NARROW_MIN)).2.2.1,
            narrow := (totOf (u.time.slots * 256 + tq) h.tfu (u.get F.VTDC_CTRL_NARROW_MIN)).2.2.2 }) (u.chan n).hits ∧
          t.rd Reg.VTDC_NARROW_CNT = min (u.rd Reg.VTDC_NARROW_CNT
            + b2n (totOf (u.time.slots * 256 + tq) h.tfu (u.get F.VTDC_CTRL_NARROW_MIN)).2.2.2) 0xFFFFFFFF ∧
          (∀ m, m ≠ n → t.chan m = u.chan m) ∧
          regsBut [Reg.VTDC_ORDER_CNT, Reg.VTDC_TIMEOUT_CNT, Reg.VTDC_NARROW_CNT] u t ∧ t = { u with regs := t.regs, fe := t.fe }) ∧
      (s.atCycle ts (tq / 4) = some u → (u.chan n).high = true → out < u.qTrail n → ((u.chan n).ignored = true ∨ u.listens = false) →
        exec (.trailingEdge n ts ⟨tq, out⟩) s = .next (u.setChan n { u.chan n with high := false, ignored := false })) ∧
      ((s.chan n).hits.find? (fun h => h.tot.isNone) = some h → s.atF (h.launch + 1024) = some u →
        exec (.totTimeout n) s = .next ((u.setChan n { u.chan n with
          hits := closeHit (fun h => { h with tot := some 4095, tmo := true }) (u.chan n).hits }).incBy Reg.VTDC_TIMEOUT_CNT 1)))

/-- What ends on a channel (R79, R82, R88): the hold-off, the blind period after its guard slots, the settling of a channel that was powered; and
over-range, which marks the hit in progress and blinds the channel from the hit's slot (R81, R82). `u` is the die at the moment. The oldest
injection window closes with its dead check (R91), and a channel at its strike limit retires at the next slot (R92). Conversions end (R95, R110,
R118): a pair is idle n + 14 F-cycles after launch, and one that overruns is idle 525 after launch, counted, with a strike to the pair. `u` is the
die then. Where a command's condition fails it leaves the die as it is: log 1. That time moves on to the moment an event carries is log 7. -/
def Obligations.ChannelWindowsInjectionsAndOverrunsEnd : Prop :=
  (∀ (s u : State) (n b : Nat) (h : Hit0), Awake s →
      ((s.chan n).holdTo ≠ 0 → s.atF (ceilDiv (s.chan n).holdTo 1024) = some u →
        exec (.holdoffEnd n) s = .next (u.setChan n { u.chan n with holdTo := 0 })) ∧
      ((s.chan n).blindTo = some b → s.atSlot (b + 1) = some u →
        exec (.blindEnd n) s = .next (u.setChan n { u.chan n with ignored := (u.chan n).high && (u.chan n).ignored })) ∧
      exec (.channelSettled n) s = .next (s.setChan n { s.chan n with settling := false }) ∧
      ((s.chan n).hits.find? (fun h => h.tot.isNone) = some h → h.sat = false → s.listens = true → exec (.overRange n) s =
        .next ((s.setChan n { s.chan n with
          hits := closeHit (fun h => { h with sat := true }) (s.chan n).hits
          blindWas := (s.chan n).pastBlinds s.time.slots
          blindFrom := some (h.tfu / 65536).toNat, blindTo := none }).incBy Reg.FE_SAT_CNT 1)) ∧
      ((s.chan n).hits.find? (fun h => h.tot.isNone) = some h → h.sat = true ∨ s.listens = false → exec (.overRange n) s = .next s)) ∧
  (∀ (s u : State) (n : Nat) (w : InjWin) (ws : List InjWin), Awake s →
      (s.fe.wins = w :: ws → s.atSlot (w.last + 1) = some u → ∃ t, exec .injectionWindowClose s = .next t ∧ t.fe.wins = ws ∧
        (w.dead = false → t = { u with fe := { u.fe with wins := ws } }) ∧
        (w.dead = true → u.sys.run.capturing = true → u.on (F.FE_CH_INJ_EN n) = true → u.chanOff n = false →
          u.chanMasked n = false → u.inGroup w n = true → w.hit.contains n = true → 0 < u.get F.FE_NOISE_DEAD_LIMIT → n < 16384 →
          swf resetWord u.regs = true → (t.chan n).missRun = 0) ∧
        (u.get F.FE_NOISE_DEAD_LIMIT = 0 → t.chan n = u.chan n) ∧
        (w.dead = true → u.sys.run.capturing = true → u.on (F.FE_CH_INJ_EN n) = true → u.chanOff n = false →
          u.chanMasked n = false → u.inGroup w n = true → w.hit.contains n = false →
          min 255 ((u.chan n).missRun + 1) < u.get F.FE_NOISE_DEAD_LIMIT → n < 16384 →
          swf resetWord u.regs = true →
          (t.chan n).missRun = min 255 ((u.chan n).missRun + 1))) ∧
      (s.isPending 1 n = true → s.time.fRun = true → s.time.counting = true → s.time.len ≤ s.time.slot + 1 →
        exec (.channelRetire n) s = .next { s with time := { s.time with later := s.time.later ++ [.retire n] } }) ∧
      (s.isPending 1 n = false → exec (.channelRetire n) s = .next s) ∧
      (s.isPending 1 n = true → s.isRetired 1 n = false → (s.time.fRun = false ∨ s.time.counting = false ∨ s.time.slot + 1 < s.time.len) →
        u = s.elapse (64 - s.time.fcyc) → ∃ t, exec (.channelRetire n) s = .next t ∧
        t.time = u.time ∧ t.isRetired 1 n = true ∧ t.isPending 1 n = false ∧ t.on F.FAULT_STATUS_RETIRED = true ∧
        (t.pair (2 * n)).cal = false ∧ (t.pair (2 * n + 1)).cal = false ∧
        t.rd Reg.FAULT_RETIRE_CNT = min (s.rd Reg.FAULT_RETIRE_CNT + 1) 0xFFFFFFFF)) ∧
  (∀ (s u : State) (n p : Nat) (h : Hit0) (f : Flight), Awake s → n < 16384 → p < 2 →
      ((s.chan n).hits.find? (fun h => decide (h.pair = p) && !h.conv && !h.ovl) = some h → s.atF (h.launch + h.n + 14) = some u →
        ∃ t, exec (.pairIdle (2 * n + p)) s = .next t ∧ (t.pair (2 * n + p)).busy = false ∧
          (t.chan n).hits = (u.chan n).hits.map (fun g => if g.pair = p ∧ g.launch = h.launch then { g with conv := true } else g) ∧
          (∀ m, m ≠ n → t.chan m = u.chan m) ∧ (∀ q, q ≠ 2 * n + p → t.pair q = u.pair q) ∧
          t = { u with fe := t.fe, vtdc := t.vtdc }) ∧
      ((s.chan n).hits.find? (fun h => decide (h.pair = p) && !h.conv && h.ovl) = some h → s.atF (h.launch + 525) = some u →
        ∃ t, exec (.conversionOverrun (2 * n + p)) s = .next t ∧ (t.pair (2 * n + p)).busy = false ∧
          (t.chan n).hits = (u.chan n).hits.map (fun g => if g.pair = p ∧ g.launch = h.launch then { g with conv := true, tmo := true } else g) ∧
          t.rd Reg.VTDC_OVERRUN_CNT = min (u.rd Reg.VTDC_OVERRUN_CNT + 1) 0xFFFFFFFF ∧
          (u.isRetired 2 (2 * n + p) = false → t.strikesOf 2 (2 * n + p) = min 255 (u.strikesOf 2 (2 * n + p) + 1) ∧
            t.rd Reg.FAULT_STRIKE_CNT = min (u.rd Reg.FAULT_STRIKE_CNT + 1) 0xFFFFFFFF ∧
            t.isRetired 2 (2 * n + p) = decide (u.strikeLimit 2 ≤ min 255 (u.strikesOf 2 (2 * n + p) + 1))) ∧
          (u.isRetired 2 (2 * n + p) = true → t.fault = u.fault) ∧ t.sys = u.sys ∧ t.time = u.time) ∧
      ((s.chan n).hits.find? (fun h => decide (h.pair = p) && !h.conv && !h.ovl) = none → exec (.pairIdle (2 * n + p)) s = .next s) ∧
      ((s.chan n).hits.find? (fun h => decide (h.pair = p) && !h.conv && h.ovl) = none → exec (.conversionOverrun (2 * n + p)) s = .next s) ∧
      (s.tiu.flights.find? (fun f => decide (f.pair = 32768 + n ∧ f.n < 511)) = some f → s.atF (f.launch + f.n + 14) = some u →
        exec (.pairIdle (32768 + n)) s = .next (({ u with tiu := { u.tiu with
          flights := u.tiu.flights.filter (fun f => decide (f.pair ≠ 32768 + n)) } }).setPair (32768 + n) { u.pair (32768 + n) with busy := false })) ∧
      (s.tiu.flights.find? (fun f => decide (f.pair = 32768 + n ∧ 511 ≤ f.n)) = some f → s.atF (f.launch + 525) = some u →
        ∃ t, exec (.conversionOverrun (32768 + n)) s = .next t ∧ (t.pair (32768 + n)).busy = false ∧
          t.tiu = { u.tiu with flights := u.tiu.flights.filter (fun f => decide (f.pair ≠ 32768 + n)) } ∧
          t.rd Reg.VTDC_OVERRUN_CNT = min (u.rd Reg.VTDC_OVERRUN_CNT + 1) 0xFFFFFFFF ∧
          (u.isRetired 2 (32768 + n) = false → t.strikesOf 2 (32768 + n) = min 255 (u.strikesOf 2 (32768 + n) + 1)) ∧
          t.sys = u.sys ∧ t.time = u.time ∧ t.fe = u.fe))

/-- A completed conversion becomes a hit of its tile (R83, R131–R133, R138, R139, R183, R195, R196): in RUNNING and HOLD, in a tile in service and not
frozen, it is written with its parities and its conditions if it fits, and counted by the tally under ALL and TEST, or dropped with the slot's
drop mark and a count if it does not; frozen, it is only counted. -/
def Obligations.CompletedHitEntersItsTile : Prop :=
  ∀ (s : State) (n : Nat) (h : Hit0), Awake s → n < 16384 → (s.chan n).hits.find? (fun h => h.conv && h.tot.isSome) = some h →
    ((s.captures (h.tfu / 65536).toNat = false ∨ s.tileUp (n / 64) = false) → exec (.conversionDone n) s = .next (s.setChan n { s.chan n with
      hits := (s.chan n).hits.filter (fun g => decide (g.launch ≠ h.launch ∨ g.pair ≠ h.pair)) })) ∧
    (s.captures (h.tfu / 65536).toNat = true → s.tileUp (n / 64) = true → s.trg.frozen = true → exec (.conversionDone n) s =
      .next ((s.setChan n { s.chan n with
        hits := (s.chan n).hits.filter (fun g => decide (g.launch ≠ h.launch ∨ g.pair ≠ h.pair)) }).incBy Reg.TRG_FROZEN_DROP_CNT 1)) ∧
    (s.captures (h.tfu / 65536).toNat = true → s.tileUp (n / 64) = true → s.trg.frozen = false →
      ((s.tile (n / 64)).occ + (if h.cond (s.lostNeighbour h) = 0 then 1 else 2) ≤ 768 → ∃ t, exec (.conversionDone n) s = .next t ∧
        (t.tile (n / 64)).buf = (s.tile (n / 64)).buf ++ [{
          slots := (h.tfu / 65536).toNat
          data := dataEntry (s.slotOf (h.tfu / 65536).toNat) (n % 64) (h.tfu % 65536).toNat (h.tot.getD 0)
          dpar := parity48 (dataEntry (s.slotOf (h.tfu / 65536).toNat) (n % 64) (h.tfu % 65536).toNat (h.tot.getD 0))
          cond := if h.cond (s.lostNeighbour h) = 0 then none
            else some (condEntry (h.cond (s.lostNeighbour h)), parity48 (condEntry (h.cond (s.lostNeighbour h)))) }] ∧
        (t.tile (n / 64)).drops = (s.tile (n / 64)).drops ∧ (∀ k, k ≠ n / 64 → t.tile k = s.tile k) ∧
        ((s.get F.TALLY_CTRL_SOURCE = 1 ∨ s.get F.TALLY_CTRL_SOURCE = 3 ∨
            s.get F.TALLY_CTRL_SOURCE = 2 ∧ s.testPulse n (h.tfu / 65536).toNat = false ∨ s.sys.run.capturing = false) →
          regsBut [Reg.TILE_T (n / 64)] s t ∧ t = { s with regs := t.regs, fe := t.fe, tiles := t.tiles }) ∧
        ((s.get F.TALLY_CTRL_SOURCE = 0 ∨ s.get F.TALLY_CTRL_SOURCE = 2 ∧ s.testPulse n (h.tfu / 65536).toNat = true) →
          s.sys.run.capturing = true → s.isRoot = false → s.on F.TALLY_CTRL_CNT_EN = true →
          found (s.tword (n / 2)) ≠ .poisoned → found (s.tword (n / 2)) ≠ .bad →
          t.tword (n / 2) = fresh72 (setBits (dataOf (s.tword (n / 2))) (32 * (n % 2)) 32 (min (2 ^ 32 - 1) (s.tallyCnt n + 1))))) ∧
      (768 < (s.tile (n / 64)).occ + (if h.cond (s.lostNeighbour h) = 0 then 1 else 2) → ∃ t, exec (.conversionDone n) s = .next t ∧
        (t.tile (n / 64)).buf = (s.tile (n / 64)).buf ∧ (t.tile (n / 64)).drops.contains (h.tfu / 65536).toNat = true ∧
        t.rd Reg.TILE_DROP_CNT = min (s.rd Reg.TILE_DROP_CNT + 1) 0xFFFFFFFF ∧ t.on F.TILE_STATUS_OVF = true ∧
        regsBut [Reg.TILE_DROP_CNT, Reg.TILE_STATUS] s t ∧ t = { s with regs := t.regs, fe := t.fe, tiles := t.tiles }))

/-- Calibration of the pairs (R99–R102, R113–R115): an idle pair whose calibration is due starts one; its sums give the bin and offset, or are
rejected, counted and struck; a stopped pair resumes its bulk pass in a quiet window, and the pass ends with all pairs done or after its 64th
window. Where a command's condition fails it leaves the die as it is: log 1. -/
def Obligations.PairCalibrationTakesOrRejectsItsSums : Prop :=
  ∀ (s : State) (p s1 s2 : Nat) (fin : List PairCounts), Awake s →
    (s.calMayStart p = true → exec (.vtdcCalStart p) s = .next (s.setPair p { s.pair p with cal := true })) ∧
    (s.calMayStart p = false → exec (.vtdcCalStart p) s = .next s) ∧
    ((s.pair p).cal = true → s1 + 1792 ≤ s2 → s2 ≤ s1 + 2304 → ∃ t, exec (.vtdcCalDone p s1 s2) s = .next t ∧
      (t.pair p).cal = false ∧ (t.pair p).nocal = false ∧ (t.pair p).ds = s2 - s1 ∧ (t.pair p).calSlot = s.time.slots ∧
      (t.pair p).bin = (roundDiv (2 ^ 26) ((s2 : Int) - s1)).toNat ∧
      (t.pair p).off = roundDiv (2 ^ 27 - roundDiv (2 ^ 26) ((s2 : Int) - s1) * (2 * s1 - 1)) 8192 ∧
      (∀ q, q ≠ p → t.pair q = s.pair q) ∧ t = { s with vtdc := t.vtdc }) ∧
    ((s.pair p).cal = true → (s2 < s1 + 1792 ∨ s1 + 2304 < s2) → s.isRetired 2 p = false → ∃ t,
      exec (.vtdcCalDone p s1 s2) s = .next t ∧ (t.pair p).cal = false ∧ (t.pair p).bin = (s.pair p).bin ∧
      (t.pair p).off = (s.pair p).off ∧ t.on F.VTDC_STATUS_CAL_BAD = true ∧
      t.rd Reg.VTDC_CAL_BAD_CNT = min (s.rd Reg.VTDC_CAL_BAD_CNT + 1) 0xFFFFFFFF ∧
      t.strikesOf 2 p = min 255 (s.strikesOf 2 p + 1) ∧ t.sys = s.sys ∧ t.time = s.time ∧ t.fe = s.fe) ∧
    ((s.pair p).cal = false → exec (.vtdcCalDone p s1 s2) s = .next s) ∧
    (s.passResumes p = true → exec (.bulkPassResume p) s = .next (s.setPair p { s.pair p with stopped := false })) ∧
    (s.passResumes p = false → exec (.bulkPassResume p) s = .next s) ∧
    (s.on F.VTDC_STATUS_BULK_ACTIVE = true → (64 ≤ s.vtdc.windows ∨ (s.passFinished fin).length = s.pairsInService) →
      ∃ t, exec (.bulkPassEnd fin) s = .next t ∧
      t.on F.VTDC_STATUS_BULK_ACTIVE = false ∧ t.on F.VTDC_STATUS_BULK_DONE = true ∧
      t.rd Reg.VTDC_CAL_CNT = (s.rd Reg.VTDC_CAL_CNT + 1) % 2 ^ 32 ∧
      t.rd Reg.VTDC_BULK_SKIP_CNT = min (s.rd Reg.VTDC_BULK_SKIP_CNT + (s.pairsInService - (s.passFinished fin).length)) 0xFFFFFFFF ∧
      (s.passFinished fin = [] → t.vtdc = s.vtdc) ∧
      t.sys = s.sys ∧ t.time = s.time ∧ t.fe = s.fe ∧ t.tiles = s.tiles) ∧
    (s.on F.VTDC_STATUS_BULK_ACTIVE = false ∨ (s.vtdc.windows < 64 ∧ (s.passFinished fin).length ≠ s.pairsInService) →
      exec (.bulkPassEnd fin) s = .next s)

/-- A time-interval run (R121–R129): at the next F-cycle START latches the settings, clears the results and sets BUSY, and ABORT of a run without
intervals sets DONE; in an orbit's last F-cycle, or without the F-clock, they wait; an edge of a UTIL input that reaches its hysteresis in the
selected direction, past its hold-off, takes a free pair or is lost; an interval open too long is discarded and counted. `u` is the die at the
moment, `v` at the next F-cycle. A closed interval enters the statistics (R122, R124, R127): start and stop edges of two sources, the first
interval of a run. LAST, MIN and MAX take the stop stamp less the start stamp in fine units, and COUNT is 1; with one source the edge that closes
an interval opens the next. Where a command's condition fails it leaves the die as it is: log 1. That time moves on to the moment an event carries
is log 7. The model's reading or choice here: log 88, 93. -/
def Obligations.TimeIntervalsAreMeasured : Prop :=
  (∀ (s u v : State) (bar rise : Bool) (k ls lf cnt swing : Nat), Awake s → s.sys.run.isReady = true → v = s.elapse 1 →
      (s.time.fRun = true → (s.time.counting = true → s.time.slot * 64 + s.time.fcyc + 1 < s.time.len * 64) →
        ∃ t, exec (.tiuStart bar) s = .next t ∧ t.on F.TIU_STATUS_BUSY = true ∧ t.on F.TIU_STATUS_DONE = false ∧
        t.get F.TIU_COUNT_COUNT = 0 ∧ t.rd64 Reg.TIU_LAST = 0 ∧ t.rd64 Reg.TIU_MIN = 0 ∧ t.rd64 Reg.TIU_MAX = 0 ∧
        t.rd64 Reg.TIU_MEAN = 0 ∧ t.rd Reg.TIU_SDEV = 0 ∧ t.tiu.meas = s.rd Reg.TIU_MEAS ∧ t.tiu.tmo = s.rd Reg.TIU_TMO ∧
        t.tiu.openAt = none ∧ t.tiu.stops = [] ∧ t.tiu.closedBy = none ∧
        regsBut ([Reg.TIU_STATUS, Reg.TIU_COUNT, Reg.TIU_SDEV] ++ (List.range 8).map (fun i => Reg.TIU_LAST + 4 * i)) v t ∧
        t = { v with regs := t.regs, tiu := t.tiu, bus := t.bus }) ∧
      (s.time.fRun = false ∨ s.time.counting = true ∧ s.time.len * 64 ≤ s.time.slot * 64 + s.time.fcyc + 1 →
        (∃ t, exec (.tiuStart bar) s = .next t ∧ t.time = { s.time with later := s.time.later ++ [.tiuCmd false true] } ∧
          regsBut [] s t ∧ t = { s with regs := t.regs, time := t.time, bus := t.bus }) ∧
        (∃ t, exec (.tiuAbort bar) s = .next t ∧ t.time = { s.time with later := s.time.later ++ [.tiuCmd true false] } ∧
          regsBut [] s t ∧ t = { s with regs := t.regs, time := t.time, bus := t.bus })) ∧
      (s.time.fRun = true → (s.time.counting = true → s.time.slot * 64 + s.time.fcyc + 1 < s.time.len * 64) →
        s.on F.TIU_STATUS_BUSY = true → s.get F.TIU_COUNT_COUNT = 0 → ∃ t, exec (.tiuAbort bar) s = .next t ∧
        t.on F.TIU_STATUS_BUSY = false ∧ t.on F.TIU_STATUS_DONE = true ∧ t.tiu = { s.tiu with openAt := none } ∧
        regsBut [Reg.TIU_STATUS] v t ∧ t = { v with regs := t.regs, tiu := t.tiu, bus := t.bus }) ∧
      (s.time.fRun = true → (s.time.counting = true → s.time.slot * 64 + s.time.fcyc + 1 < s.time.len * 64) →
        s.on F.TIU_STATUS_BUSY = true → 0 < s.get F.TIU_COUNT_COUNT → ∃ t, exec (.tiuAbort bar) s = .next t ∧
        t.on F.TIU_STATUS_BUSY = false ∧ t.on F.TIU_STATUS_DONE = true ∧ t.tiu = { s.tiu with openAt := none } ∧
        t.rd64 Reg.TIU_MEAN = ofSigned 64 (roundDiv ((s.tiu.x0 * s.get F.TIU_COUNT_COUNT + s.tiu.s1) * 65536) (s.get F.TIU_COUNT_COUNT)) ∧
        regsBut [Reg.TIU_STATUS, Reg.TIU_MEAN, Reg.TIU_MEAN + 4, Reg.TIU_SDEV] v t ∧
        t = { v with regs := t.regs, tiu := t.tiu, bus := t.bus }) ∧
      (s.time.fRun = true → (s.time.counting = true → s.time.slot * 64 + s.time.fcyc + 1 < s.time.len * 64) →
        s.on F.TIU_STATUS_BUSY = false → ∃ t, exec (.tiuAbort bar) s = .next t ∧ regsBut [] v t ∧ t = { v with regs := t.regs, bus := t.bus }) ∧
      (k < 4 → s.atCycle ls lf = some u → swing < u.utilHyst k → exec (.utilEdge k ls lf ⟨cnt, rise, swing⟩) s = .next u) ∧
      (k < 4 → s.atCycle ls lf = some u → u.utilHyst k ≤ swing →
        (u.on (F.TIU_IN_EN k) = false ∨ rise = u.on (F.TIU_IN_EDGE k) ∨ u.on F.ORB_STATUS_PLL_LOCK = false ∨ u.fNow < sget 0 u.tiu.holdTo k) →
        exec (.utilEdge k ls lf ⟨cnt, rise, swing⟩) s = .next (u.utilLevel k rise)) ∧
      (k < 4 → s.atCycle ls lf = some u → u.utilHyst k ≤ swing → u.on (F.TIU_IN_EN k) = true → rise ≠ u.on (F.TIU_IN_EDGE k) →
        u.on F.ORB_STATUS_PLL_LOCK = true → sget 0 u.tiu.holdTo k ≤ u.fNow →
        choosePair (u.pairFree (32768 + 2 * k)) (u.pairFree (32769 + 2 * k)) (!u.tiu.lastB.contains k) = none →
        ∃ t, exec (.utilEdge k ls lf ⟨cnt, rise, swing⟩) s = .next t ∧ t.rd Reg.TIU_LOST_CNT = min (u.rd Reg.TIU_LOST_CNT + 1) 0xFFFFFFFF ∧
          regsBut [Reg.TIU_LOST_CNT, Reg.VTDC_CAL_ABORT_CNT] u t ∧ t.tiu = (u.utilLevel k rise).tiu ∧
          t = { u with regs := t.regs, vtdc := t.vtdc, tiu := t.tiu }) ∧
      (∀ p, k < 4 → s.atCycle ls lf = some u → u.utilHyst k ≤ swing → u.on (F.TIU_IN_EN k) = true → rise ≠ u.on (F.TIU_IN_EDGE k) →
        u.on F.ORB_STATUS_PLL_LOCK = true → sget 0 u.tiu.holdTo k ≤ u.fNow →
        choosePair (u.pairFree (32768 + 2 * k)) (u.pairFree (32769 + 2 * k)) (!u.tiu.lastB.contains k) = some p →
        ∃ t, exec (.utilEdge k ls lf ⟨cnt, rise, swing⟩) s = .next t ∧
          (t.pair (32768 + 2 * k + p)).busy = true ∧ sget 0 t.tiu.holdTo k = u.fNow + u.get (F.TIU_IN_HOLDOFF k) ∧
          t.tiu.flights = u.tiu.flights ++ [{ pair := 32768 + 2 * k + p, launch := u.fNow, n := cnt }] ∧
          t.tiu.high = (u.utilLevel k rise).tiu.high ∧
          (u.on F.TIU_STATUS_BUSY = false → regsBut [Reg.VTDC_CAL_ABORT_CNT, Reg.VTDC_STALE_CNT, Reg.TIU_STALE_CNT] u t) ∧
          t = { u with regs := t.regs, vtdc := t.vtdc, tiu := t.tiu }) ∧
      (s.on F.TIU_STATUS_BUSY = true → s.tiu.openAt.isSome = true → s.atSlot (s.tiu.openSlot + max 1 (s.tiu.tmo % 2 ^ 24)) = some u →
        exec .tiuIntervalTimeout s = .next (({ u with tiu := { u.tiu with openAt := none } }).incBy Reg.TIU_TIMEOUT_CNT 1)) ∧
      (s.on F.TIU_STATUS_BUSY = false ∨ s.tiu.openAt = none → exec .tiuIntervalTimeout s = .next s)) ∧
  (∀ (s : State) (o b : Stamp) (a c : Nat), a < 8 → c < 8 → s.on F.TIU_STATUS_BUSY = true → s.on F.ORB_STATUS_PLL_LOCK = true →
      s.get F.TIU_COUNT_COUNT = 0 → s.tiu.meas = a * 2 ^ 25 + c * 2 ^ 22 + 2 → s.tiu.openAt = some o → (a = c ∨ 0 ≤ interval s.time.len o b) →
      toSigned 64 ((tiuEdge c b s).rd64 Reg.TIU_LAST) = interval s.time.len o b ∧
      toSigned 64 ((tiuEdge c b s).rd64 Reg.TIU_MIN) = interval s.time.len o b ∧
      toSigned 64 ((tiuEdge c b s).rd64 Reg.TIU_MAX) = interval s.time.len o b ∧
      (tiuEdge c b s).get F.TIU_COUNT_COUNT = 1 ∧ (tiuEdge c b s).on F.TIU_STATUS_BUSY = true ∧
      (a ≠ c → (tiuEdge c b s).tiu.openAt = none) ∧ (a = c → (tiuEdge c b s).tiu.openAt = some b))

/-- The latency buffers and retrievals (R134, R136, R140–R143, R146): expired entries and drop marks of a tile go unless they are pinned, and poisoned
ones are counted; a retrieval that starts is answered by every tile in service, and closes at once where there is none; STREAMING issues its next
slot group. `u` is the die at the moment; nothing else of it moves where no fragment is due to. The Gallery bus and its time-outs (R149–R151,
R153, R154): the owner of a segment with credit moves one word to its fragment, without credit none; its last word ends its response; a word
nobody wants is discarded and counted. A granted tile with credit that moves no word for GRANT_TMO Gallery cycles, and a tile whose header has not
come in TOTAL_TMO cycles, is declared missing and counted, and gives its response up; the second is struck only where it never asked. `u` is the
die once such a time is over, `f` the fragment, `p` the tile's part of it and `j` another tile still open in it. Where a command's condition fails
it leaves the die as it is: log 1. That time moves on to the moment an event carries is log 7. The model's reading or choice here: log 12, 97,
101, 102. -/
def Obligations.TilesAnswerOverTheGallery : Prop :=
  (∀ (s u : State) (k tag c first : Nat) (cs : List Nat) (f : Frag), Awake s → k < 256 →
      (((s.tile k).buf.filter (fun e => !(s.tile k).pinned e.slots)).map (fun e => e.slots) ++ (s.tile k).drops = c :: cs →
        s.atSlot (cs.foldl min c + s.retention + 1) = some u → s.trg.frozen = false → fragOut u = u → ∃ t, exec (.entryExpire k) s = .next t ∧
          (t.tile k).buf = (u.tile k).buf.filter (fun e => !(decide (e.slots + s.retention < u.time.slots) && !(u.tile k).pinned e.slots)) ∧
          (t.tile k).drops = (u.tile k).drops.filter (fun d => !decide (d + s.retention < u.time.slots)) ∧
          (∀ j, j ≠ k → t.tile j = u.tile j) ∧ regsBut [Reg.TILE_POISON_DISCARD_CNT] u t ∧
          t = { u with regs := t.regs, tiles := t.tiles }) ∧
      (s.trg.frozen = true ∨ (s.tile k).buf = [] ∧ (s.tile k).drops = [] →
        (∃ t, exec (.entryExpire k) s = .next t ∧ t.sys = s.sys ∧
          ((s.tile k).buf = [] → (s.tile k).drops = [] → fragOut s = s → t = s))) ∧
      (s.fragOf tag = some f → f.started = false → s.atSlot (f.last + 18) = some u → ∃ t, exec (.retrievalStart tag) s = .next t ∧
        t.sys = u.sys ∧ t.time = u.time ∧
        (f.parts = [] → u.drain = u → u.matrixOn = true → u.tileUp k = true →
          (t.fragOf tag).map (fun g => g.started) = some true ∧
          (t.tile k).resp = (u.tile k).resp ++ [{ tag := f.tag, words := u.response k f }] ∧
          (t.tile k).pins = (u.tile k).pins ++ [(f.tag, f.first, f.last)] ∧ (t.tile k).buf = (u.tile k).buf) ∧
        (f.parts = [] → u.matrixOn = false → u.asm.frags = [f] → t.asm.frags = [] ∧ (u.asm.flush = none → t.tiles = u.tiles))) ∧
      (s.fragOf tag = none ∨ (s.fragOf tag).any (fun f => f.started) = true → fragOut s = s → exec (.retrievalStart tag) s = .next s) ∧
      (s.asm.groupFrom = some first → s.sys.run.capturing = true → s.get F.TRG_MODE_READOUT = 1 → s.mayIssue = true →
        s.matrixOn = true → s.atSlot ((s.groupFrag first).last + 18) = some u → ∃ t, exec .streamGroupIssue s = .next t ∧
          t.asm.nextTag = (u.asm.nextTag + 1) % 64 ∧ t.asm.groupFrom = some (first + groupLen u.time.len u.asm.groupNo) ∧
          t.sys = u.sys ∧ t.time = u.time ∧ (fragOut u = u → t.tiles = u.tiles ∧
            t.asm.frags = u.asm.frags ++ [{ s.groupFrag first with tag := u.asm.nextTag, issued := u.time.slots }] ∧
            t = { u with asm := t.asm })) ∧
      (s.asm.groupFrom = none ∨ s.sys.run.capturing = false ∨ s.get F.TRG_MODE_READOUT ≠ 1 ∨ s.mayIssue = false ∨ s.matrixOn = false →
        fragOut s = s → exec .streamGroupIssue s = .next s)) ∧
  (∀ (s u : State) (k j : Nat) (r : TResp) (rest : List TResp) (w w' : Nat) (ws : List Nat) (f : Frag) (p : TPart), Awake s → k < 256 →
      p = sget {} f.parts k →
      ((s.tile k).resp = r :: rest → s.ownsSegment k = true → r.words = w :: w' :: ws → r.abandon = false →
        s.fragOf r.tag = some f → s.hasCredit (k % 16) = true →
        fragOut s = s → p.missing = false → p.hdr = true ∧ p.words.length ≠ p.count ∨ p.hdr = false ∧ bitsOf w 0 10 ≠ 0 → ∃ t,
        exec (.galleryWordArrive k) s = .next t ∧
          ((t.tile k).resp.find? (fun x => decide (x.tag = r.tag))).map (fun x => x.words) = some (w' :: ws) ∧
          (t.tile k).buf = (s.tile k).buf ∧ (t.tile k).pins = (s.tile k).pins ∧
          ((t.fragOf r.tag).map (fun g => (sget {} g.parts k).words)) = some (if p.hdr = true then p.words ++ [w] else [w]) ∧
          (t.arb (k % 16)).owner.map (fun q => q.prog) = (s.arb (k % 16)).owner.map (fun q => q.prog + 1) ∧
          (∀ i, i ≠ k → t.tile i = s.tile i) ∧ regsBut [Reg.TILE_POISON_CNT, Reg.TILE_STATUS] s t ∧
          t = { s with regs := t.regs, tiles := t.tiles, arbs := t.arbs, asm := t.asm }) ∧
      ((s.tile k).resp = r :: rest → s.ownsSegment k = true → r.words = [w] → r.abandon = false →
        s.fragOf r.tag = some f → s.hasCredit (k % 16) = true → fragOut s = s → r.poison = false → bitsOf w 55 1 = 0 → rest.all (fun x => decide (x.tag ≠ r.tag)) = true →
        j < 256 → j ≠ k → (sget {} f.parts j).missing = false → (sget {} f.parts j).complete = false → ∃ t,
        exec (.galleryWordArrive k) s = .next t ∧ (t.tile k).resp = rest ∧
          (t.tile k).pins = (s.tile k).pins.filter (fun x => decide (x.1 ≠ r.tag)) ∧
          (f.kind ≠ .stream → s.trg.frozen = true → (t.tile k).buf = (s.tile k).buf) ∧ t.sys = s.sys ∧ t.time = s.time) ∧
      ((s.tile k).resp = r :: rest → s.ownsSegment k = true → r.words ≠ [] → r.abandon = false →
        s.fragOf r.tag = some f → s.hasCredit (k % 16) = false → fragOut s = s → exec (.galleryWordArrive k) s = .next s) ∧
      ((s.tile k).resp = r :: rest → s.ownsSegment k = true → r.words = w :: ws → r.abandon = true ∨ s.fragOf r.tag = none →
        ∃ t, exec (.galleryWordArrive k) s = .next t ∧ t.rd Reg.FRAG_LATE_CNT = min (s.rd Reg.FRAG_LATE_CNT + 1) 0xFFFFFFFF ∧
        t.sys = s.sys ∧ t.time = s.time ∧ (fragOut s = s → r.poison = false → rest.all (fun x => decide (x.tag ≠ r.tag)) = true →
          (t.tile k).resp = rest ∧ t.asm.frags = s.asm.frags)) ∧
      (s.ownsSegment k = false ∨ (s.tile k).resp = [] → fragOut s = s → exec (.galleryWordArrive k) s = .next s) ∧
      (s.atF ((s.arb (k % 16)).since + 4 * atLeast1 (s.get F.FRAG_ASM_GRANT_TMO)) = some u → (u.tile k).resp = r :: rest →
        u.ownsSegment k = true → r.abandon = false → u.partOpen r.tag k = true → u.hasCredit (k % 16) = true → ∃ t,
        exec (.grantTimeout k) s = .next t ∧ t.rd Reg.FRAG_MISSING_CNT = min (u.rd Reg.FRAG_MISSING_CNT + 1) 0xFFFFFFFF ∧
        t.sys = u.sys ∧ t.time = u.time ∧
        (fragOut u = u → u.fragOf r.tag = some f → j < 256 → j ≠ k → (sget {} f.parts j).missing = false → (sget {} f.parts j).complete = false →
          ((t.fragOf r.tag).map (fun g => ((sget {} g.parts k).missing, (sget {} g.parts k).strike))) = some (true, true) ∧
          (t.tile k).resp = { r with abandon := true } :: rest ∧ (t.tile k).buf = (u.tile k).buf ∧ (∀ i, i ≠ k → t.tile i = u.tile i))) ∧
      (s.atF ((s.arb (k % 16)).since + 4 * atLeast1 (s.get F.FRAG_ASM_GRANT_TMO)) = some u → u.ownsSegment k = false ∨ u.hasCredit (k % 16) = false →
        fragOut u = u → exec (.grantTimeout k) s = .next u) ∧
      (s.fragOf r.tag = some f → f.started = true → s.atF (s.totalAt f) = some u → u.partOpen r.tag k = true →
        (sget {} f.parts k).hdr = false → ∃ t,
        exec (.totalTimeout r.tag k) s = .next t ∧ t.rd Reg.FRAG_MISSING_CNT = min (u.rd Reg.FRAG_MISSING_CNT + 1) 0xFFFFFFFF ∧
        t.sys = u.sys ∧ t.time = u.time ∧
        (fragOut u = u → j < 256 → j ≠ k → (sget {} f.parts j).missing = false → (sget {} f.parts j).complete = false →
          ((t.fragOf r.tag).map (fun g => ((sget {} g.parts k).missing, (sget {} g.parts k).strike))) =
            some (true, decide ((u.tile k).resp = [])))) ∧
      (s.fragOf r.tag = none ∨ (s.fragOf r.tag).any (fun f => f.started) = false → fragOut s = s → exec (.totalTimeout r.tag k) s = .next s))

/-- The common arbiter (R230–R235, R239): at an evaluation point a waiting requester of a higher class takes the grant, and the owner waits at the
head; at a release the next requester is granted, or the owner is parked where no other waits; a window's end clears the quota counts, and an idle
arbiter decides. `v` is the arbiter's die once windows that are over have cleared, `u` the die at a window's end. A canary bites (R241, R242,
R245), here on the host DMA engine, once an owner has moved no word for its limit: the bite is counted, the requester named, the flag set, an
alert raised and the owner released by force; its ring group asks again for its record from the start, and alone is granted again. A parked owner
is not bitten. `u` is the die once the limit is reached. A canary bites in a vault bank whose oldest increment has stood for its limit (R242,
R245): the increment is not performed and waits once more, and a second bite drops it; the bite is counted and names the tally update; an empty
bank has nothing to bite. `u` is the die once the limit is reached. A Facet engine finishes (R279): the fragment it coded leaves for the buffer as
soon as those before it have, under its raw form where coding did not pay; an engine without a fragment does nothing. Where a command's condition
fails it leaves the die as it is: log 1. That time moves on to the moment an event carries is log 7. The model's reading or choice here: log 17,
44, 70, 94, 95, 101. -/
def Obligations.ArbitersCanariesAndFacetEngines : Prop :=
  (∀ (s u v : State) (i : Nat) (o w : ArbReq), Awake s → (s.arb i).owner = some o → v = s.arbTurn i →
      (i < 16 ∨ i = 34 → (s.arb i).parked = false → o.prog < o.len → v.arbNext i (v.arb i) (s.arbClassOf i o.r + 1) = some w → w.r ≠ o.r →
        ∃ t, exec (.arbEvaluationPoint i) s = .next t ∧
        (t.arb i).owner = some w ∧ (t.arb i).parked = false ∧ (t.arb i).wait.head? = some { o with cls := s.arbClassOf i o.r } ∧
        t.rd (Reg.ARB_PREEMPT_CNT i) = min (s.rd (Reg.ARB_PREEMPT_CNT i) + 1) 0xFFFFFFFF ∧
        t.rd (Reg.ARB_GRANT_CNT i) = min (s.rd (Reg.ARB_GRANT_CNT i) + 1) 0xFFFFFFFF ∧
        (∀ j, j ≠ i → t.arb j = s.arb j) ∧
        regsBut [Reg.ARB_PREEMPT_CNT i, Reg.ARB_GRANT_CNT i, Reg.ARB_QMASK_CNT i] s t ∧ t = { s with regs := t.regs, arbs := t.arbs }) ∧
      (i < 16 ∨ i = 34 → (s.arb i).parked = false → o.prog < o.len → v.arbNext i (v.arb i) (s.arbClassOf i o.r + 1) = none →
        ∃ t, exec (.arbEvaluationPoint i) s = .next t ∧
        t.arb i = v.arb i ∧ regsBut [Reg.ARB_QMASK_CNT i] s t ∧ t = { v with regs := t.regs }) ∧
      (18 ≤ i ∧ i < 34 ∨ 35 ≤ i ∨ i < 35 ∧ i ≠ 16 ∧ i ≠ 17 ∧ ((s.arb i).parked = true ∨ o.len ≤ o.prog) → exec (.arbEvaluationPoint i) s = .next s) ∧
      (i < 16 ∨ i = 34 → (s.arb i).parked = true ∨ o.len ≤ o.prog → v.arbNext i (v.arb i) 0 = some w → ∃ t, exec (.arbRelease i) s = .next t ∧
        (t.arb i).owner = some w ∧ (t.arb i).parked = false ∧ (t.arb i).wait = (s.arb i).wait.filter (fun x => decide (x.r ≠ w.r)) ∧
        t.rd (Reg.ARB_GRANT_CNT i) = min (s.rd (Reg.ARB_GRANT_CNT i) + 1) 0xFFFFFFFF ∧ (∀ j, j ≠ i → t.arb j = s.arb j) ∧
        regsBut [Reg.ARB_GRANT_CNT i, Reg.ARB_QMASK_CNT i] s t ∧ t = { s with regs := t.regs, arbs := t.arbs }) ∧
      (i < 16 ∨ i = 34 → (s.arb i).parked = true ∨ o.len ≤ o.prog → v.arbNext i (v.arb i) 0 = none → ∃ t, exec (.arbRelease i) s = .next t ∧
        ((s.arb i).wait.all (fun x => decide (x.r = o.r)) = true → (t.arb i).parked = true ∧ (t.arb i).owner = some { o with len := 0, prog := 0 }) ∧
        ((s.arb i).wait.any (fun x => decide (x.r ≠ o.r)) = true → (t.arb i).parked = false ∧ (t.arb i).owner = none) ∧
        (t.arb i).wait = (s.arb i).wait ∧ (∀ j, j ≠ i → t.arb j = s.arb j) ∧
        regsBut [Reg.ARB_QMASK_CNT i] s t ∧ t = { s with regs := t.regs, arbs := t.arbs }) ∧
      (35 ≤ i ∨ i ≠ 16 ∧ i ≠ 17 ∧ (s.arb i).parked = false ∧ o.prog < o.len → exec (.arbRelease i) s = .next s) ∧
      (i < 35 → s.atF ((s.arb i).winFrom + s.arbWindow i) = some u → s.fNow ≤ (s.arb i).winFrom + s.arbWindow i → (s.arb i).parked = false →
        o.prog < o.len → exec (.arbWindowEnd i) s = .next (u.setArb i { u.arb i with winFrom := (s.arb i).winFrom + s.arbWindow i, q2 := [], q3 := [] })) ∧
      (i < 35 → s.atF ((s.arb i).winFrom + s.arbWindow i) = some u → s.fNow ≤ (s.arb i).winFrom + s.arbWindow i → (s.arb i).parked = true →
        (s.arb i).wait = [w] → w.cls < 4 → ∃ t, exec (.arbWindowEnd i) s = .next t ∧ (t.arb i).owner = some w ∧ (t.arb i).wait = [] ∧
        (t.arb i).parked = false ∧ t.rd (Reg.ARB_GRANT_CNT i) = min (u.rd (Reg.ARB_GRANT_CNT i) + 1) 0xFFFFFFFF ∧
        regsBut [Reg.ARB_GRANT_CNT i, Reg.ARB_QMASK_CNT i] u t ∧ t = { u with regs := t.regs, arbs := t.arbs }) ∧
      (35 ≤ i → exec (.arbWindowEnd i) s = .next s)) ∧
  (∀ (s u : State) (o : ArbReq), Awake s →
      s.atF ((s.arb 34).since + s.arbCycles 34 (atLeast1 (s.get (F.CANARY_LIMIT_LIMIT 34)))) = some u → (s.arb 34).owner = some o → o.r < 128 →
      ((s.arb 34).parked = false → o.prog < o.len → ∃ t, exec (.canaryBite 34) s = .next t ∧
        t.rd (Reg.CANARY_BITE_CNT 34) = min (u.rd (Reg.CANARY_BITE_CNT 34) + 1) 0xFFFFFFFF ∧
        t.get (F.CANARY_LAST_LAST 34) = o.r ∧ t.on (F.CANARY_STATUS_BITE 34) = true ∧
        ((s.arb 34).wait = [] → (s.arb 34).q2 = [] → (s.arb 34).q3 = [] →
          (t.arb 34).owner = some { o with prog := 0, cls := u.arbClassOf 34 o.r } ∧ (t.arb 34).parked = false) ∧
        (∀ j, j ≠ 34 → t.arb j = u.arb j) ∧
        regsBut [Reg.CANARY_BITE_CNT 34, Reg.CANARY_LAST 34, (F.CANARY_STATUS_BITE 34).reg, Reg.ARB_GRANT_CNT 34, Reg.ARB_QMASK_CNT 34,
          Reg.FAULT_ALERT_SEQ, Reg.FAULT_LOG_NEXT, Reg.FAULT_ALERT_DROP_CNT, Reg.FAULT_STATUS] u t ∧
        t = { u with regs := t.regs, arbs := t.arbs, fault := t.fault, buf := t.buf }) ∧
      ((s.arb 34).parked = true ∨ o.len ≤ o.prog → exec (.canaryBite 34) s = .next u)) ∧
  (∀ (s u : State) (b : Nat) (e : Nat × Nat) (rest : List (Nat × Nat)), Awake s → b < 16 →
      ((s.bankQ b).q = e :: rest →
        s.atF ((s.bankQ b).last + s.arbCycles (18 + b) (atLeast1 (s.get (F.CANARY_LIMIT_LIMIT (18 + b))))) = some u → (u.bankQ b) = s.bankQ b →
        ∃ t, exec (.canaryBite (18 + b)) s = .next t ∧ (t.bankQ b).q = (if (s.bankQ b).bitten = true then rest else e :: rest) ∧
        (t.bankQ b).bitten = (!(s.bankQ b).bitten) ∧ (t.bankQ b).last = u.fNow ∧ (∀ j, j ≠ b → t.bankQ j = u.bankQ j) ∧
        t.rd (Reg.CANARY_BITE_CNT (18 + b)) = min (u.rd (Reg.CANARY_BITE_CNT (18 + b)) + 1) 0xFFFFFFFF ∧
        t.get (F.CANARY_LAST_LAST (18 + b)) = 0 ∧ t.on (F.CANARY_STATUS_BITE (18 + b)) = true ∧ (∀ j, j ≠ 18 + b → t.arb j = u.arb j) ∧
        ((u.arb (18 + b)).wait = [] → (t.arb (18 + b)).owner = none) ∧
        regsBut [Reg.CANARY_BITE_CNT (18 + b), Reg.CANARY_LAST (18 + b), (F.CANARY_STATUS_BITE (18 + b)).reg,
          Reg.ARB_GRANT_CNT (18 + b), Reg.ARB_QMASK_CNT (18 + b),
          Reg.FAULT_ALERT_SEQ, Reg.FAULT_LOG_NEXT, Reg.FAULT_ALERT_DROP_CNT, Reg.FAULT_STATUS] u t ∧
        t = { u with regs := t.regs, arbs := t.arbs, vault := { u.vault with queues := t.vault.queues }, fault := t.fault, buf := t.buf }) ∧
      ((s.bankQ b).q = [] → exec (.canaryBite (18 + b)) s = .next s)) ∧
  (∀ (s : State) (j : FacetJob), Awake s →
      (s.facet.jobs = [j] → j.done = none → s.asm.closed = [] → s.facet.wait = [] → s.drain = s → j.built.frag.kind ≠ .spec →
      ∃ t, exec (.facetCodingDone j.engine) s = .next t ∧ t.sys = s.sys ∧ t.time = s.time ∧
        (s.asm.flush = none → t.tiles = s.tiles ∧ t.asm = s.asm) ∧
        ((t.facet.jobs = [] ∧ t.buf.units.length = s.buf.units.length + 1) ∨
          (t.buf = s.buf ∧ t.facet.jobs.map (fun x => x.done.isSome) = [true]))) ∧
      (s.facet.jobs = [] → fragOut s = s → exec (.facetCodingDone j.engine) s = .next s))

/-- The root's trigger input stage (R159–R164): an accept seen on TRIG_IN in RUNNING, with a token in the bucket, takes the next trigger number and
one token and goes down the drift ports and into the root's own queue; with the bucket empty it is refused and counted; outside RUNNING it is
ignored and counted; the bucket gains a token every 4 slots; a forced accept and TRG_CMD.FORCE act at the stage. an orbit's last slot's word waits
for the next orbit. `u` is the die at the next slot's start. Where a command's condition fails it leaves the die as it is: log 1. That time moves
on to the moment an event carries is log 7. The model's reading or choice here: log 66, 98. -/
def Obligations.RootStageFormsAccepts : Prop :=
  ∀ (s u v : State) (w r named : Nat) (m : TrigMsg), Awake s → s.sys.role = .root → s.time.fRun = true →
    (s.time.counting = true → s.sys.run = .running → s.atSlot (s.time.slots + 1) = some u → s.time.runStart = some r →
      named = u.time.slots - 1 - s.get F.TRG_LAT_IN_DELAY → r ≤ named →
      w < 256 → bitsOf w 7 1 = 1 → bitsOf w 0 3 = 0 → u.calTriggers named = [] → s.trg.forced = false → u.autoDue named = false →
      fragOut u = u → (u.trg.queue.filter (fun e => e.accept)).length + u.trg.ready.length < 1024 →
      m = { word := w, slot := (u.orbitSlotOf named).2, orbit := (u.orbitSlotOf named).1,
            trigger := (s.rd Reg.TRG_EVT + 1) % 2 ^ 32, src := 2 ^ s.get (F.TRG_TYPE_SRC (bitsOf w 3 4)) } →
      (0 < s.trg.tokens → ∃ t, exec (.trigInWord w) s = .next t ∧ t.rd Reg.TRG_EVT = m.trigger ∧
        t.trg = { u.trg with
          tokens := u.trg.tokens - 1, lastNamed := named, queue := u.trg.queue ++ [{ msg := m, apply := u.monoOf m.orbit m.slot + u.domainLat, accept := true, late := false }]
          busyWas := t.trg.busyWas } ∧ (1 < u.trg.tokens → t.trg.busyWas = u.trg.busyWas) ∧
        (u.driftsUp = [] → regsBut [Reg.TRG_EVT] u t ∧ t.ports = u.ports) ∧
        (∀ p, u.driftsUp = [p] → t.ports = (u.sendVc1 p (.trigger m)).ports) ∧
        t.sys = s.sys ∧ t.time = u.time ∧ t.asm = u.asm ∧ t.tiles = u.tiles) ∧
      (s.trg.tokens = 0 → ∃ t, exec (.trigInWord w) s = .next t ∧
        t.rd Reg.TRG_RATE_REJ_CNT = min (u.rd Reg.TRG_RATE_REJ_CNT + 1) 0xFFFFFFFF ∧ regsBut [Reg.TRG_RATE_REJ_CNT] u t ∧
        t = { u with regs := t.regs, trg := { u.trg with lastNamed := named } })) ∧
    (s.time.counting = true → s.sys.run = .ready ∨ s.sys.run = .armed ∨ s.sys.run = .hold → s.atSlot (s.time.slots + 1) = some u →
      bitsOf w 7 1 = 1 → bitsOf w 0 3 = 0 → fragOut u = u →
      ∃ t, exec (.trigInWord w) s = .next t ∧ t.rd Reg.TRG_IGN_CNT = min (u.rd Reg.TRG_IGN_CNT + 1) 0xFFFFFFFF ∧
        regsBut [Reg.TRG_IGN_CNT] u t ∧ t = { u with regs := t.regs, trg := { u.trg with forced := false } }) ∧
    (s.time.counting = true → s.sys.run.isReady = true → s.time.len ≤ s.time.slot + 1 → fragOut s = s →
      exec (.trigInWord w) s = .next { s with time := { s.time with later := s.time.later ++ [.trigWord w] } }) ∧
    (s.sys.run = .safe ∨ s.sys.run.isReady = true ∧ s.time.counting = false → fragOut s = s → ∃ t, exec (.trigInWord w) s = .next t ∧
      t.rd Reg.TRG_IGN_CNT = min (s.rd Reg.TRG_IGN_CNT + bitsOf w 7 1) 0xFFFFFFFF ∧ regsBut [Reg.TRG_IGN_CNT] s t ∧ t = { s with regs := t.regs }) ∧
    (s.atSlot (s.trg.refillAt + 4) = some v → ∃ t, exec .tokenRefill s = .next t ∧ t.trg = { v.trg with
        refillAt := v.time.slots, tokens := min (max 1 (s.get F.TRG_RATE_BURST)) (s.trg.tokens + 1), busyWas := t.trg.busyWas } ∧
      (0 < s.trg.tokens → t.trg.busyWas = v.trg.busyWas) ∧ t = { v with trg := t.trg }) ∧
    (s.sys.run = .running → s.on F.TRG_AUTO_EN = true →
      s.atSlot (s.trg.lastNamed + max 1 (s.get F.TRG_AUTO_TIMEOUT) + 2 + s.get F.TRG_LAT_IN_DELAY) = some v →
      named = v.time.slots - 1 - s.get F.TRG_LAT_IN_DELAY → s.time.runStart = some r → r ≤ named → v.calTriggers named = [] →
      0 < s.trg.tokens → v.driftsUp = [] → (v.trg.queue.filter (fun e => e.accept)).length + v.trg.ready.length < 1024 →
      ∃ t, exec .autoForcedAccept s = .next t ∧ t.rd Reg.TRG_FORCED_CNT = min (v.rd Reg.TRG_FORCED_CNT + 1) 0xFFFFFFFF ∧
        t.rd Reg.TRG_EVT = (v.rd Reg.TRG_EVT + 1) % 2 ^ 32 ∧
        t.trg.queue.map (fun e => (e.msg.word, e.msg.src, e.msg.trigger)) = v.trg.queue.map (fun e => (e.msg.word, e.msg.src, e.msg.trigger)) ++
          [(128 + s.get F.TRG_AUTO_TYPE * 8, 2 ^ 15, (v.rd Reg.TRG_EVT + 1) % 2 ^ 32)] ∧
        t.trg.tokens = v.trg.tokens - 1 ∧ t.trg.lastNamed = named ∧ t.trg.forced = false ∧
        regsBut [Reg.TRG_FORCED_CNT, Reg.TRG_EVT] v t ∧ t = { v with regs := t.regs, trg := t.trg }) ∧
    (s.sys.run ≠ .running ∨ s.on F.TRG_AUTO_EN = false → exec .autoForcedAccept s = .next s) ∧
    (∀ (bar : Bool), s.sys.run.isReady = true → exec (.trgForce bar) s = .next { s with
      trg := { s.trg with forced := s.trg.forced || decide (s.sys.run = .running) }
      bus := { s.bus with held := s.bus.held.filter (fun p => decide (p.1 ≠ Reg.TRG_CMD)) } })

/-- The trigger bus below the root (R165–R174): a TRIGGER message on the shaft port in use is passed down and queued for its apply slot with its
margin noted; at the apply slot an accept in RUNNING takes the trigger number and joins the accept queue, and one that skips a number is counted;
the next queued accept, or else the oldest other waiting retrieval, is issued where there is room; BUSY follows the die's own state and its
children's. Where a command's condition fails it leaves the die as it is: log 1. That time moves on to the moment an event carries is log 7. -/
def Obligations.TriggersAreQueuedAppliedAndIssued : Prop :=
  ∀ (s u : State) (p : Nat) (m : TrigMsg) (e : TrigEntry) (es : List TrigEntry) (f : Frag) (fs : List Frag), Awake s → s.isRoot = false →
    (s.shaftPort = some p → s.otherShaft ≠ some p → s.sys.run ≠ .safe → s.driftsUp = [] → s.time.counting = true →
      bitsOf m.word 7 1 = 1 → (s.trg.queue.filter (fun e => e.accept)).length + s.trg.ready.length < 1024 →
      (s.time.slots ≤ s.monoOf m.orbit m.slot + s.domainLat → ∃ t, exec (.triggerMsgReceived p m) s = .next t ∧
        t.trg = { s.trg with queue := s.trg.queue ++
          [{ msg := m, apply := s.monoOf m.orbit m.slot + s.domainLat, accept := true, late := false }] } ∧
        (s.monoOf m.orbit m.slot + s.domainLat - s.time.slots < 32768 →
          t.get F.TRG_MARGIN_LAST = s.monoOf m.orbit m.slot + s.domainLat - s.time.slots) ∧
        regsBut [Reg.TRG_MARGIN] s t ∧ t = { s with regs := t.regs, trg := t.trg }) ∧
      (s.monoOf m.orbit m.slot + s.domainLat < s.time.slots → ∃ t, exec (.triggerMsgReceived p m) s = .next t ∧
        t.trg = { s.trg with queue := s.trg.queue ++ [{ msg := m, apply := s.time.slots, accept := true, late := true }] } ∧
        t.on F.TRG_STATUS_LATE = true ∧ t.rd Reg.TRG_LATE_CNT = min (s.rd Reg.TRG_LATE_CNT + 1) 0xFFFFFFFF ∧ t.sys = s.sys ∧ t.time = s.time)) ∧
    (s.otherShaft = some p → exec (.triggerMsgReceived p m) s = .next (s.incBy Reg.TREE_ALT_DISCARD_CNT 1)) ∧
    (s.trg.queue = e :: es → e.accept = true → bitsOf e.msg.word 0 3 = 0 → s.atSlot e.apply = some u → fragOut u = u →
      (s.sys.run = .running → s.get F.TRG_MODE_READOUT = 0 → s.matrixOn = true → s.trg.frozen = false → s.trg.releases = [] →
        ∃ t, exec .triggerApply s = .next t ∧ t.trg = { u.trg with queue := es, ready := u.trg.ready ++ [e], evt := e.msg.trigger } ∧
          t.rd Reg.TRG_EVT = e.msg.trigger % 2 ^ 32 ∧ t.rd Reg.TRG_ACCEPT_CNT = min (u.rd Reg.TRG_ACCEPT_CNT + 1) 0xFFFFFFFF ∧
          (e.msg.trigger = (u.trg.evt + 1) % 2 ^ 32 → regsBut [Reg.TRG_EVT, Reg.TRG_ACCEPT_CNT] u t) ∧
          (e.msg.trigger ≠ (u.trg.evt + 1) % 2 ^ 32 → t.on F.TRG_STATUS_SEQ_GAP = true ∧
            t.rd Reg.TRG_SEQ_GAP_CNT = min (u.rd Reg.TRG_SEQ_GAP_CNT + 1) 0xFFFFFFFF) ∧
          t = { u with regs := t.regs, trg := t.trg }) ∧
      (s.sys.run ≠ .running ∨ s.get F.TRG_MODE_READOUT = 1 → ∃ t, exec .triggerApply s = .next t ∧ t.trg = { u.trg with queue := es } ∧
        t.rd Reg.TRG_IGN_CNT = min (u.rd Reg.TRG_IGN_CNT + 1) 0xFFFFFFFF ∧ regsBut [Reg.TRG_IGN_CNT] u t ∧
        t = { u with regs := t.regs, trg := t.trg })) ∧
    (s.trg.queue = [] → fragOut s = s → exec .triggerApply s = .next s) ∧
    (s.trg.ready = e :: es → fragOut s = s → (s.mayIssue = true → exec .acceptIssue s = .next { s with
        trg := { s.trg with ready := es }
        asm := { s.asm with frags := s.asm.frags ++ [{ s.acceptFrag e with kind := if e.tally = true then .tally else .accept, tag := s.asm.nextTag, issued := s.time.slots }]
                            nextTag := (s.asm.nextTag + 1) % 64 } }) ∧
      (s.mayIssue = false → exec .acceptIssue s = .next s)) ∧
    (s.trg.ready = [] → s.asm.waits = f :: fs → fragOut s = s → (s.mayIssue = true →
      exec .acceptIssue s = .next { s with
        asm := { s.asm with frags := s.asm.frags ++ [{ f with tag := s.asm.nextTag, issued := s.time.slots }]
                            nextTag := (s.asm.nextTag + 1) % 64, waits := fs } }) ∧
      (s.mayIssue = false → exec .acceptIssue s = .next s)) ∧
    (s.trg.ready = [] → s.asm.waits = [] → fragOut s = s → exec .acceptIssue s = .next s) ∧
    (s.get F.TRG_BUSY_Q_ON ≤ s.trg.ready.length → s.on F.TRG_STATUS_BUSY = false → s.upPorts = [] →
      ∃ t, exec .busyChange s = .next t ∧ t.on F.TRG_STATUS_BUSY = true ∧ t.trg = { s.trg with ownBusy := true, busyWas := t.trg.busyWas } ∧
        regsBut [Reg.TRG_STATUS] s t ∧ t = { s with regs := t.regs, trg := t.trg }) ∧
    (∀ (busy : Bool), s.driftsUp = [p] → s.ownBusyNow = false → s.on F.TRG_STATUS_BUSY ≠ busy → s.upPorts = [] →
      ∃ t, exec (.busyMsgReceived p busy) s = .next t ∧ t.on F.TRG_STATUS_BUSY = busy ∧ t.trg.kidBusy.contains p = busy ∧
        t.trg.ownBusy = false ∧ regsBut [Reg.TRG_STATUS] s t ∧ t = { s with regs := t.regs, trg := t.trg })

/-- Trigger primitives (R176–R180): the end of slot h + 4 forms the die's own primitive, 0x11 for one tile that meets MULT alone, once, and counts it
late where its group has gone; a child's primitives wait with the group they belong to, or are discarded and counted once it has gone; at its
deadline a group leaves, every slot DEGRADED if a contribution is missing, up the shaft or, at a root, on TPRIM_OUT. Where a command's condition
fails it leaves the die as it is: log 1. That time moves on to the moment an event carries is log 7. Outputs are appended to `out`: log 8. -/
def Obligations.PrimitivesAreFormedMergedAndSent : Prop :=
  ∀ (s u : State) (p slot h k c : Nat) (m : PrimMsg) (g : PrimGroup) (gs : List PrimGroup), Awake s →
    (slot < s.time.len → s.time.slot < s.time.len → h + (s.time.slot + s.time.len - slot) % s.time.len = s.time.slots →
      s.atSlot (h + 5) = some u → s.trg.ownTo ≤ h → s.trg.sentTo ≤ h → s.trg.groups = [] → 1 < (u.groupAt h).count → (u.groupAt h).first ≤ h →
      ∃ t, exec (.selfTriggerEval slot) s = .next t ∧ t.trg.groups.map (fun x => (x.first, x.count, x.kids)) =
          [((u.groupAt h).first, (u.groupAt h).count, [])] ∧
        (∀ x ∈ t.trg.groups, (s.sys.run ≠ .running → sget 256 x.own (h - x.first) = 0) ∧
          (s.sys.run = .running → s.matrixOn = true → s.trg.edges = [(h, k * 64 + c)] → c < 64 → k < 256 →
            bitsOf (s.rd (Reg.TRG_SELF_EN (k / 32))) (k % 32) 1 = 1 → s.get F.TRG_SELF_MULT_N = 1 → s.get F.TRG_SELF_ADJ_N = 0 →
            s.get F.TRG_SELF_COINC_N = 0 → s.trg.injs = [] → sget 256 x.own (h - x.first) = 0x11)) ∧
        t.trg.sentTo = u.trg.sentTo ∧ t = { u with trg := { u.trg with groups := t.trg.groups, ownTo := h + 1 } }) ∧
    (slot < s.time.len → s.time.slot < s.time.len → h + (s.time.slot + s.time.len - slot) % s.time.len = s.time.slots →
      s.atSlot (h + 5) = some u → (s.trg.ownTo ≤ h → h < s.trg.sentTo → ∃ t, exec (.selfTriggerEval slot) s = .next t ∧
        t.rd Reg.TRG_PRIM_LATE_CNT = min (u.rd Reg.TRG_PRIM_LATE_CNT + 1) 0xFFFFFFFF ∧ t.on F.TRG_STATUS_PRIM_LATE = true ∧
        regsBut [Reg.TRG_PRIM_LATE_CNT, Reg.TRG_STATUS] u t ∧ t = { u with regs := t.regs, trg := { u.trg with ownTo := h + 1 } }) ∧
      (h < s.trg.ownTo → exec (.selfTriggerEval slot) s = .next u)) ∧
    (s.driftsUp.contains p = true → s.monoOf m.orbit m.slot < s.trg.sentTo → ∃ t, exec (.primMsgReceived p m) s = .next t ∧
      t.rd Reg.TRG_PRIM_LATE_CNT = min (s.rd Reg.TRG_PRIM_LATE_CNT + 1) 0xFFFFFFFF ∧ t.on F.TRG_STATUS_PRIM_LATE = true ∧
      regsBut [Reg.TRG_PRIM_LATE_CNT, Reg.TRG_STATUS] s t ∧ t = { s with regs := t.regs }) ∧
    (s.driftsUp.contains p = true → s.trg.sentTo ≤ s.monoOf m.orbit m.slot → s.trg.groups = [] →
      0 < (s.groupAt (s.monoOf m.orbit m.slot)).count → exec (.primMsgReceived p m) s = .next { s with
        trg := { s.trg with groups := [{ s.groupAt (s.monoOf m.orbit m.slot) with kids := [(p, m.prims)] }] } }) ∧
    (s.driftsUp.contains p = false → exec (.primMsgReceived p m) s = .next s) ∧
    (s.trg.groups = g :: gs → s.isRoot = false → s.sys.run = .running →
      s.atSlot (g.first + s.get F.TRG_PRIM_LAT - 1 - (s.level - 1) * max 1 (s.get F.TRG_PRIM_HOP)) = some u →
      ∃ t, exec .primDeadline s = .next t ∧ t.trg = { u.trg with
          groups := u.trg.groups.filter (fun x => decide (x.first ≠ g.first)), sentTo := max u.trg.sentTo (g.first + g.count) } ∧
        (u.groupFull g = false → (u.groupPrims g).all (fun x => decide (bitsOf x 7 1 = 1)) = true) ∧ (u.upPorts = [] → t.ports = u.ports ∧ t.out = u.out) ∧
        (u.upPorts = [p] → t.ports = (u.sendVc1 p (.prim { count := g.count, slot := g.slot, orbit := g.orbit, prims := u.groupPrims g })).ports) ∧
        t.sys = u.sys ∧ t.time = u.time ∧ t.asm = u.asm) ∧
    (s.trg.groups = g :: gs → s.isRoot = true → s.sys.run = .running → s.on F.HIF_TPRIM_EN = false →
      s.atSlot (g.first + s.get F.TRG_PRIM_LAT - 1) = some u → u.outHeld = false → ∃ t, exec .primDeadline s = .next t ∧
        t.out = u.out ++ [.tprim (g.first + s.get F.TRG_PRIM_LAT) (u.groupPrims g)] ∧
        (∀ i, i < g.count → sget 0x80 t.trg.drive (g.first + s.get F.TRG_PRIM_LAT + i) = (u.groupPrims g).getD i 0x80) ∧
        t.trg.groups = u.trg.groups.filter (fun x => decide (x.first ≠ g.first)) ∧ t.trg.queue = u.trg.queue ∧
        t.trg.ready = u.trg.ready ∧ t = { u with trg := t.trg, out := t.out }) ∧
    (s.trg.groups = [] → exec .primDeadline s = .next s)

/-- The mask test (R182–R184): an injection with no violation is counted; the first violation freezes capture with its evidence in TRG_MT_* and an
alert; TRG_CMD.EVIDENCE issues the evidence retrieval, or has it wait for room, and TRG_CMD.UNFREEZE ends the freeze at the next slot, in the next
orbit where that is due, with every tile empty; neither does anything without a freeze. Where a command's condition fails it leaves the die as it
is: log 1. That time moves on to the moment an event carries is log 7. -/
def Obligations.MaskTestPassesOrFreezesCapture : Prop :=
  ∀ (s u : State) (w : InjWin) (ws : List InjWin) (k : Nat) (bar : Bool), Awake s →
    (s.trg.tests = w :: ws → s.atSlot (w.last + 5) = some u → s.get F.TRG_MODE_READOUT = 3 → s.get F.TRG_MTEST_CMP ≠ 0 →
      s.trg.frozen = false → s.matrixOn = true →
      ((u.testTiles w).all (fun x => !testViolates (s.get F.TRG_MTEST_CMP) (u.testMaps w x).1 (u.testMaps w x).2) = true →
        ∃ t, exec .maskTestEval s = .next t ∧ t.rd Reg.TRG_MT_PASS_CNT = min (u.rd Reg.TRG_MT_PASS_CNT + 1) 0xFFFFFFFF ∧
          regsBut [Reg.TRG_MT_PASS_CNT] u t ∧ t = { u with regs := t.regs, trg := { u.trg with tests := ws } }) ∧
      (u.testTiles w = [k] → k < 256 → testViolates (s.get F.TRG_MTEST_CMP) (u.testMaps w k).1 (u.testMaps w k).2 = true →
        ∃ t, exec .maskTestEval s = .next t ∧ t.trg = { u.trg with tests := ws, frozen := true, frozenWin := some w } ∧
          t.rd64 Reg.TRG_MT_OBS = (u.testMaps w k).1 ∧ t.rd64 Reg.TRG_MT_EXPV = (u.testMaps w k).2 ∧
          t.rd Reg.TRG_MT_ORBIT = (u.orbitSlotOf w.first).1 % 2 ^ 32 ∧ t.on F.TRG_STATUS_MT_VIOL = true ∧
          t.on F.TRG_STATUS_MT_FROZEN = true ∧ t.tiles = u.tiles ∧ t.asm = u.asm ∧ t.sys = u.sys ∧ t.time = u.time ∧
          regsBut [Reg.TRG_MT_ORBIT, Reg.TRG_MT_POS, Reg.TRG_MT_OBS, Reg.TRG_MT_OBS + 4, Reg.TRG_MT_EXPV, Reg.TRG_MT_EXPV + 4,
            Reg.TRG_STATUS, Reg.FAULT_ALERT_SEQ, Reg.FAULT_LOG_NEXT, Reg.FAULT_ALERT_DROP_CNT, Reg.FAULT_STATUS] u t)) ∧
    (s.trg.tests = w :: ws → s.atSlot (w.last + 5) = some u → s.get F.TRG_MODE_READOUT ≠ 3 ∨ s.trg.frozen = true →
      exec .maskTestEval s = .next { u with trg := { u.trg with tests := ws } }) ∧
    (s.sys.run = .running → s.trg.frozen = true → s.trg.frozenWin = some w → w.first ≤ w.last →
      fragOut s = s → s.mayIssue = true → s.asm.waits = [] → ∃ t, exec (.trgEvidence bar) s = .next t ∧
        t.asm.frags.length = s.asm.frags.length + 1 ∧ t.asm.frags.take s.asm.frags.length = s.asm.frags ∧
        (t.asm.frags.drop s.asm.frags.length).map (fun f => (f.tag, f.kind, f.trig, f.first, f.last)) =
          [(s.asm.nextTag, RKind.evidence, w.first, w.first, w.last)] ∧
        (t.asm.frags.drop s.asm.frags.length).map (fun f => (f.trigger, f.src, f.late)) = [(0xFFFFFFFF, 8192, false)] ∧
        t.regs = s.regs ∧ t = { s with asm := t.asm, bus := t.bus }) ∧
    (s.sys.run = .running → s.trg.frozen = true → s.trg.frozenWin = some w → w.first ≤ w.last →
      fragOut s = s → s.mayIssue = false ∨ s.asm.waits ≠ [] → ∃ t, exec (.trgEvidence bar) s = .next t ∧ t.asm.frags = s.asm.frags ∧
        t.asm.waits.map (fun f => (f.kind, f.trig, f.first, f.last)) = s.asm.waits.map (fun f => (f.kind, f.trig, f.first, f.last)) ++
          [(RKind.evidence, w.first, w.first, w.last)] ∧ t = { s with asm := t.asm, bus := t.bus }) ∧
    (s.sys.run.isReady = true → s.trg.frozen = false →
      (fragOut s = s → ∃ t, exec (.trgEvidence bar) s = .next t ∧ t = { s with bus := t.bus }) ∧
      (∃ t, exec (.trgUnfreeze bar) s = .next t ∧ t = { s with bus := t.bus })) ∧
    (s.sys.run = .running → s.trg.frozen = true → s.time.fRun = true → s.time.counting = true → s.time.len ≤ s.time.slot + 1 →
      ∃ t, exec (.trgUnfreeze bar) s = .next t ∧ t.time.later = s.time.later ++ [.unfreeze] ∧ t = { s with time := t.time, bus := t.bus }) ∧
    (s.trg.tests = [] → exec .maskTestEval s = .next s) ∧
    (s.sys.run = .running → s.trg.frozen = true → s.time.fRun = true → s.time.counting = true → s.atSlot (s.time.slots + 1) = some u →
      ∃ t, exec (.trgUnfreeze bar) s = .next t ∧ t.trg = { u.trg with frozen := false, frozenWin := none } ∧
        t.on F.TRG_STATUS_MT_FROZEN = false ∧ (t.tile k).buf = [] ∧ (t.tile k).drops = [] ∧ (t.tile k).resp = (u.tile k).resp ∧
        regsBut [Reg.TRG_STATUS] u t ∧ t = { u with regs := t.regs, trg := t.trg, tiles := t.tiles, bus := t.bus })

/-- Speculation (R185–R193). Release: a slot that meets the selected condition while nothing forbids it is released and its retrieval issued, or waits
for room; while something forbids it, it is skipped and counted. Resolution at the origin: unstarted, the accept takes its normal retrieval; sent
and not accepted, it is cancelled up the shaft; held and accepted within its window, its header is rewritten in place. Holders consume a CONFIRM
or CANCEL for what they hold, pass on what they have forwarded, and record what they do not know; a NACK returns a slot to normal retrieval; what
is past its time goes. `u` is the die at the moment; nothing else waits to move. Where a command's condition fails it leaves the die as it is: log
1. That time moves on to the moment an event carries is log 7. The model's reading or choice here: log 25, 97. -/
def Obligations.SpeculationReleasesAndResolves : Prop :=
  ∀ (s u : State) (p q slot h : Nat) (m : SpecMsg) (r : Release) (e : TrigEntry) (f : Frag), Awake s →
    (s.get F.TRG_MODE_READOUT = 2 → s.matrixOn = true → slot < s.time.len → s.time.slot < s.time.len →
      h + (s.time.slot + s.time.len - slot) % s.time.len = s.time.slots → s.atSlot (h + 5) = some u → fragOut u = u →
      ((u.condsAt h).1 &&& s.get F.TRG_SPEC_COND ≠ 0 → s.trg.releases.any (fun x => decide (x.h = h)) = false →
        (s.sys.run = .running → s.on F.TRG_STATUS_SPEC_DEMOTED = false → s.trg.demoted = false → s.on F.TRG_STATUS_BUSY = false →
          s.trg.lastRel.all (fun l => decide (l + max 1 (s.get F.TRG_SPEC_PERIOD) ≤ h)) = true → ∃ t, exec (.specRelease slot) s = .next t ∧
          t.rd Reg.TRG_SPEC_SENT = (min (u.rd Reg.TRG_SPEC_SENT + 1) 0xFFFFFFFF) ∧
          t.trg = { u.trg with
            lastRel := some h, releases := u.trg.releases ++ [{ h := h, orbit := (u.orbitSlotOf h).1, slot := (u.orbitSlotOf h).2 }] } ∧
          (u.mayIssue = true → u.asm.waits = [] → t.asm.frags.map (fun f => (f.tag, f.kind, f.trig)) =
              u.asm.frags.map (fun f => (f.tag, f.kind, f.trig)) ++ [(u.asm.nextTag, RKind.spec, h)] ∧
            t.asm.nextTag = (u.asm.nextTag + 1) % 64 ∧ t.asm.waits = []) ∧
          (u.mayIssue = false ∨ u.asm.waits ≠ [] → t.asm.frags = u.asm.frags ∧
            t.asm.waits.map (fun f => (f.kind, f.trig)) = u.asm.waits.map (fun f => (f.kind, f.trig)) ++ [(RKind.spec, h)]) ∧
          regsBut [Reg.TRG_SPEC_SENT] u t ∧ t = { u with regs := t.regs, trg := t.trg, asm := t.asm }) ∧
        (s.sys.run ≠ .running ∨ s.on F.TRG_STATUS_BUSY = true ∨ s.on F.TRG_STATUS_SPEC_DEMOTED = true ∨ s.trg.demoted = true ∨
            s.trg.lastRel.any (fun l => decide (h < l + max 1 (s.get F.TRG_SPEC_PERIOD))) = true → ∃ t,
          exec (.specRelease slot) s = .next t ∧ t.rd Reg.TRG_SPEC_SKIP_CNT = min (u.rd Reg.TRG_SPEC_SKIP_CNT + 1) 0xFFFFFFFF ∧
          regsBut [Reg.TRG_SPEC_SKIP_CNT] u t ∧ t = { u with regs := t.regs })) ∧
      ((u.condsAt h).1 &&& s.get F.TRG_SPEC_COND = 0 ∨ s.trg.releases.any (fun x => decide (x.h = h)) = true →
        exec (.specRelease slot) s = .next u)) ∧
    (s.trg.releases = [r] → r.done = false → s.atSlot (r.h + s.domainLat) = some u → fragOut u = u → u.asm.flush = none →
      (u.relWaits r = true → ∃ t, exec .specResolve s = .next t ∧
        t.trg = { u.trg with ready := u.trg.ready ++ r.accept.toList, releases := [{ r with done := true, res := .cancelled }] } ∧
        t.asm = { u.asm with waits := u.asm.waits.filter (fun f => !r.isFrag f) } ∧ t = { u with trg := t.trg, asm := t.asm }) ∧
      (u.relWaits r = false → u.relIssued r = some f → r.accept = some e → ∃ t, exec .specResolve s = .next t ∧
        t.trg = { u.trg with releases := [{ r with done := true, res := .cancelled }] } ∧
        t.asm.frags = u.asm.frags.map (fun g => if g.tag = f.tag then { u.acceptFrag e with tag := g.tag, issued := g.issued } else g) ∧
        t = { u with trg := t.trg, asm := t.asm }) ∧
      (u.relWaits r = false → u.relIssued r = some f → r.accept = none → ∃ t, exec .specResolve s = .next t ∧
        t.trg = { u.trg with releases := [{ r with done := true, res := .cancelled }] } ∧
        t.asm.frags.any (fun g => decide (g.tag = f.tag)) = false ∧ t.sys = u.sys ∧ t.time = u.time) ∧
      (u.relWaits r = false → u.relIssued r = none → r.accept = none → u.holds { origin := u.dieNo, orbit := r.orbit, slot := r.slot } = false →
        r.left = true → ∃ t, exec .specResolve s = .next t ∧ t.trg = { u.trg with releases := [{ r with done := true, res := .cancelled }] } ∧
        (u.specPorts = [] → t = { u with trg := t.trg }) ∧
        (u.specPorts = [q] → t.rd Reg.TRG_SPEC_CANCELLED = min (u.rd Reg.TRG_SPEC_CANCELLED + 1) 0xFFFFFFFF ∧
          t.ports = (u.sendVc1 q (.cancel { info := 0, origin := u.dieNo, orbit := r.orbit, slot := r.slot, src := 0, trigger := 0 })).ports) ∧
        t.buf = u.buf ∧ t.asm = u.asm ∧ t.sys = u.sys ∧ t.time = u.time) ∧
      (u.relWaits r = false → u.relIssued r = none → r.accept = some e → u.specCovers e = true → s.get F.TALLY_CTRL_SOURCE ≠ 1 →
        u.facet.wait = [] → u.facet.jobs = [] →
        u.holds { origin := u.dieNo, orbit := r.orbit, slot := r.slot } = true → ∃ t, exec .specResolve s = .next t ∧
        t.trg = { u.trg with releases := [{ r with done := true, res := .confirmed }] } ∧
        t.rd Reg.TRG_SPEC_CONFIRMED = min (u.rd Reg.TRG_SPEC_CONFIRMED + 1) 0xFFFFFFFF ∧
        t.buf.units = u.buf.units.map (fun x => if heldUnit { origin := u.dieNo, orbit := r.orbit, slot := r.slot } x then
          { x with part := Part.frag, bytes := rewriteHeader e.msg.src e.msg.trigger x.bytes } else x) ∧
        t.asm = u.asm ∧ t.sys = u.sys ∧ t.time = u.time)) ∧
    (s.trg.releases.all (fun x => x.done) = true → fragOut s = s → exec .specResolve s = .next s) ∧
    (s.driftsUp.contains p = true → s.sys.run ≠ .safe → fragOut s = s →
      (s.holds (specIdOf m) = true → s.facet.wait = [] → s.facet.jobs = [] → (∃ t, exec (.confirmReceived p m) s = .next t ∧
          t.buf.units = s.buf.units.map (fun x => if heldUnit (specIdOf m) x then
            { x with part := Part.frag, bytes := rewriteHeader m.src m.trigger x.bytes } else x) ∧ t.trg = s.trg ∧ t.sys = s.sys ∧ t.time = s.time) ∧
        (∃ t, exec (.cancelReceived p m) s = .next t ∧ t.buf.units = s.buf.units.filter (fun x => !heldUnit (specIdOf m) x) ∧
          t.trg = s.trg ∧ t.sys = s.sys ∧ t.time = s.time)) ∧
      (s.holds (specIdOf m) = false → s.forwardedId (specIdOf m) = true →
        (∃ t, exec (.confirmReceived p m) s = .next t ∧ t.trg = { s.trg with forwarded := s.trg.forwarded.filter (fun f => decide (f.1 ≠ specIdOf m)) } ∧
          (s.specPorts = [q] → t.ports = (s.sendVc1 q (.confirm m)).ports) ∧ (s.specPorts = [] → t = { s with trg := t.trg })) ∧
        (∃ t, exec (.cancelReceived p m) s = .next t ∧ t.trg = { s.trg with forwarded := s.trg.forwarded.filter (fun f => decide (f.1 ≠ specIdOf m)) } ∧
          (s.specPorts = [q] → t.ports = (s.sendVc1 q (.cancel m)).ports) ∧ (s.specPorts = [] → t = { s with trg := t.trg }))) ∧
      (s.holds (specIdOf m) = false → s.forwardedId (specIdOf m) = false → s.trg.table.length < 1024 →
        s.trg.table.any (fun x => decide (x.id = specIdOf m)) = false →
        (∃ t, exec (.confirmReceived p m) s = .next t ∧ t.trg = { s.trg with
          table := s.trg.table ++ [{ id := specIdOf m, confirm := true, msg := m, expire := s.specExpiry (specIdOf m) }] } ∧
          (s.specPorts = [q] → t.ports = (s.sendVc1 q (.confirm m)).ports) ∧ (s.specPorts = [] → t = { s with trg := t.trg })) ∧
        (∃ t, exec (.cancelReceived p m) s = .next t ∧ t.trg = { s.trg with
          table := s.trg.table ++ [{ id := specIdOf m, confirm := false, msg := m, expire := s.specExpiry (specIdOf m) }] } ∧
          (s.specPorts = [q] → t.ports = (s.sendVc1 q (.cancel m)).ports) ∧ (s.specPorts = [] → t = { s with trg := t.trg })))) ∧
    (s.driftsUp.contains p = false ∨ s.sys.run = .safe → fragOut s = s →
      exec (.confirmReceived p m) s = .next s ∧ exec (.cancelReceived p m) s = .next s) ∧
    (s.shaftPort = some p → s.otherShaft ≠ some p → s.on F.TREE_ID_NUMBERED = true → m.origin = s.get F.TREE_ID_DIE → fragOut s = s →
      s.trg.releases = [r] → r.orbit = m.orbit → r.slot = m.slot →
      (r.done = false → r.accept = some e → exec (.nackReceived p m) s =
        .next { s with trg := { s.trg with releases := [], ready := s.trg.ready ++ [e] } }) ∧
      (r.done = true → r.res = .confirmed → r.accept = some e → exec (.nackReceived p m) s = .next { s with trg := { s.trg with
        releases := [{ r with res := .cancelled }], ready := s.trg.ready ++ [{ e with late := true }] } })) ∧
    (s.shaftPort = some p → s.otherShaft ≠ some p → s.on F.TREE_ID_NUMBERED = false ∨ m.origin ≠ s.get F.TREE_ID_DIE → fragOut s = s →
      s.facet.wait = [] → s.facet.jobs = [] → ∃ t, exec (.nackReceived p m) s = .next t ∧
      t.buf.units = s.buf.units.filter (fun x => !heldUnit (specIdOf m) x) ∧
      t.trg = { s.trg with forwarded := s.trg.forwarded.filter (fun f => decide (f.1 ≠ specIdOf m)) } ∧
      (s.holds (specIdOf m) = false → s.routePort m.origin = some q → s.driftsUp.contains q = true → 3 ≤ s.portVersion q → s.sys.run ≠ .hold →
        t.ports = (s.sendVc1 q (.nack m)).ports) ∧
      (s.holds (specIdOf m) = false → s.routePort m.origin = none → t.ports = s.ports) ∧ t.sys = s.sys ∧ t.time = s.time) ∧
    (s.otherShaft = some p → fragOut s = s → ∃ t, exec (.nackReceived p m) s = .next t ∧
      t.rd Reg.TREE_ALT_DISCARD_CNT = min (s.rd Reg.TREE_ALT_DISCARD_CNT + 1) 0xFFFFFFFF ∧
      regsBut [Reg.TREE_ALT_DISCARD_CNT] s t ∧ t = { s with regs := t.regs }) ∧
    (s.otherShaft ≠ some p → s.shaftPort ≠ some p → fragOut s = s → exec (.nackReceived p m) s = .next s) ∧
    (s.ttlDates.contains h = true → s.ttlDates.all (fun y => decide (h ≤ y)) = true → s.atSlot h = some u → fragOut u = u →
      ∃ t, exec .specTtlExpire s = .next t ∧ t.trg.table = u.trg.table.filter (fun e => decide (u.time.slots < e.expire)) ∧
        t.trg.forwarded = u.trg.forwarded.filter (fun f => decide (u.time.slots < u.specExpiry f.1)) ∧ t.trg.queue = u.trg.queue ∧
        (u.buf.units = [] → t.buf = u.buf) ∧ t.sys = u.sys ∧ t.time = u.time) ∧
    (s.ttlDates = [] → fragOut s = s → exec .specTtlExpire s = .next s)

/-- Dumps (R208–R211): TALLY_DUMP with GO starts a dump with a new number, or is skipped and counted while one is active; the sweep writes its begin
and end records into the dump partition, 64 bytes each, and between them records with 2 bytes for each entry, in order, and waits while the
partition has no room. Where a command's condition fails it leaves the die as it is: log 1. -/
def Obligations.DumpsStartAndWriteRecords : Prop :=
  ∀ (s : State) (bar : Bool) (v : Nat) (d : Dump), Awake s → s.isRoot = false →
    (s.sys.run = .running → s.tally.dump = none → ∃ t, exec (.tallyDumpGo bar v) s = .next t ∧
      t.tally = { s.tally with
        dump := some { sel := if v % 16 = 0 then s.tallyEnabled else (v % 16) &&& s.tallyEnabled
                       keep := decide (v / 16 % 2 = 1), id := s.rd Reg.TALLY_DUMP_ID, at' := .first } } ∧
      t.rd Reg.TALLY_DUMP_ID = (s.rd Reg.TALLY_DUMP_ID + 1) % 2 ^ 32 ∧ t.on F.TALLY_STATUS_DUMP_ACTIVE = true ∧
      regsBut [Reg.TALLY_DUMP, Reg.TALLY_DUMP_ID, Reg.TALLY_STATUS] s t ∧ t = { s with regs := t.regs, tally := t.tally, bus := t.bus }) ∧
    (s.sys.run = .running → s.tally.dump = some d → ∃ t, exec (.tallyDumpGo bar v) s = .next t ∧
      t.rd Reg.TALLY_DUMP_SKIP_CNT = min (s.rd Reg.TALLY_DUMP_SKIP_CNT + 1) 0xFFFFFFFF ∧ t.on F.TALLY_STATUS_DUMP_SKIP = true ∧
      regsBut [Reg.TALLY_DUMP, Reg.TALLY_DUMP_SKIP_CNT, Reg.TALLY_STATUS] s t ∧ t = { s with regs := t.regs, bus := t.bus }) ∧
    (s.tally.dump = none ∨ s.tally.dump = some d ∧ s.partFree .dump < ceilDiv (64 + 2 * s.dumpCount d) 64 →
      exec .dumpRecordWrite s = .next s) ∧
    (s.tally.dump = some d → s.hall.e2e.tx = none → s.uplinks = s → ceilDiv (64 + 2 * s.dumpCount d) 64 ≤ s.partFree .dump →
      (d.at' ≠ .first → d.at' ≠ .last → ∃ t, exec .dumpRecordWrite s = .next t ∧ t.buf.units.take s.buf.units.length = s.buf.units ∧
        (t.buf.units.drop s.buf.units.length).map (fun x => (x.stream, x.part, x.bytes.length, (x.bytes.map (fun b => b.toNat)).head?)) =
          [(2, Part.dump, 64 + 2 * s.dumpCount d, some d.at'.code)] ∧ t.tally.dump.map (fun x => (x.sel, x.keep, x.id, x.sent)) =
          some (d.sel, d.keep, d.id, d.sent + 1) ∧ (d.keep = true → s.tally.mem = [] → t.tally.mem = []) ∧ t.sys = s.sys ∧ t.time = s.time) ∧
      (d.at' = .first → ∃ t, exec .dumpRecordWrite s = .next t ∧
        t.tally = { s.tally with dump := some { d with at' := placeAfter d.sel .first, ix := 0, sent := d.sent + 1 } } ∧
        t.buf.units.take s.buf.units.length = s.buf.units ∧
        (t.buf.units.drop s.buf.units.length).map (fun x => (x.stream, x.part, x.bytes.length, (x.bytes.map (fun b => b.toNat)).head?)) =
          [(2, Part.dump, 64, some 1)] ∧ t = { s with regs := t.regs, arbs := t.arbs, tally := t.tally, buf := t.buf }) ∧
      (d.at' = .last → d.keep = true → ∃ t, exec .dumpRecordWrite s = .next t ∧ t.tally = { s.tally with dump := none } ∧
        t.on F.TALLY_STATUS_DUMP_ACTIVE = false ∧ t.buf.units.take s.buf.units.length = s.buf.units ∧
        (t.buf.units.drop s.buf.units.length).map (fun x => (x.stream, x.part, x.bytes.length, (x.bytes.map (fun b => b.toNat)).head?)) =
          [(2, Part.dump, 64, some 15)] ∧
        regsBut [Reg.TALLY_STATUS, Reg.ARB_GRANT_CNT 16, Reg.ARB_GRANT_CNT 17, Reg.ARB_QMASK_CNT 16, Reg.ARB_QMASK_CNT 17] s t ∧
        t = { s with regs := t.regs, arbs := t.arbs, tally := t.tally, buf := t.buf }))

/-- The vault (R218–R220, R224–R227, R361): a slot of the scrubber moves its pointer by the words its period allows; a queued row is copied to a spare
in a quiet window, by the time of a copy, and remapped, or stays with NO_SPARE; a window write stores its entry and leaves the others; a BAR2 read
of the lode map answers the word's bytes with its poison. `v'` is the die once the copy runs, `u` at its end. Where a command's condition fails it
leaves the die as it is: log 1. That time moves on to the moment an event carries is log 7. Outputs are appended to `out`: log 8. The model's
reading or choice here: log 16, 64, 76. -/
def Obligations.VaultScrubsRepairsAndAnswers : Prop :=
  ∀ (s v' u : State) (bar : Bool) (v o n r : Nat) (rest : List Nat) (rp : Repair), Awake s →
    (s.scrubs = true → s.rd Reg.VAULT_SCRUB_PTR < 4194304 → ∃ t, exec .scrubSlot s = .next t ∧
      t.vault.quota = (s.vault.quota + 2 ^ (30 - s.get F.VAULT_SCRUB_PERIOD_LOG2)) % 256 ∧
      t.rd Reg.VAULT_SCRUB_PTR = (s.rd Reg.VAULT_SCRUB_PTR + (s.vault.quota + 2 ^ (30 - s.get F.VAULT_SCRUB_PERIOD_LOG2)) / 256) % 4194304 ∧
      (s.vault.mem = [] → t.vault.mem = []) ∧ t.tally = s.tally ∧ t.tiles = s.tiles ∧ t.sys = s.sys ∧ t.time = s.time) ∧
    (s.scrubs = false → exec .scrubSlot s = .next s) ∧
    (s.sys.run = .ready → s.vault.rows = rest → rest.length < 8 → r = v % 16 * 2048 + v / 16 % 2048 → rest.contains r = false →
      s.vault.done.contains r = false → s.vault.repair = none → ∃ t, exec (.vaultRepairCmd bar v) s = .next t ∧
        t.vault = { s.vault with rows := rest ++ [r] } ∧ t.get F.VAULT_REPAIR_Q_ROWS = rest.length + 1 ∧
        regsBut [Reg.VAULT_CMD, Reg.VAULT_REPAIR_Q] s t ∧ t = { s with regs := t.regs, vault := t.vault, bus := t.bus }) ∧
    (s.sys.run = .ready → r = v % 16 * 2048 + v / 16 % 2048 → 8 ≤ s.vault.rows.length ∨ s.vault.rows.contains r = true ∨
      s.vault.done.contains r = true ∨ s.vault.repair.map (fun x => x.row) = some r → ∃ t, exec (.vaultRepairCmd bar v) s = .next t ∧
        t.vault = s.vault ∧ t.sys = s.sys ∧ t.time = s.time) ∧
    (s.vault.repair.isSome = true ∨ s.vault.rows = [] ∨ s.quietWork = false ∨ s.sys.run = .safe → exec .vaultRepairStart s = .next s) ∧
    (s.vault.repair = none → s.vault.rows = r :: rest → s.quietWork = true → s.sys.run ≠ .safe → rest.length < 16 →
      (s.get (F.VAULT_SPARE_LEFT (r / 2048)) ≠ 0 → ∃ t, exec .vaultRepairStart s = .next t ∧ t.vault = { s.vault with
          rows := rest, repair := some { row := r, spare := 32 - s.get (F.VAULT_SPARE_LEFT (r / 2048)), since := some s.fNow } } ∧
        t.get F.VAULT_REPAIR_Q_ROWS = rest.length ∧ t.on F.VAULT_STATUS_REPAIR_ACTIVE = true ∧
        regsBut [Reg.VAULT_REPAIR_Q, Reg.VAULT_STATUS] s t ∧ t = { s with regs := t.regs, vault := t.vault }) ∧
      (s.get (F.VAULT_SPARE_LEFT (r / 2048)) = 0 → ∃ t, exec .vaultRepairStart s = .next t ∧ t.vault = { s.vault with rows := rest } ∧
        t.on F.VAULT_STATUS_NO_SPARE = true ∧ t.get F.VAULT_REPAIR_Q_ROWS = rest.length ∧ t.sys = s.sys ∧ t.time = s.time)) ∧
    (s.vault.repair = none ∨ s.quietWork = false → exec .vaultRepairDone s = .next s) ∧
    (s.quietWork = true → v' = s.repairRun → v'.vault.repair = some rp →
      v'.atF (rp.since.getD s.fNow + (ceilDiv (128 * updateTime) (atLeast1 (s.rd Reg.WALL_NOM)) - rp.ran)) = some u → u.vault.repair = some rp →
      rp.since.isSome = true → rp.row < 32768 → rp.spare < 32 → 0 < s.get (F.VAULT_SPARE_LEFT (rp.row / 2048)) → ∃ t, exec .vaultRepairDone s = .next t ∧ t.vault.repair = none ∧ t.vault.done.contains rp.row = true ∧
        t.rd Reg.VAULT_REPAIR_CNT = min (u.rd Reg.VAULT_REPAIR_CNT + 1) 0xFFFFFFFF ∧ t.on F.VAULT_STATUS_REPAIR_ACTIVE = false ∧
        t.rd (Reg.VAULT_REPAIR_LOG (32 * (rp.row / 2048) + rp.spare)) = 2 ^ 31 + 2 ^ 30 + rp.row % 2048 ∧
        t.get (F.VAULT_SPARE_LEFT (rp.row / 2048)) = s.get (F.VAULT_SPARE_LEFT (rp.row / 2048)) - 1 ∧
        (u.vault.mem = [] → t.vault.mem = []) ∧ t.tally = u.tally ∧ t.sys = u.sys ∧ t.time = u.time) ∧
    (s.sys.run = .ready ∨ s.sys.run = .armed → s.isRoot = false → o < 16777216 → s.on F.TALLY_CTRL_HBINS = false →
      (s.bankQ (bankOf (o / 4))).q = [] → found (s.vword (o / 4)) = .clean → v < 65536 →
      ∃ t, exec (.vaultWindowWrite bar (0x10000000 + 2 * o) 2 v) s = .next t ∧
        t.vword (o / 4) = fresh72 (setBits (s.vword (o / 4) % 2 ^ 64) (16 * (o % 4)) 16 v) ∧
        (∀ w, w ≠ o / 4 → t.vword w = s.vword w) ∧ t.tally = s.tally ∧ t.sys = s.sys ∧ t.time = s.time ∧
        regsBut [Reg.ARB_GRANT_CNT (18 + bankOf (o / 4)), Reg.ARB_QMASK_CNT (18 + bankOf (o / 4))] s t) ∧
    (s.isRoot = false → s.sys.run = .running ∨ s.sys.run = .hold ∨ s.sys.run = .safe → o < 16777216 → ∃ t,
      exec (.vaultWindowWrite bar (0x10000000 + 2 * o) 2 v) s = .next t ∧ t.vault = s.vault ∧ t.sys = s.sys ∧ t.time = s.time) ∧
    (s.isRoot = false ∨ 33554432 ≤ o → exec (.bar2Read o n) s = .next s) ∧
    (s.isRoot = true → o < 33554432 → o % n = 0 → n = 2 ∨ n = 4 ∨ n = 8 → (s.bankQ (bankOf (o / 8))).q = [] →
      (found (s.vword (o / 8)) = .clean → ∃ t, exec (.bar2Read o n) s = .next t ∧
        t.out = s.out ++ [.readback (bitsOf (s.vword (o / 8) % 2 ^ 64) (8 * (o % 8)) (8 * n)) false] ∧ t.vault.mem = s.vault.mem ∧
        t.sys = s.sys ∧ t.time = s.time ∧ regsBut [Reg.ARB_GRANT_CNT (18 + bankOf (o / 8)), Reg.ARB_QMASK_CNT (18 + bankOf (o / 8))] s t) ∧
      (found (s.vword (o / 8)) = .poisoned → ∃ t, exec (.bar2Read o n) s = .next t ∧
        t.out = s.out ++ [.readback (bitsOf (s.vword (o / 8) % 2 ^ 64) (8 * (o % 8)) (8 * n)) true] ∧ t.vault.mem = s.vault.mem ∧
        t.rd Reg.HIF_POISON_READ_CNT = min (s.rd Reg.HIF_POISON_READ_CNT + 1) 0xFFFFFFFF ∧ t.sys = s.sys ∧ t.time = s.time))

/-- Lanes (R290, R299–R301, R314, R319, R320): block lock and its loss are flagged and counted; eye measurements are published, and the fourth low one
in a row starts a retrain, now or as the lane wakes, whose end updates the calibration record or retires the lane; idle moves adaptation to SLOW
and FREEZE; a fourth failed attempt retires the lane. Where a command's condition fails it leaves the die as it is: log 1. Outputs are appended to
`out`: log 8. -/
def Obligations.LanesLockAdaptAndRetrain : Prop :=
  ∀ (s : State) (l p w h : Nat), Awake s → l < 16 → s.isRetired 5 l = false →
    (s.hostLane l = false → ∃ t, exec (.blockLock l) s = .next t ∧ t.on (F.LANE_STATUS_LOCK l) = true ∧
      t.on (F.LANE_STATUS_NO_SIGNAL l) = false ∧ t.lane l = { s.lane l with attempts := 0 } ∧ (∀ k, k ≠ l → t.lane k = s.lane k) ∧
      (s.portOfLane l = some p → (t.port p).locked = true) ∧ regsBut [Reg.LANE_STATUS l] s t ∧
      t = { s with regs := t.regs, lanes := t.lanes, ports := t.ports }) ∧
    (s.on (F.LANE_STATUS_LOCK l) = true → s.laneExcluded l = false →
      (s.portOfLane l).all (fun q => decide (s.portState q < 2)) = true → ∃ t, exec (.blockLockLoss l w) s = .next t ∧
      t.on (F.LANE_STATUS_LOCK l) = false ∧ t.on (F.LANE_STATUS_LOCK_LOST l) = true ∧
      t.rd (Reg.LANE_HDR_ERR_CNT l) = min (s.rd (Reg.LANE_HDR_ERR_CNT l) + max 16 w) 0xFFFFFFFF ∧
      t.rd (Reg.LANE_LOCK_LOSS_CNT l) = min (s.rd (Reg.LANE_LOCK_LOSS_CNT l) + 1) 0xFFFFFFFF ∧
      regsBut [Reg.LANE_STATUS l, Reg.LANE_HDR_ERR_CNT l, Reg.LANE_LOCK_LOSS_CNT l] s t ∧ t = { s with regs := t.regs }) ∧
    (s.on (F.LANE_STATUS_LOCK l) = true → s.laneExcluded l = true → ∃ t, exec (.blockLockLoss l w) s = .next t ∧
      t.on (F.LANE_STATUS_LOCK l) = false ∧ regsBut [Reg.LANE_STATUS l] s t ∧ t = { s with regs := t.regs }) ∧
    (s.on (F.LANE_STATUS_LOCK l) = false → exec (.blockLockLoss l w) s = .next s) ∧
    (w < 128 → h < 256 →
      (s.get (F.LANE_EQ_EYE_MIN l) ≤ w ∨ (s.lane l).lowEyes < 3 → ∃ t, exec (.eyeMeasure l w h) s = .next t ∧ t.get (F.LANE_EYE_WIDTH l) = w ∧
        t.get (F.LANE_EYE_HEIGHT l) = h ∧
        (t.lane l).lowEyes = (if s.get (F.LANE_EQ_EYE_MIN l) ≤ w then 0 else (s.lane l).lowEyes + 1) ∧ (∀ k, k ≠ l → t.lane k = s.lane k) ∧
        regsBut [Reg.LANE_EYE l] s t ∧ t = { s with regs := t.regs, lanes := t.lanes }) ∧
      (w < s.get (F.LANE_EQ_EYE_MIN l) → (s.lane l).lowEyes = 3 → (s.lane l).rxSleep = false → s.get (F.LANE_STATUS_ADAPT l) ≠ 0 →
        s.get (F.FAULT_POLICY_LIMIT 5) = 255 → sget 0 s.fault.strikes (5 * 2 ^ 20 + l) < 200 →
        ∃ t, exec (.eyeMeasure l w h) s = .next t ∧ t.get (F.LANE_EYE_WIDTH l) = w ∧ t.get (F.LANE_EYE_HEIGHT l) = h ∧
        t.on (F.LANE_STATUS_RETRAIN l) = true ∧ t.get (F.LANE_STATUS_ADAPT l) = 0 ∧ (t.lane l).rxHeld = true ∧ (t.lane l).lowEyes = 0 ∧
        t.rd (Reg.LANE_RETRAIN_CNT l) = min (s.rd (Reg.LANE_RETRAIN_CNT l) + 1) 0xFFFFFFFF ∧
        (s.portOfLane l = some p → t.out = s.out ++ [.block p 0xC3 (2 ^ s.laneIndex p l)]) ∧ t.sys = s.sys ∧ t.time = s.time)) ∧
    (w < 128 → h < 256 → w < s.get (F.LANE_EQ_EYE_MIN l) → 3 ≤ (s.lane l).lowEyes → (s.lane l).rxSleep = true → ∃ t, exec (.eyeMeasure l w h) s = .next t ∧
      t.lane l = { s.lane l with lowEyes := 0, trainDue := true } ∧ (∀ k, k ≠ l → t.lane k = s.lane k) ∧ regsBut [Reg.LANE_EYE l] s t ∧
      t = { s with regs := t.regs, lanes := t.lanes }) ∧
    (s.get (F.LANE_STATUS_ADAPT l) ≠ 0 → exec (.laneRetrainDone l w) s = .next s) ∧
    (s.get (F.LANE_STATUS_ADAPT l) = 0 → w < s.get (F.LANE_EQ_EYE_MIN l) → s.portOfLane l = none → ∃ t, exec (.laneRetrainDone l w) s = .next t ∧
      t.isRetired 5 l = true ∧ t.on (F.LANE_STATUS_RETIRED l) = true ∧ t.on (F.LANE_STATUS_RX_AWAKE l) = false ∧ t.sys.run = s.sys.run ∧ t.time = s.time) ∧
    (s.get (F.LANE_STATUS_ADAPT l) = 0 → s.get (F.LANE_EQ_EYE_MIN l) ≤ w → w < 256 →
      (s.portOfLane l).all (fun q => !(s.port q).retrain) = true → ∃ t, exec (.laneRetrainDone l w) s = .next t ∧
      t.get (F.LANE_STATUS_ADAPT l) = 1 ∧ t.rd (Reg.LANE_CAL_CNT l) = (s.rd (Reg.LANE_CAL_CNT l) + 1) % 2 ^ 32 ∧
      t.get (F.LANE_CAL_QUAL_QUAL l) = w % 2 ^ (F.LANE_CAL_QUAL_QUAL l).w ∧ t.rd (Reg.LANE_CAL_WALL l) = s.wallSec % 2 ^ 32 ∧
      ((s.lane l).rxHeld = true → (t.lane l).rxHeld = false ∧ (t.lane l).rejoin = true ∧
        (s.portOfLane l = some p → t.out = s.out ++ [.block p 0xC3 (2 ^ s.laneIndex p l + 16)])) ∧
      ((s.lane l).rxHeld = false → t.lane l = s.lane l ∧ t.out = s.out) ∧ (∀ k, k ≠ l → t.lane k = s.lane k) ∧
      regsBut [Reg.LANE_STATUS l, Reg.LANE_CAL_CNT l, Reg.LANE_CAL_WALL l, Reg.LANE_CAL_WALL l + 4, Reg.LANE_CAL_WALL l + 8,
        Reg.LANE_CAL_QUAL l] s t ∧ t = { s with regs := t.regs, lanes := t.lanes, out := t.out }) ∧
    (s.get (F.LANE_STATUS_ADAPT l) = 1 → ∃ t, exec (.eqSlow l) s = .next t ∧ t.get (F.LANE_STATUS_ADAPT l) = 2 ∧
      regsBut [Reg.LANE_STATUS l] s t ∧ t = { s with regs := t.regs }) ∧
    (s.get (F.LANE_STATUS_ADAPT l) = 2 → ∃ t, exec (.eqFreeze l) s = .next t ∧ t.get (F.LANE_STATUS_ADAPT l) = 3 ∧
      regsBut [Reg.LANE_STATUS l] s t ∧ t = { s with regs := t.regs }) ∧
    (s.on (F.LANE_STATUS_LOCK l) = false → s.hostLane l = false →
      (∃ t, exec (.trainAttemptTimeout l false) s = .next t ∧ t.on (F.LANE_STATUS_NO_SIGNAL l) = true ∧
        regsBut [Reg.LANE_STATUS l] s t ∧ t = { s with regs := t.regs }) ∧
      ((s.lane l).attempts < 3 → exec (.trainAttemptTimeout l true) s =
        .next (s.setLane l { s.lane l with attempts := (s.lane l).attempts + 1 })) ∧
      (3 ≤ (s.lane l).attempts → ∃ t, exec (.trainAttemptTimeout l true) s = .next t ∧ t.isRetired 5 l = true ∧
        t.on (F.LANE_STATUS_RETIRED l) = true ∧ t.on (F.LANE_STATUS_RX_AWAKE l) = false ∧ t.on (F.LANE_STATUS_TX_AWAKE l) = false ∧
        t.sys.run = s.sys.run ∧ t.time = s.time))

/-- Blocks that steer a port's striping (R291–R294, R302–R307): unknown blocks are counted; SUSPEND and RESUME mark the suspended channel; ABORT
returns the frame's credit; ALIGN goes out on every awake lane and keeps or loses a lane's place; HOLD, SLEEP and waking change the lanes in use.
Where a command's condition fails it leaves the die as it is: log 1. Outputs are appended to `out`: log 8. The model's reading or choice here: log
37. -/
def Obligations.PortBlocksSteerTheStriping : Prop :=
  ∀ (s : State) (p v l n c k : Nat), Awake s → p < 16 → l < 16 → v < 3 →
    (∃ t, exec (.badControlBlock p) s = .next t ∧ t.rd (Reg.PORT_BAD_BLOCK_CNT p) = min (s.rd (Reg.PORT_BAD_BLOCK_CNT p) + 1) 0xFFFFFFFF ∧
      regsBut [Reg.PORT_BAD_BLOCK_CNT p] s t ∧ t = { s with regs := t.regs }) ∧
    (∃ t, exec (.abortBlock p v n) s = .next t ∧ ((t.port p).vc v).given = (((s.port p).vc v).given + (n + 63) / 64) % 2 ^ 16 ∧
      ((t.port p).vc v).rxSeq = ((s.port p).vc v).rxSeq ∧
      t.out = s.out ++ [.block p 0xAA (v + (((s.port p).vc v).given + (n + 63) / 64) % 2 ^ 16 * 256)] ∧
      (∀ q, q ≠ p → t.port q = s.port q) ∧ t = { s with ports := t.ports, out := t.out }) ∧
    (2 ≤ s.portVersion p → exec (.suspendBlock p v) s = .next (s.setPort p { s.port p with susp := some v })) ∧
    (s.portVersion p < 2 → exec (.suspendBlock p v) s = .next s) ∧
    ((s.port p).susp = some v → exec (.resumeBlock p v) s = .next (s.setPort p { s.port p with susp := none })) ∧
    ((s.port p).susp ≠ some v → exec (.resumeBlock p v) s = .next s) ∧
    (s.laneExcluded l = false → s.isRetired 5 l = false → k ≤ 64 → (s.lane l).rejoin = false →
      ((s.lane l).align = none ∨ (s.lane l).align = some c → exec (.alignReceived l c k true) s =
        .next (s.setLane l { s.lane l with lost := false, align := some ((c + 1) % 2 ^ 16) })) ∧
      (s.get (F.FAULT_POLICY_LIMIT 5) = 255 → sget 0 s.fault.strikes (5 * 2 ^ 20 + l) < 200 → ∃ t, exec (.alignReceived l c k false) s = .next t ∧
        (t.lane l).lost = true ∧ (t.lane l).align = none ∧ sget 0 t.fault.strikes (5 * 2 ^ 20 + l) = sget 0 s.fault.strikes (5 * 2 ^ 20 + l) + 1 ∧
        t.sys = s.sys ∧ t.time = s.time)) ∧
    (s.laneExcluded l = true ∨ s.isRetired 5 l = true → exec (.alignReceived l c k true) s = .next s) ∧
    (s.laneExcluded l = false → s.isRetired 5 l = false → k ≤ 64 → (s.lane l).rejoin = true → s.on (F.LANE_STATUS_LOCK l) = true →
      exec (.alignReceived l c k true) s = .next (s.setLane l { s.lane l with rejoin := false, lost := false, align := some ((c + 1) % 2 ^ 16) })) ∧
    (s.laneExcluded l = false → s.isRetired 5 l = false → 64 < k → ∃ t, exec (.alignReceived l c k true) s = .next t ∧
      t.isRetired 5 l = true ∧ t.sys.run = s.sys.run ∧ t.time = s.time) ∧
    (4 ≤ s.portState p → s.portState p ≤ 6 → exec (.alignCadence p) s = .next { s with
      out := s.out ++ (s.txLanes p).map (fun x => .block p 0x99 (s.laneIndex p x + (s.port p).count * 256))
      ports := (s.setPort p { s.port p with count := ((s.port p).count + 1) % 2 ^ 16 }).ports }) ∧
    (s.portState p < 4 → exec (.alignCadence p) s = .next s) ∧
    ((s.port p).lanes = [l] →
      (∃ t, exec (.holdBlock p 1 false) s = .next t ∧ (t.lane l).txHeld = true ∧ (∀ x, x ≠ l → t.lane x = s.lane x) ∧
        t = { s with lanes := t.lanes }) ∧
      ((s.port p).waiting = [] → (s.port p).replay.all (fun f => !f.again) = true → ∃ t, exec (.holdBlock p 1 true) s = .next t ∧ (t.lane l).txHeld = false ∧ (t.port p).count = ((s.port p).count + 1) % 2 ^ 16 ∧
        t.regs = s.regs ∧ t.sys = s.sys ∧ t.time = s.time) ∧
      ((s.lane l).waking = true → ∃ t, exec (.laneWakeReady p) s = .next t ∧ (t.lane l).waking = false ∧
        (t.port p).count = ((s.port p).count + 1) % 2 ^ 16 ∧ t.regs = s.regs ∧ t.sys = s.sys ∧ t.time = s.time)) ∧
    (c ≠ l → c < 16 → (s.port p).lanes = [l, c] → (s.lane c).rxSleep = false → (s.lane l).rxSleep = false →
      ∃ t, exec (.sleepBlock p 1) s = .next t ∧ (t.lane c).rxSleep = true ∧ t.lane l = s.lane l ∧
        (s.on (F.LANE_CTRL_RX_FOLLOW c) = true → t.on (F.LANE_STATUS_RX_AWAKE c) = false) ∧ regsBut [Reg.LANE_STATUS c] s t ∧
        t = { s with regs := t.regs, lanes := t.lanes }) ∧
    (c ≠ l → c < 16 → (s.port p).lanes = [l, c] → (s.lane c).rxSleep = true → (s.lane l).rxSleep = false →
      ∃ t, exec (.sleepBlock p 3) s = .next t ∧ (t.lane c).rxSleep = false ∧ (t.lane c).rejoin = true ∧
        t.on (F.LANE_STATUS_RX_AWAKE c) = true ∧ regsBut [Reg.LANE_STATUS c] s t ∧ t = { s with regs := t.regs, lanes := t.lanes })

/-- Credit, acknowledgement and replay (R309, R310, R312): CREDIT sets the channel's units and lets what waits go; CREDIT goes out for every channel
at refresh; ACK frees the frames up to its SEQ, and what the buffer held for them; NAK and a time-out send the frames from a SEQ on again, in
order, as far as credit allows; a frame sent too often makes the port retrain. `u` is the die once TMO blocks are over. Where a command's
condition fails it leaves the die as it is: log 1. That time moves on to the moment an event carries is log 7. Outputs are appended to `out`: log
8. The model's reading or choice here: log 15, 29, 103. -/
def Obligations.CreditAckAndReplay : Prop :=
  ∀ (s u : State) (p v x : Nat) (f g : TxFrame), Awake s → p < 16 → v < 3 →
    ((s.port p).waiting = [] → (s.port p).replay.all (fun f => !f.again) = true → ∃ t, exec (.creditBlock p v x) s = .next t ∧
      ((t.port p).vc v).cum = x % 2 ^ 16 ∧ ((t.port p).vc v).start = ((s.port p).vc v).start ∧ ((t.port p).vc v).taken = ((s.port p).vc v).taken ∧
      (t.port p).replay = (s.port p).replay ∧ (∀ q, q ≠ p → t.port q = s.port q) ∧ t = { s with ports := t.ports }) ∧
    (s.portUp? p = true → exec (.creditRefresh p) s = .next { s with out := s.out ++ [.block p 0xAA ((s.port p).v0.given * 256),
      .block p 0xAA (1 + (s.port p).v1.given * 256), .block p 0xAA (2 + (s.port p).v2.given * 256)] }) ∧
    (s.portUp? p = false → exec (.creditRefresh p) s = .next s) ∧
    ((s.port p).waiting = [] → (s.port p).sess.ends = none → v < 2 ∨ s.portKind p ≠ 1 ∧ s.portKind p ≠ 2 → ∃ t, exec (.ackBlock p v x) s = .next t ∧
      (t.port p).replay = (s.port p).replay.filter (fun f => !(decide (f.vc = v) && seqLe f.seq x)) ∧
      (∀ q, q ≠ p → t.port q = s.port q) ∧ t = { s with ports := t.ports }) ∧
    ((s.port p).waiting = [] → (s.port p).sess.ends = none → v = 2 → s.portKind p = 1 ∨ s.portKind p = 2 → ∃ t, exec (.ackBlock p v x) s = .next t ∧
      (t.port p).replay = (s.port p).replay.filter (fun f => !(decide (f.vc = v) && seqLe f.seq x)) ∧
      t.buf.units = (s.buf.units.map (ackUnit (s.uplinkOf p) x)).filter (fun b => !(b.left && b.seqA.isNone && b.seqB.isNone)) ∧
      (∀ q, q ≠ p → t.port q = s.port q) ∧ t = { s with ports := t.ports, buf := t.buf }) ∧
    ((s.port p).waiting = [] → (s.port p).replay = [f] → f.vc = v → s.get (F.PORT_REPLAY_LIMIT p) < f.sends →
      s.get (F.FAULT_POLICY_LIMIT 6) = 255 → sget 0 s.fault.strikes (6 * 2 ^ 20 + p) < 200 → ∃ t, exec (.nakBlock p v f.seq) s = .next t ∧
      (t.port p).retrain = true ∧ (t.port p).replay = [{ f with again := true }] ∧ t.out = s.out ∧
      ((s.port p).lanes.all (fun l => decide (t.get (F.LANE_STATUS_ADAPT l) = 0))) = true ∧
      sget 0 t.fault.strikes (6 * 2 ^ 20 + p) = sget 0 s.fault.strikes (6 * 2 ^ 20 + p) + 1 ∧ t.sys = s.sys ∧ t.time = s.time) ∧
    ((s.port p).replay.all (fun f => decide (f.vc ≠ v)) = true → exec (.replayTimeout p v) s = .next s) ∧
    ((s.port p).waiting = [] → s.framesWait p = false → (s.port p).replay = [f, g] → f.vc = v → g.vc = v → f.again = false → g.again = false →
      g.seq = f.seq + 1 → g.seq < 2 ^ 16 → f.sends ≤ s.get (F.PORT_REPLAY_LIMIT p) → g.sends ≤ s.get (F.PORT_REPLAY_LIMIT p) →
      units f.bytes.length + units g.bytes.length ≤ ((s.port p).vc v).avail →
      (∃ t, exec (.nakBlock p v f.seq) s = .next t ∧ t.out = s.out ++ [.frame p f.bytes, .frame p g.bytes] ∧
        (t.port p).replay = [{ f with sends := f.sends + 1 }, { g with sends := g.sends + 1 }] ∧
        t.rd (Reg.PORT_REPLAY_CNT p) = min (s.rd (Reg.PORT_REPLAY_CNT p) + 2) 0xFFFFFFFF ∧
        ((t.port p).vc v).taken = ((s.port p).vc v).taken + units f.bytes.length + units g.bytes.length ∧
        regsBut [Reg.PORT_REPLAY_CNT p] s t ∧ t = { s with regs := t.regs, ports := t.ports, out := t.out }) ∧
      (∃ t, exec (.nakBlock p v g.seq) s = .next t ∧ t.out = s.out ++ [.frame p g.bytes] ∧
        (t.port p).replay = [f, { g with sends := g.sends + 1 }]) ∧
      (s.atF (((s.port p).vc v).since + s.blockTime p (max 1 (s.get (F.PORT_REPLAY_TMO p)))) = some u → ∃ t,
        exec (.replayTimeout p v) s = .next t ∧ t.out = u.out ++ [.frame p f.bytes, .frame p g.bytes] ∧ t.time = u.time ∧
        (t.port p).replay = [{ f with sends := f.sends + 1 }, { g with sends := g.sends + 1 }]))

/-- A frame arrives on a port in UP (R260, R261, R308, R310, R311, R325): with a wrong CRC or an unexpected SEQ it is counted, its credit returned and
NAK sent, once; the expected one is acknowledged, and a message frame's credit returns; a DATA frame's pieces pass into the buffer as far as there
is room; a frame that a far-end loop returns is only checked. Outputs are appended to `out`: log 8. The model's reading or choice here: log 13,
28. -/
def Obligations.FramesAreCheckedAndTaken : Prop :=
  ∀ (s : State) (p v : Nat) (bs : List Byte) (pc : Piece), Awake s → p < 16 → s.portUp? p = true → s.eqTrack p = s →
    v = (byteField bs 1 1) % 4 → v < 3 →
    (crcOk bs = false → ∃ t, exec (.frameReceived p false bs) s = .next t ∧
      t.rd (Reg.PORT_CRC_ERR_CNT p) = min (s.rd (Reg.PORT_CRC_ERR_CNT p) + 1) 0xFFFFFFFF ∧
      ((t.port p).vc v).rxSeq = ((s.port p).vc v).rxSeq ∧ ((t.port p).vc v).nakked = true ∧
      ((t.port p).vc v).given = (((s.port p).vc v).given + units bs.length) % 2 ^ 16 ∧
      t.out = s.out ++ [.block p 0xAA (v + (((s.port p).vc v).given + units bs.length) % 2 ^ 16 * 256)] ++
        (if ((s.port p).vc v).nakked then [] else [.block p 0xB5 (v + ((s.port p).vc v).rxSeq * 256)]) ∧
      regsBut [Reg.PORT_CRC_ERR_CNT p] s t ∧ t = { s with regs := t.regs, ports := t.ports, out := t.out }) ∧
    (crcOk bs = true → byteField bs 4 2 ≠ ((s.port p).vc v).rxSeq → ∃ t, exec (.frameReceived p false bs) s = .next t ∧
      t.rd (Reg.PORT_SEQ_ERR_CNT p) = min (s.rd (Reg.PORT_SEQ_ERR_CNT p) + 1) 0xFFFFFFFF ∧
      ((t.port p).vc v).rxSeq = ((s.port p).vc v).rxSeq ∧ ((t.port p).vc v).nakked = true ∧
      regsBut [Reg.PORT_SEQ_ERR_CNT p] s t ∧ t = { s with regs := t.regs, ports := t.ports, out := t.out }) ∧
    (crcOk bs = true → byteField bs 4 2 = ((s.port p).vc v).rxSeq → (s.port p).sess = {} → v = 1 → byteField bs 0 1 = 2 →
      bitsOf (byteField bs 12 2) 0 1 = 0 → badMsgs (bs.length - 20) ((bs.drop 16).take (bs.length - 20)) = false →
      ∃ t, exec (.frameReceived p false bs) s = .next t ∧ (t.port p).v1.rxSeq = ((s.port p).v1.rxSeq + 1) % 2 ^ 16 ∧
        (t.port p).v1.nakked = false ∧ (t.port p).v1.given = ((s.port p).v1.given + units bs.length) % 2 ^ 16 ∧
        t.out = s.out ++ [.block p 0xB4 (1 + (s.port p).v1.rxSeq * 256),
          .block p 0xAA (1 + ((s.port p).v1.given + units bs.length) % 2 ^ 16 * 256)] ∧
        (∀ q, q ≠ p → t.port q = s.port q) ∧ t = { s with ports := t.ports, out := t.out }) ∧
    ((s.port p).stage = [{ units := 5, pieces := [pc] }] → pc.stream = 0 → pc.q = false → pc.first = true → pc.last = true →
      pc.abort = false → s.buf.units = [] → pc.bytes.length ≤ 4000 → s.uplinks = s → ∃ t, exec (.rxStageAdmit p) s = .next t ∧ (t.port p).stage = [] ∧
        t.buf.units =
          [{ stream := 0, origin := pc.origin, q := false, port := p, part := .frag, bytes := pc.bytes, cuts := [pc.bytes.length], orbit := s.time.orbit }] ∧
        (t.port p).v2.given = ((s.port p).v2.given + 5) % 2 ^ 16 ∧
        t.out = s.out ++ [.block p 0xAA (2 + ((s.port p).v2.given + 5) % 2 ^ 16 * 256)] ∧
        regsBut [Reg.ARB_GRANT_CNT 16, Reg.ARB_GRANT_CNT 17, Reg.ARB_QMASK_CNT 16, Reg.ARB_QMASK_CNT 17] s t ∧
        t = { s with regs := t.regs, arbs := t.arbs, ports := t.ports, buf := t.buf, out := t.out }) ∧
    ((s.port p).stage = [] → s.uplinks = s → ∃ t, exec (.rxStageAdmit p) s = .next t ∧ (t.port p).stage = [] ∧ t.buf = s.buf ∧ t.out = s.out ∧
      t.regs = s.regs ∧ t.sys = s.sys ∧ t.time = s.time) ∧
    (∃ t, exec (.frameReceived p true bs) s = .next t ∧ (crcOk bs = false → t.rd (Reg.PORT_LOOP_ERR_CNT p) =
      min (s.rd (Reg.PORT_LOOP_ERR_CNT p) + 1) 0xFFFFFFFF) ∧ regsBut [Reg.PORT_LOOP_ERR_CNT p] s t ∧ t = { s with regs := t.regs })

/-- A link comes up (R314, R316, R318): BASE to NEGOTIATE with the locked lanes; the third unchanged TRAIN set, READY on both sides, leads to SWITCH,
to DESKEW where N = 0, or raises RATE_FAULT; 256 training blocks later DESKEW; aligned lanes lead to UP, or to AUTH where authentication is
wanted. Where a command's condition fails it leaves the die as it is: log 1. Outputs are appended to `out`: log 8. The model's reading or choice
here: log 18, 36, 38, 106. -/
def Obligations.LinksTrainUpToUp : Prop :=
  ∀ (s : State) (p l : Nat) (ls : List Nat) (ts : TrainSet), Awake s → p < 16 → l < 16 →
    (s.portState p = 1 → (s.lanesFor p).filter (fun k => s.on (F.LANE_STATUS_LOCK k)) = l :: ls → ∃ t, exec (.portBaseDone p) s = .next t ∧
      t.portState p = 2 ∧ (t.port p).lanes = l :: ls.take 3 ∧ t.get (F.PORT_STATUS_WIDTH p) = (ls.take 3).length ∧
      t.get (F.PORT_STATUS_TLANE p) = l ∧ t.out.length = s.out.length + 4 * ((ls.take 3).length + 1) ∧ regsBut [Reg.PORT_STATUS p] s t ∧
      t = { s with regs := t.regs, ports := t.ports, out := t.out }) ∧
    (s.portState p ≠ 1 → exec (.portBaseDone p) s = .next s) ∧
    (s.portState p = 2 → (s.port p).set ≠ some ts → (s.port p).ready = true → exec (.trainSetReceived p ts) s =
      .next (s.setPort p { s.port p with set := some ts, same := 1 })) ∧
    (s.portState p = 2 → (s.port p).set ≠ some ts → (s.port p).ready = false → ∃ t, exec (.trainSetReceived p ts) s = .next t ∧
      t.out.length = s.out.length + 4 * (s.port p).lanes.length ∧ (t.port p).set = some ts ∧ (t.port p).same = 1 ∧ (t.port p).ready = true ∧
      (∀ q, q ≠ p → t.port q = s.port q) ∧ t = { s with ports := t.ports, out := t.out }) ∧
    (s.portState p = 2 → (s.port p).set = some ts → (s.port p).ready = true → (s.port p).same ≠ 2 ∨ ts.ready = false →
      exec (.trainSetReceived p ts) s = .next (s.setPort p { s.port p with same := (s.port p).same + 1 })) ∧
    (s.portState p ≠ 2 → exec (.trainSetReceived p ts) s = .next s) ∧
    (s.portState p = 2 → (s.port p).set = some ts → (s.port p).same = 2 → (s.port p).ready = true → ts.ready = true → s.portKind p = 3 →
      s.get F.HALL_AUTH_MODE = 0 → ts.auth = 0 → 3 ≤ ts.version → 3 ≤ s.get (F.PORT_VER_MAX p) →
      (s.get (F.PORT_RATE_N p) = 0 → ∃ t, exec (.trainSetReceived p ts) s = .next t ∧ t.portState p = 4 ∧ t.portVersion p = 3 ∧
        t.rd64 (Reg.PORT_FEAT p) = featFor 3 ((s.rd64 (Reg.PORT_FEAT_OFFER p) % 512) &&& ts.feat) ∧ (t.port p).peerVc2 = ts.vc2 ∧
        t.get (F.PORT_PARTNER_ROLE p) = ts.role % 2 ^ (F.PORT_PARTNER_ROLE p).w ∧ (∀ q, q ≠ p → t.port q = s.port q) ∧
        regsBut [Reg.PORT_STATUS p, Reg.PORT_FEAT p, Reg.PORT_FEAT p + 4, (F.PORT_PARTNER_ROLE p).reg] s t ∧
        t = { s with regs := t.regs, ports := t.ports }) ∧
      (s.get (F.PORT_RATE_N p) ≠ 0 → s.rateRefused (s.get (F.PORT_RATE_N p)) (s.get (F.PORT_RATE_D p)) ts.maxRate = false →
        ∃ t, exec (.trainSetReceived p ts) s = .next t ∧ t.portState p = 3 ∧ t.portVersion p = 3 ∧ (t.port p).peerVc2 = ts.vc2 ∧
        t.out.length = s.out.length + 4 * (s.port p).lanes.length ∧ t.sys = s.sys ∧ t.time = s.time) ∧
      (s.get (F.PORT_RATE_N p) ≠ 0 → s.rateRefused (s.get (F.PORT_RATE_N p)) (s.get (F.PORT_RATE_D p)) ts.maxRate = true →
        ∃ t, exec (.trainSetReceived p ts) s = .next t ∧ t.portState p = 2 ∧ t.on (F.PORT_STATUS_RATE_FAULT p) = true ∧
        t.portVersion p = s.portVersion p ∧ t.sys = s.sys ∧ t.time = s.time)) ∧
    (s.portState p = 3 → (s.port p).lanes = [l] → ∃ t, exec (.switchDone p) s = .next t ∧ t.portState p = 4 ∧
      t.get (F.LANE_STATUS_ADAPT l) = 0 ∧ regsBut [Reg.PORT_STATUS p, Reg.LANE_STATUS l] s t ∧ t = { s with regs := t.regs }) ∧
    (s.portState p ≠ 3 → exec (.switchDone p) s = .next s) ∧ (s.portState p ≠ 4 → exec (.deskewDone p) s = .next s) ∧
    (s.portState p = 4 → s.authWanted p = false → s.portKind p = 3 → s.on F.TREE_ID_NUMBERED = false → s.portFeat p 7 = false →
      s.on (F.PORT_PARTNER_BENCH p) = false → ∃ t, exec (.deskewDone p) s = .next t ∧ t.portState p = 6 ∧
      t.rd (Reg.PORT_LINKUP_CNT p) = min (s.rd (Reg.PORT_LINKUP_CNT p) + 1) 0xFFFFFFFF ∧ (t.port p).v2.start = (s.port p).peerVc2 ∧
      (t.port p).kid = s.get (F.PORT_PARTNER_DIE p) ∧ regsBut [Reg.PORT_STATUS p, Reg.PORT_LINKUP_CNT p] s t ∧
      t = { s with regs := t.regs, ports := t.ports }) ∧
    (s.portState p = 4 → s.authWanted p = false → s.portKind p ≠ 3 → s.portFeat p 7 = false → ∃ t, exec (.deskewDone p) s = .next t ∧ t.portState p = 6 ∧
      t.rd (Reg.PORT_LINKUP_CNT p) = min (s.rd (Reg.PORT_LINKUP_CNT p) + 1) 0xFFFFFFFF ∧ (t.port p).v2.start = (s.port p).peerVc2 ∧
      (t.port p).v0 = {} ∧ (t.port p).v1 = {} ∧ (t.port p).replay = [] ∧ (t.port p).joined = false ∧
      regsBut [Reg.PORT_STATUS p, Reg.PORT_LINKUP_CNT p] s t ∧ t = { s with regs := t.regs, ports := t.ports }) ∧
    (s.portState p = 4 → s.authWanted p = true → ∃ t, exec (.deskewDone p) s = .next t ∧ t.portState p = 5 ∧
      t.get (F.HALL_PORT_SESSION p) = 1 ∧ (t.port p).sess.mine ≠ [] ∧ t.sys = s.sys ∧ t.time = s.time)

/-- Ports, widths and loops as software sets them in READY (R26, R284, R306, R321): PORT_CFG takes a type that R284 allows and starts its port, and is
refused otherwise; TX_AWAKE puts lanes to sleep with a SLEEP block; LANE_CTRL.LOOP takes a lane out of its port, and the far-end request, grant,
refusal and end follow it, and with the grant a selected PRBS checker starts. Where a command's condition fails it leaves the die as it is: log 1.
Outputs are appended to `out`: log 8. The model's reading or choice here: log 105. -/
def Obligations.PortsWidthsAndLoopsAreSet : Prop :=
  ∀ (s : State) (bar : Bool) (p l c v : Nat), Awake s → s.sys.run = .ready → p < 16 → l < 16 → c < 16 → c ≠ l → s.hostLane l = false →
    (s.portConflict p (v % 2 ^ 32) = none → v / 2 ^ 30 % 4 = 0 → s.portKind p = 0 → s.portState p = 0 → s.conflicts.regs = s.regs →
      (List.range 16).all (fun x => decide ((s.port x).lanes = [])) = true → (s.port p).waiting = [] →
      ∃ t, exec (.portCfgWrite bar p v) s = .next t ∧ t.get (F.PORT_CFG_TYPE p) = 0 ∧ t.get (F.PORT_CFG_LANES p) = v % 2 ^ 16 ∧ t.get (F.PORT_CFG_LOOP_ALLOW p) = v / 2 ^ 29 % 2 ∧ t.portState p = 0 ∧ (t.port p).lanes = [] ∧
        t.sys = s.sys ∧ t.time = s.time) ∧
    (s.portConflict p (v % 2 ^ 32) = none → 0 < v / 2 ^ 30 % 4 → (s.port p).lanes = [] → s.portState p = 0 → s.conflicts.regs = s.regs →
      (List.range 16).all (fun x => decide ((s.port x).lanes = [])) = true → (s.port p).waiting = [] →
      ∃ t, exec (.portCfgWrite bar p v) s = .next t ∧ t.get (F.PORT_CFG_TYPE p) = v / 2 ^ 30 % 4 ∧ t.get (F.PORT_CFG_LANES p) = v % 2 ^ 16 ∧
        t.portState p = (if t.mayTrain p = true then 1 else 0) ∧ (t.port p).lanes = [] ∧
        (t.mayTrain p = true → (t.lanesFor p).all (fun x => t.on (F.LANE_STATUS_RX_AWAKE x) && decide (t.get (F.LANE_STATUS_ADAPT x) = 0)) = true) ∧
        t.sys = s.sys ∧ t.time = s.time) ∧
    (4 < popCount 16 (v % 2 ^ 16) → s.clasped = false → ∃ t, exec (.portCfgWrite bar p v) s = .next t ∧
      t.rd Reg.SYS_REJECT_CNT = min (s.rd Reg.SYS_REJECT_CNT + 1) 0xFFFFFFFF ∧ t.rd (Reg.PORT_CFG p) = s.rd (Reg.PORT_CFG p) ∧
      (bar = true → s.isRoot = true → t.get F.HIF_LAST_REJECT_STATUS = 2 ∧ t.rd (Reg.HIF_LAST_REJECT + 4) = Reg.PORT_CFG p) ∧
      regsBut [Reg.SYS_REJECT_CNT, Reg.HIF_LAST_REJECT, Reg.HIF_LAST_REJECT + 4] s t ∧ t = { s with regs := t.regs }) ∧
    (s.portFeat p 7 = true → s.portUp? p = true → (s.port p).lanes = [l, c] → v % 16 = 1 → s.on (F.LANE_STATUS_TX_AWAKE l) = true →
      ∃ t, exec (.portWidthWrite bar p v) s = .next t ∧ t.out = s.out ++ (if s.on (F.LANE_STATUS_TX_AWAKE c) = true then [.block p 0xD2 1] else []) ∧ t.get (F.PORT_WIDTH_TX_AWAKE p) = 1 ∧
        t.on (F.LANE_STATUS_TX_AWAKE c) = false ∧ t.lanes = s.lanes ∧ t.ports = s.ports ∧
        regsBut [Reg.PORT_WIDTH p, Reg.LANE_STATUS c, Reg.HALL_STATUS] s t ∧ t.sys = s.sys ∧ t.time = s.time) ∧
    (s.portOfLane l = some p → (s.port p).lanes = [l, c] → s.get (F.LANE_CTRL_LOOP l) = 0 → v % 4 ≠ 0 →
      ∃ t, exec (.laneCtrlWrite bar l v) s = .next t ∧ t.get (F.LANE_CTRL_LOOP l) = v % 4 ∧ (t.port p).lanes = [c] ∧
        t.get (F.PORT_STATUS_WIDTH p) = 0 ∧ t.get (F.PORT_STATUS_TLANE p) = c ∧
        t.out = s.out ++ (if v % 4 = 3 then [.block p 0xE1 0] else []) ∧ (v % 4 = 3 → (t.lane l).loop = 1) ∧
        (∀ x, x ≠ p → t.port x = s.port x) ∧ t.sys = s.sys ∧ t.time = s.time) ∧
    (s.portOfLane l = some p → (s.on (F.PORT_CFG_LOOP_ALLOW p) = true → (s.port p).lanes = [l, c] → ∃ t, exec (.loopRequest l) s = .next t ∧
        t.out = s.out ++ [.block p 0xE1 1] ∧ (t.lane l).loop = 3 ∧ (t.port p).lanes = [c] ∧ regsBut [Reg.PORT_STATUS p] s t ∧
        t = { s with regs := t.regs, lanes := t.lanes, ports := t.ports, out := t.out }) ∧
      (s.on (F.PORT_CFG_LOOP_ALLOW p) = false → exec (.loopRequest l) s = .next (s.emit (.block p 0xE1 2)))) ∧
    ((s.lane l).loop = 1 → (∃ t, exec (.loopGrant l) s = .next t ∧ (t.lane l).loop = 2 ∧
        (t.lane l).prbs = (if s.get (F.LANE_CTRL_PRBS l) ≠ 0 ∧ s.get (F.LANE_CTRL_LOOP l) ≠ 0 then some (s.fNow, 64) else (s.lane l).prbs) ∧
        (∀ k, k ≠ l → t.lane k = s.lane k) ∧ t = { s with lanes := t.lanes }) ∧
      (∃ t, exec (.loopRefuse l) s = .next t ∧ t.on (F.LANE_STATUS_LOOP_REFUSED l) = true ∧ (t.lane l).loop = 0 ∧
        regsBut [Reg.LANE_STATUS l] s t ∧ t = { s with regs := t.regs, lanes := t.lanes })) ∧
    ((s.lane l).loop ≠ 1 → exec (.loopGrant l) s = .next s ∧ exec (.loopRefuse l) s = .next s) ∧
    ((s.lane l).loop = 3 → s.portOfLane l = some p → s.portState p = 6 → (s.port p).lanes = [c] → s.isRetired 5 l = false → s.get (F.LANE_CTRL_LOOP l) = 0 →
      s.portOfLane c = some p → s.laneServes c = true → ∃ t, exec (.loopEnd l) s = .next t ∧ (t.lane l).loop = 0 ∧ (t.lane l).rejoin = true ∧
        (t.port p).lanes.contains l = true ∧ (t.port p).lanes.contains c = true ∧ t.get (F.LANE_STATUS_ADAPT l) = 0 ∧
        t.on (F.LANE_STATUS_RX_AWAKE l) = true ∧ t.sys = s.sys ∧ t.time = s.time)

/-- VC0 routing and register access over the tree (R326–R328, R334, R450): a message for another die goes down its route or up the shaft, never back,
to a root in duplication on both shaft ports, and a parent answers a request for a child it cannot reach; CFG_RD and CFG_WR are answered with
status and data to their sender under the same TAG; CFG_RESP completes the command in flight under its TAG. Where a command's condition fails it
leaves the die as it is: log 1. The model's reading or choice here: log 47. -/
def Obligations.MessagesAreRoutedAndAnswered : Prop :=
  ∀ (s : State) (p q dst src tag off v : Nat) (bs : List Byte) (c : HCmd), Awake s → s.sys.run ≠ .init →
    dst = byteField bs 2 2 % 1024 → src < 1022 → tag < 65536 → s.otherShaft ≠ some p →
    (s.isMine dst = false → dst ≠ dstRoot → s.placeOfDie dst = some q → s.unreachable q = false → q ≠ p →
      exec (.vc0MessageRoute p bs) s = .next (s.sendVc0 q bs)) ∧
    (s.isMine dst = false → dst ≠ dstRoot → s.placeOfDie dst = some p → s.unreachable p = false →
      exec (.vc0MessageRoute p bs) s = .next (s.incBy Reg.TREE_UNROUTABLE_CNT 1)) ∧
    (s.isMine dst = false → dst ≠ dstRoot → s.placeOfDie dst = some q → s.unreachable q = true → isRequest (byteField bs 0 1) = true →
      src = byteField bs 4 2 % 1024 → tag = byteField bs 6 2 → ∃ t, exec (.vc0MessageRoute p bs) s = .next t ∧
        t.rd Reg.TREE_PARENT_ANSWER_CNT = min (s.rd Reg.TREE_PARENT_ANSWER_CNT + 1) 0xFFFFFFFF ∧
        t.ports = ((s.incBy Reg.TREE_PARENT_ANSWER_CNT 1).answer src tag 4 (s.portState q + b2n (!s.kidJoined q) * 256) 0).ports ∧
        t.sys = s.sys ∧ t.time = s.time) ∧
    (s.isMine dst = false → dst ≠ dstRoot → s.placeOfDie dst = none → s.isRoot = false → s.shaftPort = some q → q ≠ p →
      s.upPorts.contains p = false → s.toRoot dst = false → exec (.vc0MessageRoute p bs) s = .next (s.sendVc0 q bs)) ∧
    (s.isMine dst = false → dst = dstRoot ∨ s.placeOfDie dst = none ∧ s.toRoot dst = true → s.isRoot = false →
      (s.upPorts.contains p = false → exec (.vc0MessageRoute p bs) s = .next (s.sendUp0 bs)) ∧
      (s.upPorts.contains p = true → exec (.vc0MessageRoute p bs) s = .next (s.incBy Reg.TREE_UNROUTABLE_CNT 1))) ∧
    (s.otherShaft = some q → byteField bs 0 1 ≠ 0x11 → byteField bs 0 1 ≠ 0x16 →
      exec (.vc0MessageRoute q bs) s = .next (s.incBy Reg.TREE_ALT_DISCARD_CNT 1)) ∧
    (s.isMine dst = true → exec (.vc0MessageRoute p bs) s = .next s) ∧
    (findReg off = none → inVault off = false → off % 4 = 0 → s.sys.run = .ready → ∃ t, exec (.cfgRdMsg p src tag off) s = .next t ∧
      t = (s.incBy Reg.SYS_BADADDR_CNT 1).answer src tag 0 0 0) ∧
    (s.sys.run = .ready → 16 ≤ v → v ≤ 30 → ∃ t, exec (.cfgWrMsg p src tag Reg.VAULT_SCRUB v) s = .next t ∧
      t.get F.VAULT_SCRUB_PERIOD_LOG2 = v ∧ t.ports = (s.answer src tag 0 0 0).ports ∧ t.sys = s.sys ∧ t.time = s.time) ∧
    (s.sys.run = .running → ∃ t, exec (.cfgWrMsg p src tag (Reg.PORT_CFG 2) v) s = .next t ∧
      t.rd (Reg.PORT_CFG 2) = s.rd (Reg.PORT_CFG 2) ∧ t.rd Reg.SYS_REJECT_CNT = min (s.rd Reg.SYS_REJECT_CNT + 1) 0xFFFFFFFF ∧
      t.ports = ((s.incBy Reg.SYS_REJECT_CNT 1).answer src tag 1 s.sys.run.code 0).ports ∧ t.sys = s.sys ∧ t.time = s.time) ∧
    (s.isRoot = true → s.hif.cmds = [(q, [c])] → c.place = .flight tag → ∃ t, exec (.cfgResp src tag 0 0 v) s = .next t ∧
      t = s.completeCmd q c.ix 0 0 v src) ∧
    (s.isRoot = true → s.hif.cmds = [] → exec (.cfgResp src tag 0 0 v) s = .next s)

/-- Numbering (R329–R333, R450): DISCOVER fixes the root's range and number; a NEW_CHILD is answered with the HINT if it is free in the range, or the
lowest free number, or with REFUSE, also below level 5, and a standby passes it to the pair's active; ASSIGN gives the child its number and level,
REFUSE marks the parent, JOINED is counted at the root. Where a command's condition fails it leaves the die as it is: log 1. The model's reading
or choice here: log 14, 68, 109. -/
def Obligations.DiesAreNumbered : Prop :=
  ∀ (s : State) (p src tag drift die level hint n q : Nat) (bar : Bool), Awake s → p < 16 → s.portUp? p = true → s.otherShaft ≠ some p →
    (s.isRoot = true → s.sys.run = .ready → s.tree.fixed = false → s.clasped = false → ∃ t, exec (.treeDiscoverWrite bar 0) s = .next t ∧
      t.on F.TREE_CTRL_DISCOVER = true ∧ t.tree = { s.tree with fixed := true } ∧ t.get F.TREE_ID_DIE = s.get F.TREE_RANGE_BASE ∧ t.get F.TREE_ID_LEVEL = 1 ∧
      t.on F.TREE_ID_NUMBERED = true ∧ regsBut [Reg.TREE_CTRL, Reg.TREE_ID, Reg.HALL_STATUS] s t ∧ t.sys = s.sys ∧ t.time = s.time) ∧
    (s.isRoot = true → s.sys.run = .ready → s.tree.fixed = false → s.clasped = true → s.get F.TREE_RANGE_BASE < 1023 → ∃ t,
      exec (.treeDiscoverWrite bar 0) s = .next t ∧ t.get F.TREE_ID_DIE = s.get F.TREE_RANGE_BASE + s.get F.CLASP_STATUS_CLASP_ID ∧
      t.get F.TREE_ID_LEVEL = 1 ∧ t.on F.TREE_ID_NUMBERED = true ∧ t.tree.fixed = true ∧ t.sys = s.sys ∧ t.time = s.time) ∧
    (s.isRoot = true → s.standsBy = true → exec (.newChild p src tag drift 1 0 0x3FF hint) s = .next (s.sendVc0 15
      (vc0Bytes 0x10 dstRoot src tag (leBytes 1 drift ++ leBytes 1 1 ++ leBytes 2 0x3FF ++ leBytes 2 hint)))) ∧
    (s.isRoot = true → s.standsBy = false → s.on F.TREE_CTRL_DISCOVER = true → s.levelOf src = some 5 → s.isMine src = false → s.routePort src = some q →
      src ≠ dstRoot → ∃ t, exec (.newChild p src tag drift 1 0 0x3FF hint) s = .next t ∧
        t.rd Reg.TREE_REFUSE_CNT = min (s.rd Reg.TREE_REFUSE_CNT + 1) 0xFFFFFFFF ∧ t.tree = s.tree ∧
        t.ports = ((s.incBy Reg.TREE_REFUSE_CNT 1).sendVc0 q (vc0Bytes 0x12 src s.dieNo tag (leBytes 1 drift ++ leBytes 1 1))).ports ∧
        t.sys = s.sys ∧ t.time = s.time) ∧
    (s.isRoot = true → s.standsBy = false → s.on F.TREE_CTRL_DISCOVER = false → exec (.newChild p src tag drift 1 0 0x3FF hint) s = .next s) ∧
    (s.isRoot = true → s.clasped = false → s.get F.CLASP_STATUS_STATE = 0 → s.on F.TREE_CTRL_DISCOVER = true → src = s.get F.TREE_ID_DIE → s.on F.TREE_ID_NUMBERED = true →
      s.driftPort drift = some q → s.tree.joins = [] → drift < 15 → n < 1024 →
      ((hint = n ∧ hint ≠ 0x3FF ∧ s.inRange n = true ∧ s.numberFree n = true) ∨
        (hint = 0x3FF ∧ s.get F.TREE_RANGE_BASE = n ∧ 0 < s.get F.TREE_RANGE_COUNT ∧ s.numberFree n = true)) →
      ∃ t, exec (.newChild p src tag drift 1 0 0x3FF hint) s = .next t ∧ (t.port q).kid = n ∧ t.routeOf n = drift ∧
        t.tree.joins.map (fun j => (j.die, j.parent, j.drift, j.level)) = [(n, src, drift, 2)] ∧ t.sys = s.sys ∧ t.time = s.time) ∧
    (s.isRoot = true → s.clasped = false → s.get F.CLASP_STATUS_STATE = 0 → s.on F.TREE_CTRL_DISCOVER = true → src = s.get F.TREE_ID_DIE → s.on F.TREE_ID_NUMBERED = true →
      s.driftPort drift = some q → s.tree.joins = [] → hint = 0x3FF → s.get F.TREE_RANGE_COUNT = 0 →
      ∃ t, exec (.newChild p src tag drift 1 0 0x3FF hint) s = .next t ∧ t.rd Reg.TREE_REFUSE_CNT = min (s.rd Reg.TREE_REFUSE_CNT + 1) 0xFFFFFFFF ∧
        t.on F.TREE_STATUS_REFUSED = true ∧ t.get F.TREE_STATUS_REFUSE_REASON = 2 ∧ (t.port q).refused = true ∧ t.tree = s.tree ∧
        t.sys = s.sys ∧ t.time = s.time) ∧
    (s.portKind p = 1 → s.isRoot = false → s.on F.TREE_ID_NUMBERED = false → s.get F.TREE_STATUS_USE = 1 → s.fuse.claimed = false →
      s.driftsUp = [] → die < 1023 → level < 8 → ∃ t, exec (.assign p dstPeer src tag drift false false level die q) s = .next t ∧
        t.get F.TREE_ID_DIE = die ∧ t.get F.TREE_ID_LEVEL = level ∧ t.on F.TREE_ID_NUMBERED = true ∧ (t.port p).joined = true ∧
        t.sys = s.sys ∧ t.time = s.time) ∧
    (s.portKind p = 1 → s.isRoot = false → s.on F.TREE_ID_NUMBERED = true → s.get F.TREE_ID_DIE ≠ die → ∃ t,
      exec (.assign p dstPeer src tag drift false false level die q) s = .next t ∧ t.get F.TREE_ID_DIE = s.get F.TREE_ID_DIE ∧
        (t.port p).joined = true ∧ t.regs = s.regs ∧ t = { s with ports := t.ports }) ∧
    (s.portKind p = 1 → s.isRoot = false → s.isMine n = true → n ≠ dstPeer → s.driftPort drift = some q → q ≠ p → die < 1023 → drift < 15 →
      ∃ t, exec (.assign p n src tag drift false false level die 0) s = .next t ∧ t.routeOf die = drift ∧ (t.port q).kid = die ∧
        (t.port q).asked = false ∧ t.sys = s.sys ∧ t.time = s.time) ∧
    (s.portKind p = 1 ∨ s.portKind p = 2 → s.dualHome = true →
      exec (.assign p dstPeer src tag drift true false level die q) s = .next (s.setPort p { s.port p with joined := true })) ∧
    (s.portKind p = 1 ∨ s.portKind p = 2 → s.dualHome = false → exec (.assign p dstPeer src tag drift true false level die q) s = .next s) ∧
    (s.portKind p = 3 → exec (.assign p n src tag drift false false level die q) s = .next (s.incBy Reg.TREE_UNROUTABLE_CNT 1)) ∧
    (s.driftPort drift = some q → level < 8 → ∃ t, exec (.refuse p drift level) s = .next t ∧ t.on F.TREE_STATUS_REFUSED = true ∧
      t.get F.TREE_STATUS_REFUSE_REASON = level ∧ (t.port q).refused = true ∧ (t.port q).asked = false ∧
      (∀ x, x ≠ q → t.port x = s.port x) ∧ t.sys = s.sys ∧ t.time = s.time) ∧
    (s.isRoot = true → exec .joined s = .next (s.incBy Reg.TREE_JOIN_CNT 1)) ∧ (s.isRoot = false → exec .joined s = .next s)

/-- Dual homing (R334–R340): REHOMED enters its numbers against the drift it came on and DETACH clears those that name it; HOME with DUP duplicates
under the roots that it names and with PROMOTE asks for a switch, as TREE_CMD.REHOME does; a warm port takes over as the port in use; a die in
duplication reports both parents at WIT_SLOT. Where a command's condition fails it leaves the die as it is: log 1. That time moves on to the
moment an event carries is log 7. The model's reading or choice here: log 19. -/
def Obligations.DualHomingMovesTheDie : Prop :=
  ∀ (s u : State) (p q n r : Nat) (map : List Byte) (bar promote dup : Bool), Awake s → p < 16 →
    (s.portKind p = 3 → s.portUp? p = true → s.upPorts = [] → s.isRoot = false ∨ s.get F.HALL_AUTH_MODE ≠ 2 → mapDies map = [n] → n < 1024 → s.driftIndex p < 15 →
      (∃ t, exec (.rehomed p map) s = .next t ∧ t.routeOf n = s.driftIndex p ∧ regsBut [Reg.TREE_ROUTE n] s t ∧
        t = { s with regs := t.regs, tree := t.tree }) ∧
      (s.routeOf n = s.driftIndex p → (s.port p).kid ≠ n → ∃ t, exec (.detach p map) s = .next t ∧ t.routeOf n = 0xF ∧
        regsBut [Reg.TREE_ROUTE n] s t ∧ t = { s with regs := t.regs }) ∧
      (s.routeOf n ≠ s.driftIndex p → (s.port p).kid ≠ n → exec (.detach p map) s = .next s)) ∧
    (s.portKind p = 1 ∨ s.portKind p = 2 → s.portUp? p = true → ∃ t, exec (.home p promote ⟨dup, n, r⟩) s = .next t ∧
      t.on F.TREE_STATUS_DUP = (s.on F.TREE_STATUS_DUP || dup) ∧
      t.tree = { s.tree with
        roots := if dup = true then [n, r].filter (fun x => decide (x ≠ 0x3FF)) else s.tree.roots
        switch := s.tree.switch || promote && decide (s.otherShaft = some p) } ∧
      regsBut [Reg.TREE_STATUS] s t ∧ t = { s with regs := t.regs, tree := t.tree }) ∧
    (s.portKind p = 0 ∨ s.portKind p = 3 ∨ s.portUp? p = false → exec (.home p promote ⟨dup, n, r⟩) s = .next s) ∧
    (s.portKind p ≠ 3 ∨ s.portUp? p = false → exec (.rehomed p map) s = .next s ∧ exec (.detach p map) s = .next s) ∧
    (s.on F.TREE_STATUS_DUP = false → exec .witnessSend s = .next s) ∧
    (s.sys.run = .running → s.isRoot = false → s.otherShaft = some q → ∃ t, exec (.treeRehome bar) s = .next t ∧
      t.tree = { s.tree with switch := true } ∧ t.regs = s.regs ∧ t = { s with tree := t.tree, bus := t.bus }) ∧
    (s.shaftPort = some p → s.otherShaft = some q → s.tree.switch = true → s.warm = true → s.tree.lostDown = false →
      s.isPending 9 (s.parentOf p) = false → s.portUp? p = false → s.portKind q ≠ s.get F.TREE_STATUS_USE → ∃ t, exec .shaftSwitch s = .next t ∧
        t.shaftPort = some q ∧ t.get F.TREE_STATUS_USE = s.portKind q ∧ t.on F.TREE_STATUS_REHOMED = true ∧
        t.rd Reg.TREE_REHOME_CNT = min (s.rd Reg.TREE_REHOME_CNT + 1) 0xFFFFFFFF ∧ t.tree.switch = false ∧ t.on F.TREE_STATUS_ALT_WARM = false ∧
        t.phase.thetas = s.phase.altThetas ∧ t.phase.altThetas = [] ∧ t.sys = s.sys) ∧
    (s.tree.switch = false ∨ s.warm = false → exec .shaftSwitch s = .next s) ∧
    (s.mainShaft = some p → s.altShaft = some q → s.on F.TREE_STATUS_DUP = true → s.portFeat p 4 = true → s.portFeat q 4 = true →
      s.atCycle (s.get F.TREE_CTRL_WIT_SLOT) 0 = some u → u.portUp? p = false → u.portUp? q = true → ∃ t, exec .witnessSend s = .next t ∧
        t.ports = (u.sendVc0 q (vc0Bytes 0x20 dstPeer u.dieNo 0
          (leBytes 4 u.time.orbit ++ leBytes 2 (u.witnessWord (some p)) ++ leBytes 2 (u.witnessWord (some q))))).ports ∧ t.sys = u.sys ∧ t.time = u.time)

/-- The pair forms and loses its peer (R341, R342, R348–R351, R353): PAIR makes a pairing member ACTIVE or STANDBY by CLASP_ID, SYNC where the peer is
ACTIVE, or fails with its code; an ACTIVE member becomes the source of a copy, or its destination where both claim ACTIVE and its CLASP_ID is 1;
with the link lost the active goes on ALONE and the standby holds its outputs; a round of witnesses after the loss makes it ACTIVE, already as the
reports arrive, or DETACHED; two majorities in a row make a DETACHED member ACTIVE with COLD set, and CLASP_CMD.PROMOTE makes a standby or a
detached one ACTIVE. That a link back UP sends PAIR from SYNC too is the model's choice (log 65). Where a command's condition fails it leaves the
die as it is: log 1. That time moves on to the moment an event carries is log 7. Outputs are appended to `out`: log 8. The model's reading or
choice here: log 24, 65. -/
def Obligations.ClaspPairFormsAndLosesItsPeer : Prop :=
  ∀ (s u : State) (src id ps orbit shaft alt : Nat) (digest : List Byte) (bar : Bool), Awake s → s.clasped = true → src < 1024 → id < 2 →
    (s.portUp? 15 = true → s.clState = 1 → s.sys.run = .ready → s.pairCheck id ps digest = 0 → ps ≠ 2 →
      ∃ t, exec (.pair src id ps digest) s = .next t ∧ t.clState = (if s.get F.CLASP_STATUS_CLASP_ID = 0 then 2 else 3) ∧
        t.get F.CLASP_PEER_DIE = src ∧ t.get F.CLASP_PEER_CLASP_ID = id ∧ t.get F.CLASP_STATUS_PAIR_FAIL = 0 ∧ t.clasp.everPaired = true ∧
        t.clasp.pairDigest = digest ∧ regsBut [Reg.CLASP_STATUS, Reg.CLASP_PEER] s t ∧ t = { s with regs := t.regs, clasp := t.clasp }) ∧
    (s.portUp? 15 = true → s.clState = 1 ∧ s.sys.run = .ready ∨ s.clState = 2 ∧ s.get F.CLASP_STATUS_CLASP_ID = 1 → s.pairCheck id 2 digest = 0 →
      ∃ t, exec (.pair src id 2 digest) s = .next t ∧ t.clState = 6 ∧ t.get F.CLASP_PEER_DIE = src ∧ t.clasp.copyDone = 0 ∧ t.clasp.outHeld = false ∧
        t.sys = s.sys ∧ t.time = s.time ∧ (s.clState = 1 → regsBut [Reg.CLASP_STATUS, Reg.CLASP_PEER] s t ∧
          t = { s with regs := t.regs, clasp := t.clasp })) ∧
    (s.portUp? 15 = true → s.clState = 2 → s.pairCheck id ps digest = 0 → ps ≠ 2 ∨ s.get F.CLASP_STATUS_CLASP_ID = 0 →
      ∃ t, exec (.pair src id ps digest) s = .next t ∧ t.clState = 2 ∧ t.clasp.copying = true ∧ t.clasp.copySent = 0 ∧
        t.get F.CLASP_PEER_DIE = src ∧ t.clasp.outHeld = s.clasp.outHeld ∧ t.sys = s.sys ∧ t.time = s.time) ∧
    (s.portUp? 15 = true → s.clState = 1 ∧ s.sys.run = .ready ∨ s.clState = 2 → s.pairCheck id ps digest ≠ 0 →
      ∃ t, exec (.pair src id ps digest) s = .next t ∧ t.clState = s.clState ∧ t.get F.CLASP_STATUS_PAIR_FAIL = s.pairCheck id ps digest ∧
        t.get F.CLASP_PEER_DIE = s.get F.CLASP_PEER_DIE ∧ t.clasp = s.clasp ∧ t.sys = s.sys ∧ t.time = s.time) ∧
    (s.portUp? 15 = false ∨ s.clState ≠ 1 ∧ s.clState ≠ 2 ∨ s.clState = 1 ∧ s.sys.run ≠ .ready → exec (.pair src id ps digest) s = .next s) ∧
    (s.portUp? 15 = true →
      (s.clState = 5 ∨ s.clState = 6 → ∃ t, exec .claspLinkUp s = .next t ∧ t.clState = 6 ∧ t.clasp.linkUp = true ∧ t.clasp.copyDone = 0 ∧
        t.clasp.outHeld = false ∧ t.ports = (s.put F.CLASP_STATUS_STATE 6).sendPair.ports ∧ regsBut [Reg.CLASP_STATUS] s t ∧
        t = { s with regs := t.regs, clasp := t.clasp, ports := t.ports, out := t.out }) ∧
      (s.clState = 0 ∨ s.clState = 1 → ∃ t, exec .claspLinkUp s = .next t ∧ t.clState = 1 ∧ t.clasp.linkUp = true ∧
        t.ports = (if s.sys.run = .ready then (s.put F.CLASP_STATUS_STATE 1).sendPair.ports else s.ports) ∧ regsBut [Reg.CLASP_STATUS] s t ∧
        t = { s with regs := t.regs, clasp := t.clasp, ports := t.ports, out := t.out }) ∧
      (s.clState = 2 → ∃ t, exec .claspLinkUp s = .next t ∧ t.clasp = { s.clasp with linkUp := true, stateHeard := s.time.orbit } ∧
        t.ports = s.sendPair.ports ∧ regsBut [] s t ∧ t = { s with regs := t.regs, clasp := t.clasp, ports := t.ports, out := t.out }) ∧
      (s.clState = 3 ∨ s.clState = 4 ∨ s.clState = 7 → exec .claspLinkUp s = .next { s with clasp := { s.clasp with
        linkUp := true, stateHeard := s.time.orbit } }) ∧ exec .claspLinkLost s = .next s) ∧
    (s.portUp? 15 = false → exec .claspLinkUp s = .next s) ∧ (s.clasp.linkUp = false → exec .claspLinkLost s = .next s) ∧
    (s.portUp? 15 = false → s.clasp.linkUp = true →
      (s.clState = 2 → ∃ t, exec .claspLinkLost s = .next t ∧ t.clState = 2 ∧ t.on F.CLASP_STATUS_ALONE = true ∧
        t.on F.CLASP_STATUS_LINK_LOST = true ∧ t.clasp.linkUp = false ∧ t.clasp.digs = [] ∧ t.sys = s.sys ∧ t.time = s.time) ∧
      (s.clState = 3 → exec .claspLinkLost s = .next (let t := s.holdOutputs; { t with clasp := { t.clasp with
        linkUp := false, lostOrbit := some s.time.orbit } })) ∧
      (s.clState ≠ 2 → s.clState ≠ 3 → ∃ t, exec .claspLinkLost s = .next t ∧ t.clasp.linkUp = false ∧
        t.clasp.lostOrbit = (if s.clState = 6 then some s.time.orbit else s.clasp.lostOrbit) ∧ t = { s with clasp := t.clasp })) ∧
    (s.tree.dups.contains src = false → exec (.witnessReceived src orbit shaft alt) s = .next s) ∧
    (s.tree.dups.contains src = true → s.tree.round = some orbit → s.tree.heard.contains src = true →
      exec (.witnessReceived src orbit shaft alt) s = .next s) ∧
    (s.tree.dups.contains src = true → s.clState ≠ 3 → s.tree.round ≠ some orbit → ∃ t, exec (.witnessReceived src orbit shaft alt) s = .next t ∧
      t.tree = { s.tree with round := some orbit, heard := [src], silent := if [shaft, alt].any (fun w =>
        decide (w % 1024 = s.get F.CLASP_PEER_DIE ∧ bitsOf w 15 1 = 0)) = true then [src] else [] } ∧
      t.get F.CLASP_WIT_STATUS_SILENT = t.tree.silent.length ∧ regsBut [Reg.CLASP_WIT_STATUS] s t ∧ t = { s with regs := t.regs, tree := t.tree }) ∧
    (s.tree.dups.contains src = true → s.clState = 3 → s.tree.round = some orbit → s.tree.heard.contains src = false → s.clasp.lostOrbit = some id →
      id < orbit → s.clasp.judged ≠ some orbit → shaft % 1024 = s.get F.CLASP_PEER_DIE → bitsOf shaft 15 1 = 0 → 1 ≤ s.witnesses →
      s.witnesses ≤ 2 * (s.tree.silent.length + 1) → ∃ t, exec (.witnessReceived src orbit shaft alt) s = .next t ∧ t.clState = 2 ∧
        t.tree.silent = src :: s.tree.silent ∧ t.clasp.judged = some orbit ∧ t.clasp.outHeld = false ∧
        t.rd Reg.CLASP_SWITCH_CNT = min (s.rd Reg.CLASP_SWITCH_CNT + 1) 0xFFFFFFFF ∧ t.sys = s.sys ∧ t.time = s.time) ∧
    (s.atCycle (s.get F.CLASP_WIT_DEADLINE) 0 = none → exec .witnessRoundClose s = .next s) ∧
    (s.atCycle (s.get F.CLASP_WIT_DEADLINE) 0 = some u → s.clState = 3 → s.clasp.lostOrbit = some orbit → orbit < u.time.orbit →
      s.clasp.judged ≠ some u.time.orbit →
      (u.tree.round = some u.time.orbit → u.isMajority = true → ∃ t, exec .witnessRoundClose s = .next t ∧ t.clState = 2 ∧ t.on F.CLASP_STATUS_ALONE = true ∧
        t.clasp.outHeld = false ∧ t.rd Reg.CLASP_SWITCH_CNT = min (u.rd Reg.CLASP_SWITCH_CNT + 1) 0xFFFFFFFF ∧ t.tree.round = none ∧
        t.sys = u.sys ∧ t.time = u.time) ∧
      (u.tree.round ≠ some u.time.orbit ∨ u.isMajority = false → ∃ t, exec .witnessRoundClose s = .next t ∧ t.clState = 5 ∧
        t.on F.CLASP_STATUS_LINK_LOST = true ∧ t.clasp.outHeld = false ∧ t.clasp.majorities = 0 ∧
        t.rd Reg.CLASP_SWITCH_CNT = u.rd Reg.CLASP_SWITCH_CNT ∧ t.sys = u.sys ∧ t.time = u.time)) ∧
    (s.atCycle (s.get F.CLASP_WIT_DEADLINE) 0 = some u → s.clState = 5 → s.clasp.judged ≠ some u.time.orbit → s.sys.run ≠ .armed →
      s.sys.run ≠ .running → s.sys.run ≠ .hold → u.tree.round = some u.time.orbit → ∃ t, exec .witnessRoundClose s = .next t ∧
        t.clasp.majorities = (if u.isMajority = true then s.clasp.majorities + 1 else 0) ∧
        t.clState = (if u.isMajority = true ∧ 1 ≤ s.clasp.majorities then 2 else 5) ∧
        t.on F.CLASP_STATUS_COLD = (s.on F.CLASP_STATUS_COLD || decide (u.isMajority = true ∧ 1 ≤ s.clasp.majorities)) ∧
        t.sys = u.sys ∧ t.time = u.time) ∧
    (s.sys.run = .running → s.clState = 3 → ∃ t, exec (.claspPromote bar) s = .next t ∧ t.clState = 2 ∧
      t.on F.CLASP_STATUS_ALONE = true ∧ t.clasp.outHeld = false ∧ t.clasp.digs = [] ∧
      t.rd Reg.CLASP_SWITCH_CNT = min (s.rd Reg.CLASP_SWITCH_CNT + 1) 0xFFFFFFFF ∧ t.sys = s.sys ∧ t.time = s.time) ∧
    (s.sys.run = .ready → s.clState = 5 → ∃ t, exec (.claspPromote bar) s = .next t ∧ t.clState = 2 ∧ t.on F.CLASP_STATUS_COLD = true ∧
      t.on F.ORB_STATUS_HOLDOVER = true ∧ t.clasp.outHeld = false ∧ t.sys = s.sys ∧ t.time = s.time) ∧
    (s.sys.run = .running → s.clState ≠ 3 → s.clState ≠ 5 → ∃ t, exec (.claspPromote bar) s = .next t ∧ regsBut [] s t ∧
      t = { s with regs := t.regs, bus := t.bus })

/-- Lock-step and self-checks (R344–R348): a DIG whose record the standby can build is answered with the digest of its own record, and one it cannot
with ABSENT; an ECHO of the same digest closes its DIG; one that differs, a STATE that differs or stays away, or no ECHO in time is counted as a
mismatch and leads to CHECK; both results passed, the member goes back to its role; its own passed and the peer's failed or not heard, it is
ACTIVE and ALONE; both failed, the active is ACTIVE and FAULTED; its own failed otherwise, or its check not done in 256 slots, it retires. Where a
command's condition fails it leaves the die as it is: log 1. That time moves on to the moment an event carries is log 7. Outputs are appended to
`out`: log 8. The model's reading or choice here: log 65, 109. -/
def Obligations.ClaspLockStepFindsMismatches : Prop :=
  ∀ (s u v : State) (seq d r ix origin stream key m : Nat) (g : DigOut) (bs : List Byte) (p : Bool), Awake s → s.clasped = true →
    (s.clState = 3 → s.clasp.stateWaits = none → seq < 2 ^ 32 → r < 8192 →
      ({ s.wr Reg.CLASP_SEQ seq with clasp := { s.clasp with xors := s.clasp.xors ^^^ d } }).shadowRecord r ix origin stream key = none →
      ∃ t, exec (.dig seq r ix origin stream key d) s = .next t ∧ t.rd Reg.CLASP_SEQ = seq ∧ t.clasp.xors = s.clasp.xors ^^^ d ∧
        t.rd Reg.CLASP_ABSENT_CNT = min (s.rd Reg.CLASP_ABSENT_CNT + 1) 0xFFFFFFFF ∧ t.rd (Reg.RING_HEAD r) = (s.rd (Reg.RING_HEAD r) + 1) % 2 ^ 32 ∧
        t.ports = (s.sendMember 0x42 (digBody seq r ix origin stream key d 1)).ports ∧ t.buf = s.buf ∧ t.sys = s.sys ∧ t.time = s.time) ∧
    (s.clState = 3 → s.clasp.stateWaits = none → seq < 2 ^ 32 →
      ({ s.wr Reg.CLASP_SEQ seq with clasp := { s.clasp with xors := s.clasp.xors ^^^ d } }).shadowRecord r ix origin stream key = some (bs, v) →
      ∃ t, exec (.dig seq r ix origin stream key d) s = .next t ∧ t.clasp.xors = v.clasp.xors ^^^ d ^^^ crc32c bs ∧
        t.rd Reg.CLASP_ABSENT_CNT = s.rd Reg.CLASP_ABSENT_CNT ∧ t.rd (Reg.RING_HEAD r) = v.rd (Reg.RING_HEAD r) ∧
        t.ports = (fragOut (v.sendMember 0x42 (digBody seq r ix origin stream key (crc32c bs) 0))).ports ∧ t.sys = s.sys ∧ t.time = s.time) ∧
    (s.clState = 6 → s.ringCopied r = false → ∃ t, exec (.dig seq r ix origin stream key d) s = .next t ∧ t.clasp.xors = s.clasp.xors ^^^ d ∧
      regsBut [Reg.CLASP_SEQ] s t ∧ t = { s with regs := t.regs, clasp := t.clasp }) ∧
    (s.clState ≠ 3 → s.clState ≠ 6 → exec (.dig seq r ix origin stream key d) s = .next s) ∧
    (s.clasp.digs.find? (fun x => decide (x.seq = seq)) = none → exec (.echo seq p d) s = .next s ∧ exec (.echoTimeout seq) s = .next s) ∧
    (s.clasp.digs = [g] → g.seq = seq →
      (p = true ∨ d = g.digest → exec (.echo seq p d) s = .next { s with clasp := { s.clasp with digs := [] } }) ∧
      (s.clState = 2 ∨ s.clState = 3 → p = false → d ≠ g.digest → ∃ t, exec (.echo seq p d) s = .next t ∧ t.clState = 4 ∧ t.clasp.before = s.clState ∧
          t.clasp.digs = [] ∧ t.on F.CLASP_STATUS_MISMATCH = true ∧ t.rd Reg.CLASP_MISMATCH_CNT = min (s.rd Reg.CLASP_MISMATCH_CNT + 1) 0xFFFFFFFF ∧
          t.ports = (s.sendMember 0x44 (leBytes 4 (s.rd Reg.CLASP_SEQ) ++ leBytes 1 1)).ports ∧ regsBut [Reg.CLASP_STATUS, Reg.CLASP_MISMATCH_CNT] s t ∧
          t = { s with regs := t.regs, clasp := t.clasp, ports := t.ports, out := t.out, trg := t.trg }) ∧
      (s.atSlot (g.at' + max 1 (s.get F.CLASP_CMP_TMO)) = some u → s.clState = 2 ∨ s.clState = 3 → ∃ t, exec (.echoTimeout seq) s = .next t ∧
          t.clState = 4 ∧ t.on F.CLASP_STATUS_MISMATCH = true ∧ t.clasp.digs = [] ∧ t.rd Reg.CLASP_MISMATCH_CNT = min (u.rd Reg.CLASP_MISMATCH_CNT + 1) 0xFFFFFFFF ∧
          regsBut [Reg.CLASP_STATUS, Reg.CLASP_MISMATCH_CNT] u t ∧ t = { u with regs := t.regs, clasp := t.clasp, ports := t.ports, out := t.out, trg := t.trg }) ∧
      (s.atSlot (g.at' + max 1 (s.get F.CLASP_CMP_TMO)) = none → exec (.echoTimeout seq) s = .next s)) ∧
    (s.clState = 2 ∨ s.clState = 3 → s.clasp.linkUp = true → s.clasp.stateHeard + 2 ≤ s.time.orbit → ∃ t, exec .stateMissing s = .next t ∧ t.clState = 4 ∧
      t.clasp.before = s.clState ∧ (s.clState = 3 → t.clasp.outHeld = true) ∧ t.on F.CLASP_STATUS_MISMATCH = true ∧
      t.ports = (s.sendMember 0x44 (leBytes 4 (s.rd Reg.CLASP_SEQ) ++ leBytes 1 3)).ports ∧
      t.rd Reg.CLASP_MISMATCH_CNT = min (s.rd Reg.CLASP_MISMATCH_CNT + 1) 0xFFFFFFFF ∧ t.sys = s.sys ∧ t.time = s.time) ∧
    (s.time.orbit < s.clasp.stateHeard + 2 ∨ s.clasp.linkUp = false → exec .stateMissing s = .next s) ∧
    (s.clState = 3 ∨ s.clState = 5 → v = { s with buf := { s.buf with units := s.buf.units.filter (fun x => !(x.whole && !x.named && decide (x.part ≠ .quar) &&
        !(decide (x.stream = 5 ∧ x.origin = s.dieNo)) && decide (x.orbit + max 1 (s.get F.CLASP_CMP_HOLD) ≤ s.time.orbit))) } } →
      m = s.buf.units.length - v.buf.units.length →
      (∃ t, exec .claspOrphan s = .next t ∧ t.rd Reg.CLASP_ORPHAN_CNT = min (s.rd Reg.CLASP_ORPHAN_CNT + m) 0xFFFFFFFF ∧ t.sys = s.sys ∧ t.time = s.time) ∧
      (fragOut (v.incBy Reg.CLASP_ORPHAN_CNT m) = v.incBy Reg.CLASP_ORPHAN_CNT m → exec .claspOrphan s = .next (v.incBy Reg.CLASP_ORPHAN_CNT m))) ∧
    (s.clState ≠ 3 → s.clState ≠ 5 → exec .claspOrphan s = .next s) ∧
    (s.clState ≠ 4 → exec (.selfCheckDone p) s = .next s ∧ exec (.claspResult p) s = .next s ∧ exec .checkResultTimeout s = .next s) ∧
    (s.clState = 4 → s.clasp.ownResult = none → s.clasp.peerResult = none → s.time.slots ≤ s.clasp.checkFrom + 256 →
      s.clasp.before = 2 ∨ s.selfCheck p = 0 → ∃ t, exec (.selfCheckDone p) s = .next t ∧ t.clState = 4 ∧ t.clasp.ownResult = some (s.selfCheck p) ∧
        t.ports = (s.sendMember 0x45 (leBytes 1 (b2n (decide (s.selfCheck p ≠ 0))) ++ leBytes 1 (s.selfCheck p))).ports ∧
        regsBut [] s t ∧ t = { s with regs := t.regs, clasp := t.clasp, ports := t.ports, out := t.out }) ∧
    (s.clState = 4 → s.clasp.ownResult = none → s.clasp.checkFrom + 256 < s.time.slots → s.sys.run ≠ .safe →
      ∃ t, exec (.selfCheckDone p) s = .next t ∧ t.clState = 7 ∧ t.sys.run = .safe ∧ t.sys.readyBall = false) ∧
    (s.clState = 4 → s.clasp.ownResult = some 0 →
      (∃ t, exec (.claspResult false) s = .next t ∧ t.clState = s.clasp.before % 8 ∧ t.clasp.outHeld = false ∧
        t.rd Reg.CLASP_TRANSIENT_CNT = min (s.rd Reg.CLASP_TRANSIENT_CNT + 1) 0xFFFFFFFF ∧ t.sys = s.sys ∧ t.time = s.time) ∧
      (∃ t, exec (.claspResult true) s = .next t ∧ t.clState = 2 ∧ t.on F.CLASP_STATUS_ALONE = true ∧ t.on F.CLASP_STATUS_LINK_LOST = true ∧
        t.rd Reg.CLASP_SWITCH_CNT = min (s.rd Reg.CLASP_SWITCH_CNT + b2n (decide (s.clasp.before ≠ 2))) 0xFFFFFFFF ∧ t.sys = s.sys ∧ t.time = s.time) ∧
      (s.clasp.peerResult = none → s.atSlot (s.clasp.checkFrom + 256) = some u → ∃ t,
        exec .checkResultTimeout s = .next t ∧ t.clState = 2 ∧ t.on F.CLASP_STATUS_ALONE = true ∧
        t.rd Reg.CLASP_SWITCH_CNT = min (u.rd Reg.CLASP_SWITCH_CNT + b2n (decide (s.clasp.before ≠ 2))) 0xFFFFFFFF ∧ t.sys = u.sys ∧ t.time = u.time) ∧
      (s.clasp.peerResult ≠ none ∨ s.atSlot (s.clasp.checkFrom + 256) = none → exec .checkResultTimeout s = .next s)) ∧
    (s.clState = 4 → s.clasp.ownResult = none → s.atSlot (s.clasp.checkFrom + 256) = some u → s.sys.run ≠ .safe → ∃ t,
      exec .checkResultTimeout s = .next t ∧ t.clState = 7 ∧ t.sys.run = .safe ∧ t.time = u.time) ∧
    (s.clState = 4 → s.clasp.ownResult = some (m + 1) → s.sys.run ≠ .safe →
      (s.clasp.before = 2 → ∃ t, exec (.claspResult true) s = .next t ∧ t.clState = 2 ∧ t.on F.CLASP_STATUS_FAULTED = true ∧ t.sys = s.sys ∧ t.time = s.time) ∧
      (p = false ∨ s.clasp.before ≠ 2 → ∃ t, exec (.claspResult p) s = .next t ∧ t.clState = 7 ∧ t.sys.run = .safe ∧ t.sys.readyBall = false))

/-- What a member sees on a clasp link that is UP, and the copy (R345, R346, R352, R410): CHECK leads to CHECK; STATE is compared once the shadow has
reached its SEQ, and one that differs is a mismatch; the active sends the image in chunks, after the last one COMMIT, the destination loads them
in order, and COMMIT ends the copy where the images agree or starts it again; a KEY with a right tag is stored, and the one before it stands for
16 orbits. Where a command's condition fails it leaves the die as it is: log 1. Outputs are appended to `out`: log 8. The model's reading or
choice here: log 27, 65. -/
def Obligations.ClaspChecksAndCopies : Prop :=
  ∀ (s : State) (o d : Nat) (bs hash ct tag key : List Byte) (k : DirKey) (x : E2eKey), Awake s → s.clasped = true →
    (s.portUp? 15 = true → s.clState = 2 ∨ s.clState = 3 → ∃ t, exec .claspCheck s = .next t ∧ t.clState = 4 ∧ t.clasp.before = s.clState ∧
      t.clasp.checkFrom = s.time.slots ∧ (s.clState = 3 → t.clasp.outHeld = true) ∧ regsBut [Reg.CLASP_STATUS] s t ∧
      t = { s with regs := t.regs, clasp := t.clasp, trg := if s.clState = 3 then s.holdOutputs.trg else s.trg }) ∧
    (s.portUp? 15 = false ∨ s.clState ≠ 2 ∧ s.clState ≠ 3 → exec .claspCheck s = .next s) ∧
    (s.portUp? 15 = true → s.clState = 3 → s.rd Reg.CLASP_SEQ ≠ o → exec (.claspState o d) s = .next { s with clasp := { s.clasp with
      stateHeard := s.time.orbit, stateWaits := some (o, d) } }) ∧
    (s.portUp? 15 = true → s.clState = 3 → s.rd Reg.CLASP_SEQ = o → stateDigest o s.clasp.trigAt s.clasp.xors = d →
      exec (.claspState o d) s = .next { s with clasp := { s.clasp with stateHeard := s.time.orbit, stateWaits := none } }) ∧
    (s.portUp? 15 = true → s.clState = 3 → s.rd Reg.CLASP_SEQ = o → stateDigest o s.clasp.trigAt s.clasp.xors ≠ d →
      ∃ t, exec (.claspState o d) s = .next t ∧ t.clState = 4 ∧ t.on F.CLASP_STATUS_MISMATCH = true ∧ t.clasp.outHeld = true ∧
        t.rd Reg.CLASP_MISMATCH_CNT = min (s.rd Reg.CLASP_MISMATCH_CNT + 1) 0xFFFFFFFF ∧ t.sys = s.sys ∧ t.time = s.time) ∧
    (s.portUp? 15 = true → s.clState ≠ 3 → exec (.claspState o d) s = .next { s with clasp := { s.clasp with
      stateHeard := s.time.orbit, stateWaits := none } }) ∧
    (s.portUp? 15 = false → exec (.claspState o d) s = .next s) ∧
    (s.clState = 2 → s.clasp.copying = true → s.clasp.linkUp = true → s.quietWork = true → s.clasp.copySent = o → o + 1000 < 264256 →
      s.get F.CLASP_SYNC_CHUNKS = 1 → ∃ t, exec .claspChunkSend s = .next t ∧ t.clasp = { s.clasp with copySent := o + 1000 } ∧
        t.ports = (s.sendMember 0x46 (leBytes 4 o ++ leBytes 4 (s.rd Reg.CLASP_SEQ) ++ (s.claspImage.drop o).take 1000)).ports ∧
        regsBut [] s t ∧ t = { s with regs := t.regs, clasp := t.clasp, ports := t.ports, out := t.out }) ∧
    (s.clState = 2 → s.clasp.copying = true → s.clasp.linkUp = true → s.quietWork = true → s.clasp.copySent < 264256 →
      264256 ≤ s.clasp.copySent + 1000 * max 1 (s.get F.CLASP_SYNC_CHUNKS) → ∃ t, exec .claspChunkSend s = .next t ∧
        t.clasp = { s.clasp with copySent := 264256 } ∧ t.sys = s.sys ∧ t.time = s.time) ∧
    (s.clState ≠ 2 ∨ s.clasp.copying = false ∨ s.quietWork = false ∨ 264256 ≤ s.clasp.copySent → exec .claspChunkSend s = .next s) ∧
    (s.clState = 6 → s.clasp.copyDone = o → 0 < o → o + bs.length ≤ 64 → exec (.claspChunk o d bs) s =
      .next { s with clasp := { s.clasp with copyDone := o + bs.length } }) ∧
    (s.clState = 6 → s.clasp.copyDone = 0 → bs.length = 64 → d < 2 ^ 32 → ∃ t, exec (.claspChunk 0 d bs) s = .next t ∧ t.rd Reg.CLASP_SEQ = d ∧
      t.clasp = { s.clasp with
        copyDone := 64, xors := byteField bs 12 4, counters := some (s.time.orbit, byteField bs 0 4, byteField bs 4 4) } ∧
      regsBut [Reg.CLASP_SEQ] s t ∧ t = { s with regs := t.regs, clasp := t.clasp }) ∧
    (s.clState = 6 → s.clasp.copyDone = o → 64 ≤ o → o < 2112 → o % 4 = 0 → bs.length = 4 → ∃ t, exec (.claspChunk o d bs) s = .next t ∧
      t.routeOf ((o - 64) / 2) = byteField bs 0 4 % 16 ∧ t.routeOf ((o - 64) / 2 + 1) = byteField bs 0 4 / 2 ^ 16 % 16 ∧ t.clasp.copyDone = o + 4 ∧
      regsBut [Reg.TREE_ROUTE ((o - 64) / 2), Reg.TREE_ROUTE ((o - 64) / 2 + 1)] s t ∧
      t = { s with regs := t.regs, tree := t.tree, clasp := t.clasp }) ∧
    (s.clState = 6 → s.clasp.copyDone = o → 2112 ≤ o → o < 264256 → (o - 2112) % 4 = 0 → bs.length = 4 → ∃ t, exec (.claspChunk o d bs) s = .next t ∧
      t.rd (Reg.RING_BASE 0 + (o - 2112)) = byteField bs 0 4 ∧ t.clasp.copyDone = o + 4 ∧ regsBut [Reg.RING_BASE 0 + (o - 2112)] s t ∧
      t = { s with regs := t.regs, clasp := t.clasp }) ∧
    (s.clState ≠ 6 ∨ s.clasp.copyDone ≠ o → exec (.claspChunk o d bs) s = .next s) ∧
    (s.clState ≠ 6 → exec (.claspCommit hash) s = .next s) ∧
    (s.clState = 6 → s.imageHash = hash → ∃ t, exec (.claspCommit hash) s = .next t ∧ t.clState = 3 ∧
      t.clasp = { s.clasp with stateHeard := s.time.orbit, lostOrbit := none } ∧ t.ports = (s.sendMember 0x48 (leBytes 1 0)).ports ∧
      regsBut [Reg.CLASP_STATUS] s t ∧ t = { s with regs := t.regs, clasp := t.clasp, ports := t.ports, out := t.out, tree := t.tree }) ∧
    (s.clState = 6 → s.imageHash ≠ hash → ∃ t, exec (.claspCommit hash) s = .next t ∧ t.clState = 6 ∧
      t.clasp = { s.clasp with copyDone := 0 } ∧ t.rd Reg.CLASP_SYNC_RESTART_CNT = min (s.rd Reg.CLASP_SYNC_RESTART_CNT + 1) 0xFFFFFFFF ∧
      t.ports = (s.sendMember 0x48 (leBytes 1 1)).ports ∧
      regsBut [Reg.CLASP_SYNC_RESTART_CNT] s t ∧ t = { s with regs := t.regs, clasp := t.clasp, ports := t.ports, out := t.out }) ∧
    (s.clState ≠ 2 ∨ s.clasp.copying = false → exec (.commitAck false) s = .next s ∧ exec (.commitAck true) s = .next s) ∧
    (s.clState = 2 → s.clasp.copying = true → (∃ t, exec (.commitAck false) s = .next t ∧ t.on F.CLASP_STATUS_ALONE = false ∧
        t.clasp = { s.clasp with copying := false, digs := [] } ∧ regsBut [Reg.CLASP_STATUS] s t ∧ t = { s with regs := t.regs, clasp := t.clasp }) ∧
      exec (.commitAck true) s = .next { s with clasp := { s.clasp with copySent := 0 } }) ∧
    ((s.port 15).sess.rx = none → exec (.claspKey o d ct tag) s = .next s) ∧
    ((s.port 15).sess.rx = some k → key = padTo 16 (Config.gcmCrypt k.key (ivOf k.salt d) ct) →
      (padTo 16 (Config.gcmTag k.key (ivOf k.salt d) [] key) = tag →
        (s.e2eKeyOf o = none → ∃ t, exec (.claspKey o d ct tag) s = .next t ∧ t.hall = { s.hall with keys := t.hall.keys } ∧
          t.hall.keys.find? (fun x => decide (x.origin = o)) = some { origin := o, key := key, at' := s.time.orbit } ∧
          t = { s with hall := t.hall }) ∧
        (s.e2eKeyOf o = some x → ∃ t, exec (.claspKey o d ct tag) s = .next t ∧ t.hall = { s.hall with keys := t.hall.keys } ∧
          t.hall.keys.find? (fun x => decide (x.origin = o)) =
            some { origin := o, key := key, at' := s.time.orbit, old := x.key, oldEnds := s.time.orbit + 16 } ∧ t = { s with hall := t.hall })) ∧
      (padTo 16 (Config.gcmTag k.key (ivOf k.salt d) [] key) ≠ tag → exec (.claspKey o d ct tag) s = .next s))

/-- Commands of a ring (R19, R365–R368, R376, R386, R458, R466): the next command that names this die runs; its completion is written at its
descriptor with status, detail, data, die, TAG and phase, in index order, and RING_HEAD moves on; a command that the run state refuses completes
with the run state as detail and is counted; CFG_RD_BLOCK and LOG_READ first put a response record into the buffer. That a command whose record
finds no room waits is the model's reading of R268. Where a command's condition fails it leaves the die as it is: log 1. Outputs are appended to
`out`: log 8. The model's reading or choice here: log 48, 106. -/
def Obligations.RingCommandsRunAndComplete : Prop :=
  ∀ (s u : State) (r a v st det dat : Nat) (b c : HCmd), Awake s → s.sys.run ≠ .init → r < 8192 → a = c.arg0 → v = c.arg1 →
    (s.dmaOn = true → s.clasped = false → s.ringOn r = true → u = s.completeCmd r c.ix st det dat s.dieNo →
      (s.cmdsOf r = [c] → bitsOf c.flags 1 1 = 1 → u.cmdsOf r = [] ∧
        u.out = s.out ++ [.dmaWrite (s.descAddr r c.ix + 16) (leBytes 4 dat ++ leBytes 4 (det % 2 ^ 24) ++ leBytes 2 (s.dieNo % 1024) ++
          leBytes 2 c.tag ++ leBytes 2 0 ++ leBytes 1 st ++ leBytes 1 (1 - c.ix / 2 ^ s.ringLog2 r % 2))] ∧
        u.rd (Reg.RING_HEAD r) = (s.rd (Reg.RING_HEAD r) + 1) % 2 ^ 32 ∧ regsBut [Reg.RING_HEAD r] s u ∧
        u = { s with regs := u.regs, hif := { s.hif with cmds := u.hif.cmds }, out := u.out }) ∧
      (s.cmdsOf r = [b, c] → b.ix ≠ c.ix → b.place = .flight a → u.cmdsOf r = [b, { c with place := .done st det dat s.dieNo }] ∧
        regsBut [] s u ∧ u = { s with regs := u.regs, hif := { s.hif with cmds := u.hif.cmds } })) ∧
    (s.hostReads = false ∨ s.nextCmd r = none → exec (.nop (.ring r)) s = .next s ∧ exec (.cfgRd (.ring r)) s = .next s ∧
      exec (.cfgWr (.ring r)) s = .next s ∧ exec (.cfgRdBlock (.ring r)) s = .next s ∧ exec (.logRead (.ring r)) s = .next s ∧
      exec (.arm (.ring r)) s = .next s ∧ exec (.disarm (.ring r)) s = .next s ∧ exec (.readmit (.ring r)) s = .next s ∧ exec (.badOp r) s = .next s) ∧
    (s.cmdsOf r = [b, c] → b.place = .flight a → c.place = .waiting → bitsOf c.flags 0 1 = 1 → s.nextCmd r = none) ∧
    (s.hostReads = true → s.nextCmd r = some c → (c.op = 0 ∨ 0xB < c.op → exec (.badOp r) s = .next (s.completeCmd r c.ix 0x80 0 0 s.dieNo)) ∧
      (1 ≤ c.op ∧ c.op ≤ 0xB → exec (.badOp r) s = .next s)) ∧
    (s.hostReads = true → s.nextCmd r = some c → s.isMine c.die = true →
    (c.op = 1 → exec (.nop (.ring r)) s = .next (s.completeCmd r c.ix 0 0 0 s.dieNo)) ∧
    (c.op = 2 → a = Reg.VAULT_SCRUB → exec (.cfgRd (.ring r)) s = .next (s.completeCmd r c.ix 0 0 (s.rd a) s.dieNo)) ∧
    (c.op = 2 → a % 4 ≠ 0 → exec (.cfgRd (.ring r)) s = .next (s.completeCmd r c.ix 0x81 0 0 s.dieNo)) ∧
    (c.op = 3 → a = Reg.SYS_SCRATCH → s.sys.run.isReady = true → v < 2 ^ 32 → s.sys.fuseDone = true → s.bus.held = [] →
      ∃ t, exec (.cfgWr (.ring r)) s = .next t ∧ t.rd a = v ∧ (∀ x, x ≠ a → t.rd x = (s.completeCmd r c.ix 0 0 0 s.dieNo).rd x) ∧
        t.out = (s.completeCmd r c.ix 0 0 0 s.dieNo).out ∧ t.cmdsOf r = (s.completeCmd r c.ix 0 0 0 s.dieNo).cmdsOf r ∧
        t.sys = s.sys ∧ t.time = s.time) ∧
    (c.op = 3 → a = Reg.PORT_CFG 3 → s.sys.run = .running → s.sys.fuseDone = true → s.bus.held = [] → exec (.cfgWr (.ring r)) s =
      .next ((s.incBy Reg.SYS_REJECT_CNT 1).completeCmd r c.ix 1 s.sys.run.code 0 s.dieNo)) ∧
    (c.op = 4 → a = Reg.VAULT_SCRUB → v = 1 → s.roomFor 4 = true → exec (.cfgRdBlock (.ring r)) s =
      .next ((s.pushUnit 4 .resp false (leBytes 1 4 ++ leBytes 1 0 ++ leBytes 2 s.dieNo ++ leBytes 2 c.tag ++ leBytes 2 1 ++
        List.replicate 8 0 ++ leBytes 4 (s.rd a))).uplinks.setPlace r c.ix .record)) ∧
    (c.op = 4 → a % 4 ≠ 0 ∨ v = 0 ∨ 256 < v → s.roomFor (4 * min v 256) = true →
      exec (.cfgRdBlock (.ring r)) s = .next (s.completeCmd r c.ix 0x81 0 0 s.dieNo)) ∧
    (c.op = 4 → s.roomFor (4 * min v 256) = false → exec (.cfgRdBlock (.ring r)) s = .next s) ∧
    (c.op = 0xB → a < 256 → v = 1 → s.roomFor 32 = true → exec (.logRead (.ring r)) s =
      .next ((s.pushUnit 4 .resp false (leBytes 1 0xB ++ leBytes 1 0 ++ leBytes 2 s.dieNo ++ leBytes 2 c.tag ++ leBytes 2 8 ++
        List.replicate 8 0 ++ padTo 32 (sget [] s.fault.log a))).uplinks.setPlace r c.ix .record)) ∧
    (c.op = 0xB → 255 < a ∨ v = 0 ∨ 256 < v → s.roomFor (32 * min v 256) = true →
      exec (.logRead (.ring r)) s = .next (s.completeCmd r c.ix 0x81 0 0 s.dieNo)) ∧
    (c.op = 0xB → s.roomFor (32 * min v 256) = false → exec (.logRead (.ring r)) s = .next s) ∧
    (c.op = 5 → s.sys.run = .ready → s.on F.HALL_STATUS_DIGEST_VALID = true → s.locked = true → s.clasp.cold = false → s.clasped = false →
      ∃ t, exec (.arm (.ring r)) s = .next t ∧ t.sys.run = .armed ∧ t.time.fired = [] ∧ t.regs = (s.completeCmd r c.ix 0 0 0 s.dieNo).regs ∧
        t.out = (s.completeCmd r c.ix 0 0 0 s.dieNo).out ∧ t = { s with sys := t.sys, time := t.time, regs := t.regs, hif := t.hif, out := t.out }) ∧
    (c.op = 5 → s.sys.run = .ready → s.clasped = true → s.feat 8 = false →
      exec (.arm (.ring r)) s = .next (s.completeCmd r c.ix 0x83 0 0 s.dieNo)) ∧
    (c.op = 5 → s.sys.run = .ready → s.on F.HALL_STATUS_DIGEST_VALID = true → s.locked = true → s.clasped = true → s.feat 8 = true → s.clState = 1 →
      s.clasp.cold = true → s.dmaOn = true → ∃ t, exec (.arm (.ring r)) s = .next t ∧ t.sys.run = .armed ∧ t.clState = 2 ∧
        t.on F.CLASP_STATUS_ALONE = true ∧ t.on F.ORB_STATUS_HOLDOVER = false ∧ t.clasp.cold = false) ∧
    (c.op = 5 → s.sys.run = .ready → s.on F.HALL_STATUS_DIGEST_VALID = false ∨ s.locked = false → s.clasped = false ∨ s.feat 8 = true →
      exec (.arm (.ring r)) s = .next ((s.incBy Reg.SYS_REJECT_CNT 1).completeCmd r c.ix 1 s.sys.run.code 0 s.dieNo)) ∧
    (c.op = 5 → s.sys.run ≠ .ready → exec (.arm (.ring r)) s =
      .next ((s.incBy Reg.SYS_REJECT_CNT 1).completeCmd r c.ix 1 s.sys.run.code 0 s.dieNo)) ∧
    (c.op = 6 → s.sys.run = .armed → s.clasped = false → ∃ t, exec (.disarm (.ring r)) s = .next t ∧ t.sys.run = .ready ∧ t.sys.readyBall = true ∧
      t.out = (s.completeCmd r c.ix 0 0 0 s.dieNo).out ∧ t.regs = (s.completeCmd r c.ix 0 0 0 s.dieNo).regs ∧
      t = { s with sys := t.sys, regs := t.regs, hif := t.hif, out := t.out }) ∧
    (c.op = 6 → s.sys.run ≠ .armed → exec (.disarm (.ring r)) s =
      .next ((s.incBy Reg.SYS_REJECT_CNT 1).completeCmd r c.ix 1 s.sys.run.code 0 s.dieNo)) ∧
    (c.op = 7 → s.sys.run = .running → ∃ t, exec (.stop (.ring r)) s = .next t ∧ t.sys = { s.sys with stopPend := true } ∧ t.time = s.time ∧
      (fragOut (s.setPlace r c.ix .inside) = s.setPlace r c.ix .inside → t.cmdsOf r = (s.setPlace r c.ix .inside).cmdsOf r ∧ t.out = s.out ∧ t.regs = s.regs)) ∧
    (c.op = 7 → s.sys.run = .hold → ∃ t, exec (.stop (.ring r)) s = .next t ∧ t.sys.run = .ready ∧ t.sys.readyBall = true ∧ t.time.orbit = s.time.orbit) ∧
    (c.op = 7 → s.sys.run ≠ .running → s.sys.run ≠ .hold → fragOut ((s.incBy Reg.SYS_REJECT_CNT 1).completeCmd r c.ix 1 s.sys.run.code 0 s.dieNo) =
      (s.incBy Reg.SYS_REJECT_CNT 1).completeCmd r c.ix 1 s.sys.run.code 0 s.dieNo → exec (.stop (.ring r)) s =
        .next ((s.incBy Reg.SYS_REJECT_CNT 1).completeCmd r c.ix 1 s.sys.run.code 0 s.dieNo)) ∧
    (c.op = 8 → s.sys.run = .ready ∨ s.sys.run = .armed → a = 4 → v < 16 → s.isRetired 4 v = true → s.on F.FAULT_ALERT_MASK_INFO = true →
      ∃ t, exec (.readmit (.ring r)) s = .next t ∧ t.isRetired 4 v = false ∧ t.strikesOf 4 v = 0 ∧
      t.get (F.FAULT_RETIRED_COUNT 4) = (s.get (F.FAULT_RETIRED_COUNT 4) - 1) % 2 ^ (F.FAULT_RETIRED_COUNT 4).w ∧
      t.get F.FAULT_ALERT_SEQ_SEQ = (s.get F.FAULT_ALERT_SEQ_SEQ + 1) % 2 ^ F.FAULT_ALERT_SEQ_SEQ.w ∧ t.sys = s.sys ∧ t.time = s.time) ∧
    (c.op = 8 → s.sys.run = .ready ∨ s.sys.run = .armed → a = 7 ∨ (a = 4 ∧ 16 ≤ v) ∨ 10 ≤ a →
      exec (.readmit (.ring r)) s = .next (s.completeCmd r c.ix 0x81 0 0 s.dieNo)) ∧
    (c.op = 8 → s.sys.run = .running ∨ s.sys.run = .hold ∨ s.sys.run = .safe → exec (.readmit (.ring r)) s =
      .next ((s.incBy Reg.SYS_REJECT_CNT 1).completeCmd r c.ix 1 s.sys.run.code 0 s.dieNo)))

/-- Commands that the tree brings, and one that names another die (R19, R326–R328, R366, R367, R376, R466): a numbered die that is no root runs them
and sends CFG_RESP to their sender with the sender's TAG, or, of CFG_RD_BLOCK and LOG_READ, a response record; a root sends a command for another
die along its route, where it is in flight until the answer or, HIF_CMD_TMO µs after it left, TIMEOUT; a standby only shadows it. Where a
command's condition fails it leaves the die as it is: log 1. That time moves on to the moment an event carries is log 7. Outputs are appended to
`out`: log 8. The model's reading or choice here: log 21, 49, 110. -/
def Obligations.TreeCommandsAreAnswered : Prop :=
  ∀ (s u : State) (p src vtag tag a v r : Nat) (c : HCmd), Awake s →
    (s.isRoot = true ∨ s.on F.TREE_ID_NUMBERED = false → exec (.nop (.tree p src vtag tag a v)) s = .next s ∧ exec (.cfgRd (.tree p src vtag tag a v)) s = .next s ∧
      exec (.cfgWr (.tree p src vtag tag a v)) s = .next s ∧ exec (.cfgRdBlock (.tree p src vtag tag a v)) s = .next s ∧
      exec (.logRead (.tree p src vtag tag a v)) s = .next s ∧ exec (.arm (.tree p src vtag tag a v)) s = .next s ∧
      exec (.disarm (.tree p src vtag tag a v)) s = .next s ∧ exec (.readmit (.tree p src vtag tag a v)) s = .next s) ∧
    (s.isRoot = false → s.on F.TREE_ID_NUMBERED = true → s.otherShaft = some p → exec (.nop (.tree p src vtag tag a v)) s =
      .next (s.incBy Reg.TREE_ALT_DISCARD_CNT 1)) ∧
    (s.isRoot = false → s.on F.TREE_ID_NUMBERED = true → s.otherShaft ≠ some p → s.sys.run = .init →
      exec (.nop (.tree p src vtag tag a v)) s = .next ((s.incBy Reg.SYS_REJECT_CNT 1).answer src vtag 1 s.sys.run.code 0)) ∧
    (s.isRoot = false → s.on F.TREE_ID_NUMBERED = true → s.otherShaft ≠ some p → s.sys.run ≠ .init → s.sys.fuseDone = true → s.bus.held = [] →
      exec (.nop (.tree p src vtag tag a v)) s = .next (s.answer src vtag 0 0 0) ∧
      (a = Reg.VAULT_SCRUB → exec (.cfgRd (.tree p src vtag tag a v)) s = .next (s.answer src vtag 0 0 (s.rd a))) ∧
      (a % 4 ≠ 0 → exec (.cfgRd (.tree p src vtag tag a v)) s = .next (s.answer src vtag 0x81 0 0)) ∧
      (a = Reg.SYS_SCRATCH → s.sys.run.isReady = true → v < 2 ^ 32 → ∃ t, exec (.cfgWr (.tree p src vtag tag a v)) s = .next t ∧
        t.rd a = v ∧ (∀ x, x ≠ a → t.rd x = (s.answer src vtag 0 0 0).rd x) ∧ t.ports = (s.answer src vtag 0 0 0).ports ∧ t.sys = s.sys ∧ t.time = s.time) ∧
      (a = Reg.PORT_CFG 3 → s.sys.run = .running → exec (.cfgWr (.tree p src vtag tag a v)) s =
        .next ((s.incBy Reg.SYS_REJECT_CNT 1).answer src vtag 1 s.sys.run.code 0)) ∧
      (a = Reg.VAULT_SCRUB → v = 1 → s.roomFor 4 = true → exec (.cfgRdBlock (.tree p src vtag tag a v)) s =
        .next (s.pushUnit 4 .resp false (leBytes 1 4 ++ leBytes 1 0 ++ leBytes 2 s.dieNo ++ leBytes 2 tag ++ leBytes 2 1 ++
          List.replicate 8 0 ++ leBytes 4 (s.rd a))).uplinks) ∧
      (a % 4 ≠ 0 ∨ v = 0 ∨ 256 < v → s.roomFor (4 * min v 256) = true → exec (.cfgRdBlock (.tree p src vtag tag a v)) s = .next (s.answer src vtag 0x81 0 0)) ∧
      (a < 256 → v = 1 → s.roomFor 32 = true → exec (.logRead (.tree p src vtag tag a v)) s = .next (s.pushUnit 4 .resp false
        (leBytes 1 0xB ++ leBytes 1 0 ++ leBytes 2 s.dieNo ++ leBytes 2 tag ++ leBytes 2 8 ++ List.replicate 8 0 ++ padTo 32 (sget [] s.fault.log a))).uplinks) ∧
      (255 < a ∨ v = 0 ∨ 256 < v → s.roomFor (32 * min v 256) = true → exec (.logRead (.tree p src vtag tag a v)) s = .next (s.answer src vtag 0x81 0 0)) ∧
      (s.sys.run = .ready → s.on F.HALL_STATUS_DIGEST_VALID = true → s.locked = true → s.clasp.cold = false →
        ∃ t, exec (.arm (.tree p src vtag tag a v)) s = .next t ∧ t.sys.run = .armed ∧ t.time.fired = [] ∧ t.regs = s.regs ∧
          t.ports = (s.answer src vtag 0 0 0).ports) ∧
      (s.sys.run ≠ .ready → exec (.arm (.tree p src vtag tag a v)) s =
        .next ((s.incBy Reg.SYS_REJECT_CNT 1).answer src vtag 1 s.sys.run.code 0)) ∧
      (s.sys.run = .armed → ∃ t, exec (.disarm (.tree p src vtag tag a v)) s = .next t ∧ t.sys.run = .ready ∧ t.regs = s.regs ∧
        t.ports = (s.answer src vtag 0 0 0).ports) ∧
      (s.sys.run ≠ .armed → exec (.disarm (.tree p src vtag tag a v)) s =
        .next ((s.incBy Reg.SYS_REJECT_CNT 1).answer src vtag 1 s.sys.run.code 0)) ∧
      (s.sys.run = .running → ∃ t, exec (.stop (.tree p src vtag tag a v)) s = .next t ∧
        t.sys = { s.sys with stopPend := true, stops := s.sys.stops ++ [(src, vtag)] } ∧ t.time = s.time ∧
        (fragOut { s with sys := t.sys } = { s with sys := t.sys } → t = { s with sys := t.sys })) ∧
      (s.sys.run = .hold → ∃ t, exec (.stop (.tree p src vtag tag a v)) s = .next t ∧ t.sys.run = .ready ∧ t.time.orbit = s.time.orbit) ∧
      (s.sys.run = .running ∨ s.sys.run = .hold ∨ s.sys.run = .safe → exec (.readmit (.tree p src vtag tag a v)) s =
        .next ((s.incBy Reg.SYS_REJECT_CNT 1).answer src vtag 1 s.sys.run.code 0)) ∧
      (s.sys.run = .ready ∨ s.sys.run = .armed → a = 7 ∨ 10 ≤ a → exec (.readmit (.tree p src vtag tag a v)) s = .next (s.answer src vtag 0x81 0 0)) ∧
      (s.sys.run = .ready ∨ s.sys.run = .armed → a = 4 → v < 16 → s.isRetired 4 v = true → ∃ t, exec (.readmit (.tree p src vtag tag a v)) s = .next t ∧
        t.isRetired 4 v = false ∧ t.strikesOf 4 v = 0 ∧ t.sys = s.sys ∧ t.time = s.time)) ∧
    (s.hostReads = true → s.dmaOn = true → s.nextCmd r = some c → s.isMine c.die = false →
      (c.op = 2 → s.requestFails c.die = none → ∃ t, exec (.cfgRd (.ring r)) s = .next t ∧ t.cmdsOf r = (s.setFlight r c.ix s.hif.vtag).cmdsOf r ∧
        t.hif.vtag = (s.hif.vtag + 1) % 2 ^ 16 ∧
        t.ports = (s.sendTo c.die (vc0Bytes 0x18 c.die s.dieNo s.hif.vtag (leBytes 4 c.arg0))).ports ∧ t.sys = s.sys ∧ t.time = s.time) ∧
      (c.op = 3 → s.requestFails c.die = none → ∃ t, exec (.cfgWr (.ring r)) s = .next t ∧ t.cmdsOf r = (s.setFlight r c.ix s.hif.vtag).cmdsOf r ∧
        t.ports = (s.sendTo c.die (vc0Bytes 0x19 c.die s.dieNo s.hif.vtag (leBytes 4 c.arg0 ++ leBytes 4 c.arg1))).ports ∧ t.sys = s.sys ∧ t.time = s.time) ∧
      (c.op = 2 → s.requestFails c.die = some (a, v) → exec (.cfgRd (.ring r)) s =
        .next ((if a = 4 then s.incBy Reg.TREE_PARENT_ANSWER_CNT 1 else s).completeCmd r c.ix a v 0 s.dieNo)) ∧
      (c.op = 1 → s.requestFails c.die = none → s.routePort c.die = some p → ∃ t, exec (.nop (.ring r)) s = .next t ∧
        t.cmdsOf r = (s.setFlight r c.ix s.hif.vtag).cmdsOf r ∧ t.out = s.out ++ [.command p c.die s.hif.vtag 1 c.tag c.arg0 c.arg1] ∧
        t.regs = s.regs ∧ t.ports = s.ports)) ∧
    (s.hostReads = true → s.dmaOn = false → s.standsBy = true → s.nextCmd r = some c → s.isMine c.die = false → c.op = 2 →
      exec (.cfgRd (.ring r)) s = .next (s.setPlace r c.ix .inside)) ∧
    ((s.cmdsOf r).find? (fun x => decide (x.ix = c.ix)) = some c → c.place = .flight vtag →
      (s.atUs c.since (max 1 (s.get F.HIF_CMD_TMO_TMO)) = some u → exec (.commandTimeout r c.ix) s = .next (u.completeCmd r c.ix 0x82 0 0 c.die)) ∧
      (s.atUs c.since (max 1 (s.get F.HIF_CMD_TMO_TMO)) = none → exec (.commandTimeout r c.ix) s = .next s)) ∧
    ((s.cmdsOf r).find? (fun x => decide (x.ix = c.ix)) = some c → c.place = .waiting → exec (.commandTimeout r c.ix) s = .next s)

/-- Capsules (R368, R382, R391–R397): the CAPSULE command at the die hands its bytes to the Hallmark, CAP_CHUNK stages them in order and one out of
order abandons the capsule; the first check that fails is counted and answered and nothing is applied; a capsule that passes is written, its
VERSION taken and the digest started again; a claim burns the owner's hash and CLAIMED. Where a command's condition fails it leaves the die as it
is: log 1. The model's reading or choice here: log 6, 55. -/
def Obligations.CapsulesAreVerifiedAndApplied : Prop :=
  ∀ (s u : State) (r p src tag off a v g : Nat) (bs cs : List Byte) (c : HCmd) (e : Ans), Awake s → s.otherShaft ≠ some p →
    (s.hostReads = true → s.nextCmd r = some c → c.op = 9 → s.isMine c.die = true →
      (s.sys.run = .ready ∨ s.sys.run = .armed ∧ capClaim (bs.take c.arg1) = false → s.hall.verify = none →
        exec (.capsule r (some bs)) s = .next ({ s.setPlace r c.ix .inside with hall := { s.hall with
          verify := some (bs.take c.arg1, .ring r c.ix) } }.flag F.HALL_STATUS_CAP_BUSY)) ∧
      (s.sys.run = .ready ∨ s.sys.run = .armed ∧ capClaim (bs.take c.arg1) = false → s.hall.verify ≠ none →
        ∃ t, exec (.capsule r (some bs)) s = .next t ∧ t.hall = s.hall ∧ t.on F.HALL_STATUS_CAP_FAIL = true ∧
          t.rd Reg.HALL_CAP_FAIL_CNT = min (s.rd Reg.HALL_CAP_FAIL_CNT + 1) 0xFFFFFFFF ∧
          t = (s.setPlace r c.ix .inside).capFails.completeCmd r c.ix 0x17 0 0 s.dieNo ∧ t.sys = s.sys) ∧
      (s.sys.run ≠ .ready → s.sys.run ≠ .armed ∨ capClaim (bs.take c.arg1) = true → ∃ t, exec (.capsule r (some bs)) s = .next t ∧ t.hall = s.hall ∧
        t.rd Reg.SYS_REJECT_CNT = min (s.rd Reg.SYS_REJECT_CNT + 1) 0xFFFFFFFF ∧
        t.rd Reg.HALL_CAP_FAIL_CNT = min (s.rd Reg.HALL_CAP_FAIL_CNT + b2n (!capClaim (bs.take c.arg1))) 0xFFFFFFFF ∧
        t.cmdsOf r = ((s.setPlace r c.ix .inside).completeCmd r c.ix 1 s.sys.run.code 0 s.dieNo).cmdsOf r ∧ t.sys = s.sys)) ∧
    (s.hostReads = true → s.nextCmd r = some c → c.op = 9 ∨ c.op = 0xA → r < 8192 →
      ((c.op = 9 → exec (.capsule r none) s = .next ((s.completeCmd r c.ix 0x81 0 0 s.dieNo).ringFail r (F.RING_STATUS_FETCH_ERR r))) ∧
      (c.op = 0xA → exec (.attest r none) s = .next ((s.completeCmd r c.ix 0x81 0 0 s.dieNo).ringFail r (F.RING_STATUS_FETCH_ERR r))) ∧
      (c.op = 9 → ∃ t, exec (.capsule r none) s = .next t ∧ t.on (F.RING_CFG_EN r) = false ∧ t.on (F.RING_STATUS_FETCH_ERR r) = true ∧ t.cmdsOf r = []) ∧
      (c.op = 0xA → exec (.capsule r (some bs)) s = .next s) ∧ (c.op = 9 → exec (.attest r (some bs)) s = .next s))) ∧
    (s.hostReads = false ∨ s.nextCmd r = none → exec (.capsule r (some bs)) s = .next s ∧ exec (.attest r (some bs)) s = .next s) ∧
    (s.hostReads = true → s.dmaOn = true → s.nextCmd r = some c → c.op = 9 → s.isMine c.die = false → s.requestFails c.die = none → 0 < bs.length →
      bs.length ≤ 1008 → bs.length ≤ c.arg1 → ∃ t, exec (.capsule r (some bs)) s = .next t ∧ t.cmdsOf r = (s.setFlight r c.ix s.hif.vtag).cmdsOf r ∧
        t.ports = (s.sendTo c.die (vc0Bytes 0x35 c.die s.dieNo s.hif.vtag (padWord (leBytes 4 0 ++ bs)))).ports ∧ t.sys = s.sys ∧ t.time = s.time) ∧
    (s.sys.run = .ready → cs = (if s.hall.stageFor = (src, tag) then s.hall.staged else []) →
      (off = cs.length → 8 ≤ off + bs.length → 8 ≤ capLen (cs ++ bs) → capLen (cs ++ bs) ≤ off + bs.length → capLen (cs ++ bs) ≤ 270336 → s.hall.verify = none →
        ∃ t, exec (.capChunk p src tag off bs) s = .next t ∧ t.on F.HALL_STATUS_CAP_BUSY = true ∧ t.hall = { s.hall with
          staged := [], stageFor := (src, tag), verify := some ((cs ++ bs).take (capLen (cs ++ bs)), .tree src tag) } ∧ regsBut [Reg.HALL_STATUS] s t ∧ t = { s with hall := t.hall, regs := t.regs }) ∧
      (off = cs.length → off + bs.length < 8 ∨ capLen (cs ++ bs) ≤ 270336 ∧ off + bs.length < capLen (cs ++ bs) → exec (.capChunk p src tag off bs) s =
        .next { s with hall := { s.hall with
          staged := cs ++ bs, stageFor := (src, tag) } }) ∧
      (off ≠ cs.length ∨ 8 ≤ off + bs.length ∧ 270336 < capLen (cs ++ bs) → ∃ t, exec (.capChunk p src tag off bs) s = .next t ∧ t.hall = { s.hall with
          staged := [], stageFor := (src, tag) } ∧
        t.rd Reg.HALL_CAP_FAIL_CNT = min (s.rd Reg.HALL_CAP_FAIL_CNT + 1) 0xFFFFFFFF ∧ t.on F.HALL_STATUS_CAP_FAIL = true ∧
        t.ports = (s.capFails.answer src tag 0x16 (off % 2 ^ 24) 0).ports ∧ t.sys = s.sys ∧ t.time = s.time)) ∧
    (s.hall.verify = none → exec .capsuleApply s = .next s ∧ exec .claim s = .next s) ∧
    (s.hall.verify = some (bs, .tree src tag) → u = { s with hall := { s.hall with verify := none } }.unflag F.HALL_STATUS_CAP_BUSY →
      (capClaim bs = false → s.sys.run = .ready → s.claimed? = true →
        (capParse bs = .error e → exec .capsuleApply s = .next (u.capFails.answer src tag e.status e.detail e.data)) ∧
        (capParse bs = .ok [(a, v)] → s.capTarget bs = false → exec .capsuleApply s = .next (u.capFails.answer src tag 0x14 0 0)) ∧
        (capParse bs = .ok [(a, v)] → s.capTarget bs = true → s.ownerHash ≠ capOwner bs →
          exec .capsuleApply s = .next (u.capFails.answer src tag 0x12 0 0)) ∧
        (capParse bs = .ok [(a, v)] → s.capTarget bs = true → s.ownerHash = capOwner bs → ∃ t, exec .capsuleApply s = .next t ∧ t.hall.verify = none ∧
          t.on F.HALL_STATUS_CAP_BUSY = false ∧ t.sys = s.sys ∧ t.time = s.time ∧
          (capSigned bs = false → t = u.capFails.answer src tag 0x11 0 0) ∧
          (capSigned bs = true → byteField bs 20 4 ≤ s.rd Reg.HALL_CAP_VER → t = u.capFails.answer src tag 0x13 0 0) ∧
          (capSigned bs = true → s.rd Reg.HALL_CAP_VER < byteField bs 20 4 → s.lockGroup a = some g → bitsOf (s.rd Reg.HALL_LOCK) g 1 = 1 →
            t = u.capFails.answer src tag 0x15 (a % 2 ^ 24) 0) ∧
          (capSigned bs = true → s.rd Reg.HALL_CAP_VER < byteField bs 20 4 → a = Reg.SYS_SCRATCH → s.bus.held = [] → v < 2 ^ 32 →
            t.rd a = v ∧ t.rd Reg.HALL_CAP_VER = byteField bs 20 4 ∧ t.rd Reg.HALL_CAP_OK_CNT = min (s.rd Reg.HALL_CAP_OK_CNT + 1) 0xFFFFFFFF ∧
            t.on F.HALL_STATUS_DIGEST_VALID = false ∧ t.hall.hashing = true ∧ t.rd Reg.HALL_LOCK = s.rd Reg.HALL_LOCK ∧
            t.ports = (u.answer src tag 0 0 0).ports ∧ regsBut [a, Reg.HALL_CAP_VER, Reg.HALL_CAP_OK_CNT, Reg.HALL_STATUS] s t))) ∧
      (capClaim bs = true → exec .capsuleApply s = .next s) ∧
      (capClaim bs = false → exec .claim s = .next s) ∧
      (capClaim bs = true → s.sys.run = .ready → capParse bs = .ok [] → capLen bs = 156 →
        (s.capTarget bs = false → exec .claim s = .next (u.capFails.answer src tag 0x14 0 0)) ∧
        (s.capTarget bs = true → s.on F.TREE_ID_NUMBERED = false → ∃ t, exec .claim s = .next t ∧ t.hall.verify = none ∧ t.sys = s.sys ∧ t.time = s.time ∧
          (capSigned bs = false → t = u.capFails.answer src tag 0x11 0 0) ∧
          (capSigned bs = true → s.claimed? = true → t = u.capFails.answer src tag 0x18 0 0) ∧
          (capSigned bs = true → s.claimed? = false → burnsOver s.ownerHash (capOwner bs) = false → t = u.capFails.answer src tag 0x19 0 0) ∧
          (capSigned bs = true → s.claimed? = false → burnsOver s.ownerHash (capOwner bs) = true →
            t.fuse = { s.fuse with owner := capOwner bs, claimed := true } ∧ t.hall.broken = false ∧
            t.rd Reg.HALL_CAP_OK_CNT = min (s.rd Reg.HALL_CAP_OK_CNT + 1) 0xFFFFFFFF ∧ t.ports = (u.answer src tag 0 0 0).ports))))

/-- The digest and attestation (R376, R399, R400): the recomputation's end fills HALL_DIGEST and sets DIGEST_VALID; a die attests with a report of 352
bytes signed by its identity key, as a response record or as ATTEST_RESP, and counts it; a nonce of another length is refused. That an own report
with no room for its record waits, and one that comes from another die is then lost, is the model's choice (log 110). Where a command's condition
fails it leaves the die as it is: log 1. The model's reading or choice here: log 6, 33, 56, 110. -/
def Obligations.DigestCompletesAndDiesAttest : Prop :=
  ∀ (s : State) (r p src tag : Nat) (nonce rep : List Byte) (c : HCmd), Awake s → s.otherShaft ≠ some p →
    (s.hall.hashing = true → ∃ t, exec .digestDone s = .next t ∧ t.digest = s.configDigest ∧ t.on F.HALL_STATUS_DIGEST_VALID = true ∧
      t.hall = { s.hall with hashing := false } ∧
      regsBut ((List.range 8).map (fun k => Reg.HALL_DIGEST + 4 * k) ++ [Reg.HALL_STATUS]) s t ∧ t = { s with regs := t.regs, hall := t.hall }) ∧
    (s.hall.hashing = false → exec .digestDone s = .next s) ∧
    (s.sys.run ≠ .init → 16 ≤ nonce.length → nonce.length ≤ 64 → exec (.attestReq p src tag nonce) s =
      .next ((s.incBy Reg.HALL_ATTEST_CNT 1).sendTo src (vc0Bytes 0x38 src s.dieNo tag
        (s.reportBody nonce ++ padTo 64 (Config.ecdsaSign Config.identity (s.reportBody nonce)))))) ∧
    (16 ≤ nonce.length → nonce.length ≤ 64 → (s.reportBody nonce).length = 288) ∧
    (s.sys.run ≠ .init → nonce.length < 16 ∨ 64 < nonce.length → exec (.attestReq p src tag nonce) s = .next (s.answer src tag 0x81 0 0)) ∧
    (s.sys.run = .init → exec (.attestReq p src tag nonce) s = .next ((s.incBy Reg.SYS_REJECT_CNT 1).answer src tag 1 s.sys.run.code 0)) ∧
    (s.hostReads = true → s.nextCmd r = some c → c.op = 0xA →
      (s.isMine c.die = true → s.sys.run ≠ .init → nonce.length ≤ c.arg1 → 16 ≤ nonce.length → nonce.length ≤ 64 →
        (s.roomFor 352 = true → exec (.attest r (some nonce)) s = .next (((s.incBy Reg.HALL_ATTEST_CNT 1).pushUnit 4 .resp false (leBytes 1 0xA ++
            leBytes 1 0 ++ leBytes 2 s.dieNo ++ leBytes 2 c.tag ++ leBytes 2 88 ++ List.replicate 8 0 ++
            s.reportBody nonce ++ padTo 64 (Config.ecdsaSign Config.identity (s.reportBody nonce)))).uplinks.setPlace r c.ix .record)) ∧
        (s.roomFor 352 = false → exec (.attest r (some nonce)) s = .next s)) ∧
      ((nonce.take c.arg1).length < 16 ∨ 64 < (nonce.take c.arg1).length → exec (.attest r (some nonce)) s = .next (s.completeCmd r c.ix 0x81 0 0 s.dieNo)) ∧
      (s.isMine c.die = false → s.dmaOn = true → s.requestFails c.die = none → nonce.length ≤ c.arg1 → 16 ≤ nonce.length → nonce.length ≤ 64 →
        ∃ t, exec (.attest r (some nonce)) s = .next t ∧ t.cmdsOf r = (s.setFlight r c.ix s.hif.vtag).cmdsOf r ∧
          t.ports = (s.sendTo c.die (vc0Bytes 0x37 c.die s.dieNo s.hif.vtag (padWord (leBytes 1 nonce.length ++ leBytes 3 0 ++ nonce)))).ports ∧
          t.sys = s.sys ∧ t.time = s.time)) ∧
    (s.isRoot = true → s.inFlight tag = some (r, c) → c.op = 0xA → s.roomFor 352 = true → rep.length = 352 →
      ∃ t, exec (.attestResp src tag rep) s = .next t ∧ t.cmdsOf r = (s.setPlace r c.ix .record).cmdsOf r ∧
        t.buf.units = s.buf.units ++ [{
          stream := 4, origin := src, q := false, part := .resp, orbit := s.time.orbit
          bytes := leBytes 1 0xA ++ leBytes 1 0 ++ leBytes 2 src ++ leBytes 2 c.tag ++ leBytes 2 88 ++ List.replicate 8 0 ++ rep }] ∧ t = { s with hif := t.hif, buf := t.buf }) ∧
    (s.isRoot = true → s.inFlight tag = none ∨ s.roomFor 352 = false → exec (.attestResp src tag rep) s = .next s) ∧
    (s.isRoot = false → exec (.attestResp src tag rep) s = .next s)

/-- Doorbells (R363–R365, R380, R382): HIF_DB_POLL µs after the last the poll reads the whole array; a tail that has moved brings the ring's new
descriptors; one that has not has no effect; an invalid tail or a failed fetch disables the ring, is counted and raises an alert, and the fetch is
reported through AER; a nudged block is read again if it was nudged meanwhile. Where a command's condition fails it leaves the die as it is: log
1. That time moves on to the moment an event carries is log 7. Outputs are appended to `out`: log 8. -/
def Obligations.DoorbellsBringDescriptors : Prop :=
  ∀ (s u : State) (w : TailWord) (r head v n : Nat) (d e : List Byte) (cs : List HCmd) (bs : List HBuf), Awake s → w.ring = r → r < 8192 →
    s.rd (Reg.RING_HEAD r) = head → w.tail < 2 ^ 32 → n = (w.tail + 2 ^ 32 - head) % 2 ^ 32 →
    (s.hostReads = true → 0 < s.get F.HIF_DB_POLL_POLL → s.atUs s.hif.pollAt (s.get F.HIF_DB_POLL_POLL) = some u → exec .doorbellPoll s =
      .next { u with hif := { u.hif with pollAt := u.fNow }, out := u.out ++ [.dmaRead (u.rd64 Reg.HIF_DB_BASE) 32768] }) ∧
    (s.hostReads = false ∨ s.get F.HIF_DB_POLL_POLL = 0 ∨ s.atUs s.hif.pollAt (s.get F.HIF_DB_POLL_POLL) = none → exec .doorbellPoll s = .next s) ∧
    (s.hostReads = false ∨ s.ringOn r = false ∨ s.rd (Reg.RING_TAIL_SEEN r) = w.tail → exec (.doorbellReadDone none [w]) s = .next s) ∧
    (s.hostReads = true → s.hif.nudges = [] → r / 64 ≠ v → exec (.doorbellReadDone (some v) [w]) s = .next s) ∧
    (s.hostReads = true → s.feat 4 = true → s.hif.nudges = [(v, true)] → exec (.doorbellReadDone (some v) []) s = .next { s with
      hif := { s.hif with nudges := [(v, false)] }, out := s.out ++ [.dmaRead (s.rd64 Reg.HIF_DB_BASE + 256 * v) 256] }) ∧
    (s.hostReads = true → s.hif.nudges = [(v, false)] → exec (.doorbellReadDone (some v) []) s = .next { s with hif := { s.hif with nudges := [] } }) ∧
    (s.hostReads = true → s.ringOn r = true → s.rd (Reg.RING_TAIL_SEEN r) ≠ w.tail → n ≤ 2 ^ s.ringLog2 r →
      (s.ringType r = 1 → s.cmdsOf r = cs → w.fail = false → w.descs = [d, e] → n = cs.length + 2 → ∃ t,
        exec (.doorbellReadDone none [w]) s = .next t ∧ t.rd (Reg.RING_TAIL_SEEN r) = w.tail ∧
        t.cmdsOf r = cs ++ [parseCmd ((head + cs.length) % 2 ^ 32) d, parseCmd ((head + cs.length + 1) % 2 ^ 32) e] ∧
        regsBut [Reg.RING_TAIL_SEEN r] s t ∧ t = { s with regs := t.regs, hif := t.hif }) ∧
      (s.ringType r = 2 → s.bufsOf r = bs → w.fail = false → w.descs = [d] → n = bs.length + 1 → s.hif.nudges = [] → ∃ t,
        exec (.doorbellReadDone (some (r / 64)) [w]) s = .next t ∧ t.rd (Reg.RING_TAIL_SEEN r) = w.tail ∧
        t.bufsOf r = bs ++ [{ ix := (head + bs.length) % 2 ^ 32, addr := byteField d 0 8, len := byteField d 8 4, id := byteField d 12 4 }] ∧
        regsBut [Reg.RING_TAIL_SEEN r] s t ∧ t = { s with regs := t.regs, hif := t.hif }) ∧
      (s.ringType r = 3 → ∃ t, exec (.doorbellReadDone none [w]) s = .next t ∧ t.rd (Reg.RING_TAIL_SEEN r) = w.tail ∧
        regsBut [Reg.RING_TAIL_SEEN r] s t ∧ t = { s with regs := t.regs }) ∧
      (s.ringType r = 1 ∨ s.ringType r = 2 → w.fail = true → ∃ t, exec (.doorbellReadDone none [w]) s = .next t ∧ t.ringOn r = false ∧
        t.on (F.RING_STATUS_FETCH_ERR r) = true ∧ t.rd Reg.RING_DB_ERR_CNT = min (s.rd Reg.RING_DB_ERR_CNT + 1) 0xFFFFFFFF ∧
        t.cmdsOf r = [] ∧ t.bufsOf r = [] ∧ t.sys = s.sys ∧ t.time = s.time ∧ t.out = s.out ++ [.aer r])) ∧
    (s.hostReads = true → s.ringOn r = true → s.rd (Reg.RING_TAIL_SEEN r) ≠ w.tail → 2 ^ s.ringLog2 r < n → ∃ t,
      exec (.doorbellReadDone none [w]) s = .next t ∧ t.ringOn r = false ∧ t.on (F.RING_STATUS_DB_ERR r) = true ∧
      t.rd Reg.RING_DB_ERR_CNT = min (s.rd Reg.RING_DB_ERR_CNT + 1) 0xFFFFFFFF ∧ t.cmdsOf r = [] ∧ t.bufsOf r = [] ∧
      t.sys = s.sys ∧ t.time = s.time ∧ t.out = s.out)

/-- Delivery to a ring (R343, R369, R370, R373–R375, R384, R252): the first unit for a ring goes to its buffers or entries, data, then completion,
then the interrupt; one without room waits; a transfer of another group holds it back; with DROP a unit that has waited HIF_DROP_TMO µs is
discarded; a coalescing time's end signals the group. Where a command's condition fails it leaves the die as it is: log 1. That time moves on to
the moment an event carries is log 7. Outputs are appended to `out`: log 8. The model's reading or choice here: log 22, 23, 26. -/
def Obligations.UnitsAreDelivered : Prop :=
  ∀ (s v : State) (r g k : Nat) (u : BUnit) (b : HBuf) (q : ArbReq), Awake s → r < 8192 → g = r / 64 →
    (s.dmaOn = true → s.dropUnmapped = s → s.unitFor r = some u →
      (u.stream = 5 → u.bytes.length = 32 → u.sentA = 0 → s.dmaGrant r 1 = (v, true) → fragOut { v with
          buf := { v.buf with units := v.buf.units.erase u } } = { v with buf := { v.buf with units := v.buf.units.erase u } } →
        (s.ringType r = 2 → s.bufsOf r = [b] → 32 ≤ b.len → ∃ t, exec (.unitDeliver r) s = .next t ∧
          t.buf.units = s.buf.units.erase u ∧ t.bufsOf r = [] ∧ t.rd (Reg.RING_HEAD r) = (s.rd (Reg.RING_HEAD r) + 1) % 2 ^ 32 ∧
          t.rd (Reg.RING_UNITS r) = (s.rd (Reg.RING_UNITS r) + 1) % 2 ^ 32 ∧ t.on (F.RING_STATUS_WAITING r) = false ∧ t.sys = s.sys ∧ t.time = s.time ∧
          (s.clasped = false ∨ s.clState ≠ 2 → s.hif.coal = [] → s.feat 5 = false → s.hif.msixOn = true → s.hif.msixMask = false →
            k = 0x90000 + 16 * s.get (F.RING_CFG_VECTOR r) → s.rd (k + 12) % 2 = 0 →
            t.out = s.out ++ [.dmaWrite b.addr u.bytes, .dmaWrite (s.descAddr r b.ix + 16) (s.dataBytes r b.ix 32 u.origin 5 3 (unitKeyOf 5 u.bytes) 0)] ++
              (if s.on (F.RING_CFG_NOINT r) then [] else [.msix (s.rd64 k) (s.rd (k + 8))]) ∧
            regsBut [Reg.RING_HEAD r, Reg.RING_UNITS r, Reg.RING_STATUS r] v t ∧
            t = { v with regs := t.regs, buf := { v.buf with units := v.buf.units.erase u }, hif := t.hif, out := t.out })) ∧
        (s.ringType r = 3 → 2 ≤ s.avail r → ∃ t, exec (.unitDeliver r) s = .next t ∧ t.buf.units = s.buf.units.erase u ∧
          t.rd (Reg.RING_HEAD r) = (s.rd (Reg.RING_HEAD r) + 2) % 2 ^ 32 ∧ t.sys = s.sys ∧ t.time = s.time ∧
          (s.clasped = false ∨ s.clState ≠ 2 → s.on (F.RING_CFG_NOINT r) = true →
            t.out = s.out ++ [.dmaWrite (s.descAddr r (s.rd (Reg.RING_HEAD r))) (s.eventBytes r (s.rd (Reg.RING_HEAD r)) u.origin 5 true false (u.bytes.take 24)),
              .dmaWrite (s.descAddr r ((s.rd (Reg.RING_HEAD r) + 1) % 2 ^ 32))
                (s.eventBytes r ((s.rd (Reg.RING_HEAD r) + 1) % 2 ^ 32) u.origin 5 false true (u.bytes.drop 24))]))) ∧
      (s.dmaGrant r (ceilDiv u.bytes.length 64) = (v, true) → u.tagged = false → s.ringType r = 2 → s.bufsOf r = [] → 0 < u.bytes.length → u.sentA = 0 → ∃ t,
        exec (.unitDeliver r) s = .next t ∧ t.on (F.RING_STATUS_WAITING r) = true ∧ t.buf = s.buf ∧ t.out = s.out ∧
        sget 0 t.hif.waitAt r = (if s.on (F.RING_STATUS_WAITING r) then sget 0 s.hif.waitAt r else s.fNow) ∧
        regsBut [Reg.RING_STATUS r] v t ∧ t = { v with regs := t.regs, hif := { v.hif with waitAt := t.hif.waitAt } }) ∧
      ((s.arb 34).owner = some q → q.r ≠ g → q.prog < q.len → (s.arb 34).parked = false → ∃ t, exec (.unitDeliver r) s = .next t ∧
        t.buf = s.buf ∧ t.out = s.out ∧ t.regs = s.regs ∧ (t.arb 34).owner = some q ∧ t = { s with arbs := t.arbs })) ∧
    (s.dmaOn = true → s.unitFor r = some u → s.on (F.RING_CFG_DROP r) = true → s.on (F.RING_STATUS_WAITING r) = true →
      (s.atUs (sget 0 s.hif.waitAt r) (max 1 (s.get F.HIF_DROP_TMO_TMO)) = some v → ∃ t, exec (.ringDropTimeout r) s = .next t ∧
        t.rd (Reg.RING_DROP_CNT r) = min (v.rd (Reg.RING_DROP_CNT r) + 1) 0xFFFFFFFF ∧ t.on (F.RING_STATUS_WAITING r) = false ∧ t.sys = v.sys ∧
        t.time = v.time ∧ (fragOut { v with buf := { v.buf with units := v.buf.units.erase u } } = { v with buf := { v.buf with units := v.buf.units.erase u } } →
          t.buf.units = v.buf.units.erase u ∧ regsBut [Reg.RING_DROP_CNT r, Reg.RING_STATUS r] v t ∧ t = { v with regs := t.regs, buf := t.buf })) ∧
      (s.atUs (sget 0 s.hif.waitAt r) (max 1 (s.get F.HIF_DROP_TMO_TMO)) = none → exec (.ringDropTimeout r) s = .next s)) ∧
    (s.dmaOn = true → s.buf.units = [u] → s.deliverable u = true → s.ringFor u.origin u.stream = none → ∃ t, exec (.unitDeliver r) s = .next t ∧
      t.buf = { s.buf with units := [] } ∧ t.rd Reg.RING_UNMAPPED_CNT = min (s.rd Reg.RING_UNMAPPED_CNT + 1) 0xFFFFFFFF ∧
      regsBut [Reg.RING_UNMAPPED_CNT] s t ∧ t = { s with regs := t.regs, buf := t.buf }) ∧
    (s.dmaOn = true → s.dropUnmapped = s → s.unitFor r = none → exec (.unitDeliver r) s = .next s ∧ exec (.ringDropTimeout r) s = .next s) ∧
    (s.dmaOn = false → s.clasped = false ∨ s.clState < 3 → exec (.unitDeliver r) s = .next s) ∧
    (s.dmaOn = false ∨ s.on (F.RING_CFG_DROP r) = false ∨ s.on (F.RING_STATUS_WAITING r) = false → exec (.ringDropTimeout r) s = .next s) ∧
    (s.clasped = true → s.hif.d3 = false → s.clState = 3 → s.get F.CLASP_CTRL_ALERT_RING = r → s.ringOn r = true → s.ringType r = 2 → s.bufsOf r = [b] → 32 ≤ b.len →
      s.buf.units = [u] → u.whole = true → u.stream = 5 → u.origin = s.dieNo → u.bytes.length = 32 → u.sentA = 0 → fragOut { s with buf := { s.buf with units := [] } } =
        { s with buf := { s.buf with units := [] } } → ∃ t, exec (.unitDeliver r) s = .next t ∧ t.buf.units = [] ∧ t.bufsOf r = [] ∧
          t.rd (Reg.RING_HEAD r) = (s.rd (Reg.RING_HEAD r) + 1) % 2 ^ 32 ∧ t.sys = s.sys ∧ t.time = s.time) ∧
    (sget [] s.hif.coal g = [k] → s.get (F.HIF_COAL_TIME g) ≠ 0 → k < 2048 → s.atUs (sget 0 s.hif.coalAt g) (s.get (F.HIF_COAL_TIME g)) = some v →
      (s.hif.d3 = false → s.hif.msixOn = true → s.hif.msixMask = false → s.rd (0x90000 + 16 * k + 12) % 2 = 0 → exec (.coalesceTimeout g) s = .next { v with
        hif := { v.hif with coal := sset [] v.hif.coal g [] }, out := v.out ++ [.msix (v.rd64 (0x90000 + 16 * k)) (v.rd (0x90000 + 16 * k + 8))] }) ∧
      (s.hif.d3 = true ∨ s.hif.msixOn = false ∨ s.hif.msixMask = true ∨ s.rd (0x90000 + 16 * k + 12) % 2 = 1 → ∃ t, exec (.coalesceTimeout g) s = .next t ∧
        bitsOf (t.rd (0x98000 + 4 * (k / 32))) (k % 32) 1 = 1 ∧ sget [] t.hif.coal g = [] ∧ t.out = v.out ∧ regsBut [0x98000 + 4 * (k / 32)] v t)) ∧
    (s.get (F.HIF_COAL_TIME g) = 0 ∨ sget [] s.hif.coal g = [] ∨ s.atUs (sget 0 s.hif.coalAt g) (s.get (F.HIF_COAL_TIME g)) = none →
      exec (.coalesceTimeout g) s = .next s)

/-- Writes of registers (R4–R9, R24–R30, R359–R361, R391, R461, R462, R467–R470): a word takes its writable bits; flags written with 1 and counters
written clear; what the run state, a mode or Protected refuses has no effect, is counted, and at a root's BAR leaves its status in
HIF_LAST_REJECT. Where a command's condition fails it leaves the die as it is: log 1. The model's reading or choice here: log 54, 64, 72, 75, 89. -/
def Obligations.RegisterWritesAreJudged : Prop :=
  ∀ (s : State) (a v be : Nat) (bar : Bool), Awake s → s.sys.fuseDone = true → s.bus.held = [] → v < 2 ^ 32 →
    (bar = true → be < 15 → exec (.registerWrite bar a v be) s = .next s) ∧
    (s.sys.run.isReady = true → ∃ t, exec (.registerWrite bar Reg.SYS_SCRATCH v 15) s = .next t ∧ t.rd Reg.SYS_SCRATCH = v ∧
      regsBut [Reg.SYS_SCRATCH] s t ∧ t = { s with regs := t.regs }) ∧
    (s.sys.run.isReady = true → ∃ t, exec (.registerWrite bar Reg.ORB_STATUS v 15) s = .next t ∧
      t.rd Reg.ORB_STATUS = s.rd Reg.ORB_STATUS &&& (0xFFFFFFFF ^^^ (v &&& 0xFF00)) ∧ regsBut [Reg.ORB_STATUS] s t ∧ t = { s with regs := t.regs }) ∧
    (s.sys.run.isReady = true → ∃ t, exec (.registerWrite bar Reg.ORB_MISS_CNT v 15) s = .next t ∧ t.rd Reg.ORB_MISS_CNT = 0 ∧
      regsBut [Reg.ORB_MISS_CNT] s t ∧ t = { s with regs := t.regs }) ∧
    (s.sys.run.isReady = true → exec (.registerWrite bar Reg.SYS_STATUS v 15) s = .next s) ∧
    (s.sys.run.isReady = true → findReg a = none → inVault a = false → a % 4 = 0 → bar = false ∨ s.isRoot = false →
      exec (.registerWrite bar a v 15) s = .next (s.incBy Reg.SYS_BADADDR_CNT 1)) ∧
    (s.sys.run = .running ∨ s.sys.run = .hold → inVault a = false → a % 4 = 0 → (findReg a).any (fun h => decide (h.row.cls = .mode)) = true →
      ∃ t, exec (.registerWrite bar a v 15) s = .next t ∧ t.rd a = s.rd a ∧ t.rd Reg.SYS_REJECT_CNT = min (s.rd Reg.SYS_REJECT_CNT + 1) 0xFFFFFFFF ∧
        (bar = true → s.isRoot = true → t.get F.HIF_LAST_REJECT_STATUS = 1 ∧ t.get F.HIF_LAST_REJECT_DETAIL = s.sys.run.code ∧
          t.rd (Reg.HIF_LAST_REJECT + 4) = a) ∧
        regsBut [Reg.SYS_REJECT_CNT, Reg.HALL_PROTECTED_REJ_CNT, Reg.HIF_LAST_REJECT, Reg.HIF_LAST_REJECT + 4] s t ∧ t = { s with regs := t.regs }) ∧
    (s.sys.run = .ready → inVault a = false → a % 4 = 0 → (findReg a).any (fun h => decide (h.row.cls = .prot)) = true →
      ∃ t, exec (.registerWrite bar a v 15) s = .next t ∧ t.rd a = s.rd a ∧ t.rd Reg.SYS_REJECT_CNT = min (s.rd Reg.SYS_REJECT_CNT + 1) 0xFFFFFFFF ∧
        t.rd Reg.HALL_PROTECTED_REJ_CNT = min (s.rd Reg.HALL_PROTECTED_REJ_CNT + 1) 0xFFFFFFFF ∧
        (bar = true → s.isRoot = true → t.get F.HIF_LAST_REJECT_STATUS = 0x10 ∧ t.get F.HIF_LAST_REJECT_DETAIL = 0 ∧ t.rd (Reg.HIF_LAST_REJECT + 4) = a) ∧
        regsBut [Reg.SYS_REJECT_CNT, Reg.HALL_PROTECTED_REJ_CNT, Reg.HIF_LAST_REJECT, Reg.HIF_LAST_REJECT + 4] s t ∧ t = { s with regs := t.regs }) ∧
    (s.sys.run = .ready → s.isRoot = true → v % 4 = 1 → bar = false → exec (.registerWrite bar Reg.ORB_CLK v 15) s =
      .next (s.incBy Reg.SYS_REJECT_CNT 1)) ∧
    (s.sys.run = .init ∨ s.sys.run = .safe → inVault a = false → (findReg a).any (fun h => decide (h.row.cls ≠ .msix)) = true → ∃ t,
      exec (.registerWrite false a v 15) s = .next t ∧ t.rd Reg.SYS_REJECT_CNT = min (s.rd Reg.SYS_REJECT_CNT + 1) 0xFFFFFFFF ∧
        regsBut [Reg.SYS_REJECT_CNT, Reg.HALL_PROTECTED_REJ_CNT] s t ∧ t = { s with regs := t.regs }) ∧
    (inVault a = true → a % 4 = 0 → s.isRoot = true → s.sys.run = .ready → ∃ t, exec (.registerWrite bar a v 15) s = .next t ∧
      t.rd Reg.HALL_PROTECTED_REJ_CNT = min (s.rd Reg.HALL_PROTECTED_REJ_CNT + 1) 0xFFFFFFFF ∧
      t.rd Reg.SYS_REJECT_CNT = min (s.rd Reg.SYS_REJECT_CNT + 1) 0xFFFFFFFF ∧ t.vault = s.vault ∧ t.sys = s.sys)

/-- The function, its features and its rings (R355, R357, R363, R377–R380): COMMIT accepts the set or gives the reason; a ring is enabled empty, and
only once features are accepted; a nudge reads its block once, or once more; a Function Level Reset empties the host port and returns its
registers but for counters; configuration writes set the function's state, and only at a root. Where a command's condition fails it leaves the die
as it is: log 1. Outputs are appended to `out`: log 8. The model's reading or choice here: log 50, 51, 53. -/
def Obligations.HostPortIsSetAndReset : Prop :=
  ∀ (s : State) (a r v n off : Nat) (w : PcieCfg) (b : Bool) (e : Nat × Bool), Awake s → s.bus.held = [] → s.sys.fuseDone = true →
    (s.isRoot = true → s.sys.run = .ready ∨ s.sys.run = .armed →
      s.regs.any (fun e => decide (Reg.RING_CFG 0 ≤ e.1 ∧ e.1 < Reg.RING_CFG 8192 ∧ (e.1 - Reg.RING_CFG 0) % 32 = 0) && decide (bitsOf e.2.toNat 31 1 = 1)) = b →
      v = s.rd (Reg.HIF_FEAT_ACCEPT 0) → n = s.rd (Reg.HIF_FEAT_ACCEPT 1) →
      s.rd (Reg.HIF_FEAT_ACCEPT 2) = 0 → s.rd (Reg.HIF_FEAT_ACCEPT 3) = 0 → ∃ t, exec (.featureCommit false) s = .next t ∧
        t.sys = s.sys ∧ t.time = s.time ∧ t.out = s.out ∧ t.rd (Reg.RING_HEAD r) = s.rd (Reg.RING_HEAD r) ∧
        t.hif = { s.hif with feats := if b = false ∧ v < 512 ∧ n = 0 ∧ v % 2 = 1 then v else 0 } ∧
        t.get F.HIF_FEAT_STATUS_STATE = (if b = false ∧ v < 512 ∧ n = 0 ∧ v % 2 = 1 then 1 else 2) ∧
        t.get F.HIF_FEAT_STATUS_REASON = (if b = true then 3 else if 512 ≤ v ∨ n ≠ 0 then 1 else if v % 2 = 0 then 2 else 0) ∧
        t.get F.HIF_FEAT_STATUS_BIT = (if b = true then 0x7F else if 512 ≤ v ∨ n ≠ 0 then
          ((List.range 128).find? (fun k => decide (9 ≤ k) && decide (bitsOf (v + n * 2 ^ 32) k 1 = 1))).getD 0 else 0)) ∧
    (s.isRoot = true → s.sys.run = .ready ∨ s.sys.run = .armed → r < 8192 → bitsOf v 31 1 = 1 → v < 2 ^ 32 →
      (s.get F.HIF_FEAT_STATUS_STATE = 1 → s.ringOn r = false → ∃ t, exec (.ringCfgWrite false r v) s = .next t ∧ t.ringOn r = true ∧
        t.rd (Reg.RING_HEAD r) = 0 ∧ t.rd (Reg.RING_TAIL_SEEN r) = 0 ∧ t.cmdsOf r = [] ∧ t.bufsOf r = [] ∧
        t.ringLog2 r = max 6 (min 16 (bitsOf v (F.RING_CFG_SIZE_LOG2 r).lo (F.RING_CFG_SIZE_LOG2 r).w)) ∧
        (s.feat 1 = true ∨ bitsOf v 29 2 ≠ 3 → t.ringType r = bitsOf v 29 2) ∧ (s.feat 1 = false → bitsOf v 29 2 = 3 → t.ringType r = 0) ∧
        (s.feat 2 = false → t.on (F.RING_CFG_DECOMP r) = false) ∧
        regsBut [Reg.RING_CFG r, Reg.RING_HEAD r, Reg.RING_TAIL_SEEN r, Reg.HALL_STATUS] s t ∧ t.sys = s.sys ∧ t.time = s.time) ∧
      (s.get F.HIF_FEAT_STATUS_STATE ≠ 1 → ∃ t, exec (.ringCfgWrite false r v) s = .next t ∧ t.rd (Reg.RING_CFG r) = s.rd (Reg.RING_CFG r) ∧
        t.get F.HIF_LAST_REJECT_STATUS = 0x83 ∧ t.rd (Reg.HIF_LAST_REJECT + 4) = Reg.RING_CFG r ∧
        regsBut [Reg.HIF_LAST_REJECT, Reg.HIF_LAST_REJECT + 4] s t ∧ t = { s with regs := t.regs })) ∧
    (s.hostReads = true → s.sys.run.isReady = true → v < 128 →
      (s.feat 4 = true → s.hif.nudges = [] → ∃ t, exec (.hifNudge false v) s = .next t ∧ t.hif.nudges = [(v, false)] ∧
        t.out = s.out ++ [.dmaRead (s.rd64 Reg.HIF_DB_BASE + 256 * v) 256] ∧ t.regs = s.regs ∧ t = { s with hif := t.hif, out := t.out }) ∧
      (s.feat 4 = true → s.hif.nudges = [e] → e.1 = v → ∃ t, exec (.hifNudge false v) s = .next t ∧ t.hif.nudges = [(v, true)] ∧
        t.regs = s.regs ∧ t = { s with hif := t.hif }) ∧
      (s.feat 4 = false → exec (.hifNudge false v) s = .next s)) ∧
    (s.isRoot = true → ∃ t, exec .flr s = .next t ∧ t.hif = {} ∧
      ((findReg a).all (fun h => decide (h.blk ≠ .hif ∧ h.blk ≠ .ring) || h.row.cnt) = true → t.rd a = s.rd a) ∧
      ((findReg a).any (fun h => decide (h.blk = .hif ∨ h.blk = .ring) && !h.row.cnt) = true → a ≠ Reg.HIF_STATUS → t.rd a = (resetWord a).toNat) ∧
      t = { s with regs := t.regs, hif := {} }) ∧
    (s.isRoot = false → exec .flr s = .next s ∧ exec (.pcieConfigWrite w) s = .next s) ∧
    (s.isRoot = true →
      exec (.pcieConfigWrite (.power true)) s = .next { s with hif := { s.hif with d3 := true } } ∧
      exec (.pcieConfigWrite (.word off v)) s = .next { s with hif := { s.hif with cfg := sset 0 s.hif.cfg off v } } ∧
      (∃ t, exec (.pcieConfigWrite (.ptm b)) s = .next t ∧ t.on F.HIF_STATUS_PTM_EN = b ∧ regsBut [Reg.HIF_STATUS] s t ∧ t = { s with regs := t.regs }) ∧
      (v < 16 → n < 8 → ∃ t, exec (.pcieConfigWrite (.link v n)) s = .next t ∧ t.on F.HIF_STATUS_LINK_UP = decide (v ≠ 0) ∧
        t.get F.HIF_STATUS_WIDTH = v ∧ t.get F.HIF_STATUS_RATE = n ∧ regsBut [Reg.HIF_STATUS] s t ∧ t = { s with regs := t.regs }) ∧
      ((List.range 64).all (fun k => decide (s.rd (0x98000 + 4 * k) = 0)) = true →
        exec (.pcieConfigWrite (.msix b true)) s = .next { s with hif := { s.hif with msixOn := b, msixMask := true } } ∧
        (s.hif.cmds = [] → exec (.pcieConfigWrite (.power false)) s = .next { s with hif := { s.hif with d3 := false } })))

/-- Link sessions (R401–R403, R407): a HELLO that passes is answered with PROOF, a PROOF that verifies with the derived keys' FINISH, and a FINISH
that verifies within 50 ms of AUTH takes the port to UP under its keys; the first failing check, a FAIL or 50 ms without a session takes it DOWN,
counted, flagged and with its fail level raised; 100 ms later it enters BASE again. Where a command's condition fails it leaves the die as it is:
log 1. That time moves on to the moment an event carries is log 7. The model's reading or choice here: log 6, 106. -/
def Obligations.LinkSessionsOpenOrFail : Prop :=
  ∀ (s u : State) (p n : Nat) (m : List Byte) (x : Sess) (d : Bool), Awake s → p < 16 → s.driftSide p = d → (s.port p).sess = x →
    n = min 255 (s.get (F.HALL_PORT_LEVEL p) + 1) →
    (s.portState p = 5 → x.mine ≠ [] → ∃ t, exec (.hello p m) s = .next t ∧ t.sys = s.sys ∧ t.time = s.time ∧
      (s.helloFails m = 0 → t.portState p = 5 ∧ t.sessState p = 2 ∧
        (t.port p).sess = { x with peer := m } ∧
        t.ports = ((s.setSess p { x with peer := m }).sendAuth p (s.proofMsg { x with peer := m } d)).ports) ∧
      (s.helloFails m ≠ 0 → t.portState p = 0 ∧ (t.port p).sess = { retry := true, since := s.fNow } ∧ t.get (F.HALL_PORT_LEVEL p) = n ∧
        t.rd Reg.HALL_AUTH_FAIL_CNT = min (s.rd Reg.HALL_AUTH_FAIL_CNT + 1) 0xFFFFFFFF ∧ t.on F.HALL_STATUS_AUTH_FAIL = true)) ∧
    (s.portState p = 5 → x.mine ≠ [] → x.peer ≠ [] → ∃ t, exec (.proof p m) s = .next t ∧ t.sys = s.sys ∧ t.time = s.time ∧
      (x.proofOk d m = true → t.portState p = 5 ∧ t.sessState p = 3 ∧ (t.port p).sess.dTx = some (x.traffic d d) ∧
        (t.port p).sess.dRx = some (x.traffic d (!d)) ∧ (t.port p).sess.eph = none ∧
        t.ports = ((s.setSess p (x.derive d)).sendAuth p (finishMsg (x.derive d).confTx (x.hash d))).ports) ∧
      (x.proofOk d m = false → t.portState p = 0 ∧ (t.port p).sess = { retry := true, since := s.fNow } ∧ t.get (F.HALL_PORT_LEVEL p) = n ∧
        t.rd Reg.HALL_AUTH_FAIL_CNT = min (s.rd Reg.HALL_AUTH_FAIL_CNT + 1) 0xFFFFFFFF)) ∧
    (s.portState p = 5 → x.mine = [] ∨ x.peer = [] → exec (.proof p m) s = .next s) ∧
    (s.portState p = 5 → s.time.fRun = true → s.fNow ≤ x.since + s.usCycles 50000 → x.finishOk d m = true → ∃ t, exec (.finish p m) s = .next t ∧
      t.portUp? p = true ∧ t.sessState p = 4 ∧ (t.port p).sess.keyedAt = s.time.orbit ∧ (t.port p).sess.tx = x.dTx ∧ (t.port p).sess.rx = x.dRx ∧
      (t.port p).sess.dTx = none ∧ (t.port p).sess.dRx = none ∧
      t.rd Reg.HALL_SESSION_CNT = min (s.rd Reg.HALL_SESSION_CNT + 1) 0xFFFFFFFF ∧ t.rd Reg.HALL_AUTH_FAIL_CNT = s.rd Reg.HALL_AUTH_FAIL_CNT ∧
      t.sys = s.sys ∧ t.time = s.time) ∧
    (s.portState p = 5 → (s.time.fRun = true ∧ x.since + s.usCycles 50000 < s.fNow) ∨ x.finishOk d m = false → ∃ t, exec (.finish p m) s = .next t ∧
      t.portState p = 0 ∧ (t.port p).sess = { retry := true, since := s.fNow } ∧
      t.rd Reg.HALL_AUTH_FAIL_CNT = min (s.rd Reg.HALL_AUTH_FAIL_CNT + 1) 0xFFFFFFFF ∧ t.get (F.HALL_PORT_LEVEL p) = n) ∧
    (s.portState p = 5 → ∃ t, exec (.fail p) s = .next t ∧ t.portState p = 0 ∧ (t.port p).sess = { retry := true, since := s.fNow } ∧ t.sessState p = 0 ∧
      t.rd Reg.HALL_AUTH_FAIL_CNT = min (s.rd Reg.HALL_AUTH_FAIL_CNT + 1) 0xFFFFFFFF ∧ t.on F.HALL_STATUS_AUTH_FAIL = true ∧
      t.get (F.HALL_PORT_LEVEL p) = n ∧ (max 1 (s.get F.HALL_POLICY_FAIL_LIMIT) ≤ n → bitsOf (t.rd Reg.HALL_PORT_SAFE) p 1 = 1) ∧
      (n < max 1 (s.get F.HALL_POLICY_FAIL_LIMIT) → t.rd Reg.HALL_PORT_SAFE = s.rd Reg.HALL_PORT_SAFE) ∧ t.sys = s.sys ∧ t.time = s.time) ∧
    (s.portState p < 5 → exec (.fail p) s = .next s ∧ exec (.hello p m) s = .next s ∧ exec (.proof p m) s = .next s ∧
      exec (.finish p m) s = .next s ∧ exec (.authTimeout p) s = .next s) ∧
    (s.portState p = 5 → s.atUs x.since 50000 = some u → ∃ t, exec (.authTimeout p) s = .next t ∧ t.portState p = 0 ∧
      (t.port p).sess = { retry := true, since := u.fNow } ∧ t.rd Reg.HALL_AUTH_FAIL_CNT = min (u.rd Reg.HALL_AUTH_FAIL_CNT + 1) 0xFFFFFFFF ∧
      t.get (F.HALL_PORT_LEVEL p) = n ∧ t.sys = u.sys ∧ t.time = u.time) ∧
    (s.portState p = 5 → s.atUs x.since 50000 = none → exec (.authTimeout p) s = .next s) ∧
    (s.portState p = 0 → x.retry = true → s.atUs x.since 100000 = some u →
      ((u.setSess p { x with retry := false }).mayTrain p = true → ∃ t, exec (.authRetry p) s = .next t ∧ t.portState p = 1 ∧
        (t.port p).sess = { x with retry := false } ∧ t.sys = u.sys ∧ t.time = u.time) ∧
      ((u.setSess p { x with retry := false }).mayTrain p = false → exec (.authRetry p) s = .next (u.setSess p { x with retry := false }))) ∧
    (x.retry = false ∨ s.atUs x.since 100000 = none → exec (.authRetry p) s = .next s)

/-- Rekeys of links (R406): when one is due, or at HALL_CMD.REKEY, the drift side of a keyed port in UP sends HELLO, which its partner answers with
its own HELLO and PROOF; a FINISH that verifies makes the new keys wait for their first frame; a check that fails keeps the old keys; one orbit
after the rekey the receiver's old key goes. Where a command's condition fails it leaves the die as it is: log 1. That time moves on to the moment
an event carries is log 7. Open values: log 3. The model's reading or choice here: log 6, 107. -/
def Obligations.LinksAreRekeyed : Prop :=
  ∀ (s u : State) (p : Nat) (m : List Byte) (x : Sess) (a b k : DirKey) (d : Bool), Awake s → p < 16 → s.driftSide p = d → (s.port p).sess = x →
    s.portUp? p = true →
    (d = true → x.tx = some k → x.ends = none → s.sessState p = 4 → x.redo = true ∨ 2 ^ 32 ≤ k.ctr ∨ x.rx.any (fun y => decide (2 ^ 32 ≤ y.ctr)) = true ∨
        2 ^ s.get F.HALL_POLICY_REKEY_LOG2 ≤ (s.time.orbit + 2 ^ 32 - x.keyedAt % 2 ^ 32) % 2 ^ 32 →
      ∃ t, exec (.rekeyDue false p) s = .next t ∧ t.sessState p = 5 ∧ t.free = s.free + 2 ∧
        t.ports = ((({ s with free := s.free + 2 }).setSess p { x with
          mine := s.helloMsg s.free, eph := some (s.free + 1), since := s.fNow }).sendAuth p (s.helloMsg s.free)).ports ∧
        regsBut [(F.HALL_PORT_SESSION p).reg] s t ∧ t.sys = s.sys ∧ t.time = s.time) ∧
    (d = false ∨ x.tx = none ∨ s.sessState p ≠ 4 ∨ (x.redo = false ∧ x.rx = none ∧ x.tx = some k ∧ k.ctr < 2 ^ 32 ∧
        (s.time.orbit + 2 ^ 32 - x.keyedAt % 2 ^ 32) % 2 ^ 32 < 2 ^ s.get F.HALL_POLICY_REKEY_LOG2) → exec (.rekeyDue false p) s = .next s) ∧
    (d = true → x.tx = some k → x.ends = none → s.sessState p = 4 → s.sys.run.isReady = true → s.bus.held = [] → s.hall.keys = [] →
      (List.range 16).all (fun q => decide (q = p) || !s.driftSide q || !s.portUp? q) = true →
      ∃ t, exec (.hallCmdRekey false) s = .next t ∧ t.sessState p = 5 ∧ t.free = s.free + 2 ∧
        t.ports = ((({ s with free := s.free + 2 }).setSess p { x with
          mine := s.helloMsg s.free, eph := some (s.free + 1), since := s.fNow }).sendAuth p (s.helloMsg s.free)).ports ∧
        t.sys = s.sys ∧ t.time = s.time) ∧
    (x.tx = some k → x.mine = [] → x.ends = none → ∃ t, exec (.hello p m) s = .next t ∧ t.sys = s.sys ∧ t.time = s.time ∧
      (s.helloFails m = 0 → t.sessState p = 5 ∧ t.portUp? p = true ∧ t.free = s.free + 2 ∧
        (t.port p).sess.mine = s.helloMsg s.free ∧ (t.port p).sess.peer = m ∧ (t.port p).sess.eph = some (s.free + 1) ∧ (t.port p).sess.since = s.fNow) ∧
      (s.helloFails m ≠ 0 → t.free = s.free ∧ t.on F.HALL_STATUS_AUTH_FAIL = true ∧
        t.rd Reg.HALL_AUTH_FAIL_CNT = min (s.rd Reg.HALL_AUTH_FAIL_CNT + 1) 0xFFFFFFFF ∧
        (s.get (F.HALL_PORT_LEVEL p) + 1 < max 1 (s.get F.HALL_POLICY_FAIL_LIMIT) → s.get (F.HALL_PORT_LEVEL p) < 255 → t.portUp? p = true ∧
          t.sessState p = 4 ∧ (t.port p).sess.tx = x.tx ∧ (t.port p).sess.rx = x.rx ∧ (t.port p).sess.redo = true))) ∧
    (x.tx = none → exec (.hello p m) s = .next s) ∧
    (s.sessState p = 5 → x.dTx = some a → x.dRx = some b → x.finishOk d m = true → ∃ t, exec (.finish p m) s = .next t ∧ t.sessState p = 4 ∧
      (t.port p).sess = { x.drop with
        keyedAt := s.time.orbit, redo := false, ends := none, txNew := some a, rxNew := some b, oldEnds := s.time.slots + s.time.len } ∧
      t.rd Reg.HALL_REKEY_CNT = min (s.rd Reg.HALL_REKEY_CNT + 1) 0xFFFFFFFF ∧ regsBut [(F.HALL_PORT_SESSION p).reg, Reg.HALL_REKEY_CNT] s t ∧
      t = { s with regs := t.regs, ports := t.ports }) ∧
    (s.sessState p = 5 → x.tx = some a → x.rx = some b → x.ends = none → s.get (F.HALL_PORT_LEVEL p) + 1 < max 1 (s.get F.HALL_POLICY_FAIL_LIMIT) →
      s.get (F.HALL_PORT_LEVEL p) < 255 → ∃ t, exec (.fail p) s = .next t ∧ t.portUp? p = true ∧ t.sessState p = 4 ∧
        (t.port p).sess = { x.drop with redo := true, ends := some (a.ctr + 2 ^ 32, b.ctr + 2 ^ 32) } ∧
        t.get (F.HALL_PORT_LEVEL p) = s.get (F.HALL_PORT_LEVEL p) + 1 ∧ t.on F.HALL_STATUS_AUTH_FAIL = true ∧
        t.rd Reg.HALL_AUTH_FAIL_CNT = min (s.rd Reg.HALL_AUTH_FAIL_CNT + 1) 0xFFFFFFFF ∧ t.sys = s.sys ∧ t.time = s.time) ∧
    (s.sessState p ≠ 5 → exec (.fail p) s = .next s ∧ exec (.finish p m) s = .next s ∧ exec (.proof p m) s = .next s) ∧
    (s.atSlot x.oldEnds = some u → x.rxNew = some b → exec (.oldKeyExpire p) s = .next (u.setSess p { x with
      rx := some b, rxNew := none, rxOld := none, rxPhase := 1 - x.rxPhase, movedVc := [] })) ∧
    (s.atSlot x.oldEnds = some u → x.rxNew = none → exec (.oldKeyExpire p) s = .next (u.setSess p { x with
      rxOld := none, movedVc := [] })) ∧
    (s.atSlot x.oldEnds = none → exec (.oldKeyExpire p) s = .next s)

/-- End-to-end sessions (R401, R402, R406, R408, R410): a claimed die and its root exchange HELLO, PROOF and FINISH over VC0 as a link does, each
failing check answered with FAIL and its reason; a HELLO that finds no HELLO of this side's in progress is answered with one; a FINISH that
verifies opens the session and sets E2E_UP, and at a root stores the origin's key beside the one it renews and passes it to the standby;
E2E_RESTART makes a claimed die open a new session, REKEY_LOG2 orbits after a key the root renews it; a pair whose clasp link runs OFF answers
HELLO with FAIL, reason POLICY, its standby answers none; on the shaft port not in use the messages are discarded and counted. Where a command's
condition fails it leaves the die as it is: log 1. Open values: log 3. The model's reading or choice here: log 6, 36, 57. -/
def Obligations.EndToEndSessionsOpen : Prop :=
  ∀ (s : State) (p o : Nat) (m : List Byte) (x y : Sess) (a b : DirKey) (k : E2eKey), Awake s → s.e2eSess o = x →
    (s.otherShaft = some p →
      (∃ t, exec (.e2eHello p o m) s = .next t ∧ t.rd Reg.TREE_ALT_DISCARD_CNT = min (s.rd Reg.TREE_ALT_DISCARD_CNT + 1) 0xFFFFFFFF ∧
        regsBut [Reg.TREE_ALT_DISCARD_CNT] s t ∧ t = { s with regs := t.regs }) ∧
      (∃ t, exec (.e2eProof p o m) s = .next t ∧ t.rd Reg.TREE_ALT_DISCARD_CNT = min (s.rd Reg.TREE_ALT_DISCARD_CNT + 1) 0xFFFFFFFF ∧
        regsBut [Reg.TREE_ALT_DISCARD_CNT] s t ∧ t = { s with regs := t.regs }) ∧
      (∃ t, exec (.e2eFinish p o m) s = .next t ∧ t.rd Reg.TREE_ALT_DISCARD_CNT = min (s.rd Reg.TREE_ALT_DISCARD_CNT + 1) 0xFFFFFFFF ∧
        regsBut [Reg.TREE_ALT_DISCARD_CNT] s t ∧ t = { s with regs := t.regs }) ∧
      (∃ t, exec (.e2eFail p o) s = .next t ∧ t.rd Reg.TREE_ALT_DISCARD_CNT = min (s.rd Reg.TREE_ALT_DISCARD_CNT + 1) 0xFFFFFFFF ∧
        regsBut [Reg.TREE_ALT_DISCARD_CNT] s t ∧ t = { s with regs := t.regs }) ∧
      (∃ t, exec (.e2eRestart p) s = .next t ∧ t.rd Reg.TREE_ALT_DISCARD_CNT = min (s.rd Reg.TREE_ALT_DISCARD_CNT + 1) 0xFFFFFFFF ∧
        regsBut [Reg.TREE_ALT_DISCARD_CNT] s t ∧ t = { s with regs := t.regs })) ∧
    (s.otherShaft ≠ some p →
      (s.isRoot = false → s.claimed? = false → exec (.e2eHello p o m) s = .next s) ∧
      (s.isRoot = true → s.standsBy = true → exec (.e2eHello p o m) s = .next s) ∧
      (s.isRoot = true → s.standsBy = false → s.clasped = true → s.authWanted 15 = false → ∃ t, exec (.e2eHello p o m) s = .next t ∧
        t.ports = (s.sendTo o (s.e2eMsg o (failMsg 4))).ports ∧ t.hall = s.hall ∧ t.free = s.free ∧ t.sys = s.sys ∧ t.time = s.time) ∧
      ((s.isRoot = false ∧ s.claimed? = true) ∨ (s.isRoot = true ∧ s.standsBy = false ∧ (s.clasped = false ∨ s.authWanted 15 = true)) →
        (x.mine ≠ [] → x.peer = [] → y = { x with peer := m } → ∃ t, exec (.e2eHello p o m) s = .next t ∧
          (s.helloFails m = 0 → t.free = s.free ∧ t.ports = (s.e2eSend o (s.proofMsg y s.isRoot)).ports ∧ t.e2eSess o = y ∧
            (s.isRoot = false → t.hall = { s.hall with e2e := y })) ∧
          (s.helloFails m ≠ 0 → t.free = s.free ∧ t.ports = (s.e2eSend o (failMsg (s.helloFails m))).ports ∧
            (s.isRoot = false → t.hall = { s.hall with e2e := x.drop }) ∧ (s.isRoot = true → t.opening o = none)) ∧
          (∀ j, j ≠ o → t.opening j = s.opening j) ∧ t.hall.keys = s.hall.keys ∧ t.sys = s.sys ∧ t.time = s.time) ∧
        ((x.mine = [] ∨ x.peer ≠ []) → y = { x with mine := s.helloMsg s.free, eph := some (s.free + 1), peer := m } →
          ∃ t, exec (.e2eHello p o m) s = .next t ∧
          (s.helloFails m = 0 → t.free = s.free + 2 ∧
            t.ports = ((s.e2eSend o (s.helloMsg s.free)).e2eSend o (s.proofMsg y s.isRoot)).ports ∧ t.e2eSess o = y ∧
            (s.isRoot = false → t.hall = { s.hall with e2e := y })) ∧
          (s.helloFails m ≠ 0 → t.free = s.free ∧ t.ports = (s.e2eSend o (failMsg (s.helloFails m))).ports ∧
            (s.isRoot = false → t.hall = { s.hall with e2e := x.drop }) ∧ (s.isRoot = true → t.opening o = none)) ∧
          (∀ j, j ≠ o → t.opening j = s.opening j) ∧ t.hall.keys = s.hall.keys ∧ t.sys = s.sys ∧ t.time = s.time)) ∧
      (x.mine = [] ∨ x.peer = [] → exec (.e2eProof p o m) s = .next s) ∧
      (x.mine ≠ [] → x.peer ≠ [] → y = x.derive s.isRoot → ∃ t, exec (.e2eProof p o m) s = .next t ∧
        (x.proofOk s.isRoot m = true → t.e2eSess o = y ∧ t.ports = (s.e2eSend o (finishMsg y.confTx (y.hash s.isRoot))).ports ∧
          (s.isRoot = false → t.hall = { s.hall with e2e := y })) ∧
        (x.proofOk s.isRoot m = false → t.ports = (s.e2eSend o (failMsg 1)).ports ∧
          (s.isRoot = false → t.hall = { s.hall with e2e := x.drop }) ∧ (s.isRoot = true → t.opening o = none)) ∧
        (∀ j, j ≠ o → t.opening j = s.opening j) ∧ t.hall.keys = s.hall.keys ∧ t.sys = s.sys ∧ t.time = s.time) ∧
      (x.mine = [] → exec (.e2eFinish p o m) s = .next s) ∧
      (x.mine ≠ [] → x.finishOk s.isRoot m = false → ∃ t, exec (.e2eFinish p o m) s = .next t ∧ t.ports = (s.e2eSend o (failMsg 5)).ports ∧
        (s.isRoot = false → t.hall = { s.hall with e2e := x.drop }) ∧ (s.isRoot = true → t.opening o = none) ∧
        (∀ j, j ≠ o → t.opening j = s.opening j) ∧ t.hall.keys = s.hall.keys ∧ t.sys = s.sys ∧ t.time = s.time) ∧
      (x.mine ≠ [] → x.finishOk s.isRoot m = true → x.dTx = none → exec (.e2eFinish p o m) s = .next s) ∧
      (x.mine ≠ [] → x.dTx = some a → x.dRx = some b → x.finishOk s.isRoot m = true →
        (s.isRoot = false → ∃ t, exec (.e2eFinish p o m) s = .next t ∧ t.on F.HALL_STATUS_E2E_UP = true ∧
          t.hall = { s.hall with e2e := { x.drop with tx := some a, rx := some b, keyedAt := s.time.orbit } } ∧
          regsBut [Reg.HALL_STATUS] s t ∧ t = { s with regs := t.regs, hall := t.hall }) ∧
        (s.isRoot = true → ∃ t, exec (.e2eFinish p o m) s = .next t ∧ t.on F.HALL_STATUS_E2E_UP = true ∧ t.opening o = none ∧
          (s.e2eKeyOf o = none → t.e2eKeyOf o = some { origin := o, key := b.key, at' := s.time.orbit }) ∧
          (s.e2eKeyOf o = some k → t.e2eKeyOf o = some { origin := o, key := b.key, at' := s.time.orbit, old := k.key, oldEnds := s.time.orbit + 16 }) ∧
          (∀ j, j ≠ o → t.e2eKeyOf j = s.e2eKeyOf j ∧ t.opening j = s.opening j) ∧ t.ports = (s.sendKey o b.key).ports ∧ t.sys = s.sys ∧ t.time = s.time ∧
          (s.clasped = false → regsBut [Reg.HALL_STATUS] s t ∧ t = { s with regs := t.regs, hall := t.hall }))) ∧
      (s.isRoot = false → exec (.e2eFail p o) s = .next { s with hall := { s.hall with e2e := x.drop } }) ∧
      (s.isRoot = true → ∃ t, exec (.e2eFail p o) s = .next t ∧ t.opening o = none ∧ (∀ j, j ≠ o → t.opening j = s.opening j) ∧
        t.hall.keys = s.hall.keys ∧ t = { s with hall := t.hall }) ∧
      (s.isRoot = true ∨ s.claimed? = false → exec (.e2eRestart p) s = .next s) ∧
      (s.isRoot = false → s.claimed? = true → ∃ t, exec (.e2eRestart p) s = .next t ∧ t.free = s.free + 2 ∧
        t.hall = { s.hall with e2e := { x with mine := s.helloMsg s.free, eph := some (s.free + 1) } } ∧ t.sys = s.sys ∧ t.time = s.time ∧
        t.ports = (s.sendUp0 (s.e2eMsg dstRoot (s.helloMsg s.free))).ports)) ∧
    (s.isRoot = true → s.standsBy = false → s.e2eKeyOf o = some k → s.opening o = none →
      2 ^ s.get F.HALL_POLICY_REKEY_LOG2 ≤ (s.time.orbit + 2 ^ 32 - k.at' % 2 ^ 32) % 2 ^ 32 → ∃ t, exec (.rekeyDue true o) s = .next t ∧
      t.free = s.free + 2 ∧ t.opening o = some { mine := s.helloMsg s.free, eph := some (s.free + 1) } ∧ (∀ j, j ≠ o → t.opening j = s.opening j) ∧
      t.ports = (s.sendTo o (s.e2eMsg o (s.helloMsg s.free))).ports ∧ t.hall.keys = s.hall.keys ∧ t.sys = s.sys ∧ t.time = s.time) ∧
    (s.e2eKeyOf o = some k → (s.time.orbit + 2 ^ 32 - k.at' % 2 ^ 32) % 2 ^ 32 < 2 ^ s.get F.HALL_POLICY_REKEY_LOG2 →
      exec (.rekeyDue true o) s = .next s) ∧
    (s.isRoot = false ∨ s.standsBy = true ∨ s.e2eKeyOf o = none ∨ s.opening o ≠ none → exec (.rekeyDue true o) s = .next s)

/-- Conversions of the sequencer (R416–R418, R420–R426, R434, R439): a conversion ends its output periods after it began; its result corrected by R422
goes to the input's result words and the pass; an OVR owes a guard, which is counted and appears in the pass alone; the next enabled entry
follows, or an injected request that waits, or the pass ends, counted; PACE starts a pass or counts it as skipped; START begins at entry 0 and
STOP ends the pass. That MON_PASS counts a pass ended by STOP too is the model's choice (log 108). Where a command's condition fails it leaves the
die as it is: log 1. That time moves on to the moment an event carries is log 7. The model's reading or choice here: log 20, 108. -/
def Obligations.SequencerConvertsItsEntries : Prop :=
  ∀ (s u : State) (j k p : Nat) (v : MonConv) (bs : List Byte) (bar : Bool), Awake s → s.monRuns = true → k = s.mon.k → k < 32 →
    bs = (u.monResult k u.mon.coef v 0).bytes →
    (v.ovl = false → byteField bs 0 2 = ofSigned 16 (max (-32768) (min 32767 (roundDiv
      (((if excChop u.mon.coef.exc = true then v.x - v.swapped else 2 * (v.x - (u.getS (F.MON_FACT_OFS_OFS u.mon.coef.g) + u.mon.coef.drift))) *
        u.get (F.MON_FACT_GAIN_GAIN u.mon.coef.g) - u.mon.coef.ofs * 2 ^ 23) * u.mon.coef.gain) (2 ^ 53))))) ∧
    (s.mon.work = .entry j → s.mon.guard = false → s.atUs s.mon.since (s.mon.outs * monPeriod s.mon.odr) = some u →
      (∃ t, exec (.monConversionDone v) s = .next t ∧ t.rd (Reg.MON_RESULT k) = byteField bs 0 4 ∧ t.rd (Reg.MON_RESULT k + 4) = byteField bs 4 4 ∧
        t.rd Reg.MON_OVR_CNT = min (u.rd Reg.MON_OVR_CNT + b2n (u.monResult k u.mon.coef v 0).ovr) 0xFFFFFFFF ∧
        t.rd Reg.MON_OPEN_CNT = min (u.rd Reg.MON_OPEN_CNT + b2n (u.monResult k u.mon.coef v 0).opn) 0xFFFFFFFF ∧ t.sys = u.sys ∧ t.time = u.time) ∧
      (u.mon.injWait = true → ∃ t, exec (.monConversionDone v) s = .next t ∧ t.mon.work = .inj ∧ t.mon.injWait = false ∧ t.mon.resume = some (j + 1) ∧
        t.mon.k = u.mon.injK ∧ t.mon.items = u.mon.items ++ [bs] ∧ t.on F.MON_STATUS_INJ_PENDING = false) ∧
      (u.mon.injWait = false → u.get F.MON_CAL_STATUS_STATE = 1 → ∃ t, exec (.monConversionDone v) s = .next t ∧ t.mon.work = .idle ∧
        t.mon.resume = some (j + 1) ∧ t.mon.items = u.mon.items ++ [bs] ∧ t.mon.inPass = u.mon.inPass) ∧
      (u.mon.injWait = false → u.mon.scope.on = false → u.get F.MON_CAL_STATUS_STATE ≠ 1 → u.on F.MON_SEQ_STATUS_RUNNING = true → u.mon.inPass = true →
        (u.monResult k u.mon.coef v 0).opn = false → (u.monResult k u.mon.coef v 0).bad = false →
        (j < 31 → j + 1 < u.monLen → u.on (F.MON_SEQ_EN (j + 1)) = true → u.rd Reg.MON_PASS % 2 ^ u.get (F.MON_SEQ_EVERY (j + 1)) = 0 →
          u.monRetired (u.get (F.MON_SEQ_INPUT (j + 1))) = false →
          ((u.monResult k u.mon.coef v 0).ovr = false → ∃ t, exec (.monConversionDone v) s = .next t ∧ t.mon = { u.mon with
              items := u.mon.items ++ [bs], work := .entry (j + 1), guard := u.mon.owed, owed := false, resume := some (j + 1)
              k := u.get (F.MON_SEQ_INPUT (j + 1)), coef := u.monCoef (u.get (F.MON_SEQ_INPUT (j + 1))), since := u.fNow, outs := t.mon.outs
              odr := if u.get F.MON_CTRL_MODE = 1 ∧ u.get (F.MON_SEQ_ODR (j + 1)) < 3 then 3 else u.get (F.MON_SEQ_ODR (j + 1)) } ∧
            t.mon.outs = (if t.mon.coef.exc % 4 = 0 then 3 else 4) * (if excChop t.mon.coef.exc = true then 2 else 1) ∧
            t.get F.MON_SEQ_STATUS_ENTRY = (j + 1) % 32 ∧ regsBut [Reg.MON_RESULT k, Reg.MON_RESULT k + 4, Reg.MON_STATUS, Reg.MON_SEQ_STATUS] u t ∧
            t = { u with regs := t.regs, mon := t.mon }) ∧
          ((u.monResult k u.mon.coef v 0).ovr = true → ∃ t, exec (.monConversionDone v) s = .next t ∧ t.on F.MON_STATUS_OVR = true ∧ t.mon.guard = true ∧
            t.mon.work = .entry (j + 1) ∧ t.mon.items = u.mon.items ++ [bs] ∧ t.sys = u.sys ∧ t.time = u.time)) ∧
        ((u.monResult k u.mon.coef v 0).ovr = false → u.monLen ≤ j + 1 → u.get F.MON_SEQ_CTRL_PACE ≠ 0 → u.on F.MON_STREAM_PASS_EN = false →
          ∃ t, exec (.monConversionDone v) s = .next t ∧ t.rd Reg.MON_PASS = (u.rd Reg.MON_PASS + 1) % 2 ^ 32 ∧ t.mon.work = .idle ∧
            t.mon.inPass = false ∧ t.mon.items = [] ∧ t.mon.owed = u.mon.owed ∧
            regsBut [Reg.MON_RESULT k, Reg.MON_RESULT k + 4, Reg.MON_STATUS, Reg.MON_SEQ_STATUS, Reg.MON_PASS] u t ∧
            t = { u with regs := t.regs, mon := t.mon }))) ∧
    (s.mon.work = .entry j → s.atUs s.mon.since (s.mon.outs * monPeriod s.mon.odr) = none →
      exec (.monConversionDone v) s = .next s ∧ exec (.monGuardDone v) s = .next s) ∧
    (s.mon.work = .idle → s.mon.inPass = false → exec (.monConversionDone v) s = .next s) ∧
    (s.mon.guard = true → s.atUs s.mon.since (s.mon.outs * monPeriod s.mon.odr) = some u → ∃ t, exec (.monGuardDone v) s = .next t ∧
      t.rd Reg.MON_GUARD_CNT = min (u.rd Reg.MON_GUARD_CNT + 1) 0xFFFFFFFF ∧ t.mon = { u.mon with
        guard := false, coef := u.monCoef k, since := u.fNow, outs := t.mon.outs
        items := if u.mon.inPass = true then u.mon.items ++ [(u.monResult k u.mon.coef v 8).bytes] else u.mon.items } ∧
      (s.mon.work ≠ .cal → regsBut [Reg.MON_GUARD_CNT] u t) ∧ (s.mon.work = .cal → t.get F.MON_CAL_STATUS_STATE = 2) ∧
      t = { u with regs := t.regs, mon := t.mon }) ∧
    (s.mon.guard = false → exec (.monGuardDone v) s = .next s) ∧
    (s.mon.guard = true → exec (.monConversionDone v) s = .next s) ∧
    (s.on F.MON_SEQ_STATUS_RUNNING = true → p = s.get F.MON_SEQ_CTRL_PACE → p ≠ 0 → s.time.slot = 0 → s.orbitNow % 2 ^ (p - 1) = 0 →
      (s.mon.inPass = true → exec .monPassStart s = .next (s.incBy Reg.MON_PASS_SKIP_CNT 1)) ∧
      (s.mon.inPass = false → s.mon.work = .idle → s.mon.injWait = false → s.mon.scope.on = false → s.get F.MON_CAL_STATUS_STATE ≠ 1 →
        s.on (F.MON_SEQ_EN 0) = true → s.rd Reg.MON_PASS % 2 ^ s.get (F.MON_SEQ_EVERY 0) = 0 →
        s.monRetired (s.get (F.MON_SEQ_INPUT 0)) = false → ∃ t, exec .monPassStart s = .next t ∧ t.mon.inPass = true ∧ t.mon.items = [] ∧
          t.mon.orbit = s.orbitNow ∧ t.mon.slot = 0 ∧ t.mon.work = .entry 0 ∧ t.mon.since = s.fNow ∧ t.get F.MON_SEQ_STATUS_ENTRY = 0 ∧
          regsBut [Reg.MON_STATUS, Reg.MON_SEQ_STATUS] s t ∧ t = { s with regs := t.regs, mon := t.mon }) ∧
      (s.mon.inPass = false → s.mon.work ≠ .idle → ∃ t, exec .monPassStart s = .next t ∧ t.mon.inPass = true ∧ t.mon.items = [] ∧
        t.mon.work = s.mon.work ∧ t = { s with mon := t.mon })) ∧
    (s.on F.MON_SEQ_STATUS_RUNNING = false ∨ s.get F.MON_SEQ_CTRL_PACE = 0 ∨ s.time.slot ≠ 0 ∨ s.orbitNow % 2 ^ (s.get F.MON_SEQ_CTRL_PACE - 1) ≠ 0 →
      exec .monPassStart s = .next s) ∧
    (s.bus.held = [] → s.sys.fuseDone = true →
      (s.get F.MON_SEQ_CTRL_PACE ≠ 0 → s.mon.work = .idle → ∃ t, exec (.monSeqStart bar) s = .next t ∧ t.on F.MON_SEQ_STATUS_RUNNING = true ∧
        t.get F.MON_SEQ_STATUS_ENTRY = 0 ∧ t.mon = { s.mon with inPass := false, items := [] } ∧ regsBut [Reg.MON_SEQ_STATUS] s t ∧
        t = { s with regs := t.regs, mon := t.mon }) ∧
      (s.mon.work = .entry j → s.get F.MON_SEQ_CTRL_PACE ≠ 0 → ∃ t, exec (.monSeqStart bar) s = .next t ∧ t.on F.MON_SEQ_STATUS_RUNNING = true ∧
        t.mon.work = .idle ∧ t.mon.inPass = false ∧ t.mon.owed = (s.mon.owed || s.mon.guard) ∧ t = { s with regs := t.regs, mon := t.mon }) ∧
      (s.get F.MON_SEQ_CTRL_PACE = 0 → s.mon.work = .idle → s.mon.injWait = false → s.mon.scope.on = false → s.get F.MON_CAL_STATUS_STATE ≠ 1 →
        s.on (F.MON_SEQ_EN 0) = true → s.rd Reg.MON_PASS % 2 ^ s.get (F.MON_SEQ_EVERY 0) = 0 →
        s.monRetired (s.get (F.MON_SEQ_INPUT 0)) = false → ∃ t, exec (.monSeqStart bar) s = .next t ∧ t.on F.MON_SEQ_STATUS_RUNNING = true ∧
          t.mon.inPass = true ∧ t.mon.work = .entry 0 ∧ t.mon.since = s.fNow ∧ regsBut [Reg.MON_STATUS, Reg.MON_SEQ_STATUS] s t ∧
          t = { s with regs := t.regs, mon := t.mon }) ∧
      (s.on F.MON_SEQ_STATUS_RUNNING = true → s.mon.inPass = true → s.mon.work = .entry j → s.mon.injWait = false → s.mon.scope.on = false →
        s.on F.MON_STREAM_PASS_EN = false → ∃ t,
        exec (.monSeqStop bar) s = .next t ∧ t.on F.MON_SEQ_STATUS_RUNNING = false ∧ t.on F.MON_SEQ_STATUS_PAUSED = false ∧ t.mon.work = .idle ∧
          t.mon.inPass = false ∧ t.mon.items = [] ∧ t.rd Reg.MON_PASS = (s.rd Reg.MON_PASS + 1) % 2 ^ 32 ∧
          regsBut [Reg.MON_SEQ_STATUS, Reg.MON_PASS] s t ∧ t = { s with regs := t.regs, mon := t.mon }) ∧
      (s.on F.MON_SEQ_STATUS_RUNNING = true → s.mon.inPass = true → s.on F.MON_STREAM_PASS_EN = true → s.mon.work = .idle →
        16 + 8 * s.mon.items.length + 32 ≤ s.partFree .mon → s.uplinks = s → s.isRoot = true → s.mon.items.all (fun x => decide (x.length = 8)) = true →
        ∃ t, exec (.monSeqStop bar) s = .next t ∧ t.buf = (s.pushUnit 3 .mon false (leBytes 1 1 ++ leBytes 1 1 ++ leBytes 2 s.dieNo ++ leBytes 4 s.mon.orbit ++
          leBytes 4 (s.rd Reg.MON_PASS) ++ leBytes 2 s.mon.items.length ++ leBytes 2 s.mon.slot ++ s.mon.items.flatten)).buf ∧ t.mon.items = []) ∧
      (s.on F.MON_SEQ_STATUS_RUNNING = false → exec (.monSeqStop bar) s = .next s))

/-- Injected conversions, excitation and mode (R416, R418, R421, R423, R427, R428, R431, R439, R440): MON_INJ.GO converts its input at once, or after
the scope or a calibration, or is counted as busy, the entry it displaces starts again, and a retired input's result comes at once; its result has
INJ set; EXC_NOW voids the conversion in progress on its input; a write of MODE ends a calibration and, away from SCOPE, a capture. That time
moves on to the moment an event carries is log 7. The model's reading or choice here: log 106, 108. -/
def Obligations.InjectionExcitationAndModeTakeEffect : Prop :=
  ∀ (s u : State) (j k v : Nat) (c : MonConv) (bs : List Byte) (bar : Bool), Awake s → s.monRuns = true → s.bus.held = [] → s.sys.fuseDone = true → v < 2 ^ 31 →
    (s.mon.injWait = false → k = v % 32 → s.monRetired k = false → bitsOf v 8 4 ≠ 15 →
      (s.mon.work = .idle ∨ s.mon.work = .cal ∧ s.get F.MON_CAL_STATUS_STATE = 1 → ∃ t, exec (.monInjGo bar v) s = .next t ∧ t.mon.work = .inj ∧
        t.get F.MON_INJ_INPUT = k ∧ t.get F.MON_INJ_ODR = bitsOf v 8 4 ∧ t.mon.k = k ∧ t.mon.coef = s.monCoef k ∧ t.mon.since = s.fNow ∧
        t.mon.guard = (s.mon.owed || s.mon.guard) ∧ regsBut [Reg.MON_INJ, Reg.MON_STATUS] s t ∧ t = { s with regs := t.regs, mon := t.mon }) ∧
      (s.mon.work = .entry j → ∃ t, exec (.monInjGo bar v) s = .next t ∧ t.mon.work = .inj ∧ t.mon.resume = some j ∧ t.mon.k = k ∧
        t.mon.guard = (s.mon.owed || s.mon.guard) ∧
        t.rd Reg.MON_SEQ_RESTART_CNT = min (s.rd Reg.MON_SEQ_RESTART_CNT + 1) 0xFFFFFFFF ∧
        regsBut [Reg.MON_INJ, Reg.MON_STATUS, Reg.MON_SEQ_RESTART_CNT] s t ∧ t = { s with regs := t.regs, mon := t.mon }) ∧
      (s.mon.work = .scope → ∃ t, exec (.monInjGo bar v) s = .next t ∧ t.on F.MON_STATUS_INJ_PENDING = true ∧ t.mon = { s.mon with
          injWait := true, injK := k, injOdr := bitsOf v 8 4 } ∧
        regsBut [Reg.MON_INJ, Reg.MON_STATUS] s t ∧ t = { s with regs := t.regs, mon := t.mon }) ∧
      (s.mon.work = .cal → s.get F.MON_CAL_STATUS_STATE ≠ 1 → ∃ t, exec (.monInjGo bar v) s = .next t ∧ t.mon = { s.mon with
          injWait := true, injK := k, injOdr := bitsOf v 8 4 } ∧ regsBut [Reg.MON_INJ] s t ∧ t = { s with regs := t.regs, mon := t.mon })) ∧
    (s.mon.injWait = false → s.mon.work ≠ .inj → k = v % 32 → k < 16 → s.monRetired k = true → bitsOf v 8 4 ≠ 15 → s.on F.MON_STREAM_INJ_EN = false →
      ∃ t, exec (.monInjGo bar v) s = .next t ∧ t.on F.MON_STATUS_INJ_DONE = true ∧ bitsOf (t.rd (Reg.MON_INJ_RESULT + 4)) 8 8 = 0x90 ∧
        t.rd Reg.MON_INJ_RESULT = 0 ∧ t.rd (Reg.MON_RESULT k) = 0 ∧ t.mon = { s.mon with injNo := s.mon.injNo + 1 } ∧
        regsBut [Reg.MON_INJ, Reg.MON_INJ_RESULT, Reg.MON_INJ_RESULT + 4, Reg.MON_RESULT k, Reg.MON_RESULT k + 4, Reg.MON_STATUS] s t ∧
        t = { s with regs := t.regs, mon := t.mon }) ∧
    (s.mon.injWait = true ∨ s.mon.work = .inj → ∃ t, exec (.monInjGo bar v) s = .next t ∧
      t.rd Reg.MON_INJ_BUSY_CNT = min (s.rd Reg.MON_INJ_BUSY_CNT + 1) 0xFFFFFFFF ∧ regsBut [Reg.MON_INJ, Reg.MON_INJ_BUSY_CNT] s t ∧ t = { s with regs := t.regs }) ∧
    (s.mon.work = .inj → s.mon.guard = false → k = s.mon.k → k < 32 → s.atUs s.mon.since (s.mon.outs * monPeriod s.mon.odr) = some u →
      bs = (u.monResult k u.mon.coef c 16).bytes →
      (∃ t, exec (.monConversionDone c) s = .next t ∧ t.rd Reg.MON_INJ_RESULT = byteField bs 0 4 ∧ t.rd (Reg.MON_INJ_RESULT + 4) = byteField bs 4 4 ∧
        t.rd (Reg.MON_RESULT k) = byteField bs 0 4 ∧ t.rd (Reg.MON_RESULT k + 4) = byteField bs 4 4 ∧ t.on F.MON_STATUS_INJ_DONE = true ∧
        t.mon.injNo = u.mon.injNo + 1 ∧ t.sys = u.sys ∧ t.time = u.time) ∧
      ((u.monResult k u.mon.coef c 16).ovr = false → (u.monResult k u.mon.coef c 16).opn = false → (u.monResult k u.mon.coef c 16).bad = false →
        u.mon.injWait = false → u.mon.scope.on = false → u.get F.MON_CAL_STATUS_STATE ≠ 1 →
        u.on F.MON_STREAM_INJ_EN = false → u.on F.MON_SEQ_STATUS_RUNNING = false → ∃ t, exec (.monConversionDone c) s = .next t ∧ t.mon.work = .idle ∧
        t.mon.items = u.mon.items ∧
        regsBut [Reg.MON_INJ_RESULT, Reg.MON_INJ_RESULT + 4, Reg.MON_RESULT k, Reg.MON_RESULT k + 4, Reg.MON_STATUS, Reg.MON_SEQ_STATUS] u t ∧
        t = { u with regs := t.regs, mon := t.mon })) ∧
    (k < 32 → s.mon.work ≠ .scope → ∃ t, exec (.monExcWrite bar false k v) s = .next t ∧ t.rd (Reg.MON_EXC k) &&& 0x317 = v &&& 0x317 ∧
      t.mon = s.mon ∧ regsBut [Reg.MON_EXC k] s t ∧ t = { s with regs := t.regs }) ∧
    (s.mon.work ≠ .scope → ∃ t, exec (.monExcWrite bar true k v) s = .next t ∧ t.rd Reg.MON_ISRC &&& 0x707 = v &&& 0x707 ∧
      t.mon = s.mon ∧ regsBut [Reg.MON_ISRC] s t ∧ t = { s with regs := t.regs }) ∧
    (k < 16 → s.mon.work = .scope → s.mon.scope.on = true → s.mon.scope.input = k → ∃ t, exec (.monExcWrite bar false k v) s = .next t ∧
      t.on F.MON_SCOPE_STATUS_RESTARTED = true ∧ t.mon.scope.buf = [] ∧ t.mon.scope.skip = 3 ∧ t.mon.scope.trig = none ∧ t.mon.scope.on = true ∧
      t.mon.since = s.fNow ∧ regsBut [Reg.MON_EXC k, Reg.MON_SCOPE_STATUS] s t ∧ t = { s with regs := t.regs, mon := t.mon }) ∧
    (k < 16 → s.mon.work = .entry j ∨ s.mon.work = .inj → s.mon.k = k → s.isRetired 8 k = false → ∃ t, exec (.monExcWrite bar false k (v + 2 ^ 31)) s = .next t ∧
      t.rd Reg.MON_VOID_CNT = min (s.rd Reg.MON_VOID_CNT + 1) 0xFFFFFFFF ∧ bitsOf (t.rd (Reg.MON_RESULT k + 4)) 10 1 = 1 ∧
      t.mon = { s.mon with coef := { s.mon.coef with exc := t.rd (Reg.MON_EXC k) }, since := s.fNow, outs := t.mon.outs } ∧
      t.mon.outs = (if excChop (t.rd (Reg.MON_EXC k)) = true then 8 else 4) ∧
      regsBut [Reg.MON_EXC k, Reg.MON_VOID_CNT, Reg.MON_RESULT k + 4] s t ∧ t = { s with regs := t.regs, mon := t.mon }) ∧
    (v % 4 ≠ 3 → s.get F.MON_CAL_STATUS_STATE ≠ 1 → s.get F.MON_CAL_STATUS_STATE ≠ 2 → v % 4 = 2 ∨ s.mon.scope.on = false → ∃ t,
      exec (.monModeWrite bar v) s = .next t ∧ t.get F.MON_CTRL_MODE = v % 4 ∧ regsBut [Reg.MON_CTRL] s t ∧ t = { s with regs := t.regs }) ∧
    (v % 4 ≠ 3 → s.get F.MON_CAL_STATUS_STATE ≠ 1 → s.get F.MON_CAL_STATUS_STATE ≠ 2 → v % 4 ≠ 2 → s.mon.scope.on = true → ∃ t,
      exec (.monModeWrite bar v) s = .next t ∧ t.get F.MON_CTRL_MODE = v % 4 ∧ t.on F.MON_SCOPE_STATUS_ABORTED = true ∧
      t.on F.MON_SCOPE_STATUS_ARMED = false ∧ t.mon.scope.on = false ∧ t.mon.scope.parts = [] ∧ t.mon.scope.shown = false) ∧
    (v % 4 = 3 → s.get F.MON_CAL_STATUS_STATE ≠ 1 → s.get F.MON_CAL_STATUS_STATE ≠ 2 → s.mon.scope.on = false → ∃ t, exec (.monModeWrite bar v) s = .next t ∧
      t.get F.MON_CTRL_MODE = s.get F.MON_CTRL_MODE ∧ t.mon = s.mon) ∧
    (s.get F.MON_CAL_STATUS_STATE = 1 ∨ s.get F.MON_CAL_STATUS_STATE = 2 → v % 4 ≠ 3 → ∃ t,
      exec (.monModeWrite bar v) s = .next t ∧ t.get F.MON_CAL_STATUS_STATE = 4 ∧ t.get F.MON_CAL_STATUS_REASON = 4 ∧ t.mon.calQ = [] ∧
        (s.mon.work = .cal → s.mon.injWait = false → s.mon.scope.on = false → s.on F.MON_SEQ_STATUS_RUNNING = false → t.mon.work = .idle) ∧
        t.sys = s.sys ∧ t.time = s.time)

/-- Calibration (R418, R422, R423, R430–R432, R439): a GO pends its operation, or is skipped and counted while one is pended or running, and NONE
starts nothing; the pended operation takes the free converter, after a guard that is owed, or fails for its input; its end, when the output
periods of its conversions are over, stores the coefficient it measured and stamps CAL_CNT and CAL_WALL, or fails with its reason and leaves every
coefficient as it is; the next queued operation is then pended. How its bad conversions count is the model's reading (log 108). Where a command's
condition fails it leaves the die as it is: log 1. That time moves on to the moment an event carries is log 7. Open values: log 3. The model's
reading or choice here: log 106, 108. -/
def Obligations.CalibrationsArePendedRunAndStored : Prop :=
  ∀ (s u : State) (op k i v : Nat) (vs cs ws : List MonConv) (css : List (List MonConv)) (w : MonConv) (m z : Int) (rest : List (Nat × Nat)) (bar : Bool),
    Awake s → s.monRuns = true → s.bus.held = [] → s.sys.fuseDone = true → v < 2 ^ 31 →
    (∃ t, exec (.monCalNone bar v) s = .next t ∧ t.mon = s.mon ∧ t.rd Reg.MON_CAL_STATUS = s.rd Reg.MON_CAL_STATUS ∧
      t.get F.MON_CAL_CMD_OP = 0 ∧ regsBut [Reg.MON_CAL_CMD] s t ∧ t = { s with regs := t.regs }) ∧
    (s.get F.MON_CAL_STATUS_STATE = 1 ∨ s.get F.MON_CAL_STATUS_STATE = 2 →
      (∃ t, exec (.intZero bar v) s = .next t ∧ t.mon = s.mon ∧ t.rd Reg.MON_CAL_SKIP_CNT = min (s.rd Reg.MON_CAL_SKIP_CNT + 1) 0xFFFFFFFF ∧
        regsBut [Reg.MON_CAL_CMD, Reg.MON_CAL_SKIP_CNT] s t ∧ t = { s with regs := t.regs }) ∧
      (∃ t, exec (.sysZero bar v) s = .next t ∧ t.mon = s.mon ∧ t.rd Reg.MON_CAL_SKIP_CNT = min (s.rd Reg.MON_CAL_SKIP_CNT + 1) 0xFFFFFFFF ∧
        regsBut [Reg.MON_CAL_CMD, Reg.MON_CAL_SKIP_CNT] s t ∧ t = { s with regs := t.regs }) ∧
      (∃ t, exec (.sysFull bar v) s = .next t ∧ t.mon = s.mon ∧ t.rd Reg.MON_CAL_SKIP_CNT = min (s.rd Reg.MON_CAL_SKIP_CNT + 1) 0xFFFFFFFF ∧
        regsBut [Reg.MON_CAL_CMD, Reg.MON_CAL_SKIP_CNT] s t ∧ t = { s with regs := t.regs }) ∧
      (∃ t, exec (.refCheck bar v) s = .next t ∧ t.mon = s.mon ∧ t.rd Reg.MON_CAL_SKIP_CNT = min (s.rd Reg.MON_CAL_SKIP_CNT + 1) 0xFFFFFFFF ∧
        regsBut [Reg.MON_CAL_CMD, Reg.MON_CAL_SKIP_CNT] s t ∧ t = { s with regs := t.regs })) ∧
    (s.get F.MON_CAL_STATUS_STATE ≠ 1 → s.get F.MON_CAL_STATUS_STATE ≠ 2 →
      (∃ t, exec (.intZero bar v) s = .next t ∧ t.get F.MON_CAL_STATUS_STATE = 1 ∧ t.get F.MON_CAL_STATUS_REASON = 0 ∧ t.get F.MON_CAL_CMD_OP = 1 ∧
        t.mon = { s.mon with calQ := [(1, v % 32)], calOdr := t.get F.MON_CAL_CMD_ODR } ∧
        regsBut [Reg.MON_CAL_CMD, Reg.MON_CAL_STATUS] s t ∧ t = { s with regs := t.regs, mon := t.mon }) ∧
      (∃ t, exec (.sysZero bar v) s = .next t ∧ t.get F.MON_CAL_STATUS_STATE = 1 ∧ t.get F.MON_CAL_STATUS_REASON = 0 ∧ t.get F.MON_CAL_CMD_OP = 2 ∧
        t.mon = { s.mon with calQ := [(2, v % 32)], calOdr := t.get F.MON_CAL_CMD_ODR } ∧
        regsBut [Reg.MON_CAL_CMD, Reg.MON_CAL_STATUS] s t ∧ t = { s with regs := t.regs, mon := t.mon }) ∧
      (∃ t, exec (.sysFull bar v) s = .next t ∧ t.get F.MON_CAL_STATUS_STATE = 1 ∧ t.get F.MON_CAL_STATUS_REASON = 0 ∧ t.get F.MON_CAL_CMD_OP = 3 ∧
        t.mon = { s.mon with calQ := [(3, v % 32)], calOdr := t.get F.MON_CAL_CMD_ODR } ∧
        regsBut [Reg.MON_CAL_CMD, Reg.MON_CAL_STATUS] s t ∧ t = { s with regs := t.regs, mon := t.mon }) ∧
      (∃ t, exec (.refCheck bar v) s = .next t ∧ t.get F.MON_CAL_STATUS_STATE = 1 ∧ t.get F.MON_CAL_STATUS_REASON = 0 ∧ t.get F.MON_CAL_CMD_OP = 4 ∧
        t.mon = { s.mon with calQ := [(4, v % 32)], calOdr := t.get F.MON_CAL_CMD_ODR } ∧
        regsBut [Reg.MON_CAL_CMD, Reg.MON_CAL_STATUS] s t ∧ t = { s with regs := t.regs, mon := t.mon })) ∧
    (s.get F.MON_CAL_STATUS_STATE = 1 → s.mon.work = .idle → s.mon.injWait = false → s.mon.calQ = (op, k) :: rest →
      i = (if op = 1 then 30 else if op = 4 then 16 else k) →
      ((op = 2 ∨ op = 3) → (16 ≤ k ∨ s.isRetired 8 k = true) → s.mon.scope.on = false → s.on F.MON_SEQ_STATUS_RUNNING = false → ∃ t,
        exec .monCalRun s = .next t ∧ (rest = [] → t.get F.MON_CAL_STATUS_STATE = 4 ∧ t.get F.MON_CAL_STATUS_REASON = 2 ∧ t.mon.calQ = []) ∧
        (rest ≠ [] → t.get F.MON_CAL_STATUS_STATE = 1 ∧ t.get F.MON_CAL_STATUS_REASON = 0 ∧ t.mon.calQ = rest) ∧ t.mon.work = .idle ∧
        regsBut [Reg.MON_CAL_STATUS, Reg.MON_SEQ_STATUS] s t ∧ t = { s with regs := t.regs, mon := t.mon }) ∧
      ((op ≠ 2 ∧ op ≠ 3) ∨ (k < 16 ∧ s.isRetired 8 k = false) → ∃ t, exec .monCalRun s = .next t ∧
        t.get F.MON_CAL_STATUS_STATE = (if s.mon.owed = true then 1 else 2) ∧ t.mon = { s.mon with
          work := .cal, guard := s.mon.owed || s.mon.guard, owed := false, k := i, coef := s.monCoef i, outs := t.mon.outs, since := s.fNow
          odr := if s.get F.MON_CTRL_MODE = 1 ∧ s.mon.calOdr < 3 then 3 else s.mon.calOdr } ∧
        t.mon.outs = (if t.mon.coef.exc % 4 = 0 then 3 else 4) * (if excChop t.mon.coef.exc = true then 2 else 1) ∧
        regsBut [Reg.MON_CAL_STATUS, Reg.MON_STATUS] s t ∧ t = { s with regs := t.regs, mon := t.mon })) ∧
    (s.get F.MON_CAL_STATUS_STATE ≠ 1 ∨ s.mon.work ≠ .idle ∨ s.mon.injWait = true → exec .monCalRun s = .next s) ∧
    (s.get F.MON_CAL_STATUS_STATE = 2 → s.mon.work = .cal → s.mon.calQ = (op, k) :: rest → op ≠ 1 → vs.length = 16 →
      (s.atUs s.mon.since (16 * s.mon.outs * monPeriod s.mon.odr) = none → exec (.monCalDone [vs] []) s = .next s) ∧
      (s.atUs s.mon.since (16 * s.mon.outs * monPeriod s.mon.odr) = some u → u.mon.injWait = false → u.mon.scope.on = false →
        u.on F.MON_SEQ_STATUS_RUNNING = false →
        (rest = [] → (op = 2 ∨ op = 3) → k < 16 → u.isRetired 8 k = false → vs.all (fun v => !(u.monResult k u.mon.coef v 0).ovr && !(u.monResult k u.mon.coef v 0).opn) = true → m = u.sysSum vs →
          (op = 2 → z = roundDiv m (2 ^ 23 * 16) →
            (z.natAbs ≤ 2 ^ 21 → u.on F.MON_STREAM_CAL_EN = false → ∃ t, exec (.monCalDone [vs] []) s = .next t ∧ t.getS (F.MON_USER_OFS_OFS k) = z ∧
              t.get F.MON_CAL_STATUS_STATE = 3 ∧ t.rd Reg.MON_CAL_CNT = (u.rd Reg.MON_CAL_CNT + 1) % 2 ^ 32 ∧ t.rd Reg.MON_CAL_WALL = u.wallSec % 2 ^ 32 ∧ t.rd (Reg.MON_CAL_WALL + 8) = u.wallNs ∧
          t.mon.calQ = [] ∧ t.mon.work = .idle ∧
              regsBut [Reg.MON_USER_OFS k, Reg.MON_CAL_STATUS, Reg.MON_CAL_CNT, Reg.MON_CAL_WALL, Reg.MON_CAL_WALL + 4, Reg.MON_CAL_WALL + 8, Reg.MON_SEQ_STATUS] u t ∧
              t = { u with regs := t.regs, mon := t.mon }) ∧
            (z.natAbs ≤ 2 ^ 21 → u.on F.MON_STREAM_CAL_EN = true → u.uplinks = u → u.isRoot = true → 64 ≤ u.partFree .mon → ∃ t,
              exec (.monCalDone [vs] []) s = .next t ∧ t.buf = (u.pushUnit 3 .mon false (u.monHeader 4 (2 + k * 8) u.orbitNow
                ((u.rd Reg.MON_CAL_CNT + 1) % 2 ^ 32) 1 u.time.slot ++ leBytes 4 (ofSigned 32 z) ++ leBytes 4 (u.get (F.MON_USER_GAIN_GAIN k)))).buf ∧
              t.getS (F.MON_USER_OFS_OFS k) = z ∧ t.get F.MON_CAL_STATUS_STATE = 3) ∧
            (2 ^ 21 < z.natAbs → ∃ t, exec (.monCalDone [vs] []) s = .next t ∧ t.get F.MON_CAL_STATUS_STATE = 4 ∧ t.get F.MON_CAL_STATUS_REASON = 1 ∧ t.mon.calQ = [] ∧
              regsBut [Reg.MON_CAL_STATUS, Reg.MON_SEQ_STATUS] u t ∧ t = { u with regs := t.regs, mon := t.mon })) ∧
          (op = 3 → m - u.getS (F.MON_USER_OFS_OFS k) * (2 ^ 23 * 16) = z → z ≠ 0 →
            (2 ^ 21 ≤ (if 0 < z then roundDiv (u.getS F.MON_CAL_TARGET_TARGET * 2 ^ 57) z else roundDiv (-(u.getS F.MON_CAL_TARGET_TARGET * 2 ^ 57)) (-z)) →
              (if 0 < z then roundDiv (u.getS F.MON_CAL_TARGET_TARGET * 2 ^ 57) z else roundDiv (-(u.getS F.MON_CAL_TARGET_TARGET * 2 ^ 57)) (-z)) ≤ 2 ^ 23 →
              u.on F.MON_STREAM_CAL_EN = false → ∃ t, exec (.monCalDone [vs] []) s = .next t ∧ (t.get (F.MON_USER_GAIN_GAIN k) : Int) =
                (if 0 < z then roundDiv (u.getS F.MON_CAL_TARGET_TARGET * 2 ^ 57) z else roundDiv (-(u.getS F.MON_CAL_TARGET_TARGET * 2 ^ 57)) (-z)) ∧
              t.get F.MON_CAL_STATUS_STATE = 3 ∧ t.rd Reg.MON_CAL_CNT = (u.rd Reg.MON_CAL_CNT + 1) % 2 ^ 32 ∧ t.rd Reg.MON_CAL_WALL = u.wallSec % 2 ^ 32 ∧ t.rd (Reg.MON_CAL_WALL + 8) = u.wallNs ∧
          t.mon.calQ = [] ∧ t.mon.work = .idle ∧
              regsBut [Reg.MON_USER_GAIN k, Reg.MON_CAL_STATUS, Reg.MON_CAL_CNT, Reg.MON_CAL_WALL, Reg.MON_CAL_WALL + 4, Reg.MON_CAL_WALL + 8, Reg.MON_SEQ_STATUS] u t ∧
              t = { u with regs := t.regs, mon := t.mon }) ∧
            ((if 0 < z then roundDiv (u.getS F.MON_CAL_TARGET_TARGET * 2 ^ 57) z else roundDiv (-(u.getS F.MON_CAL_TARGET_TARGET * 2 ^ 57)) (-z)) < 2 ^ 21 ∨
              2 ^ 23 < (if 0 < z then roundDiv (u.getS F.MON_CAL_TARGET_TARGET * 2 ^ 57) z else roundDiv (-(u.getS F.MON_CAL_TARGET_TARGET * 2 ^ 57)) (-z)) →
              ∃ t, exec (.monCalDone [vs] []) s = .next t ∧ t.get F.MON_CAL_STATUS_STATE = 4 ∧ t.get F.MON_CAL_STATUS_REASON = 1 ∧ t.mon.calQ = [] ∧
              regsBut [Reg.MON_CAL_STATUS, Reg.MON_SEQ_STATUS] u t ∧ t = { u with regs := t.regs, mon := t.mon }))) ∧
        (rest = [] → op = 4 → vs.all (fun v => !(u.monResult 16 (u.monCoef 16) v 0).ovr && !(u.monResult 16 (u.monCoef 16) v 0).opn) = true →
          u.on F.MON_STREAM_CAL_EN = false → z = roundDiv ((vs.map (fun v => u.monCode 0 (u.monCoef 16) v)).foldl (fun a b => a + b) 0) 16 →
          ∃ t, exec (.monCalDone [vs] []) s = .next t ∧ t.get F.MON_REF_RATIO_CODE = ofSigned 16 z ∧ t.get F.MON_CAL_STATUS_STATE = 3 ∧ t.rd Reg.MON_CAL_CNT = (u.rd Reg.MON_CAL_CNT + 1) % 2 ^ 32 ∧ t.rd Reg.MON_CAL_WALL = u.wallSec % 2 ^ 32 ∧ t.rd (Reg.MON_CAL_WALL + 8) = u.wallNs ∧
          t.mon.calQ = [] ∧ t.mon.work = .idle ∧
          regsBut [Reg.MON_REF_RATIO, Reg.MON_CAL_STATUS, Reg.MON_CAL_CNT, Reg.MON_CAL_WALL, Reg.MON_CAL_WALL + 4, Reg.MON_CAL_WALL + 8, Reg.MON_SEQ_STATUS] u t ∧
          t = { u with regs := t.regs, mon := t.mon }) ∧
        (rest = [] → (op = 2 ∨ op = 3) → (16 ≤ k ∨ u.isRetired 8 k = true) → ∃ t, exec (.monCalDone [vs] []) s = .next t ∧ t.get F.MON_CAL_STATUS_STATE = 4 ∧ t.get F.MON_CAL_STATUS_REASON = 2 ∧ t.mon.calQ = [] ∧
          regsBut [Reg.MON_CAL_STATUS, Reg.MON_SEQ_STATUS] u t ∧ t = { u with regs := t.regs, mon := t.mon }) ∧
        (rest = [] → (op = 2 ∨ op = 3) → k < 16 → u.isRetired 8 k = false → vs = ws ++ w :: cs →
          ws.all (fun v => !(u.monResult k u.mon.coef v 0).ovr && !(u.monResult k u.mon.coef v 0).opn) = true →
          ((u.monResult k u.mon.coef w 0).ovr || (u.monResult k u.mon.coef w 0).opn) = true → ∃ t, exec (.monCalDone [vs] []) s = .next t ∧
          t.get F.MON_CAL_STATUS_STATE = 4 ∧ t.get F.MON_CAL_STATUS_REASON = 3 ∧ t.mon.calQ = [] ∧ (∀ j, t.rd (Reg.MON_USER_OFS j) = u.rd (Reg.MON_USER_OFS j) ∧ t.rd (Reg.MON_USER_GAIN j) = u.rd (Reg.MON_USER_GAIN j)) ∧
          t.rd Reg.MON_OVR_CNT = min (u.rd Reg.MON_OVR_CNT + b2n (u.monResult k u.mon.coef w 0).ovr) 0xFFFFFFFF ∧
          t.rd Reg.MON_OPEN_CNT = min (u.rd Reg.MON_OPEN_CNT + b2n (u.monResult k u.mon.coef w 0).opn) 0xFFFFFFFF ∧
          ((u.monResult k u.mon.coef w 0).ovr = true → t.mon.owed = true) ∧ t.rd Reg.MON_CAL_CNT = u.rd Reg.MON_CAL_CNT ∧ t.sys = u.sys ∧ t.time = u.time) ∧
        (rest ≠ [] → ∃ t, exec (.monCalDone [vs] []) s = .next t ∧ t.get F.MON_CAL_STATUS_STATE = 1 ∧
          t.get F.MON_CAL_STATUS_REASON = 0 ∧ t.mon.calQ = rest ∧ t.mon.work = .idle))) ∧
    (s.get F.MON_CAL_STATUS_STATE = 2 → s.mon.work = .cal → s.mon.calQ = (1, k) :: rest → css.length = s.gainsInUse.length → cs.length = css.length →
      css.all (fun l => decide (l.length = 16)) = true →
      (s.atUs s.mon.since (17 * css.length * s.mon.outs * monPeriod s.mon.odr) = none → exec (.monCalDone css cs) s = .next s) ∧
      (s.atUs s.mon.since (17 * css.length * s.mon.outs * monPeriod s.mon.odr) = some u → u.mon.injWait = false → u.mon.scope.on = false →
        u.on F.MON_SEQ_STATUS_RUNNING = false → u.on F.MON_STREAM_CAL_EN = false →
        (u.gainsInUse.zip css).all (fun e => e.2.all (fun v => !(u.monResult 30 (u.zeroCoef e.1) v 0).ovr && !(u.monResult 30 (u.zeroCoef e.1) v 0).opn)) = true →
        ∃ t, exec (.monCalDone css cs) s = .next t ∧
          (∀ j, j < css.length → t.get (F.MON_DRIFT_OFS_OFS (u.gainsInUse.getD j 0)) = ofSigned 24 (roundDiv (((css.getD j []).map (fun v =>
            v.x - u.getS (F.MON_FACT_OFS_OFS (u.gainsInUse.getD j 0)))).foldl (fun a b => a + b) 0) 16)) ∧
          (∀ g, g ∉ u.gainsInUse → g < 8 → t.rd (Reg.MON_DRIFT_OFS g) = u.rd (Reg.MON_DRIFT_OFS g)) ∧
          t.get F.MON_CAL_QUAL_QUAL = min 255 ((u.gainsInUse.zip cs).foldl (fun a e => max a (monLimit (t.monCode e.1 (t.zeroCoef e.1) e.2) e.2.ovl
            (decide (e.2.x < 0))).1.natAbs) 0) ∧
          t.rd Reg.MON_CAL_CNT = (u.rd Reg.MON_CAL_CNT + 1) % 2 ^ 32 ∧ t.rd Reg.MON_CAL_WALL = u.wallSec % 2 ^ 32 ∧ t.mon.calQ = rest ∧ t.mon.work = .idle ∧
          t.get F.MON_CAL_STATUS_STATE = (if rest = [] then 3 else 1) ∧
          regsBut ([Reg.MON_CAL_QUAL, Reg.MON_CAL_STATUS, Reg.MON_CAL_CNT, Reg.MON_CAL_WALL, Reg.MON_CAL_WALL + 4, Reg.MON_CAL_WALL + 8, Reg.MON_SEQ_STATUS] ++
            (List.range 8).map (fun g => Reg.MON_DRIFT_OFS g)) u t ∧ t = { u with regs := t.regs, mon := t.mon, free := t.free })) ∧
    (s.get F.MON_CAL_STATUS_STATE ≠ 2 ∨ s.mon.work ≠ .cal ∨ s.mon.calQ = [] → exec (.monCalDone css cs) s = .next s)

/-- The scope (R435–R440): ARM takes the counts, input and rate in force; the first three outputs are discarded; pre-trigger samples fill, the trigger
sample by LEVEL, SLOPE, CALENDAR, FORCE or AUTO and those after it follow, one an output period, until the last makes it DONE or one outside its
envelope freezes it; ABORT ends it without records; its record parts are written when they fit, and with REPEAT it arms again. Where a command's
condition fails it leaves the die as it is: log 1. That time moves on to the moment an event carries is log 7. The model's reading or choice here:
log 106, 108. -/
def Obligations.ScopeCapturesItsSamples : Prop :=
  ∀ (s u : State) (n post pre : Nat) (v : MonConv) (x y : Int) (c : ScopeSt) (rest : List Nat) (bar : Bool), Awake s → s.monRuns = true → s.bus.held = [] →
    s.sys.fuseDone = true → s.mon.scope = c →
    (s.get F.MON_CTRL_MODE = 2 → post = min 8192 (max 1 (s.get F.MON_SCOPE_CNT_POST)) → pre = min (s.get F.MON_SCOPE_CNT_PRE) (8192 - post) →
      (s.mon.work = .entry n → ∃ t, exec (.scopeArm bar) s = .next t ∧ t.mon = { s.mon with scope := {
          on := true, pre := pre, post := post, number := c.number, input := s.get F.MON_SCOPE_INPUT, odr := s.get F.MON_SCOPE_ODR } } ∧
        t.on F.MON_SCOPE_STATUS_ARMED = true ∧ t.on F.MON_SCOPE_STATUS_TRIGGERED = false ∧
        (s.on F.MON_SCOPE_STATUS_POST_CLAMPED = false → t.on F.MON_SCOPE_STATUS_POST_CLAMPED = decide (8192 < s.get F.MON_SCOPE_CNT_POST)) ∧
        (s.on F.MON_SCOPE_STATUS_PRE_REDUCED = false → t.on F.MON_SCOPE_STATUS_PRE_REDUCED = decide (pre < s.get F.MON_SCOPE_CNT_PRE)) ∧
        regsBut [Reg.MON_SCOPE_STATUS] s t ∧ t = { s with regs := t.regs, mon := t.mon }) ∧
      (s.mon.work = .idle → s.mon.injWait = false → s.get F.MON_CAL_STATUS_STATE ≠ 1 → ∃ t, exec (.scopeArm bar) s = .next t ∧ t.mon.work = .scope ∧
        t.mon.scope = {
          on := true, pre := pre, post := post, number := c.number, input := s.get F.MON_SCOPE_INPUT
          odr := s.get F.MON_SCOPE_ODR, begun := true, skip := 3 } ∧
        t.mon.k = s.get F.MON_SCOPE_INPUT ∧ t.mon.coef = s.monCoef (s.get F.MON_SCOPE_INPUT) ∧ t.mon.since = s.fNow ∧ t.on F.MON_SCOPE_STATUS_ARMED = true ∧
        (s.on F.MON_SEQ_STATUS_RUNNING = true → t.on F.MON_SEQ_STATUS_PAUSED = true) ∧
        regsBut [Reg.MON_SCOPE_STATUS, Reg.MON_STATUS, Reg.MON_SEQ_STATUS] s t ∧ t = { s with regs := t.regs, mon := t.mon })) ∧
    (s.get F.MON_CTRL_MODE ≠ 2 → exec (.scopeArm bar) s = .next s) ∧
    (c.on = true → exec (.scopeForce bar) s = .next { s with mon := { s.mon with scope := { c with force := true } } }) ∧
    (c.on = false → exec (.scopeForce bar) s = .next s ∧ exec (.scopeAbort bar) s = .next s ∧ exec (.scopeSample v) s = .next s ∧
      exec .scopeAutoTimeout s = .next s) ∧
    (c.on = true → s.mon.work = .entry n → ∃ t, exec (.scopeAbort bar) s = .next t ∧ t.on F.MON_SCOPE_STATUS_ABORTED = true ∧
      t.on F.MON_SCOPE_STATUS_ARMED = false ∧ t.mon = { s.mon with scope := { c with on := false, begun := false, parts := [], shown := false } } ∧
      regsBut [Reg.MON_SCOPE_STATUS] s t ∧ t = { s with regs := t.regs, mon := t.mon }) ∧
    (c.on = true → s.mon.work = .scope → ∃ t, exec (.scopeAbort bar) s = .next t ∧ t.on F.MON_SCOPE_STATUS_ABORTED = true ∧ t.on F.MON_SCOPE_STATUS_ARMED = false ∧
      t.mon.scope.on = false ∧ t.mon.scope.shown = false ∧ (s.mon.injWait = true → t.mon.work = .inj ∧ t.on F.MON_STATUS_INJ_PENDING = false) ∧
      (s.mon.injWait = false → s.get F.MON_CAL_STATUS_STATE ≠ 1 → s.on F.MON_SEQ_STATUS_RUNNING = false → t.mon.work = .idle)) ∧
    (c.on = true → c.begun = true → c.trig = none → c.pre ≤ c.buf.length → 0 < s.get F.MON_SCOPE_AUTO_TMO → s.get F.MON_SCOPE_AUTO_TMO ≤ c.waits →
      exec .scopeAutoTimeout s = .next { s with mon := { s.mon with scope := { c with autoDue := true } } }) ∧
    (c.on = false ∨ c.begun = false ∨ c.trig ≠ none ∨ c.buf.length < c.pre ∨ s.get F.MON_SCOPE_AUTO_TMO = 0 ∨ c.waits < s.get F.MON_SCOPE_AUTO_TMO →
      exec .scopeAutoTimeout s = .next s) ∧
    (s.mon.work ≠ .scope ∨ c.begun = false ∨ s.mon.guard = true → exec (.scopeSample v) s = .next s) ∧
    (c.on = true → c.begun = true → s.mon.work = .scope → s.mon.guard = false →
      (s.atUs s.mon.since (monPeriod s.mon.odr) = none → exec (.scopeSample v) s = .next s) ∧
      (s.atUs s.mon.since (monPeriod s.mon.odr) = some u → u.mon.scope = c →
        (0 < c.skip → exec (.scopeSample v) s = .next { u with mon := { u.mon with since := u.fNow, scope := { c with skip := c.skip - 1 } } }) ∧
        (c.skip = 0 → x = (monLimit (u.monCode u.mon.coef.g { u.mon.coef with exc := 0 } v) v.ovl (decide (v.x < 0))).1 →
          (c.force = true → u.scopeTrig x = true) ∧ (c.autoDue = true → u.scopeTrig x = true) ∧
          (c.force = false → c.autoDue = false → c.prev = some y →
            (u.get F.MON_SCOPE_TRIG = 0 → u.on F.MON_SCOPE_DIR = false →
              u.scopeTrig x = decide (y < u.getS F.MON_SCOPE_LEVEL_LEVEL ∧ u.getS F.MON_SCOPE_LEVEL_LEVEL ≤ x)) ∧
            (u.get F.MON_SCOPE_TRIG = 0 → u.on F.MON_SCOPE_DIR = true →
              u.scopeTrig x = decide (u.getS F.MON_SCOPE_LEVEL_LEVEL < y ∧ x ≤ u.getS F.MON_SCOPE_LEVEL_LEVEL)) ∧
            (u.get F.MON_SCOPE_TRIG = 1 → u.on F.MON_SCOPE_DIR = false → u.scopeTrig x = decide ((u.get F.MON_SCOPE_LEVEL_DELTA : Int) ≤ x - y)) ∧
            (u.get F.MON_SCOPE_TRIG = 1 → u.on F.MON_SCOPE_DIR = true → u.scopeTrig x = decide ((u.get F.MON_SCOPE_LEVEL_DELTA : Int) ≤ y - x)) ∧
            (u.get F.MON_SCOPE_TRIG = 2 → u.scopeTrig x = c.cal) ∧ (u.get F.MON_SCOPE_TRIG = 3 → u.scopeTrig x = false)) ∧
          (c.trig = none → c.buf.length < c.pre → exec (.scopeSample v) s = .next { u with mon := { u.mon with since := u.fNow, scope := { c with
            buf := c.buf ++ [x], prev := some x, force := false, cal := false } } }) ∧
          (c.trig = none → c.pre ≤ c.buf.length → u.scopeTrig x = false → exec (.scopeSample v) s = .next { u with mon := { u.mon with
            since := u.fNow, scope := { c with
            buf := (c.buf ++ [x]).drop (c.buf.length + 1 - c.pre), prev := some x, cal := false, waits := c.waits + 1 } } }) ∧
          (c.trig = none → c.pre ≤ c.buf.length → u.scopeTrig x = true → u.scopeOutside c.buf.length x = false → c.buf.length + 1 < c.pre + c.post →
            ∃ t, exec (.scopeSample v) s = .next t ∧ t.on F.MON_SCOPE_STATUS_TRIGGERED = true ∧ t.on F.MON_SCOPE_STATUS_AUTO = (u.on F.MON_SCOPE_STATUS_AUTO || c.autoDue) ∧
            t.mon = { u.mon with since := u.fNow, scope := { c with
              trig := some c.buf.length, auto := c.autoDue, orbit := u.orbitNow, slot := u.time.slot
              buf := c.buf ++ [x], prev := some x } } ∧
            regsBut [Reg.MON_SCOPE_STATUS] u t ∧ t = { u with regs := t.regs, mon := t.mon }) ∧
          (c.trig = some n → u.scopeOutside c.buf.length x = false → c.buf.length + 1 < c.pre + c.post →
            exec (.scopeSample v) s = .next { u with mon := { u.mon with since := u.fNow, scope := { c with buf := c.buf ++ [x], prev := some x } } }) ∧
          (c.trig = some n → u.scopeOutside c.buf.length x = false → c.pre + c.post ≤ c.buf.length + 1 → u.on F.MON_SEQ_STATUS_RUNNING = false →
            u.mon.injWait = false → ∃ t, exec (.scopeSample v) s = .next t ∧ t.on F.MON_SCOPE_STATUS_DONE = true ∧
            t.on F.MON_SCOPE_STATUS_ARMED = false ∧ t.mon.scope = { c with
              on := false, begun := false, shown := true, buf := c.buf ++ [x], prev := some x
              number := c.number + 1, parts := if u.on F.MON_STREAM_SCOPE_EN = true then
                (List.range (max 1 (ceilDiv (c.buf.length + 1) 1024))).map (fun i => i * 1024) else [] } ∧
            t.mon.work = .idle ∧ t.rd Reg.MON_MASK_PASS_CNT = min (u.rd Reg.MON_MASK_PASS_CNT + b2n (u.on F.MON_SCOPE_MASK_EN)) 0xFFFFFFFF ∧
            regsBut [Reg.MON_SCOPE_STATUS, Reg.MON_MASK_PASS_CNT, Reg.MON_SEQ_STATUS] u t ∧ t = { u with regs := t.regs, mon := t.mon }) ∧
          (c.trig = some n → u.scopeOutside c.buf.length x = true → c.buf.length < 8192 → ∃ t, exec (.scopeSample v) s = .next t ∧
            t.on F.MON_SCOPE_STATUS_MASK_VIOL = true ∧ t.get F.MON_SCOPE_VIOL_INDEX = c.buf.length ∧ t.get F.MON_SCOPE_VIOL_SAMPLE = ofSigned 16 x ∧
            t.mon.scope.buf = c.buf ∧ t.mon.scope.stop = true ∧ t.mon.scope.on = false ∧ t.mon.scope.viol = some (c.buf.length, x) ∧
            t.mon.scope.number = c.number + 1 ∧ t.rd Reg.MON_MASK_PASS_CNT = u.rd Reg.MON_MASK_PASS_CNT ∧ t.sys = u.sys ∧ t.time = u.time)))) ∧
    (c.parts = n :: rest → partCost .mon (24 + 2 * min 1024 (c.buf.length - n)) ≤ s.partFree .mon → s.uplinks = s → ∃ t,
      exec .scopeRecordWrite s = .next t ∧ t.buf = (s.pushUnit 3 .mon false (s.monHeader 3 (n / 1024 + b2n rest.isEmpty * 8 + b2n c.viol.isSome * 16 +
        b2n c.auto * 32 + b2n (s.on F.MON_SCOPE_STATUS_POST_CLAMPED) * 64) c.orbit c.number (min 1024 (c.buf.length - n)) c.slot ++
        leBytes 2 (c.trig.getD 0) ++ leBytes 2 (match c.viol with | some v => v.1 | none => 0xFFFF) ++ leBytes 1 c.input ++ leBytes 1 c.odr ++
        leBytes 2 0 ++ ((c.buf.drop n).take 1024).flatMap (fun x => leBytes 2 (ofSigned 16 x)))).buf ∧
      t.mon = { s.mon with scope := { c with parts := rest } } ∧ (∀ i, i ≠ 16 → i ≠ 17 → t.arb i = s.arb i) ∧
      regsBut [Reg.ARB_GRANT_CNT 16, Reg.ARB_GRANT_CNT 17, Reg.ARB_QMASK_CNT 16, Reg.ARB_QMASK_CNT 17] s t ∧
      t = { s with mon := t.mon, buf := t.buf, regs := t.regs, arbs := t.arbs }) ∧
    (c.parts = n :: rest → s.partFree .mon < partCost .mon (24 + 2 * min 1024 (c.buf.length - n)) → exec .scopeRecordWrite s = .next s) ∧
    (c.parts = [] → exec .scopeRecordWrite s = .next s) ∧
    (s.on F.MON_SCOPE_REPEAT = true → c.on = false → c.shown = true → c.stop = false → c.parts = [] → s.get F.MON_CTRL_MODE = 2 → s.mon.work = .entry n →
      ∃ t, exec .scopeRearm s = .next t ∧ t.mon.scope.on = true ∧ t.mon.scope.buf = [] ∧ t.mon.scope.number = c.number ∧ t.on F.MON_SCOPE_STATUS_ARMED = true ∧
        regsBut [Reg.MON_SCOPE_STATUS] s t ∧ t = { s with regs := t.regs, mon := t.mon }) ∧
    (s.on F.MON_SCOPE_REPEAT = false ∨ c.on = true ∨ c.shown = false ∨ c.stop = true ∨ c.parts ≠ [] → exec .scopeRearm s = .next s)
end

