-- ==== Sys2Proof/Laws/State.lean ====
section
/-! SUPPORT. What each update of the state leaves alone: one law per field for every operation that writes one field. -/

namespace Sys2Proof.Machine

/-! `State.wr`. -/

@[simp] theorem State.wr_sys (s : State) (a v : Nat) : (s.wr a v).sys = s.sys := Eq.trans rfl rfl
@[simp] theorem State.wr_time (s : State) (a v : Nat) : (s.wr a v).time = s.time := Eq.trans rfl rfl
@[simp] theorem State.wr_phase (s : State) (a v : Nat) : (s.wr a v).phase = s.phase := Eq.trans rfl rfl
@[simp] theorem State.wr_wall (s : State) (a v : Nat) : (s.wr a v).wall = s.wall := Eq.trans rfl rfl
@[simp] theorem State.wr_fe (s : State) (a v : Nat) : (s.wr a v).fe = s.fe := Eq.trans rfl rfl
@[simp] theorem State.wr_vtdc (s : State) (a v : Nat) : (s.wr a v).vtdc = s.vtdc := Eq.trans rfl rfl
@[simp] theorem State.wr_tiu (s : State) (a v : Nat) : (s.wr a v).tiu = s.tiu := Eq.trans rfl rfl
@[simp] theorem State.wr_tiles (s : State) (a v : Nat) : (s.wr a v).tiles = s.tiles := Eq.trans rfl rfl
@[simp] theorem State.wr_asm (s : State) (a v : Nat) : (s.wr a v).asm = s.asm := Eq.trans rfl rfl
@[simp] theorem State.wr_arbs (s : State) (a v : Nat) : (s.wr a v).arbs = s.arbs := Eq.trans rfl rfl
@[simp] theorem State.wr_trg (s : State) (a v : Nat) : (s.wr a v).trg = s.trg := Eq.trans rfl rfl
@[simp] theorem State.wr_buf (s : State) (a v : Nat) : (s.wr a v).buf = s.buf := Eq.trans rfl rfl
@[simp] theorem State.wr_facet (s : State) (a v : Nat) : (s.wr a v).facet = s.facet := Eq.trans rfl rfl
@[simp] theorem State.wr_lanes (s : State) (a v : Nat) : (s.wr a v).lanes = s.lanes := Eq.trans rfl rfl
@[simp] theorem State.wr_ports (s : State) (a v : Nat) : (s.wr a v).ports = s.ports := Eq.trans rfl rfl
@[simp] theorem State.wr_tally (s : State) (a v : Nat) : (s.wr a v).tally = s.tally := Eq.trans rfl rfl
@[simp] theorem State.wr_vault (s : State) (a v : Nat) : (s.wr a v).vault = s.vault := Eq.trans rfl rfl
@[simp] theorem State.wr_tree (s : State) (a v : Nat) : (s.wr a v).tree = s.tree := Eq.trans rfl rfl
@[simp] theorem State.wr_clasp (s : State) (a v : Nat) : (s.wr a v).clasp = s.clasp := Eq.trans rfl rfl
@[simp] theorem State.wr_hall (s : State) (a v : Nat) : (s.wr a v).hall = s.hall := Eq.trans rfl rfl
@[simp] theorem State.wr_mon (s : State) (a v : Nat) : (s.wr a v).mon = s.mon := Eq.trans rfl rfl
@[simp] theorem State.wr_hif (s : State) (a v : Nat) : (s.wr a v).hif = s.hif := Eq.trans rfl rfl
@[simp] theorem State.wr_bus (s : State) (a v : Nat) : (s.wr a v).bus = s.bus := Eq.trans rfl rfl
@[simp] theorem State.wr_tap (s : State) (a v : Nat) : (s.wr a v).tap = s.tap := Eq.trans rfl rfl
@[simp] theorem State.wr_fault (s : State) (a v : Nat) : (s.wr a v).fault = s.fault := Eq.trans rfl rfl
@[simp] theorem State.wr_fuse (s : State) (a v : Nat) : (s.wr a v).fuse = s.fuse := Eq.trans rfl rfl
@[simp] theorem State.wr_out (s : State) (a v : Nat) : (s.wr a v).out = s.out := Eq.trans rfl rfl
@[simp] theorem State.wr_free (s : State) (a v : Nat) : (s.wr a v).free = s.free := Eq.trans rfl rfl
@[simp] theorem State.wr_pending (s : State) (a v : Nat) : (s.wr a v).pending = s.pending := Eq.trans rfl rfl

/-! `State.put`. -/

@[simp] theorem State.put_sys (s : State) (f : Fld) (v : Nat) : (s.put f v).sys = s.sys := Eq.trans rfl rfl
@[simp] theorem State.put_time (s : State) (f : Fld) (v : Nat) : (s.put f v).time = s.time := Eq.trans rfl rfl
@[simp] theorem State.put_phase (s : State) (f : Fld) (v : Nat) : (s.put f v).phase = s.phase := Eq.trans rfl rfl
@[simp] theorem State.put_wall (s : State) (f : Fld) (v : Nat) : (s.put f v).wall = s.wall := Eq.trans rfl rfl
@[simp] theorem State.put_fe (s : State) (f : Fld) (v : Nat) : (s.put f v).fe = s.fe := Eq.trans rfl rfl
@[simp] theorem State.put_vtdc (s : State) (f : Fld) (v : Nat) : (s.put f v).vtdc = s.vtdc := Eq.trans rfl rfl
@[simp] theorem State.put_tiu (s : State) (f : Fld) (v : Nat) : (s.put f v).tiu = s.tiu := Eq.trans rfl rfl
@[simp] theorem State.put_tiles (s : State) (f : Fld) (v : Nat) : (s.put f v).tiles = s.tiles := Eq.trans rfl rfl
@[simp] theorem State.put_asm (s : State) (f : Fld) (v : Nat) : (s.put f v).asm = s.asm := Eq.trans rfl rfl
@[simp] theorem State.put_arbs (s : State) (f : Fld) (v : Nat) : (s.put f v).arbs = s.arbs := Eq.trans rfl rfl
@[simp] theorem State.put_trg (s : State) (f : Fld) (v : Nat) : (s.put f v).trg = s.trg := Eq.trans rfl rfl
@[simp] theorem State.put_buf (s : State) (f : Fld) (v : Nat) : (s.put f v).buf = s.buf := Eq.trans rfl rfl
@[simp] theorem State.put_facet (s : State) (f : Fld) (v : Nat) : (s.put f v).facet = s.facet := Eq.trans rfl rfl
@[simp] theorem State.put_lanes (s : State) (f : Fld) (v : Nat) : (s.put f v).lanes = s.lanes := Eq.trans rfl rfl
@[simp] theorem State.put_ports (s : State) (f : Fld) (v : Nat) : (s.put f v).ports = s.ports := Eq.trans rfl rfl
@[simp] theorem State.put_tally (s : State) (f : Fld) (v : Nat) : (s.put f v).tally = s.tally := Eq.trans rfl rfl
@[simp] theorem State.put_vault (s : State) (f : Fld) (v : Nat) : (s.put f v).vault = s.vault := Eq.trans rfl rfl
@[simp] theorem State.put_tree (s : State) (f : Fld) (v : Nat) : (s.put f v).tree = s.tree := Eq.trans rfl rfl
@[simp] theorem State.put_clasp (s : State) (f : Fld) (v : Nat) : (s.put f v).clasp = s.clasp := Eq.trans rfl rfl
@[simp] theorem State.put_hall (s : State) (f : Fld) (v : Nat) : (s.put f v).hall = s.hall := Eq.trans rfl rfl
@[simp] theorem State.put_mon (s : State) (f : Fld) (v : Nat) : (s.put f v).mon = s.mon := Eq.trans rfl rfl
@[simp] theorem State.put_hif (s : State) (f : Fld) (v : Nat) : (s.put f v).hif = s.hif := Eq.trans rfl rfl
@[simp] theorem State.put_bus (s : State) (f : Fld) (v : Nat) : (s.put f v).bus = s.bus := Eq.trans rfl rfl
@[simp] theorem State.put_tap (s : State) (f : Fld) (v : Nat) : (s.put f v).tap = s.tap := Eq.trans rfl rfl
@[simp] theorem State.put_fault (s : State) (f : Fld) (v : Nat) : (s.put f v).fault = s.fault := Eq.trans rfl rfl
@[simp] theorem State.put_fuse (s : State) (f : Fld) (v : Nat) : (s.put f v).fuse = s.fuse := Eq.trans rfl rfl
@[simp] theorem State.put_out (s : State) (f : Fld) (v : Nat) : (s.put f v).out = s.out := Eq.trans rfl rfl
@[simp] theorem State.put_free (s : State) (f : Fld) (v : Nat) : (s.put f v).free = s.free := Eq.trans rfl rfl
@[simp] theorem State.put_pending (s : State) (f : Fld) (v : Nat) : (s.put f v).pending = s.pending := Eq.trans rfl rfl

/-! `State.incBy`. -/

@[simp] theorem State.incBy_sys (s : State) (a n : Nat) : (s.incBy a n).sys = s.sys := Eq.trans rfl rfl
@[simp] theorem State.incBy_time (s : State) (a n : Nat) : (s.incBy a n).time = s.time := Eq.trans rfl rfl
@[simp] theorem State.incBy_phase (s : State) (a n : Nat) : (s.incBy a n).phase = s.phase := Eq.trans rfl rfl
@[simp] theorem State.incBy_wall (s : State) (a n : Nat) : (s.incBy a n).wall = s.wall := Eq.trans rfl rfl
@[simp] theorem State.incBy_fe (s : State) (a n : Nat) : (s.incBy a n).fe = s.fe := Eq.trans rfl rfl
@[simp] theorem State.incBy_vtdc (s : State) (a n : Nat) : (s.incBy a n).vtdc = s.vtdc := Eq.trans rfl rfl
@[simp] theorem State.incBy_tiu (s : State) (a n : Nat) : (s.incBy a n).tiu = s.tiu := Eq.trans rfl rfl
@[simp] theorem State.incBy_tiles (s : State) (a n : Nat) : (s.incBy a n).tiles = s.tiles := Eq.trans rfl rfl
@[simp] theorem State.incBy_asm (s : State) (a n : Nat) : (s.incBy a n).asm = s.asm := Eq.trans rfl rfl
@[simp] theorem State.incBy_arbs (s : State) (a n : Nat) : (s.incBy a n).arbs = s.arbs := Eq.trans rfl rfl
@[simp] theorem State.incBy_trg (s : State) (a n : Nat) : (s.incBy a n).trg = s.trg := Eq.trans rfl rfl
@[simp] theorem State.incBy_buf (s : State) (a n : Nat) : (s.incBy a n).buf = s.buf := Eq.trans rfl rfl
@[simp] theorem State.incBy_facet (s : State) (a n : Nat) : (s.incBy a n).facet = s.facet := Eq.trans rfl rfl
@[simp] theorem State.incBy_lanes (s : State) (a n : Nat) : (s.incBy a n).lanes = s.lanes := Eq.trans rfl rfl
@[simp] theorem State.incBy_ports (s : State) (a n : Nat) : (s.incBy a n).ports = s.ports := Eq.trans rfl rfl
@[simp] theorem State.incBy_tally (s : State) (a n : Nat) : (s.incBy a n).tally = s.tally := Eq.trans rfl rfl
@[simp] theorem State.incBy_vault (s : State) (a n : Nat) : (s.incBy a n).vault = s.vault := Eq.trans rfl rfl
@[simp] theorem State.incBy_tree (s : State) (a n : Nat) : (s.incBy a n).tree = s.tree := Eq.trans rfl rfl
@[simp] theorem State.incBy_clasp (s : State) (a n : Nat) : (s.incBy a n).clasp = s.clasp := Eq.trans rfl rfl
@[simp] theorem State.incBy_hall (s : State) (a n : Nat) : (s.incBy a n).hall = s.hall := Eq.trans rfl rfl
@[simp] theorem State.incBy_mon (s : State) (a n : Nat) : (s.incBy a n).mon = s.mon := Eq.trans rfl rfl
@[simp] theorem State.incBy_hif (s : State) (a n : Nat) : (s.incBy a n).hif = s.hif := Eq.trans rfl rfl
@[simp] theorem State.incBy_bus (s : State) (a n : Nat) : (s.incBy a n).bus = s.bus := Eq.trans rfl rfl
@[simp] theorem State.incBy_tap (s : State) (a n : Nat) : (s.incBy a n).tap = s.tap := Eq.trans rfl rfl
@[simp] theorem State.incBy_fault (s : State) (a n : Nat) : (s.incBy a n).fault = s.fault := Eq.trans rfl rfl
@[simp] theorem State.incBy_fuse (s : State) (a n : Nat) : (s.incBy a n).fuse = s.fuse := Eq.trans rfl rfl
@[simp] theorem State.incBy_out (s : State) (a n : Nat) : (s.incBy a n).out = s.out := Eq.trans rfl rfl
@[simp] theorem State.incBy_free (s : State) (a n : Nat) : (s.incBy a n).free = s.free := Eq.trans rfl rfl
@[simp] theorem State.incBy_pending (s : State) (a n : Nat) : (s.incBy a n).pending = s.pending := Eq.trans rfl rfl

/-! `State.incWrap`. -/

@[simp] theorem State.incWrap_sys (s : State) (a : Nat) : (s.incWrap a).sys = s.sys := Eq.trans rfl rfl
@[simp] theorem State.incWrap_time (s : State) (a : Nat) : (s.incWrap a).time = s.time := Eq.trans rfl rfl
@[simp] theorem State.incWrap_phase (s : State) (a : Nat) : (s.incWrap a).phase = s.phase := Eq.trans rfl rfl
@[simp] theorem State.incWrap_wall (s : State) (a : Nat) : (s.incWrap a).wall = s.wall := Eq.trans rfl rfl
@[simp] theorem State.incWrap_fe (s : State) (a : Nat) : (s.incWrap a).fe = s.fe := Eq.trans rfl rfl
@[simp] theorem State.incWrap_vtdc (s : State) (a : Nat) : (s.incWrap a).vtdc = s.vtdc := Eq.trans rfl rfl
@[simp] theorem State.incWrap_tiu (s : State) (a : Nat) : (s.incWrap a).tiu = s.tiu := Eq.trans rfl rfl
@[simp] theorem State.incWrap_tiles (s : State) (a : Nat) : (s.incWrap a).tiles = s.tiles := Eq.trans rfl rfl
@[simp] theorem State.incWrap_asm (s : State) (a : Nat) : (s.incWrap a).asm = s.asm := Eq.trans rfl rfl
@[simp] theorem State.incWrap_arbs (s : State) (a : Nat) : (s.incWrap a).arbs = s.arbs := Eq.trans rfl rfl
@[simp] theorem State.incWrap_trg (s : State) (a : Nat) : (s.incWrap a).trg = s.trg := Eq.trans rfl rfl
@[simp] theorem State.incWrap_buf (s : State) (a : Nat) : (s.incWrap a).buf = s.buf := Eq.trans rfl rfl
@[simp] theorem State.incWrap_facet (s : State) (a : Nat) : (s.incWrap a).facet = s.facet := Eq.trans rfl rfl
@[simp] theorem State.incWrap_lanes (s : State) (a : Nat) : (s.incWrap a).lanes = s.lanes := Eq.trans rfl rfl
@[simp] theorem State.incWrap_ports (s : State) (a : Nat) : (s.incWrap a).ports = s.ports := Eq.trans rfl rfl
@[simp] theorem State.incWrap_tally (s : State) (a : Nat) : (s.incWrap a).tally = s.tally := Eq.trans rfl rfl
@[simp] theorem State.incWrap_vault (s : State) (a : Nat) : (s.incWrap a).vault = s.vault := Eq.trans rfl rfl
@[simp] theorem State.incWrap_tree (s : State) (a : Nat) : (s.incWrap a).tree = s.tree := Eq.trans rfl rfl
@[simp] theorem State.incWrap_clasp (s : State) (a : Nat) : (s.incWrap a).clasp = s.clasp := Eq.trans rfl rfl
@[simp] theorem State.incWrap_hall (s : State) (a : Nat) : (s.incWrap a).hall = s.hall := Eq.trans rfl rfl
@[simp] theorem State.incWrap_mon (s : State) (a : Nat) : (s.incWrap a).mon = s.mon := Eq.trans rfl rfl
@[simp] theorem State.incWrap_hif (s : State) (a : Nat) : (s.incWrap a).hif = s.hif := Eq.trans rfl rfl
@[simp] theorem State.incWrap_bus (s : State) (a : Nat) : (s.incWrap a).bus = s.bus := Eq.trans rfl rfl
@[simp] theorem State.incWrap_tap (s : State) (a : Nat) : (s.incWrap a).tap = s.tap := Eq.trans rfl rfl
@[simp] theorem State.incWrap_fault (s : State) (a : Nat) : (s.incWrap a).fault = s.fault := Eq.trans rfl rfl
@[simp] theorem State.incWrap_fuse (s : State) (a : Nat) : (s.incWrap a).fuse = s.fuse := Eq.trans rfl rfl
@[simp] theorem State.incWrap_out (s : State) (a : Nat) : (s.incWrap a).out = s.out := Eq.trans rfl rfl
@[simp] theorem State.incWrap_free (s : State) (a : Nat) : (s.incWrap a).free = s.free := Eq.trans rfl rfl
@[simp] theorem State.incWrap_pending (s : State) (a : Nat) : (s.incWrap a).pending = s.pending := Eq.trans rfl rfl

/-! `State.defer`. -/

@[simp] theorem State.defer_regs (s : State) (l : Later) : (s.defer l).regs = s.regs := Eq.trans rfl rfl
@[simp] theorem State.defer_sys (s : State) (l : Later) : (s.defer l).sys = s.sys := Eq.trans rfl rfl
@[simp] theorem State.defer_phase (s : State) (l : Later) : (s.defer l).phase = s.phase := Eq.trans rfl rfl
@[simp] theorem State.defer_wall (s : State) (l : Later) : (s.defer l).wall = s.wall := Eq.trans rfl rfl
@[simp] theorem State.defer_fe (s : State) (l : Later) : (s.defer l).fe = s.fe := Eq.trans rfl rfl
@[simp] theorem State.defer_vtdc (s : State) (l : Later) : (s.defer l).vtdc = s.vtdc := Eq.trans rfl rfl
@[simp] theorem State.defer_tiu (s : State) (l : Later) : (s.defer l).tiu = s.tiu := Eq.trans rfl rfl
@[simp] theorem State.defer_tiles (s : State) (l : Later) : (s.defer l).tiles = s.tiles := Eq.trans rfl rfl
@[simp] theorem State.defer_asm (s : State) (l : Later) : (s.defer l).asm = s.asm := Eq.trans rfl rfl
@[simp] theorem State.defer_arbs (s : State) (l : Later) : (s.defer l).arbs = s.arbs := Eq.trans rfl rfl
@[simp] theorem State.defer_trg (s : State) (l : Later) : (s.defer l).trg = s.trg := Eq.trans rfl rfl
@[simp] theorem State.defer_buf (s : State) (l : Later) : (s.defer l).buf = s.buf := Eq.trans rfl rfl
@[simp] theorem State.defer_facet (s : State) (l : Later) : (s.defer l).facet = s.facet := Eq.trans rfl rfl
@[simp] theorem State.defer_lanes (s : State) (l : Later) : (s.defer l).lanes = s.lanes := Eq.trans rfl rfl
@[simp] theorem State.defer_ports (s : State) (l : Later) : (s.defer l).ports = s.ports := Eq.trans rfl rfl
@[simp] theorem State.defer_tally (s : State) (l : Later) : (s.defer l).tally = s.tally := Eq.trans rfl rfl
@[simp] theorem State.defer_vault (s : State) (l : Later) : (s.defer l).vault = s.vault := Eq.trans rfl rfl
@[simp] theorem State.defer_tree (s : State) (l : Later) : (s.defer l).tree = s.tree := Eq.trans rfl rfl
@[simp] theorem State.defer_clasp (s : State) (l : Later) : (s.defer l).clasp = s.clasp := Eq.trans rfl rfl
@[simp] theorem State.defer_hall (s : State) (l : Later) : (s.defer l).hall = s.hall := Eq.trans rfl rfl
@[simp] theorem State.defer_mon (s : State) (l : Later) : (s.defer l).mon = s.mon := Eq.trans rfl rfl
@[simp] theorem State.defer_hif (s : State) (l : Later) : (s.defer l).hif = s.hif := Eq.trans rfl rfl
@[simp] theorem State.defer_bus (s : State) (l : Later) : (s.defer l).bus = s.bus := Eq.trans rfl rfl
@[simp] theorem State.defer_tap (s : State) (l : Later) : (s.defer l).tap = s.tap := Eq.trans rfl rfl
@[simp] theorem State.defer_fault (s : State) (l : Later) : (s.defer l).fault = s.fault := Eq.trans rfl rfl
@[simp] theorem State.defer_fuse (s : State) (l : Later) : (s.defer l).fuse = s.fuse := Eq.trans rfl rfl
@[simp] theorem State.defer_out (s : State) (l : Later) : (s.defer l).out = s.out := Eq.trans rfl rfl
@[simp] theorem State.defer_free (s : State) (l : Later) : (s.defer l).free = s.free := Eq.trans rfl rfl
@[simp] theorem State.defer_pending (s : State) (l : Later) : (s.defer l).pending = s.pending := Eq.trans rfl rfl

/-! `State.emit`. -/

@[simp] theorem State.emit_regs (s : State) (o : Out) : (s.emit o).regs = s.regs := Eq.trans rfl rfl
@[simp] theorem State.emit_sys (s : State) (o : Out) : (s.emit o).sys = s.sys := Eq.trans rfl rfl
@[simp] theorem State.emit_time (s : State) (o : Out) : (s.emit o).time = s.time := Eq.trans rfl rfl
@[simp] theorem State.emit_phase (s : State) (o : Out) : (s.emit o).phase = s.phase := Eq.trans rfl rfl
@[simp] theorem State.emit_wall (s : State) (o : Out) : (s.emit o).wall = s.wall := Eq.trans rfl rfl
@[simp] theorem State.emit_fe (s : State) (o : Out) : (s.emit o).fe = s.fe := Eq.trans rfl rfl
@[simp] theorem State.emit_vtdc (s : State) (o : Out) : (s.emit o).vtdc = s.vtdc := Eq.trans rfl rfl
@[simp] theorem State.emit_tiu (s : State) (o : Out) : (s.emit o).tiu = s.tiu := Eq.trans rfl rfl
@[simp] theorem State.emit_tiles (s : State) (o : Out) : (s.emit o).tiles = s.tiles := Eq.trans rfl rfl
@[simp] theorem State.emit_asm (s : State) (o : Out) : (s.emit o).asm = s.asm := Eq.trans rfl rfl
@[simp] theorem State.emit_arbs (s : State) (o : Out) : (s.emit o).arbs = s.arbs := Eq.trans rfl rfl
@[simp] theorem State.emit_trg (s : State) (o : Out) : (s.emit o).trg = s.trg := Eq.trans rfl rfl
@[simp] theorem State.emit_buf (s : State) (o : Out) : (s.emit o).buf = s.buf := Eq.trans rfl rfl
@[simp] theorem State.emit_facet (s : State) (o : Out) : (s.emit o).facet = s.facet := Eq.trans rfl rfl
@[simp] theorem State.emit_lanes (s : State) (o : Out) : (s.emit o).lanes = s.lanes := Eq.trans rfl rfl
@[simp] theorem State.emit_ports (s : State) (o : Out) : (s.emit o).ports = s.ports := Eq.trans rfl rfl
@[simp] theorem State.emit_tally (s : State) (o : Out) : (s.emit o).tally = s.tally := Eq.trans rfl rfl
@[simp] theorem State.emit_vault (s : State) (o : Out) : (s.emit o).vault = s.vault := Eq.trans rfl rfl
@[simp] theorem State.emit_tree (s : State) (o : Out) : (s.emit o).tree = s.tree := Eq.trans rfl rfl
@[simp] theorem State.emit_clasp (s : State) (o : Out) : (s.emit o).clasp = s.clasp := Eq.trans rfl rfl
@[simp] theorem State.emit_hall (s : State) (o : Out) : (s.emit o).hall = s.hall := Eq.trans rfl rfl
@[simp] theorem State.emit_mon (s : State) (o : Out) : (s.emit o).mon = s.mon := Eq.trans rfl rfl
@[simp] theorem State.emit_hif (s : State) (o : Out) : (s.emit o).hif = s.hif := Eq.trans rfl rfl
@[simp] theorem State.emit_bus (s : State) (o : Out) : (s.emit o).bus = s.bus := Eq.trans rfl rfl
@[simp] theorem State.emit_tap (s : State) (o : Out) : (s.emit o).tap = s.tap := Eq.trans rfl rfl
@[simp] theorem State.emit_fault (s : State) (o : Out) : (s.emit o).fault = s.fault := Eq.trans rfl rfl
@[simp] theorem State.emit_fuse (s : State) (o : Out) : (s.emit o).fuse = s.fuse := Eq.trans rfl rfl
@[simp] theorem State.emit_free (s : State) (o : Out) : (s.emit o).free = s.free := Eq.trans rfl rfl
@[simp] theorem State.emit_pending (s : State) (o : Out) : (s.emit o).pending = s.pending := Eq.trans rfl rfl

/-! `State.emits`. -/

@[simp] theorem State.emits_regs (s : State) (o : List Out) : (s.emits o).regs = s.regs := Eq.trans rfl rfl
@[simp] theorem State.emits_sys (s : State) (o : List Out) : (s.emits o).sys = s.sys := Eq.trans rfl rfl
@[simp] theorem State.emits_time (s : State) (o : List Out) : (s.emits o).time = s.time := Eq.trans rfl rfl
@[simp] theorem State.emits_phase (s : State) (o : List Out) : (s.emits o).phase = s.phase := Eq.trans rfl rfl
@[simp] theorem State.emits_wall (s : State) (o : List Out) : (s.emits o).wall = s.wall := Eq.trans rfl rfl
@[simp] theorem State.emits_fe (s : State) (o : List Out) : (s.emits o).fe = s.fe := Eq.trans rfl rfl
@[simp] theorem State.emits_vtdc (s : State) (o : List Out) : (s.emits o).vtdc = s.vtdc := Eq.trans rfl rfl
@[simp] theorem State.emits_tiu (s : State) (o : List Out) : (s.emits o).tiu = s.tiu := Eq.trans rfl rfl
@[simp] theorem State.emits_tiles (s : State) (o : List Out) : (s.emits o).tiles = s.tiles := Eq.trans rfl rfl
@[simp] theorem State.emits_asm (s : State) (o : List Out) : (s.emits o).asm = s.asm := Eq.trans rfl rfl
@[simp] theorem State.emits_arbs (s : State) (o : List Out) : (s.emits o).arbs = s.arbs := Eq.trans rfl rfl
@[simp] theorem State.emits_trg (s : State) (o : List Out) : (s.emits o).trg = s.trg := Eq.trans rfl rfl
@[simp] theorem State.emits_buf (s : State) (o : List Out) : (s.emits o).buf = s.buf := Eq.trans rfl rfl
@[simp] theorem State.emits_facet (s : State) (o : List Out) : (s.emits o).facet = s.facet := Eq.trans rfl rfl
@[simp] theorem State.emits_lanes (s : State) (o : List Out) : (s.emits o).lanes = s.lanes := Eq.trans rfl rfl
@[simp] theorem State.emits_ports (s : State) (o : List Out) : (s.emits o).ports = s.ports := Eq.trans rfl rfl
@[simp] theorem State.emits_tally (s : State) (o : List Out) : (s.emits o).tally = s.tally := Eq.trans rfl rfl
@[simp] theorem State.emits_vault (s : State) (o : List Out) : (s.emits o).vault = s.vault := Eq.trans rfl rfl
@[simp] theorem State.emits_tree (s : State) (o : List Out) : (s.emits o).tree = s.tree := Eq.trans rfl rfl
@[simp] theorem State.emits_clasp (s : State) (o : List Out) : (s.emits o).clasp = s.clasp := Eq.trans rfl rfl
@[simp] theorem State.emits_hall (s : State) (o : List Out) : (s.emits o).hall = s.hall := Eq.trans rfl rfl
@[simp] theorem State.emits_mon (s : State) (o : List Out) : (s.emits o).mon = s.mon := Eq.trans rfl rfl
@[simp] theorem State.emits_hif (s : State) (o : List Out) : (s.emits o).hif = s.hif := Eq.trans rfl rfl
@[simp] theorem State.emits_bus (s : State) (o : List Out) : (s.emits o).bus = s.bus := Eq.trans rfl rfl
@[simp] theorem State.emits_tap (s : State) (o : List Out) : (s.emits o).tap = s.tap := Eq.trans rfl rfl
@[simp] theorem State.emits_fault (s : State) (o : List Out) : (s.emits o).fault = s.fault := Eq.trans rfl rfl
@[simp] theorem State.emits_fuse (s : State) (o : List Out) : (s.emits o).fuse = s.fuse := Eq.trans rfl rfl
@[simp] theorem State.emits_free (s : State) (o : List Out) : (s.emits o).free = s.free := Eq.trans rfl rfl
@[simp] theorem State.emits_pending (s : State) (o : List Out) : (s.emits o).pending = s.pending := Eq.trans rfl rfl

/-! `State.setArb`. -/

@[simp] theorem State.setArb_regs (s : State) (i : Nat) (v : Arb) : (s.setArb i v).regs = s.regs := Eq.trans rfl rfl
@[simp] theorem State.setArb_sys (s : State) (i : Nat) (v : Arb) : (s.setArb i v).sys = s.sys := Eq.trans rfl rfl
@[simp] theorem State.setArb_time (s : State) (i : Nat) (v : Arb) : (s.setArb i v).time = s.time := Eq.trans rfl rfl
@[simp] theorem State.setArb_phase (s : State) (i : Nat) (v : Arb) : (s.setArb i v).phase = s.phase := Eq.trans rfl rfl
@[simp] theorem State.setArb_wall (s : State) (i : Nat) (v : Arb) : (s.setArb i v).wall = s.wall := Eq.trans rfl rfl
@[simp] theorem State.setArb_fe (s : State) (i : Nat) (v : Arb) : (s.setArb i v).fe = s.fe := Eq.trans rfl rfl
@[simp] theorem State.setArb_vtdc (s : State) (i : Nat) (v : Arb) : (s.setArb i v).vtdc = s.vtdc := Eq.trans rfl rfl
@[simp] theorem State.setArb_tiu (s : State) (i : Nat) (v : Arb) : (s.setArb i v).tiu = s.tiu := Eq.trans rfl rfl
@[simp] theorem State.setArb_tiles (s : State) (i : Nat) (v : Arb) : (s.setArb i v).tiles = s.tiles := Eq.trans rfl rfl
@[simp] theorem State.setArb_asm (s : State) (i : Nat) (v : Arb) : (s.setArb i v).asm = s.asm := Eq.trans rfl rfl
@[simp] theorem State.setArb_trg (s : State) (i : Nat) (v : Arb) : (s.setArb i v).trg = s.trg := Eq.trans rfl rfl
@[simp] theorem State.setArb_buf (s : State) (i : Nat) (v : Arb) : (s.setArb i v).buf = s.buf := Eq.trans rfl rfl
@[simp] theorem State.setArb_facet (s : State) (i : Nat) (v : Arb) : (s.setArb i v).facet = s.facet := Eq.trans rfl rfl
@[simp] theorem State.setArb_lanes (s : State) (i : Nat) (v : Arb) : (s.setArb i v).lanes = s.lanes := Eq.trans rfl rfl
@[simp] theorem State.setArb_ports (s : State) (i : Nat) (v : Arb) : (s.setArb i v).ports = s.ports := Eq.trans rfl rfl
@[simp] theorem State.setArb_tally (s : State) (i : Nat) (v : Arb) : (s.setArb i v).tally = s.tally := Eq.trans rfl rfl
@[simp] theorem State.setArb_vault (s : State) (i : Nat) (v : Arb) : (s.setArb i v).vault = s.vault := Eq.trans rfl rfl
@[simp] theorem State.setArb_tree (s : State) (i : Nat) (v : Arb) : (s.setArb i v).tree = s.tree := Eq.trans rfl rfl
@[simp] theorem State.setArb_clasp (s : State) (i : Nat) (v : Arb) : (s.setArb i v).clasp = s.clasp := Eq.trans rfl rfl
@[simp] theorem State.setArb_hall (s : State) (i : Nat) (v : Arb) : (s.setArb i v).hall = s.hall := Eq.trans rfl rfl
@[simp] theorem State.setArb_mon (s : State) (i : Nat) (v : Arb) : (s.setArb i v).mon = s.mon := Eq.trans rfl rfl
@[simp] theorem State.setArb_hif (s : State) (i : Nat) (v : Arb) : (s.setArb i v).hif = s.hif := Eq.trans rfl rfl
@[simp] theorem State.setArb_bus (s : State) (i : Nat) (v : Arb) : (s.setArb i v).bus = s.bus := Eq.trans rfl rfl
@[simp] theorem State.setArb_tap (s : State) (i : Nat) (v : Arb) : (s.setArb i v).tap = s.tap := Eq.trans rfl rfl
@[simp] theorem State.setArb_fault (s : State) (i : Nat) (v : Arb) : (s.setArb i v).fault = s.fault := Eq.trans rfl rfl
@[simp] theorem State.setArb_fuse (s : State) (i : Nat) (v : Arb) : (s.setArb i v).fuse = s.fuse := Eq.trans rfl rfl
@[simp] theorem State.setArb_out (s : State) (i : Nat) (v : Arb) : (s.setArb i v).out = s.out := Eq.trans rfl rfl
@[simp] theorem State.setArb_free (s : State) (i : Nat) (v : Arb) : (s.setArb i v).free = s.free := Eq.trans rfl rfl
@[simp] theorem State.setArb_pending (s : State) (i : Nat) (v : Arb) : (s.setArb i v).pending = s.pending := Eq.trans rfl rfl

/-! `State.setPort`. -/

@[simp] theorem State.setPort_regs (s : State) (i : Nat) (v : PortSt) : (s.setPort i v).regs = s.regs := Eq.trans rfl rfl
@[simp] theorem State.setPort_sys (s : State) (i : Nat) (v : PortSt) : (s.setPort i v).sys = s.sys := Eq.trans rfl rfl
@[simp] theorem State.setPort_time (s : State) (i : Nat) (v : PortSt) : (s.setPort i v).time = s.time := Eq.trans rfl rfl
@[simp] theorem State.setPort_phase (s : State) (i : Nat) (v : PortSt) : (s.setPort i v).phase = s.phase := Eq.trans rfl rfl
@[simp] theorem State.setPort_wall (s : State) (i : Nat) (v : PortSt) : (s.setPort i v).wall = s.wall := Eq.trans rfl rfl
@[simp] theorem State.setPort_fe (s : State) (i : Nat) (v : PortSt) : (s.setPort i v).fe = s.fe := Eq.trans rfl rfl
@[simp] theorem State.setPort_vtdc (s : State) (i : Nat) (v : PortSt) : (s.setPort i v).vtdc = s.vtdc := Eq.trans rfl rfl
@[simp] theorem State.setPort_tiu (s : State) (i : Nat) (v : PortSt) : (s.setPort i v).tiu = s.tiu := Eq.trans rfl rfl
@[simp] theorem State.setPort_tiles (s : State) (i : Nat) (v : PortSt) : (s.setPort i v).tiles = s.tiles := Eq.trans rfl rfl
@[simp] theorem State.setPort_asm (s : State) (i : Nat) (v : PortSt) : (s.setPort i v).asm = s.asm := Eq.trans rfl rfl
@[simp] theorem State.setPort_arbs (s : State) (i : Nat) (v : PortSt) : (s.setPort i v).arbs = s.arbs := Eq.trans rfl rfl
@[simp] theorem State.setPort_trg (s : State) (i : Nat) (v : PortSt) : (s.setPort i v).trg = s.trg := Eq.trans rfl rfl
@[simp] theorem State.setPort_buf (s : State) (i : Nat) (v : PortSt) : (s.setPort i v).buf = s.buf := Eq.trans rfl rfl
@[simp] theorem State.setPort_facet (s : State) (i : Nat) (v : PortSt) : (s.setPort i v).facet = s.facet := Eq.trans rfl rfl
@[simp] theorem State.setPort_lanes (s : State) (i : Nat) (v : PortSt) : (s.setPort i v).lanes = s.lanes := Eq.trans rfl rfl
@[simp] theorem State.setPort_tally (s : State) (i : Nat) (v : PortSt) : (s.setPort i v).tally = s.tally := Eq.trans rfl rfl
@[simp] theorem State.setPort_vault (s : State) (i : Nat) (v : PortSt) : (s.setPort i v).vault = s.vault := Eq.trans rfl rfl
@[simp] theorem State.setPort_tree (s : State) (i : Nat) (v : PortSt) : (s.setPort i v).tree = s.tree := Eq.trans rfl rfl
@[simp] theorem State.setPort_clasp (s : State) (i : Nat) (v : PortSt) : (s.setPort i v).clasp = s.clasp := Eq.trans rfl rfl
@[simp] theorem State.setPort_hall (s : State) (i : Nat) (v : PortSt) : (s.setPort i v).hall = s.hall := Eq.trans rfl rfl
@[simp] theorem State.setPort_mon (s : State) (i : Nat) (v : PortSt) : (s.setPort i v).mon = s.mon := Eq.trans rfl rfl
@[simp] theorem State.setPort_hif (s : State) (i : Nat) (v : PortSt) : (s.setPort i v).hif = s.hif := Eq.trans rfl rfl
@[simp] theorem State.setPort_bus (s : State) (i : Nat) (v : PortSt) : (s.setPort i v).bus = s.bus := Eq.trans rfl rfl
@[simp] theorem State.setPort_tap (s : State) (i : Nat) (v : PortSt) : (s.setPort i v).tap = s.tap := Eq.trans rfl rfl
@[simp] theorem State.setPort_fault (s : State) (i : Nat) (v : PortSt) : (s.setPort i v).fault = s.fault := Eq.trans rfl rfl
@[simp] theorem State.setPort_fuse (s : State) (i : Nat) (v : PortSt) : (s.setPort i v).fuse = s.fuse := Eq.trans rfl rfl
@[simp] theorem State.setPort_out (s : State) (i : Nat) (v : PortSt) : (s.setPort i v).out = s.out := Eq.trans rfl rfl
@[simp] theorem State.setPort_free (s : State) (i : Nat) (v : PortSt) : (s.setPort i v).free = s.free := Eq.trans rfl rfl
@[simp] theorem State.setPort_pending (s : State) (i : Nat) (v : PortSt) : (s.setPort i v).pending = s.pending := Eq.trans rfl rfl

/-! `State.setLane`. -/

@[simp] theorem State.setLane_regs (s : State) (i : Nat) (v : LaneSt) : (s.setLane i v).regs = s.regs := Eq.trans rfl rfl
@[simp] theorem State.setLane_sys (s : State) (i : Nat) (v : LaneSt) : (s.setLane i v).sys = s.sys := Eq.trans rfl rfl
@[simp] theorem State.setLane_time (s : State) (i : Nat) (v : LaneSt) : (s.setLane i v).time = s.time := Eq.trans rfl rfl
@[simp] theorem State.setLane_phase (s : State) (i : Nat) (v : LaneSt) : (s.setLane i v).phase = s.phase := Eq.trans rfl rfl
@[simp] theorem State.setLane_wall (s : State) (i : Nat) (v : LaneSt) : (s.setLane i v).wall = s.wall := Eq.trans rfl rfl
@[simp] theorem State.setLane_fe (s : State) (i : Nat) (v : LaneSt) : (s.setLane i v).fe = s.fe := Eq.trans rfl rfl
@[simp] theorem State.setLane_vtdc (s : State) (i : Nat) (v : LaneSt) : (s.setLane i v).vtdc = s.vtdc := Eq.trans rfl rfl
@[simp] theorem State.setLane_tiu (s : State) (i : Nat) (v : LaneSt) : (s.setLane i v).tiu = s.tiu := Eq.trans rfl rfl
@[simp] theorem State.setLane_tiles (s : State) (i : Nat) (v : LaneSt) : (s.setLane i v).tiles = s.tiles := Eq.trans rfl rfl
@[simp] theorem State.setLane_asm (s : State) (i : Nat) (v : LaneSt) : (s.setLane i v).asm = s.asm := Eq.trans rfl rfl
@[simp] theorem State.setLane_arbs (s : State) (i : Nat) (v : LaneSt) : (s.setLane i v).arbs = s.arbs := Eq.trans rfl rfl
@[simp] theorem State.setLane_trg (s : State) (i : Nat) (v : LaneSt) : (s.setLane i v).trg = s.trg := Eq.trans rfl rfl
@[simp] theorem State.setLane_buf (s : State) (i : Nat) (v : LaneSt) : (s.setLane i v).buf = s.buf := Eq.trans rfl rfl
@[simp] theorem State.setLane_facet (s : State) (i : Nat) (v : LaneSt) : (s.setLane i v).facet = s.facet := Eq.trans rfl rfl
@[simp] theorem State.setLane_ports (s : State) (i : Nat) (v : LaneSt) : (s.setLane i v).ports = s.ports := Eq.trans rfl rfl
@[simp] theorem State.setLane_tally (s : State) (i : Nat) (v : LaneSt) : (s.setLane i v).tally = s.tally := Eq.trans rfl rfl
@[simp] theorem State.setLane_vault (s : State) (i : Nat) (v : LaneSt) : (s.setLane i v).vault = s.vault := Eq.trans rfl rfl
@[simp] theorem State.setLane_tree (s : State) (i : Nat) (v : LaneSt) : (s.setLane i v).tree = s.tree := Eq.trans rfl rfl
@[simp] theorem State.setLane_clasp (s : State) (i : Nat) (v : LaneSt) : (s.setLane i v).clasp = s.clasp := Eq.trans rfl rfl
@[simp] theorem State.setLane_hall (s : State) (i : Nat) (v : LaneSt) : (s.setLane i v).hall = s.hall := Eq.trans rfl rfl
@[simp] theorem State.setLane_mon (s : State) (i : Nat) (v : LaneSt) : (s.setLane i v).mon = s.mon := Eq.trans rfl rfl
@[simp] theorem State.setLane_hif (s : State) (i : Nat) (v : LaneSt) : (s.setLane i v).hif = s.hif := Eq.trans rfl rfl
@[simp] theorem State.setLane_bus (s : State) (i : Nat) (v : LaneSt) : (s.setLane i v).bus = s.bus := Eq.trans rfl rfl
@[simp] theorem State.setLane_tap (s : State) (i : Nat) (v : LaneSt) : (s.setLane i v).tap = s.tap := Eq.trans rfl rfl
@[simp] theorem State.setLane_fault (s : State) (i : Nat) (v : LaneSt) : (s.setLane i v).fault = s.fault := Eq.trans rfl rfl
@[simp] theorem State.setLane_fuse (s : State) (i : Nat) (v : LaneSt) : (s.setLane i v).fuse = s.fuse := Eq.trans rfl rfl
@[simp] theorem State.setLane_out (s : State) (i : Nat) (v : LaneSt) : (s.setLane i v).out = s.out := Eq.trans rfl rfl
@[simp] theorem State.setLane_free (s : State) (i : Nat) (v : LaneSt) : (s.setLane i v).free = s.free := Eq.trans rfl rfl
@[simp] theorem State.setLane_pending (s : State) (i : Nat) (v : LaneSt) : (s.setLane i v).pending = s.pending := Eq.trans rfl rfl

/-! `State.setTile`. -/

@[simp] theorem State.setTile_regs (s : State) (i : Nat) (v : Tile) : (s.setTile i v).regs = s.regs := Eq.trans rfl rfl
@[simp] theorem State.setTile_sys (s : State) (i : Nat) (v : Tile) : (s.setTile i v).sys = s.sys := Eq.trans rfl rfl
@[simp] theorem State.setTile_time (s : State) (i : Nat) (v : Tile) : (s.setTile i v).time = s.time := Eq.trans rfl rfl
@[simp] theorem State.setTile_phase (s : State) (i : Nat) (v : Tile) : (s.setTile i v).phase = s.phase := Eq.trans rfl rfl
@[simp] theorem State.setTile_wall (s : State) (i : Nat) (v : Tile) : (s.setTile i v).wall = s.wall := Eq.trans rfl rfl
@[simp] theorem State.setTile_fe (s : State) (i : Nat) (v : Tile) : (s.setTile i v).fe = s.fe := Eq.trans rfl rfl
@[simp] theorem State.setTile_vtdc (s : State) (i : Nat) (v : Tile) : (s.setTile i v).vtdc = s.vtdc := Eq.trans rfl rfl
@[simp] theorem State.setTile_tiu (s : State) (i : Nat) (v : Tile) : (s.setTile i v).tiu = s.tiu := Eq.trans rfl rfl
@[simp] theorem State.setTile_asm (s : State) (i : Nat) (v : Tile) : (s.setTile i v).asm = s.asm := Eq.trans rfl rfl
@[simp] theorem State.setTile_arbs (s : State) (i : Nat) (v : Tile) : (s.setTile i v).arbs = s.arbs := Eq.trans rfl rfl
@[simp] theorem State.setTile_trg (s : State) (i : Nat) (v : Tile) : (s.setTile i v).trg = s.trg := Eq.trans rfl rfl
@[simp] theorem State.setTile_buf (s : State) (i : Nat) (v : Tile) : (s.setTile i v).buf = s.buf := Eq.trans rfl rfl
@[simp] theorem State.setTile_facet (s : State) (i : Nat) (v : Tile) : (s.setTile i v).facet = s.facet := Eq.trans rfl rfl
@[simp] theorem State.setTile_lanes (s : State) (i : Nat) (v : Tile) : (s.setTile i v).lanes = s.lanes := Eq.trans rfl rfl
@[simp] theorem State.setTile_ports (s : State) (i : Nat) (v : Tile) : (s.setTile i v).ports = s.ports := Eq.trans rfl rfl
@[simp] theorem State.setTile_tally (s : State) (i : Nat) (v : Tile) : (s.setTile i v).tally = s.tally := Eq.trans rfl rfl
@[simp] theorem State.setTile_vault (s : State) (i : Nat) (v : Tile) : (s.setTile i v).vault = s.vault := Eq.trans rfl rfl
@[simp] theorem State.setTile_tree (s : State) (i : Nat) (v : Tile) : (s.setTile i v).tree = s.tree := Eq.trans rfl rfl
@[simp] theorem State.setTile_clasp (s : State) (i : Nat) (v : Tile) : (s.setTile i v).clasp = s.clasp := Eq.trans rfl rfl
@[simp] theorem State.setTile_hall (s : State) (i : Nat) (v : Tile) : (s.setTile i v).hall = s.hall := Eq.trans rfl rfl
@[simp] theorem State.setTile_mon (s : State) (i : Nat) (v : Tile) : (s.setTile i v).mon = s.mon := Eq.trans rfl rfl
@[simp] theorem State.setTile_hif (s : State) (i : Nat) (v : Tile) : (s.setTile i v).hif = s.hif := Eq.trans rfl rfl
@[simp] theorem State.setTile_bus (s : State) (i : Nat) (v : Tile) : (s.setTile i v).bus = s.bus := Eq.trans rfl rfl
@[simp] theorem State.setTile_tap (s : State) (i : Nat) (v : Tile) : (s.setTile i v).tap = s.tap := Eq.trans rfl rfl
@[simp] theorem State.setTile_fault (s : State) (i : Nat) (v : Tile) : (s.setTile i v).fault = s.fault := Eq.trans rfl rfl
@[simp] theorem State.setTile_fuse (s : State) (i : Nat) (v : Tile) : (s.setTile i v).fuse = s.fuse := Eq.trans rfl rfl
@[simp] theorem State.setTile_out (s : State) (i : Nat) (v : Tile) : (s.setTile i v).out = s.out := Eq.trans rfl rfl
@[simp] theorem State.setTile_free (s : State) (i : Nat) (v : Tile) : (s.setTile i v).free = s.free := Eq.trans rfl rfl
@[simp] theorem State.setTile_pending (s : State) (i : Nat) (v : Tile) : (s.setTile i v).pending = s.pending := Eq.trans rfl rfl

/-! `State.setChan`. -/

@[simp] theorem State.setChan_regs (s : State) (i : Nat) (v : Chan) : (s.setChan i v).regs = s.regs := Eq.trans rfl rfl
@[simp] theorem State.setChan_sys (s : State) (i : Nat) (v : Chan) : (s.setChan i v).sys = s.sys := Eq.trans rfl rfl
@[simp] theorem State.setChan_time (s : State) (i : Nat) (v : Chan) : (s.setChan i v).time = s.time := Eq.trans rfl rfl
@[simp] theorem State.setChan_phase (s : State) (i : Nat) (v : Chan) : (s.setChan i v).phase = s.phase := Eq.trans rfl rfl
@[simp] theorem State.setChan_wall (s : State) (i : Nat) (v : Chan) : (s.setChan i v).wall = s.wall := Eq.trans rfl rfl
@[simp] theorem State.setChan_vtdc (s : State) (i : Nat) (v : Chan) : (s.setChan i v).vtdc = s.vtdc := Eq.trans rfl rfl
@[simp] theorem State.setChan_tiu (s : State) (i : Nat) (v : Chan) : (s.setChan i v).tiu = s.tiu := Eq.trans rfl rfl
@[simp] theorem State.setChan_tiles (s : State) (i : Nat) (v : Chan) : (s.setChan i v).tiles = s.tiles := Eq.trans rfl rfl
@[simp] theorem State.setChan_asm (s : State) (i : Nat) (v : Chan) : (s.setChan i v).asm = s.asm := Eq.trans rfl rfl
@[simp] theorem State.setChan_arbs (s : State) (i : Nat) (v : Chan) : (s.setChan i v).arbs = s.arbs := Eq.trans rfl rfl
@[simp] theorem State.setChan_trg (s : State) (i : Nat) (v : Chan) : (s.setChan i v).trg = s.trg := Eq.trans rfl rfl
@[simp] theorem State.setChan_buf (s : State) (i : Nat) (v : Chan) : (s.setChan i v).buf = s.buf := Eq.trans rfl rfl
@[simp] theorem State.setChan_facet (s : State) (i : Nat) (v : Chan) : (s.setChan i v).facet = s.facet := Eq.trans rfl rfl
@[simp] theorem State.setChan_lanes (s : State) (i : Nat) (v : Chan) : (s.setChan i v).lanes = s.lanes := Eq.trans rfl rfl
@[simp] theorem State.setChan_ports (s : State) (i : Nat) (v : Chan) : (s.setChan i v).ports = s.ports := Eq.trans rfl rfl
@[simp] theorem State.setChan_tally (s : State) (i : Nat) (v : Chan) : (s.setChan i v).tally = s.tally := Eq.trans rfl rfl
@[simp] theorem State.setChan_vault (s : State) (i : Nat) (v : Chan) : (s.setChan i v).vault = s.vault := Eq.trans rfl rfl
@[simp] theorem State.setChan_tree (s : State) (i : Nat) (v : Chan) : (s.setChan i v).tree = s.tree := Eq.trans rfl rfl
@[simp] theorem State.setChan_clasp (s : State) (i : Nat) (v : Chan) : (s.setChan i v).clasp = s.clasp := Eq.trans rfl rfl
@[simp] theorem State.setChan_hall (s : State) (i : Nat) (v : Chan) : (s.setChan i v).hall = s.hall := Eq.trans rfl rfl
@[simp] theorem State.setChan_mon (s : State) (i : Nat) (v : Chan) : (s.setChan i v).mon = s.mon := Eq.trans rfl rfl
@[simp] theorem State.setChan_hif (s : State) (i : Nat) (v : Chan) : (s.setChan i v).hif = s.hif := Eq.trans rfl rfl
@[simp] theorem State.setChan_bus (s : State) (i : Nat) (v : Chan) : (s.setChan i v).bus = s.bus := Eq.trans rfl rfl
@[simp] theorem State.setChan_tap (s : State) (i : Nat) (v : Chan) : (s.setChan i v).tap = s.tap := Eq.trans rfl rfl
@[simp] theorem State.setChan_fault (s : State) (i : Nat) (v : Chan) : (s.setChan i v).fault = s.fault := Eq.trans rfl rfl
@[simp] theorem State.setChan_fuse (s : State) (i : Nat) (v : Chan) : (s.setChan i v).fuse = s.fuse := Eq.trans rfl rfl
@[simp] theorem State.setChan_out (s : State) (i : Nat) (v : Chan) : (s.setChan i v).out = s.out := Eq.trans rfl rfl
@[simp] theorem State.setChan_free (s : State) (i : Nat) (v : Chan) : (s.setChan i v).free = s.free := Eq.trans rfl rfl
@[simp] theorem State.setChan_pending (s : State) (i : Nat) (v : Chan) : (s.setChan i v).pending = s.pending := Eq.trans rfl rfl

/-! `State.setPair`. -/

@[simp] theorem State.setPair_regs (s : State) (i : Nat) (v : Pair) : (s.setPair i v).regs = s.regs := Eq.trans rfl rfl
@[simp] theorem State.setPair_sys (s : State) (i : Nat) (v : Pair) : (s.setPair i v).sys = s.sys := Eq.trans rfl rfl
@[simp] theorem State.setPair_time (s : State) (i : Nat) (v : Pair) : (s.setPair i v).time = s.time := Eq.trans rfl rfl
@[simp] theorem State.setPair_phase (s : State) (i : Nat) (v : Pair) : (s.setPair i v).phase = s.phase := Eq.trans rfl rfl
@[simp] theorem State.setPair_wall (s : State) (i : Nat) (v : Pair) : (s.setPair i v).wall = s.wall := Eq.trans rfl rfl
@[simp] theorem State.setPair_fe (s : State) (i : Nat) (v : Pair) : (s.setPair i v).fe = s.fe := Eq.trans rfl rfl
@[simp] theorem State.setPair_tiu (s : State) (i : Nat) (v : Pair) : (s.setPair i v).tiu = s.tiu := Eq.trans rfl rfl
@[simp] theorem State.setPair_tiles (s : State) (i : Nat) (v : Pair) : (s.setPair i v).tiles = s.tiles := Eq.trans rfl rfl
@[simp] theorem State.setPair_asm (s : State) (i : Nat) (v : Pair) : (s.setPair i v).asm = s.asm := Eq.trans rfl rfl
@[simp] theorem State.setPair_arbs (s : State) (i : Nat) (v : Pair) : (s.setPair i v).arbs = s.arbs := Eq.trans rfl rfl
@[simp] theorem State.setPair_trg (s : State) (i : Nat) (v : Pair) : (s.setPair i v).trg = s.trg := Eq.trans rfl rfl
@[simp] theorem State.setPair_buf (s : State) (i : Nat) (v : Pair) : (s.setPair i v).buf = s.buf := Eq.trans rfl rfl
@[simp] theorem State.setPair_facet (s : State) (i : Nat) (v : Pair) : (s.setPair i v).facet = s.facet := Eq.trans rfl rfl
@[simp] theorem State.setPair_lanes (s : State) (i : Nat) (v : Pair) : (s.setPair i v).lanes = s.lanes := Eq.trans rfl rfl
@[simp] theorem State.setPair_ports (s : State) (i : Nat) (v : Pair) : (s.setPair i v).ports = s.ports := Eq.trans rfl rfl
@[simp] theorem State.setPair_tally (s : State) (i : Nat) (v : Pair) : (s.setPair i v).tally = s.tally := Eq.trans rfl rfl
@[simp] theorem State.setPair_vault (s : State) (i : Nat) (v : Pair) : (s.setPair i v).vault = s.vault := Eq.trans rfl rfl
@[simp] theorem State.setPair_tree (s : State) (i : Nat) (v : Pair) : (s.setPair i v).tree = s.tree := Eq.trans rfl rfl
@[simp] theorem State.setPair_clasp (s : State) (i : Nat) (v : Pair) : (s.setPair i v).clasp = s.clasp := Eq.trans rfl rfl
@[simp] theorem State.setPair_hall (s : State) (i : Nat) (v : Pair) : (s.setPair i v).hall = s.hall := Eq.trans rfl rfl
@[simp] theorem State.setPair_mon (s : State) (i : Nat) (v : Pair) : (s.setPair i v).mon = s.mon := Eq.trans rfl rfl
@[simp] theorem State.setPair_hif (s : State) (i : Nat) (v : Pair) : (s.setPair i v).hif = s.hif := Eq.trans rfl rfl
@[simp] theorem State.setPair_bus (s : State) (i : Nat) (v : Pair) : (s.setPair i v).bus = s.bus := Eq.trans rfl rfl
@[simp] theorem State.setPair_tap (s : State) (i : Nat) (v : Pair) : (s.setPair i v).tap = s.tap := Eq.trans rfl rfl
@[simp] theorem State.setPair_fault (s : State) (i : Nat) (v : Pair) : (s.setPair i v).fault = s.fault := Eq.trans rfl rfl
@[simp] theorem State.setPair_fuse (s : State) (i : Nat) (v : Pair) : (s.setPair i v).fuse = s.fuse := Eq.trans rfl rfl
@[simp] theorem State.setPair_out (s : State) (i : Nat) (v : Pair) : (s.setPair i v).out = s.out := Eq.trans rfl rfl
@[simp] theorem State.setPair_free (s : State) (i : Nat) (v : Pair) : (s.setPair i v).free = s.free := Eq.trans rfl rfl
@[simp] theorem State.setPair_pending (s : State) (i : Nat) (v : Pair) : (s.setPair i v).pending = s.pending := Eq.trans rfl rfl

/-! `State.setVword`. -/

@[simp] theorem State.setVword_regs (s : State) (i v : Nat) : (s.setVword i v).regs = s.regs := Eq.trans rfl rfl
@[simp] theorem State.setVword_sys (s : State) (i v : Nat) : (s.setVword i v).sys = s.sys := Eq.trans rfl rfl
@[simp] theorem State.setVword_time (s : State) (i v : Nat) : (s.setVword i v).time = s.time := Eq.trans rfl rfl
@[simp] theorem State.setVword_phase (s : State) (i v : Nat) : (s.setVword i v).phase = s.phase := Eq.trans rfl rfl
@[simp] theorem State.setVword_wall (s : State) (i v : Nat) : (s.setVword i v).wall = s.wall := Eq.trans rfl rfl
@[simp] theorem State.setVword_fe (s : State) (i v : Nat) : (s.setVword i v).fe = s.fe := Eq.trans rfl rfl
@[simp] theorem State.setVword_vtdc (s : State) (i v : Nat) : (s.setVword i v).vtdc = s.vtdc := Eq.trans rfl rfl
@[simp] theorem State.setVword_tiu (s : State) (i v : Nat) : (s.setVword i v).tiu = s.tiu := Eq.trans rfl rfl
@[simp] theorem State.setVword_tiles (s : State) (i v : Nat) : (s.setVword i v).tiles = s.tiles := Eq.trans rfl rfl
@[simp] theorem State.setVword_asm (s : State) (i v : Nat) : (s.setVword i v).asm = s.asm := Eq.trans rfl rfl
@[simp] theorem State.setVword_arbs (s : State) (i v : Nat) : (s.setVword i v).arbs = s.arbs := Eq.trans rfl rfl
@[simp] theorem State.setVword_trg (s : State) (i v : Nat) : (s.setVword i v).trg = s.trg := Eq.trans rfl rfl
@[simp] theorem State.setVword_buf (s : State) (i v : Nat) : (s.setVword i v).buf = s.buf := Eq.trans rfl rfl
@[simp] theorem State.setVword_facet (s : State) (i v : Nat) : (s.setVword i v).facet = s.facet := Eq.trans rfl rfl
@[simp] theorem State.setVword_lanes (s : State) (i v : Nat) : (s.setVword i v).lanes = s.lanes := Eq.trans rfl rfl
@[simp] theorem State.setVword_ports (s : State) (i v : Nat) : (s.setVword i v).ports = s.ports := Eq.trans rfl rfl
@[simp] theorem State.setVword_tally (s : State) (i v : Nat) : (s.setVword i v).tally = s.tally := Eq.trans rfl rfl
@[simp] theorem State.setVword_tree (s : State) (i v : Nat) : (s.setVword i v).tree = s.tree := Eq.trans rfl rfl
@[simp] theorem State.setVword_clasp (s : State) (i v : Nat) : (s.setVword i v).clasp = s.clasp := Eq.trans rfl rfl
@[simp] theorem State.setVword_hall (s : State) (i v : Nat) : (s.setVword i v).hall = s.hall := Eq.trans rfl rfl
@[simp] theorem State.setVword_mon (s : State) (i v : Nat) : (s.setVword i v).mon = s.mon := Eq.trans rfl rfl
@[simp] theorem State.setVword_hif (s : State) (i v : Nat) : (s.setVword i v).hif = s.hif := Eq.trans rfl rfl
@[simp] theorem State.setVword_bus (s : State) (i v : Nat) : (s.setVword i v).bus = s.bus := Eq.trans rfl rfl
@[simp] theorem State.setVword_tap (s : State) (i v : Nat) : (s.setVword i v).tap = s.tap := Eq.trans rfl rfl
@[simp] theorem State.setVword_fault (s : State) (i v : Nat) : (s.setVword i v).fault = s.fault := Eq.trans rfl rfl
@[simp] theorem State.setVword_fuse (s : State) (i v : Nat) : (s.setVword i v).fuse = s.fuse := Eq.trans rfl rfl
@[simp] theorem State.setVword_out (s : State) (i v : Nat) : (s.setVword i v).out = s.out := Eq.trans rfl rfl
@[simp] theorem State.setVword_free (s : State) (i v : Nat) : (s.setVword i v).free = s.free := Eq.trans rfl rfl
@[simp] theorem State.setVword_pending (s : State) (i v : Nat) : (s.setVword i v).pending = s.pending := Eq.trans rfl rfl

/-! `State.setWall`. -/

@[simp] theorem State.setWall_regs (s : State) (z : Int) : (s.setWall z).regs = s.regs := Eq.trans rfl rfl
@[simp] theorem State.setWall_sys (s : State) (z : Int) : (s.setWall z).sys = s.sys := Eq.trans rfl rfl
@[simp] theorem State.setWall_time (s : State) (z : Int) : (s.setWall z).time = s.time := Eq.trans rfl rfl
@[simp] theorem State.setWall_phase (s : State) (z : Int) : (s.setWall z).phase = s.phase := Eq.trans rfl rfl
@[simp] theorem State.setWall_fe (s : State) (z : Int) : (s.setWall z).fe = s.fe := Eq.trans rfl rfl
@[simp] theorem State.setWall_vtdc (s : State) (z : Int) : (s.setWall z).vtdc = s.vtdc := Eq.trans rfl rfl
@[simp] theorem State.setWall_tiu (s : State) (z : Int) : (s.setWall z).tiu = s.tiu := Eq.trans rfl rfl
@[simp] theorem State.setWall_tiles (s : State) (z : Int) : (s.setWall z).tiles = s.tiles := Eq.trans rfl rfl
@[simp] theorem State.setWall_asm (s : State) (z : Int) : (s.setWall z).asm = s.asm := Eq.trans rfl rfl
@[simp] theorem State.setWall_arbs (s : State) (z : Int) : (s.setWall z).arbs = s.arbs := Eq.trans rfl rfl
@[simp] theorem State.setWall_trg (s : State) (z : Int) : (s.setWall z).trg = s.trg := Eq.trans rfl rfl
@[simp] theorem State.setWall_buf (s : State) (z : Int) : (s.setWall z).buf = s.buf := Eq.trans rfl rfl
@[simp] theorem State.setWall_facet (s : State) (z : Int) : (s.setWall z).facet = s.facet := Eq.trans rfl rfl
@[simp] theorem State.setWall_lanes (s : State) (z : Int) : (s.setWall z).lanes = s.lanes := Eq.trans rfl rfl
@[simp] theorem State.setWall_ports (s : State) (z : Int) : (s.setWall z).ports = s.ports := Eq.trans rfl rfl
@[simp] theorem State.setWall_tally (s : State) (z : Int) : (s.setWall z).tally = s.tally := Eq.trans rfl rfl
@[simp] theorem State.setWall_vault (s : State) (z : Int) : (s.setWall z).vault = s.vault := Eq.trans rfl rfl
@[simp] theorem State.setWall_tree (s : State) (z : Int) : (s.setWall z).tree = s.tree := Eq.trans rfl rfl
@[simp] theorem State.setWall_clasp (s : State) (z : Int) : (s.setWall z).clasp = s.clasp := Eq.trans rfl rfl
@[simp] theorem State.setWall_hall (s : State) (z : Int) : (s.setWall z).hall = s.hall := Eq.trans rfl rfl
@[simp] theorem State.setWall_mon (s : State) (z : Int) : (s.setWall z).mon = s.mon := Eq.trans rfl rfl
@[simp] theorem State.setWall_hif (s : State) (z : Int) : (s.setWall z).hif = s.hif := Eq.trans rfl rfl
@[simp] theorem State.setWall_bus (s : State) (z : Int) : (s.setWall z).bus = s.bus := Eq.trans rfl rfl
@[simp] theorem State.setWall_tap (s : State) (z : Int) : (s.setWall z).tap = s.tap := Eq.trans rfl rfl
@[simp] theorem State.setWall_fault (s : State) (z : Int) : (s.setWall z).fault = s.fault := Eq.trans rfl rfl
@[simp] theorem State.setWall_fuse (s : State) (z : Int) : (s.setWall z).fuse = s.fuse := Eq.trans rfl rfl
@[simp] theorem State.setWall_out (s : State) (z : Int) : (s.setWall z).out = s.out := Eq.trans rfl rfl
@[simp] theorem State.setWall_free (s : State) (z : Int) : (s.setWall z).free = s.free := Eq.trans rfl rfl
@[simp] theorem State.setWall_pending (s : State) (z : Int) : (s.setWall z).pending = s.pending := Eq.trans rfl rfl

/-! `State.setCmds`. -/

@[simp] theorem State.setCmds_regs (s : State) (i : Nat) (v : List HCmd) : (s.setCmds i v).regs = s.regs := Eq.trans rfl rfl
@[simp] theorem State.setCmds_sys (s : State) (i : Nat) (v : List HCmd) : (s.setCmds i v).sys = s.sys := Eq.trans rfl rfl
@[simp] theorem State.setCmds_time (s : State) (i : Nat) (v : List HCmd) : (s.setCmds i v).time = s.time := Eq.trans rfl rfl
@[simp] theorem State.setCmds_phase (s : State) (i : Nat) (v : List HCmd) : (s.setCmds i v).phase = s.phase := Eq.trans rfl rfl
@[simp] theorem State.setCmds_wall (s : State) (i : Nat) (v : List HCmd) : (s.setCmds i v).wall = s.wall := Eq.trans rfl rfl
@[simp] theorem State.setCmds_fe (s : State) (i : Nat) (v : List HCmd) : (s.setCmds i v).fe = s.fe := Eq.trans rfl rfl
@[simp] theorem State.setCmds_vtdc (s : State) (i : Nat) (v : List HCmd) : (s.setCmds i v).vtdc = s.vtdc := Eq.trans rfl rfl
@[simp] theorem State.setCmds_tiu (s : State) (i : Nat) (v : List HCmd) : (s.setCmds i v).tiu = s.tiu := Eq.trans rfl rfl
@[simp] theorem State.setCmds_tiles (s : State) (i : Nat) (v : List HCmd) : (s.setCmds i v).tiles = s.tiles := Eq.trans rfl rfl
@[simp] theorem State.setCmds_asm (s : State) (i : Nat) (v : List HCmd) : (s.setCmds i v).asm = s.asm := Eq.trans rfl rfl
@[simp] theorem State.setCmds_arbs (s : State) (i : Nat) (v : List HCmd) : (s.setCmds i v).arbs = s.arbs := Eq.trans rfl rfl
@[simp] theorem State.setCmds_trg (s : State) (i : Nat) (v : List HCmd) : (s.setCmds i v).trg = s.trg := Eq.trans rfl rfl
@[simp] theorem State.setCmds_buf (s : State) (i : Nat) (v : List HCmd) : (s.setCmds i v).buf = s.buf := Eq.trans rfl rfl
@[simp] theorem State.setCmds_facet (s : State) (i : Nat) (v : List HCmd) : (s.setCmds i v).facet = s.facet := Eq.trans rfl rfl
@[simp] theorem State.setCmds_lanes (s : State) (i : Nat) (v : List HCmd) : (s.setCmds i v).lanes = s.lanes := Eq.trans rfl rfl
@[simp] theorem State.setCmds_ports (s : State) (i : Nat) (v : List HCmd) : (s.setCmds i v).ports = s.ports := Eq.trans rfl rfl
@[simp] theorem State.setCmds_tally (s : State) (i : Nat) (v : List HCmd) : (s.setCmds i v).tally = s.tally := Eq.trans rfl rfl
@[simp] theorem State.setCmds_vault (s : State) (i : Nat) (v : List HCmd) : (s.setCmds i v).vault = s.vault := Eq.trans rfl rfl
@[simp] theorem State.setCmds_tree (s : State) (i : Nat) (v : List HCmd) : (s.setCmds i v).tree = s.tree := Eq.trans rfl rfl
@[simp] theorem State.setCmds_clasp (s : State) (i : Nat) (v : List HCmd) : (s.setCmds i v).clasp = s.clasp := Eq.trans rfl rfl
@[simp] theorem State.setCmds_hall (s : State) (i : Nat) (v : List HCmd) : (s.setCmds i v).hall = s.hall := Eq.trans rfl rfl
@[simp] theorem State.setCmds_mon (s : State) (i : Nat) (v : List HCmd) : (s.setCmds i v).mon = s.mon := Eq.trans rfl rfl
@[simp] theorem State.setCmds_bus (s : State) (i : Nat) (v : List HCmd) : (s.setCmds i v).bus = s.bus := Eq.trans rfl rfl
@[simp] theorem State.setCmds_tap (s : State) (i : Nat) (v : List HCmd) : (s.setCmds i v).tap = s.tap := Eq.trans rfl rfl
@[simp] theorem State.setCmds_fault (s : State) (i : Nat) (v : List HCmd) : (s.setCmds i v).fault = s.fault := Eq.trans rfl rfl
@[simp] theorem State.setCmds_fuse (s : State) (i : Nat) (v : List HCmd) : (s.setCmds i v).fuse = s.fuse := Eq.trans rfl rfl
@[simp] theorem State.setCmds_out (s : State) (i : Nat) (v : List HCmd) : (s.setCmds i v).out = s.out := Eq.trans rfl rfl
@[simp] theorem State.setCmds_free (s : State) (i : Nat) (v : List HCmd) : (s.setCmds i v).free = s.free := Eq.trans rfl rfl
@[simp] theorem State.setCmds_pending (s : State) (i : Nat) (v : List HCmd) : (s.setCmds i v).pending = s.pending := Eq.trans rfl rfl

/-! `State.setBufs`. -/

@[simp] theorem State.setBufs_regs (s : State) (i : Nat) (v : List HBuf) : (s.setBufs i v).regs = s.regs := Eq.trans rfl rfl
@[simp] theorem State.setBufs_sys (s : State) (i : Nat) (v : List HBuf) : (s.setBufs i v).sys = s.sys := Eq.trans rfl rfl
@[simp] theorem State.setBufs_time (s : State) (i : Nat) (v : List HBuf) : (s.setBufs i v).time = s.time := Eq.trans rfl rfl
@[simp] theorem State.setBufs_phase (s : State) (i : Nat) (v : List HBuf) : (s.setBufs i v).phase = s.phase := Eq.trans rfl rfl
@[simp] theorem State.setBufs_wall (s : State) (i : Nat) (v : List HBuf) : (s.setBufs i v).wall = s.wall := Eq.trans rfl rfl
@[simp] theorem State.setBufs_fe (s : State) (i : Nat) (v : List HBuf) : (s.setBufs i v).fe = s.fe := Eq.trans rfl rfl
@[simp] theorem State.setBufs_vtdc (s : State) (i : Nat) (v : List HBuf) : (s.setBufs i v).vtdc = s.vtdc := Eq.trans rfl rfl
@[simp] theorem State.setBufs_tiu (s : State) (i : Nat) (v : List HBuf) : (s.setBufs i v).tiu = s.tiu := Eq.trans rfl rfl
@[simp] theorem State.setBufs_tiles (s : State) (i : Nat) (v : List HBuf) : (s.setBufs i v).tiles = s.tiles := Eq.trans rfl rfl
@[simp] theorem State.setBufs_asm (s : State) (i : Nat) (v : List HBuf) : (s.setBufs i v).asm = s.asm := Eq.trans rfl rfl
@[simp] theorem State.setBufs_arbs (s : State) (i : Nat) (v : List HBuf) : (s.setBufs i v).arbs = s.arbs := Eq.trans rfl rfl
@[simp] theorem State.setBufs_trg (s : State) (i : Nat) (v : List HBuf) : (s.setBufs i v).trg = s.trg := Eq.trans rfl rfl
@[simp] theorem State.setBufs_buf (s : State) (i : Nat) (v : List HBuf) : (s.setBufs i v).buf = s.buf := Eq.trans rfl rfl
@[simp] theorem State.setBufs_facet (s : State) (i : Nat) (v : List HBuf) : (s.setBufs i v).facet = s.facet := Eq.trans rfl rfl
@[simp] theorem State.setBufs_lanes (s : State) (i : Nat) (v : List HBuf) : (s.setBufs i v).lanes = s.lanes := Eq.trans rfl rfl
@[simp] theorem State.setBufs_ports (s : State) (i : Nat) (v : List HBuf) : (s.setBufs i v).ports = s.ports := Eq.trans rfl rfl
@[simp] theorem State.setBufs_tally (s : State) (i : Nat) (v : List HBuf) : (s.setBufs i v).tally = s.tally := Eq.trans rfl rfl
@[simp] theorem State.setBufs_vault (s : State) (i : Nat) (v : List HBuf) : (s.setBufs i v).vault = s.vault := Eq.trans rfl rfl
@[simp] theorem State.setBufs_tree (s : State) (i : Nat) (v : List HBuf) : (s.setBufs i v).tree = s.tree := Eq.trans rfl rfl
@[simp] theorem State.setBufs_clasp (s : State) (i : Nat) (v : List HBuf) : (s.setBufs i v).clasp = s.clasp := Eq.trans rfl rfl
@[simp] theorem State.setBufs_hall (s : State) (i : Nat) (v : List HBuf) : (s.setBufs i v).hall = s.hall := Eq.trans rfl rfl
@[simp] theorem State.setBufs_mon (s : State) (i : Nat) (v : List HBuf) : (s.setBufs i v).mon = s.mon := Eq.trans rfl rfl
@[simp] theorem State.setBufs_bus (s : State) (i : Nat) (v : List HBuf) : (s.setBufs i v).bus = s.bus := Eq.trans rfl rfl
@[simp] theorem State.setBufs_tap (s : State) (i : Nat) (v : List HBuf) : (s.setBufs i v).tap = s.tap := Eq.trans rfl rfl
@[simp] theorem State.setBufs_fault (s : State) (i : Nat) (v : List HBuf) : (s.setBufs i v).fault = s.fault := Eq.trans rfl rfl
@[simp] theorem State.setBufs_fuse (s : State) (i : Nat) (v : List HBuf) : (s.setBufs i v).fuse = s.fuse := Eq.trans rfl rfl
@[simp] theorem State.setBufs_out (s : State) (i : Nat) (v : List HBuf) : (s.setBufs i v).out = s.out := Eq.trans rfl rfl
@[simp] theorem State.setBufs_free (s : State) (i : Nat) (v : List HBuf) : (s.setBufs i v).free = s.free := Eq.trans rfl rfl
@[simp] theorem State.setBufs_pending (s : State) (i : Nat) (v : List HBuf) : (s.setBufs i v).pending = s.pending := Eq.trans rfl rfl

end Sys2Proof.Machine
end

