-- ==== Sys2Proof/Laws/Store.lean ====
section
/-! SUPPORT. Laws of the sparse memories: a read after a write at the same and at another address, and the canonical form,
which every write keeps. -/

namespace Sys2Proof.Machine

section
variable {α : Type}

/-- A value inserted is read back. -/
theorem sget_sins_same (d : α) (a : Nat) (v : α) (m : List (Nat × α)) : sget d (sins a v m) a = v := by
  induction m with
  | nil => simp [sins, sget]
  | cons p m ih =>
    obtain ⟨k, w⟩ := p
    by_cases h1 : a < k
    · simp [sins, sget, h1]
    · by_cases h2 : k = a
      · simp [sins, sget, h2]
      · simp [sins, sget, h1, h2, ih]

/-- An insertion leaves every other address alone. -/
theorem sget_sins_other (d : α) {a b : Nat} (h : b ≠ a) (v : α) (m : List (Nat × α)) :
    sget d (sins a v m) b = sget d m b := by
  have h' : a ≠ b := fun e => h e.symm
  induction m with
  | nil => simp [sins, sget, h']
  | cons p m ih =>
    obtain ⟨k, w⟩ := p
    by_cases h1 : a < k
    · simp [sins, sget, h1, h']
    · by_cases h2 : k = a
      · subst h2; simp [sins, sget, h']
      · by_cases h3 : k = b
        · subst h3; simp [sins, sget, h1, h2]
        · simp [sins, sget, h1, h2, h3, ih]

/-- An address removed reads as unlisted. -/
theorem sget_sdel_same (d : α) (a : Nat) (m : List (Nat × α)) : sget d (sdel a m) a = d := by
  induction m with
  | nil => rfl
  | cons p m ih =>
    obtain ⟨k, w⟩ := p
    unfold sdel at ih ⊢
    by_cases h : k = a
    · simpa [List.filter, h] using ih
    · simpa [List.filter, h, sget] using ih

/-- A removal leaves every other address alone. -/
theorem sget_sdel_other (d : α) {a b : Nat} (h : b ≠ a) (m : List (Nat × α)) : sget d (sdel a m) b = sget d m b := by
  induction m with
  | nil => rfl
  | cons p m ih =>
    obtain ⟨k, w⟩ := p
    simp only [sdel, ne_eq, decide_not] at ih ⊢
    by_cases h1 : k = a
    · have h2 : a ≠ b := fun e => h e.symm
      simpa [List.filter, h1, sget, h2] using ih
    · by_cases h2 : k = b
      · subst h2; simp [List.filter, h1, sget]
      · simp [List.filter, h1, sget, h2, ih]

/-- The keys of an insertion. -/
theorem sins_keys (a : Nat) (v : α) (m : List (Nat × α)) (p : Nat × α) (h : p ∈ sins a v m) : p = (a, v) ∨ p ∈ m := by
  induction m with
  | nil => simp [sins] at h; exact Or.inl h
  | cons q m ih =>
    obtain ⟨k, w⟩ := q
    unfold sins at h
    split at h
    · simpa using h
    · split at h
      · simp at h; rcases h with h | h
        · exact Or.inl h
        · exact Or.inr (by simp [h])
      · simp at h; rcases h with h | h
        · exact Or.inr (by simp [h])
        · rcases ih h with h | h
          · exact Or.inl h
          · exact Or.inr (by simp [h])

variable [DecidableEq α]

/-- A value written is read back. -/
theorem sget_sset_same (d : α) (m : List (Nat × α)) (a : Nat) (v : α) : sget d (sset d m a v) a = v := by
  unfold sset
  split
  · rename_i h; rw [sget_sdel_same, h]
  · exact sget_sins_same d a v m

/-- A write leaves every other address alone. -/
theorem sget_sset_other (d e : α) (m : List (Nat × α)) {a b : Nat} (h : b ≠ a) (v : α) :
    sget d (sset e m a v) b = sget d m b := by
  unfold sset
  split
  · exact sget_sdel_other d h m
  · exact sget_sins_other d h v m

/-- Read after write. -/
theorem sget_sset (d : α) (m : List (Nat × α)) (a b : Nat) (v : α) :
    sget d (sset d m a v) b = if b = a then v else sget d m b := by
  split
  · subst b; exact sget_sset_same d m a v
  · rename_i h; exact sget_sset_other d d m h v

/-- An insertion of a value that is not the unlisted one keeps the canonical form. -/
theorem swf_sins {d : Nat → α} {m : List (Nat × α)} (hm : swf d m = true) {a : Nat} {v : α} (hv : v ≠ d a) :
    swf d (sins a v m) = true := by
  induction m with
  | nil => simp [sins, swf, hv]
  | cons p m ih =>
    obtain ⟨k, w⟩ := p
    simp only [swf, Bool.and_eq_true, decide_eq_true_eq, List.all_eq_true] at hm
    obtain ⟨⟨hw, hk⟩, hr⟩ := hm
    unfold sins
    split
    · rename_i h1
      simp only [swf, Bool.and_eq_true, decide_eq_true_eq, List.all_eq_true, List.mem_cons]
      refine ⟨⟨hv, ?_⟩, ⟨hw, hk⟩, hr⟩
      rintro q (rfl | hq)
      · exact h1
      · exact Nat.lt_trans h1 (hk q hq)
    · split
      · rename_i h2
        subst h2
        simp only [swf, Bool.and_eq_true, decide_eq_true_eq, List.all_eq_true]
        exact ⟨⟨hv, hk⟩, hr⟩
      · rename_i h1 h2
        simp only [swf, Bool.and_eq_true, decide_eq_true_eq, List.all_eq_true]
        refine ⟨⟨hw, ?_⟩, ih hr⟩
        intro q hq
        rcases sins_keys a v m q hq with rfl | hq
        · show k < a; omega
        · exact hk q hq

/-- A removal keeps the canonical form. -/
theorem swf_sdel {d : Nat → α} {m : List (Nat × α)} (hm : swf d m = true) (a : Nat) : swf d (sdel a m) = true := by
  induction m with
  | nil => rfl
  | cons p m ih =>
    obtain ⟨k, w⟩ := p
    simp only [swf, Bool.and_eq_true, decide_eq_true_eq, List.all_eq_true] at hm
    obtain ⟨⟨hw, hk⟩, hr⟩ := hm
    have ih := ih hr
    unfold sdel at ih ⊢
    by_cases h : k = a
    · simpa [List.filter, h] using ih
    · simp only [List.filter, h, ne_eq, not_false_eq_true, decide_true, swf, Bool.and_eq_true, decide_eq_true_eq,
        List.all_eq_true, List.mem_filter]
      exact ⟨⟨hw, fun q hq => hk q hq.1⟩, ih⟩

/-- A write keeps the canonical form. -/
theorem swf_sset {d : Nat → α} {m : List (Nat × α)} (hm : swf d m = true) (a : Nat) (v : α) :
    swf d (sset (d a) m a v) = true := by
  unfold sset
  split
  · exact swf_sdel hm a
  · rename_i h; exact swf_sins hm h

end

end Sys2Proof.Machine
end

