-- ==== Sys2Proof/Laws/Ops.lean ====
section
/-! SUPPORT. Laws of the named operations: bit fields, register words and fields after a write, counters, what a read of a
register depends on, how a meaning becomes an outcome, and the canonical form of the register store. -/

namespace Sys2Proof

/-! Bit fields (R3). -/

/-- A field written is read back. -/
theorem bitsOf_setBits_same (v lo w x : Nat) : bitsOf (setBits v lo w x) lo w = x % 2 ^ w := by
  unfold bitsOf setBits
  have h1 : v % 2 ^ lo < 2 ^ lo := Nat.mod_lt _ (by positivity)
  have e : v % 2 ^ lo + x % 2 ^ w * 2 ^ lo + v / 2 ^ (lo + w) * 2 ^ (lo + w)
      = v % 2 ^ lo + 2 ^ lo * (x % 2 ^ w + 2 ^ w * (v / 2 ^ (lo + w))) := by
    rw [pow_add]; ring
  rw [e, Nat.add_mul_div_left _ _ (by positivity), Nat.div_eq_of_lt h1, Nat.zero_add, Nat.add_mul_mod_self_left,
    Nat.mod_mod]

/-- A field below the one written is unchanged. -/
theorem bitsOf_setBits_below (v lo w x lo' w' : Nat) (h : lo' + w' ≤ lo) :
    bitsOf (setBits v lo w x) lo' w' = bitsOf v lo' w' := by
  obtain ⟨k, rfl⟩ := Nat.exists_eq_add_of_le h
  unfold bitsOf setBits
  have e : v % 2 ^ (lo' + w' + k) + x % 2 ^ w * 2 ^ (lo' + w' + k) + v / 2 ^ (lo' + w' + k + w) * 2 ^ (lo' + w' + k + w)
      = v % 2 ^ (lo' + w' + k) + 2 ^ lo' * (2 ^ w' * (2 ^ k * (x % 2 ^ w + 2 ^ w * (v / 2 ^ (lo' + w' + k + w))))) := by
    rw [pow_add, pow_add, pow_add]; ring
  rw [e, Nat.add_mul_div_left _ _ (by positivity), Nat.add_mul_mod_self_left]
  have hv : v = v % 2 ^ (lo' + w' + k) + 2 ^ lo' * (2 ^ w' * (2 ^ k * (v / 2 ^ (lo' + w' + k)))) := by
    have e2 : 2 ^ lo' * (2 ^ w' * (2 ^ k * (v / 2 ^ (lo' + w' + k)))) = 2 ^ (lo' + w' + k) * (v / 2 ^ (lo' + w' + k)) := by
      rw [pow_add, pow_add]; ring
    rw [e2, Nat.mod_add_div]
  conv_rhs => rw [hv, Nat.add_mul_div_left _ _ (by positivity), Nat.add_mul_mod_self_left]

/-- A field above the one written is unchanged. -/
theorem bitsOf_setBits_above (v lo w x lo' w' : Nat) (h : lo + w ≤ lo') :
    bitsOf (setBits v lo w x) lo' w' = bitsOf v lo' w' := by
  obtain ⟨k, rfl⟩ := Nat.exists_eq_add_of_le h
  unfold bitsOf setBits
  have hlt : v % 2 ^ lo + x % 2 ^ w * 2 ^ lo < 2 ^ (lo + w) := by
    have h1 : v % 2 ^ lo < 2 ^ lo := Nat.mod_lt _ (by positivity)
    have h2 : x % 2 ^ w + 1 ≤ 2 ^ w := Nat.mod_lt _ (by positivity)
    calc v % 2 ^ lo + x % 2 ^ w * 2 ^ lo < 2 ^ lo + x % 2 ^ w * 2 ^ lo := by omega
      _ = (x % 2 ^ w + 1) * 2 ^ lo := by ring
      _ ≤ 2 ^ w * 2 ^ lo := Nat.mul_le_mul_right _ h2
      _ = 2 ^ (lo + w) := by rw [pow_add]; ring
  have e : (v % 2 ^ lo + x % 2 ^ w * 2 ^ lo + v / 2 ^ (lo + w) * 2 ^ (lo + w)) / 2 ^ (lo + w) = v / 2 ^ (lo + w) := by
    rw [Nat.mul_comm (v / 2 ^ (lo + w)), Nat.add_mul_div_left _ _ (by positivity), Nat.div_eq_of_lt hlt, Nat.zero_add]
  rw [pow_add 2 (lo + w) k, ← Nat.div_div_eq_div_mul, ← Nat.div_div_eq_div_mul, e]

/-- The low 32 bits keep a field that lies within them. -/
theorem bitsOf_mod_word (v lo w : Nat) (h : lo + w ≤ 32) : bitsOf (v % 2 ^ 32) lo w = bitsOf v lo w := by
  unfold bitsOf
  obtain ⟨k, hk⟩ := Nat.exists_eq_add_of_le h
  rw [hk, pow_add, pow_add, Nat.mul_assoc, Nat.mod_mul_right_div_self, Nat.mod_mul_right_mod]

end Sys2Proof

namespace Sys2Proof.Machine

/-! Registers. -/

/-- A read after a write of any register. -/
theorem State.rd_wr (s : State) (a v b : Nat) : (s.wr a v).rd b = if b = a then v % 2 ^ 32 else s.rd b := by
  unfold State.rd State.wr
  by_cases h : b = a
  · subst h; simp [sget_sset_same, BitVec.toNat_ofNat]
  · simp only [h, if_false]; rw [sget_sset_other _ _ _ h]

/-- A word written is read back. -/
theorem State.rd_wr_same (s : State) (a v : Nat) : (s.wr a v).rd a = v % 2 ^ 32 := by simp [State.rd_wr]

/-- A write leaves every other register alone. -/
theorem State.rd_wr_other (s : State) (a v b : Nat) (h : b ≠ a) : (s.wr a v).rd b = s.rd b := by simp [State.rd_wr, h]

/-- A register holds 32 bits. -/
theorem State.rd_lt (s : State) (a : Nat) : s.rd a < 2 ^ 32 := BitVec.isLt _

/-- Reads depend on the register words alone. -/
theorem State.rd_congr {s t : State} (h : t.regs = s.regs) (a : Nat) : t.rd a = s.rd a := by unfold State.rd; rw [h]

/-- Fields depend on the register words alone. -/
theorem State.get_congr {s t : State} (h : t.regs = s.regs) (f : Fld) : t.get f = s.get f := by
  unfold State.get; rw [State.rd_congr h]

/-- A field write leaves every other register alone. -/
theorem State.rd_put_other (s : State) (f : Fld) (v a : Nat) (h : a ≠ f.reg) : (s.put f v).rd a = s.rd a :=
  State.rd_wr_other _ _ _ _ h

/-- A field written is read back. -/
theorem State.get_put_same (s : State) (f : Fld) (v : Nat) (h : f.lo + f.w ≤ 32) : (s.put f v).get f = v % 2 ^ f.w := by
  unfold State.get State.put
  rw [State.rd_wr_same, bitsOf_mod_word _ _ _ h, bitsOf_setBits_same]

/-- A field write leaves the fields of other registers alone. -/
theorem State.get_put_other (s : State) (f g : Fld) (v : Nat) (h : g.reg ≠ f.reg) : (s.put f v).get g = s.get g := by
  unfold State.get; rw [State.rd_put_other _ _ _ _ h]

/-- A field write leaves the other fields of its register alone. -/
theorem State.get_put_apart (s : State) (f g : Fld) (v : Nat) (h : g.lo + g.w ≤ f.lo ∨ f.lo + f.w ≤ g.lo)
    (hg : g.lo + g.w ≤ 32) : (s.put f v).get g = s.get g := by
  by_cases hr : g.reg = f.reg
  · unfold State.get State.put
    rw [hr, State.rd_wr_same, bitsOf_mod_word _ _ _ hg]
    rcases h with h | h
    · exact bitsOf_setBits_below _ _ _ _ _ _ h
    · exact bitsOf_setBits_above _ _ _ _ _ _ h
  · exact State.get_put_other _ _ _ _ hr

/-- A word write leaves the fields of other registers alone. -/
theorem State.get_wr_other (s : State) (a v : Nat) (g : Fld) (h : g.reg ≠ a) : (s.wr a v).get g = s.get g := by
  unfold State.get; rw [State.rd_wr_other _ _ _ _ h]

/-- A field after a write of its whole register. -/
theorem State.get_wr_same (s : State) (v : Nat) (g : Fld) (hg : g.lo + g.w ≤ 32) :
    (s.wr g.reg v).get g = bitsOf v g.lo g.w := by
  unfold State.get; rw [State.rd_wr_same, bitsOf_mod_word _ _ _ hg]

/-- A saturating counter that rises. -/
theorem State.rd_incBy (s : State) (a n b : Nat) :
    (s.incBy a n).rd b = if b = a then min (s.rd a + n) 0xFFFFFFFF else s.rd b := by
  unfold State.incBy
  rw [State.rd_wr]
  split
  · exact Nat.mod_eq_of_lt (by omega)
  · rfl

/-- A counter that rises leaves the fields of other registers alone. -/
theorem State.get_incBy (s : State) (a n : Nat) (g : Fld) (h : g.reg ≠ a) : (s.incBy a n).get g = s.get g :=
  State.get_wr_other _ _ _ _ h

/-! Reads of a state written as a record. -/

/-- The register word at an offset of a register store. -/
def rdOf (r : List (Nat × Word)) (a : Nat) : Nat := (sget (resetWord a) r a).toNat

/-- A field of a register store. -/
def getOf (r : List (Nat × Word)) (f : Fld) : Nat := bitsOf (rdOf r f.reg) f.lo f.w

@[simp] theorem rdOf_regs (s : State) (a : Nat) : rdOf s.regs a = s.rd a := Eq.trans rfl rfl
@[simp] theorem getOf_regs (s : State) (f : Fld) : getOf s.regs f = s.get f := Eq.trans rfl rfl
@[simp] theorem State.rd_mk (r x1 x2 x3 x4 x5 x6 x7 x8 x9 x10 x11 x12 x13 x14 x15 x16 x17 x18 x19 x20 x21 x22 x23 x24 x25 x26 x27 x28 x29 a) :
    (State.mk r x1 x2 x3 x4 x5 x6 x7 x8 x9 x10 x11 x12 x13 x14 x15 x16 x17 x18 x19 x20 x21 x22 x23 x24 x25 x26 x27 x28 x29).rd a = rdOf r a := Eq.trans rfl rfl
@[simp] theorem State.get_mk (r x1 x2 x3 x4 x5 x6 x7 x8 x9 x10 x11 x12 x13 x14 x15 x16 x17 x18 x19 x20 x21 x22 x23 x24 x25 x26 x27 x28 x29 f) :
    (State.mk r x1 x2 x3 x4 x5 x6 x7 x8 x9 x10 x11 x12 x13 x14 x15 x16 x17 x18 x19 x20 x21 x22 x23 x24 x25 x26 x27 x28 x29).get f = getOf r f := Eq.trans rfl rfl

/-! Shorthands are their one operation. -/

@[simp] theorem State.inc_eq (s : State) (a : Nat) : s.inc a = s.incBy a 1 := Eq.trans rfl rfl
@[simp] theorem State.flag_eq (s : State) (f : Fld) : s.flag f = s.put f 1 := Eq.trans rfl rfl
@[simp] theorem State.unflag_eq (s : State) (f : Fld) : s.unflag f = s.put f 0 := Eq.trans rfl rfl
@[simp] theorem State.flagIf_eq (s : State) (f : Fld) (b : Bool) : s.flagIf f b = s.put f (b2n b) := Eq.trans rfl rfl

/-! The canonical form of the register store. -/

/-- A register write keeps the canonical form. -/
theorem State.wr_swf (s : State) (a v : Nat) (h : swf resetWord s.regs = true) : swf resetWord (s.wr a v).regs = true :=
  swf_sset h a _

/-- A field write keeps the canonical form. -/
theorem State.put_swf (s : State) (f : Fld) (v : Nat) (h : swf resetWord s.regs = true) :
    swf resetWord (s.put f v).regs = true := State.wr_swf _ _ _ h

/-- A vault write keeps the canonical form. -/
theorem State.setVword_swf (s : State) (w v : Nat) (h : swf (fun _ => 0) s.vault.mem = true) :
    swf (fun _ => 0) (s.setVword w v).vault.mem = true := swf_sset (d := fun _ => 0) h w v

/-- The registers at reset are in canonical form. -/
theorem State.reset_swf : swf resetWord State.reset.regs = true := by decide

/-- The vault at reset is in canonical form. -/
theorem State.reset_vault_swf : swf (fun _ => 0) State.reset.vault.mem = true := by decide

/-! Outcomes (R19, R22, R443). -/

/-- Everything that `finishAny` can do: a next state with the queue and the role kept, the run state moved along an edge of R19 or
kept, and the READY ball following it; every other field is the effect's. -/
theorem finishAny_spec (s t : State) :
    ∃ r, (r = t.sys.run ∧ RunState.allowed s.sys.run t.sys.run = true ∨
        r = s.sys.run ∧ RunState.allowed s.sys.run t.sys.run = false) ∧
      finishAny s t = .next { t with
        pending := s.pending, sys := { t.sys with role := s.sys.role, run := r, readyBall := r.isReady } } := by
  unfold finishAny
  by_cases h : RunState.allowed s.sys.run t.sys.run = true
  · exact ⟨t.sys.run, Or.inl ⟨rfl, h⟩, by simp [h]⟩
  · exact ⟨s.sys.run, Or.inr ⟨rfl, by simpa using h⟩, by simp [h]⟩

/-- Out of RESET, a command ends as `finishAny` says. -/
theorem finish_awake {s : State} (t : State) (h : s.sys.run ≠ .reset) : finish s t = finishAny s t := by simp [finish, h]

/-- In RESET, a command does nothing. -/
theorem finish_reset {s : State} (t : State) (h : s.sys.run = .reset) : finish s t = .next s := by simp [finish, h]

/-- A sound READY ball is the one that `finishAny` drives. -/
theorem readyBall_eq {s : State} (h : readySound s) : s.sys.readyBall = s.sys.run.isReady := by
  unfold readySound at h
  rw [Bool.eq_iff_iff, h]
  cases s.sys.run <;> simp [RunState.isReady]

/-- A command of an awake die whose effect leaves run state, role, ball and queue alone ends in that effect. -/
theorem finish_eq {s t : State} (h : Awake s) (hs : t.sys = s.sys) (hp : t.pending = s.pending) : finish s t = .next t := by
  have ha : RunState.allowed s.sys.run s.sys.run = true := by cases s.sys.run <;> rfl
  have hb := readyBall_eq h.2
  simp only [finish, h.1, if_false, finishAny, hs, ha, if_true, ← hp, ← hb]
  rw [← hs]

/-- A command of an awake die whose effect leaves the queue alone and its run state, role and ball as they were. -/
theorem finish_eq' {s t : State} (h : Awake s) (hr : t.sys.run = s.sys.run) (hl : t.sys.role = s.sys.role)
    (hb : t.sys.readyBall = s.sys.readyBall) (hp : t.pending = s.pending) : finish s t = .next t := by
  have ha : RunState.allowed s.sys.run s.sys.run = true := by cases s.sys.run <;> rfl
  have hb' := readyBall_eq h.2
  simp only [finish, h.1, if_false, finishAny, hr, ha, if_true, ← hp, ← hl, ← hb', ← hb]
  simp [← hr]

/-- A reset command whose effect leaves the queue alone ends in that effect. -/
theorem finishReset_eq {s t : State} (hp : t.pending = s.pending) : finishReset s t = .next t := by
  unfold finishReset; rw [← hp]

/-- A command whose effect leaves the run state alone. -/
theorem finish_stays {s t : State} (h : s.sys.run ≠ .reset) (hr : t.sys.run = s.sys.run) (hp : t.pending = s.pending)
    (hl : t.sys.role = s.sys.role) :
    finish s t = .next { t with sys := { t.sys with readyBall := s.sys.run.isReady } } := by
  have ha : RunState.allowed s.sys.run s.sys.run = true := by cases s.sys.run <;> rfl
  simp only [finish, h, if_false, finishAny, hr, ha, if_true]
  rw [← hp, ← hl, ← hr]

end Sys2Proof.Machine
end

