-- ==== Sys2Proof/Laws/Events.lean ====
section
/-! SUPPORT. What a passage of time, an event at a later moment and an accepted register write do, said once each. -/

namespace Sys2Proof.Machine

/-! Time that passes. -/

/-- The end of a quiet window changes registers, the pair calibration engine and the vault's quiet work. -/
theorem State.closeQuiet_frame (s : State) :
    s.closeQuiet = { s with regs := s.closeQuiet.regs, vtdc := s.closeQuiet.vtdc, vault := s.closeQuiet.vault } := by
  simp only [State.closeQuiet, State.stopQuietWork, State.stopPairs, State.put, State.wr]; (repeat' split) <;> rfl

/-- Of the registers, the end of a quiet window changes QUIET alone. -/
theorem State.closeQuiet_regs (s : State) : s.closeQuiet.regs = (s.put F.ORB_STATUS_QUIET 0).regs := by
  simp only [State.closeQuiet, State.stopQuietWork, State.stopPairs]; (repeat' split) <;> rfl

/-- Time changes the times, WALL and, with BUSY on, one counter. -/
theorem State.pass_frame (s : State) (n : Nat) :
    s.pass n = { s with regs := (s.pass n).regs, time := (s.pass n).time, wall := (s.pass n).wall } := by
  simp only [State.pass, State.setWall, State.incBy, State.wr]; split <;> rfl

/-- Time that passes changes the times, WALL, with BUSY on one counter, and what the end of a quiet window changes. -/
theorem State.elapse_frame (s : State) (n : Nat) :
    s.elapse n = { s with
      regs := (s.elapse n).regs, time := (s.elapse n).time, wall := (s.elapse n).wall
      vtdc := (s.elapse n).vtdc, vault := (s.elapse n).vault } := by
  simp only [State.elapse]
  split
  · split
    · rw [State.closeQuiet_frame, State.pass_frame]
    · rw [State.pass_frame]
  · rfl

/-- Time that passes changes no register but the BUSY slots and the orbit's status. -/
theorem State.elapse_rd (s : State) (n a : Nat) (h : a ≠ Reg.TRG_BUSY_SLOTS) (h' : a ≠ Reg.ORB_STATUS) : (s.elapse n).rd a = s.rd a := by
  have e : (s.pass n).rd a = s.rd a := by
    simp only [State.pass]; split <;> simp [State.rd_incBy, h]
  simp only [State.elapse]
  split
  · split
    · rw [State.rd_congr (State.closeQuiet_regs _), State.rd_put_other _ _ _ _ (by simpa using h'), e]
    · exact e
  · rfl

/-- Time that passes changes no field of a register but the BUSY slots and the orbit's status. -/
theorem State.elapse_get (s : State) (n : Nat) (f : Fld) (h : f.reg ≠ Reg.TRG_BUSY_SLOTS) (h' : f.reg ≠ Reg.ORB_STATUS) :
    (s.elapse n).get f = s.get f := by
  simp only [State.get, State.elapse_rd s n f.reg h h']

/-- Fields that time leaves alone. -/
@[simp] theorem State.elapse_sys (s : State) (n : Nat) : (s.elapse n).sys = s.sys := by rw [State.elapse_frame]
@[simp] theorem State.elapse_phase (s : State) (n : Nat) : (s.elapse n).phase = s.phase := by rw [State.elapse_frame]
@[simp] theorem State.elapse_fe (s : State) (n : Nat) : (s.elapse n).fe = s.fe := by rw [State.elapse_frame]
@[simp] theorem State.elapse_tiu (s : State) (n : Nat) : (s.elapse n).tiu = s.tiu := by rw [State.elapse_frame]
@[simp] theorem State.elapse_tiles (s : State) (n : Nat) : (s.elapse n).tiles = s.tiles := by rw [State.elapse_frame]
@[simp] theorem State.elapse_asm (s : State) (n : Nat) : (s.elapse n).asm = s.asm := by rw [State.elapse_frame]
@[simp] theorem State.elapse_arbs (s : State) (n : Nat) : (s.elapse n).arbs = s.arbs := by rw [State.elapse_frame]
@[simp] theorem State.elapse_trg (s : State) (n : Nat) : (s.elapse n).trg = s.trg := by rw [State.elapse_frame]
@[simp] theorem State.elapse_buf (s : State) (n : Nat) : (s.elapse n).buf = s.buf := by rw [State.elapse_frame]
@[simp] theorem State.elapse_facet (s : State) (n : Nat) : (s.elapse n).facet = s.facet := by rw [State.elapse_frame]
@[simp] theorem State.elapse_lanes (s : State) (n : Nat) : (s.elapse n).lanes = s.lanes := by rw [State.elapse_frame]
@[simp] theorem State.elapse_ports (s : State) (n : Nat) : (s.elapse n).ports = s.ports := by rw [State.elapse_frame]
@[simp] theorem State.elapse_tally (s : State) (n : Nat) : (s.elapse n).tally = s.tally := by rw [State.elapse_frame]
@[simp] theorem State.elapse_tree (s : State) (n : Nat) : (s.elapse n).tree = s.tree := by rw [State.elapse_frame]
@[simp] theorem State.elapse_clasp (s : State) (n : Nat) : (s.elapse n).clasp = s.clasp := by rw [State.elapse_frame]
@[simp] theorem State.elapse_hall (s : State) (n : Nat) : (s.elapse n).hall = s.hall := by rw [State.elapse_frame]
@[simp] theorem State.elapse_mon (s : State) (n : Nat) : (s.elapse n).mon = s.mon := by rw [State.elapse_frame]
@[simp] theorem State.elapse_hif (s : State) (n : Nat) : (s.elapse n).hif = s.hif := by rw [State.elapse_frame]
@[simp] theorem State.elapse_bus (s : State) (n : Nat) : (s.elapse n).bus = s.bus := by rw [State.elapse_frame]
@[simp] theorem State.elapse_tap (s : State) (n : Nat) : (s.elapse n).tap = s.tap := by rw [State.elapse_frame]
@[simp] theorem State.elapse_fault (s : State) (n : Nat) : (s.elapse n).fault = s.fault := by rw [State.elapse_frame]
@[simp] theorem State.elapse_fuse (s : State) (n : Nat) : (s.elapse n).fuse = s.fuse := by rw [State.elapse_frame]
@[simp] theorem State.elapse_out (s : State) (n : Nat) : (s.elapse n).out = s.out := by rw [State.elapse_frame]
@[simp] theorem State.elapse_free (s : State) (n : Nat) : (s.elapse n).free = s.free := by rw [State.elapse_frame]
@[simp] theorem State.elapse_pending (s : State) (n : Nat) : (s.elapse n).pending = s.pending := by rw [State.elapse_frame]

/-! Events at a later moment. -/

/-- An event at an F-cycle of this orbit acts on the die as it is then. -/
theorem State.reach_at {s u : State} {slot f : Nat} (h : s.atCycle slot f = some u) (k : State → State) : s.reach slot f k = k u := by
  unfold State.atCycle at h; unfold State.reach
  cases e : s.until? slot f with
  | none => simp [e] at h
  | some n => simp [e] at h; simp [h]

/-- A calendar entry that is due acts on the die at its slot. -/
theorem State.calFire_at {s u : State} {i act : Nat} (h : s.atEntry i = some u) (hd : s.calDue i act = true) (ok : State → Bool)
    (k : Nat → State → State) :
    s.calFire i act ok k = if ok u then k (calArg (s.calWord i)) (u.calMark i) else u := by
  unfold State.atEntry at h; unfold State.calFire
  simp only [hd, if_true]
  split at h
  · next e => simp only [e, and_self, if_true]; cases h; rfl
  · next e => simp only [e, if_false]; exact State.reach_at h _

/-- An event at an F-cycle since reset acts on the die as it is then. -/
theorem State.reachF_at {s u : State} {t : Nat} (h : s.atF t = some u) (k : State → State) : s.reachF t k = k u := by
  unfold State.atF at h; unfold State.reachF
  split at h
  · simp_all
  · split at h <;> simp_all

/-- An event at a slot since reset acts on the die as it is then. -/
theorem State.reachSlot_at {s u : State} {t : Nat} (h : s.atSlot t = some u) (k : State → State) : s.reachSlot t k = k u := by
  unfold State.atSlot at h; unfold State.reachSlot
  split at h
  · simp_all
  · split at h <;> simp_all

/-- The die at a later F-cycle has only had time pass. -/
theorem State.atCycle_elapse {s u : State} {slot f : Nat} (h : s.atCycle slot f = some u) : ∃ n, u = s.elapse n := by
  unfold State.atCycle at h
  cases e : s.until? slot f with
  | none => simp [e] at h
  | some n => exact ⟨n, by simpa [e] using h.symm⟩

/-- No time that passes changes nothing but how WALL is held within its modulus; so nothing happens before its moment. -/
theorem State.atF_elapse {s u : State} {t : Nat} (h : s.atF t = some u) : u = s ∨ ∃ n, u = s.elapse n := by
  unfold State.atF at h
  split at h
  · exact .inl (by simpa using h.symm)
  · split at h
    · exact .inr ⟨_, by simpa using h.symm⟩
    · cases h

/-- The die at a later slot has only had time pass. -/
theorem State.atSlot_elapse {s u : State} {t : Nat} (h : s.atSlot t = some u) : u = s ∨ ∃ n, u = s.elapse n := by
  unfold State.atSlot at h
  split at h
  · exact .inl (by simpa using h.symm)
  · split at h
    · exact .inr ⟨_, by simpa using h.symm⟩
    · cases h

/-- The die at a later moment runs and answers as now. -/
theorem State.atCycle_sys {s u : State} {slot f : Nat} (h : s.atCycle slot f = some u) : u.sys = s.sys ∧ u.pending = s.pending := by
  obtain ⟨n, rfl⟩ := State.atCycle_elapse h; simp
theorem State.atF_sys {s u : State} {t : Nat} (h : s.atF t = some u) : u.sys = s.sys ∧ u.pending = s.pending := by
  obtain rfl | ⟨n, rfl⟩ := State.atF_elapse h <;> simp
theorem State.atSlot_sys {s u : State} {t : Nat} (h : s.atSlot t = some u) : u.sys = s.sys ∧ u.pending = s.pending := by
  obtain rfl | ⟨n, rfl⟩ := State.atSlot_elapse h <;> simp

/-- A command whose effect keeps the run state of a die at a later moment answers it. -/
theorem finish_at {s u t : State} (ha : Awake s) (hu : u.sys = s.sys ∧ u.pending = s.pending) (hs : t.sys = u.sys)
    (hp : t.pending = u.pending) : finish s t = .next t := finish_eq ha (hs.trans hu.1) (hp.trans hu.2)

/-! Register writes. -/

/-- A write by a command to a register of one word, in a run state and with a value that nothing refuses, is applied. -/
theorem State.write_taken (s : State) (bar : Bool) (a v : Nat) (h : Hit) (hf : findReg a = some h) (hv : inVault a = false)
    (h4 : a % 4 = 0) (hr : s.sys.run.isReady = true) (hl : (decide (h.blk = .hall) && decide (h.row.off = 4)) = false)
    (hp : h.row.cls ≠ .prot) (ho : h.row.cls ≠ .ro) (hh : h.held = false)
    (hx : (decide (h.blk = .ring) && decide (h.row.off = 0x10008)) = false)
    (hc : (s.classOf h a (s.newWord h a (v % 2 ^ 32))).accepts s.sys.run = true) (hg : s.gate a = none)
    (hm : s.conflict h a (v % 2 ^ 32) (s.newWord h a (v % 2 ^ 32)) = none) :
    s.write bar a v = ({ s with bus := { s.bus with held := s.bus.held.filter (fun p => !decide (a = p.1)) } }).applyWord h a
      (v % 2 ^ 32) := by
  have hn : s.sys.run ≠ .reset ∧ s.sys.run ≠ .init ∧ s.sys.run ≠ .safe := by
    revert hr; cases s.sys.run <;> simp [RunState.isReady]
  have hx' : ¬(h.blk = .ring ∧ h.row.off = 0x10008 ∧ bitsOf (v % 2 ^ 32) 31 1 = 1 ∧ s.get F.HIF_FEAT_STATUS_STATE ≠ 1) := by
    rintro ⟨a, b, -⟩; simp [a, b] at hx
  have e : s.busWrite a v = (ansOk, s.takeWrite h a (v % 2 ^ 32)) := by
    simp only [State.busWrite, hn.1, hn.2.1, hn.2.2, hv, h4, if_false, or_self, Bool.false_eq_true, ne_eq, not_true_eq_false]
    simp only [State.regWrite, hf, hl, hp, ho, hc, hg, hm, hx', decide_false, Bool.false_and, Bool.or_false, Bool.and_false, Bool.false_eq_true,
      if_false, Bool.not_true]
  simp only [State.write, e, ansOk, ne_eq, not_true_eq_false, and_false, if_false]
  simp [State.takeWrite, hh, State.heldWords, hf]
end Sys2Proof.Machine
end

