-- ==== Sys2Proof/WellFormed.lean ====
section
/-! DEFINITION. Which operand values a command of the table may carry. A command outside them still has the effect its meaning gives. -/

namespace Sys2Proof

/-- Pairs of a calibration lie in the pair numbers (R452). -/
def CalSet.wf (c : CalSet) : Bool := c.excs.all (fun e => decide (e.pair < 32776))

/-- The operands lie in their ranges. -/
def Instr.wf : Instr → Bool
  | .powerOnReset => true
  | .rstNAssert => true
  | .perstNAssert straps => decide (straps < 4)
  | .resetDeassert straps _ => decide (straps < 4)
  | .fuseLoadDone _ => true
  | .memoryInitDone _ _ _ _ _ => true
  | .pllLock _ => true
  | .noReferenceTimeout => true
  | .selfCalibrationDone _ c _ _ => c.wf
  | .permanentFault code => decide (1 ≤ code ∧ code ≤ 5)
  | .serialSupplyChange _ => true
  | .arm _ => true
  | .disarm _ => true
  | .stop _ => true
  | .stopOrbitEnd => true
  | .holdLimitExpire => true
  | .orbitStart _ _ _ => true
  | .orbitMarkerSampled _ => true
  | .bclkLost => true
  | .bclkReturn => true
  | .orbClkWrite _ v => decide (v < 2 ^ 32)
  | .orbLenWrite _ v => decide (v < 2 ^ 32)
  | .markerBlockReceived p _ _ => decide (p < 16)
  | .shaftMarkerTimeout => true
  | .calRunStart entry => decide (entry < 64)
  | .quietBegin entry => decide (entry < 64)
  | .quietEnd entry => decide (entry < 64)
  | .calInject entry => decide (entry < 64)
  | .calCounterReset entry => decide (entry < 64)
  | .calVtdc entry => decide (entry < 64)
  | .calMon entry => decide (entry < 64)
  | .calScrubBurst entry => decide (entry < 64)
  | .calDump entry => decide (entry < 64)
  | .calClaspDigest entry => decide (entry < 64)
  | .calScopeTrigger entry => decide (entry < 64)
  | .exchangeStart p _ _ => decide (p < 16)
  | .probeReceived p seq _ _ _ _ => decide (p < 16) && decide (seq < 256)
  | .reply2Received p seq _ => decide (p < 16) && decide (seq < 256)
  | .reply3Received p seq _ _ _ => decide (p < 16) && decide (seq < 256)
  | .probeTimeout p seq => decide (p < 16) && decide (seq < 256)
  | .ppsEdge _ => true
  | .wallSrcLost => true
  | .ptmRequest => true
  | .ptmResponse _ _ => true
  | .wallSetNow _ => true
  | .wallSetAtPps _ => true
  | .orbSlotRead => true
  | .wallNsRead => true
  | .feCtrlWrite _ v => decide (v < 2 ^ 32)
  | .feSettled c => c.wf
  | .feThrOfsWrite _ v => decide (v < 2 ^ 32)
  | .thrOfsApply => true
  | .feChWrite _ n v => decide (n < 16384) && decide (v < 2 ^ 32)
  | .leadingEdge n ls lf e => decide (n < 16384) && decide (ls < 16384) && decide (lf < 64) && decide (e.cnt < 512)
  | .trailingEdge n ts e => decide (n < 16384) && decide (ts < 16384) && decide (e.tq < 256)
  | .holdoffEnd n => decide (n < 16384)
  | .overRange n => decide (n < 16384)
  | .blindEnd n => decide (n < 16384)
  | .injectionWindowClose => true
  | .channelRetire n => decide (n < 16384)
  | .channelSettled n => decide (n < 16384)
  | .pairIdle ix => decide (ix < 32776)
  | .conversionDone n => decide (n < 16384)
  | .totTimeout n => decide (n < 16384)
  | .conversionOverrun ix => decide (ix < 32776)
  | .vtdcCalStart p => decide (p < 32776)
  | .vtdcCalDone p _ _ => decide (p < 32776)
  | .bulkPassResume p => decide (p < 32776)
  | .bulkPassEnd _ => true
  | .vtdcPselWrite _ v => decide (v < 2 ^ 32)
  | .tiuStart _ => true
  | .tiuAbort _ => true
  | .utilEdge k ls lf e => decide (k < 4) && decide (ls < 16384) && decide (lf < 64) && decide (e.cnt < 512)
  | .tiuIntervalTimeout => true
  | .entryExpire t => decide (t < 256)
  | .retrievalStart tag => decide (tag < 64)
  | .streamGroupIssue => true
  | .galleryWordArrive t => decide (t < 256)
  | .grantTimeout t => decide (t < 256)
  | .totalTimeout tag t => decide (tag < 64) && decide (t < 256)
  | .arbEvaluationPoint inst => decide (inst < 35)
  | .arbWindowEnd inst => decide (inst < 35)
  | .canaryBite inst => decide (inst < 35)
  | .trigInWord w => decide (w < 256)
  | .tokenRefill => true
  | .autoForcedAccept => true
  | .trgForce _ => true
  | .triggerMsgReceived p _ => decide (p < 16)
  | .triggerApply => true
  | .acceptIssue => true
  | .busyChange => true
  | .busyMsgReceived p _ => decide (p < 16)
  | .selfTriggerEval slot => decide (slot < 16384)
  | .specRelease slot => decide (slot < 16384)
  | .primMsgReceived p _ => decide (p < 16)
  | .primDeadline => true
  | .maskTestEval => true
  | .trgEvidence _ => true
  | .trgUnfreeze _ => true
  | .specResolve => true
  | .confirmReceived p _ => decide (p < 16)
  | .cancelReceived p _ => decide (p < 16)
  | .nackReceived p _ => decide (p < 16)
  | .specTtlExpire => true
  | .tallyDumpGo _ v => decide (v < 2 ^ 32)
  | .dumpRecordWrite => true
  | .scrubSlot => true
  | .vaultRepairCmd _ v => decide (v < 2 ^ 32)
  | .vaultRepairStart => true
  | .vaultRepairDone => true
  | .vaultWindowWrite _ _ n v => decide (n = 2 ∨ n = 4 ∨ n = 8) && decide (v < 2 ^ 64)
  | .bar2Read _ n => decide (n = 2 ∨ n = 8)
  | .facetCodingDone e => decide (e < 4)
  | .frameReceived p _ _ => decide (p < 16)
  | .rxStageAdmit p => decide (p < 16)
  | .blockLock l => decide (l < 16)
  | .blockLockLoss l _ => decide (l < 16)
  | .badControlBlock p => decide (p < 16)
  | .abortBlock p v _ => decide (p < 16) && decide (v < 3)
  | .suspendBlock p v => decide (p < 16) && decide (v < 3)
  | .resumeBlock p v => decide (p < 16) && decide (v < 3)
  | .alignReceived l _ _ _ => decide (l < 16)
  | .alignCadence p => decide (p < 16)
  | .creditBlock p v _ => decide (p < 16) && decide (v < 3)
  | .creditRefresh p => decide (p < 16)
  | .ackBlock p v seq => decide (p < 16) && decide (v < 3) && decide (seq < 2 ^ 16)
  | .nakBlock p v seq => decide (p < 16) && decide (v < 3) && decide (seq < 2 ^ 16)
  | .replayTimeout p v => decide (p < 16) && decide (v < 3)
  | .holdBlock p mask _ => decide (p < 16) && decide (mask < 2 ^ 16)
  | .sleepBlock p mask => decide (p < 16) && decide (mask < 2 ^ 16)
  | .portWidthWrite _ p v => decide (p < 16) && decide (v < 2 ^ 32)
  | .laneWakeReady p => decide (p < 16)
  | .eyeMeasure l _ _ => decide (l < 16)
  | .laneRetrainDone l _ => decide (l < 16)
  | .eqSlow l => decide (l < 16)
  | .eqFreeze l => decide (l < 16)
  | .portCfgWrite _ p v => decide (p < 16) && decide (v < 2 ^ 32)
  | .laneCtrlWrite _ l v => decide (l < 16) && decide (v < 2 ^ 32)
  | .trainAttemptTimeout l _ => decide (l < 16)
  | .portBaseDone p => decide (p < 16)
  | .trainSetReceived p _ => decide (p < 16)
  | .switchDone p => decide (p < 16)
  | .deskewDone p => decide (p < 16)
  | .loopRequest l => decide (l < 16)
  | .loopGrant l => decide (l < 16)
  | .loopRefuse l => decide (l < 16)
  | .loopEnd l => decide (l < 16)
  | .vc0MessageRoute p _ => decide (p < 16)
  | .newChild p src _ drift _ _ die _ => decide (p < 16) && decide (src < 1024) && decide (drift < 16) && decide (die < 1024)
  | .assign p dst src _ drift _ _ _ die _ => decide (p < 16) && decide (dst < 1024) && decide (src < 1024) && decide (drift < 16) && decide (die < 1024)
  | .refuse p drift _ => decide (p < 16) && decide (drift < 16)
  | .joined => true
  | .rehomed p _ => decide (p < 16)
  | .detach p _ => decide (p < 16)
  | .home p _ h => decide (p < 16) && decide (h.root < 1024) && decide (h.peer < 1024)
  | .cfgRdMsg p src _ _ => decide (p < 16) && decide (src < 1024)
  | .cfgWrMsg p src _ _ v => decide (p < 16) && decide (src < 1024) && decide (v < 2 ^ 32)
  | .cfgResp die _ _ _ _ => decide (die < 1024)
  | .treeDiscoverWrite _ v => decide (v < 2 ^ 32)
  | .treeRehome _ => true
  | .shaftSwitch => true
  | .witnessSend => true
  | .witnessReceived src _ _ _ => decide (src < 1024)
  | .witnessRoundClose => true
  | .pair src _ _ _ => decide (src < 1024)
  | .claspLinkUp => true
  | .claspLinkLost => true
  | .dig _ r ix _ _ _ _ => decide (r < 8192) && decide (ix < 65536)
  | .echo _ _ _ => true
  | .echoTimeout _ => true
  | .claspState _ _ => true
  | .stateMissing => true
  | .claspCheck => true
  | .selfCheckDone _ => true
  | .claspResult _ => true
  | .claspPromote _ => true
  | .claspOrphan => true
  | .claspChunkSend => true
  | .claspChunk _ _ _ => true
  | .claspCommit _ => true
  | .commitAck _ => true
  | .claspKey o _ _ _ => decide (o < 1024)
  | .flr => true
  | .featureCommit _ => true
  | .ringCfgWrite _ r v => decide (r < 8192) && decide (v < 2 ^ 32)
  | .hifNudge _ v => decide (v < 2 ^ 32)
  | .doorbellPoll => true
  | .doorbellReadDone _ _ => true
  | .nop _ => true
  | .cfgRd _ => true
  | .cfgWr _ => true
  | .cfgRdBlock _ => true
  | .readmit _ => true
  | .capsule r _ => decide (r < 8192)
  | .attest r _ => decide (r < 8192)
  | .logRead _ => true
  | .badOp r => decide (r < 8192)
  | .commandTimeout r ix => decide (r < 8192) && decide (ix < 65536)
  | .unitDeliver r => decide (r < 8192)
  | .ringDropTimeout r => decide (r < 8192)
  | .coalesceTimeout g => decide (g < 128)
  | .capChunk p src _ _ _ => decide (p < 16) && decide (src < 1024)
  | .capsuleApply => true
  | .claim => true
  | .digestDone => true
  | .attestReq p src _ _ => decide (p < 16) && decide (src < 1024)
  | .attestResp die _ _ => decide (die < 1024)
  | .hello p _ => decide (p < 16)
  | .proof p _ => decide (p < 16)
  | .finish p _ => decide (p < 16)
  | .fail p => decide (p < 16)
  | .authTimeout p => decide (p < 16)
  | .authRetry p => decide (p < 16)
  | .rekeyDue _ n => decide (n < 1024)
  | .hallCmdRekey _ => true
  | .oldKeyExpire p => decide (p < 16)
  | .e2eHello p o _ => decide (p < 16) && decide (o < 1024)
  | .e2eProof p o _ => decide (p < 16) && decide (o < 1024)
  | .e2eFinish p o _ => decide (p < 16) && decide (o < 1024)
  | .e2eFail p o => decide (p < 16) && decide (o < 1024)
  | .e2eRestart p => decide (p < 16)
  | .monConversionDone _ => true
  | .monGuardDone _ => true
  | .monPassStart => true
  | .monSeqStart _ => true
  | .monSeqStop _ => true
  | .monInjGo _ v => decide (v < 2 ^ 32)
  | .monExcWrite _ _ k v => decide (k < 32) && decide (v < 2 ^ 32)
  | .monModeWrite _ v => decide (v < 2 ^ 32)
  | .monCalNone _ v => decide (v < 2 ^ 32)
  | .intZero _ v => decide (v < 2 ^ 32)
  | .sysZero _ v => decide (v < 2 ^ 32)
  | .sysFull _ v => decide (v < 2 ^ 32)
  | .refCheck _ v => decide (v < 2 ^ 32)
  | .monCalRun => true
  | .monCalDone _ _ => true
  | .scopeArm _ => true
  | .scopeAbort _ => true
  | .scopeForce _ => true
  | .scopeSample _ => true
  | .scopeAutoTimeout => true
  | .scopeRecordWrite => true
  | .scopeRearm => true
  | .strikeDecay ty => decide (1 ≤ ty ∧ ty ≤ 9)
  | .faultPolicyWrite _ ty v => decide (1 ≤ ty ∧ ty ≤ 9) && decide (v < 2 ^ 32)
  | .alertRelease => true
  | .multiwordRead _ => true
  | .registerWrite _ _ v be => decide (v < 2 ^ 32) && decide (be < 16)
  | .arbRelease inst => decide (inst < 35)
  | .checkResultTimeout => true
  | .pcieConfigWrite _ => true
  | .tapOperation _ => true

end Sys2Proof
end

