-- ==== Sys2Proof/Laws/PerInstr.lean ====
section
/-! SUPPORT. Said of every command as syntax: a well-formed command names a port that the die has. -/

namespace Sys2Proof.Laws.WellFormed

/-- The port that a command names as its first operand. -/
def portOf : Instr → Option Nat
  | .markerBlockReceived p _ _ => some p
  | .exchangeStart p _ _ => some p
  | .probeReceived p _ _ _ _ _ => some p
  | .reply2Received p _ _ => some p
  | .reply3Received p _ _ _ _ => some p
  | .probeTimeout p _ => some p
  | .triggerMsgReceived p _ => some p
  | .busyMsgReceived p _ => some p
  | .primMsgReceived p _ => some p
  | .confirmReceived p _ => some p
  | .cancelReceived p _ => some p
  | .nackReceived p _ => some p
  | .frameReceived p _ _ => some p
  | .rxStageAdmit p => some p
  | .badControlBlock p => some p
  | .abortBlock p _ _ => some p
  | .suspendBlock p _ => some p
  | .resumeBlock p _ => some p
  | .alignCadence p => some p
  | .creditBlock p _ _ => some p
  | .creditRefresh p => some p
  | .ackBlock p _ _ => some p
  | .nakBlock p _ _ => some p
  | .replayTimeout p _ => some p
  | .holdBlock p _ _ => some p
  | .sleepBlock p _ => some p
  | .portWidthWrite _ p _ => some p
  | .laneWakeReady p => some p
  | .portCfgWrite _ p _ => some p
  | .portBaseDone p => some p
  | .trainSetReceived p _ => some p
  | .switchDone p => some p
  | .deskewDone p => some p
  | .vc0MessageRoute p _ => some p
  | .newChild p _ _ _ _ _ _ _ => some p
  | .assign p _ _ _ _ _ _ _ _ _ => some p
  | .refuse p _ _ => some p
  | .rehomed p _ => some p
  | .detach p _ => some p
  | .home p _ _ => some p
  | .cfgRdMsg p _ _ _ => some p
  | .cfgWrMsg p _ _ _ _ => some p
  | .capChunk p _ _ _ _ => some p
  | .attestReq p _ _ _ => some p
  | .hello p _ => some p
  | .proof p _ => some p
  | .finish p _ => some p
  | .fail p => some p
  | .authTimeout p => some p
  | .authRetry p => some p
  | .oldKeyExpire p => some p
  | .e2eHello p _ _ => some p
  | .e2eProof p _ _ => some p
  | .e2eFinish p _ _ => some p
  | .e2eFail p _ => some p
  | .e2eRestart p => some p
  | _ => none

/-- A well-formed command names one of the 16 ports (R283), where it names one. -/
def Statement (i : Instr) : Prop := i.wf = true → ∀ q, portOf i = some q → q < 16

/-- A port that stands first in a conjunction of checks. -/
theorem first0 {p q : Nat} (h : decide (p < 16) = true) (e : some p = some q) : q < 16 := Option.some.inj e ▸ of_decide_eq_true h
theorem first1 {p q : Nat} {a : Bool} (h : (decide (p < 16) && a) = true) (e : some p = some q) : q < 16 :=
  first0 (Bool.and_eq_true_iff.mp h).1 e
theorem first2 {p q : Nat} {a b : Bool} (h : (decide (p < 16) && a && b) = true) (e : some p = some q) : q < 16 :=
  first1 (Bool.and_eq_true_iff.mp h).1 e
theorem first3 {p q : Nat} {a b c : Bool} (h : (decide (p < 16) && a && b && c) = true) (e : some p = some q) : q < 16 :=
  first2 (Bool.and_eq_true_iff.mp h).1 e
theorem first4 {p q : Nat} {a b c d : Bool} (h : (decide (p < 16) && a && b && c && d) = true) (e : some p = some q) : q < 16 :=
  first3 (Bool.and_eq_true_iff.mp h).1 e

theorem perstNAssert a0 : Statement (.perstNAssert a0)  := fun _ _ e => nomatch e
theorem resetDeassert a0 a1 : Statement (.resetDeassert a0 a1)  := fun _ _ e => nomatch e
theorem fuseLoadDone a0 : Statement (.fuseLoadDone a0)  := fun _ _ e => nomatch e
theorem memoryInitDone a0 a1 a2 a3 a4 : Statement (.memoryInitDone a0 a1 a2 a3 a4)  := fun _ _ e => nomatch e
theorem pllLock a0 : Statement (.pllLock a0)  := fun _ _ e => nomatch e
theorem selfCalibrationDone a0 a1 a2 a3 : Statement (.selfCalibrationDone a0 a1 a2 a3)  := fun _ _ e => nomatch e
theorem permanentFault a0 : Statement (.permanentFault a0)  := fun _ _ e => nomatch e
theorem serialSupplyChange a0 : Statement (.serialSupplyChange a0)  := fun _ _ e => nomatch e
theorem arm a0 : Statement (.arm a0)  := fun _ _ e => nomatch e
theorem disarm a0 : Statement (.disarm a0)  := fun _ _ e => nomatch e
theorem stop a0 : Statement (.stop a0)  := fun _ _ e => nomatch e
theorem orbitStart a0 a1 a2 : Statement (.orbitStart a0 a1 a2)  := fun _ _ e => nomatch e
theorem orbitMarkerSampled a0 : Statement (.orbitMarkerSampled a0)  := fun _ _ e => nomatch e
theorem orbClkWrite a0 a1 : Statement (.orbClkWrite a0 a1)  := fun _ _ e => nomatch e
theorem orbLenWrite a0 a1 : Statement (.orbLenWrite a0 a1)  := fun _ _ e => nomatch e
theorem markerBlockReceived a0 a1 a2 : Statement (.markerBlockReceived a0 a1 a2)  := fun h _ e => first0 h e
theorem calRunStart a0 : Statement (.calRunStart a0)  := fun _ _ e => nomatch e
theorem quietBegin a0 : Statement (.quietBegin a0)  := fun _ _ e => nomatch e
theorem quietEnd a0 : Statement (.quietEnd a0)  := fun _ _ e => nomatch e
theorem calInject a0 : Statement (.calInject a0)  := fun _ _ e => nomatch e
theorem calCounterReset a0 : Statement (.calCounterReset a0)  := fun _ _ e => nomatch e
theorem calVtdc a0 : Statement (.calVtdc a0)  := fun _ _ e => nomatch e
theorem calMon a0 : Statement (.calMon a0)  := fun _ _ e => nomatch e
theorem calScrubBurst a0 : Statement (.calScrubBurst a0)  := fun _ _ e => nomatch e
theorem calDump a0 : Statement (.calDump a0)  := fun _ _ e => nomatch e
theorem calClaspDigest a0 : Statement (.calClaspDigest a0)  := fun _ _ e => nomatch e
theorem calScopeTrigger a0 : Statement (.calScopeTrigger a0)  := fun _ _ e => nomatch e
theorem exchangeStart a0 a1 a2 : Statement (.exchangeStart a0 a1 a2)  := fun h _ e => first0 h e
theorem probeReceived a0 a1 a2 a3 a4 a5 : Statement (.probeReceived a0 a1 a2 a3 a4 a5)  := fun h _ e => first1 h e
theorem reply2Received a0 a1 a2 : Statement (.reply2Received a0 a1 a2)  := fun h _ e => first1 h e
theorem reply3Received a0 a1 a2 a3 a4 : Statement (.reply3Received a0 a1 a2 a3 a4)  := fun h _ e => first1 h e
theorem probeTimeout a0 a1 : Statement (.probeTimeout a0 a1)  := fun h _ e => first1 h e
theorem ppsEdge a0 : Statement (.ppsEdge a0)  := fun _ _ e => nomatch e
theorem ptmResponse a0 a1 : Statement (.ptmResponse a0 a1)  := fun _ _ e => nomatch e
theorem wallSetNow a0 : Statement (.wallSetNow a0)  := fun _ _ e => nomatch e
theorem wallSetAtPps a0 : Statement (.wallSetAtPps a0)  := fun _ _ e => nomatch e
theorem feCtrlWrite a0 a1 : Statement (.feCtrlWrite a0 a1)  := fun _ _ e => nomatch e
theorem feSettled a0 : Statement (.feSettled a0)  := fun _ _ e => nomatch e
theorem feThrOfsWrite a0 a1 : Statement (.feThrOfsWrite a0 a1)  := fun _ _ e => nomatch e
theorem feChWrite a0 a1 a2 : Statement (.feChWrite a0 a1 a2)  := fun _ _ e => nomatch e
theorem leadingEdge a0 a1 a2 a3 : Statement (.leadingEdge a0 a1 a2 a3)  := fun _ _ e => nomatch e
theorem trailingEdge a0 a1 a2 : Statement (.trailingEdge a0 a1 a2)  := fun _ _ e => nomatch e
theorem holdoffEnd a0 : Statement (.holdoffEnd a0)  := fun _ _ e => nomatch e
theorem overRange a0 : Statement (.overRange a0)  := fun _ _ e => nomatch e
theorem blindEnd a0 : Statement (.blindEnd a0)  := fun _ _ e => nomatch e
theorem channelRetire a0 : Statement (.channelRetire a0)  := fun _ _ e => nomatch e
theorem channelSettled a0 : Statement (.channelSettled a0)  := fun _ _ e => nomatch e
theorem pairIdle a0 : Statement (.pairIdle a0)  := fun _ _ e => nomatch e
theorem conversionDone a0 : Statement (.conversionDone a0)  := fun _ _ e => nomatch e
theorem totTimeout a0 : Statement (.totTimeout a0)  := fun _ _ e => nomatch e
theorem conversionOverrun a0 : Statement (.conversionOverrun a0)  := fun _ _ e => nomatch e
theorem vtdcCalStart a0 : Statement (.vtdcCalStart a0)  := fun _ _ e => nomatch e
theorem vtdcCalDone a0 a1 a2 : Statement (.vtdcCalDone a0 a1 a2)  := fun _ _ e => nomatch e
theorem bulkPassResume a0 : Statement (.bulkPassResume a0)  := fun _ _ e => nomatch e
theorem bulkPassEnd a0 : Statement (.bulkPassEnd a0)  := fun _ _ e => nomatch e
theorem vtdcPselWrite a0 a1 : Statement (.vtdcPselWrite a0 a1)  := fun _ _ e => nomatch e
theorem tiuStart a0 : Statement (.tiuStart a0)  := fun _ _ e => nomatch e
theorem tiuAbort a0 : Statement (.tiuAbort a0)  := fun _ _ e => nomatch e
theorem utilEdge a0 a1 a2 a3 : Statement (.utilEdge a0 a1 a2 a3)  := fun _ _ e => nomatch e
theorem entryExpire a0 : Statement (.entryExpire a0)  := fun _ _ e => nomatch e
theorem retrievalStart a0 : Statement (.retrievalStart a0)  := fun _ _ e => nomatch e
theorem galleryWordArrive a0 : Statement (.galleryWordArrive a0)  := fun _ _ e => nomatch e
theorem grantTimeout a0 : Statement (.grantTimeout a0)  := fun _ _ e => nomatch e
theorem totalTimeout a0 a1 : Statement (.totalTimeout a0 a1)  := fun _ _ e => nomatch e
theorem arbEvaluationPoint a0 : Statement (.arbEvaluationPoint a0)  := fun _ _ e => nomatch e
theorem arbWindowEnd a0 : Statement (.arbWindowEnd a0)  := fun _ _ e => nomatch e
theorem canaryBite a0 : Statement (.canaryBite a0)  := fun _ _ e => nomatch e
theorem trigInWord a0 : Statement (.trigInWord a0)  := fun _ _ e => nomatch e
theorem trgForce a0 : Statement (.trgForce a0)  := fun _ _ e => nomatch e
theorem triggerMsgReceived a0 a1 : Statement (.triggerMsgReceived a0 a1)  := fun h _ e => first0 h e
theorem busyMsgReceived a0 a1 : Statement (.busyMsgReceived a0 a1)  := fun h _ e => first0 h e
theorem selfTriggerEval a0 : Statement (.selfTriggerEval a0)  := fun _ _ e => nomatch e
theorem specRelease a0 : Statement (.specRelease a0)  := fun _ _ e => nomatch e
theorem primMsgReceived a0 a1 : Statement (.primMsgReceived a0 a1)  := fun h _ e => first0 h e
theorem trgEvidence a0 : Statement (.trgEvidence a0)  := fun _ _ e => nomatch e
theorem trgUnfreeze a0 : Statement (.trgUnfreeze a0)  := fun _ _ e => nomatch e
theorem confirmReceived a0 a1 : Statement (.confirmReceived a0 a1)  := fun h _ e => first0 h e
theorem cancelReceived a0 a1 : Statement (.cancelReceived a0 a1)  := fun h _ e => first0 h e
theorem nackReceived a0 a1 : Statement (.nackReceived a0 a1)  := fun h _ e => first0 h e
theorem tallyDumpGo a0 a1 : Statement (.tallyDumpGo a0 a1)  := fun _ _ e => nomatch e
theorem vaultRepairCmd a0 a1 : Statement (.vaultRepairCmd a0 a1)  := fun _ _ e => nomatch e
theorem vaultWindowWrite a0 a1 a2 a3 : Statement (.vaultWindowWrite a0 a1 a2 a3)  := fun _ _ e => nomatch e
theorem bar2Read a0 a1 : Statement (.bar2Read a0 a1)  := fun _ _ e => nomatch e
theorem facetCodingDone a0 : Statement (.facetCodingDone a0)  := fun _ _ e => nomatch e
theorem frameReceived a0 a1 a2 : Statement (.frameReceived a0 a1 a2)  := fun h _ e => first0 h e
theorem rxStageAdmit a0 : Statement (.rxStageAdmit a0)  := fun h _ e => first0 h e
theorem blockLock a0 : Statement (.blockLock a0)  := fun _ _ e => nomatch e
theorem blockLockLoss a0 a1 : Statement (.blockLockLoss a0 a1)  := fun _ _ e => nomatch e
theorem badControlBlock a0 : Statement (.badControlBlock a0)  := fun h _ e => first0 h e
theorem abortBlock a0 a1 a2 : Statement (.abortBlock a0 a1 a2)  := fun h _ e => first1 h e
theorem suspendBlock a0 a1 : Statement (.suspendBlock a0 a1)  := fun h _ e => first1 h e
theorem resumeBlock a0 a1 : Statement (.resumeBlock a0 a1)  := fun h _ e => first1 h e
theorem alignReceived a0 a1 a2 a3 : Statement (.alignReceived a0 a1 a2 a3)  := fun _ _ e => nomatch e
theorem alignCadence a0 : Statement (.alignCadence a0)  := fun h _ e => first0 h e
theorem creditBlock a0 a1 a2 : Statement (.creditBlock a0 a1 a2)  := fun h _ e => first1 h e
theorem creditRefresh a0 : Statement (.creditRefresh a0)  := fun h _ e => first0 h e
theorem ackBlock a0 a1 a2 : Statement (.ackBlock a0 a1 a2)  := fun h _ e => first2 h e
theorem nakBlock a0 a1 a2 : Statement (.nakBlock a0 a1 a2)  := fun h _ e => first2 h e
theorem replayTimeout a0 a1 : Statement (.replayTimeout a0 a1)  := fun h _ e => first1 h e
theorem holdBlock a0 a1 a2 : Statement (.holdBlock a0 a1 a2)  := fun h _ e => first1 h e
theorem sleepBlock a0 a1 : Statement (.sleepBlock a0 a1)  := fun h _ e => first1 h e
theorem portWidthWrite a0 a1 a2 : Statement (.portWidthWrite a0 a1 a2)  := fun h _ e => first1 h e
theorem laneWakeReady a0 : Statement (.laneWakeReady a0)  := fun h _ e => first0 h e
theorem eyeMeasure a0 a1 a2 : Statement (.eyeMeasure a0 a1 a2)  := fun _ _ e => nomatch e
theorem laneRetrainDone a0 a1 : Statement (.laneRetrainDone a0 a1)  := fun _ _ e => nomatch e
theorem eqSlow a0 : Statement (.eqSlow a0)  := fun _ _ e => nomatch e
theorem eqFreeze a0 : Statement (.eqFreeze a0)  := fun _ _ e => nomatch e
theorem portCfgWrite a0 a1 a2 : Statement (.portCfgWrite a0 a1 a2)  := fun h _ e => first1 h e
theorem laneCtrlWrite a0 a1 a2 : Statement (.laneCtrlWrite a0 a1 a2)  := fun _ _ e => nomatch e
theorem trainAttemptTimeout a0 a1 : Statement (.trainAttemptTimeout a0 a1)  := fun _ _ e => nomatch e
theorem portBaseDone a0 : Statement (.portBaseDone a0)  := fun h _ e => first0 h e
theorem trainSetReceived a0 a1 : Statement (.trainSetReceived a0 a1)  := fun h _ e => first0 h e
theorem switchDone a0 : Statement (.switchDone a0)  := fun h _ e => first0 h e
theorem deskewDone a0 : Statement (.deskewDone a0)  := fun h _ e => first0 h e
theorem loopRequest a0 : Statement (.loopRequest a0)  := fun _ _ e => nomatch e
theorem loopGrant a0 : Statement (.loopGrant a0)  := fun _ _ e => nomatch e
theorem loopRefuse a0 : Statement (.loopRefuse a0)  := fun _ _ e => nomatch e
theorem loopEnd a0 : Statement (.loopEnd a0)  := fun _ _ e => nomatch e
theorem vc0MessageRoute a0 a1 : Statement (.vc0MessageRoute a0 a1)  := fun h _ e => first0 h e
theorem newChild a0 a1 a2 a3 a4 a5 a6 a7 : Statement (.newChild a0 a1 a2 a3 a4 a5 a6 a7)  := fun h _ e => first3 h e
theorem assign a0 a1 a2 a3 a4 a5 a6 a7 a8 a9 : Statement (.assign a0 a1 a2 a3 a4 a5 a6 a7 a8 a9)  := fun h _ e => first4 h e
theorem refuse a0 a1 a2 : Statement (.refuse a0 a1 a2)  := fun h _ e => first1 h e
theorem rehomed a0 a1 : Statement (.rehomed a0 a1)  := fun h _ e => first0 h e
theorem detach a0 a1 : Statement (.detach a0 a1)  := fun h _ e => first0 h e
theorem home a0 a1 a2 : Statement (.home a0 a1 a2)  := fun h _ e => first2 h e
theorem cfgRdMsg a0 a1 a2 a3 : Statement (.cfgRdMsg a0 a1 a2 a3)  := fun h _ e => first1 h e
theorem cfgWrMsg a0 a1 a2 a3 a4 : Statement (.cfgWrMsg a0 a1 a2 a3 a4)  := fun h _ e => first2 h e
theorem cfgResp a0 a1 a2 a3 a4 : Statement (.cfgResp a0 a1 a2 a3 a4)  := fun _ _ e => nomatch e
theorem treeDiscoverWrite a0 a1 : Statement (.treeDiscoverWrite a0 a1)  := fun _ _ e => nomatch e
theorem treeRehome a0 : Statement (.treeRehome a0)  := fun _ _ e => nomatch e
theorem witnessReceived a0 a1 a2 a3 : Statement (.witnessReceived a0 a1 a2 a3)  := fun _ _ e => nomatch e
theorem pair a0 a1 a2 a3 : Statement (.pair a0 a1 a2 a3)  := fun _ _ e => nomatch e
theorem dig a0 a1 a2 a3 a4 a5 a6 : Statement (.dig a0 a1 a2 a3 a4 a5 a6)  := fun _ _ e => nomatch e
theorem echo a0 a1 a2 : Statement (.echo a0 a1 a2)  := fun _ _ e => nomatch e
theorem echoTimeout a0 : Statement (.echoTimeout a0)  := fun _ _ e => nomatch e
theorem claspState a0 a1 : Statement (.claspState a0 a1)  := fun _ _ e => nomatch e
theorem selfCheckDone a0 : Statement (.selfCheckDone a0)  := fun _ _ e => nomatch e
theorem claspResult a0 : Statement (.claspResult a0)  := fun _ _ e => nomatch e
theorem claspPromote a0 : Statement (.claspPromote a0)  := fun _ _ e => nomatch e
theorem claspChunk a0 a1 a2 : Statement (.claspChunk a0 a1 a2)  := fun _ _ e => nomatch e
theorem claspCommit a0 : Statement (.claspCommit a0)  := fun _ _ e => nomatch e
theorem commitAck a0 : Statement (.commitAck a0)  := fun _ _ e => nomatch e
theorem claspKey a0 a1 a2 a3 : Statement (.claspKey a0 a1 a2 a3)  := fun _ _ e => nomatch e
theorem featureCommit a0 : Statement (.featureCommit a0)  := fun _ _ e => nomatch e
theorem ringCfgWrite a0 a1 a2 : Statement (.ringCfgWrite a0 a1 a2)  := fun _ _ e => nomatch e
theorem hifNudge a0 a1 : Statement (.hifNudge a0 a1)  := fun _ _ e => nomatch e
theorem doorbellReadDone a0 a1 : Statement (.doorbellReadDone a0 a1)  := fun _ _ e => nomatch e
theorem nop a0 : Statement (.nop a0)  := fun _ _ e => nomatch e
theorem cfgRd a0 : Statement (.cfgRd a0)  := fun _ _ e => nomatch e
theorem cfgWr a0 : Statement (.cfgWr a0)  := fun _ _ e => nomatch e
theorem cfgRdBlock a0 : Statement (.cfgRdBlock a0)  := fun _ _ e => nomatch e
theorem readmit a0 : Statement (.readmit a0)  := fun _ _ e => nomatch e
theorem capsule a0 a1 : Statement (.capsule a0 a1)  := fun _ _ e => nomatch e
theorem attest a0 a1 : Statement (.attest a0 a1)  := fun _ _ e => nomatch e
theorem logRead a0 : Statement (.logRead a0)  := fun _ _ e => nomatch e
theorem badOp a0 : Statement (.badOp a0)  := fun _ _ e => nomatch e
theorem commandTimeout a0 a1 : Statement (.commandTimeout a0 a1)  := fun _ _ e => nomatch e
theorem unitDeliver a0 : Statement (.unitDeliver a0)  := fun _ _ e => nomatch e
theorem ringDropTimeout a0 : Statement (.ringDropTimeout a0)  := fun _ _ e => nomatch e
theorem coalesceTimeout a0 : Statement (.coalesceTimeout a0)  := fun _ _ e => nomatch e
theorem capChunk a0 a1 a2 a3 a4 : Statement (.capChunk a0 a1 a2 a3 a4)  := fun h _ e => first1 h e
theorem attestReq a0 a1 a2 a3 : Statement (.attestReq a0 a1 a2 a3)  := fun h _ e => first1 h e
theorem attestResp a0 a1 a2 : Statement (.attestResp a0 a1 a2)  := fun _ _ e => nomatch e
theorem hello a0 a1 : Statement (.hello a0 a1)  := fun h _ e => first0 h e
theorem proof a0 a1 : Statement (.proof a0 a1)  := fun h _ e => first0 h e
theorem finish a0 a1 : Statement (.finish a0 a1)  := fun h _ e => first0 h e
theorem fail a0 : Statement (.fail a0)  := fun h _ e => first0 h e
theorem authTimeout a0 : Statement (.authTimeout a0)  := fun h _ e => first0 h e
theorem authRetry a0 : Statement (.authRetry a0)  := fun h _ e => first0 h e
theorem rekeyDue a0 a1 : Statement (.rekeyDue a0 a1)  := fun _ _ e => nomatch e
theorem hallCmdRekey a0 : Statement (.hallCmdRekey a0)  := fun _ _ e => nomatch e
theorem oldKeyExpire a0 : Statement (.oldKeyExpire a0)  := fun h _ e => first0 h e
theorem e2eHello a0 a1 a2 : Statement (.e2eHello a0 a1 a2)  := fun h _ e => first1 h e
theorem e2eProof a0 a1 a2 : Statement (.e2eProof a0 a1 a2)  := fun h _ e => first1 h e
theorem e2eFinish a0 a1 a2 : Statement (.e2eFinish a0 a1 a2)  := fun h _ e => first1 h e
theorem e2eFail a0 a1 : Statement (.e2eFail a0 a1)  := fun h _ e => first1 h e
theorem e2eRestart a0 : Statement (.e2eRestart a0)  := fun h _ e => first0 h e
theorem monConversionDone a0 : Statement (.monConversionDone a0)  := fun _ _ e => nomatch e
theorem monGuardDone a0 : Statement (.monGuardDone a0)  := fun _ _ e => nomatch e
theorem monSeqStart a0 : Statement (.monSeqStart a0)  := fun _ _ e => nomatch e
theorem monSeqStop a0 : Statement (.monSeqStop a0)  := fun _ _ e => nomatch e
theorem monInjGo a0 a1 : Statement (.monInjGo a0 a1)  := fun _ _ e => nomatch e
theorem monExcWrite a0 a1 a2 a3 : Statement (.monExcWrite a0 a1 a2 a3)  := fun _ _ e => nomatch e
theorem monModeWrite a0 a1 : Statement (.monModeWrite a0 a1)  := fun _ _ e => nomatch e
theorem monCalNone a0 a1 : Statement (.monCalNone a0 a1)  := fun _ _ e => nomatch e
theorem intZero a0 a1 : Statement (.intZero a0 a1)  := fun _ _ e => nomatch e
theorem sysZero a0 a1 : Statement (.sysZero a0 a1)  := fun _ _ e => nomatch e
theorem sysFull a0 a1 : Statement (.sysFull a0 a1)  := fun _ _ e => nomatch e
theorem refCheck a0 a1 : Statement (.refCheck a0 a1)  := fun _ _ e => nomatch e
theorem monCalDone a0 a1 : Statement (.monCalDone a0 a1)  := fun _ _ e => nomatch e
theorem scopeArm a0 : Statement (.scopeArm a0)  := fun _ _ e => nomatch e
theorem scopeAbort a0 : Statement (.scopeAbort a0)  := fun _ _ e => nomatch e
theorem scopeForce a0 : Statement (.scopeForce a0)  := fun _ _ e => nomatch e
theorem scopeSample a0 : Statement (.scopeSample a0)  := fun _ _ e => nomatch e
theorem strikeDecay a0 : Statement (.strikeDecay a0)  := fun _ _ e => nomatch e
theorem faultPolicyWrite a0 a1 a2 : Statement (.faultPolicyWrite a0 a1 a2)  := fun _ _ e => nomatch e
theorem multiwordRead a0 : Statement (.multiwordRead a0)  := fun _ _ e => nomatch e
theorem registerWrite a0 a1 a2 a3 : Statement (.registerWrite a0 a1 a2 a3)  := fun _ _ e => nomatch e
theorem arbRelease a0 : Statement (.arbRelease a0)  := fun _ _ e => nomatch e
theorem pcieConfigWrite a0 : Statement (.pcieConfigWrite a0)  := fun _ _ e => nomatch e
theorem tapOperation a0 : Statement (.tapOperation a0)  := fun _ _ e => nomatch e
theorem powerOnReset : Statement (.powerOnReset)  := fun _ _ e => nomatch e
theorem rstNAssert : Statement (.rstNAssert)  := fun _ _ e => nomatch e
theorem noReferenceTimeout : Statement (.noReferenceTimeout)  := fun _ _ e => nomatch e
theorem stopOrbitEnd : Statement (.stopOrbitEnd)  := fun _ _ e => nomatch e
theorem holdLimitExpire : Statement (.holdLimitExpire)  := fun _ _ e => nomatch e
theorem bclkLost : Statement (.bclkLost)  := fun _ _ e => nomatch e
theorem bclkReturn : Statement (.bclkReturn)  := fun _ _ e => nomatch e
theorem shaftMarkerTimeout : Statement (.shaftMarkerTimeout)  := fun _ _ e => nomatch e
theorem wallSrcLost : Statement (.wallSrcLost)  := fun _ _ e => nomatch e
theorem ptmRequest : Statement (.ptmRequest)  := fun _ _ e => nomatch e
theorem orbSlotRead : Statement (.orbSlotRead)  := fun _ _ e => nomatch e
theorem wallNsRead : Statement (.wallNsRead)  := fun _ _ e => nomatch e
theorem thrOfsApply : Statement (.thrOfsApply)  := fun _ _ e => nomatch e
theorem injectionWindowClose : Statement (.injectionWindowClose)  := fun _ _ e => nomatch e
theorem tiuIntervalTimeout : Statement (.tiuIntervalTimeout)  := fun _ _ e => nomatch e
theorem streamGroupIssue : Statement (.streamGroupIssue)  := fun _ _ e => nomatch e
theorem tokenRefill : Statement (.tokenRefill)  := fun _ _ e => nomatch e
theorem autoForcedAccept : Statement (.autoForcedAccept)  := fun _ _ e => nomatch e
theorem triggerApply : Statement (.triggerApply)  := fun _ _ e => nomatch e
theorem acceptIssue : Statement (.acceptIssue)  := fun _ _ e => nomatch e
theorem busyChange : Statement (.busyChange)  := fun _ _ e => nomatch e
theorem primDeadline : Statement (.primDeadline)  := fun _ _ e => nomatch e
theorem maskTestEval : Statement (.maskTestEval)  := fun _ _ e => nomatch e
theorem specResolve : Statement (.specResolve)  := fun _ _ e => nomatch e
theorem specTtlExpire : Statement (.specTtlExpire)  := fun _ _ e => nomatch e
theorem dumpRecordWrite : Statement (.dumpRecordWrite)  := fun _ _ e => nomatch e
theorem scrubSlot : Statement (.scrubSlot)  := fun _ _ e => nomatch e
theorem vaultRepairStart : Statement (.vaultRepairStart)  := fun _ _ e => nomatch e
theorem vaultRepairDone : Statement (.vaultRepairDone)  := fun _ _ e => nomatch e
theorem joined : Statement (.joined)  := fun _ _ e => nomatch e
theorem shaftSwitch : Statement (.shaftSwitch)  := fun _ _ e => nomatch e
theorem witnessSend : Statement (.witnessSend)  := fun _ _ e => nomatch e
theorem witnessRoundClose : Statement (.witnessRoundClose)  := fun _ _ e => nomatch e
theorem claspLinkUp : Statement (.claspLinkUp)  := fun _ _ e => nomatch e
theorem claspLinkLost : Statement (.claspLinkLost)  := fun _ _ e => nomatch e
theorem stateMissing : Statement (.stateMissing)  := fun _ _ e => nomatch e
theorem claspCheck : Statement (.claspCheck)  := fun _ _ e => nomatch e
theorem claspOrphan : Statement (.claspOrphan)  := fun _ _ e => nomatch e
theorem claspChunkSend : Statement (.claspChunkSend)  := fun _ _ e => nomatch e
theorem flr : Statement (.flr)  := fun _ _ e => nomatch e
theorem doorbellPoll : Statement (.doorbellPoll)  := fun _ _ e => nomatch e
theorem capsuleApply : Statement (.capsuleApply)  := fun _ _ e => nomatch e
theorem claim : Statement (.claim)  := fun _ _ e => nomatch e
theorem digestDone : Statement (.digestDone)  := fun _ _ e => nomatch e
theorem monPassStart : Statement (.monPassStart)  := fun _ _ e => nomatch e
theorem monCalRun : Statement (.monCalRun)  := fun _ _ e => nomatch e
theorem scopeAutoTimeout : Statement (.scopeAutoTimeout)  := fun _ _ e => nomatch e
theorem scopeRecordWrite : Statement (.scopeRecordWrite)  := fun _ _ e => nomatch e
theorem scopeRearm : Statement (.scopeRearm)  := fun _ _ e => nomatch e
theorem alertRelease : Statement (.alertRelease)  := fun _ _ e => nomatch e
theorem checkResultTimeout : Statement (.checkResultTimeout)  := fun _ _ e => nomatch e

end Sys2Proof.Laws.WellFormed
end

