-- ==== Sys2Proof/Laws/Units.lean ====
section
/-! SUPPORT. One channel, pair, tile, lane, port, arbiter, vault word or ring read after an update of one, and after the updates that leave it alone. -/

namespace Sys2Proof.Machine

/-! The channel. -/

/-- The channel after an update of one. -/
@[simp] theorem State.chan_setChan (s : State) (k : Nat) (v : Chan) (j : Nat) :
    (s.setChan k v).chan j = if j = k then v else s.chan j := by
  simp only [State.chan, State.setChan]; exact sget_sset _ _ _ _ _
theorem State.chan_congr {s t : State} (h : t.fe = s.fe) (j : Nat) : t.chan j = s.chan j := by
  unfold State.chan; rw [h]
@[simp] theorem State.chan_wr (s : State) (a v : Nat) (j : Nat) : (s.wr a v).chan j = s.chan j := State.chan_congr (by simp) j
@[simp] theorem State.chan_put (s : State) (f : Fld) (v : Nat) (j : Nat) : (s.put f v).chan j = s.chan j := State.chan_congr (by simp) j
@[simp] theorem State.chan_incBy (s : State) (a v : Nat) (j : Nat) : (s.incBy a v).chan j = s.chan j := State.chan_congr (by simp) j
@[simp] theorem State.chan_incWrap (s : State) (a : Nat) (j : Nat) : (s.incWrap a).chan j = s.chan j := State.chan_congr (by simp) j
@[simp] theorem State.chan_emit (s : State) (x : Out) (j : Nat) : (s.emit x).chan j = s.chan j := State.chan_congr (by simp) j
@[simp] theorem State.chan_emits (s : State) (x : List Out) (j : Nat) : (s.emits x).chan j = s.chan j := State.chan_congr (by simp) j
@[simp] theorem State.chan_setPair (s : State) (k : Nat) (v : Pair) (j : Nat) : (s.setPair k v).chan j = s.chan j :=
  State.chan_congr (by simp) j
@[simp] theorem State.chan_setTile (s : State) (k : Nat) (v : Tile) (j : Nat) : (s.setTile k v).chan j = s.chan j :=
  State.chan_congr (by simp) j
@[simp] theorem State.chan_setLane (s : State) (k : Nat) (v : LaneSt) (j : Nat) : (s.setLane k v).chan j = s.chan j :=
  State.chan_congr (by simp) j
@[simp] theorem State.chan_setPort (s : State) (k : Nat) (v : PortSt) (j : Nat) : (s.setPort k v).chan j = s.chan j :=
  State.chan_congr (by simp) j
@[simp] theorem State.chan_setArb (s : State) (k : Nat) (v : Arb) (j : Nat) : (s.setArb k v).chan j = s.chan j :=
  State.chan_congr (by simp) j
@[simp] theorem State.chan_setVword (s : State) (k : Nat) (v : Nat) (j : Nat) : (s.setVword k v).chan j = s.chan j :=
  State.chan_congr (by simp) j
@[simp] theorem State.chan_setCmds (s : State) (k : Nat) (v : List HCmd) (j : Nat) : (s.setCmds k v).chan j = s.chan j :=
  State.chan_congr (by simp) j
@[simp] theorem State.chan_setBufs (s : State) (k : Nat) (v : List HBuf) (j : Nat) : (s.setBufs k v).chan j = s.chan j :=
  State.chan_congr (by simp) j

/-! The pair. -/

/-- The pair after an update of one. -/
@[simp] theorem State.pair_setPair (s : State) (k : Nat) (v : Pair) (j : Nat) :
    (s.setPair k v).pair j = if j = k then v else s.pair j := by
  simp only [State.pair, State.setPair]; exact sget_sset _ _ _ _ _
theorem State.pair_congr {s t : State} (h : t.vtdc = s.vtdc) (j : Nat) : t.pair j = s.pair j := by
  unfold State.pair; rw [h]
@[simp] theorem State.pair_wr (s : State) (a v : Nat) (j : Nat) : (s.wr a v).pair j = s.pair j := State.pair_congr (by simp) j
@[simp] theorem State.pair_put (s : State) (f : Fld) (v : Nat) (j : Nat) : (s.put f v).pair j = s.pair j := State.pair_congr (by simp) j
@[simp] theorem State.pair_incBy (s : State) (a v : Nat) (j : Nat) : (s.incBy a v).pair j = s.pair j := State.pair_congr (by simp) j
@[simp] theorem State.pair_incWrap (s : State) (a : Nat) (j : Nat) : (s.incWrap a).pair j = s.pair j := State.pair_congr (by simp) j
@[simp] theorem State.pair_emit (s : State) (x : Out) (j : Nat) : (s.emit x).pair j = s.pair j := State.pair_congr (by simp) j
@[simp] theorem State.pair_emits (s : State) (x : List Out) (j : Nat) : (s.emits x).pair j = s.pair j := State.pair_congr (by simp) j
@[simp] theorem State.pair_setChan (s : State) (k : Nat) (v : Chan) (j : Nat) : (s.setChan k v).pair j = s.pair j :=
  State.pair_congr (by simp) j
@[simp] theorem State.pair_setTile (s : State) (k : Nat) (v : Tile) (j : Nat) : (s.setTile k v).pair j = s.pair j :=
  State.pair_congr (by simp) j
@[simp] theorem State.pair_setLane (s : State) (k : Nat) (v : LaneSt) (j : Nat) : (s.setLane k v).pair j = s.pair j :=
  State.pair_congr (by simp) j
@[simp] theorem State.pair_setPort (s : State) (k : Nat) (v : PortSt) (j : Nat) : (s.setPort k v).pair j = s.pair j :=
  State.pair_congr (by simp) j
@[simp] theorem State.pair_setArb (s : State) (k : Nat) (v : Arb) (j : Nat) : (s.setArb k v).pair j = s.pair j :=
  State.pair_congr (by simp) j
@[simp] theorem State.pair_setVword (s : State) (k : Nat) (v : Nat) (j : Nat) : (s.setVword k v).pair j = s.pair j :=
  State.pair_congr (by simp) j
@[simp] theorem State.pair_setCmds (s : State) (k : Nat) (v : List HCmd) (j : Nat) : (s.setCmds k v).pair j = s.pair j :=
  State.pair_congr (by simp) j
@[simp] theorem State.pair_setBufs (s : State) (k : Nat) (v : List HBuf) (j : Nat) : (s.setBufs k v).pair j = s.pair j :=
  State.pair_congr (by simp) j

/-! The tile. -/

/-- The tile after an update of one. -/
@[simp] theorem State.tile_setTile (s : State) (k : Nat) (v : Tile) (j : Nat) :
    (s.setTile k v).tile j = if j = k then v else s.tile j := by
  simp only [State.tile, State.setTile]; exact sget_sset _ _ _ _ _
theorem State.tile_congr {s t : State} (h : t.tiles = s.tiles) (j : Nat) : t.tile j = s.tile j := by
  unfold State.tile; rw [h]
@[simp] theorem State.tile_wr (s : State) (a v : Nat) (j : Nat) : (s.wr a v).tile j = s.tile j := State.tile_congr (by simp) j
@[simp] theorem State.tile_put (s : State) (f : Fld) (v : Nat) (j : Nat) : (s.put f v).tile j = s.tile j := State.tile_congr (by simp) j
@[simp] theorem State.tile_incBy (s : State) (a v : Nat) (j : Nat) : (s.incBy a v).tile j = s.tile j := State.tile_congr (by simp) j
@[simp] theorem State.tile_incWrap (s : State) (a : Nat) (j : Nat) : (s.incWrap a).tile j = s.tile j := State.tile_congr (by simp) j
@[simp] theorem State.tile_emit (s : State) (x : Out) (j : Nat) : (s.emit x).tile j = s.tile j := State.tile_congr (by simp) j
@[simp] theorem State.tile_emits (s : State) (x : List Out) (j : Nat) : (s.emits x).tile j = s.tile j := State.tile_congr (by simp) j
@[simp] theorem State.tile_setChan (s : State) (k : Nat) (v : Chan) (j : Nat) : (s.setChan k v).tile j = s.tile j :=
  State.tile_congr (by simp) j
@[simp] theorem State.tile_setPair (s : State) (k : Nat) (v : Pair) (j : Nat) : (s.setPair k v).tile j = s.tile j :=
  State.tile_congr (by simp) j
@[simp] theorem State.tile_setLane (s : State) (k : Nat) (v : LaneSt) (j : Nat) : (s.setLane k v).tile j = s.tile j :=
  State.tile_congr (by simp) j
@[simp] theorem State.tile_setPort (s : State) (k : Nat) (v : PortSt) (j : Nat) : (s.setPort k v).tile j = s.tile j :=
  State.tile_congr (by simp) j
@[simp] theorem State.tile_setArb (s : State) (k : Nat) (v : Arb) (j : Nat) : (s.setArb k v).tile j = s.tile j :=
  State.tile_congr (by simp) j
@[simp] theorem State.tile_setVword (s : State) (k : Nat) (v : Nat) (j : Nat) : (s.setVword k v).tile j = s.tile j :=
  State.tile_congr (by simp) j
@[simp] theorem State.tile_setCmds (s : State) (k : Nat) (v : List HCmd) (j : Nat) : (s.setCmds k v).tile j = s.tile j :=
  State.tile_congr (by simp) j
@[simp] theorem State.tile_setBufs (s : State) (k : Nat) (v : List HBuf) (j : Nat) : (s.setBufs k v).tile j = s.tile j :=
  State.tile_congr (by simp) j

/-! The lane. -/

/-- The lane after an update of one. -/
@[simp] theorem State.lane_setLane (s : State) (k : Nat) (v : LaneSt) (j : Nat) :
    (s.setLane k v).lane j = if j = k then v else s.lane j := by
  simp only [State.lane, State.setLane]; exact sget_sset _ _ _ _ _
theorem State.lane_congr {s t : State} (h : t.lanes = s.lanes) (j : Nat) : t.lane j = s.lane j := by
  unfold State.lane; rw [h]
@[simp] theorem State.lane_wr (s : State) (a v : Nat) (j : Nat) : (s.wr a v).lane j = s.lane j := State.lane_congr (by simp) j
@[simp] theorem State.lane_put (s : State) (f : Fld) (v : Nat) (j : Nat) : (s.put f v).lane j = s.lane j := State.lane_congr (by simp) j
@[simp] theorem State.lane_incBy (s : State) (a v : Nat) (j : Nat) : (s.incBy a v).lane j = s.lane j := State.lane_congr (by simp) j
@[simp] theorem State.lane_incWrap (s : State) (a : Nat) (j : Nat) : (s.incWrap a).lane j = s.lane j := State.lane_congr (by simp) j
@[simp] theorem State.lane_emit (s : State) (x : Out) (j : Nat) : (s.emit x).lane j = s.lane j := State.lane_congr (by simp) j
@[simp] theorem State.lane_emits (s : State) (x : List Out) (j : Nat) : (s.emits x).lane j = s.lane j := State.lane_congr (by simp) j
@[simp] theorem State.lane_setChan (s : State) (k : Nat) (v : Chan) (j : Nat) : (s.setChan k v).lane j = s.lane j :=
  State.lane_congr (by simp) j
@[simp] theorem State.lane_setPair (s : State) (k : Nat) (v : Pair) (j : Nat) : (s.setPair k v).lane j = s.lane j :=
  State.lane_congr (by simp) j
@[simp] theorem State.lane_setTile (s : State) (k : Nat) (v : Tile) (j : Nat) : (s.setTile k v).lane j = s.lane j :=
  State.lane_congr (by simp) j
@[simp] theorem State.lane_setPort (s : State) (k : Nat) (v : PortSt) (j : Nat) : (s.setPort k v).lane j = s.lane j :=
  State.lane_congr (by simp) j
@[simp] theorem State.lane_setArb (s : State) (k : Nat) (v : Arb) (j : Nat) : (s.setArb k v).lane j = s.lane j :=
  State.lane_congr (by simp) j
@[simp] theorem State.lane_setVword (s : State) (k : Nat) (v : Nat) (j : Nat) : (s.setVword k v).lane j = s.lane j :=
  State.lane_congr (by simp) j
@[simp] theorem State.lane_setCmds (s : State) (k : Nat) (v : List HCmd) (j : Nat) : (s.setCmds k v).lane j = s.lane j :=
  State.lane_congr (by simp) j
@[simp] theorem State.lane_setBufs (s : State) (k : Nat) (v : List HBuf) (j : Nat) : (s.setBufs k v).lane j = s.lane j :=
  State.lane_congr (by simp) j

/-! The port. -/

/-- The port after an update of one. -/
@[simp] theorem State.port_setPort (s : State) (k : Nat) (v : PortSt) (j : Nat) :
    (s.setPort k v).port j = if j = k then v else s.port j := by
  simp only [State.port, State.setPort]; exact sget_sset _ _ _ _ _
theorem State.port_congr {s t : State} (h : t.ports = s.ports) (j : Nat) : t.port j = s.port j := by
  unfold State.port; rw [h]
@[simp] theorem State.port_wr (s : State) (a v : Nat) (j : Nat) : (s.wr a v).port j = s.port j := State.port_congr (by simp) j
@[simp] theorem State.port_put (s : State) (f : Fld) (v : Nat) (j : Nat) : (s.put f v).port j = s.port j := State.port_congr (by simp) j
@[simp] theorem State.port_incBy (s : State) (a v : Nat) (j : Nat) : (s.incBy a v).port j = s.port j := State.port_congr (by simp) j
@[simp] theorem State.port_incWrap (s : State) (a : Nat) (j : Nat) : (s.incWrap a).port j = s.port j := State.port_congr (by simp) j
@[simp] theorem State.port_emit (s : State) (x : Out) (j : Nat) : (s.emit x).port j = s.port j := State.port_congr (by simp) j
@[simp] theorem State.port_emits (s : State) (x : List Out) (j : Nat) : (s.emits x).port j = s.port j := State.port_congr (by simp) j
@[simp] theorem State.port_setChan (s : State) (k : Nat) (v : Chan) (j : Nat) : (s.setChan k v).port j = s.port j :=
  State.port_congr (by simp) j
@[simp] theorem State.port_setPair (s : State) (k : Nat) (v : Pair) (j : Nat) : (s.setPair k v).port j = s.port j :=
  State.port_congr (by simp) j
@[simp] theorem State.port_setTile (s : State) (k : Nat) (v : Tile) (j : Nat) : (s.setTile k v).port j = s.port j :=
  State.port_congr (by simp) j
@[simp] theorem State.port_setLane (s : State) (k : Nat) (v : LaneSt) (j : Nat) : (s.setLane k v).port j = s.port j :=
  State.port_congr (by simp) j
@[simp] theorem State.port_setArb (s : State) (k : Nat) (v : Arb) (j : Nat) : (s.setArb k v).port j = s.port j :=
  State.port_congr (by simp) j
@[simp] theorem State.port_setVword (s : State) (k : Nat) (v : Nat) (j : Nat) : (s.setVword k v).port j = s.port j :=
  State.port_congr (by simp) j
@[simp] theorem State.port_setCmds (s : State) (k : Nat) (v : List HCmd) (j : Nat) : (s.setCmds k v).port j = s.port j :=
  State.port_congr (by simp) j
@[simp] theorem State.port_setBufs (s : State) (k : Nat) (v : List HBuf) (j : Nat) : (s.setBufs k v).port j = s.port j :=
  State.port_congr (by simp) j

/-! The arbiter. -/

/-- The arbiter after an update of one. -/
@[simp] theorem State.arb_setArb (s : State) (k : Nat) (v : Arb) (j : Nat) :
    (s.setArb k v).arb j = if j = k then v else s.arb j := by
  simp only [State.arb, State.setArb]; exact sget_sset _ _ _ _ _
theorem State.arb_congr {s t : State} (h : t.arbs = s.arbs) (j : Nat) : t.arb j = s.arb j := by
  unfold State.arb; rw [h]
@[simp] theorem State.arb_wr (s : State) (a v : Nat) (j : Nat) : (s.wr a v).arb j = s.arb j := State.arb_congr (by simp) j
@[simp] theorem State.arb_put (s : State) (f : Fld) (v : Nat) (j : Nat) : (s.put f v).arb j = s.arb j := State.arb_congr (by simp) j
@[simp] theorem State.arb_incBy (s : State) (a v : Nat) (j : Nat) : (s.incBy a v).arb j = s.arb j := State.arb_congr (by simp) j
@[simp] theorem State.arb_incWrap (s : State) (a : Nat) (j : Nat) : (s.incWrap a).arb j = s.arb j := State.arb_congr (by simp) j
@[simp] theorem State.arb_emit (s : State) (x : Out) (j : Nat) : (s.emit x).arb j = s.arb j := State.arb_congr (by simp) j
@[simp] theorem State.arb_emits (s : State) (x : List Out) (j : Nat) : (s.emits x).arb j = s.arb j := State.arb_congr (by simp) j
@[simp] theorem State.arb_setChan (s : State) (k : Nat) (v : Chan) (j : Nat) : (s.setChan k v).arb j = s.arb j :=
  State.arb_congr (by simp) j
@[simp] theorem State.arb_setPair (s : State) (k : Nat) (v : Pair) (j : Nat) : (s.setPair k v).arb j = s.arb j :=
  State.arb_congr (by simp) j
@[simp] theorem State.arb_setTile (s : State) (k : Nat) (v : Tile) (j : Nat) : (s.setTile k v).arb j = s.arb j :=
  State.arb_congr (by simp) j
@[simp] theorem State.arb_setLane (s : State) (k : Nat) (v : LaneSt) (j : Nat) : (s.setLane k v).arb j = s.arb j :=
  State.arb_congr (by simp) j
@[simp] theorem State.arb_setPort (s : State) (k : Nat) (v : PortSt) (j : Nat) : (s.setPort k v).arb j = s.arb j :=
  State.arb_congr (by simp) j
@[simp] theorem State.arb_setVword (s : State) (k : Nat) (v : Nat) (j : Nat) : (s.setVword k v).arb j = s.arb j :=
  State.arb_congr (by simp) j
@[simp] theorem State.arb_setCmds (s : State) (k : Nat) (v : List HCmd) (j : Nat) : (s.setCmds k v).arb j = s.arb j :=
  State.arb_congr (by simp) j
@[simp] theorem State.arb_setBufs (s : State) (k : Nat) (v : List HBuf) (j : Nat) : (s.setBufs k v).arb j = s.arb j :=
  State.arb_congr (by simp) j

/-! The vault word. -/

/-- The vault word after an update of one. -/
@[simp] theorem State.vword_setVword (s : State) (k : Nat) (v : Nat) (j : Nat) :
    (s.setVword k v).vword j = if j = k then v else s.vword j := by
  simp only [State.vword, State.setVword]; exact sget_sset _ _ _ _ _
theorem State.vword_congr {s t : State} (h : t.vault = s.vault) (j : Nat) : t.vword j = s.vword j := by
  unfold State.vword; rw [h]
@[simp] theorem State.vword_wr (s : State) (a v : Nat) (j : Nat) : (s.wr a v).vword j = s.vword j := State.vword_congr (by simp) j
@[simp] theorem State.vword_put (s : State) (f : Fld) (v : Nat) (j : Nat) : (s.put f v).vword j = s.vword j := State.vword_congr (by simp) j
@[simp] theorem State.vword_incBy (s : State) (a v : Nat) (j : Nat) : (s.incBy a v).vword j = s.vword j := State.vword_congr (by simp) j
@[simp] theorem State.vword_incWrap (s : State) (a : Nat) (j : Nat) : (s.incWrap a).vword j = s.vword j := State.vword_congr (by simp) j
@[simp] theorem State.vword_emit (s : State) (x : Out) (j : Nat) : (s.emit x).vword j = s.vword j := State.vword_congr (by simp) j
@[simp] theorem State.vword_emits (s : State) (x : List Out) (j : Nat) : (s.emits x).vword j = s.vword j := State.vword_congr (by simp) j
@[simp] theorem State.vword_setChan (s : State) (k : Nat) (v : Chan) (j : Nat) : (s.setChan k v).vword j = s.vword j :=
  State.vword_congr (by simp) j
@[simp] theorem State.vword_setPair (s : State) (k : Nat) (v : Pair) (j : Nat) : (s.setPair k v).vword j = s.vword j :=
  State.vword_congr (by simp) j
@[simp] theorem State.vword_setTile (s : State) (k : Nat) (v : Tile) (j : Nat) : (s.setTile k v).vword j = s.vword j :=
  State.vword_congr (by simp) j
@[simp] theorem State.vword_setLane (s : State) (k : Nat) (v : LaneSt) (j : Nat) : (s.setLane k v).vword j = s.vword j :=
  State.vword_congr (by simp) j
@[simp] theorem State.vword_setPort (s : State) (k : Nat) (v : PortSt) (j : Nat) : (s.setPort k v).vword j = s.vword j :=
  State.vword_congr (by simp) j
@[simp] theorem State.vword_setArb (s : State) (k : Nat) (v : Arb) (j : Nat) : (s.setArb k v).vword j = s.vword j :=
  State.vword_congr (by simp) j
@[simp] theorem State.vword_setCmds (s : State) (k : Nat) (v : List HCmd) (j : Nat) : (s.setCmds k v).vword j = s.vword j :=
  State.vword_congr (by simp) j
@[simp] theorem State.vword_setBufs (s : State) (k : Nat) (v : List HBuf) (j : Nat) : (s.setBufs k v).vword j = s.vword j :=
  State.vword_congr (by simp) j

/-! The ring's commands. -/

/-- The ring's commands after an update of one. -/
@[simp] theorem State.cmdsOf_setCmds (s : State) (k : Nat) (v : List HCmd) (j : Nat) :
    (s.setCmds k v).cmdsOf j = if j = k then v else s.cmdsOf j := by
  simp only [State.cmdsOf, State.setCmds]; exact sget_sset _ _ _ _ _
theorem State.cmdsOf_congr {s t : State} (h : t.hif = s.hif) (j : Nat) : t.cmdsOf j = s.cmdsOf j := by
  unfold State.cmdsOf; rw [h]
@[simp] theorem State.cmdsOf_wr (s : State) (a v : Nat) (j : Nat) : (s.wr a v).cmdsOf j = s.cmdsOf j := State.cmdsOf_congr (by simp) j
@[simp] theorem State.cmdsOf_put (s : State) (f : Fld) (v : Nat) (j : Nat) : (s.put f v).cmdsOf j = s.cmdsOf j := State.cmdsOf_congr (by simp) j
@[simp] theorem State.cmdsOf_incBy (s : State) (a v : Nat) (j : Nat) : (s.incBy a v).cmdsOf j = s.cmdsOf j := State.cmdsOf_congr (by simp) j
@[simp] theorem State.cmdsOf_incWrap (s : State) (a : Nat) (j : Nat) : (s.incWrap a).cmdsOf j = s.cmdsOf j := State.cmdsOf_congr (by simp) j
@[simp] theorem State.cmdsOf_emit (s : State) (x : Out) (j : Nat) : (s.emit x).cmdsOf j = s.cmdsOf j := State.cmdsOf_congr (by simp) j
@[simp] theorem State.cmdsOf_emits (s : State) (x : List Out) (j : Nat) : (s.emits x).cmdsOf j = s.cmdsOf j := State.cmdsOf_congr (by simp) j
@[simp] theorem State.cmdsOf_setChan (s : State) (k : Nat) (v : Chan) (j : Nat) : (s.setChan k v).cmdsOf j = s.cmdsOf j :=
  State.cmdsOf_congr (by simp) j
@[simp] theorem State.cmdsOf_setPair (s : State) (k : Nat) (v : Pair) (j : Nat) : (s.setPair k v).cmdsOf j = s.cmdsOf j :=
  State.cmdsOf_congr (by simp) j
@[simp] theorem State.cmdsOf_setTile (s : State) (k : Nat) (v : Tile) (j : Nat) : (s.setTile k v).cmdsOf j = s.cmdsOf j :=
  State.cmdsOf_congr (by simp) j
@[simp] theorem State.cmdsOf_setLane (s : State) (k : Nat) (v : LaneSt) (j : Nat) : (s.setLane k v).cmdsOf j = s.cmdsOf j :=
  State.cmdsOf_congr (by simp) j
@[simp] theorem State.cmdsOf_setPort (s : State) (k : Nat) (v : PortSt) (j : Nat) : (s.setPort k v).cmdsOf j = s.cmdsOf j :=
  State.cmdsOf_congr (by simp) j
@[simp] theorem State.cmdsOf_setArb (s : State) (k : Nat) (v : Arb) (j : Nat) : (s.setArb k v).cmdsOf j = s.cmdsOf j :=
  State.cmdsOf_congr (by simp) j
@[simp] theorem State.cmdsOf_setVword (s : State) (k : Nat) (v : Nat) (j : Nat) : (s.setVword k v).cmdsOf j = s.cmdsOf j :=
  State.cmdsOf_congr (by simp) j

/-! The ring's buffers. -/

/-- The ring's buffers after an update of one. -/
@[simp] theorem State.bufsOf_setBufs (s : State) (k : Nat) (v : List HBuf) (j : Nat) :
    (s.setBufs k v).bufsOf j = if j = k then v else s.bufsOf j := by
  simp only [State.bufsOf, State.setBufs]; exact sget_sset _ _ _ _ _
theorem State.bufsOf_congr {s t : State} (h : t.hif = s.hif) (j : Nat) : t.bufsOf j = s.bufsOf j := by
  unfold State.bufsOf; rw [h]
@[simp] theorem State.bufsOf_wr (s : State) (a v : Nat) (j : Nat) : (s.wr a v).bufsOf j = s.bufsOf j := State.bufsOf_congr (by simp) j
@[simp] theorem State.bufsOf_put (s : State) (f : Fld) (v : Nat) (j : Nat) : (s.put f v).bufsOf j = s.bufsOf j := State.bufsOf_congr (by simp) j
@[simp] theorem State.bufsOf_incBy (s : State) (a v : Nat) (j : Nat) : (s.incBy a v).bufsOf j = s.bufsOf j := State.bufsOf_congr (by simp) j
@[simp] theorem State.bufsOf_incWrap (s : State) (a : Nat) (j : Nat) : (s.incWrap a).bufsOf j = s.bufsOf j := State.bufsOf_congr (by simp) j
@[simp] theorem State.bufsOf_emit (s : State) (x : Out) (j : Nat) : (s.emit x).bufsOf j = s.bufsOf j := State.bufsOf_congr (by simp) j
@[simp] theorem State.bufsOf_emits (s : State) (x : List Out) (j : Nat) : (s.emits x).bufsOf j = s.bufsOf j := State.bufsOf_congr (by simp) j
@[simp] theorem State.bufsOf_setChan (s : State) (k : Nat) (v : Chan) (j : Nat) : (s.setChan k v).bufsOf j = s.bufsOf j :=
  State.bufsOf_congr (by simp) j
@[simp] theorem State.bufsOf_setPair (s : State) (k : Nat) (v : Pair) (j : Nat) : (s.setPair k v).bufsOf j = s.bufsOf j :=
  State.bufsOf_congr (by simp) j
@[simp] theorem State.bufsOf_setTile (s : State) (k : Nat) (v : Tile) (j : Nat) : (s.setTile k v).bufsOf j = s.bufsOf j :=
  State.bufsOf_congr (by simp) j
@[simp] theorem State.bufsOf_setLane (s : State) (k : Nat) (v : LaneSt) (j : Nat) : (s.setLane k v).bufsOf j = s.bufsOf j :=
  State.bufsOf_congr (by simp) j
@[simp] theorem State.bufsOf_setPort (s : State) (k : Nat) (v : PortSt) (j : Nat) : (s.setPort k v).bufsOf j = s.bufsOf j :=
  State.bufsOf_congr (by simp) j
@[simp] theorem State.bufsOf_setArb (s : State) (k : Nat) (v : Arb) (j : Nat) : (s.setArb k v).bufsOf j = s.bufsOf j :=
  State.bufsOf_congr (by simp) j
@[simp] theorem State.bufsOf_setVword (s : State) (k : Nat) (v : Nat) (j : Nat) : (s.setVword k v).bufsOf j = s.bufsOf j :=
  State.bufsOf_congr (by simp) j

/-! Registers after the updates that write none. -/

@[simp] theorem State.rd_setChan (s : State) (k : Nat) (v : Chan) (a : Nat) : (s.setChan k v).rd a = s.rd a := by
  unfold State.rd; rw [State.setChan_regs]
@[simp] theorem State.get_setChan (s : State) (k : Nat) (v : Chan) (f : Fld) : (s.setChan k v).get f = s.get f := by
  unfold State.get; rw [State.rd_setChan]
@[simp] theorem State.on_setChan (s : State) (k : Nat) (v : Chan) (f : Fld) : (s.setChan k v).on f = s.on f := by
  unfold State.on; rw [State.get_setChan]
@[simp] theorem State.rd_setPair (s : State) (k : Nat) (v : Pair) (a : Nat) : (s.setPair k v).rd a = s.rd a := by
  unfold State.rd; rw [State.setPair_regs]
@[simp] theorem State.get_setPair (s : State) (k : Nat) (v : Pair) (f : Fld) : (s.setPair k v).get f = s.get f := by
  unfold State.get; rw [State.rd_setPair]
@[simp] theorem State.on_setPair (s : State) (k : Nat) (v : Pair) (f : Fld) : (s.setPair k v).on f = s.on f := by
  unfold State.on; rw [State.get_setPair]
@[simp] theorem State.rd_setTile (s : State) (k : Nat) (v : Tile) (a : Nat) : (s.setTile k v).rd a = s.rd a := by
  unfold State.rd; rw [State.setTile_regs]
@[simp] theorem State.get_setTile (s : State) (k : Nat) (v : Tile) (f : Fld) : (s.setTile k v).get f = s.get f := by
  unfold State.get; rw [State.rd_setTile]
@[simp] theorem State.on_setTile (s : State) (k : Nat) (v : Tile) (f : Fld) : (s.setTile k v).on f = s.on f := by
  unfold State.on; rw [State.get_setTile]
@[simp] theorem State.rd_setLane (s : State) (k : Nat) (v : LaneSt) (a : Nat) : (s.setLane k v).rd a = s.rd a := by
  unfold State.rd; rw [State.setLane_regs]
@[simp] theorem State.get_setLane (s : State) (k : Nat) (v : LaneSt) (f : Fld) : (s.setLane k v).get f = s.get f := by
  unfold State.get; rw [State.rd_setLane]
@[simp] theorem State.on_setLane (s : State) (k : Nat) (v : LaneSt) (f : Fld) : (s.setLane k v).on f = s.on f := by
  unfold State.on; rw [State.get_setLane]
@[simp] theorem State.rd_setPort (s : State) (k : Nat) (v : PortSt) (a : Nat) : (s.setPort k v).rd a = s.rd a := by
  unfold State.rd; rw [State.setPort_regs]
@[simp] theorem State.get_setPort (s : State) (k : Nat) (v : PortSt) (f : Fld) : (s.setPort k v).get f = s.get f := by
  unfold State.get; rw [State.rd_setPort]
@[simp] theorem State.on_setPort (s : State) (k : Nat) (v : PortSt) (f : Fld) : (s.setPort k v).on f = s.on f := by
  unfold State.on; rw [State.get_setPort]
@[simp] theorem State.rd_setArb (s : State) (k : Nat) (v : Arb) (a : Nat) : (s.setArb k v).rd a = s.rd a := by
  unfold State.rd; rw [State.setArb_regs]
@[simp] theorem State.get_setArb (s : State) (k : Nat) (v : Arb) (f : Fld) : (s.setArb k v).get f = s.get f := by
  unfold State.get; rw [State.rd_setArb]
@[simp] theorem State.on_setArb (s : State) (k : Nat) (v : Arb) (f : Fld) : (s.setArb k v).on f = s.on f := by
  unfold State.on; rw [State.get_setArb]
@[simp] theorem State.rd_setVword (s : State) (k : Nat) (v : Nat) (a : Nat) : (s.setVword k v).rd a = s.rd a := by
  unfold State.rd; rw [State.setVword_regs]
@[simp] theorem State.get_setVword (s : State) (k : Nat) (v : Nat) (f : Fld) : (s.setVword k v).get f = s.get f := by
  unfold State.get; rw [State.rd_setVword]
@[simp] theorem State.on_setVword (s : State) (k : Nat) (v : Nat) (f : Fld) : (s.setVword k v).on f = s.on f := by
  unfold State.on; rw [State.get_setVword]
@[simp] theorem State.rd_setCmds (s : State) (k : Nat) (v : List HCmd) (a : Nat) : (s.setCmds k v).rd a = s.rd a := by
  unfold State.rd; rw [State.setCmds_regs]
@[simp] theorem State.get_setCmds (s : State) (k : Nat) (v : List HCmd) (f : Fld) : (s.setCmds k v).get f = s.get f := by
  unfold State.get; rw [State.rd_setCmds]
@[simp] theorem State.on_setCmds (s : State) (k : Nat) (v : List HCmd) (f : Fld) : (s.setCmds k v).on f = s.on f := by
  unfold State.on; rw [State.get_setCmds]
@[simp] theorem State.rd_setBufs (s : State) (k : Nat) (v : List HBuf) (a : Nat) : (s.setBufs k v).rd a = s.rd a := by
  unfold State.rd; rw [State.setBufs_regs]
@[simp] theorem State.get_setBufs (s : State) (k : Nat) (v : List HBuf) (f : Fld) : (s.setBufs k v).get f = s.get f := by
  unfold State.get; rw [State.rd_setBufs]
@[simp] theorem State.on_setBufs (s : State) (k : Nat) (v : List HBuf) (f : Fld) : (s.setBufs k v).on f = s.on f := by
  unfold State.on; rw [State.get_setBufs]
@[simp] theorem State.rd_emit (s : State) (x : Out) (a : Nat) : (s.emit x).rd a = s.rd a := by
  unfold State.rd; rw [State.emit_regs]
@[simp] theorem State.get_emit (s : State) (x : Out) (f : Fld) : (s.emit x).get f = s.get f := by
  unfold State.get; rw [State.rd_emit]
@[simp] theorem State.on_emit (s : State) (x : Out) (f : Fld) : (s.emit x).on f = s.on f := by
  unfold State.on; rw [State.get_emit]
@[simp] theorem State.rd_emits (s : State) (x : List Out) (a : Nat) : (s.emits x).rd a = s.rd a := by
  unfold State.rd; rw [State.emits_regs]
@[simp] theorem State.get_emits (s : State) (x : List Out) (f : Fld) : (s.emits x).get f = s.get f := by
  unfold State.get; rw [State.rd_emits]
@[simp] theorem State.on_emits (s : State) (x : List Out) (f : Fld) : (s.emits x).on f = s.on f := by
  unfold State.on; rw [State.get_emits]

end Sys2Proof.Machine
end

