-- ==== Sys2Proof/Tests/Slice0.lean ====
section
/-! SUPPORT. Tests: ill-formed commands are refused, worked examples of the spec, and for every statement a state and operands that meet
the hypotheses of each of its clauses. -/

namespace Sys2Proof.Tests
open Sys2Proof.Machine
set_option Elab.async false

/-! Ill-formed commands, one for each check (`Instr.wf`). -/

theorem test_wf_refuses_0 : ([
  .perstNAssert 4,
  .resetDeassert 4 false,
  .permanentFault 6,
  .orbClkWrite false (2 ^ 32),
  .orbLenWrite false (2 ^ 32),
  .calRunStart 64,
  .quietBegin 64,
  .quietEnd 64,
  .calInject 64,
  .calCounterReset 64,
  .calVtdc 64,
  .calMon 64,
  .calScrubBurst 64,
  .calDump 64,
  .calClaspDigest 64,
  .calScopeTrigger 64,
  .exchangeStart 16 0 0,
  .probeReceived 16 0 0 0 0 0,
  .probeReceived 0 256 0 0 0 0,
  .reply2Received 16 0 0,
  .reply2Received 0 256 0,
  .reply3Received 16 0 0 0 0,
  .reply3Received 0 256 0 0 0,
  .probeTimeout 16 0,
  .probeTimeout 0 256,
  .feCtrlWrite false (2 ^ 32),
  .feThrOfsWrite false (2 ^ 32),
  .feChWrite false 16384 0,
  .feChWrite false 0 (2 ^ 32),
  .leadingEdge 16384 0 0 ⟨0, 0⟩,
  .leadingEdge 0 16384 0 ⟨0, 0⟩,
  .leadingEdge 0 0 64 ⟨0, 0⟩,
  .leadingEdge 0 0 0 ⟨512, 0⟩,
  .trailingEdge 16384 0 ⟨0, 0⟩,
  .trailingEdge 0 16384 ⟨0, 0⟩,
  .trailingEdge 0 0 ⟨256, 0⟩,
  .holdoffEnd 16384,
  .overRange 16384,
  .blindEnd 16384,
  .channelRetire 16384,
  .channelSettled 16384,
  .pairIdle 32776,
  .conversionDone 16384,
  .totTimeout 16384,
  .conversionOverrun 32776,
  .vtdcCalStart 32776,
  .vtdcCalDone 32776 0 0,
  .bulkPassResume 32776,
  .vtdcPselWrite false (2 ^ 32),
  .utilEdge 4 0 0 ⟨0, false, 0⟩,
  .utilEdge 0 16384 0 ⟨0, false, 0⟩,
  .utilEdge 0 0 64 ⟨0, false, 0⟩,
  .utilEdge 0 0 0 ⟨512, false, 0⟩,
  .entryExpire 256,
  .retrievalStart 64,
  .galleryWordArrive 256,
  .grantTimeout 256,
  .totalTimeout 64 0,
  .totalTimeout 0 256,
  .arbEvaluationPoint 35] : List Instr).all (fun c => !c.wf) = true := by decide

theorem test_wf_refuses_1 : ([
  .arbWindowEnd 35,
  .canaryBite 35,
  .trigInWord 256,
  .busyMsgReceived 16 false,
  .selfTriggerEval 16384,
  .specRelease 16384,
  .tallyDumpGo false (2 ^ 32),
  .vaultRepairCmd false (2 ^ 32),
  .vaultWindowWrite false 0 3 0,
  .vaultWindowWrite false 0 2 (2 ^ 64),
  .bar2Read 0 3,
  .facetCodingDone 4,
  .frameReceived 16 false [],
  .rxStageAdmit 16,
  .blockLock 16,
  .blockLockLoss 16 0,
  .badControlBlock 16,
  .abortBlock 16 0 0,
  .abortBlock 0 3 0,
  .suspendBlock 16 0,
  .suspendBlock 0 3,
  .resumeBlock 16 0,
  .resumeBlock 0 3,
  .alignReceived 16 0 0 false,
  .alignCadence 16,
  .creditBlock 16 0 0,
  .creditBlock 0 3 0,
  .creditRefresh 16,
  .ackBlock 16 0 0,
  .ackBlock 0 3 0,
  .ackBlock 0 0 (2 ^ 16),
  .nakBlock 16 0 0,
  .nakBlock 0 3 0,
  .nakBlock 0 0 (2 ^ 16),
  .replayTimeout 16 0,
  .replayTimeout 0 3,
  .holdBlock 16 0 false,
  .holdBlock 0 (2 ^ 16) false,
  .sleepBlock 16 0,
  .sleepBlock 0 (2 ^ 16),
  .portWidthWrite false 16 0,
  .portWidthWrite false 0 (2 ^ 32),
  .laneWakeReady 16,
  .eyeMeasure 16 0 0,
  .laneRetrainDone 16 0,
  .eqSlow 16,
  .eqFreeze 16,
  .portCfgWrite false 16 0,
  .portCfgWrite false 0 (2 ^ 32),
  .laneCtrlWrite false 16 0,
  .laneCtrlWrite false 0 (2 ^ 32),
  .trainAttemptTimeout 16 false,
  .portBaseDone 16,
  .switchDone 16,
  .deskewDone 16,
  .loopRequest 16,
  .loopGrant 16,
  .loopRefuse 16,
  .loopEnd 16,
  .vc0MessageRoute 16 []] : List Instr).all (fun c => !c.wf) = true := by decide

theorem test_wf_refuses_2 : ([
  .newChild 16 0 0 0 0 0 0 0,
  .newChild 0 1024 0 0 0 0 0 0,
  .newChild 0 0 0 16 0 0 0 0,
  .newChild 0 0 0 0 0 0 1024 0,
  .assign 16 0 0 0 0 false false 0 0 0,
  .assign 0 1024 0 0 0 false false 0 0 0,
  .assign 0 0 1024 0 0 false false 0 0 0,
  .assign 0 0 0 0 16 false false 0 0 0,
  .assign 0 0 0 0 0 false false 0 1024 0,
  .refuse 16 0 0,
  .refuse 0 16 0,
  .rehomed 16 [],
  .detach 16 [],
  .home 16 false ⟨false, 0, 0⟩,
  .home 0 false ⟨false, 1024, 0⟩,
  .home 0 false ⟨false, 0, 1024⟩,
  .cfgRdMsg 16 0 0 0,
  .cfgRdMsg 0 1024 0 0,
  .cfgWrMsg 16 0 0 0 0,
  .cfgWrMsg 0 1024 0 0 0,
  .cfgWrMsg 0 0 0 0 (2 ^ 32),
  .cfgResp 1024 0 0 0 0,
  .treeDiscoverWrite false (2 ^ 32),
  .witnessReceived 1024 0 0 0,
  .pair 1024 0 0 [],
  .dig 0 8192 0 0 0 0 0,
  .dig 0 0 65536 0 0 0 0,
  .claspKey 1024 0 [] [],
  .ringCfgWrite false 8192 0,
  .ringCfgWrite false 0 (2 ^ 32),
  .hifNudge false (2 ^ 32),
  .badOp 8192,
  .commandTimeout 8192 0,
  .commandTimeout 0 65536,
  .unitDeliver 8192,
  .ringDropTimeout 8192,
  .coalesceTimeout 128,
  .capChunk 16 0 0 0 [],
  .capChunk 0 1024 0 0 [],
  .attestReq 16 0 0 [],
  .attestReq 0 1024 0 [],
  .attestResp 1024 0 [],
  .hello 16 [],
  .proof 16 [],
  .finish 16 [],
  .fail 16,
  .authTimeout 16,
  .authRetry 16,
  .rekeyDue false 1024,
  .oldKeyExpire 16,
  .e2eHello 16 0 [],
  .e2eHello 0 1024 [],
  .e2eProof 16 0 [],
  .e2eProof 0 1024 [],
  .e2eFinish 16 0 [],
  .e2eFinish 0 1024 [],
  .e2eFail 16 0,
  .e2eFail 0 1024,
  .e2eRestart 16,
  .monInjGo false (2 ^ 32)] : List Instr).all (fun c => !c.wf) = true := by decide

theorem test_wf_refuses_3 : ([
  .monExcWrite false false 32 0,
  .monExcWrite false false 0 (2 ^ 32),
  .monModeWrite false (2 ^ 32),
  .monCalNone false (2 ^ 32),
  .intZero false (2 ^ 32),
  .sysZero false (2 ^ 32),
  .sysFull false (2 ^ 32),
  .refCheck false (2 ^ 32),
  .strikeDecay 10,
  .faultPolicyWrite false 10 0,
  .faultPolicyWrite false 1 (2 ^ 32),
  .registerWrite false 0 (2 ^ 32) 0,
  .registerWrite false 0 0 16,
  .arbRelease 35,
  .feSettled { s1 := 0, s2 := 0, counts := [], excs := [{ pair := 32776, s1 := 0, s2 := 0, counts := [] }] }] : List Instr).all (fun c => !c.wf) = true := by decide

/-- A small die in a run state and role, in F-cycle `f` of a slot. -/
def die (f : Nat) (r : RunState) (role : Role) : State :=
  { regs := []
    sys := { run := r, role := role, readyBall := r.isReady, fuseDone := true, memDone := true, pllDone := true, serialUp := true }
    time := { fRun := true, counting := true, now := 6425600, slots := 100400, fcyc := f % 64, slot := 500, orbit := 77, len := 4096 } }

/-- The state after a command, or reset where it ends in none. -/
def after (c : Instr) (s : State) : State := match exec c s with
  | .next t => t
  | _ => .reset

/-! Worked examples of the spec. -/

/-- The data entry of the example after R139, and its parity bits. -/
theorem test_data_entry : dataEntry 2000 19 37459 291 = 0x1F4139253123 ∧ parity48 0x1F4139253123 = 0b100111 := by decide
/-- Channel 2,387 lies at row 18, column 43 (example after R130). -/
theorem test_channel_place : chanRow 2387 = 18 ∧ chanCol 2387 = 43 ∧ chanAt 18 43 = 2387 := by decide
/-- The calibration of the example after R100: sums 2,016 and 4,066 give bin 32,736 and offset 276. -/
theorem test_pair_calibration :
    let t := after (.vtdcCalDone 10 2016 4066) ((die 0 .running .leaf).setPair 10 { cal := true })
    (t.pair 10).bin = 32736 ∧ (t.pair 10).off = 276 := by decide +kernel

/-- A leaf whose channel 5 is heard, its pair 10 calibrated as in that example. -/
def vernier : State :=
  ((((((die 0 .running .leaf).put F.FE_CTRL_MATRIX_EN 1).put F.FE_STATUS_SETTLED 1).put (F.FE_CH_PD 5) 0).put (F.FE_CH_MASK 5) 0).put F.ORB_LEN_LEN 4096).setPair
    10 { nocal := false, bin := 32736, off := 276, ds := 2050, calSlot := 100400 }

/-- Launched at F-cycle 37 with count 52, pair A of the channel stamps fine time 37,459 (example after R104). -/
theorem test_leading_edge :
    ((after (.leadingEdge 5 1234 37 ⟨52, 4000⟩) vernier).chan 5).hits.map (fun h => (h.pair, h.tfu % 65536)) = [(0, 37459)] := by decide +kernel
/-- Its trailing edge in the next slot, F-cycle 45, quarter 1, gives TOT 291 (example after R106). -/
theorem test_trailing_edge :
    ((after (.trailingEdge 5 1235 ⟨181, 0⟩) (after (.leadingEdge 5 1234 37 ⟨52, 4000⟩) vernier)).chan 5).hits.map (fun h => h.tot) = [some 291] := by decide +kernel
/-- CRC-32C of the nine digits, the polynomial's usual check value (R259). -/
theorem test_crc : crc32c [0x31, 0x32, 0x33, 0x34, 0x35, 0x36, 0x37, 0x38, 0x39] = 0xE3069283 := by decide +kernel
/-- Taking the front command leaves the rest of the queue. -/
theorem test_step_takes_front :
    (match step { die 0 .ready .leaf with pending := [.registerWrite false Reg.SYS_SCRATCH 9 15, .powerOnReset] } with
      | .next t => decide (t.rd Reg.SYS_SCRATCH = 9 ∧ t.pending = [.powerOnReset])
      | _ => false) = true := by decide +kernel
/-- A read of SYS_STATUS in RUNNING answers the role, the run state and READY (R19, R22). -/
theorem test_status_reads :
    (after (.multiwordRead Reg.SYS_STATUS) (die 0 .running .leaf)).out = [.readback (0x040 + 1 + Role.leaf.code * 256) false] := by decide +kernel

/-- A MAC cut or filled to its length is not empty. -/
theorem padTo_ne_nil {n : Nat} (bs : List Byte) : padTo (n + 1) bs ≠ [] := by
  intro h
  have e : (padTo (n + 1) bs).length = n + 1 := by
    simp only [padTo, List.length_take, List.length_append, List.length_replicate]; omega
  rw [h] at e; cases e

/-- Cutting twice cuts once. -/
theorem padTo_of_length {n : Nat} {bs : List Byte} (h : bs.length = n) : padTo n bs = bs := by
  subst h; simp [padTo]

theorem length_padTo (n : Nat) (bs : List Byte) : (padTo n bs).length = n := by
  simp only [padTo, List.length_take, List.length_append, List.length_replicate]; omega

theorem padTo_padTo {n : Nat} (bs : List Byte) : padTo n (padTo n bs) = padTo n bs := padTo_of_length (length_padTo n bs)

/-- Another hash than this one. -/
theorem padTo_flip {n : Nat} (bs : List Byte) : padTo (n + 1) ((padTo (n + 1) bs).map (fun b => b + 1)) ≠ padTo (n + 1) bs := by
  rw [padTo_of_length (by rw [List.length_map, length_padTo])]
  intro h
  cases e : padTo (n + 1) bs with
  | nil => exact padTo_ne_nil bs e
  | cons b l =>
    rw [e, List.map_cons, List.cons.injEq] at h
    exact absurd h.1 ((by decide : ∀ x : Byte, x + 1 ≠ x) b)

/-- A FINISH whose MAC is the receiver's own verifies. -/
theorem finishOk_own (x : Sess) (d : Bool) (h : x.dRx ≠ none) : x.finishOk d (finishMsg x.confRx (x.hash d)) = true := by
  have e : ∀ bs : List Byte, slice ([3, 0, 0, 0, 0, 0, 0, 0] ++ padTo 8 bs) 8 8 = padTo 8 bs := by
    intro bs; simp [slice, padTo]
  simp only [Sess.finishOk, h, ne_eq, not_false_eq_true, decide_true, Bool.true_and, decide_eq_true_eq]
  exact e _

/-- An empty FINISH does not verify. -/
theorem finishOk_nil (x : Sess) (d : Bool) : x.finishOk d [] = false := by
  have := (padTo_ne_nil (n := 7) (Config.cmac x.confRx (x.hash d))).symm
  simp [Sess.finishOk, slice, this]

/-! The hypotheses of the statements are met. -/

theorem wit_StepOnEmptyQueueIsOneFCycle :
    (∃ s : State, s.pending = [] ∧ Awake s ∧ s.time.fRun = false) ∧
    (∃ s : State, s.pending = [] ∧ Awake s ∧ s.time.fRun = true ∧ (s.time.counting = false ∨ 1 < s.toOrbitEnd)) :=
  ⟨⟨{ die 0 .ready .leaf with time := {} }, by decide⟩,
   ⟨die 63 .running .root, by decide⟩⟩

theorem wit_StepKeepsTheReadyBall :
    (∃ s t : State, readySound s ∧ step s = .next t) :=
  ⟨{ die 0 .ready .leaf with time := {} }, { die 0 .ready .leaf with time := {} }, by decide, rfl⟩

theorem wit_RunStateMovesOnlyAlongItsTable :
    (∃ (c : Instr) (s t : State), exec c s = .next t ∧ ¬ isReset c) ∧
    (∃ (c : Instr) (s t : State), exec c s = .next t ∧ s.sys.run = .safe ∧ t.sys.run ≠ .safe) ∧
    (∃ (c : Instr) (s t : State), exec c s = .next t ∧ s.sys.run = .reset ∧ t.sys.run ≠ .reset) :=
  ⟨⟨.tapOperation .trst, die 0 .ready .leaf, _, rfl, fun h => h⟩,
   ⟨.powerOnReset, die 0 .safe .leaf, _, rfl, by decide, by decide +kernel⟩,
   ⟨.resetDeassert 0 false, die 0 .reset .leaf, _, rfl, by decide, by decide +kernel⟩⟩

theorem wit_RefusedWritesHaveNoSideEffect :
    (∃ (s : State) (a v : Nat), Awake s ∧ ((s.busWrite a v).1.status = 1 ∨ (s.busWrite a v).1.status = 2 ∨ (s.busWrite a v).1.status = 0x10)) ∧
    (∃ (s : State), Awake s ∧ s.sys.run.isReady = true) :=
  ⟨⟨die 1 .ready .root, vaultBase + 8, 7, by decide +kernel⟩,
   ⟨die 5 .hold .relay, by decide +kernel⟩⟩

theorem wit_BytesAndNuggetsReadBack :
    (∃ (tile len trig data : Nat), tile < 256 ∧ -8 ≤ relSlot len (bitsOf data 34 14) trig ∧ relSlot len (bitsOf data 34 14) trig ≤ 7) :=
  ⟨255, 4096, 20, 12 * 2 ^ 34 + 0x3FFFFFFFF, by decide +kernel⟩

namespace P02
def b02 (s : State) : State := { s with fault := { s.fault with log := [(3, [1])] }, sys := { s.sys with porSeen := false } }
def rs02 (por rst : Bool) : State := { sys := { run := .reset, porSeen := por, rstSeen := rst, readyBall := false }, regs := [], fuse := { boots := 16383 } }
end P02

open P02 in
theorem wit_ResetsAndTheirRelease :
    (∃ (s : State), s.sys.run ≠ .reset ∧ s.sys.role = .root) ∧
    (∃ (s : State), s.sys.run ≠ .reset ∧ s.sys.role ≠ .root) ∧
    (∃ (s : State), s.sys.run = .reset) ∧
    (∃ (s : State), s.sys.run ≠ .reset) :=
  ⟨⟨b02 (die 1 .running .root), by decide +kernel⟩,
   ⟨b02 (die 1 .running .leaf), by decide +kernel⟩,
   ⟨rs02 true true, by decide +kernel⟩,
   ⟨die 1 .running .leaf, by decide +kernel⟩⟩

namespace P04
def i04 (seed : Nat) (role : Role) (f : SysSt → SysSt) (lock : Nat := 0) : State :=
  let s := die seed .init role
  let s := (List.range 16).foldl (fun s p => (s.put (F.PORT_CFG_TYPE p) 0).put (F.PORT_STATUS_STATE p) 0) s
  let s := (s.put (F.PORT_CFG_TYPE 5) 3).put (F.PORT_STATUS_STATE 5) 0
  { s.put F.ORB_STATUS_PLL_LOCK lock with sys := f { s.sys with fuseDone := false, memDone := false, pllDone := false, serialUp := true, noRef := false } }
def cs04 : CalSet := { excs := [], s1 := 3, s2 := 4, counts := [] }
def d04 (seed : Nat) (run : RunState) (role : Role) (up : Bool) (cnt : Nat) : State :=
  let s := die seed run role
  let s := (List.range 16).foldl (fun s p => (s.put (F.PORT_CFG_TYPE p) 0).put (F.PORT_STATUS_STATE p) 0) s
  let s := (((s.put (F.PORT_CFG_TYPE 5) 3).put (F.PORT_STATUS_STATE 5) (if up then 6 else 0)).put (F.FAULT_POLICY_DECAY 3) 55).wr Reg.HALL_PORT_SAFE 0
  let s := if role = .root then s else ((s.put (F.PORT_CFG_TYPE 2) 1).put (F.PORT_STATUS_STATE 2) (if up then 6 else 0))
  { s with sys := { s.sys with serialUp := up }, fault := { s.fault with started := true, count := [(3, cnt)], strikes := [(unitKey 3 7, 1), (unitKey 3 8, 5), (unitKey 4 1, 2)] } }
end P04

open P04 in
theorem wit_StartUpStepsLeadToReady :
    (∃ (s : State), Awake s ∧ s.sys.run = .init ∧ s.sys.fuseDone = false ∧ (s.sys.role ≠ .factory ∨ s.fuse.factoryTest = true)) ∧
    (∃ (s : State), Awake s ∧ s.sys.run = .init ∧ s.sys.fuseDone = false ∧ s.sys.role = .factory ∧ s.fuse.factoryTest = false) ∧
    (∃ (s : State), Awake s ∧ s.sys.run = .init ∧ s.sys.fuseDone = true ∧ s.sys.memDone = false) ∧
    (∃ (s : State), Awake s ∧ s.sys.fuseDone = true ∧ s.on F.ORB_STATUS_PLL_LOCK = false ∧ (s.srcShaft = true → s.sys.serialUp = true)) ∧
    (∃ (s : State), Awake s ∧ s.sys.run = .init ∧ s.sys.memDone = true ∧ (s.sys.pllDone = true ∨ s.sys.noRef = true)) ∧
    (∃ (s : State), Awake s ∧ s.sys.run = .init ∧ s.sys.fuseDone = true ∧ s.sys.pllDone = false ∧ s.sys.noRef = false) :=
  ⟨⟨i04 1 .leaf id, by decide +kernel⟩,
   ⟨i04 1 .factory id, by decide +kernel⟩,
   ⟨i04 1 .root (fun s => { s with fuseDone := true }), by decide +kernel⟩,
   ⟨i04 1 .root (fun s => { s with fuseDone := true }), by decide +kernel⟩,
   ⟨i04 2 .leaf (fun s => { s with fuseDone := true, memDone := true, pllDone := true }), by decide +kernel⟩,
   ⟨i04 1 .root (fun s => { s with fuseDone := true }), by decide +kernel⟩⟩

namespace P03
def w03 (s : State) : State := { s with fault := { s.fault with waiting := [[1], [2, 3]] } }
end P03

open P03 in
open P04 in
theorem wit_FaultsSuppliesAndPolicyTakeEffect :
    (∃ (s : State) (code : Nat), Awake s ∧ 1 ≤ code ∧ code ≤ 4 ∧ s.sys.run ≠ .safe) ∧
    (∃ (s : State) (code : Nat), Awake s ∧ 1 ≤ code ∧ code ≤ 4 ∧ s.sys.run = .safe) ∧
    (∃ (s : State), Awake s ∧ s.on F.TREE_ID_NUMBERED = true ∧ s.sys.run ≠ .safe ∧ s.uplinks = s) ∧
    (∃ (s : State), Awake s ∧ (s.on F.TREE_ID_NUMBERED = false ∨ s.sys.run = .safe)) ∧
    (∃ (s : State) (ty p : Nat), Awake s ∧ 1 ≤ ty ∧ ty ≤ 9 ∧ p < 16 ∧ s.sys.serialUp = true ∧ s.portKind p ≠ 0) ∧
    (∃ (s : State) (ty p : Nat), Awake s ∧ 1 ≤ ty ∧ ty ≤ 9 ∧ p < 16 ∧ s.sys.serialUp = false) ∧
    (∃ (s : State) (ty p : Nat), Awake s ∧ 1 ≤ ty ∧ ty ≤ 9 ∧ p < 16 ∧ s.fault.started = true ∧ sget 0 s.fault.count ty = 1 ∧ 0 < s.get (F.FAULT_POLICY_DECAY ty) ∧ s.time.fRun = true ∧ s.time.counting = true) ∧
    (∃ (s : State) (ty p : Nat), Awake s ∧ 1 ≤ ty ∧ ty ≤ 9 ∧ p < 16 ∧ (s.sys.run = .ready ∨ s.sys.run = .armed) ∧ s.bus.held = []) ∧
    (∃ (s : State) (ty p : Nat), Awake s ∧ 1 ≤ ty ∧ ty ≤ 9 ∧ p < 16 ∧ (s.sys.run = .running ∨ s.sys.run = .hold)) :=
  ⟨⟨w03 ((die 1 .running .root).put F.TREE_ID_NUMBERED 1), 3, by decide +kernel⟩,
   ⟨w03 ((die 2 .safe .leaf).put F.TREE_ID_NUMBERED 1), 4, by decide +kernel⟩,
   ⟨w03 ((die 1 .running .root).put F.TREE_ID_NUMBERED 1), by decide +kernel⟩,
   ⟨w03 ((die 2 .safe .leaf).put F.TREE_ID_NUMBERED 1), by decide +kernel⟩,
   ⟨d04 1 .running .root true 1, 3, 5, by decide +kernel⟩,
   ⟨d04 1 .armed .leaf false 2, 3, 2, by decide +kernel⟩,
   ⟨d04 1 .running .root true 1, 3, 5, by decide +kernel⟩,
   ⟨d04 1 .ready .leaf true 1, 3, 2, by decide +kernel⟩,
   ⟨d04 1 .running .root true 1, 3, 5, by decide +kernel⟩⟩

namespace P05
def b05 (seed : Nat) (run : RunState) (role : Role) : State :=
  let s := die seed run role
  let s := ((s.put F.ORB_CLK_SRC 0).put F.ORB_STATUS_ORBIT_LOCK 1).put F.ORB_CTRL_MISS_LIMIT (seed % 4)
  let s := s.wr Reg.ORB_LEN 4096
  { s with time := { s.time with missRun := seed % 3, lastMark := some (s.time.slots - 5) } }
def b05c (seed : Nat) (run : RunState) : State := { (b05 seed run .leaf) with sys := { (b05 seed run .leaf).sys with stopPend := true, holdOrbits := 20 }, tiles := [(3, { drops := [4, 900000], buf := [{ slots := 7, data := 5, dpar := 0 }, { slots := 800000, data := 5, dpar := 0 }] })], trg := { (b05 seed run .leaf).trg with frozen := seed % 2 = 0 } }
end P05

open P05 in
theorem wit_OrbitsMarkersAndTheEndOfCapture :
    (∃ (s : State), Awake s ∧ s.time.fRun = true ∧ s.time.counting = true ∧ s.time.slot < s.time.len ∧ s.time.fcyc < 64) ∧
    (∃ (s : State) (h : Nat), Awake s ∧ s.srcBall = true ∧ s.time.fRun = true ∧ s.time.highAt = some h ∧ h + 1 = s.time.slots) ∧
    (∃ (s : State) (l : Nat), Awake s ∧ s.srcBall = true ∧ s.time.fRun = true ∧ s.time.highAt = none ∧ s.time.lastMark = some l ∧ s.on F.ORB_STATUS_ORBIT_LOCK = true ∧ s.time.slot = 0) ∧
    (∃ (s : State) (l : Nat), Awake s ∧ s.srcBall = true ∧ s.time.fRun = true ∧ s.time.highAt = none ∧ s.time.lastMark = some l ∧ s.on F.ORB_STATUS_ORBIT_LOCK = true ∧ 0 < s.time.slot ∧ s.time.slot < 2 ^ 14) ∧
    (∃ (s : State), Awake s ∧ s.srcBall = true ∧ s.time.fRun = true ∧ s.time.highAt = none ∧ s.on F.ORB_STATUS_ORBIT_LOCK = false ∧ s.on F.ORB_STATUS_PLL_LOCK = false) ∧
    (∃ (s : State), Awake s ∧ s.trg.ready = [] ∧ s.asm.frags = [] ∧ s.asm.waits = [] ∧ s.asm.groupFrom = none ∧ (∀ x ∈ s.tiles, x.2.resp = []) ∧ s.sys.stopPend = true ∧ s.sys.run = .running ∧ s.time.fRun = true ∧ s.time.counting = true ∧ s.time.slot < s.time.len ∧ s.time.fcyc < 64) ∧
    (∃ (s : State), Awake s ∧ s.trg.ready = [] ∧ s.asm.frags = [] ∧ s.asm.waits = [] ∧ s.asm.groupFrom = none ∧ (∀ x ∈ s.tiles, x.2.resp = []) ∧ s.sys.stopPend = true ∧ s.sys.run = .hold) ∧
    (∃ (s : State), Awake s ∧ s.trg.ready = [] ∧ s.asm.frags = [] ∧ s.asm.waits = [] ∧ s.asm.groupFrom = none ∧ (∀ x ∈ s.tiles, x.2.resp = []) ∧ s.sys.run = .hold ∧ 0 < s.get F.SYS_HOLD_LIMIT_LIMIT ∧ s.get F.SYS_HOLD_LIMIT_LIMIT ≤ s.sys.holdOrbits) ∧
    (∃ (s : State), Awake s ∧ s.trg.ready = [] ∧ s.asm.frags = [] ∧ s.asm.waits = [] ∧ s.asm.groupFrom = none ∧ (∀ x ∈ s.tiles, x.2.resp = []) ∧ s.sys.run = .hold ∧ s.get F.SYS_HOLD_LIMIT_LIMIT = 0) :=
  ⟨⟨b05 1 .running .root, by decide +kernel⟩,
   ⟨{ b05 1 .running .root with time := { (b05 1 .running .root).time with highAt := some ((b05 1 .running .root).time.slots - 1) } }, 100399, by decide +kernel⟩,
   ⟨{ b05 1 .running .root with time := { (b05 1 .running .root).time with slot := 0 } }, (b05 1 .running .root).time.slots - 5, by decide +kernel⟩,
   ⟨b05 1 .running .root, (b05 1 .running .root).time.slots - 5, by decide +kernel⟩,
   ⟨((b05 1 .running .root).put F.ORB_STATUS_ORBIT_LOCK 0).put F.ORB_STATUS_PLL_LOCK 0, by decide +kernel⟩,
   ⟨b05c 3 .running, by decide +kernel⟩,
   ⟨b05c 2 .hold, by decide +kernel⟩,
   ⟨b05c 2 .hold, by decide +kernel⟩,
   ⟨(b05c 3 .hold).put F.SYS_HOLD_LIMIT_LIMIT 0, by decide +kernel⟩⟩

namespace P06
def b06 (seed : Nat) (run : RunState) (src : Nat) : State :=
  let s := die seed run (if src = 1 then .leaf else .root)
  let s := (((s.put F.ORB_CLK_SRC src).put F.ORB_STATUS_PLL_LOCK (seed % 2)).put F.CLASP_CTRL_ENABLE 0)
  let s := s.wr Reg.ORB_LEN 4096
  let s := (List.range 16).foldl (fun s p => s.wr (Reg.PORT_CFG p) 0) s
  { s with time := { s.time with markerAge := 3, slot := 100 + seed } }
def b06s (seed : Nat) (pa : Nat) (port : Bool) : State :=
  let s := (b06 seed .running 1).put F.ORB_PA_STATUS_STATE pa
  let s := s.put F.TREE_STATUS_USE 0
  let s := if port then (s.wr (Reg.PORT_CFG 3) 0x4000000F) else s
  let s := (s.put F.ORB_PA_CTRL_FREEZE 0).put F.ORB_STATUS_PLL_LOCK 1
  s.setPort 3 { s.port 3 with rttCnt := 4, rttSum := 40000 }
def m06 (len : Nat) : MarkerMsg := { orbit := 77, len := len, holdover := false, pathv := 3, sec := 5, ns := 6, chain := 8, ofs := 9 }
def u06 (s : State) : State := s.elapse 1
def c06 (seed : Nat) (role : Role) (src : Nat) (c : Bool) : State :=
  let s := die seed .ready role
  let s := (((((s.put F.ORB_CLK_SRC src).put F.ORB_STATUS_PLL_LOCK (seed % 2)).put F.CLASP_CTRL_ENABLE 0).put F.WALL_SERVO_SRC 2).put F.TREE_ID_NUMBERED 0).put F.ORB_LEN_LEN 700
  { s with time := { s.time with slot := 100 + seed, counting := c, fRun := c } }
def e06 (s : State) : State := { s with time := { s.time with slot := s.time.len - 1, fcyc := 63 } }
end P06

open P06 in
theorem wit_TimingIsLostHeldAndFollowed :
    (∃ (s : State), Awake s ∧ (s.srcBall = true ∨ s.srcRef = true) ∧ s.on F.ORB_STATUS_PLL_LOCK = false) ∧
    (∃ (s : State), Awake s ∧ s.srcShaft = true ∧ 3 ≤ s.time.markerAge ∧ (s.pa = paAligned ∨ s.pa = paDegraded ∨ s.pa = paAcquire) ∧ s.shaftPort = none) ∧
    (∃ (s : State) (p : Nat), Awake s ∧ s.srcShaft = true ∧ 3 ≤ s.time.markerAge ∧ (s.pa = paAligned ∨ s.pa = paDegraded ∨ s.pa = paAcquire) ∧ s.shaftPort = some p) ∧
    (∃ (s : State), Awake s ∧ s.srcShaft = true ∧ s.time.markerAge < 3) ∧
    (∃ (s : State) (p : Nat) (m : MarkerMsg), Awake s ∧ s.isRoot = false ∧ s.srcShaft = true ∧ s.mainShaft = some p ∧ s.shaftPort = some p ∧ 0 < m.len ∧ m.pathv = 3 ∧ m.holdover = false ∧ m.len ≠ s.get F.ORB_LEN_LEN ∧ s.pa ≠ paReference ∧ s.pa ≠ paFrozen) ∧
    (∃ (s : State) (p : Nat) (m : MarkerMsg), Awake s ∧ s.isRoot = false ∧ s.srcShaft = true ∧ s.mainShaft = some p ∧ s.shaftPort = some p ∧ 0 < m.len ∧ m.pathv = 3 ∧ m.holdover = false ∧ m.len = s.get F.ORB_LEN_LEN ∧ s.pa = paFrozen) ∧
    (∃ (s : State) (p : Nat) (m : MarkerMsg), Awake s ∧ s.isRoot = false ∧ s.srcShaft = true ∧ s.mainShaft = some p ∧ s.shaftPort = some p ∧ 0 < m.len ∧ m.pathv = 3 ∧ m.holdover = false ∧ m.len = s.get F.ORB_LEN_LEN ∧ s.pa = paHunt ∧ s.on F.ORB_PA_CTRL_FREEZE = false ∧ 0 < (s.port p).rttCnt ∧ s.time.fRun = true ∧ s.on F.ORB_STATUS_PLL_LOCK = true) ∧
    (∃ (s : State) (p : Nat) (m : MarkerMsg), Awake s ∧ s.isRoot = false ∧ s.srcShaft = true ∧ s.mainShaft = some p ∧ s.shaftPort = some p ∧ 0 < m.len ∧ m.pathv = 3 ∧ m.holdover = false ∧ m.len = s.get F.ORB_LEN_LEN ∧ s.pa = paAligned ∧ s.get F.WALL_SERVO_SRC ≠ 1) :=
  ⟨⟨b06 2 .ready 2, by decide +kernel⟩,
   ⟨b06s 1 3 false, by decide +kernel⟩,
   ⟨b06s 1 4 true, 3, by decide +kernel⟩,
   ⟨{ b06s 1 4 true with time := {} }, by decide +kernel⟩,
   ⟨b06s 1 1 true, 3, m06 4097, by decide +kernel⟩,
   ⟨b06s 1 6 true, 3, m06 4096, by decide +kernel⟩,
   ⟨b06s 1 1 true, 3, m06 4096, by decide +kernel⟩,
   ⟨b06s 1 3 true, 3, m06 4096, by decide +kernel⟩⟩

open P06 in
theorem wit_ClockAndWallWritesTakeEffect :
    (∃ (s u : State) (v : Nat), Awake s ∧ s.sys.run.isReady = true ∧ u = s.elapse 1 ∧ s.sys.run = .ready ∧ (v % 4 = 0 ∧ s.isRoot = true ∨ v % 4 = 1 ∧ s.isRoot = false ∨ v % 4 = 2 ∧ (s.isRoot = true ∨ s.on F.TREE_ID_NUMBERED = false) ∧ s.clasped = false) ∧ v % 4 ≠ s.get F.ORB_CLK_SRC) ∧
    (∃ (s u : State) (v : Nat), Awake s ∧ s.sys.run.isReady = true ∧ u = s.elapse 1 ∧ s.sys.run = .ready ∧ (v % 4 = 0 ∧ s.isRoot = true ∨ v % 4 = 1 ∧ s.isRoot = false ∨ v % 4 = 2 ∧ (s.isRoot = true ∨ s.on F.TREE_ID_NUMBERED = false) ∧ s.clasped = false ∨ v % 4 = 3) ∧ (v % 4 = 3 ∨ v % 4 = s.get F.ORB_CLK_SRC)) ∧
    (∃ (s u : State) (v : Nat), Awake s ∧ s.sys.run.isReady = true ∧ u = s.elapse 1 ∧ s.sys.run = .ready ∧ max 512 (v % 2 ^ 14) ≠ s.get F.ORB_LEN_LEN) ∧
    (∃ (s u : State) (v : Nat), Awake s ∧ s.sys.run.isReady = true ∧ u = s.elapse 1 ∧ s.sys.run = .ready ∧ max 512 (v % 2 ^ 14) = s.get F.ORB_LEN_LEN) ∧
    (∃ (s u : State), Awake s ∧ s.sys.run.isReady = true ∧ u = s.elapse 1 ∧ s.get F.WALL_SERVO_SRC ≠ 1 ∧ s.time.fRun = false) ∧
    (∃ (s u : State), Awake s ∧ s.sys.run.isReady = true ∧ u = s.elapse 1 ∧ s.get F.WALL_SERVO_SRC ≠ 1 ∧ s.time.fRun = true ∧ (s.time.counting = true → s.time.slot * 64 + s.time.fcyc + 1 < s.time.len * 64)) ∧
    (∃ (s u : State), Awake s ∧ s.sys.run.isReady = true ∧ u = s.elapse 1 ∧ s.get F.WALL_SERVO_SRC ≠ 1 ∧ s.time.fRun = true ∧ s.time.counting = true ∧ s.time.len * 64 ≤ s.time.slot * 64 + s.time.fcyc + 1) :=
  ⟨⟨c06 1 .root 0 true, u06 (c06 1 .root 0 true), 0x2, by decide +kernel⟩,
   ⟨c06 3 .root 0 false, u06 (c06 3 .root 0 false), 700, by decide +kernel⟩,
   ⟨c06 1 .root 0 true, u06 (c06 1 .root 0 true), 0x2, by decide +kernel⟩,
   ⟨c06 3 .root 0 false, u06 (c06 3 .root 0 false), 700, by decide +kernel⟩,
   ⟨c06 1 .root 2 false, u06 (c06 1 .root 2 false), by decide +kernel⟩,
   ⟨c06 1 .root 0 true, u06 (c06 1 .root 0 true), by decide +kernel⟩,
   ⟨e06 (c06 3 .leaf 1 true), u06 (e06 (c06 3 .leaf 1 true)), by decide +kernel⟩⟩

namespace P08
def b08 (seed : Nat) (run : RunState) (role : Role) (act arg : Nat) : State :=
  let s := die seed run role
  let s := ((s.put F.ORB_CLK_SRC 2).put F.ORB_STATUS_PLL_LOCK 1).put F.ORB_CAL_LEN_LEN 4
  let s := s.wr Reg.ORB_RUN_ORBIT 5
  let s := ((s.put F.FE_CTRL_MATRIX_EN 1).put F.FE_STATUS_SETTLED 1).put F.CLASP_CTRL_ENABLE 1
  { s with time := { s.time with orbit := 9, calLen := 4, cal := [(2, 0x80000000 + 15 * 2 ^ 27 + act * 2 ^ 21 + arg * 2 ^ 14 + 2000)] } }
def q08 (q : Nat) (s : State) : State := { s.put F.ORB_STATUS_QUIET q with time := { s.time with quiets := if q = 1 then [(s.time.slots - 5, s.time.slots + 3000)] else [] } }
def u08 (s : State) : State := (s.atEntry 2).getD {}
end P08

open P08 in
theorem wit_CalendarEntriesFireAtTheirSlot_1 :
    (∃ (s u : State) (i : Nat), Awake s ∧ s.atEntry i = some u ∧ s.calDue i 1 = true ∧ s.sys.run = .armed ∧ 0 ≤ toSigned 32 (ofSigned 32 ((u.time.orbit : Int) - u.rd Reg.ORB_RUN_ORBIT))) ∧
    (∃ (s u : State) (i : Nat), Awake s ∧ s.atEntry i = some u ∧ s.calDue i 1 = true ∧ s.sys.run ≠ .armed) ∧
    (∃ (s u : State) (i : Nat), Awake s ∧ s.atEntry i = some u ∧ s.calDue i 2 = true ∧ u.locked = true ∧ u.on F.ORB_STATUS_QUIET = false) ∧
    (∃ (s u : State) (i : Nat), Awake s ∧ s.atEntry i = some u ∧ s.calDue i 2 = true ∧ u.locked = true ∧ u.on F.ORB_STATUS_QUIET = true) ∧
    (∃ (s u : State) (i : Nat), Awake s ∧ s.atEntry i = some u ∧ s.calDue i 3 = true ∧ u.locked = true) ∧
    (∃ (s u : State) (i : Nat), Awake s ∧ s.atEntry i = some u ∧ s.calDue i 2 = true ∧ u.locked = false) ∧
    (∃ (s u : State) (i : Nat), Awake s ∧ s.atEntry i = some u ∧ s.calDue i 3 = true ∧ u.locked = false) ∧
    (∃ (s u : State) (i : Nat), Awake s ∧ s.atEntry i = some u ∧ s.calDue i 1 = false) :=
  ⟨⟨b08 1 .armed .root 1 0, u08 (b08 1 .armed .root 1 0), 2, by decide +kernel⟩,
   ⟨q08 1 (b08 3 .running .leaf 1 0), u08 (q08 1 (b08 3 .running .leaf 1 0)), 2, by decide +kernel⟩,
   ⟨q08 0 (b08 1 .armed .leaf 2 0), u08 (q08 0 (b08 1 .armed .leaf 2 0)), 2, by decide +kernel⟩,
   ⟨q08 1 (b08 3 .running .leaf 2 0), u08 (q08 1 (b08 3 .running .leaf 2 0)), 2, by decide +kernel⟩,
   ⟨q08 1 (b08 1 .armed .leaf 3 0), u08 (q08 1 (b08 1 .armed .leaf 3 0)), 2, by decide +kernel⟩,
   ⟨(q08 0 (b08 3 .armed .leaf 2 0)).put F.ORB_STATUS_PLL_LOCK 0, u08 ((q08 0 (b08 3 .armed .leaf 2 0)).put F.ORB_STATUS_PLL_LOCK 0), 2, by decide +kernel⟩,
   ⟨(q08 1 (b08 3 .armed .leaf 3 0)).put F.ORB_STATUS_PLL_LOCK 0, u08 ((q08 1 (b08 3 .armed .leaf 3 0)).put F.ORB_STATUS_PLL_LOCK 0), 2, by decide +kernel⟩,
   ⟨q08 0 (b08 1 .armed .leaf 2 0), u08 (q08 0 (b08 1 .armed .leaf 2 0)), 2, by decide +kernel⟩⟩

open P08 in
theorem wit_CalendarEntriesFireAtTheirSlot_2 :
    (∃ (s u : State) (i : Nat), Awake s ∧ s.atEntry i = some u ∧ s.calDue i 2 = false) ∧
    (∃ (s u : State) (i : Nat), Awake s ∧ s.atEntry i = some u ∧ s.calDue i 3 = false) ∧
    (∃ (s u : State) (i : Nat), Awake s ∧ s.atEntry i = some u ∧ s.calDue i 4 = true ∧ s.sys.run.capturing = true ∧ u.listens = true) ∧
    (∃ (s u : State) (i : Nat), Awake s ∧ s.atEntry i = some u ∧ s.calDue i 4 = true ∧ s.sys.run.capturing = true ∧ u.listens = false) ∧
    (∃ (s u : State) (i : Nat), Awake s ∧ s.atEntry i = some u ∧ s.calDue i 5 = true ∧ s.sys.run.capturing = true) ∧
    (∃ (s u : State) (i : Nat), Awake s ∧ s.atEntry i = some u ∧ s.calDue i 6 = true ∧ s.sys.run.capturing = true ∧ u.quiet = true ∧ u.on F.VTDC_STATUS_BULK_ACTIVE = false) ∧
    (∃ (s u : State) (i : Nat), Awake s ∧ s.atEntry i = some u ∧ s.calDue i 6 = true ∧ s.sys.run.capturing = true ∧ u.quiet = false) ∧
    (∃ (s u : State) (i : Nat), Awake s ∧ s.atEntry i = some u ∧ s.calDue i 7 = true ∧ s.sys.run.capturing = true ∧ (u.get F.MON_CAL_STATUS_STATE = 1 ∨ u.get F.MON_CAL_STATUS_STATE = 2)) :=
  ⟨⟨b08 1 .armed .root 1 0, u08 (b08 1 .armed .root 1 0), 2, by decide +kernel⟩,
   ⟨b08 1 .armed .root 1 0, u08 (b08 1 .armed .root 1 0), 2, by decide +kernel⟩,
   ⟨b08 1 .running .leaf 4 7, u08 (b08 1 .running .leaf 4 7), 2, by decide +kernel⟩,
   ⟨(b08 1 .running .leaf 4 7).put F.FE_STATUS_SETTLED 0, u08 ((b08 1 .running .leaf 4 7).put F.FE_STATUS_SETTLED 0), 2, by decide +kernel⟩,
   ⟨b08 1 .running .leaf 5 9, u08 (b08 1 .running .leaf 5 9), 2, by decide +kernel⟩,
   ⟨(q08 1 (b08 1 .hold .leaf 6 9)).put F.VTDC_STATUS_BULK_ACTIVE 0, u08 ((q08 1 (b08 1 .hold .leaf 6 9)).put F.VTDC_STATUS_BULK_ACTIVE 0), 2, by decide +kernel⟩,
   ⟨(b08 1 .hold .leaf 6 9).put F.VTDC_STATUS_BULK_ACTIVE 0, u08 ((b08 1 .hold .leaf 6 9).put F.VTDC_STATUS_BULK_ACTIVE 0), 2, by decide +kernel⟩,
   ⟨(b08 1 .hold .leaf 7 0).put F.MON_CAL_STATUS_STATE 1, u08 ((b08 1 .hold .leaf 7 0).put F.MON_CAL_STATUS_STATE 1), 2, by decide +kernel⟩⟩

open P08 in
theorem wit_CalendarEntriesFireAtTheirSlot_3 :
    (∃ (s u : State) (i : Nat), Awake s ∧ s.atEntry i = some u ∧ s.calDue i 7 = true ∧ s.sys.run.capturing = true ∧ (u.get F.MON_CAL_STATUS_STATE = 0 ∨ u.get F.MON_CAL_STATUS_STATE = 3)) ∧
    (∃ (s u : State) (i : Nat), Awake s ∧ s.atEntry i = some u ∧ s.calDue i 8 = true ∧ s.sys.run.capturing = true ∧ u.scrubs = true ∧ u.quietWork = false) ∧
    (∃ (s u : State) (i : Nat), Awake s ∧ s.atEntry i = some u ∧ s.calDue i 9 = true ∧ s.sys.run.capturing = true ∧ s.isRoot = false ∧ u.tally.dump = none) ∧
    (∃ (s u : State) (i : Nat), Awake s ∧ s.atEntry i = some u ∧ s.calDue i 9 = true ∧ s.sys.run.capturing = true ∧ s.isRoot = false ∧ u.tally.dump.isSome = true) ∧
    (∃ (s u : State) (i : Nat), Awake s ∧ s.atEntry i = some u ∧ s.calDue i 0xA = true ∧ s.sys.run.capturing = true ∧ s.clasped = true) ∧
    (∃ (s u : State) (i : Nat), Awake s ∧ s.atEntry i = some u ∧ s.calDue i 0xC = true ∧ s.sys.run.capturing = true ∧ u.mon.scope.on = true) ∧
    (∃ (s u : State) (i : Nat), Awake s ∧ s.atEntry i = some u ∧ s.sys.run.capturing = false ∧ s.calDue i 4 = true) ∧
    (∃ (s u : State) (i : Nat), Awake s ∧ s.atEntry i = some u ∧ s.sys.run.capturing = false ∧ s.calDue i 5 = true) :=
  ⟨⟨(b08 1 .hold .leaf 7 1).put F.MON_CAL_STATUS_STATE 0, u08 ((b08 1 .hold .leaf 7 1).put F.MON_CAL_STATUS_STATE 0), 2, by decide +kernel⟩,
   ⟨(b08 1 .hold .leaf 8 1).put F.ORB_STATUS_QUIET 0, u08 ((b08 1 .hold .leaf 8 1).put F.ORB_STATUS_QUIET 0), 2, by decide +kernel⟩,
   ⟨b08 1 .hold .leaf 9 0, u08 (b08 1 .hold .leaf 9 0), 2, by decide +kernel⟩,
   ⟨{ b08 1 .hold .leaf 9 21 with tally := { dump := some { sel := 1, keep := false, id := 4, at' := .first } } }, u08 { b08 1 .hold .leaf 9 21 with tally := { dump := some { sel := 1, keep := false, id := 4, at' := .first } } }, 2, by decide +kernel⟩,
   ⟨b08 1 .hold .root 10 0, u08 (b08 1 .hold .root 10 0), 2, by decide +kernel⟩,
   ⟨{ b08 1 .hold .root 12 0 with mon := { scope := { on := true } } }, u08 { b08 1 .hold .root 12 0 with mon := { scope := { on := true } } }, 2, by decide +kernel⟩,
   ⟨b08 1 .ready .leaf 4 0, u08 (b08 1 .ready .leaf 4 0), 2, by decide +kernel⟩,
   ⟨b08 1 .ready .leaf 5 3, u08 (b08 1 .ready .leaf 5 3), 2, by decide +kernel⟩⟩

open P08 in
theorem wit_CalendarEntriesFireAtTheirSlot_4 :
    (∃ (s u : State) (i : Nat), Awake s ∧ s.atEntry i = some u ∧ s.sys.run.capturing = false ∧ s.calDue i 6 = true) ∧
    (∃ (s u : State) (i : Nat), Awake s ∧ s.atEntry i = some u ∧ s.sys.run.capturing = false ∧ s.calDue i 7 = true) ∧
    (∃ (s u : State) (i : Nat), Awake s ∧ s.atEntry i = some u ∧ s.sys.run.capturing = false ∧ s.calDue i 8 = true) ∧
    (∃ (s u : State) (i : Nat), Awake s ∧ s.atEntry i = some u ∧ s.sys.run.capturing = false ∧ s.calDue i 9 = true) ∧
    (∃ (s u : State) (i : Nat), Awake s ∧ s.atEntry i = some u ∧ s.sys.run.capturing = false ∧ s.calDue i 0xA = true) ∧
    (∃ (s u : State) (i : Nat), Awake s ∧ s.atEntry i = some u ∧ s.sys.run.capturing = false ∧ s.calDue i 0xC = true) :=
  ⟨⟨b08 1 .ready .leaf 6 3, u08 (b08 1 .ready .leaf 6 3), 2, by decide +kernel⟩,
   ⟨b08 1 .ready .leaf 7 3, u08 (b08 1 .ready .leaf 7 3), 2, by decide +kernel⟩,
   ⟨b08 1 .ready .leaf 8 3, u08 (b08 1 .ready .leaf 8 3), 2, by decide +kernel⟩,
   ⟨b08 1 .ready .leaf 9 0, u08 (b08 1 .ready .leaf 9 0), 2, by decide +kernel⟩,
   ⟨b08 1 .ready .leaf 10 3, u08 (b08 1 .ready .leaf 10 3), 2, by decide +kernel⟩,
   ⟨b08 1 .ready .leaf 12 3, u08 (b08 1 .ready .leaf 12 3), 2, by decide +kernel⟩⟩

namespace P10
def b10 (seed : Nat) (role : Role) (cfg : Nat) (t2 : Option Nat) : State :=
  let s := die seed .running role
  let s := (List.range 16).foldl (fun s p => s.wr (Reg.PORT_CFG p) 0) s
  let s := ((s.wr (Reg.PORT_CFG 3) cfg).put (F.PORT_STATUS_STATE 3) 2).put F.TREE_STATUS_USE 1
  let s := s.setPort 3 { s.port 3 with lanes := [0,1], rttCnt := 4, rttSum := 555 }
  let s := (s.put (F.LANE_STATUS_LOCK 0) 1).put (F.LANE_STATUS_LOCK 1) 1
  { s with phase := { nextSeq := 255, exch := [{ seq := 7, port := 3, t1 := 100 , t2 := t2, began := s.time.slots - 200 }] } }
def e10 (s : State) : Exch := (s.phase.exch.head?).getD { seq := 0, port := 0, t1 := 0, began := 0 }
def a10 (s : State) (d : Nat) : State := (s.atF (s.fNow + d)).getD {}
def v10 (s u : State) (sub d3 : Nat) : State := ((u.block 3 0x88 (7 + u.stampAtBall 3 sub * 256)).atF (u.fNow + d3)).getD {}
def k10 (s : State) : State := { s with time := { s.time with slot := 100, fcyc := 3 } }
def p10 : State := ((k10 (b10 3 .root 0xC000000F none)).put F.TREE_STATUS_USE 1)
end P10

namespace P11
def b11 (seed : Nat) (role : Role) (src : Nat) (st : Bool) : State :=
  let s := die seed .running role
  let s := s.put F.WALL_SERVO_SRC src
  { s with wall := { s.wall with setAtPps := st, fresh := true, ptmOut := some 5 }, fault := { retired := [] } }
def a11 (s : State) (d : Nat) : State := (s.atF (s.fNow + d)).getD {}
def b11c (seed : Nat) : State := ((b11 seed .leaf 2 false).put F.WALL_STATUS_LOCKED 1).put F.WALL_PPS_WIN_WIN 1
def b11d (seed : Nat) : State := ((b11 seed .leaf 2 false).put F.WALL_STATUS_LOCKED 0).put F.WALL_STATUS_SRC_LOST 0
def c11 (f : WallSt → WallSt) (s : State) : State := { s with wall := f s.wall }
end P11

open P10 in
open P11 in
theorem wit_ExchangesAndWallSourcesMeasure :
    (∃ (s u : State) (p d : Nat) (e : Exch), Awake s ∧ s.exchanges p = true ∧ s.atF (s.fNow + d) = some u ∧ (u.phase.exch.filter (fun e => decide (e.port = p))).length < 4 ∧ u.exchangeDue p = true) ∧
    (∃ (s u : State) (p d : Nat) (e : Exch), Awake s ∧ s.exchanges p = true ∧ s.atF (s.fNow + d) = some u ∧ (4 ≤ (u.phase.exch.filter (fun e => decide (e.port = p))).length ∨ u.exchangeDue p = false)) ∧
    (∃ (s : State) (p : Nat), Awake s ∧ s.exchanges p = false) ∧
    (∃ (s u v : State) (p seq d sub d3 : Nat), Awake s ∧ s.portKind p = 3 ∧ s.time.fRun = true ∧ 0 < s.portState p ∧ s.atF (s.fNow + d) = some u ∧ (u.block p 0x88 (seq % 256 + u.stampAtBall p sub * 256)).atF (u.fNow + d3) = some v) ∧
    (∃ (s : State) (p : Nat), Awake s ∧ (s.portKind p ≠ 3 ∨ s.time.fRun = false ∨ s.portState p = 0)) ∧
    (∃ (s u : State) (p seq d t2 : Nat) (e : Exch), Awake s ∧ s.exchOf p seq = some e ∧ e.t2 = some t2 ∧ s.atF (s.fNow + d) = some u) ∧
    (∃ (s u : State) (p seq : Nat) (e : Exch), Awake s ∧ s.exchOf p seq = some e ∧ s.atSlot (e.began + 256) = some u) ∧
    (∃ (s : State) (p seq : Nat), Awake s ∧ s.exchOf p seq = none) ∧
    (∃ (s u : State) (d : Nat), Awake s ∧ s.time.fRun = true ∧ s.atF (s.fNow + d) = some u ∧ u.wall.setAtPps = true) ∧
    (∃ (s u : State) (d : Nat), Awake s ∧ s.time.fRun = true ∧ s.atF (s.fNow + d) = some u ∧ u.wall.setAtPps = false ∧ s.get F.WALL_SERVO_SRC = 2 ∧ s.on F.WALL_STATUS_LOCKED = true ∧ s.get F.WALL_PPS_WIN_WIN * 4294967296 < u.ppsOffset.natAbs) ∧
    (∃ (s u : State) (d : Nat), Awake s ∧ s.time.fRun = true ∧ s.atF (s.fNow + d) = some u ∧ u.wall.setAtPps = false ∧ s.get F.WALL_SERVO_SRC = 2 ∧ (s.on F.WALL_STATUS_LOCKED = false ∨ u.ppsOffset.natAbs ≤ s.get F.WALL_PPS_WIN_WIN * 4294967296)) ∧
    (∃ (s u : State) (d : Nat), Awake s ∧ s.time.fRun = true ∧ s.atF (s.fNow + d) = some u ∧ u.wall.setAtPps = false ∧ s.get F.WALL_SERVO_SRC ≠ 2) ∧
    (∃ (s : State), Awake s ∧ s.time.fRun = false) ∧
    (∃ (s : State), Awake s ∧ ((s.get F.WALL_SERVO_SRC = 2 ∧ 2 * secUnit ≤ s.wall.sinceAcc) ∨ (s.get F.WALL_SERVO_SRC = 3 ∧ 4 * s.ptmPeriod ≤ s.wall.ptmHeard)) ∧ s.wall.srcLost = false) ∧
    (∃ (s : State), Awake s ∧ ((s.get F.WALL_SERVO_SRC = 2 → s.wall.sinceAcc < 2 * secUnit) ∧ (s.get F.WALL_SERVO_SRC = 3 → s.wall.ptmHeard < 4 * s.ptmPeriod) ∨ s.wall.srcLost = true)) ∧
    (∃ (s : State), Awake s ∧ s.isRoot = true ∧ s.get F.WALL_SERVO_SRC = 3 ∧ s.on F.HIF_STATUS_PTM_EN = true ∧ s.wall.ptmAge.all (fun n => decide (s.ptmPeriod ≤ n)) = true) ∧
    (∃ (s : State), Awake s ∧ s.wall.ptmAge.any (fun n => decide (n < s.ptmPeriod)) = true) ∧
    (∃ (s : State), Awake s ∧ s.wall.ptmOut = none) ∧
    (∃ (s : State) (w : Nat), Awake s ∧ s.wall.ptmOut = some w ∧ s.get F.WALL_SERVO_SRC = 3) ∧
    (∃ (s : State) (w : Nat), Awake s ∧ s.wall.ptmOut = some w ∧ s.get F.WALL_SERVO_SRC ≠ 3) :=
  ⟨⟨k10 (b10 1 .leaf 0x4000000F none), a10 (k10 (b10 1 .leaf 0x4000000F none)) 40, 3, 40, e10 (k10 (b10 1 .leaf 0x4000000F none)), by decide +kernel⟩,
   ⟨(k10 (b10 1 .leaf 0x4000000F none)).setPort 3 { (k10 (b10 1 .leaf 0x4000000F none)).port 3 with probed := some (k10 (b10 1 .leaf 0x4000000F none)).exchangePeriod }, a10 ((k10 (b10 1 .leaf 0x4000000F none)).setPort 3 { (k10 (b10 1 .leaf 0x4000000F none)).port 3 with probed := some (k10 (b10 1 .leaf 0x4000000F none)).exchangePeriod }) 40, 3, 40, e10 ((k10 (b10 1 .leaf 0x4000000F none)).setPort 3 { (k10 (b10 1 .leaf 0x4000000F none)).port 3 with probed := some (k10 (b10 1 .leaf 0x4000000F none)).exchangePeriod }), by decide +kernel⟩,
   ⟨p10, 3, by decide +kernel⟩,
   ⟨p10, a10 (p10) 40, v10 (p10) (a10 (p10) 40) 5 9, 3, 7, 40, 5, 9, by decide +kernel⟩,
   ⟨k10 (b10 1 .leaf 0x4000000F none), 3, by decide +kernel⟩,
   ⟨k10 (b10 2 .leaf 0x4000000F (some 1000)), a10 (k10 (b10 2 .leaf 0x4000000F (some 1000))) 40, 3, 7, 40, 1000, e10 (k10 (b10 2 .leaf 0x4000000F (some 1000))), by decide +kernel⟩,
   ⟨k10 (b10 2 .leaf 0x4000000F (some 1000)), ((k10 (b10 2 .leaf 0x4000000F (some 1000))).atSlot ((b10 2 .leaf 0x4000000F (some 1000)).time.slots + 56)).getD {}, 3, 7, e10 (b10 2 .leaf 0x4000000F (some 1000)), by decide +kernel⟩,
   ⟨k10 (b10 2 .leaf 0x4000000F (some 1000)), 3, 8, by decide +kernel⟩,
   ⟨b11 1 .leaf 2 true, a11 (b11 1 .leaf 2 true) 50, 50, by decide +kernel⟩,
   ⟨b11c 2, a11 (b11c 2) 50, 50, by decide +kernel⟩,
   ⟨b11d 2, a11 (b11d 2) 50, 50, by decide +kernel⟩,
   ⟨(b11 2 .root 3 false).put F.HIF_STATUS_PTM_EN 1, a11 ((b11 2 .root 3 false).put F.HIF_STATUS_PTM_EN 1) 50, 50, by decide +kernel⟩,
   ⟨{ b11 1 .root 1 false with time := {} }, by decide +kernel⟩,
   ⟨c11 (fun w => { w with sinceAcc := 3 * secUnit }) (b11d 2), by decide +kernel⟩,
   ⟨b11 1 .leaf 2 true, by decide +kernel⟩,
   ⟨(b11 2 .root 3 false).put F.HIF_STATUS_PTM_EN 1, by decide +kernel⟩,
   ⟨c11 (fun w => { w with ptmAge := some 0 }) (b11 1 .root 3 false), by decide +kernel⟩,
   ⟨{(b11 2 .root 3 false) with wall := {}}, by decide +kernel⟩,
   ⟨(b11 2 .root 3 false).put F.HIF_STATUS_PTM_EN 1, 5, by decide +kernel⟩,
   ⟨b11 1 .leaf 2 true, 5, by decide +kernel⟩⟩

theorem wit_ReadsAnswerAndLatch :
    (∃ (s : State), Awake s ∧ s.sys.fuseDone = true ∧ (∀ p ∈ s.bus.held, p.1 ∉ [Reg.ORB_SLOT, Reg.WALL_NS, Reg.ORB_ORBIT, Reg.TALLY_SUM 5]) ∧ s.isRoot = false) ∧
    (∃ (s : State) (a : Nat), Awake s ∧ s.sys.fuseDone = true ∧ (∀ p ∈ s.bus.held, p.1 ∉ [Reg.ORB_SLOT, Reg.WALL_NS, Reg.ORB_ORBIT, Reg.TALLY_SUM 5]) ∧ findReg a = none ∧ inVault a = false) :=
  ⟨⟨die 1 .running .leaf, by decide +kernel⟩,
   ⟨die 1 .running .leaf, 0x3, by decide +kernel⟩⟩

namespace P13
def b13 (seed : Nat) (en : Nat) (role : Role) : State :=
  let s := die seed .ready role
  let s := (s.put F.FE_CTRL_MATRIX_EN en).put F.FE_STATUS_OFS_PEND 1
  s
def cnt13 : List (List Nat) := []
def c13 : CalSet := { s1 := 1000, s2 := 3048, counts := cnt13, excs := [{ pair := 10, s1 := 900, s2 := 2900, counts := cnt13 }] }
def q13 (seed q : Nat) : State :=
  let s := (((b13 seed 1 .leaf).put F.ORB_CLK_SRC 2).put F.ORB_STATUS_PLL_LOCK 1).put F.ORB_STATUS_QUIET 0
  { s with time := { s.time with calLen := 4, cal := [(2, 0x80000000 + 15 * 2 ^ 27 + 2 * 2 ^ 21 + q)] } }
def u13 (s : State) : State := match s.nextQuiet with | some q => if q = s.time.slot then s else (s.atCycle q 0).getD {} | none => {}
end P13

open P13 in
theorem wit_FrontEndIsSetAndSettles :
    (∃ (s : State) (v : Nat), Awake s ∧ s.sys.run = .ready ∧ s.isRoot = false ∧ s.on F.FE_CTRL_MATRIX_EN = false ∧ v % 2 = 1) ∧
    (∃ (s : State) (v : Nat), Awake s ∧ s.sys.run = .ready ∧ s.isRoot = false ∧ s.on F.FE_CTRL_MATRIX_EN = true ∧ v % 2 = 0) ∧
    (∃ (s : State) (n : Nat), Awake s ∧ s.sys.run = .ready ∧ s.isRoot = false ∧ n < 16384 ∧ s.on F.FE_CTRL_MATRIX_EN = true) ∧
    (∃ (s u : State) (q : Nat), Awake s ∧ s.on F.FE_STATUS_OFS_PEND = true ∧ s.locked = true ∧ s.nextQuiet = some q ∧ (if q = s.time.slot then some s else s.atCycle q 0) = some u ∧ u.on F.FE_STATUS_OFS_PEND = true) ∧
    (∃ (s : State), Awake s ∧ (s.on F.FE_STATUS_OFS_PEND = false ∨ s.locked = false ∨ s.nextQuiet = none)) ∧
    (∃ (s : State), Awake s ∧ s.matrixOn = true ∧ s.time.fRun = true ∧ s.on F.FE_STATUS_SETTLED = false ∧ s.sys.run ≠ .init) ∧
    (∃ (s : State), Awake s ∧ s.matrixOn = false ∧ s.time.fRun = true ∧ s.on F.FAULT_BOOT_NOREF = true ∧ s.sys.run ≠ .init ∧ s.sys.run ≠ .safe) :=
  ⟨⟨b13 1 0 .leaf, 3, by decide +kernel⟩,
   ⟨b13 3 1 .leaf, 0x12345678, by decide +kernel⟩,
   ⟨b13 2 1 .relay, 0, by decide +kernel⟩,
   ⟨q13 1 2000, u13 (q13 1 2000), 2000, by decide +kernel⟩,
   ⟨q13 1 3, by decide +kernel⟩,
   ⟨q13 1 2000, by decide +kernel⟩,
   ⟨((b13 1 0 .relay).put F.FAULT_BOOT_NOREF 1).put F.VTDC_CAL_INL_LIMIT 255, by decide +kernel⟩⟩

namespace P14
def b14 (seed : Nat) : State :=
  let s := die seed .running .leaf
  let s := ((s.put F.FE_CTRL_MATRIX_EN 1).put F.FE_STATUS_SETTLED 1).put (F.FE_CH_PD 9) 0
  let s := s.put (F.FE_CH_MASK 9) 0
  s.put (F.FE_CH_PD 5) 0
def u14 (s : State) (ls lf : Nat) : State := (s.atCycle ls lf).getD s
def b14b (seed) := (b14 seed).setChan 9 { high := true, hits := [{ pair := 0, launch := (b14 seed).fNow, n := 40, tfu := (b14 seed).fNow * 1024 - 300 }] }
def b14c (seed) := (b14 seed).setChan 9 { high := true, ignored := true, hits := [{ pair := 0, launch := (b14 seed).fNow - 900, n := 40, tfu := ((b14 seed).fNow - 900) * 1024 - 300 }] }
def h14 (s : State) : Hit0 := ((s.chan 9).hits.head?).getD { pair := 0, launch := 0, n := 0, tfu := 0 }
def b14d (seed : Nat) : State := (b14 seed).setChan 9 { blindFrom := some 5 }
end P14

open P14 in
theorem wit_EdgesAreStampedAndGiveTheirTot :
    (∃ (s u : State) (n ls lf : Nat) (out : Int), Awake s ∧ n < 16384 ∧ s.atCycle ls lf = some u ∧ ((u.chan n).high = true ∨ out < u.qLead n)) ∧
    (∃ (s u : State) (n ls lf cnt : Nat) (out : Int), Awake s ∧ n < 16384 ∧ s.atCycle ls lf = some u ∧ (u.chan n).high = false ∧ u.qLead n ≤ out ∧ u.hears n (edgeFine u.fNow cnt / 65536) = false) ∧
    (∃ (s u : State) (n ls lf cnt : Nat) (out : Int), Awake s ∧ n < 16384 ∧ s.atCycle ls lf = some u ∧ (u.chan n).high = false ∧ u.qLead n ≤ out ∧ u.hears n (edgeFine u.fNow cnt / 65536) = true ∧ edgeFine u.fNow cnt < (u.chan n).holdTo) ∧
    (∃ (s u : State) (n ls lf cnt : Nat) (out : Int), Awake s ∧ n < 16384 ∧ s.atCycle ls lf = some u ∧ (u.chan n).high = false ∧ u.qLead n ≤ out ∧ u.hears n (edgeFine u.fNow cnt / 65536) = true ∧ (u.chan n).holdTo ≤ edgeFine u.fNow cnt ∧ ((u.chan n).blindIn (edgeFine u.fNow cnt / 65536) || (u.isRetired 2 (2 * n) && u.isRetired 2 (2 * n + 1))) = true) ∧
    (∃ (s u : State) (n ls lf cnt : Nat) (out : Int), Awake s ∧ n < 16384 ∧ s.atCycle ls lf = some u ∧ (u.chan n).high = false ∧ u.qLead n ≤ out ∧ u.hears n (edgeFine u.fNow cnt / 65536) = true ∧ (u.chan n).holdTo ≤ edgeFine u.fNow cnt ∧ (u.chan n).blindIn (edgeFine u.fNow cnt / 65536) = false ∧ (u.isRetired 2 (2 * n) && u.isRetired 2 (2 * n + 1)) = false ∧ choosePair (u.pairFree (2 * n)) (u.pairFree (2 * n + 1)) (u.chan n).lastB = none) ∧
    (∃ (s u : State) (n ls lf cnt : Nat) (out : Int) (p : Nat), Awake s ∧ n < 16384 ∧ s.atCycle ls lf = some u ∧ (u.chan n).high = false ∧ u.qLead n ≤ out ∧ u.hears n (edgeFine u.fNow cnt / 65536) = true ∧ (u.chan n).holdTo ≤ edgeFine u.fNow cnt ∧ (u.chan n).blindIn (edgeFine u.fNow cnt / 65536) = false ∧ (u.isRetired 2 (2 * n) && u.isRetired 2 (2 * n + 1)) = false ∧ choosePair (u.pairFree (2 * n)) (u.pairFree (2 * n + 1)) (u.chan n).lastB = some p) ∧
    (∃ (s u : State) (n ts tq : Nat) (out : Int), Awake s ∧ s.atCycle ts (tq / 4) = some u ∧ ((u.chan n).high = false ∨ u.qTrail n ≤ out)) ∧
    (∃ (s u : State) (n ts tq : Nat) (out : Int) (h : Hit0), Awake s ∧ s.atCycle ts (tq / 4) = some u ∧ (u.chan n).high = true ∧ out < u.qTrail n ∧ (u.chan n).ignored = false ∧ u.listens = true ∧ (u.chan n).hits.find? (fun h => h.tot.isNone) = some h) ∧
    (∃ (s u : State) (n ts tq : Nat) (out : Int), Awake s ∧ s.atCycle ts (tq / 4) = some u ∧ (u.chan n).high = true ∧ out < u.qTrail n ∧ ((u.chan n).ignored = true ∨ u.listens = false)) ∧
    (∃ (s u : State) (n : Nat) (h : Hit0), Awake s ∧ (s.chan n).hits.find? (fun h => h.tot.isNone) = some h ∧ s.atF (h.launch + 1024) = some u) :=
  ⟨⟨b14 1, u14 (b14 1) 1200 5, 9, 1200, 5, -50000, by decide +kernel⟩,
   ⟨(b14 4).put (F.FE_CH_PD 5) 1, u14 ((b14 4).put (F.FE_CH_PD 5) 1) 1200 5, 5, 1200, 5, 40, 50000, by decide +kernel⟩,
   ⟨(b14 4).setChan 9 { holdTo := 2 ^ 60 }, u14 ((b14 4).setChan 9 { holdTo := 2 ^ 60 }) 1200 5, 9, 1200, 5, 40, 50000, by decide +kernel⟩,
   ⟨b14d 1, u14 (b14d 1) 1200 5, 9, 1200, 5, 40, 50000, by decide +kernel⟩,
   ⟨((b14 4).setPair 18 {busy := true}).setPair 19 {busy := true}, u14 (((b14 4).setPair 18 {busy := true}).setPair 19 {busy := true}) 1200 5, 9, 1200, 5, 40, 50000, by decide +kernel⟩,
   ⟨b14 1, u14 (b14 1) 1200 5, 9, 1200, 5, 40, 50000, 0, by decide +kernel⟩,
   ⟨b14b 4, u14 (b14b 4) 1200 5, 9, 1200, 23, 50000, by decide +kernel⟩,
   ⟨b14b 4, u14 (b14b 4) 1200 5, 9, 1200, 23, -90000, h14 (b14b 4), by decide +kernel⟩,
   ⟨b14c 5, u14 (b14c 5) 1200 5, 9, 1200, 23, -90000, by decide +kernel⟩,
   ⟨b14c 5, ((b14c 5).atF ((h14 (b14c 5)).launch + 1024)).getD {}, 9, h14 (b14c 5), by decide +kernel⟩⟩

namespace P15
def b15 (seed : Nat) : State :=
  let s := die seed .running .leaf
  let s := s.setChan 9 { high := true, ignored := true, holdTo := (s.fNow + 30) * 1024, blindTo := some (s.time.slots + 4), settling := true, missRun := 7, hits := [{ pair := 0, launch := 1, n := 40, tfu := 65536 * 77 + 5, tot := some 3 }, { pair := 1, launch := 5, n := 40, tfu := 65536 * 78 + 5 }] }
  { s with fe := { s.fe with wins := [{ first := s.time.slots, last := s.time.slots + 1, group := 9, stride := 2, dead := true }, { first := s.time.slots, last := s.time.slots + 1, group := 8, stride := 2, dead := false }] } }
def h15 : Hit0 := { pair := 1, launch := 5, n := 40, tfu := 65536 * 78 + 5 }
def w15 (s : State) : InjWin := (s.fe.wins.head?).getD { first := 0, last := 0, group := 0, stride := 0, dead := false }
def b15d (seed : Nat) : State := { b15 seed with fe := { (b15 seed).fe with wins := (b15 seed).fe.wins.drop 1 }, time := { (b15 seed).time with fRun := false }, fault := { pending := [unitKey 1 9] } }
def b15h (slot : Nat) : State := { b15d 2 with time := { (b15 2).time with slot := slot } }
def b15l (f : State → State) : State := f (((b15 1).put F.FE_CTRL_MATRIX_EN 1).put F.FE_STATUS_SETTLED 1)
end P15

namespace P16
def b16 (seed : Nat) (o : Bool) : State :=
  let s := die seed .running .leaf
  let s := s.setChan 9 { high := true, hits := [{ pair := 0, launch := s.fNow - 40, n := 40, tfu := s.fNow * 1024 - 3000, ovl := o }] }
  s.setPair 18 { busy := true }
def h16 (s : State) : Hit0 := ((s.chan 9).hits.head?).getD { pair := 0, launch := 0, n := 0, tfu := 0 }
def b16c (seed src k : Nat) : State :=
  let s := die seed .running .leaf
  let s := s.setChan 9 { high := true, hits := [{ pair := 0, launch := s.fNow - 40, n := 40, tfu := s.fNow * 1024 - 3000, conv := true, tot := some 77 }] }
  let s := s.put F.TALLY_CTRL_SOURCE src
  let s := if k = 2 then s else { s with time := { s.time with runStart := some 3 } }
  if k = 1 then s.setTile 0 { buf := List.replicate 768 { slots := 3, data := 5, dpar := parity48 5, cond := none } } else s
def b16d (seed : Nat) : State :=
  let s := (((die seed .ready .leaf).put F.FE_CTRL_MATRIX_EN 1).put (F.FE_CH_PD 5) 0).put F.VTDC_STATUS_BULK_ACTIVE 1
  (s.setPair 12 { cal := true, bin := 77, off := 5 }).setPair 14 { stopped := true }
def cnt16 (k : Nat) : List (List Nat) := (List.range 16).map (fun i => List.replicate 16 (100 + k * i))
def b16e (seed wd : Nat) : State := { (b16d seed).put F.VTDC_CAL_INL_LIMIT 30 with vtdc := { (b16d seed).vtdc with windows := wd } }
def b16f (c : Nat) : State := (b16c 1 0 0).put F.TALLY_CTRL_CNT_EN c
def b16u (n : Nat) : State := { b16 1 false with tiu := { flights := [{ pair := 32769, launch := (b16 1 false).fNow - 400, n := n }] } }
def f16 (n : Nat) : Flight := { pair := 32769, launch := (b16 1 false).fNow - 400, n := n }
end P16

open P15 in
open P16 in
theorem wit_ChannelWindowsInjectionsAndOverrunsEnd :
    (∃ (s u : State) (n : Nat), Awake s ∧ (s.chan n).holdTo ≠ 0 ∧ s.atF (ceilDiv (s.chan n).holdTo 1024) = some u) ∧
    (∃ (s u : State) (n b : Nat), Awake s ∧ (s.chan n).blindTo = some b ∧ s.atSlot (b + 1) = some u) ∧
    (∃ (s : State) (n : Nat) (h : Hit0), Awake s ∧ (s.chan n).hits.find? (fun h => h.tot.isNone) = some h ∧ h.sat = false ∧ s.listens = true) ∧
    (∃ (s : State) (n : Nat) (h : Hit0), Awake s ∧ (s.chan n).hits.find? (fun h => h.tot.isNone) = some h ∧ (h.sat = true ∨ s.listens = false)) ∧
    (∃ (s u : State) (w : InjWin) (ws : List InjWin), Awake s ∧ s.fe.wins = w :: ws ∧ s.atSlot (w.last + 1) = some u) ∧
    (∃ (s : State) (n : Nat), Awake s ∧ s.isPending 1 n = true ∧ s.time.fRun = true ∧ s.time.counting = true ∧ s.time.len ≤ s.time.slot + 1) ∧
    (∃ (s : State) (n : Nat), Awake s ∧ s.isPending 1 n = false) ∧
    (∃ (s u : State) (n : Nat), Awake s ∧ s.isPending 1 n = true ∧ s.isRetired 1 n = false ∧ (s.time.fRun = false ∨ s.time.counting = false ∨ s.time.slot + 1 < s.time.len) ∧ u = s.elapse (64 - s.time.fcyc)) ∧
    (∃ (s u : State) (n p : Nat) (h : Hit0), Awake s ∧ n < 16384 ∧ p < 2 ∧ (s.chan n).hits.find? (fun h => decide (h.pair = p) && !h.conv && !h.ovl) = some h ∧ s.atF (h.launch + h.n + 14) = some u) ∧
    (∃ (s u : State) (n p : Nat) (h : Hit0), Awake s ∧ n < 16384 ∧ p < 2 ∧ (s.chan n).hits.find? (fun h => decide (h.pair = p) && !h.conv && h.ovl) = some h ∧ s.atF (h.launch + 525) = some u) ∧
    (∃ (s : State) (n p : Nat) (h : Hit0), Awake s ∧ n < 16384 ∧ p < 2 ∧ (s.chan n).hits.find? (fun h => decide (h.pair = p) && !h.conv && !h.ovl) = none) ∧
    (∃ (s : State) (n p : Nat) (h : Hit0), Awake s ∧ n < 16384 ∧ p < 2 ∧ (s.chan n).hits.find? (fun h => decide (h.pair = p) && !h.conv && h.ovl) = none) ∧
    (∃ (s u : State) (n p : Nat) (f : Flight), Awake s ∧ n < 16384 ∧ p < 2 ∧ (s.tiu.flights.find? (fun f => decide (f.pair = 32768 + n ∧ f.n < 511)) = some f) ∧ s.atF (f.launch + f.n + 14) = some u) ∧
    (∃ (s u : State) (n p : Nat) (f : Flight), Awake s ∧ n < 16384 ∧ p < 2 ∧ (s.tiu.flights.find? (fun f => decide (f.pair = 32768 + n ∧ 511 ≤ f.n)) = some f) ∧ s.atF (f.launch + 525) = some u) :=
  ⟨⟨b15 1, ((b15 1).atF ((b15 1).fNow + 30)).getD {}, 9, by decide +kernel⟩,
   ⟨b15 1, ((b15 1).atSlot ((b15 1).time.slots + 5)).getD {}, 9, (b15 1).time.slots + 4, by decide +kernel⟩,
   ⟨b15l id, 9, h15, by decide +kernel⟩,
   ⟨b15 1, 9, h15, by decide +kernel⟩,
   ⟨b15 2, ((b15 2).atSlot ((b15 2).time.slots + 2)).getD {}, w15 (b15 2), (b15 2).fe.wins.drop 1, by decide +kernel⟩,
   ⟨b15h 4095, 9, by decide +kernel⟩,
   ⟨b15 2, 9, by decide +kernel⟩,
   ⟨b15d 2, (b15d 2).elapse (64 - (b15d 2).time.fcyc), 9, by decide +kernel⟩,
   ⟨b16 1 false, ((b16 1 false).atF ((b16 1 false).fNow + 14)).getD {}, 9, 0, h16 (b16 1 false), by decide +kernel⟩,
   ⟨b16 2 true, ((b16 2 true).atF ((b16 2 true).fNow + 485)).getD {}, 9, 0, h16 (b16 2 true), by decide +kernel⟩,
   ⟨b16 2 true, 9, 0, h16 (b16 2 true), by decide +kernel⟩,
   ⟨b16 1 false, 9, 0, h16 (b16 1 false), by decide +kernel⟩,
   ⟨b16u 400, ((b16u 400).atF ((b16u 400).fNow + 14)).getD {}, 1, 0, f16 400, by decide +kernel⟩,
   ⟨b16u 520, ((b16u 520).atF ((b16u 520).fNow + 125)).getD {}, 1, 0, f16 520, by decide +kernel⟩⟩

open P16 in
theorem wit_CompletedHitEntersItsTile :
    (∃ (s : State) (n : Nat) (h : Hit0), Awake s ∧ n < 16384 ∧ (s.chan n).hits.find? (fun h => h.conv && h.tot.isSome) = some h ∧ (s.captures (h.tfu / 65536).toNat = false ∨ s.tileUp (n / 64) = false)) ∧
    (∃ (s : State) (n : Nat) (h : Hit0), Awake s ∧ n < 16384 ∧ (s.chan n).hits.find? (fun h => h.conv && h.tot.isSome) = some h ∧ s.captures (h.tfu / 65536).toNat = true ∧ s.tileUp (n / 64) = true ∧ s.trg.frozen = true) ∧
    (∃ (s : State) (n : Nat) (h : Hit0), Awake s ∧ n < 16384 ∧ (s.chan n).hits.find? (fun h => h.conv && h.tot.isSome) = some h ∧ s.captures (h.tfu / 65536).toNat = true ∧ s.tileUp (n / 64) = true ∧ s.trg.frozen = false ∧ (s.tile (n / 64)).occ + (if h.cond (s.lostNeighbour h) = 0 then 1 else 2) ≤ 768) ∧
    (∃ (s : State) (n : Nat) (h : Hit0), Awake s ∧ n < 16384 ∧ (s.chan n).hits.find? (fun h => h.conv && h.tot.isSome) = some h ∧ s.captures (h.tfu / 65536).toNat = true ∧ s.tileUp (n / 64) = true ∧ s.trg.frozen = false ∧ 768 < (s.tile (n / 64)).occ + (if h.cond (s.lostNeighbour h) = 0 then 1 else 2)) :=
  ⟨⟨b16c 3 1 2, 9, h16 (b16c 3 1 2), by decide +kernel⟩,
   ⟨{ b16f 1 with trg := { frozen := true } }, 9, h16 (b16f 1), by decide +kernel⟩,
   ⟨b16c 1 1 0, 9, h16 (b16c 1 1 0), by decide +kernel⟩,
   ⟨b16c 3 1 1, 9, h16 (b16c 3 1 1), by decide +kernel⟩⟩

open P16 in
theorem wit_PairCalibrationTakesOrRejectsItsSums :
    (∃ (s : State) (p : Nat), Awake s ∧ s.calMayStart p = true) ∧
    (∃ (s : State) (p : Nat), Awake s ∧ s.calMayStart p = false) ∧
    (∃ (s : State) (p s1 s2 : Nat), Awake s ∧ (s.pair p).cal = true ∧ s1 + 1792 ≤ s2 ∧ s2 ≤ s1 + 2304) ∧
    (∃ (s : State) (p s1 s2 : Nat), Awake s ∧ (s.pair p).cal = true ∧ (s2 < s1 + 1792 ∨ s1 + 2304 < s2) ∧ s.isRetired 2 p = false) ∧
    (∃ (s : State) (p : Nat), Awake s ∧ (s.pair p).cal = false) ∧
    (∃ (s : State) (p : Nat), Awake s ∧ s.passResumes p = true) ∧
    (∃ (s : State) (p : Nat), Awake s ∧ s.passResumes p = false) ∧
    (∃ (s : State) (fin : List PairCounts), Awake s ∧ s.on F.VTDC_STATUS_BULK_ACTIVE = true ∧ (64 ≤ s.vtdc.windows ∨ (s.passFinished fin).length = s.pairsInService)) ∧
    (∃ (s : State) (fin : List PairCounts), Awake s ∧ (s.on F.VTDC_STATUS_BULK_ACTIVE = false ∨ (s.vtdc.windows < 64 ∧ (s.passFinished fin).length ≠ s.pairsInService))) :=
  ⟨⟨b16d 3, 14, by decide +kernel⟩,
   ⟨b16d 1, 12, by decide +kernel⟩,
   ⟨b16d 1, 12, 1000, 3000, by decide +kernel⟩,
   ⟨b16d 2, 12, 1000, 2000, by decide +kernel⟩,
   ⟨b16d 3, 14, by decide +kernel⟩,
   ⟨b16d 3, 14, by decide +kernel⟩,
   ⟨b16d 1, 12, by decide +kernel⟩,
   ⟨b16e 4 64, [{ pair := 11, counts := cnt16 8 }], by decide +kernel⟩,
   ⟨b16d 1, [], by decide +kernel⟩⟩

namespace P17
def b17 (seed : Nat) (cnt : Nat) : State :=
  let s := die seed .ready .leaf
  let s := ((s.put F.TIU_STATUS_BUSY 1).put F.TIU_COUNT_COUNT cnt)
  { s with tiu := { openAt := some { orbit := 1, slot := 2, fine := 3 }, openSlot := s.time.slots, tmo := 5, meas := 7 * 2^25 + 2 * 2^22 + 2 } }
def b17b (seed : Nat) (busy : Nat) : State :=
  let s := die seed .ready .leaf
  let s := ((s.put F.TIU_STATUS_BUSY 0).put F.TIU_COUNT_COUNT 0)
  let s := (((s.put (F.TIU_IN_EN 1) 1).put F.ORB_STATUS_PLL_LOCK 1)).put F.VTDC_CTRL_CAL_MAX_AGE 65535
  let s := s.setPair 32770 { nocal := false, bin := 5, off := 1, calSlot := s.time.slots - 3, busy := decide (busy = 1) }
  s.setPair 32771 { busy := true }
def k17 (s : State) : State := { s with time := { s.time with slot := 100, fcyc := 3 } }
def e17 (s : State) : State := { s with time := { s.time with slot := s.time.len - 1, fcyc := 63 } }
def l17 (s : State) : State := s.put F.ORB_STATUS_PLL_LOCK 1
def v17 (s : State) : State := s.elapse 1
end P17

open P17 in
theorem wit_TimeIntervalsAreMeasured :
    (∃ (s v : State), Awake s ∧ s.sys.run.isReady = true ∧ v = s.elapse 1 ∧ (s.time.fRun = false ∨ s.time.counting = true ∧ s.time.len * 64 ≤ s.time.slot * 64 + s.time.fcyc + 1)) ∧
    (∃ (s v : State), Awake s ∧ s.sys.run.isReady = true ∧ v = s.elapse 1 ∧ s.time.fRun = true ∧ (s.time.counting = true → s.time.slot * 64 + s.time.fcyc + 1 < s.time.len * 64) ∧ s.on F.TIU_STATUS_BUSY = true ∧ s.get F.TIU_COUNT_COUNT = 0) ∧
    (∃ (s v : State), Awake s ∧ s.sys.run.isReady = true ∧ v = s.elapse 1 ∧ s.time.fRun = true ∧ (s.time.counting = true → s.time.slot * 64 + s.time.fcyc + 1 < s.time.len * 64) ∧ s.on F.TIU_STATUS_BUSY = true ∧ 0 < s.get F.TIU_COUNT_COUNT) ∧
    (∃ (s v : State), Awake s ∧ s.sys.run.isReady = true ∧ v = s.elapse 1 ∧ s.time.fRun = true ∧ (s.time.counting = true → s.time.slot * 64 + s.time.fcyc + 1 < s.time.len * 64) ∧ s.on F.TIU_STATUS_BUSY = false) ∧
    (∃ (s u v : State) (k ls lf swing : Nat), Awake s ∧ s.sys.run.isReady = true ∧ v = s.elapse 1 ∧ k < 4 ∧ s.atCycle ls lf = some u ∧ swing < u.utilHyst k) ∧
    (∃ (s u v : State) (rise : Bool) (k ls lf swing : Nat), Awake s ∧ s.sys.run.isReady = true ∧ v = s.elapse 1 ∧ k < 4 ∧ s.atCycle ls lf = some u ∧ u.utilHyst k ≤ swing ∧ (u.on (F.TIU_IN_EN k) = false ∨ rise = u.on (F.TIU_IN_EDGE k) ∨ u.on F.ORB_STATUS_PLL_LOCK = false ∨ u.fNow < sget 0 u.tiu.holdTo k)) ∧
    (∃ (s u v : State) (rise : Bool) (k ls lf swing : Nat), Awake s ∧ s.sys.run.isReady = true ∧ v = s.elapse 1 ∧ k < 4 ∧ s.atCycle ls lf = some u ∧ u.utilHyst k ≤ swing ∧ u.on (F.TIU_IN_EN k) = true ∧ rise ≠ u.on (F.TIU_IN_EDGE k) ∧ u.on F.ORB_STATUS_PLL_LOCK = true ∧ sget 0 u.tiu.holdTo k ≤ u.fNow ∧ choosePair (u.pairFree (32768 + 2 * k)) (u.pairFree (32769 + 2 * k)) (!u.tiu.lastB.contains k) = none) ∧
    (∃ (s u v : State) (rise : Bool) (k ls lf swing p : Nat), Awake s ∧ s.sys.run.isReady = true ∧ v = s.elapse 1 ∧ k < 4 ∧ s.atCycle ls lf = some u ∧ u.utilHyst k ≤ swing ∧ u.on (F.TIU_IN_EN k) = true ∧ rise ≠ u.on (F.TIU_IN_EDGE k) ∧ u.on F.ORB_STATUS_PLL_LOCK = true ∧ sget 0 u.tiu.holdTo k ≤ u.fNow ∧ choosePair (u.pairFree (32768 + 2 * k)) (u.pairFree (32769 + 2 * k)) (!u.tiu.lastB.contains k) = some p) ∧
    (∃ (s u v : State), Awake s ∧ s.sys.run.isReady = true ∧ v = s.elapse 1 ∧ s.on F.TIU_STATUS_BUSY = true ∧ s.tiu.openAt.isSome = true ∧ s.atSlot (s.tiu.openSlot + max 1 (s.tiu.tmo % 2 ^ 24)) = some u) ∧
    (∃ (s v : State), Awake s ∧ s.sys.run.isReady = true ∧ v = s.elapse 1 ∧ (s.on F.TIU_STATUS_BUSY = false ∨ s.tiu.openAt = none)) ∧
    (∃ (s : State) (o b : Stamp) (a c : Nat), a < 8 ∧ c < 8 ∧ s.on F.TIU_STATUS_BUSY = true ∧ s.on F.ORB_STATUS_PLL_LOCK = true ∧ s.get F.TIU_COUNT_COUNT = 0 ∧ s.tiu.meas = a * 2 ^ 25 + c * 2 ^ 22 + 2 ∧ s.tiu.openAt = some o ∧ (a = c ∨ 0 ≤ interval s.time.len o b) ∧ a ≠ c) ∧
    (∃ (s : State) (o b : Stamp) (a c : Nat), a < 8 ∧ c < 8 ∧ s.on F.TIU_STATUS_BUSY = true ∧ s.on F.ORB_STATUS_PLL_LOCK = true ∧ s.get F.TIU_COUNT_COUNT = 0 ∧ s.tiu.meas = a * 2 ^ 25 + c * 2 ^ 22 + 2 ∧ s.tiu.openAt = some o ∧ (a = c ∨ 0 ≤ interval s.time.len o b) ∧ a = c) :=
  ⟨⟨e17 (b17 1 3), v17 (e17 (b17 1 3)), by decide +kernel⟩,
   ⟨k17 (b17 1 0), v17 (k17 (b17 1 0)), by decide +kernel⟩,
   ⟨k17 (b17 1 1), v17 (k17 (b17 1 1)), by decide +kernel⟩,
   ⟨k17 (b17b 2 0), v17 (k17 (b17b 2 0)), by decide +kernel⟩,
   ⟨k17 (b17b 3 0), ((k17 (b17b 3 0)).atCycle 1200 5).getD {}, v17 (k17 (b17b 3 0)), 1, 1200, 5, 0, by decide +kernel⟩,
   ⟨(k17 (b17b 3 0)).put (F.TIU_IN_EDGE 1) 1, (((k17 (b17b 3 0)).put (F.TIU_IN_EDGE 1) 1).atCycle 1200 5).getD {}, v17 ((k17 (b17b 3 0)).put (F.TIU_IN_EDGE 1) 1), true, 1, 1200, 5, 999, by decide +kernel⟩,
   ⟨k17 (b17b 3 1), ((k17 (b17b 3 1)).atCycle 1200 5).getD {}, v17 (k17 (b17b 3 1)), true, 1, 1200, 5, 999, by decide +kernel⟩,
   ⟨k17 (b17b 2 0), ((k17 (b17b 2 0)).atCycle 1200 5).getD {}, v17 (k17 (b17b 2 0)), true, 1, 1200, 5, 999, 0, by decide +kernel⟩,
   ⟨k17 (b17 1 0), ((k17 (b17 1 0)).atSlot ((b17 1 0).time.slots+5)).getD {}, v17 (k17 (b17 1 0)), by decide +kernel⟩,
   ⟨k17 (b17b 2 0), v17 (k17 (b17b 2 0)), by decide +kernel⟩,
   ⟨l17 (b17 3 0), { orbit := 1, slot := 2, fine := 3 }, { orbit := 2, slot := 1, fine := 9 }, 7, 2, by decide +kernel⟩,
   ⟨{ l17 (b17 3 0) with tiu := { (b17 3 0).tiu with meas := 7 * 2^25 + 7 * 2^22 + 2 } }, { orbit := 1, slot := 2, fine := 3 }, { orbit := 1, slot := 1, fine := 9 }, 7, 7, by decide +kernel⟩⟩

namespace P18
def f18 : Frag := { tag := 99, kind := .accept, first := 0, last := 0, trig := 0 }
def b18 (seed : Nat) : State :=
  let s := die seed .running .leaf
  let s := (s.put F.FE_CTRL_MATRIX_EN 1).put F.TRG_MODE_READOUT 1
  let t0 := s.time.slots
  let s := s.put F.TILE_LAT_DEPTH 100
  let s := s.setTile 5 { buf := [{ slots := t0 - 99, data := dataEntry 3 5 6 7, dpar := parity48 (dataEntry 3 5 6 7), cond := none }, { slots := t0 - 20, data := dataEntry 9 5 6 7, dpar := 0, cond := none }], drops := [t0 - 98] }
  { s with asm := { s.asm with frags := [{ tag := 3, kind := .accept, first := t0 - 30, last := t0 - 10, trig := t0 - 20 }], nextTag := 63, groupFrom := some (t0 - 16) } }
def b18g (seed : Nat) : State :=
  let s := die seed .running .leaf
  let s := s.setTile 5 { resp := [{ tag := 3, words := [headerWord 3 5 false 2, 5, 6] }, { tag := 4, words := [7] }], pins := [(3, 30, 40)] }
  let s := s.setArb 5 { owner := some { r := 0, cls := 1, len := 3, prog := 0 }, since := s.fNow }
  { s with asm := { s.asm with frags := [{ tag := 3, kind := .accept, first := 30, last := 40, trig := 20, started := true, began := s.fNow }], nextTag := 63 } }
def r18 (s : State) : TResp := ((s.tile 5).resp.head?).getD { tag := 0, words := [] }
def b18h (seed : Nat) : State := { b18g seed with asm := {} }
def b18i (seed : Nat) : State := (b18g seed).setArb 5 {}
def a18 (s : State) (k : Nat) : State := (s.atSlot k).getD {}
def c18 (s : State) (k : Nat) : State := (s.atF k).getD {}
def w18 (s : State) : State := { s with regs := (s.put F.FE_CTRL_MATRIX_EN 0).regs }
def g18 (s : State) : State := { s with asm := { s.asm with groupFrom := none }, trg := { s.trg with frozen := true } }
def l18 (s : State) : State := s.setTile 5 { resp := [{ tag := 3, words := [6] }, { tag := 4, words := [7] }], pins := [(3, 30, 40)] }
def n18 (s : State) : State := { s with asm := { s.asm with frags := s.asm.frags.map (fun f => { f with parts := sset {} f.parts 21 { hdr := true, count := 40, words := List.replicate 33 0 } }) } }
def t18 (s : State) : Nat := (s.arb 5).since + 4 * atLeast1 (s.get F.FRAG_ASM_GRANT_TMO)
def q18 (s : State) : Nat := s.totalAt ((s.fragOf 3).getD f18)
end P18

open P18 in
theorem wit_TilesAnswerOverTheGallery :
    (∃ (s u : State) (k c : Nat) (cs : List Nat), Awake s ∧ k < 256 ∧ ((s.tile k).buf.filter (fun e => !(s.tile k).pinned e.slots)).map (fun e => e.slots) ++ (s.tile k).drops = c :: cs ∧ s.atSlot (cs.foldl min c + s.retention + 1) = some u ∧ s.trg.frozen = false ∧ fragOut u = u) ∧
    (∃ (s : State) (k : Nat), Awake s ∧ k < 256 ∧ (s.trg.frozen = true ∨ (s.tile k).buf = [] ∧ (s.tile k).drops = [])) ∧
    (∃ (s u : State) (k tag : Nat) (f : Frag), Awake s ∧ k < 256 ∧ s.fragOf tag = some f ∧ f.started = false ∧ s.atSlot (f.last + 18) = some u) ∧
    (∃ (s : State) (k tag : Nat) (f : Frag), Awake s ∧ k < 256 ∧ (s.fragOf tag = none ∨ (s.fragOf tag).any (fun f => f.started) = true) ∧ fragOut s = s) ∧
    (∃ (s u : State) (k first : Nat), Awake s ∧ k < 256 ∧ s.asm.groupFrom = some first ∧ s.sys.run.capturing = true ∧ s.get F.TRG_MODE_READOUT = 1 ∧ s.mayIssue = true ∧ s.matrixOn = true ∧ s.atSlot ((s.groupFrag first).last + 18) = some u) ∧
    (∃ (s : State) (k : Nat), Awake s ∧ k < 256 ∧ (s.asm.groupFrom = none ∨ s.sys.run.capturing = false ∨ s.get F.TRG_MODE_READOUT ≠ 1 ∨ s.mayIssue = false ∨ s.matrixOn = false) ∧ fragOut s = s) ∧
    (∃ (s : State) (k : Nat) (r : TResp) (rest : List TResp) (w w' : Nat) (ws : List Nat) (f : Frag) (p : TPart), Awake s ∧ k < 256 ∧ p = sget {} f.parts k ∧ (s.tile k).resp = r :: rest ∧ s.ownsSegment k = true ∧ r.words = w :: w' :: ws ∧ r.abandon = false ∧ s.fragOf r.tag = some f ∧ s.hasCredit (k % 16) = true ∧ fragOut s = s ∧ p.missing = false ∧ (p.hdr = true ∧ p.words.length ≠ p.count ∨ p.hdr = false ∧ bitsOf w 0 10 ≠ 0)) ∧
    (∃ (s : State) (k j : Nat) (r : TResp) (rest : List TResp) (w : Nat) (f : Frag) (p : TPart), Awake s ∧ k < 256 ∧ p = sget {} f.parts k ∧ (s.tile k).resp = r :: rest ∧ s.ownsSegment k = true ∧ r.words = [w] ∧ r.abandon = false ∧ s.fragOf r.tag = some f ∧ s.hasCredit (k % 16) = true ∧ fragOut s = s ∧ r.poison = false ∧ bitsOf w 55 1 = 0 ∧ rest.all (fun x => decide (x.tag ≠ r.tag)) = true ∧ j < 256 ∧ j ≠ k ∧ (sget {} f.parts j).missing = false ∧ (sget {} f.parts j).complete = false) ∧
    (∃ (s : State) (k : Nat) (r : TResp) (rest : List TResp) (f : Frag) (p : TPart), Awake s ∧ k < 256 ∧ p = sget {} f.parts k ∧ (s.tile k).resp = r :: rest ∧ s.ownsSegment k = true ∧ r.words ≠ [] ∧ r.abandon = false ∧ s.fragOf r.tag = some f ∧ s.hasCredit (k % 16) = false ∧ fragOut s = s) ∧
    (∃ (s : State) (k : Nat) (r : TResp) (rest : List TResp) (w : Nat) (ws : List Nat) (f : Frag) (p : TPart), Awake s ∧ k < 256 ∧ p = sget {} f.parts k ∧ (s.tile k).resp = r :: rest ∧ s.ownsSegment k = true ∧ r.words = w :: ws ∧ (r.abandon = true ∨ s.fragOf r.tag = none)) ∧
    (∃ (s : State) (k : Nat) (f : Frag) (p : TPart), Awake s ∧ k < 256 ∧ p = sget {} f.parts k ∧ (s.ownsSegment k = false ∨ (s.tile k).resp = []) ∧ fragOut s = s) ∧
    (∃ (s u : State) (k : Nat) (r : TResp) (rest : List TResp) (f : Frag) (p : TPart), Awake s ∧ k < 256 ∧ p = sget {} f.parts k ∧ s.atF ((s.arb (k % 16)).since + 4 * atLeast1 (s.get F.FRAG_ASM_GRANT_TMO)) = some u ∧ (u.tile k).resp = r :: rest ∧ u.ownsSegment k = true ∧ r.abandon = false ∧ u.partOpen r.tag k = true ∧ u.hasCredit (k % 16) = true) ∧
    (∃ (s u : State) (k : Nat) (f : Frag) (p : TPart), Awake s ∧ k < 256 ∧ p = sget {} f.parts k ∧ s.atF ((s.arb (k % 16)).since + 4 * atLeast1 (s.get F.FRAG_ASM_GRANT_TMO)) = some u ∧ (u.ownsSegment k = false ∨ u.hasCredit (k % 16) = false) ∧ fragOut u = u) ∧
    (∃ (s u : State) (k : Nat) (r : TResp) (f : Frag) (p : TPart), Awake s ∧ k < 256 ∧ p = sget {} f.parts k ∧ s.fragOf r.tag = some f ∧ f.started = true ∧ s.atF (s.totalAt f) = some u ∧ u.partOpen r.tag k = true ∧ (sget {} f.parts k).hdr = false) ∧
    (∃ (s : State) (k : Nat) (r : TResp) (f : Frag) (p : TPart), Awake s ∧ k < 256 ∧ p = sget {} f.parts k ∧ (s.fragOf r.tag = none ∨ (s.fragOf r.tag).any (fun f => f.started) = false) ∧ fragOut s = s) :=
  ⟨⟨b18 1, a18 (b18 1) ((b18 1).time.slots + 2), 5, (b18 1).time.slots - 99, [(b18 1).time.slots - 20, (b18 1).time.slots - 98], by decide +kernel⟩,
   ⟨g18 (b18 1), 6, by decide +kernel⟩,
   ⟨b18 2, a18 (b18 2) ((b18 2).time.slots + 8), 5, 3, ((b18 2).fragOf 3).getD f18, by decide +kernel⟩,
   ⟨g18 (b18 1), 6, 4, f18, by decide +kernel⟩,
   ⟨b18 2, a18 (b18 2) ((b18 2).time.slots + 17), 5, (b18 2).time.slots - 16, by decide +kernel⟩,
   ⟨w18 (b18 2), 5, by decide +kernel⟩,
   ⟨b18g 1, 5, r18 (b18g 1), ((b18g 1).tile 5).resp.tail, headerWord 3 5 false 2, 5, [6], ((b18g 1).fragOf 3).getD f18, {}, by decide +kernel⟩,
   ⟨l18 (b18g 1), 5, 6, r18 (l18 (b18g 1)), ((b18g 1).tile 5).resp.tail, 6, ((b18g 1).fragOf 3).getD f18, {}, by decide +kernel⟩,
   ⟨n18 (b18g 1), 5, r18 (b18g 1), ((b18g 1).tile 5).resp.tail, ((n18 (b18g 1)).fragOf 3).getD f18, {}, by decide +kernel⟩,
   ⟨b18h 1, 5, r18 (b18g 1), ((b18g 1).tile 5).resp.tail, headerWord 3 5 false 2, [5, 6], f18, {}, by decide +kernel⟩,
   ⟨b18i 1, 5, ((b18g 1).fragOf 3).getD f18, {}, by decide +kernel⟩,
   ⟨b18g 1, c18 (b18g 1) (t18 (b18g 1)), 5, r18 (b18g 1), ((b18g 1).tile 5).resp.tail, ((b18g 1).fragOf 3).getD f18, {}, by decide +kernel⟩,
   ⟨b18i 1, b18i 1, 5, ((b18g 1).fragOf 3).getD f18, {}, by decide +kernel⟩,
   ⟨b18g 1, c18 (b18g 1) (q18 (b18g 1)), 5, r18 (b18g 1), ((b18g 1).fragOf 3).getD f18, {}, by decide +kernel⟩,
   ⟨b18h 1, 5, r18 (b18g 1), f18, {}, by decide +kernel⟩⟩

namespace P19
def b19 (seed i : Nat) (prog : Nat) (wait : List ArbReq) : State :=
  let s := die seed .running .root
  let s := (s.put (F.ARB_CFG_QUOTA2 i) 0).put (F.ARB_CFG_QUOTA3 i) 0
  let s := s.wr (Reg.ARB_CLASS i 0) 0
  s.setArb i { owner := some { r := 2, cls := 0, len := 10, prog := prog }, wait := wait, q2 := [(3, 4)], winFrom := s.fNow, since := s.fNow }
def w19 : ArbReq := { r := 4, cls := 2, len := 5 }
def o19 (prog : Nat) : ArbReq := { r := 2, cls := 0, len := 10, prog := prog }
def j19 : FacetJob := { engine := 1, tsel := 0, built := { frag := { tag := 1, kind := .accept, first := 9, last := 12, trig := 10 }, nuggets := [(5, 0, false)], miss := 0, ovf := 0, warn := false } }
def bk19 (bit : Bool) : State := let s := die 3 .running .leaf; s.setBankQ 5 { last := s.fNow - 100, q := [(80, 2), (90, 1)], bitten := bit }
def c19 (s : State) (k : Nat) : State := (s.atF k).getD {}
def wn19 (s : State) (i : Nat) : Nat := (s.arb i).winFrom + s.arbWindow i
def cn19 (s : State) : Nat := (s.arb 34).since + s.arbCycles 34 (atLeast1 (s.get (F.CANARY_LIMIT_LIMIT 34)))
def bn19 (s : State) : Nat := (s.bankQ 5).last + s.arbCycles 23 (atLeast1 (s.get (F.CANARY_LIMIT_LIMIT 23)))
def sm19 (s : State) (i : Nat) : State := (((s.put (F.ARB_CFG_WINDOW i) 20).put (F.CANARY_LIMIT_LIMIT i) 9).wr Reg.WALL_NOM 6710886400)
def pk19 (s : State) : State := s.setArb 5 { s.arb 5 with parked := true }
def pk34 (s : State) : State := s.setArb 34 { s.arb 34 with parked := true }
def nq19 (s : State) : State := s.setArb 34 { s.arb 34 with q2 := [] }
end P19

open P19 in
theorem wit_ArbitersCanariesAndFacetEngines :
    (∃ (s v : State) (i : Nat) (o w : ArbReq), Awake s ∧ (s.arb i).owner = some o ∧ v = s.arbTurn i ∧ (i < 16 ∨ i = 34) ∧ (s.arb i).parked = false ∧ o.prog < o.len ∧ v.arbNext i (v.arb i) (s.arbClassOf i o.r + 1) = some w ∧ w.r ≠ o.r) ∧
    (∃ (s v : State) (i : Nat) (o : ArbReq), Awake s ∧ (s.arb i).owner = some o ∧ v = s.arbTurn i ∧ (i < 16 ∨ i = 34) ∧ (s.arb i).parked = false ∧ o.prog < o.len ∧ v.arbNext i (v.arb i) (s.arbClassOf i o.r + 1) = none) ∧
    (∃ (s v : State) (i : Nat) (o : ArbReq), Awake s ∧ (s.arb i).owner = some o ∧ v = s.arbTurn i ∧ (18 ≤ i ∧ i < 34 ∨ 35 ≤ i ∨ i < 35 ∧ i ≠ 16 ∧ i ≠ 17 ∧ ((s.arb i).parked = true ∨ o.len ≤ o.prog))) ∧
    (∃ (s v : State) (i : Nat) (o w : ArbReq), Awake s ∧ (s.arb i).owner = some o ∧ v = s.arbTurn i ∧ (i < 16 ∨ i = 34) ∧ ((s.arb i).parked = true ∨ o.len ≤ o.prog) ∧ v.arbNext i (v.arb i) 0 = some w) ∧
    (∃ (s v : State) (i : Nat) (o : ArbReq), Awake s ∧ (s.arb i).owner = some o ∧ v = s.arbTurn i ∧ (i < 16 ∨ i = 34) ∧ ((s.arb i).parked = true ∨ o.len ≤ o.prog) ∧ v.arbNext i (v.arb i) 0 = none) ∧
    (∃ (s v : State) (i : Nat) (o : ArbReq), Awake s ∧ (s.arb i).owner = some o ∧ v = s.arbTurn i ∧ (35 ≤ i ∨ i ≠ 16 ∧ i ≠ 17 ∧ (s.arb i).parked = false ∧ o.prog < o.len)) ∧
    (∃ (s u v : State) (i : Nat) (o : ArbReq), Awake s ∧ (s.arb i).owner = some o ∧ v = s.arbTurn i ∧ i < 35 ∧ s.atF ((s.arb i).winFrom + s.arbWindow i) = some u ∧ s.fNow ≤ (s.arb i).winFrom + s.arbWindow i ∧ (s.arb i).parked = false ∧ o.prog < o.len) ∧
    (∃ (s u v : State) (i : Nat) (o w : ArbReq), Awake s ∧ (s.arb i).owner = some o ∧ v = s.arbTurn i ∧ i < 35 ∧ s.atF ((s.arb i).winFrom + s.arbWindow i) = some u ∧ s.fNow ≤ (s.arb i).winFrom + s.arbWindow i ∧ (s.arb i).parked = true ∧ (s.arb i).wait = [w] ∧ w.cls < 4) ∧
    (∃ (s v : State) (i : Nat) (o : ArbReq), Awake s ∧ (s.arb i).owner = some o ∧ v = s.arbTurn i ∧ 35 ≤ i) ∧
    (∃ (s u : State) (o : ArbReq), Awake s ∧ s.atF ((s.arb 34).since + s.arbCycles 34 (atLeast1 (s.get (F.CANARY_LIMIT_LIMIT 34)))) = some u ∧ (s.arb 34).owner = some o ∧ o.r < 128 ∧ (s.arb 34).parked = false ∧ o.prog < o.len) ∧
    (∃ (s u : State) (o : ArbReq), Awake s ∧ s.atF ((s.arb 34).since + s.arbCycles 34 (atLeast1 (s.get (F.CANARY_LIMIT_LIMIT 34)))) = some u ∧ (s.arb 34).owner = some o ∧ o.r < 128 ∧ ((s.arb 34).parked = true ∨ o.len ≤ o.prog)) ∧
    (∃ (s u : State) (b : Nat) (e : Nat × Nat) (rest : List (Nat × Nat)), Awake s ∧ b < 16 ∧ (s.bankQ b).q = e :: rest ∧ s.atF ((s.bankQ b).last + s.arbCycles (18 + b) (atLeast1 (s.get (F.CANARY_LIMIT_LIMIT (18 + b))))) = some u ∧ (u.bankQ b) = s.bankQ b) ∧
    (∃ (s : State) (b : Nat), Awake s ∧ b < 16 ∧ (s.bankQ b).q = []) ∧
    (∃ (s : State) (j : FacetJob), Awake s ∧ s.facet.jobs = [j] ∧ j.done = none ∧ s.asm.closed = [] ∧ s.facet.wait = [] ∧ s.drain = s ∧ j.built.frag.kind ≠ .spec) ∧
    (∃ (s : State), Awake s ∧ s.facet.jobs = [] ∧ fragOut s = s) :=
  ⟨⟨sm19 (b19 1 34 3 [w19]) 34, (sm19 (b19 1 34 3 [w19]) 34).arbTurn 34, 34, o19 3, w19, by decide +kernel⟩,
   ⟨sm19 (b19 1 34 3 []) 34, (sm19 (b19 1 34 3 []) 34).arbTurn 34, 34, o19 3, by decide +kernel⟩,
   ⟨sm19 (b19 1 34 10 [w19]) 34, (sm19 (b19 1 34 10 [w19]) 34).arbTurn 34, 34, o19 10, by decide +kernel⟩,
   ⟨sm19 (b19 1 34 10 [w19]) 34, (sm19 (b19 1 34 10 [w19]) 34).arbTurn 34, 34, o19 10, w19, by decide +kernel⟩,
   ⟨sm19 (b19 1 34 10 []) 34, (sm19 (b19 1 34 10 []) 34).arbTurn 34, 34, o19 10, by decide +kernel⟩,
   ⟨sm19 (b19 1 34 3 [w19]) 34, (sm19 (b19 1 34 3 [w19]) 34).arbTurn 34, 34, o19 3, by decide +kernel⟩,
   ⟨sm19 (b19 1 34 3 [w19]) 34, c19 (sm19 (b19 1 34 3 [w19]) 34) (wn19 (sm19 (b19 1 34 3 [w19]) 34) 34), (sm19 (b19 1 34 3 [w19]) 34).arbTurn 34, 34, o19 3, by decide +kernel⟩,
   ⟨pk19 (sm19 (b19 1 5 3 [w19]) 5), c19 (pk19 (sm19 (b19 1 5 3 [w19]) 5)) (wn19 (pk19 (sm19 (b19 1 5 3 [w19]) 5)) 5), (pk19 (sm19 (b19 1 5 3 [w19]) 5)).arbTurn 5, 5, o19 3, w19, by decide +kernel⟩,
   ⟨b19 1 35 3 [], (b19 1 35 3 []).arbTurn 35, 35, o19 3, by decide +kernel⟩,
   ⟨nq19 (sm19 (b19 1 34 3 []) 34), c19 (nq19 (sm19 (b19 1 34 3 []) 34)) (cn19 (nq19 (sm19 (b19 1 34 3 []) 34))), o19 3, by decide +kernel⟩,
   ⟨pk34 (sm19 (b19 1 34 3 []) 34), c19 (pk34 (sm19 (b19 1 34 3 []) 34)) (cn19 (pk34 (sm19 (b19 1 34 3 []) 34))), o19 3, by decide +kernel⟩,
   ⟨sm19 (bk19 false) 23, c19 (sm19 (bk19 false) 23) (bn19 (sm19 (bk19 false) 23)), 5, (80, 2), [(90, 1)], by decide +kernel⟩,
   ⟨sm19 (die 3 .running .leaf) 23, 5, by decide +kernel⟩,
   ⟨{ die 2 .running .leaf with facet := { jobs := [j19] } }, j19, by decide +kernel⟩,
   ⟨die 2 .running .leaf, by decide +kernel⟩⟩

namespace P20
def b20 (seed tok : Nat) : State :=
  let s := die seed .running .root
  let s := ((s.put F.TRG_LAT_IN_DELAY 3).put F.TRG_LAT_DOMAIN 50).put F.TRG_AUTO_EN 0
  let s := s.put F.TRG_AUTO_TIMEOUT 1000
  let s := (List.range 16).foldl (fun s p => s.put (F.PORT_CFG_TYPE p) 0) s
  { s with time := { s.time with runStart := some (s.time.slots - 50) }, trg := { s.trg with tokens := tok, lastNamed := s.time.slots - 10, refillAt := s.time.slots - 1 } }
def u20 (s : State) : State := (s.atSlot (s.time.slots + 1)).getD {}
def v20 (s : State) : State := (s.atSlot (s.trg.refillAt + 4)).getD {}
def n20 (s : State) : Nat := (u20 s).time.slots - 1 - s.get F.TRG_LAT_IN_DELAY
def m20 (s : State) (w : Nat) : TrigMsg := { word := w, slot := ((u20 s).orbitSlotOf (n20 s)).2, orbit := ((u20 s).orbitSlotOf (n20 s)).1, trigger := (s.rd Reg.TRG_EVT + 1) % 2 ^ 32, src := 2 ^ s.get (F.TRG_TYPE_SRC (bitsOf w 3 4)) }
def g20 (s : State) : State := (s.put F.TRG_AUTO_EN 1).put F.TRG_AUTO_TIMEOUT 30
def a20 (s : State) : State := (s.atSlot (s.trg.lastNamed + max 1 (s.get F.TRG_AUTO_TIMEOUT) + 2 + s.get F.TRG_LAT_IN_DELAY)).getD {}
def f20 : Frag := { tag := 0, kind := .stream, first := 7, last := 9, trig := 7 }
def last20 (s : State) : State := { s with time := { s.time with slot := 4095 } }
def safe20 (s : State) : State := { s with sys := { s.sys with run := .safe, readyBall := false } }
def wt20 (s : State) : State := { s with trg := { s.trg with ready := [], queue := [] }, asm := { s.asm with waits := [f20] } }
def h20 (s : State) : State := { s with sys := { s.sys with run := .armed } }
def ev20 (s : State) : State := { s with trg := { s.trg with evt := s.rd Reg.TRG_EVT } }
def e20 (s : State) (k : Nat) : TrigEntry := { msg := { word := 0xA8, slot := s.time.slot - 3, orbit := s.time.orbit, trigger := (s.rd Reg.TRG_EVT + k) % 2 ^ 32, src := 5 }, apply := s.time.slots + 5, accept := true }
def b21 (seed : Nat) (r : RunState) : State :=
  let s := die seed r .leaf
  let s := (s.put F.TRG_LAT_IN_DELAY 3).put F.TRG_LAT_DOMAIN 50
  let s := (List.range 16).foldl (fun s p => s.put (F.PORT_CFG_TYPE p) 0) s
  let s := (((s.put (F.PORT_CFG_TYPE 2) 1).put (F.PORT_CFG_TYPE 4) 2).put F.TREE_STATUS_USE 1).put F.TREE_STATUS_DUP 0
  let s := (s.put F.FE_CTRL_MATRIX_EN 1).put F.TRG_MODE_READOUT 0
  ev20 { s with trg := { s.trg with queue := [e20 s 1, e20 s 2], ready := [e20 s 0] } }
def q21 (s : State) : State := { s with trg := { s.trg with queue := [e20 s 7] } }
def u21 (s : State) : State := (s.atSlot (s.time.slots + 5)).getD {}
def mm (s : State) (d : Nat) : TrigMsg := { word := 0xA8, slot := s.time.slot - d, orbit := s.time.orbit, trigger := 5, src := 5 }
def k21 (s : State) (b : Nat) : State :=
  let s := { s with sys := { s.sys with role := .relay } , trg := { s.trg with ready := [] } }
  let s := (((s.put (F.PORT_CFG_TYPE 5) 3).put F.TRG_STATUS_BUSY b).put F.TRG_BUSY_BUF_ON 8).put F.TRG_BUSY_BUF_OFF 7
  let s := (s.put F.TRG_BUSY_Q_ON 40).put F.TRG_BUSY_Q_OFF 30
  s.put (F.PORT_STATUS_STATE 5) 6
def j21 (s : State) : State := ((s.put F.TRG_BUSY_Q_ON 1).put F.TRG_STATUS_BUSY 0)
def full20 (s : State) : State := { s with asm := { s.asm with frags := List.replicate 64 { tag := 9, kind := .accept, first := 0, last := 0, trig := 0 } } }
end P20

open P20 in
theorem wit_RootStageFormsAccepts :
    (∃ (s u : State) (w r named : Nat) (m : TrigMsg), Awake s ∧ s.sys.role = .root ∧ s.time.fRun = true ∧ s.time.counting = true ∧ s.sys.run = .running ∧ s.atSlot (s.time.slots + 1) = some u ∧ s.time.runStart = some r ∧ named = u.time.slots - 1 - s.get F.TRG_LAT_IN_DELAY ∧ r ≤ named ∧ w < 256 ∧ bitsOf w 7 1 = 1 ∧ bitsOf w 0 3 = 0 ∧ u.calTriggers named = [] ∧ s.trg.forced = false ∧ u.autoDue named = false ∧ fragOut u = u ∧ (u.trg.queue.filter (fun e => e.accept)).length + u.trg.ready.length < 1024 ∧ m = { word := w, slot := (u.orbitSlotOf named).2, orbit := (u.orbitSlotOf named).1, trigger := (s.rd Reg.TRG_EVT + 1) % 2 ^ 32, src := 2 ^ s.get (F.TRG_TYPE_SRC (bitsOf w 3 4)) } ∧ 0 < s.trg.tokens) ∧
    (∃ (s u : State) (w r named : Nat) (m : TrigMsg), Awake s ∧ s.sys.role = .root ∧ s.time.fRun = true ∧ s.time.counting = true ∧ s.sys.run = .running ∧ s.atSlot (s.time.slots + 1) = some u ∧ s.time.runStart = some r ∧ named = u.time.slots - 1 - s.get F.TRG_LAT_IN_DELAY ∧ r ≤ named ∧ w < 256 ∧ bitsOf w 7 1 = 1 ∧ bitsOf w 0 3 = 0 ∧ u.calTriggers named = [] ∧ s.trg.forced = false ∧ u.autoDue named = false ∧ fragOut u = u ∧ (u.trg.queue.filter (fun e => e.accept)).length + u.trg.ready.length < 1024 ∧ m = { word := w, slot := (u.orbitSlotOf named).2, orbit := (u.orbitSlotOf named).1, trigger := (s.rd Reg.TRG_EVT + 1) % 2 ^ 32, src := 2 ^ s.get (F.TRG_TYPE_SRC (bitsOf w 3 4)) } ∧ s.trg.tokens = 0) ∧
    (∃ (s u : State) (w : Nat), Awake s ∧ s.sys.role = .root ∧ s.time.fRun = true ∧ s.time.counting = true ∧ (s.sys.run = .ready ∨ s.sys.run = .armed ∨ s.sys.run = .hold) ∧ s.atSlot (s.time.slots + 1) = some u ∧ bitsOf w 7 1 = 1 ∧ bitsOf w 0 3 = 0 ∧ fragOut u = u) ∧
    (∃ (s : State), Awake s ∧ s.sys.role = .root ∧ s.time.fRun = true ∧ s.time.counting = true ∧ s.sys.run.isReady = true ∧ s.time.len ≤ s.time.slot + 1 ∧ fragOut s = s) ∧
    (∃ (s : State), Awake s ∧ s.sys.role = .root ∧ s.time.fRun = true ∧ (s.sys.run = .safe ∨ s.sys.run.isReady = true ∧ s.time.counting = false) ∧ fragOut s = s) ∧
    (∃ (s v : State), Awake s ∧ s.sys.role = .root ∧ s.time.fRun = true ∧ s.atSlot (s.trg.refillAt + 4) = some v) ∧
    (∃ (s v : State) (r named : Nat), Awake s ∧ s.sys.role = .root ∧ s.time.fRun = true ∧ s.sys.run = .running ∧ s.on F.TRG_AUTO_EN = true ∧ s.atSlot (s.trg.lastNamed + max 1 (s.get F.TRG_AUTO_TIMEOUT) + 2 + s.get F.TRG_LAT_IN_DELAY) = some v ∧ named = v.time.slots - 1 - s.get F.TRG_LAT_IN_DELAY ∧ s.time.runStart = some r ∧ r ≤ named ∧ v.calTriggers named = [] ∧ 0 < s.trg.tokens ∧ v.driftsUp = [] ∧ (v.trg.queue.filter (fun e => e.accept)).length + v.trg.ready.length < 1024) ∧
    (∃ (s : State), Awake s ∧ s.sys.role = .root ∧ s.time.fRun = true ∧ (s.sys.run ≠ .running ∨ s.on F.TRG_AUTO_EN = false)) ∧
    (∃ (s : State), Awake s ∧ s.sys.role = .root ∧ s.time.fRun = true ∧ s.sys.run.isReady = true) :=
  ⟨⟨b20 1 3, u20 (b20 1 3), 0xA8, (b20 1 3).time.slots - 50, n20 (b20 1 3), m20 (b20 1 3) 0xA8, by decide +kernel⟩,
   ⟨b20 1 0, u20 (b20 1 0), 0xA8, (b20 1 0).time.slots - 50, n20 (b20 1 0), m20 (b20 1 0) 0xA8, by decide +kernel⟩,
   ⟨h20 (b20 1 0), u20 (h20 (b20 1 0)), 0xA8, by decide +kernel⟩,
   ⟨last20 (b20 1 3), by decide +kernel⟩,
   ⟨safe20 (b20 1 3), by decide +kernel⟩,
   ⟨b20 1 3, v20 (b20 1 3), by decide +kernel⟩,
   ⟨g20 (b20 1 3), a20 (g20 (b20 1 3)), (b20 1 0).time.slots - 50, (a20 (g20 (b20 1 3))).time.slots - 4, by decide +kernel⟩,
   ⟨b20 1 3, by decide +kernel⟩,
   ⟨b20 1 3, by decide +kernel⟩⟩

open P20 in
theorem wit_TriggersAreQueuedAppliedAndIssued :
    (∃ (s : State) (p : Nat) (m : TrigMsg) (e : TrigEntry), Awake s ∧ s.isRoot = false ∧ s.shaftPort = some p ∧ s.otherShaft ≠ some p ∧ s.sys.run ≠ .safe ∧ s.driftsUp = [] ∧ s.time.counting = true ∧ bitsOf m.word 7 1 = 1 ∧ (s.trg.queue.filter (fun e => e.accept)).length + s.trg.ready.length < 1024 ∧ s.time.slots ≤ s.monoOf m.orbit m.slot + s.domainLat) ∧
    (∃ (s : State) (p : Nat) (m : TrigMsg) (e : TrigEntry), Awake s ∧ s.isRoot = false ∧ s.shaftPort = some p ∧ s.otherShaft ≠ some p ∧ s.sys.run ≠ .safe ∧ s.driftsUp = [] ∧ s.time.counting = true ∧ bitsOf m.word 7 1 = 1 ∧ (s.trg.queue.filter (fun e => e.accept)).length + s.trg.ready.length < 1024 ∧ s.monoOf m.orbit m.slot + s.domainLat < s.time.slots) ∧
    (∃ (s : State) (p : Nat), Awake s ∧ s.isRoot = false ∧ s.otherShaft = some p) ∧
    (∃ (s u : State) (e : TrigEntry) (es : List TrigEntry), Awake s ∧ s.isRoot = false ∧ s.trg.queue = e :: es ∧ e.accept = true ∧ bitsOf e.msg.word 0 3 = 0 ∧ s.atSlot e.apply = some u ∧ fragOut u = u ∧ s.sys.run = .running ∧ s.get F.TRG_MODE_READOUT = 0 ∧ s.matrixOn = true ∧ s.trg.frozen = false ∧ s.trg.releases = []) ∧
    (∃ (s u : State) (e : TrigEntry) (es : List TrigEntry), Awake s ∧ s.isRoot = false ∧ s.trg.queue = e :: es ∧ e.accept = true ∧ bitsOf e.msg.word 0 3 = 0 ∧ s.atSlot e.apply = some u ∧ fragOut u = u ∧ (s.sys.run ≠ .running ∨ s.get F.TRG_MODE_READOUT = 1)) ∧
    (∃ (s : State), Awake s ∧ s.isRoot = false ∧ s.trg.queue = [] ∧ fragOut s = s) ∧
    (∃ (s : State) (e : TrigEntry) (es : List TrigEntry), Awake s ∧ s.isRoot = false ∧ s.trg.ready = e :: es ∧ fragOut s = s ∧ s.mayIssue = true) ∧
    (∃ (s : State) (e : TrigEntry) (es : List TrigEntry), Awake s ∧ s.isRoot = false ∧ s.trg.ready = e :: es ∧ fragOut s = s ∧ s.mayIssue = false) ∧
    (∃ (s : State) (f : Frag) (fs : List Frag), Awake s ∧ s.isRoot = false ∧ s.trg.ready = [] ∧ s.asm.waits = f :: fs ∧ fragOut s = s ∧ s.mayIssue = true) ∧
    (∃ (s : State) (f : Frag) (fs : List Frag), Awake s ∧ s.isRoot = false ∧ s.trg.ready = [] ∧ s.asm.waits = f :: fs ∧ fragOut s = s ∧ s.mayIssue = false) ∧
    (∃ (s : State), Awake s ∧ s.isRoot = false ∧ s.trg.ready = [] ∧ s.asm.waits = [] ∧ fragOut s = s) ∧
    (∃ (s : State), Awake s ∧ s.isRoot = false ∧ s.get F.TRG_BUSY_Q_ON ≤ s.trg.ready.length ∧ s.on F.TRG_STATUS_BUSY = false ∧ s.upPorts = []) ∧
    (∃ (s : State) (p : Nat) (busy : Bool), Awake s ∧ s.isRoot = false ∧ s.driftsUp = [p] ∧ s.ownBusyNow = false ∧ s.on F.TRG_STATUS_BUSY ≠ busy ∧ s.upPorts = []) :=
  ⟨⟨b21 1 .running, 2, mm (b21 1 .running) 3, e20 (b21 1 .running) 1, by decide +kernel⟩,
   ⟨b21 2 .armed, 2, mm (b21 2 .armed) 60, e20 (b21 2 .armed) 1, by decide +kernel⟩,
   ⟨q21 (b21 1 .running), 4, by decide +kernel⟩,
   ⟨b21 1 .running, u21 (b21 1 .running), e20 (b21 1 .running) 1, [e20 (b21 1 .running) 2], by decide +kernel⟩,
   ⟨b21 2 .armed, u21 (b21 2 .armed), e20 (b21 2 .armed) 1, [e20 (b21 2 .armed) 2], by decide +kernel⟩,
   ⟨wt20 (b21 1 .running), by decide +kernel⟩,
   ⟨b21 2 .armed, e20 (b21 2 .armed) 0, [], by decide +kernel⟩,
   ⟨full20 (b21 1 .running), e20 (b21 1 .running) 0, [], by decide +kernel⟩,
   ⟨wt20 (b21 1 .running), f20, [], by decide +kernel⟩,
   ⟨full20 (wt20 (b21 1 .running)), f20, [], by decide +kernel⟩,
   ⟨k21 (b21 2 .armed) 1, by decide +kernel⟩,
   ⟨j21 (b21 2 .armed), by decide +kernel⟩,
   ⟨k21 (b21 2 .armed) 1, 5, false, by decide +kernel⟩⟩

namespace P22
def ports22 (s : State) : State :=
  let s := (List.range 16).foldl (fun s p => s.put (F.PORT_CFG_TYPE p) 0) s
  let s := (((s.put (F.PORT_CFG_TYPE 2) 1).put (F.PORT_CFG_TYPE 4) 2).put F.TREE_STATUS_USE 1).put F.TREE_STATUS_DUP 0
  let s := (s.put (F.PORT_CFG_TYPE 5) 3).put (F.PORT_STATUS_STATE 5) 6
  s.put (F.PORT_STATUS_STATE 2) 6
def b22 (seed : Nat) (run : RunState) : State :=
  let s := ports22 (die seed run .relay)
  let s := ((s.put F.FE_CTRL_MATRIX_EN 1).put F.TRG_SELF_MULT_N 1).put F.TRG_SELF_ADJ_N 0
  let s := ((s.put F.TRG_SELF_COINC_N 0).put F.TRG_PRIM_LAT 60).put F.TRG_PRIM_HOP 4
  let s := (s.wr (Reg.TRG_SELF_EN 0) 0x20).put F.TREE_ID_LEVEL 3
  { s with trg := { s.trg with edges := [(s.time.slots - 3, 5 * 64 + 7)], sentTo := s.time.slots - 20 } }
def u22 (s : State) : State := (s.atSlot (s.time.slots + 2)).getD {}
def pm22 (s : State) (d : Nat) : PrimMsg := { count := 4, slot := s.time.slot - d - (s.time.slot - d) % 4, orbit := s.time.orbit, prims := [1,2,3,4] }
def g22 (s : State) : PrimGroup := { s.groupAt (s.time.slots - 8) with own := [(0, 5), (1, 3)], kids := [(5, [1, 0x82, 3])] }
def c22 (s : State) : State := { s with trg := { s.trg with groups := [g22 s, s.groupAt (s.time.slots - 4)] } }
def d22 (s : State) : State := (s.atSlot ((g22 s).first + 59 - 8)).getD {}
def r22 (s : State) : State := { s with sys := { s.sys with role := .root }, regs := (s.put F.HIF_TPRIM_EN 0).regs }
def dr22 (s : State) : State := (s.atSlot ((g22 s).first + 59)).getD {}
def own22 (s : State) (a b : Nat) : State := { s with trg := { s.trg with ownTo := a, sentTo := b } }
def w22 (s : State) : InjWin := { first := s.time.slots - 10, last := s.time.slots - 4, group := 3, stride := 1, dead := false }
def t22 (seed cmp mode : Nat) (fr : Bool) : State :=
  let s := b22 seed .running
  let s := (((s.put F.TRG_MODE_READOUT mode).put F.TRG_MTEST_CMP cmp).put F.TRG_MTEST_EXP_SRC 1)
  let s := { s with regs := s.regs.filter (fun p => !(decide (Reg.TRG_EXP 0 ≤ p.1 ∧ p.1 < Reg.TRG_EXP 256))) }
  let s := s.wr (Reg.TRG_EXP 5) 0x90
  let s := ((s.put (F.FE_CH_PD 327) 0).put (F.FE_CH_MASK 327) 0).put (F.FE_CH_PD 324) 0
  let s := s.put (F.FE_CH_MASK 324) 0
  let s := s.setTile 5 { buf := [{ slots := 3, data := 5, dpar := 1 }], drops := [4], resp := [{ tag := 3, words := [5] }] }
  { s with trg := { s.trg with edges := [(s.time.slots - 7, 5 * 64 + 7)], tests := [w22 s, w22 s], frozen := fr, frozenWin := if fr then some (w22 s) else none } }
def ut22 (s : State) (d : Nat) : State := (s.atSlot (s.time.slots + d)).getD {}
def wt22 (s : State) : State := { s with asm := { s.asm with waits := [{ tag := 0, kind := .stream, first := 7, last := 9, trig := 7 }] } }
def last22 (s : State) : State := { s with time := { s.time with slot := 4095 } }
def none22 (s : State) : State := { s with trg := { s.trg with tests := [] } }
end P22

open P22 in
theorem wit_PrimitivesAreFormedMergedAndSent :
    (∃ (s u : State) (slot h : Nat), Awake s ∧ slot < s.time.len ∧ s.time.slot < s.time.len ∧ h + (s.time.slot + s.time.len - slot) % s.time.len = s.time.slots ∧ s.atSlot (h + 5) = some u ∧ s.trg.ownTo ≤ h ∧ s.trg.sentTo ≤ h ∧ s.trg.groups = [] ∧ 1 < (u.groupAt h).count ∧ (u.groupAt h).first ≤ h) ∧
    (∃ (s u : State) (slot h : Nat), Awake s ∧ slot < s.time.len ∧ s.time.slot < s.time.len ∧ h + (s.time.slot + s.time.len - slot) % s.time.len = s.time.slots ∧ s.atSlot (h + 5) = some u ∧ s.trg.ownTo ≤ h ∧ h < s.trg.sentTo) ∧
    (∃ (s u : State) (slot h : Nat), Awake s ∧ slot < s.time.len ∧ s.time.slot < s.time.len ∧ h + (s.time.slot + s.time.len - slot) % s.time.len = s.time.slots ∧ s.atSlot (h + 5) = some u ∧ h < s.trg.ownTo) ∧
    (∃ (s : State) (p : Nat) (m : PrimMsg), Awake s ∧ s.driftsUp.contains p = true ∧ s.monoOf m.orbit m.slot < s.trg.sentTo) ∧
    (∃ (s : State) (p : Nat) (m : PrimMsg), Awake s ∧ s.driftsUp.contains p = true ∧ s.trg.sentTo ≤ s.monoOf m.orbit m.slot ∧ s.trg.groups = [] ∧ 0 < (s.groupAt (s.monoOf m.orbit m.slot)).count) ∧
    (∃ (s : State) (p : Nat), Awake s ∧ s.driftsUp.contains p = false) ∧
    (∃ (s u : State) (g : PrimGroup) (gs : List PrimGroup), Awake s ∧ s.trg.groups = g :: gs ∧ s.isRoot = false ∧ s.sys.run = .running ∧ s.atSlot (g.first + s.get F.TRG_PRIM_LAT - 1 - (s.level - 1) * max 1 (s.get F.TRG_PRIM_HOP)) = some u) ∧
    (∃ (s u : State) (g : PrimGroup) (gs : List PrimGroup), Awake s ∧ s.trg.groups = g :: gs ∧ s.isRoot = true ∧ s.sys.run = .running ∧ s.on F.HIF_TPRIM_EN = false ∧ s.atSlot (g.first + s.get F.TRG_PRIM_LAT - 1) = some u ∧ u.outHeld = false) ∧
    (∃ (s : State), Awake s ∧ s.trg.groups = []) :=
  ⟨⟨b22 1 .running, u22 (b22 1 .running), (b22 1 .running).time.slot - 3, (b22 1 .running).time.slots - 3, by decide +kernel⟩,
   ⟨own22 (b22 1 .running) 0 ((b22 1 .running).time.slots), u22 (own22 (b22 1 .running) 0 ((b22 1 .running).time.slots)), (b22 1 .running).time.slot - 3, (b22 1 .running).time.slots - 3, by decide +kernel⟩,
   ⟨own22 (b22 1 .running) ((b22 1 .running).time.slots - 2) 5, u22 (own22 (b22 1 .running) ((b22 1 .running).time.slots - 2) 5), (b22 1 .running).time.slot - 3, (b22 1 .running).time.slots - 3, by decide +kernel⟩,
   ⟨b22 1 .running, 5, pm22 (b22 1 .running) 40, by decide +kernel⟩,
   ⟨b22 2 .armed, 5, pm22 (b22 2 .armed) 8, by decide +kernel⟩,
   ⟨c22 (b22 2 .running), 2, by decide +kernel⟩,
   ⟨c22 (b22 2 .running), d22 (c22 (b22 2 .running)), g22 (b22 2 .running), [(b22 2 .running).groupAt ((b22 2 .running).time.slots - 4)], by decide +kernel⟩,
   ⟨r22 (c22 (b22 2 .running)), dr22 (r22 (c22 (b22 2 .running))), g22 (b22 2 .running), [(b22 2 .running).groupAt ((b22 2 .running).time.slots - 4)], by decide +kernel⟩,
   ⟨b22 1 .running, by decide +kernel⟩⟩

open P22 in
theorem wit_MaskTestPassesOrFreezesCapture :
    (∃ (s u : State) (w : InjWin) (ws : List InjWin), Awake s ∧ s.trg.tests = w :: ws ∧ s.atSlot (w.last + 5) = some u ∧ s.get F.TRG_MODE_READOUT = 3 ∧ s.get F.TRG_MTEST_CMP ≠ 0 ∧ s.trg.frozen = false ∧ s.matrixOn = true ∧ (u.testTiles w).all (fun x => !testViolates (s.get F.TRG_MTEST_CMP) (u.testMaps w x).1 (u.testMaps w x).2) = true) ∧
    (∃ (s u : State) (w : InjWin) (ws : List InjWin) (k : Nat), Awake s ∧ s.trg.tests = w :: ws ∧ s.atSlot (w.last + 5) = some u ∧ s.get F.TRG_MODE_READOUT = 3 ∧ s.get F.TRG_MTEST_CMP ≠ 0 ∧ s.trg.frozen = false ∧ s.matrixOn = true ∧ u.testTiles w = [k] ∧ k < 256 ∧ testViolates (s.get F.TRG_MTEST_CMP) (u.testMaps w k).1 (u.testMaps w k).2 = true) ∧
    (∃ (s u : State) (w : InjWin) (ws : List InjWin), Awake s ∧ s.trg.tests = w :: ws ∧ s.atSlot (w.last + 5) = some u ∧ (s.get F.TRG_MODE_READOUT ≠ 3 ∨ s.trg.frozen = true)) ∧
    (∃ (s : State) (w : InjWin), Awake s ∧ s.sys.run = .running ∧ s.trg.frozen = true ∧ s.trg.frozenWin = some w ∧ w.first ≤ w.last ∧ fragOut s = s ∧ s.mayIssue = true ∧ s.asm.waits = []) ∧
    (∃ (s : State) (w : InjWin), Awake s ∧ s.sys.run = .running ∧ s.trg.frozen = true ∧ s.trg.frozenWin = some w ∧ w.first ≤ w.last ∧ fragOut s = s ∧ (s.mayIssue = false ∨ s.asm.waits ≠ [])) ∧
    (∃ (s : State), Awake s ∧ s.sys.run.isReady = true ∧ s.trg.frozen = false ∧ fragOut s = s) ∧
    (∃ (s : State), Awake s ∧ s.sys.run = .running ∧ s.trg.frozen = true ∧ s.time.fRun = true ∧ s.time.counting = true ∧ s.time.len ≤ s.time.slot + 1) ∧
    (∃ (s : State), Awake s ∧ s.trg.tests = []) ∧
    (∃ (s u : State), Awake s ∧ s.sys.run = .running ∧ s.trg.frozen = true ∧ s.time.fRun = true ∧ s.time.counting = true ∧ s.atSlot (s.time.slots + 1) = some u) :=
  ⟨⟨t22 1 3 3 false, ut22 (t22 1 3 3 false) 1, w22 (t22 1 3 3 false), [w22 (t22 1 3 3 false)], by decide +kernel⟩,
   ⟨t22 1 1 3 false, ut22 (t22 1 1 3 false) 1, w22 (t22 1 1 3 false), [w22 (t22 1 1 3 false)], 5, by decide +kernel⟩,
   ⟨t22 1 2 3 true, ut22 (t22 1 2 3 true) 1, w22 (t22 1 1 3 true), [w22 (t22 1 1 3 false)], by decide +kernel⟩,
   ⟨t22 1 2 3 true, w22 (t22 1 1 3 true), by decide +kernel⟩,
   ⟨wt22 (t22 2 2 3 true), w22 (t22 2 1 3 true), by decide +kernel⟩,
   ⟨t22 1 3 3 false, by decide +kernel⟩,
   ⟨last22 (t22 2 2 3 true), by decide +kernel⟩,
   ⟨none22 (t22 2 2 3 false), by decide +kernel⟩,
   ⟨t22 1 2 3 true, ut22 (t22 1 2 3 true) 1, by decide +kernel⟩⟩

namespace P23
def ports23 (s : State) : State :=
  let s := (List.range 16).foldl (fun s p => s.put (F.PORT_CFG_TYPE p) 0) s
  let s := (((s.put (F.PORT_CFG_TYPE 2) 1).put (F.PORT_CFG_TYPE 4) 2).put F.TREE_STATUS_USE 1).put F.TREE_STATUS_DUP 0
  let s := (s.put (F.PORT_CFG_TYPE 5) 3).put (F.PORT_STATUS_STATE 5) 6
  (s.put (F.PORT_STATUS_STATE 2) 6).put (F.PORT_STATUS_VERSION 2) 3
def b23 (seed : Nat) (run : RunState) : State :=
  let s := ports23 (die seed run .relay)
  let s := ((s.put F.FE_CTRL_MATRIX_EN 1).put F.TRG_SELF_MULT_N 1).put F.TRG_MODE_READOUT 2
  let s := ((s.put F.TRG_SPEC_COND 7).put F.TRG_STATUS_SPEC_DEMOTED 0).put F.TRG_STATUS_BUSY 0
  let s := (s.wr (Reg.TRG_SELF_EN 0) 0x20).put F.TRG_LAT_DOMAIN 50
  let s := (s.put F.TALLY_CTRL_SOURCE 0).put F.TREE_ID_NUMBERED 1
  { s with trg := { s.trg with edges := [(s.time.slots - 3, 5 * 64 + 7)] } }
def u23 (s : State) (d : Nat) : State := (s.atSlot (s.time.slots + d)).getD {}
def e23 (s : State) : TrigEntry := { msg := { word := 0xA8, slot := 9, orbit := 8, trigger := 77, src := 5 }, apply := 5, accept := true }
def r23 (s : State) (acc left done : Bool) : Release := { h := s.time.slots - 40, orbit := s.time.orbit, slot := s.time.slot - 40, accept := if acc then some (e23 s) else none, left := left, done := done, res := if done then .confirmed else .pending }
def m23 (s : State) : SpecMsg := { info := 1, origin := 7, orbit := s.time.orbit, slot := s.time.slot - 40, src := 9, trigger := 88 }
def hold23 (s : State) (org : Nat) : State := { s with buf := { units := [{ stream := 0, origin := org, q := true, part := .quar, bytes := leBytes 2 200 ++ leBytes 2 0 ++ leBytes 2 org ++ leBytes 2 2 ++ leBytes 4 0 ++ leBytes 4 s.time.orbit ++ leBytes 2 (s.time.slot - 40) ++ leBytes 40 5 }] } }
def rel23 (s : State) (r : Release) : State := { s with trg := { s.trg with releases := [r] } }
def nb (s : State) : State := s.put F.TRG_STATUS_BUSY 1
def f23 : Frag := { tag := 3, kind := .spec, first := 7, last := 9, trig := 7 }
def x1 := rel23 (b23 1 .running) (r23 (b23 1 .running) true false false)
def x2 := rel23 (b23 1 .running) (r23 (b23 1 .running) false true false)
def x3 := hold23 (rel23 (b23 1 .running) (r23 (b23 1 .running) true true false)) (b23 1 .running).dieNo
def x3' := ((x3.put F.TRG_SPEC_OFS 0xF).put F.TRG_SPEC_LEN 5).put (F.TRG_TYPE_OFS 5) 0
def x3'' := x3'.put (F.TRG_TYPE_LEN 5) 2
def x3s := fragOut x3''
def x4 := rel23 (b23 1 .running) (r23 (b23 1 .running) true true true)
def x5 := hold23 (b23 3 .running) 7
def x5s := fragOut x5
def x6 : State := { b23 3 .running with sys := { (b23 3 .running).sys with role := .root }, trg := { table := [{ id := { origin := 3, orbit := 4, slot := 5 }, confirm := true, msg := m23 (b23 1 .running), expire := (b23 3 .running).time.slots + 9 }, { id := { origin := 3, orbit := 4, slot := 6 }, confirm := true, msg := m23 (b23 1 .running), expire := (b23 3 .running).time.slots + 12 }], forwarded := [({origin := 3, orbit := (b23 3 .running).time.orbit, slot := 600}, 3, 5)] } }
def x9 : State := ((b23 1 .running).put (F.PORT_STATUS_VERSION 5) 3).put (F.TREE_ROUTE_DRIFT 7) 0
def fr23 (s : State) : Frag := { tag := 3, kind := .spec, first := s.time.slots - 40, last := s.time.slots - 38, trig := s.time.slots - 40, orbit := s.time.orbit, slot := s.time.slot - 40 }
def x7 (acc : Bool) : State := { rel23 (b23 1 .running) (r23 (b23 1 .running) acc false false) with asm := { waits := [fr23 (b23 1 .running)] } }
def x8 (acc : Bool) : State := { rel23 (b23 1 .running) (r23 (b23 1 .running) acc false false) with asm := { frags := [fr23 (b23 1 .running)] } }
def w23 : State := { b23 1 .running with asm := { waits := [f23] } }
def c23 : State := (b23 1 .running).put F.TRG_SPEC_COND 0
end P23

open P23 in
theorem wit_SpeculationReleasesAndResolves :
    (∃ (s u : State) (slot h : Nat), Awake s ∧ s.get F.TRG_MODE_READOUT = 2 ∧ s.matrixOn = true ∧ slot < s.time.len ∧ s.time.slot < s.time.len ∧ h + (s.time.slot + s.time.len - slot) % s.time.len = s.time.slots ∧ s.atSlot (h + 5) = some u ∧ fragOut u = u ∧ (u.condsAt h).1 &&& s.get F.TRG_SPEC_COND ≠ 0 ∧ s.trg.releases.any (fun x => decide (x.h = h)) = false ∧ s.sys.run = .running ∧ s.on F.TRG_STATUS_SPEC_DEMOTED = false ∧ s.trg.demoted = false ∧ s.on F.TRG_STATUS_BUSY = false ∧ s.trg.lastRel.all (fun l => decide (l + max 1 (s.get F.TRG_SPEC_PERIOD) ≤ h)) = true) ∧
    (∃ (s u : State) (slot h : Nat), Awake s ∧ s.get F.TRG_MODE_READOUT = 2 ∧ s.matrixOn = true ∧ slot < s.time.len ∧ s.time.slot < s.time.len ∧ h + (s.time.slot + s.time.len - slot) % s.time.len = s.time.slots ∧ s.atSlot (h + 5) = some u ∧ fragOut u = u ∧ (u.condsAt h).1 &&& s.get F.TRG_SPEC_COND ≠ 0 ∧ s.trg.releases.any (fun x => decide (x.h = h)) = false ∧ (s.sys.run ≠ .running ∨ s.on F.TRG_STATUS_BUSY = true ∨ s.on F.TRG_STATUS_SPEC_DEMOTED = true ∨ s.trg.demoted = true ∨ s.trg.lastRel.any (fun l => decide (h < l + max 1 (s.get F.TRG_SPEC_PERIOD))) = true)) ∧
    (∃ (s u : State) (slot h : Nat), Awake s ∧ s.get F.TRG_MODE_READOUT = 2 ∧ s.matrixOn = true ∧ slot < s.time.len ∧ s.time.slot < s.time.len ∧ h + (s.time.slot + s.time.len - slot) % s.time.len = s.time.slots ∧ s.atSlot (h + 5) = some u ∧ fragOut u = u ∧ ((u.condsAt h).1 &&& s.get F.TRG_SPEC_COND = 0 ∨ s.trg.releases.any (fun x => decide (x.h = h)) = true)) ∧
    (∃ (s u : State) (r : Release), Awake s ∧ s.trg.releases = [r] ∧ r.done = false ∧ s.atSlot (r.h + s.domainLat) = some u ∧ fragOut u = u ∧ u.asm.flush = none ∧ u.relWaits r = true) ∧
    (∃ (s u : State) (r : Release) (e : TrigEntry) (f : Frag), Awake s ∧ s.trg.releases = [r] ∧ r.done = false ∧ s.atSlot (r.h + s.domainLat) = some u ∧ fragOut u = u ∧ u.asm.flush = none ∧ u.relWaits r = false ∧ u.relIssued r = some f ∧ r.accept = some e) ∧
    (∃ (s u : State) (r : Release) (f : Frag), Awake s ∧ s.trg.releases = [r] ∧ r.done = false ∧ s.atSlot (r.h + s.domainLat) = some u ∧ fragOut u = u ∧ u.asm.flush = none ∧ u.relWaits r = false ∧ u.relIssued r = some f ∧ r.accept = none) ∧
    (∃ (s u : State) (slot : Nat) (r : Release), Awake s ∧ s.trg.releases = [r] ∧ r.done = false ∧ s.atSlot (r.h + s.domainLat) = some u ∧ fragOut u = u ∧ u.asm.flush = none ∧ u.relWaits r = false ∧ u.relIssued r = none ∧ r.accept = none ∧ u.holds { origin := u.dieNo, orbit := r.orbit, slot := r.slot } = false ∧ r.left = true) ∧
    (∃ (s u : State) (slot : Nat) (r : Release) (e : TrigEntry), Awake s ∧ s.trg.releases = [r] ∧ r.done = false ∧ s.atSlot (r.h + s.domainLat) = some u ∧ fragOut u = u ∧ u.asm.flush = none ∧ u.relWaits r = false ∧ u.relIssued r = none ∧ r.accept = some e ∧ u.specCovers e = true ∧ s.get F.TALLY_CTRL_SOURCE ≠ 1 ∧ u.facet.wait = [] ∧ u.facet.jobs = [] ∧ u.holds { origin := u.dieNo, orbit := r.orbit, slot := r.slot } = true) ∧
    (∃ (s : State), Awake s ∧ s.trg.releases.all (fun x => x.done) = true ∧ fragOut s = s) ∧
    (∃ (s : State) (p : Nat) (m : SpecMsg), Awake s ∧ s.driftsUp.contains p = true ∧ s.sys.run ≠ .safe ∧ fragOut s = s ∧ s.holds (specIdOf m) = true ∧ s.facet.wait = [] ∧ s.facet.jobs = []) ∧
    (∃ (s : State) (p : Nat) (m : SpecMsg), Awake s ∧ s.driftsUp.contains p = true ∧ s.sys.run ≠ .safe ∧ fragOut s = s ∧ s.holds (specIdOf m) = false ∧ s.forwardedId (specIdOf m) = true) ∧
    (∃ (s : State) (p : Nat) (m : SpecMsg), Awake s ∧ s.driftsUp.contains p = true ∧ s.sys.run ≠ .safe ∧ fragOut s = s ∧ s.holds (specIdOf m) = false ∧ s.forwardedId (specIdOf m) = false ∧ s.trg.table.length < 1024 ∧ s.trg.table.any (fun x => decide (x.id = specIdOf m)) = false) ∧
    (∃ (s : State) (p : Nat), Awake s ∧ (s.driftsUp.contains p = false ∨ s.sys.run = .safe) ∧ fragOut s = s) ∧
    (∃ (s : State) (p : Nat) (m : SpecMsg) (r : Release) (e : TrigEntry), Awake s ∧ s.shaftPort = some p ∧ s.otherShaft ≠ some p ∧ s.on F.TREE_ID_NUMBERED = true ∧ m.origin = s.get F.TREE_ID_DIE ∧ fragOut s = s ∧ s.trg.releases = [r] ∧ r.orbit = m.orbit ∧ r.slot = m.slot ∧ r.done = false ∧ r.accept = some e) ∧
    (∃ (s : State) (p : Nat) (m : SpecMsg) (r : Release) (e : TrigEntry), Awake s ∧ s.shaftPort = some p ∧ s.otherShaft ≠ some p ∧ s.on F.TREE_ID_NUMBERED = true ∧ m.origin = s.get F.TREE_ID_DIE ∧ fragOut s = s ∧ s.trg.releases = [r] ∧ r.orbit = m.orbit ∧ r.slot = m.slot ∧ r.done = true ∧ r.res = .confirmed ∧ r.accept = some e) ∧
    (∃ (s : State) (p : Nat) (m : SpecMsg), Awake s ∧ s.shaftPort = some p ∧ s.otherShaft ≠ some p ∧ (s.on F.TREE_ID_NUMBERED = false ∨ m.origin ≠ s.get F.TREE_ID_DIE) ∧ fragOut s = s ∧ s.facet.wait = [] ∧ s.facet.jobs = []) ∧
    (∃ (s : State) (p : Nat), Awake s ∧ s.otherShaft = some p ∧ fragOut s = s) ∧
    (∃ (s : State) (p : Nat), Awake s ∧ s.otherShaft ≠ some p ∧ s.shaftPort ≠ some p ∧ fragOut s = s) ∧
    (∃ (s u : State) (h : Nat), Awake s ∧ s.ttlDates.contains h = true ∧ s.ttlDates.all (fun y => decide (h ≤ y)) = true ∧ s.atSlot h = some u ∧ fragOut u = u) ∧
    (∃ (s : State), Awake s ∧ s.ttlDates = [] ∧ fragOut s = s) :=
  ⟨⟨b23 1 .running, u23 (b23 1 .running) 2, (b23 1 .running).time.slot - 3, (b23 1 .running).time.slots - 3, by decide +kernel⟩,
   ⟨nb (b23 1 .running), u23 (nb (b23 1 .running)) 2, (b23 1 .running).time.slot - 3, (b23 1 .running).time.slots - 3, by decide +kernel⟩,
   ⟨c23, u23 c23 2, (b23 1 .running).time.slot - 3, (b23 1 .running).time.slots - 3, by decide +kernel⟩,
   ⟨x7 true, u23 (x7 true) 10, r23 (b23 1 .running) true false false, by decide +kernel⟩,
   ⟨x8 true, u23 (x8 true) 10, r23 (b23 1 .running) true false false, e23 (b23 1 .running), fr23 (b23 1 .running), by decide +kernel⟩,
   ⟨x8 false, u23 (x8 false) 10, r23 (b23 1 .running) false false false, fr23 (b23 1 .running), by decide +kernel⟩,
   ⟨x2, u23 x2 10, (b23 1 .running).time.slot - 3, r23 x2 false true false, by decide +kernel⟩,
   ⟨x3s, u23 x3s 10, (b23 1 .running).time.slot - 3, r23 x2 true true false, e23 (b23 1 .running), by decide +kernel⟩,
   ⟨b23 1 .running, by decide +kernel⟩,
   ⟨x5s, 5, m23 x5, by decide +kernel⟩,
   ⟨{ b23 1 .running with trg := { forwarded := [(specIdOf (m23 w23), 5, 0)] } }, 5, m23 w23, by decide +kernel⟩,
   ⟨b23 1 .running, 5, m23 (b23 1 .running), by decide +kernel⟩,
   ⟨x1, 2, by decide +kernel⟩,
   ⟨x1, 2, { m23 x1 with origin := x1.dieNo }, r23 (b23 1 .running) true false false, e23 (b23 1 .running), by decide +kernel⟩,
   ⟨x4, 2, { m23 x2 with origin := x2.dieNo }, r23 x2 true true true, e23 (b23 1 .running), by decide +kernel⟩,
   ⟨x7 true, 2, m23 x2, by decide +kernel⟩,
   ⟨b23 1 .running, 4, by decide +kernel⟩,
   ⟨b23 1 .running, 5, by decide +kernel⟩,
   ⟨x6, u23 x6 9, x6.time.slots + 9, by decide +kernel⟩,
   ⟨b23 1 .running, by decide +kernel⟩⟩

namespace P24
def b24 (seed : Nat) (run : RunState) (d : Option Dump) : State := { die seed run .leaf with tally := { dump := d } }
def d24 (a : DumpAt) (k : Bool) : Dump := { sel := 3, keep := k, id := 5, at' := a, ix := 0 }
def v24 (seed : Nat) (run : RunState) (role : Role) : State :=
  let s := die seed run role
  let s := s.wr Reg.WALL_NOM 671088640
  let s := ((s.put F.VAULT_SCRUB_PERIOD_LOG2 20).wr Reg.VAULT_SCRUB_PTR 4194303).put F.TALLY_CTRL_HBINS 0
  { s with vault := { quota := 7, rows := [3, 4] } }
def mem24 (s : State) : State := { s with vault := { s.vault with mem := [(5, fresh72 0x123456789ABCDEF0), (6, poison72 77), (7, fresh72 1 + 4), (17, fresh72 9 + 2 ^ 70)] } }
def rp24 (s : State) : State := { s with vault := { s.vault with repair := some { row := 5000, spare := 7 } } , regs := (s.put (F.VAULT_SPARE_LEFT 2) 25).regs }
def z24 (s : State) (n : Nat) : State := { s with vault := { s.vault with rows := [5000] }, regs := (s.put (F.VAULT_SPARE_LEFT 2) n).regs }
def r24 (s : State) : Repair := s.repairRun.vault.repair.getD { row := 0, spare := 0 }
def u24 (v : State) : State := match v.vault.repair with | some rp => (v.atF (rp.since.getD v.fNow + (ceilDiv (128 * updateTime) (atLeast1 (v.rd Reg.WALL_NOM)) - rp.ran))).getD {} | none => {}
def sf24 (s : State) : State := { s with sys := { s.sys with run := .safe, readyBall := false } }
end P24

open P24 in
theorem wit_DumpsStartAndWriteRecords :
    (∃ (s : State), Awake s ∧ s.isRoot = false ∧ s.sys.run = .running ∧ s.tally.dump = none) ∧
    (∃ (s : State) (d : Dump), Awake s ∧ s.isRoot = false ∧ s.sys.run = .running ∧ s.tally.dump = some d) ∧
    (∃ (s : State) (d : Dump), Awake s ∧ s.isRoot = false ∧ (s.tally.dump = none ∨ s.tally.dump = some d ∧ s.partFree .dump < ceilDiv (64 + 2 * s.dumpCount d) 64)) ∧
    (∃ (s : State) (d : Dump), Awake s ∧ s.isRoot = false ∧ s.tally.dump = some d ∧ s.hall.e2e.tx = none ∧ s.uplinks = s ∧ ceilDiv (64 + 2 * s.dumpCount d) 64 ≤ s.partFree .dump ∧ d.at' ≠ .first ∧ d.at' ≠ .last) ∧
    (∃ (s : State) (d : Dump), Awake s ∧ s.isRoot = false ∧ s.tally.dump = some d ∧ s.hall.e2e.tx = none ∧ s.uplinks = s ∧ ceilDiv (64 + 2 * s.dumpCount d) 64 ≤ s.partFree .dump ∧ d.at' = .first) ∧
    (∃ (s : State) (d : Dump), Awake s ∧ s.isRoot = false ∧ s.tally.dump = some d ∧ s.hall.e2e.tx = none ∧ s.uplinks = s ∧ ceilDiv (64 + 2 * s.dumpCount d) 64 ≤ s.partFree .dump ∧ d.at' = .last ∧ d.keep = true) :=
  ⟨⟨b24 1 .running none, by decide +kernel⟩,
   ⟨b24 2 .running (some (d24 .first true)), d24 .first true, by decide +kernel⟩,
   ⟨b24 1 .running none, d24 .first true, by decide +kernel⟩,
   ⟨b24 3 .ready (some (d24 .cnt true)), d24 .cnt true, by decide +kernel⟩,
   ⟨b24 2 .running (some (d24 .first true)), d24 .first true, by decide +kernel⟩,
   ⟨b24 3 .ready (some (d24 .last true)), d24 .last true, by decide +kernel⟩⟩

open P24 in
theorem wit_VaultScrubsRepairsAndAnswers :
    (∃ (s : State), Awake s ∧ s.scrubs = true ∧ s.rd Reg.VAULT_SCRUB_PTR < 4194304) ∧
    (∃ (s : State), Awake s ∧ s.scrubs = false) ∧
    (∃ (s : State) (v r : Nat) (rest : List Nat), Awake s ∧ s.sys.run = .ready ∧ s.vault.rows = rest ∧ rest.length < 8 ∧ r = v % 16 * 2048 + v / 16 % 2048 ∧ rest.contains r = false ∧ s.vault.done.contains r = false ∧ s.vault.repair = none) ∧
    (∃ (s : State) (v r : Nat), Awake s ∧ s.sys.run = .ready ∧ r = v % 16 * 2048 + v / 16 % 2048 ∧ (8 ≤ s.vault.rows.length ∨ s.vault.rows.contains r = true ∨ s.vault.done.contains r = true ∨ s.vault.repair.map (fun x => x.row) = some r)) ∧
    (∃ (s : State), Awake s ∧ (s.vault.repair.isSome = true ∨ s.vault.rows = [] ∨ s.quietWork = false ∨ s.sys.run = .safe)) ∧
    (∃ (s : State) (r : Nat) (rest : List Nat), Awake s ∧ s.vault.repair = none ∧ s.vault.rows = r :: rest ∧ s.quietWork = true ∧ s.sys.run ≠ .safe ∧ rest.length < 16 ∧ s.get (F.VAULT_SPARE_LEFT (r / 2048)) ≠ 0) ∧
    (∃ (s : State) (r : Nat) (rest : List Nat), Awake s ∧ s.vault.repair = none ∧ s.vault.rows = r :: rest ∧ s.quietWork = true ∧ s.sys.run ≠ .safe ∧ rest.length < 16 ∧ s.get (F.VAULT_SPARE_LEFT (r / 2048)) = 0) ∧
    (∃ (s : State), Awake s ∧ (s.vault.repair = none ∨ s.quietWork = false)) ∧
    (∃ (s v' u : State) (rp : Repair), Awake s ∧ s.quietWork = true ∧ v' = s.repairRun ∧ v'.vault.repair = some rp ∧ v'.atF (rp.since.getD s.fNow + (ceilDiv (128 * updateTime) (atLeast1 (s.rd Reg.WALL_NOM)) - rp.ran)) = some u ∧ u.vault.repair = some rp ∧ rp.since.isSome = true ∧ rp.row < 32768 ∧ rp.spare < 32 ∧ 0 < s.get (F.VAULT_SPARE_LEFT (rp.row / 2048))) ∧
    (∃ (s : State) (v o : Nat), Awake s ∧ (s.sys.run = .ready ∨ s.sys.run = .armed) ∧ s.isRoot = false ∧ o < 16777216 ∧ s.on F.TALLY_CTRL_HBINS = false ∧ (s.bankQ (bankOf (o / 4))).q = [] ∧ found (s.vword (o / 4)) = .clean ∧ v < 65536) ∧
    (∃ (s : State) (o : Nat), Awake s ∧ s.isRoot = false ∧ (s.sys.run = .running ∨ s.sys.run = .hold ∨ s.sys.run = .safe) ∧ o < 16777216) ∧
    (∃ (s : State) (o : Nat), Awake s ∧ (s.isRoot = false ∨ 33554432 ≤ o)) ∧
    (∃ (s : State) (o n : Nat), Awake s ∧ s.isRoot = true ∧ o < 33554432 ∧ o % n = 0 ∧ (n = 2 ∨ n = 4 ∨ n = 8) ∧ (s.bankQ (bankOf (o / 8))).q = [] ∧ found (s.vword (o / 8)) = .clean) ∧
    (∃ (s : State) (o n : Nat), Awake s ∧ s.isRoot = true ∧ o < 33554432 ∧ o % n = 0 ∧ (n = 2 ∨ n = 4 ∨ n = 8) ∧ (s.bankQ (bankOf (o / 8))).q = [] ∧ found (s.vword (o / 8)) = .poisoned) :=
  ⟨⟨v24 1 .ready .leaf, by decide +kernel⟩,
   ⟨mem24 (v24 2 .safe .root), by decide +kernel⟩,
   ⟨v24 1 .ready .leaf, 0x5, 10240, [3, 4], by decide +kernel⟩,
   ⟨v24 2 .ready .leaf, 0x30, 3, by decide +kernel⟩,
   ⟨rp24 (v24 2 .armed .leaf), by decide +kernel⟩,
   ⟨mem24 (z24 (v24 2 .armed .leaf) 9), 5000, [], by decide +kernel⟩,
   ⟨mem24 (v24 1 .ready .leaf), 3, [4], by decide +kernel⟩,
   ⟨v24 1 .ready .leaf, by decide +kernel⟩,
   ⟨rp24 (v24 2 .armed .leaf), (rp24 (v24 2 .armed .leaf)).repairRun, u24 (rp24 (v24 2 .armed .leaf)).repairRun, r24 (rp24 (v24 2 .armed .leaf)), by decide +kernel⟩,
   ⟨v24 1 .ready .leaf, 0x5, 20, by decide +kernel⟩,
   ⟨sf24 (v24 2 .armed .leaf), 20, by decide +kernel⟩,
   ⟨v24 1 .ready .leaf, 20, by decide +kernel⟩,
   ⟨mem24 (v24 2 .running .root), 44, 4, by decide +kernel⟩,
   ⟨mem24 (v24 2 .running .root), 48, 8, by decide +kernel⟩⟩

namespace P26
def b26 (seed : Nat) : State :=
  let s := die seed .running .relay
  let s := (List.range 16).foldl (fun s p => s.put (F.PORT_CFG_TYPE p) 0) s
  let s := (((s.put (F.PORT_CFG_TYPE 2) 1).put (F.PORT_CFG_LANES 2) 0x0030).put (F.PORT_STATUS_STATE 2) 6).put (F.FAULT_POLICY_LIMIT 5) 255
  let s := s.setPort 2 { lanes := [5, 4], count := 65535, v1 := { given := 65530, rxSeq := 7 }, susp := some 1 }
  s.setLane 5 { lowEyes := 3 }
def li26 (s : State) (l k a e : Nat) : State := ((s.put (F.LANE_STATUS_LOCK l) k).put (F.LANE_STATUS_ADAPT l) a).put (F.LANE_EQ_EYE_MIN l) e
end P26

open P26 in
theorem wit_LanesLockAdaptAndRetrain :
    (∃ (s : State) (l : Nat), Awake s ∧ l < 16 ∧ s.isRetired 5 l = false ∧ s.hostLane l = false) ∧
    (∃ (s : State) (l : Nat), Awake s ∧ l < 16 ∧ s.isRetired 5 l = false ∧ s.on (F.LANE_STATUS_LOCK l) = true ∧ s.laneExcluded l = false ∧ (s.portOfLane l).all (fun q => decide (s.portState q < 2)) = true) ∧
    (∃ (s : State) (l : Nat), Awake s ∧ l < 16 ∧ s.isRetired 5 l = false ∧ s.on (F.LANE_STATUS_LOCK l) = true ∧ s.laneExcluded l = true) ∧
    (∃ (s : State) (l w h : Nat), Awake s ∧ l < 16 ∧ s.isRetired 5 l = false ∧ w < 128 ∧ h < 256 ∧ (s.get (F.LANE_EQ_EYE_MIN l) ≤ w ∨ (s.lane l).lowEyes < 3)) ∧
    (∃ (s : State) (l w h : Nat), Awake s ∧ l < 16 ∧ s.isRetired 5 l = false ∧ w < 128 ∧ h < 256 ∧ w < s.get (F.LANE_EQ_EYE_MIN l) ∧ (s.lane l).lowEyes = 3 ∧ (s.lane l).rxSleep = false ∧ s.get (F.LANE_STATUS_ADAPT l) ≠ 0 ∧ s.get (F.FAULT_POLICY_LIMIT 5) = 255 ∧ sget 0 s.fault.strikes (5 * 2 ^ 20 + l) < 200) ∧
    (∃ (s : State) (l w h : Nat), Awake s ∧ l < 16 ∧ s.isRetired 5 l = false ∧ w < 128 ∧ h < 256 ∧ w < s.get (F.LANE_EQ_EYE_MIN l) ∧ 3 ≤ (s.lane l).lowEyes ∧ (s.lane l).rxSleep = true) ∧
    (∃ (s : State) (l : Nat), Awake s ∧ l < 16 ∧ s.isRetired 5 l = false ∧ s.get (F.LANE_STATUS_ADAPT l) ≠ 0) ∧
    (∃ (s : State) (l w : Nat), Awake s ∧ l < 16 ∧ s.isRetired 5 l = false ∧ s.get (F.LANE_STATUS_ADAPT l) = 0 ∧ w < s.get (F.LANE_EQ_EYE_MIN l) ∧ s.portOfLane l = none) ∧
    (∃ (s : State) (l w : Nat), Awake s ∧ l < 16 ∧ s.isRetired 5 l = false ∧ s.get (F.LANE_STATUS_ADAPT l) = 0 ∧ s.get (F.LANE_EQ_EYE_MIN l) ≤ w ∧ w < 256 ∧ (s.portOfLane l).all (fun q => !(s.port q).retrain) = true) ∧
    (∃ (s : State) (l : Nat), Awake s ∧ l < 16 ∧ s.isRetired 5 l = false ∧ s.get (F.LANE_STATUS_ADAPT l) = 1) ∧
    (∃ (s : State) (l : Nat), Awake s ∧ l < 16 ∧ s.isRetired 5 l = false ∧ s.get (F.LANE_STATUS_ADAPT l) = 2) ∧
    (∃ (s : State) (l : Nat), Awake s ∧ l < 16 ∧ s.isRetired 5 l = false ∧ s.on (F.LANE_STATUS_LOCK l) = false ∧ s.hostLane l = false ∧ (s.lane l).attempts < 3) ∧
    (∃ (s : State) (l : Nat), Awake s ∧ l < 16 ∧ s.isRetired 5 l = false ∧ s.on (F.LANE_STATUS_LOCK l) = false ∧ s.hostLane l = false ∧ 3 ≤ (s.lane l).attempts) :=
  ⟨⟨li26 (b26 1) 5 1 1 20, 5, by decide +kernel⟩,
   ⟨(li26 (b26 4) 6 1 2 20).setLane 6 { attempts := 2 }, 6, by decide +kernel⟩,
   ⟨(li26 (b26 4) 6 1 0 20).setLane 6 { attempts := 2, rxHeld := true }, 6, by decide +kernel⟩,
   ⟨li26 (b26 2) 5 0 0 20, 5, 35, 77, by decide +kernel⟩,
   ⟨li26 (b26 1) 5 1 1 20, 5, 12, 77, by decide +kernel⟩,
   ⟨(li26 (b26 4) 6 1 0 20).setLane 6 { lowEyes := 7, rxSleep := true }, 6, 10, 77, by decide +kernel⟩,
   ⟨li26 (b26 1) 5 1 1 20, 5, by decide +kernel⟩,
   ⟨(li26 (b26 4) 6 1 0 20).setLane 6 { lowEyes := 7, rxSleep := true }, 6, 10, by decide +kernel⟩,
   ⟨li26 (b26 2) 5 0 0 20, 5, 35, by decide +kernel⟩,
   ⟨li26 (b26 1) 5 1 1 20, 5, by decide +kernel⟩,
   ⟨li26 (b26 3) 5 0 2 20, 5, by decide +kernel⟩,
   ⟨li26 (b26 2) 5 0 0 20, 5, by decide +kernel⟩,
   ⟨(li26 (b26 4) 6 0 2 20).setLane 6 { attempts := 3 }, 6, by decide +kernel⟩⟩

open P26 in
theorem wit_PortBlocksSteerTheStriping :
    (∃ (s : State) (p v l : Nat), Awake s ∧ p < 16 ∧ l < 16 ∧ v < 3 ∧ 2 ≤ s.portVersion p) ∧
    (∃ (s : State) (p v l : Nat), Awake s ∧ p < 16 ∧ l < 16 ∧ v < 3 ∧ s.portVersion p < 2) ∧
    (∃ (s : State) (p v l : Nat), Awake s ∧ p < 16 ∧ l < 16 ∧ v < 3 ∧ (s.port p).susp = some v) ∧
    (∃ (s : State) (p v l : Nat), Awake s ∧ p < 16 ∧ l < 16 ∧ v < 3 ∧ (s.port p).susp ≠ some v) ∧
    (∃ (s : State) (p v l c k : Nat), Awake s ∧ p < 16 ∧ l < 16 ∧ v < 3 ∧ s.laneExcluded l = false ∧ s.isRetired 5 l = false ∧ k ≤ 64 ∧ (s.lane l).rejoin = false ∧ ((s.lane l).align = none ∨ (s.lane l).align = some c)) ∧
    (∃ (s : State) (p v l k : Nat), Awake s ∧ p < 16 ∧ l < 16 ∧ v < 3 ∧ s.laneExcluded l = false ∧ s.isRetired 5 l = false ∧ k ≤ 64 ∧ (s.lane l).rejoin = false ∧ s.get (F.FAULT_POLICY_LIMIT 5) = 255 ∧ sget 0 s.fault.strikes (5 * 2 ^ 20 + l) < 200) ∧
    (∃ (s : State) (p v l : Nat), Awake s ∧ p < 16 ∧ l < 16 ∧ v < 3 ∧ (s.laneExcluded l = true ∨ s.isRetired 5 l = true)) ∧
    (∃ (s : State) (p v l k : Nat), Awake s ∧ p < 16 ∧ l < 16 ∧ v < 3 ∧ s.laneExcluded l = false ∧ s.isRetired 5 l = false ∧ k ≤ 64 ∧ (s.lane l).rejoin = true ∧ s.on (F.LANE_STATUS_LOCK l) = true) ∧
    (∃ (s : State) (p v l k : Nat), Awake s ∧ p < 16 ∧ l < 16 ∧ v < 3 ∧ s.laneExcluded l = false ∧ s.isRetired 5 l = false ∧ 64 < k) ∧
    (∃ (s : State) (p v l : Nat), Awake s ∧ p < 16 ∧ l < 16 ∧ v < 3 ∧ 4 ≤ s.portState p ∧ s.portState p ≤ 6) ∧
    (∃ (s : State) (p v l : Nat), Awake s ∧ p < 16 ∧ l < 16 ∧ v < 3 ∧ s.portState p < 4) ∧
    (∃ (s : State) (p v l : Nat), Awake s ∧ p < 16 ∧ l < 16 ∧ v < 3 ∧ (s.port p).lanes = [l] ∧ (s.port p).waiting = [] ∧ (s.port p).replay.all (fun f => !f.again) = true) ∧
    (∃ (s : State) (p v l : Nat), Awake s ∧ p < 16 ∧ l < 16 ∧ v < 3 ∧ (s.port p).lanes = [l] ∧ (s.lane l).waking = true) ∧
    (∃ (s : State) (p v l c : Nat), Awake s ∧ p < 16 ∧ l < 16 ∧ v < 3 ∧ c ≠ l ∧ c < 16 ∧ (s.port p).lanes = [l, c] ∧ (s.lane c).rxSleep = false ∧ (s.lane l).rxSleep = false) ∧
    (∃ (s : State) (p v l c : Nat), Awake s ∧ p < 16 ∧ l < 16 ∧ v < 3 ∧ c ≠ l ∧ c < 16 ∧ (s.port p).lanes = [l, c] ∧ (s.lane c).rxSleep = true ∧ (s.lane l).rxSleep = false) :=
  ⟨⟨(b26 2).put (F.PORT_STATUS_VERSION 2) 2, 2, 1, 5, by decide +kernel⟩,
   ⟨b26 1, 2, 1, 5, by decide +kernel⟩,
   ⟨b26 1, 2, 1, 5, by decide +kernel⟩,
   ⟨(((b26 2).setPort 2 { lanes := [5], susp := some 0 }).setLane 5 { waking := true, align := some 9 }).put (F.PORT_STATUS_VERSION 2) 1, 2, 1, 5, by decide +kernel⟩,
   ⟨b26 1, 2, 1, 5, 4, 3, by decide +kernel⟩,
   ⟨b26 1, 2, 1, 5, 3, by decide +kernel⟩,
   ⟨(b26 2).setLane 5 { rxHeld := true }, 2, 1, 5, by decide +kernel⟩,
   ⟨((b26 2).setLane 5 { rejoin := true }).put (F.LANE_STATUS_LOCK 5) 1, 2, 1, 5, 64, by decide +kernel⟩,
   ⟨b26 2, 2, 1, 5, 65, by decide +kernel⟩,
   ⟨b26 1, 2, 1, 5, by decide +kernel⟩,
   ⟨((b26 2).setLane 4 { rxSleep := true }).put (F.PORT_STATUS_STATE 2) 3, 2, 1, 5, by decide +kernel⟩,
   ⟨(b26 2).setPort 2 { lanes := [5], susp := some 0 }, 2, 0, 5, by decide +kernel⟩,
   ⟨(((b26 2).setPort 2 { lanes := [5], susp := some 0 }).setLane 5 { waking := true, align := some 9 }).put (F.PORT_STATUS_VERSION 2) 1, 2, 1, 5, by decide +kernel⟩,
   ⟨b26 1, 2, 1, 5, 4, by decide +kernel⟩,
   ⟨((b26 2).setLane 4 { rxSleep := true }).put (F.PORT_STATUS_STATE 2) 3, 2, 1, 5, 4, by decide +kernel⟩⟩

namespace P28
def f28 (vc seq : Nat) : TxFrame := { vc := vc, seq := seq, bytes := List.replicate (70 + seq % 7) 3, sends := 1 }
def b28 (seed vc : Nat) : State :=
  let s := die seed .running .relay
  let s := (List.range 16).foldl (fun s p => s.put (F.PORT_CFG_TYPE p) 0) s
  let s := ((s.put (F.PORT_CFG_TYPE 2) 3).put (F.PORT_STATUS_STATE 2) 6).put (F.PORT_REPLAY_LIMIT 2) 3
  s.setPort 2 { replay := [f28 vc 65534, f28 vc 65535], v0 := { since := s.fNow, cum := 50000 }, v1 := { given := 65530, rxSeq := 7, taken := 5, since := s.fNow, cum := 50000 }, v2 := { given := 3, rxSeq := 65535, nakked := true, since := s.fNow, cum := 50000 } }
def u28 (s : State) : State := (s.atF (s.fNow + s.blockTime 2 (max 1 (s.get (F.PORT_REPLAY_TMO 2))))).getD s
def fr28 (typ v seq : Nat) (pl : List Byte) : List Byte := frameBytes 5 6 typ v 0 seq pl none
def pc28 : Piece := { stream := 0, origin := 9, q := false, first := true, last := true, abort := false, bytes := leBytes 90 777 }
def st28 (s : State) : State := s.setPort 2 { s.port 2 with stage := [{ units := 5, pieces := [pc28] }] }
def sh28 (s : State) : State := { s.put (F.PORT_CFG_TYPE 2) 1 with buf := { units := [{ stream := 0, origin := 3, q := false, part := .frag, bytes := [], left := true, seqA := some 65533 }, { stream := 0, origin := 4, q := false, part := .frag, bytes := [], left := true, seqA := some 3 }] } }
def ov28 (s : State) : State := ((s.setPort 2 { s.port 2 with replay := [{ f28 2 65534 with sends := 4 }], lanes := [5, 6] }).put (F.FAULT_POLICY_LIMIT 6) 255)
end P28

open P28 in
theorem wit_CreditAckAndReplay :
    (∃ (s : State) (p v : Nat) (f : TxFrame), Awake s ∧ p < 16 ∧ v < 3 ∧ (s.port p).waiting = [] ∧ (s.port p).replay.all (fun f => !f.again) = true) ∧
    (∃ (s : State) (p v : Nat), Awake s ∧ p < 16 ∧ v < 3 ∧ s.portUp? p = true) ∧
    (∃ (s : State) (p v : Nat), Awake s ∧ p < 16 ∧ v < 3 ∧ s.portUp? p = false) ∧
    (∃ (s : State) (p v : Nat), Awake s ∧ p < 16 ∧ v < 3 ∧ (s.port p).waiting = [] ∧ (s.port p).sess.ends = none ∧ (v < 2 ∨ s.portKind p ≠ 1 ∧ s.portKind p ≠ 2)) ∧
    (∃ (s : State) (p v : Nat), Awake s ∧ p < 16 ∧ v < 3 ∧ (s.port p).waiting = [] ∧ (s.port p).sess.ends = none ∧ v = 2 ∧ (s.portKind p = 1 ∨ s.portKind p = 2)) ∧
    (∃ (s : State) (p v : Nat) (f : TxFrame), Awake s ∧ p < 16 ∧ v < 3 ∧ (s.port p).waiting = [] ∧ (s.port p).replay = [f] ∧ f.vc = v ∧ s.get (F.PORT_REPLAY_LIMIT p) < f.sends ∧ s.get (F.FAULT_POLICY_LIMIT 6) = 255 ∧ sget 0 s.fault.strikes (6 * 2 ^ 20 + p) < 200) ∧
    (∃ (s : State) (p v : Nat) (f : TxFrame), Awake s ∧ p < 16 ∧ v < 3 ∧ (s.port p).replay.all (fun f => decide (f.vc ≠ v)) = true) ∧
    (∃ (s u : State) (p v : Nat) (f g : TxFrame), Awake s ∧ p < 16 ∧ v < 3 ∧ (s.port p).waiting = [] ∧ s.framesWait p = false ∧ (s.port p).replay = [f, g] ∧ f.vc = v ∧ g.vc = v ∧ f.again = false ∧ g.again = false ∧ g.seq = f.seq + 1 ∧ g.seq < 2 ^ 16 ∧ f.sends ≤ s.get (F.PORT_REPLAY_LIMIT p) ∧ g.sends ≤ s.get (F.PORT_REPLAY_LIMIT p) ∧ units f.bytes.length + units g.bytes.length ≤ ((s.port p).vc v).avail ∧ s.atF (((s.port p).vc v).since + s.blockTime p (max 1 (s.get (F.PORT_REPLAY_TMO p)))) = some u) :=
  ⟨⟨b28 1 1, 2, 1, f28 1 65534, by decide +kernel⟩,
   ⟨b28 1 1, 2, 1, by decide +kernel⟩,
   ⟨b28 1 2, 3, 2, by decide +kernel⟩,
   ⟨b28 1 1, 2, 1, by decide +kernel⟩,
   ⟨sh28 (b28 1 2), 2, 2, by decide +kernel⟩,
   ⟨ov28 (b28 1 2), 2, 2, { f28 2 65534 with sends := 4 }, by decide +kernel⟩,
   ⟨b28 1 2, 3, 2, f28 2 65534, by decide +kernel⟩,
   ⟨b28 1 1, u28 (b28 1 1), 2, 1, f28 1 65534, f28 1 65535, by decide +kernel⟩⟩

open P28 in
theorem wit_FramesAreCheckedAndTaken :
    (∃ (s : State) (p v : Nat) (bs : List Byte), Awake s ∧ p < 16 ∧ s.portUp? p = true ∧ s.eqTrack p = s ∧ v = (byteField bs 1 1) % 4 ∧ v < 3 ∧ crcOk bs = false) ∧
    (∃ (s : State) (p v : Nat) (bs : List Byte), Awake s ∧ p < 16 ∧ s.portUp? p = true ∧ s.eqTrack p = s ∧ v = (byteField bs 1 1) % 4 ∧ v < 3 ∧ crcOk bs = true ∧ byteField bs 4 2 ≠ ((s.port p).vc v).rxSeq) ∧
    (∃ (s : State) (p v : Nat) (bs : List Byte), Awake s ∧ p < 16 ∧ s.portUp? p = true ∧ s.eqTrack p = s ∧ v = (byteField bs 1 1) % 4 ∧ v < 3 ∧ crcOk bs = true ∧ byteField bs 4 2 = ((s.port p).vc v).rxSeq ∧ (s.port p).sess = {} ∧ v = 1 ∧ byteField bs 0 1 = 2 ∧ bitsOf (byteField bs 12 2) 0 1 = 0 ∧ badMsgs (bs.length - 20) ((bs.drop 16).take (bs.length - 20)) = false) ∧
    (∃ (s : State) (p v : Nat) (bs : List Byte) (pc : Piece), Awake s ∧ p < 16 ∧ s.portUp? p = true ∧ s.eqTrack p = s ∧ v = (byteField bs 1 1) % 4 ∧ v < 3 ∧ (s.port p).stage = [{ units := 5, pieces := [pc] }] ∧ pc.stream = 0 ∧ pc.q = false ∧ pc.first = true ∧ pc.last = true ∧ pc.abort = false ∧ s.buf.units = [] ∧ pc.bytes.length ≤ 4000 ∧ s.uplinks = s) ∧
    (∃ (s : State) (p v : Nat) (bs : List Byte), Awake s ∧ p < 16 ∧ s.portUp? p = true ∧ s.eqTrack p = s ∧ v = (byteField bs 1 1) % 4 ∧ v < 3 ∧ (s.port p).stage = [] ∧ s.uplinks = s) :=
  ⟨⟨b28 1 1, 2, 1, (fr28 2 1 7 (leBytes 4 0x00030003)) ++ [5], by decide +kernel⟩,
   ⟨b28 1 1, 2, 1, fr28 2 1 8 (leBytes 4 0x00030003), by decide +kernel⟩,
   ⟨b28 1 1, 2, 1, fr28 2 1 7 (leBytes 4 0x00030003), by decide +kernel⟩,
   ⟨st28 (b28 1 1), 2, 2, (fr28 2 2 7 (leBytes 4 0x00030003)) ++ [5], pc28, by decide +kernel⟩,
   ⟨b28 1 1, 2, 1, fr28 2 1 7 (leBytes 4 0x00030003), by decide +kernel⟩⟩

namespace P31
def ts31 : TrainSet := { version := 3, role := 1, bench := false, ready := true, lanes := 2, maxRate := 128, n := 400, d := 8, feat := 511, die := 9, vc2 := 77, auth := 0, ptype := 2 }
def b31 (seed st ty : Nat) (run : RunState) : State :=
  let s := die seed run .relay
  let s := (List.range 16).foldl (fun s p => (s.put (F.PORT_CFG_TYPE p) 0).put (F.PORT_STATUS_LANE_CONFLICT p) 0) s
  let s := (((s.put (F.PORT_CFG_TYPE 2) ty).put (F.PORT_CFG_LANES 2) 0x0070).put (F.PORT_STATUS_STATE 2) st).put (F.FAULT_POLICY_LIMIT 5) 255
  let s := ([4,5,6].foldl (fun s l => (s.put (F.LANE_STATUS_LOCK l) 1).put (F.LANE_CTRL_LOOP l) 0) s)
  let s := (s.put F.HALL_AUTH_MODE 0).put (F.PORT_VER_MAX 2) 5
  let s := ((s.put (F.PORT_RATE_N 2) 0).put (F.PORT_RATE_D 2) 1).wr Reg.WALL_NOM 1476395008
  s.setPort 2 { ready := true, v1 := { given := 65530, rxSeq := 7 }, peerVc2 := 88 }
def neg31 (s : State) (n d : Nat) : State := ((s.put (F.PORT_RATE_N 2) n).put (F.PORT_RATE_D 2) d).setPort 2 { set := some ts31, same := 2, ready := true }
def w31 (s : State) (lp : Nat) : State := ((((s.setPort 2 { lanes := [4, 5] }).put (F.LANE_STATUS_TX_AWAKE 4) 1).wr (Reg.PORT_FEAT 2) 0x80).put (F.PORT_CFG_LOOP_ALLOW 2) lp).setLane 4 { loop := 1 }
def e31 (s : State) : State := (s.setPort 2 { lanes := [5] }).setLane 4 { loop := 3 }
def n31 (s : State) : State := { ((s.put (F.PORT_CFG_TYPE 2) 0).setPort 2 {}) with lanes := [] }
def nr31 (s : State) : State := s.setPort 2 { lanes := [4, 5] }
def k31 (s : State) : State := ((s.put F.TREE_ID_NUMBERED 0).put (F.PORT_PARTNER_BENCH 2) 0).wr (Reg.PORT_FEAT 2) 0
end P31

open P31 in
theorem wit_LinksTrainUpToUp :
    (∃ (s : State) (p l : Nat) (ls : List Nat), Awake s ∧ p < 16 ∧ l < 16 ∧ s.portState p = 1 ∧ (s.lanesFor p).filter (fun k => s.on (F.LANE_STATUS_LOCK k)) = l :: ls) ∧
    (∃ (s : State) (p l : Nat), Awake s ∧ p < 16 ∧ l < 16 ∧ s.portState p ≠ 1) ∧
    (∃ (s : State) (p l : Nat) (ts : TrainSet), Awake s ∧ p < 16 ∧ l < 16 ∧ s.portState p = 2 ∧ (s.port p).set ≠ some ts ∧ (s.port p).ready = true) ∧
    (∃ (s : State) (p l : Nat) (ts : TrainSet), Awake s ∧ p < 16 ∧ l < 16 ∧ s.portState p = 2 ∧ (s.port p).set ≠ some ts ∧ (s.port p).ready = false) ∧
    (∃ (s : State) (p l : Nat) (ts : TrainSet), Awake s ∧ p < 16 ∧ l < 16 ∧ s.portState p = 2 ∧ (s.port p).set = some ts ∧ (s.port p).ready = true ∧ ((s.port p).same ≠ 2 ∨ ts.ready = false)) ∧
    (∃ (s : State) (p l : Nat), Awake s ∧ p < 16 ∧ l < 16 ∧ s.portState p ≠ 2) ∧
    (∃ (s : State) (p l : Nat) (ts : TrainSet), Awake s ∧ p < 16 ∧ l < 16 ∧ s.portState p = 2 ∧ (s.port p).set = some ts ∧ (s.port p).same = 2 ∧ (s.port p).ready = true ∧ ts.ready = true ∧ s.portKind p = 3 ∧ s.get F.HALL_AUTH_MODE = 0 ∧ ts.auth = 0 ∧ 3 ≤ ts.version ∧ 3 ≤ s.get (F.PORT_VER_MAX p) ∧ s.get (F.PORT_RATE_N p) = 0) ∧
    (∃ (s : State) (p l : Nat) (ts : TrainSet), Awake s ∧ p < 16 ∧ l < 16 ∧ s.portState p = 2 ∧ (s.port p).set = some ts ∧ (s.port p).same = 2 ∧ (s.port p).ready = true ∧ ts.ready = true ∧ s.portKind p = 3 ∧ s.get F.HALL_AUTH_MODE = 0 ∧ ts.auth = 0 ∧ 3 ≤ ts.version ∧ 3 ≤ s.get (F.PORT_VER_MAX p) ∧ s.get (F.PORT_RATE_N p) ≠ 0 ∧ s.rateRefused (s.get (F.PORT_RATE_N p)) (s.get (F.PORT_RATE_D p)) ts.maxRate = false) ∧
    (∃ (s : State) (p l : Nat) (ts : TrainSet), Awake s ∧ p < 16 ∧ l < 16 ∧ s.portState p = 2 ∧ (s.port p).set = some ts ∧ (s.port p).same = 2 ∧ (s.port p).ready = true ∧ ts.ready = true ∧ s.portKind p = 3 ∧ s.get F.HALL_AUTH_MODE = 0 ∧ ts.auth = 0 ∧ 3 ≤ ts.version ∧ 3 ≤ s.get (F.PORT_VER_MAX p) ∧ s.get (F.PORT_RATE_N p) ≠ 0 ∧ s.rateRefused (s.get (F.PORT_RATE_N p)) (s.get (F.PORT_RATE_D p)) ts.maxRate = true) ∧
    (∃ (s : State) (p l : Nat), Awake s ∧ p < 16 ∧ l < 16 ∧ s.portState p = 3 ∧ (s.port p).lanes = [l]) ∧
    (∃ (s : State) (p l : Nat), Awake s ∧ p < 16 ∧ l < 16 ∧ s.portState p ≠ 3) ∧
    (∃ (s : State) (p l : Nat), Awake s ∧ p < 16 ∧ l < 16 ∧ s.portState p ≠ 4) ∧
    (∃ (s : State) (p l : Nat), Awake s ∧ p < 16 ∧ l < 16 ∧ s.portState p = 4 ∧ s.authWanted p = false ∧ s.portKind p = 3 ∧ s.on F.TREE_ID_NUMBERED = false ∧ s.portFeat p 7 = false ∧ s.on (F.PORT_PARTNER_BENCH p) = false) ∧
    (∃ (s : State) (p l : Nat), Awake s ∧ p < 16 ∧ l < 16 ∧ s.portState p = 4 ∧ s.authWanted p = false ∧ s.portKind p ≠ 3 ∧ s.portFeat p 7 = false) ∧
    (∃ (s : State) (p l : Nat), Awake s ∧ p < 16 ∧ l < 16 ∧ s.portState p = 4 ∧ s.authWanted p = true) :=
  ⟨⟨b31 1 1 3 .ready, 2, 4, [5, 6], by decide +kernel⟩,
   ⟨b31 1 2 3 .ready, 2, 4, by decide +kernel⟩,
   ⟨b31 1 2 3 .ready, 2, 4, ts31, by decide +kernel⟩,
   ⟨nr31 (b31 1 2 3 .ready), 2, 4, ts31, by decide +kernel⟩,
   ⟨(b31 1 2 3 .ready).setPort 2 { set := some ts31, same := 1, ready := true }, 2, 4, ts31, by decide +kernel⟩,
   ⟨b31 1 1 3 .ready, 2, 4, by decide +kernel⟩,
   ⟨neg31 (b31 1 2 3 .ready) 0 1, 2, 4, ts31, by decide +kernel⟩,
   ⟨neg31 (b31 1 2 3 .ready) 5 1, 2, 4, ts31, by decide +kernel⟩,
   ⟨neg31 (b31 1 2 3 .ready) 50 1, 2, 4, ts31, by decide +kernel⟩,
   ⟨(neg31 (b31 1 3 3 .ready) 50 1).setPort 2 { lanes := [4] }, 2, 4, by decide +kernel⟩,
   ⟨b31 1 1 3 .ready, 2, 4, by decide +kernel⟩,
   ⟨b31 1 1 3 .ready, 2, 4, by decide +kernel⟩,
   ⟨k31 (b31 1 4 3 .ready), 2, 4, by decide +kernel⟩,
   ⟨b31 1 4 1 .ready, 2, 4, by decide +kernel⟩,
   ⟨(b31 1 4 1 .ready).put F.HALL_AUTH_MODE 1, 2, 4, by decide +kernel⟩⟩

open P31 in
theorem wit_PortsWidthsAndLoopsAreSet :
    (∃ (s : State) (p l c v : Nat), Awake s ∧ s.sys.run = .ready ∧ p < 16 ∧ l < 16 ∧ c < 16 ∧ c ≠ l ∧ s.hostLane l = false ∧ s.portConflict p (v % 2 ^ 32) = none ∧ v / 2 ^ 30 % 4 = 0 ∧ s.portKind p = 0 ∧ s.portState p = 0 ∧ s.conflicts.regs = s.regs ∧ (List.range 16).all (fun x => decide ((s.port x).lanes = [])) = true ∧ (s.port p).waiting = []) ∧
    (∃ (s : State) (p l c v : Nat), Awake s ∧ s.sys.run = .ready ∧ p < 16 ∧ l < 16 ∧ c < 16 ∧ c ≠ l ∧ s.hostLane l = false ∧ s.portConflict p (v % 2 ^ 32) = none ∧ 0 < v / 2 ^ 30 % 4 ∧ (s.port p).lanes = [] ∧ s.portState p = 0 ∧ s.conflicts.regs = s.regs ∧ (List.range 16).all (fun x => decide ((s.port x).lanes = [])) = true ∧ (s.port p).waiting = []) ∧
    (∃ (s : State) (p l c v : Nat), Awake s ∧ s.sys.run = .ready ∧ p < 16 ∧ l < 16 ∧ c < 16 ∧ c ≠ l ∧ s.hostLane l = false ∧ 4 < popCount 16 (v % 2 ^ 16) ∧ s.clasped = false) ∧
    (∃ (s : State) (p l c v : Nat), Awake s ∧ s.sys.run = .ready ∧ p < 16 ∧ l < 16 ∧ c < 16 ∧ c ≠ l ∧ s.hostLane l = false ∧ s.portFeat p 7 = true ∧ s.portUp? p = true ∧ (s.port p).lanes = [l, c] ∧ v % 16 = 1 ∧ s.on (F.LANE_STATUS_TX_AWAKE l) = true) ∧
    (∃ (s : State) (p l c v : Nat), Awake s ∧ s.sys.run = .ready ∧ p < 16 ∧ l < 16 ∧ c < 16 ∧ c ≠ l ∧ s.hostLane l = false ∧ s.portOfLane l = some p ∧ (s.port p).lanes = [l, c] ∧ s.get (F.LANE_CTRL_LOOP l) = 0 ∧ v % 4 ≠ 0) ∧
    (∃ (s : State) (p l c : Nat), Awake s ∧ s.sys.run = .ready ∧ p < 16 ∧ l < 16 ∧ c < 16 ∧ c ≠ l ∧ s.hostLane l = false ∧ s.portOfLane l = some p ∧ s.on (F.PORT_CFG_LOOP_ALLOW p) = true ∧ (s.port p).lanes = [l, c]) ∧
    (∃ (s : State) (p l c : Nat), Awake s ∧ s.sys.run = .ready ∧ p < 16 ∧ l < 16 ∧ c < 16 ∧ c ≠ l ∧ s.hostLane l = false ∧ s.portOfLane l = some p ∧ s.on (F.PORT_CFG_LOOP_ALLOW p) = false) ∧
    (∃ (s : State) (p l c : Nat), Awake s ∧ s.sys.run = .ready ∧ p < 16 ∧ l < 16 ∧ c < 16 ∧ c ≠ l ∧ s.hostLane l = false ∧ (s.lane l).loop = 1) ∧
    (∃ (s : State) (p l c : Nat), Awake s ∧ s.sys.run = .ready ∧ p < 16 ∧ l < 16 ∧ c < 16 ∧ c ≠ l ∧ s.hostLane l = false ∧ (s.lane l).loop ≠ 1) ∧
    (∃ (s : State) (p l c : Nat), Awake s ∧ s.sys.run = .ready ∧ p < 16 ∧ l < 16 ∧ c < 16 ∧ c ≠ l ∧ s.hostLane l = false ∧ (s.lane l).loop = 3 ∧ s.portOfLane l = some p ∧ s.portState p = 6 ∧ (s.port p).lanes = [c] ∧ s.isRetired 5 l = false ∧ s.get (F.LANE_CTRL_LOOP l) = 0 ∧ s.portOfLane c = some p ∧ s.laneServes c = true) :=
  ⟨⟨n31 (b31 1 0 0 .ready), 2, 4, 5, 0x20000030, by decide +kernel⟩,
   ⟨(n31 (b31 1 0 0 .ready)).wr Reg.HALL_PORT_SAFE 0, 2, 4, 5, 0xC0000030, by decide +kernel⟩,
   ⟨e31 (b31 1 6 3 .ready), 2, 4, 5, 0x1F, by decide +kernel⟩,
   ⟨w31 (b31 1 6 3 .ready) 1, 2, 4, 5, 1, by decide +kernel⟩,
   ⟨w31 (b31 1 6 3 .ready) 1, 2, 4, 5, 1, by decide +kernel⟩,
   ⟨w31 (b31 1 6 3 .ready) 1, 2, 4, 5, by decide +kernel⟩,
   ⟨w31 (b31 2 6 3 .ready) 0, 2, 4, 5, by decide +kernel⟩,
   ⟨w31 (b31 1 6 3 .ready) 1, 2, 4, 5, by decide +kernel⟩,
   ⟨e31 (b31 1 6 3 .ready), 2, 4, 5, by decide +kernel⟩,
   ⟨e31 (b31 1 6 3 .ready), 2, 4, 5, by decide +kernel⟩⟩

namespace P34
def hc0 : HCmd := { ix := 3, op := 2, flags := 0, die := 200, tag := 5, arg0 := 0, arg1 := 0, arg2 := 0, place := .waiting }
def b34 (seed : Nat) (run : RunState) (role : Role) : State :=
  let s := die seed run role
  let s := (List.range 16).foldl (fun s p => (s.put (F.PORT_CFG_TYPE p) 0).put (F.PORT_STATUS_STATE p) 0) s
  let s := if role = .root then s else ((((s.put (F.PORT_CFG_TYPE 2) 1).put (F.PORT_STATUS_STATE 2) 6).put (F.PORT_CFG_TYPE 4) 2).put F.TREE_STATUS_USE 1).put F.TREE_STATUS_DUP 0
  let s := ((s.put (F.PORT_CFG_TYPE 5) 3).put (F.PORT_STATUS_STATE 5) 6).put (F.PORT_CFG_TYPE 7) 3
  let s := (((s.put F.CLASP_CTRL_ENABLE 0).put F.CLASP_STATUS_STATE 0).put F.TREE_ID_NUMBERED 1).put F.TREE_ID_DIE 33
  let s := (((s.put (F.TREE_ROUTE_DRIFT 200) 0).put (F.TREE_ROUTE_DRIFT 201) 1).put (F.TREE_ROUTE_DRIFT 202) 15).put (F.TREE_ROUTE_DRIFT 203) 15
  (s.setPort 5 { kid := 200 }).setPort 7 { kid := 0x3FF }
def msg34 (m dst : Nat) : List Byte := vc0Bytes m dst 200 7 (leBytes 4 100)
def hc34 : HCmd := { ix := 3, op := 2, flags := 0, die := 200, tag := 5, arg0 := 0, arg1 := 0, arg2 := 0, place := .flight 7 }
def dup34 (s : State) : State := { s.put F.TREE_STATUS_DUP 1 with tree := { s.tree with roots := [400] } }
def r34 (s : State) (d base cnt : Nat) : State := ((s.put F.TREE_CTRL_DISCOVER d).put F.TREE_RANGE_BASE base).put F.TREE_RANGE_COUNT cnt
def rt34 (seed d base cnt : Nat) : State := r34 (b34 seed .ready .root) d base cnt
def nn34 (s : State) : State := ({ s with fuse := { s.fuse with claimed := false } }.put F.TREE_ID_NUMBERED 0).put (F.PORT_STATUS_STATE 5) 1
def nu34 (s : State) : State := s.put (F.PORT_STATUS_STATE 2) 1
def sw34 (s : State) : State :=
  let s := (((nu34 s).put (F.PORT_STATUS_STATE 4) 6).put F.TREE_STATUS_ALT_WARM 1)
  let s := s.setPort 4 { joined := true }
  { s with tree := { s.tree with switch := true }, phase := { s.phase with altThetas := [5] } }
def dw34 (s : State) : State := ((((sw34 s).put F.TREE_STATUS_DUP 1).wr (Reg.PORT_FEAT 2) 0x10).wr (Reg.PORT_FEAT 4) 0x10).put F.TREE_CTRL_WIT_SLOT (s.time.slot + 3)
def cl34 (s : State) (st id : Nat) : State := (((s.put F.CLASP_CTRL_ENABLE 1).put F.CLASP_STATUS_STATE st).put F.CLASP_STATUS_CLASP_ID id).put F.CLASP_PEER_DIE 77
def lv34 (s : State) : State := { s.put (F.TREE_ROUTE_DRIFT 202) 0 with tree := { s.tree with joins := [{ die := 202, parent := 9, drift := 0, level := 5 }] } }
def dh34 (s : State) : State := ((s.wr64 (Reg.PORT_FEAT 2) 0x100).wr64 (Reg.PORT_FEAT 4) 0x100)
end P34

open P34 in
theorem wit_MessagesAreRoutedAndAnswered :
    (∃ (s : State) (p q dst src tag : Nat) (bs : List Byte), Awake s ∧ s.sys.run ≠ .init ∧ dst = byteField bs 2 2 % 1024 ∧ src < 1022 ∧ tag < 65536 ∧ s.otherShaft ≠ some p ∧ s.isMine dst = false ∧ dst ≠ dstRoot ∧ s.placeOfDie dst = some q ∧ s.unreachable q = false ∧ q ≠ p) ∧
    (∃ (s : State) (p dst src tag : Nat) (bs : List Byte), Awake s ∧ s.sys.run ≠ .init ∧ dst = byteField bs 2 2 % 1024 ∧ src < 1022 ∧ tag < 65536 ∧ s.otherShaft ≠ some p ∧ s.isMine dst = false ∧ dst ≠ dstRoot ∧ s.placeOfDie dst = some p ∧ s.unreachable p = false) ∧
    (∃ (s : State) (p q dst src tag : Nat) (bs : List Byte), Awake s ∧ s.sys.run ≠ .init ∧ dst = byteField bs 2 2 % 1024 ∧ src < 1022 ∧ tag < 65536 ∧ s.otherShaft ≠ some p ∧ s.isMine dst = false ∧ dst ≠ dstRoot ∧ s.placeOfDie dst = some q ∧ s.unreachable q = true ∧ isRequest (byteField bs 0 1) = true ∧ src = byteField bs 4 2 % 1024 ∧ tag = byteField bs 6 2) ∧
    (∃ (s : State) (p q dst src tag : Nat) (bs : List Byte), Awake s ∧ s.sys.run ≠ .init ∧ dst = byteField bs 2 2 % 1024 ∧ src < 1022 ∧ tag < 65536 ∧ s.otherShaft ≠ some p ∧ s.isMine dst = false ∧ dst ≠ dstRoot ∧ s.placeOfDie dst = none ∧ s.isRoot = false ∧ s.shaftPort = some q ∧ q ≠ p ∧ s.upPorts.contains p = false ∧ s.toRoot dst = false) ∧
    (∃ (s : State) (p dst src tag : Nat) (bs : List Byte), Awake s ∧ s.sys.run ≠ .init ∧ dst = byteField bs 2 2 % 1024 ∧ src < 1022 ∧ tag < 65536 ∧ s.otherShaft ≠ some p ∧ s.isMine dst = false ∧ (dst = dstRoot ∨ s.placeOfDie dst = none ∧ s.toRoot dst = true) ∧ s.isRoot = false ∧ s.upPorts.contains p = false) ∧
    (∃ (s : State) (p dst src tag : Nat) (bs : List Byte), Awake s ∧ s.sys.run ≠ .init ∧ dst = byteField bs 2 2 % 1024 ∧ src < 1022 ∧ tag < 65536 ∧ s.otherShaft ≠ some p ∧ s.isMine dst = false ∧ (dst = dstRoot ∨ s.placeOfDie dst = none ∧ s.toRoot dst = true) ∧ s.isRoot = false ∧ s.upPorts.contains p = true) ∧
    (∃ (s : State) (p q dst src tag : Nat) (bs : List Byte), Awake s ∧ s.sys.run ≠ .init ∧ dst = byteField bs 2 2 % 1024 ∧ src < 1022 ∧ tag < 65536 ∧ s.otherShaft ≠ some p ∧ s.otherShaft = some q ∧ byteField bs 0 1 ≠ 0x11 ∧ byteField bs 0 1 ≠ 0x16) ∧
    (∃ (s : State) (p dst src tag : Nat) (bs : List Byte), Awake s ∧ s.sys.run ≠ .init ∧ dst = byteField bs 2 2 % 1024 ∧ src < 1022 ∧ tag < 65536 ∧ s.otherShaft ≠ some p ∧ s.isMine dst = true) ∧
    (∃ (s : State) (p dst src tag off : Nat) (bs : List Byte), Awake s ∧ s.sys.run ≠ .init ∧ dst = byteField bs 2 2 % 1024 ∧ src < 1022 ∧ tag < 65536 ∧ s.otherShaft ≠ some p ∧ findReg off = none ∧ inVault off = false ∧ off % 4 = 0 ∧ s.sys.run = .ready) ∧
    (∃ (s : State) (p dst src tag v : Nat) (bs : List Byte), Awake s ∧ s.sys.run ≠ .init ∧ dst = byteField bs 2 2 % 1024 ∧ src < 1022 ∧ tag < 65536 ∧ s.otherShaft ≠ some p ∧ s.sys.run = .ready ∧ 16 ≤ v ∧ v ≤ 30) ∧
    (∃ (s : State) (p dst src tag : Nat) (bs : List Byte), Awake s ∧ s.sys.run ≠ .init ∧ dst = byteField bs 2 2 % 1024 ∧ src < 1022 ∧ tag < 65536 ∧ s.otherShaft ≠ some p ∧ s.sys.run = .running) ∧
    (∃ (s : State) (p q dst src tag : Nat) (bs : List Byte) (c : HCmd), Awake s ∧ s.sys.run ≠ .init ∧ dst = byteField bs 2 2 % 1024 ∧ src < 1022 ∧ tag < 65536 ∧ s.otherShaft ≠ some p ∧ s.isRoot = true ∧ s.hif.cmds = [(q, [c])] ∧ c.place = .flight tag) ∧
    (∃ (s : State) (p dst src tag : Nat) (bs : List Byte), Awake s ∧ s.sys.run ≠ .init ∧ dst = byteField bs 2 2 % 1024 ∧ src < 1022 ∧ tag < 65536 ∧ s.otherShaft ≠ some p ∧ s.isRoot = true ∧ s.hif.cmds = []) :=
  ⟨⟨b34 1 .running .relay, 2, 5, 200, 200, 7, msg34 0x18 200, by decide +kernel⟩,
   ⟨b34 1 .ready .relay, 5, 200, 200, 7, msg34 0x18 200, by decide +kernel⟩,
   ⟨b34 2 .ready .relay, 2, 7, 201, 200, 7, msg34 0x19 201, by decide +kernel⟩,
   ⟨b34 2 .hold .relay, 5, 2, 202, 200, 7, msg34 0x19 202, by decide +kernel⟩,
   ⟨dup34 (b34 2 .hold .relay), 5, 400, 200, 7, msg34 0x19 400, by decide +kernel⟩,
   ⟨b34 2 .hold .relay, 2, 0x3FE, 200, 7, msg34 0x19 0x3FE, by decide +kernel⟩,
   ⟨b34 2 .hold .relay, 5, 4, 0x3FE, 200, 7, msg34 0x19 0x3FE, by decide +kernel⟩,
   ⟨b34 2 .hold .relay, 5, 33, 200, 7, msg34 0x19 33, by decide +kernel⟩,
   ⟨b34 1 .ready .relay, 5, 200, 200, 7, 0xFFFFFF0, msg34 0x18 200, by decide +kernel⟩,
   ⟨b34 1 .ready .relay, 5, 200, 200, 7, 19, msg34 0x18 200, by decide +kernel⟩,
   ⟨b34 1 .running .relay, 2, 200, 200, 7, msg34 0x18 200, by decide +kernel⟩,
   ⟨{ b34 2 .hold .root with hif := { cmds := [(9, [hc34])] } }, 5, 9, 33, 200, 7, msg34 0x19 33, hc34, by decide +kernel⟩,
   ⟨b34 2 .ready .root, 5, 201, 200, 7, msg34 0x19 201, by decide +kernel⟩⟩

open P34 in
theorem wit_DiesAreNumbered :
    (∃ (s : State) (p : Nat), Awake s ∧ p < 16 ∧ s.portUp? p = true ∧ s.otherShaft ≠ some p ∧ s.isRoot = true ∧ s.sys.run = .ready ∧ s.tree.fixed = false ∧ s.clasped = false) ∧
    (∃ (s : State) (p : Nat), Awake s ∧ p < 16 ∧ s.portUp? p = true ∧ s.otherShaft ≠ some p ∧ s.isRoot = true ∧ s.sys.run = .ready ∧ s.tree.fixed = false ∧ s.clasped = true ∧ s.get F.TREE_RANGE_BASE < 1023) ∧
    (∃ (s : State) (p : Nat), Awake s ∧ p < 16 ∧ s.portUp? p = true ∧ s.otherShaft ≠ some p ∧ s.isRoot = true ∧ s.standsBy = true) ∧
    (∃ (s : State) (p src q : Nat), Awake s ∧ p < 16 ∧ s.portUp? p = true ∧ s.otherShaft ≠ some p ∧ s.isRoot = true ∧ s.standsBy = false ∧ s.on F.TREE_CTRL_DISCOVER = true ∧ s.levelOf src = some 5 ∧ s.isMine src = false ∧ s.routePort src = some q ∧ src ≠ dstRoot) ∧
    (∃ (s : State) (p : Nat), Awake s ∧ p < 16 ∧ s.portUp? p = true ∧ s.otherShaft ≠ some p ∧ s.isRoot = true ∧ s.standsBy = false ∧ s.on F.TREE_CTRL_DISCOVER = false) ∧
    (∃ (s : State) (p src drift hint n q : Nat), Awake s ∧ p < 16 ∧ s.portUp? p = true ∧ s.otherShaft ≠ some p ∧ s.isRoot = true ∧ s.clasped = false ∧ s.get F.CLASP_STATUS_STATE = 0 ∧ s.on F.TREE_CTRL_DISCOVER = true ∧ src = s.get F.TREE_ID_DIE ∧ s.on F.TREE_ID_NUMBERED = true ∧ s.driftPort drift = some q ∧ s.tree.joins = [] ∧ drift < 15 ∧ n < 1024 ∧ ((hint = n ∧ hint ≠ 0x3FF ∧ s.inRange n = true ∧ s.numberFree n = true) ∨ (hint = 0x3FF ∧ s.get F.TREE_RANGE_BASE = n ∧ 0 < s.get F.TREE_RANGE_COUNT ∧ s.numberFree n = true))) ∧
    (∃ (s : State) (p src drift hint q : Nat), Awake s ∧ p < 16 ∧ s.portUp? p = true ∧ s.otherShaft ≠ some p ∧ s.isRoot = true ∧ s.clasped = false ∧ s.get F.CLASP_STATUS_STATE = 0 ∧ s.on F.TREE_CTRL_DISCOVER = true ∧ src = s.get F.TREE_ID_DIE ∧ s.on F.TREE_ID_NUMBERED = true ∧ s.driftPort drift = some q ∧ s.tree.joins = [] ∧ hint = 0x3FF ∧ s.get F.TREE_RANGE_COUNT = 0) ∧
    (∃ (s : State) (p die level : Nat), Awake s ∧ p < 16 ∧ s.portUp? p = true ∧ s.otherShaft ≠ some p ∧ s.portKind p = 1 ∧ s.isRoot = false ∧ s.on F.TREE_ID_NUMBERED = false ∧ s.get F.TREE_STATUS_USE = 1 ∧ s.fuse.claimed = false ∧ s.driftsUp = [] ∧ die < 1023 ∧ level < 8) ∧
    (∃ (s : State) (p die : Nat), Awake s ∧ p < 16 ∧ s.portUp? p = true ∧ s.otherShaft ≠ some p ∧ s.portKind p = 1 ∧ s.isRoot = false ∧ s.on F.TREE_ID_NUMBERED = true ∧ s.get F.TREE_ID_DIE ≠ die) ∧
    (∃ (s : State) (p drift die n q : Nat), Awake s ∧ p < 16 ∧ s.portUp? p = true ∧ s.otherShaft ≠ some p ∧ s.portKind p = 1 ∧ s.isRoot = false ∧ s.isMine n = true ∧ n ≠ dstPeer ∧ s.driftPort drift = some q ∧ q ≠ p ∧ die < 1023 ∧ drift < 15) ∧
    (∃ (s : State) (p : Nat), Awake s ∧ p < 16 ∧ s.portUp? p = true ∧ s.otherShaft ≠ some p ∧ (s.portKind p = 1 ∨ s.portKind p = 2) ∧ s.dualHome = true) ∧
    (∃ (s : State) (p : Nat), Awake s ∧ p < 16 ∧ s.portUp? p = true ∧ s.otherShaft ≠ some p ∧ (s.portKind p = 1 ∨ s.portKind p = 2) ∧ s.dualHome = false) ∧
    (∃ (s : State) (p : Nat), Awake s ∧ p < 16 ∧ s.portUp? p = true ∧ s.otherShaft ≠ some p ∧ s.portKind p = 3) ∧
    (∃ (s : State) (p drift level q : Nat), Awake s ∧ p < 16 ∧ s.portUp? p = true ∧ s.otherShaft ≠ some p ∧ s.driftPort drift = some q ∧ level < 8) ∧
    (∃ (s : State) (p : Nat), Awake s ∧ p < 16 ∧ s.portUp? p = true ∧ s.otherShaft ≠ some p ∧ s.isRoot = false) :=
  ⟨⟨rt34 1 0 200 5, 5, by decide +kernel⟩,
   ⟨cl34 (rt34 1 0 200 5) 2 1, 5, by decide +kernel⟩,
   ⟨cl34 (rt34 1 1 200 5) 3 1, 5, by decide +kernel⟩,
   ⟨lv34 (rt34 1 1 200 5), 5, 202, 5, by decide +kernel⟩,
   ⟨rt34 1 0 200 5, 5, by decide +kernel⟩,
   ⟨rt34 1 1 202 5, 5, 33, 1, 0x3FF, 202, 7, by decide +kernel⟩,
   ⟨rt34 1 1 200 0, 5, 33, 1, 0x3FF, 7, by decide +kernel⟩,
   ⟨nn34 (b34 1 .ready .relay), 2, 17, 3, by decide +kernel⟩,
   ⟨b34 2 .armed .relay, 2, 17, by decide +kernel⟩,
   ⟨b34 2 .armed .relay, 2, 1, 17, 33, 7, by decide +kernel⟩,
   ⟨dh34 (b34 2 .armed .relay), 2, by decide +kernel⟩,
   ⟨nn34 (b34 1 .ready .relay), 2, by decide +kernel⟩,
   ⟨rt34 1 0 200 5, 5, by decide +kernel⟩,
   ⟨rt34 1 0 200 5, 5, 1, 3, 7, by decide +kernel⟩,
   ⟨nn34 (b34 1 .ready .relay), 2, by decide +kernel⟩⟩

open P34 in
theorem wit_DualHomingMovesTheDie :
    (∃ (s : State) (p n : Nat) (map : List Byte), Awake s ∧ p < 16 ∧ s.portKind p = 3 ∧ s.portUp? p = true ∧ s.upPorts = [] ∧ (s.isRoot = false ∨ s.get F.HALL_AUTH_MODE ≠ 2) ∧ mapDies map = [n] ∧ n < 1024 ∧ s.driftIndex p < 15 ∧ s.routeOf n = s.driftIndex p ∧ (s.port p).kid ≠ n) ∧
    (∃ (s : State) (p n : Nat) (map : List Byte), Awake s ∧ p < 16 ∧ s.portKind p = 3 ∧ s.portUp? p = true ∧ s.upPorts = [] ∧ (s.isRoot = false ∨ s.get F.HALL_AUTH_MODE ≠ 2) ∧ mapDies map = [n] ∧ n < 1024 ∧ s.driftIndex p < 15 ∧ s.routeOf n ≠ s.driftIndex p ∧ (s.port p).kid ≠ n) ∧
    (∃ (s : State) (p : Nat), Awake s ∧ p < 16 ∧ (s.portKind p = 1 ∨ s.portKind p = 2) ∧ s.portUp? p = true) ∧
    (∃ (s : State) (p : Nat), Awake s ∧ p < 16 ∧ (s.portKind p = 0 ∨ s.portKind p = 3 ∨ s.portUp? p = false)) ∧
    (∃ (s : State) (p : Nat), Awake s ∧ p < 16 ∧ (s.portKind p ≠ 3 ∨ s.portUp? p = false)) ∧
    (∃ (s : State) (p : Nat), Awake s ∧ p < 16 ∧ s.on F.TREE_STATUS_DUP = false) ∧
    (∃ (s : State) (p q : Nat), Awake s ∧ p < 16 ∧ s.sys.run = .running ∧ s.isRoot = false ∧ s.otherShaft = some q) ∧
    (∃ (s : State) (p q : Nat), Awake s ∧ p < 16 ∧ s.shaftPort = some p ∧ s.otherShaft = some q ∧ s.tree.switch = true ∧ s.warm = true ∧ s.tree.lostDown = false ∧ s.isPending 9 (s.parentOf p) = false ∧ s.portUp? p = false ∧ s.portKind q ≠ s.get F.TREE_STATUS_USE) ∧
    (∃ (s : State) (p : Nat), Awake s ∧ p < 16 ∧ (s.tree.switch = false ∨ s.warm = false)) ∧
    (∃ (s u : State) (p q : Nat), Awake s ∧ p < 16 ∧ s.mainShaft = some p ∧ s.altShaft = some q ∧ s.on F.TREE_STATUS_DUP = true ∧ s.portFeat p 4 = true ∧ s.portFeat q 4 = true ∧ s.atCycle (s.get F.TREE_CTRL_WIT_SLOT) 0 = some u ∧ u.portUp? p = false ∧ u.portUp? q = true) :=
  ⟨⟨(nu34 (b34 1 .running .relay)).put (F.TREE_ROUTE_DRIFT 203) 0, 5, 203, mapBytes [203], by decide +kernel⟩,
   ⟨nu34 (b34 1 .running .relay), 5, 203, mapBytes [203], by decide +kernel⟩,
   ⟨b34 1 .running .relay, 2, by decide +kernel⟩,
   ⟨nu34 (b34 1 .running .relay), 5, by decide +kernel⟩,
   ⟨b34 1 .running .relay, 2, by decide +kernel⟩,
   ⟨nu34 (b34 1 .running .relay), 5, by decide +kernel⟩,
   ⟨nu34 (b34 1 .running .relay), 5, 4, by decide +kernel⟩,
   ⟨sw34 (b34 1 .running .relay), 2, 4, by decide +kernel⟩,
   ⟨nu34 (b34 1 .running .relay), 5, by decide +kernel⟩,
   ⟨dw34 (b34 1 .running .relay), ((dw34 (b34 1 .running .relay)).atCycle ((b34 1 .running .relay).time.slot + 3) 0).getD {}, 2, 4, by decide +kernel⟩⟩

namespace P36
def b36 (seed st id up : Nat) (run : RunState) : State :=
  let s := die seed run .root
  let s := (List.range 16).foldl (fun s p => (s.put (F.PORT_CFG_TYPE p) 0).put (F.PORT_STATUS_STATE p) 0) s
  let s := (((s.put F.CLASP_CTRL_ENABLE 1).put F.CLASP_STATUS_STATE st).put F.CLASP_STATUS_CLASP_ID id).put (F.PORT_STATUS_STATE 15) (if up = 1 then 6 else 2)
  let s := ((s.put (F.PORT_STATUS_VERSION 15) 3).wr (Reg.PORT_FEAT 15) 0x1FF).put F.CLASP_WIT_DEADLINE (s.time.slot + 9)
  let s := (s.put F.CLASP_SYNC_CHUNKS 1).put F.CLASP_CMP_TMO 9
  { s with clasp := { s.clasp with linkUp := true, lostOrbit := some (s.time.orbit - 1), checkFrom := s.time.slots - 200, digs := [{ seq := 9, digest := 77, at' := s.time.slots }] }, tree := { s.tree with round := some s.time.orbit, silent := [5] } }
def u36 (s : State) : State := (s.atCycle (s.get F.CLASP_WIT_DEADLINE) 0).getD {}
def maj36 (s : State) : State := (({ s with tree := { s.tree with dups := [5] } }.put (F.PORT_CFG_TYPE 3) 3).put (F.PORT_STATUS_STATE 3) 6).setPort 3 { kid := 5 }
def du36 (s : State) : State := { s with tree := { s.tree with dups := [5, 7] } }
def mj36 (s : State) (n : Nat) : State := let m := maj36 s; { m with clasp := { m.clasp with majorities := n } }
def lo36 (s : State) : State := let m := du36 s; let m := maj36 m; { m with tree := { m.tree with round := some 9, heard := [], silent := [], dups := [5, 7] }, clasp := { m.clasp with lostOrbit := some 1 } }
def he36 (s : State) : State := { s with tree := { s.tree with heard := [7] } }
def dl36 (s : State) : State := s.put F.CLASP_WIT_DEADLINE (s.time.slot - 9)
def g36 (s : State) : DigOut := s.clasp.digs.headD { seq := 0, digest := 0, at' := 0 }
def t36 (s : State) (n : Nat) : State := (s.atSlot (s.time.slots + n)).getD {}
def rg36 (s : State) : State := s.put (F.RING_CFG_TYPE 9) 2
def fu36 (s : State) : State := { s with buf := { units := [{ stream := 0, origin := 4, q := false, part := .frag, bytes := [1,2], orbit := s.time.orbit - 17 }, { stream := 0, origin := 4, q := false, part := .frag, bytes := [1,2], orbit := s.time.orbit }] } , clasp := { s.clasp with stateHeard := s.time.orbit - 1 } }
def ck36 (s : State) (own peer : Option Nat) (before : Nat) : State := { s with clasp := { s.clasp with ownResult := own, peerResult := peer, before := before, outHeld := true } }
def cp36 (s : State) (o : Nat) : State := { s with sys := { s.sys with run := .ready }, clasp := { s.clasp with copying := true, copySent := 3000, copyDone := o } }
def kk36 (s : State) : State := s.setPort 15 { sess := { rx := some {key := [1], salt := [2]} } }
def un36 (s : State) (l : List BUnit) : State := { s with buf := { s.buf with units := l } }
def bu36 : BUnit := { stream := 3, origin := 5, q := false, part := .dump, bytes := leBytes 64 7 }
def rgd36 (s : State) : State := let m := rg36 s; { m with hif := { m.hif with bufs := [(9, [{ ix := 0, id := 3, addr := 0x1000, len := 64 }])] } }
def v36 (s : State) (seq d r ix o st key : Nat) : List Byte × State := (({ s.wr Reg.CLASP_SEQ seq with clasp := { s.clasp with xors := s.clasp.xors ^^^ d } }).shadowRecord r ix o st key).getD ([], s)
def or36 (s : State) : State := { s with buf := { s.buf with units := s.buf.units.filter (fun x => !(x.whole && !x.named && decide (x.part ≠ .quar) && !(decide (x.stream = 5 ∧ x.origin = s.dieNo)) && decide (x.orbit + max 1 (s.get F.CLASP_CMP_HOLD) ≤ s.time.orbit))) } }
def s36v : State := un36 (rgd36 (b36 2 3 1 1 .running)) [bu36]
def s36w : List Byte × State := v36 s36v 9 5 9 (s36v.rd (Reg.RING_HEAD 9)) 5 3 (unitKeyOf 3 bu36.bytes)
def lc36 (s : State) : State := { s with clasp := { s.clasp with checkFrom := s.time.slots - 300 } }
def k0 : DirKey := {key := [], salt := []}
def x0 : E2eKey := { origin := 2116, key := [9], at' := 3 }
def ce36 (s : State) : State := { s with clasp := { s.clasp with copySent := 264000 } }
def ko36 (s : State) : State := { s with hall := { s.hall with keys := [x0] } }
end P36

open P36 in
theorem wit_ClaspPairFormsAndLosesItsPeer_1 :
    (∃ (s : State) (src id ps : Nat) (digest : List Byte), Awake s ∧ s.clasped = true ∧ src < 1024 ∧ id < 2 ∧ s.portUp? 15 = true ∧ s.clState = 1 ∧ s.sys.run = .ready ∧ s.pairCheck id ps digest = 0 ∧ ps ≠ 2) ∧
    (∃ (s : State) (src id : Nat) (digest : List Byte), Awake s ∧ s.clasped = true ∧ src < 1024 ∧ id < 2 ∧ s.portUp? 15 = true ∧ (s.clState = 1 ∧ s.sys.run = .ready ∨ s.clState = 2 ∧ s.get F.CLASP_STATUS_CLASP_ID = 1) ∧ s.pairCheck id 2 digest = 0) ∧
    (∃ (s : State) (src id ps : Nat) (digest : List Byte), Awake s ∧ s.clasped = true ∧ src < 1024 ∧ id < 2 ∧ s.portUp? 15 = true ∧ s.clState = 2 ∧ s.pairCheck id ps digest = 0 ∧ (ps ≠ 2 ∨ s.get F.CLASP_STATUS_CLASP_ID = 0)) ∧
    (∃ (s : State) (src id ps : Nat) (digest : List Byte), Awake s ∧ s.clasped = true ∧ src < 1024 ∧ id < 2 ∧ s.portUp? 15 = true ∧ (s.clState = 1 ∧ s.sys.run = .ready ∨ s.clState = 2) ∧ s.pairCheck id ps digest ≠ 0) ∧
    (∃ (s : State) (src id : Nat), Awake s ∧ s.clasped = true ∧ src < 1024 ∧ id < 2 ∧ (s.portUp? 15 = false ∨ s.clState ≠ 1 ∧ s.clState ≠ 2 ∨ s.clState = 1 ∧ s.sys.run ≠ .ready)) ∧
    (∃ (s : State) (src id : Nat), Awake s ∧ s.clasped = true ∧ src < 1024 ∧ id < 2 ∧ s.portUp? 15 = true ∧ (s.clState = 5 ∨ s.clState = 6)) ∧
    (∃ (s : State) (src id : Nat), Awake s ∧ s.clasped = true ∧ src < 1024 ∧ id < 2 ∧ s.portUp? 15 = true ∧ (s.clState = 0 ∨ s.clState = 1)) ∧
    (∃ (s : State) (src id : Nat), Awake s ∧ s.clasped = true ∧ src < 1024 ∧ id < 2 ∧ s.portUp? 15 = true ∧ (s.clState = 3 ∨ s.clState = 4 ∨ s.clState = 7)) :=
  ⟨⟨b36 1 1 0 1 .ready, 7, 1, 0, (b36 1 1 0 1 .ready).digest, by decide +kernel⟩,
   ⟨b36 1 1 0 1 .ready, 7, 1, (b36 1 1 0 1 .ready).digest, by decide +kernel⟩,
   ⟨b36 2 2 1 1 .armed, 7, 0, 5, (b36 2 2 1 1 .ready).digest, by decide +kernel⟩,
   ⟨b36 2 1 1 1 .ready, 7, 1, 0, (b36 2 1 1 1 .ready).digest, by decide +kernel⟩,
   ⟨b36 2 5 1 1 .armed, 7, 0, by decide +kernel⟩,
   ⟨b36 2 5 1 1 .armed, 7, 0, by decide +kernel⟩,
   ⟨b36 1 1 0 1 .ready, 7, 1, by decide +kernel⟩,
   ⟨b36 2 4 1 1 .running, 7, 0, by decide +kernel⟩⟩

open P36 in
theorem wit_ClaspPairFormsAndLosesItsPeer_2 :
    (∃ (s : State) (src id : Nat), Awake s ∧ s.clasped = true ∧ src < 1024 ∧ id < 2 ∧ s.clasp.linkUp = false) ∧
    (∃ (s : State) (src id : Nat), Awake s ∧ s.clasped = true ∧ src < 1024 ∧ id < 2 ∧ s.portUp? 15 = false ∧ s.clasp.linkUp = true ∧ s.clState = 2) ∧
    (∃ (s : State) (src id : Nat), Awake s ∧ s.clasped = true ∧ src < 1024 ∧ id < 2 ∧ s.portUp? 15 = false ∧ s.clasp.linkUp = true ∧ s.clState = 3) ∧
    (∃ (s : State) (src id : Nat), Awake s ∧ s.clasped = true ∧ src < 1024 ∧ id < 2 ∧ s.portUp? 15 = false ∧ s.clasp.linkUp = true ∧ s.clState ≠ 2 ∧ s.clState ≠ 3) ∧
    (∃ (s : State) (src id : Nat), Awake s ∧ s.clasped = true ∧ src < 1024 ∧ id < 2 ∧ s.tree.dups.contains src = false) ∧
    (∃ (s : State) (src id orbit : Nat), Awake s ∧ s.clasped = true ∧ src < 1024 ∧ id < 2 ∧ s.tree.dups.contains src = true ∧ s.tree.round = some orbit ∧ s.tree.heard.contains src = true) ∧
    (∃ (s : State) (src id orbit : Nat), Awake s ∧ s.clasped = true ∧ src < 1024 ∧ id < 2 ∧ s.tree.dups.contains src = true ∧ s.clState ≠ 3 ∧ s.tree.round ≠ some orbit) ∧
    (∃ (s : State) (src id orbit shaft : Nat), Awake s ∧ s.clasped = true ∧ src < 1024 ∧ id < 2 ∧ s.tree.dups.contains src = true ∧ s.clState = 3 ∧ s.tree.round = some orbit ∧ s.tree.heard.contains src = false ∧ s.clasp.lostOrbit = some id ∧ id < orbit ∧ s.clasp.judged ≠ some orbit ∧ shaft % 1024 = s.get F.CLASP_PEER_DIE ∧ bitsOf shaft 15 1 = 0 ∧ 1 ≤ s.witnesses ∧ s.witnesses ≤ 2 * (s.tree.silent.length + 1)) :=
  ⟨⟨let s := b36 2 2 1 0 .armed; { s with clasp := { s.clasp with linkUp := false } }, 7, 1, by decide +kernel⟩,
   ⟨du36 (b36 2 2 1 0 .armed), 7, 0, by decide +kernel⟩,
   ⟨du36 (b36 2 3 1 0 .running), 7, 0, by decide +kernel⟩,
   ⟨b36 2 6 1 0 .armed, 7, 0, by decide +kernel⟩,
   ⟨b36 1 1 0 1 .ready, 7, 1, by decide +kernel⟩,
   ⟨he36 (lo36 (b36 2 2 1 0 .running)), 7, 1, 9, by decide +kernel⟩,
   ⟨du36 (b36 2 2 1 0 .armed), 7, 0, 5, by decide +kernel⟩,
   ⟨lo36 (b36 2 3 1 0 .running), 7, 1, 9, (b36 2 3 1 0 .running).get F.CLASP_PEER_DIE, by decide +kernel⟩⟩

open P36 in
theorem wit_ClaspPairFormsAndLosesItsPeer_3 :
    (∃ (s : State) (src id : Nat), Awake s ∧ s.clasped = true ∧ src < 1024 ∧ id < 2 ∧ s.atCycle (s.get F.CLASP_WIT_DEADLINE) 0 = none) ∧
    (∃ (s u : State) (src id orbit : Nat), Awake s ∧ s.clasped = true ∧ src < 1024 ∧ id < 2 ∧ s.atCycle (s.get F.CLASP_WIT_DEADLINE) 0 = some u ∧ s.clState = 3 ∧ s.clasp.lostOrbit = some orbit ∧ orbit < u.time.orbit ∧ s.clasp.judged ≠ some u.time.orbit ∧ u.tree.round = some u.time.orbit ∧ u.isMajority = true) ∧
    (∃ (s u : State) (src id orbit : Nat), Awake s ∧ s.clasped = true ∧ src < 1024 ∧ id < 2 ∧ s.atCycle (s.get F.CLASP_WIT_DEADLINE) 0 = some u ∧ s.clState = 3 ∧ s.clasp.lostOrbit = some orbit ∧ orbit < u.time.orbit ∧ s.clasp.judged ≠ some u.time.orbit ∧ (u.tree.round ≠ some u.time.orbit ∨ u.isMajority = false)) ∧
    (∃ (s u : State) (src id : Nat), Awake s ∧ s.clasped = true ∧ src < 1024 ∧ id < 2 ∧ s.atCycle (s.get F.CLASP_WIT_DEADLINE) 0 = some u ∧ s.clState = 5 ∧ s.clasp.judged ≠ some u.time.orbit ∧ s.sys.run ≠ .armed ∧ s.sys.run ≠ .running ∧ s.sys.run ≠ .hold ∧ u.tree.round = some u.time.orbit) ∧
    (∃ (s : State) (src id : Nat), Awake s ∧ s.clasped = true ∧ src < 1024 ∧ id < 2 ∧ s.sys.run = .running ∧ s.clState = 3) ∧
    (∃ (s : State) (src id : Nat), Awake s ∧ s.clasped = true ∧ src < 1024 ∧ id < 2 ∧ s.sys.run = .ready ∧ s.clState = 5) ∧
    (∃ (s : State) (src id : Nat), Awake s ∧ s.clasped = true ∧ src < 1024 ∧ id < 2 ∧ s.sys.run = .running ∧ s.clState ≠ 3 ∧ s.clState ≠ 5) :=
  ⟨⟨dl36 (b36 2 2 1 0 .running), 7, 1, by decide +kernel⟩,
   ⟨maj36 (b36 2 3 1 0 .running), u36 (maj36 (b36 2 3 1 0 .running)), 7, 0, (b36 2 3 1 0 .running).time.orbit - 1, by decide +kernel⟩,
   ⟨du36 (b36 2 3 1 0 .running), u36 (du36 (b36 2 3 1 0 .running)), 7, 0, (b36 2 3 1 0 .running).time.orbit - 1, by decide +kernel⟩,
   ⟨mj36 (b36 2 5 1 0 .ready) 0, u36 (mj36 (b36 2 5 1 0 .ready) 0), 7, 0, by decide +kernel⟩,
   ⟨du36 (b36 2 3 1 0 .running), 7, 0, by decide +kernel⟩,
   ⟨mj36 (b36 2 5 1 0 .ready) 0, 7, 0, by decide +kernel⟩,
   ⟨b36 2 4 1 1 .running, 7, 0, by decide +kernel⟩⟩

open P36 in
theorem wit_ClaspLockStepFindsMismatches_1 :
    (∃ (s : State) (seq d r ix origin stream key : Nat), Awake s ∧ s.clasped = true ∧ s.clState = 3 ∧ s.clasp.stateWaits = none ∧ seq < 2 ^ 32 ∧ r < 8192 ∧ ({ s.wr Reg.CLASP_SEQ seq with clasp := { s.clasp with xors := s.clasp.xors ^^^ d } }).shadowRecord r ix origin stream key = none) ∧
    (∃ (s v : State) (seq d r ix origin stream key : Nat) (bs : List Byte), Awake s ∧ s.clasped = true ∧ s.clState = 3 ∧ s.clasp.stateWaits = none ∧ seq < 2 ^ 32 ∧ ({ s.wr Reg.CLASP_SEQ seq with clasp := { s.clasp with xors := s.clasp.xors ^^^ d } }).shadowRecord r ix origin stream key = some (bs, v)) ∧
    (∃ (s : State) (r : Nat), Awake s ∧ s.clasped = true ∧ s.clState = 6 ∧ s.ringCopied r = false) ∧
    (∃ (s : State), Awake s ∧ s.clasped = true ∧ s.clState ≠ 3 ∧ s.clState ≠ 6) ∧
    (∃ (s : State) (seq : Nat), Awake s ∧ s.clasped = true ∧ s.clasp.digs.find? (fun x => decide (x.seq = seq)) = none) ∧
    (∃ (s : State) (seq d : Nat) (g : DigOut) (p : Bool), Awake s ∧ s.clasped = true ∧ s.clasp.digs = [g] ∧ g.seq = seq ∧ (p = true ∨ d = g.digest)) ∧
    (∃ (s : State) (seq d : Nat) (g : DigOut) (p : Bool), Awake s ∧ s.clasped = true ∧ s.clasp.digs = [g] ∧ g.seq = seq ∧ (s.clState = 2 ∨ s.clState = 3) ∧ p = false ∧ d ≠ g.digest) ∧
    (∃ (s u : State) (seq : Nat) (g : DigOut), Awake s ∧ s.clasped = true ∧ s.clasp.digs = [g] ∧ g.seq = seq ∧ s.atSlot (g.at' + max 1 (s.get F.CLASP_CMP_TMO)) = some u ∧ (s.clState = 2 ∨ s.clState = 3)) :=
  ⟨⟨rg36 (b36 2 3 1 0 .running), 9, 5, 9, (rg36 (b36 2 3 1 0 .running)).rd (Reg.RING_HEAD 9), 0, 9, 0, by decide +kernel⟩,
   ⟨s36v, s36w.2, 9, 5, 9, s36v.rd (Reg.RING_HEAD 9), 5, 3, unitKeyOf 3 bu36.bytes, s36w.1, by decide +kernel⟩,
   ⟨b36 2 6 1 0 .running, 9000, by decide +kernel⟩,
   ⟨b36 2 2 1 0 .running, by decide +kernel⟩,
   ⟨b36 2 2 1 1 .running, 10, by decide +kernel⟩,
   ⟨rg36 (b36 2 3 1 0 .running), 9, 5, g36 (b36 2 3 1 0 .running), true, by decide +kernel⟩,
   ⟨b36 2 2 1 1 .running, 9, 5, g36 (b36 2 3 1 0 .running), false, by decide +kernel⟩,
   ⟨b36 2 2 1 0 .running, t36 (b36 2 2 1 0 .running) 9, 9, g36 (b36 2 3 1 0 .running), by decide +kernel⟩⟩

open P36 in
theorem wit_ClaspLockStepFindsMismatches_2 :
    (∃ (s : State) (seq : Nat) (g : DigOut), Awake s ∧ s.clasped = true ∧ s.clasp.digs = [g] ∧ g.seq = seq ∧ s.atSlot (g.at' + max 1 (s.get F.CLASP_CMP_TMO)) = none) ∧
    (∃ (s : State), Awake s ∧ s.clasped = true ∧ (s.clState = 2 ∨ s.clState = 3) ∧ s.clasp.linkUp = true ∧ s.clasp.stateHeard + 2 ≤ s.time.orbit) ∧
    (∃ (s : State), Awake s ∧ s.clasped = true ∧ (s.time.orbit < s.clasp.stateHeard + 2 ∨ s.clasp.linkUp = false)) ∧
    (∃ (s v : State) (m : Nat), Awake s ∧ s.clasped = true ∧ (s.clState = 3 ∨ s.clState = 5) ∧ (v = { s with buf := { s.buf with units := s.buf.units.filter (fun x => !(x.whole && !x.named && decide (x.part ≠ .quar) && !(decide (x.stream = 5 ∧ x.origin = s.dieNo)) && decide (x.orbit + max 1 (s.get F.CLASP_CMP_HOLD) ≤ s.time.orbit))) } }) ∧ m = s.buf.units.length - v.buf.units.length ∧ fragOut (v.incBy Reg.CLASP_ORPHAN_CNT m) = v.incBy Reg.CLASP_ORPHAN_CNT m) ∧
    (∃ (s : State), Awake s ∧ s.clasped = true ∧ s.clState ≠ 3 ∧ s.clState ≠ 5) ∧
    (∃ (s : State), Awake s ∧ s.clasped = true ∧ s.clState ≠ 4) ∧
    (∃ (s : State) (p : Bool), Awake s ∧ s.clasped = true ∧ s.clState = 4 ∧ s.clasp.ownResult = none ∧ s.clasp.peerResult = none ∧ s.time.slots ≤ s.clasp.checkFrom + 256 ∧ (s.clasp.before = 2 ∨ s.selfCheck p = 0)) ∧
    (∃ (s : State), Awake s ∧ s.clasped = true ∧ s.clState = 4 ∧ s.clasp.ownResult = none ∧ s.clasp.checkFrom + 256 < s.time.slots ∧ s.sys.run ≠ .safe) :=
  ⟨⟨let s := b36 2 2 1 0 .running; { s with clasp := { s.clasp with digs := [{ seq := 9, digest := 77, at' := 9000000 }] } }, 9, { seq := 9, digest := 77, at' := 9000000 }, by decide +kernel⟩,
   ⟨rg36 (b36 2 3 1 0 .running), by decide +kernel⟩,
   ⟨fu36 (b36 2 3 1 0 .running), by decide +kernel⟩,
   ⟨fu36 (b36 2 3 1 0 .running), or36 (fu36 (b36 2 3 1 0 .running)), 1, by decide +kernel⟩,
   ⟨b36 2 6 1 0 .running, by decide +kernel⟩,
   ⟨rg36 (b36 2 3 1 0 .running), by decide +kernel⟩,
   ⟨ck36 (b36 2 4 1 1 .running) none none 2, true, by decide +kernel⟩,
   ⟨lc36 (ck36 (b36 2 4 1 0 .running) none none 3), by decide +kernel⟩⟩

open P36 in
theorem wit_ClaspLockStepFindsMismatches_3 :
    (∃ (s u : State), Awake s ∧ s.clasped = true ∧ s.clState = 4 ∧ s.clasp.ownResult = some 0 ∧ s.clasp.peerResult = none ∧ s.atSlot (s.clasp.checkFrom + 256) = some u) ∧
    (∃ (s : State), Awake s ∧ s.clasped = true ∧ s.clState = 4 ∧ s.clasp.ownResult = some 0 ∧ (s.clasp.peerResult ≠ none ∨ s.atSlot (s.clasp.checkFrom + 256) = none)) ∧
    (∃ (s u : State), Awake s ∧ s.clasped = true ∧ s.clState = 4 ∧ s.clasp.ownResult = none ∧ s.atSlot (s.clasp.checkFrom + 256) = some u ∧ s.sys.run ≠ .safe) ∧
    (∃ (s : State) (m : Nat), Awake s ∧ s.clasped = true ∧ s.clState = 4 ∧ s.clasp.ownResult = some (m + 1) ∧ s.sys.run ≠ .safe ∧ s.clasp.before = 2) ∧
    (∃ (s : State) (m : Nat) (p : Bool), Awake s ∧ s.clasped = true ∧ s.clState = 4 ∧ s.clasp.ownResult = some (m + 1) ∧ s.sys.run ≠ .safe ∧ (p = false ∨ s.clasp.before ≠ 2)) :=
  ⟨⟨ck36 (b36 2 4 1 0 .running) (some 0) none 2, t36 (ck36 (b36 2 4 1 0 .running) (some 0) none 2) 56, by decide +kernel⟩,
   ⟨ck36 (b36 2 4 1 1 .running) (some 0) (some 0) 3, by decide +kernel⟩,
   ⟨ck36 (b36 2 4 1 1 .running) none none 2, t36 (ck36 (b36 2 4 1 1 .running) none none 2) 56, by decide +kernel⟩,
   ⟨ck36 (b36 2 4 1 0 .running) (some 3) none 2, 2, by decide +kernel⟩,
   ⟨ck36 (b36 2 4 1 0 .running) (some 3) none 3, 2, true, by decide +kernel⟩⟩

open P36 in
theorem wit_ClaspChecksAndCopies_1 :
    (∃ (s : State), Awake s ∧ s.clasped = true ∧ s.portUp? 15 = true ∧ (s.clState = 2 ∨ s.clState = 3)) ∧
    (∃ (s : State), Awake s ∧ s.clasped = true ∧ (s.portUp? 15 = false ∨ s.clState ≠ 2 ∧ s.clState ≠ 3)) ∧
    (∃ (s : State) (o : Nat), Awake s ∧ s.clasped = true ∧ s.portUp? 15 = true ∧ s.clState = 3 ∧ s.rd Reg.CLASP_SEQ ≠ o) ∧
    (∃ (s : State) (o d : Nat), Awake s ∧ s.clasped = true ∧ s.portUp? 15 = true ∧ s.clState = 3 ∧ s.rd Reg.CLASP_SEQ = o ∧ stateDigest o s.clasp.trigAt s.clasp.xors = d) ∧
    (∃ (s : State) (o d : Nat), Awake s ∧ s.clasped = true ∧ s.portUp? 15 = true ∧ s.clState = 3 ∧ s.rd Reg.CLASP_SEQ = o ∧ stateDigest o s.clasp.trigAt s.clasp.xors ≠ d) ∧
    (∃ (s : State), Awake s ∧ s.clasped = true ∧ s.portUp? 15 = true ∧ s.clState ≠ 3) ∧
    (∃ (s : State), Awake s ∧ s.clasped = true ∧ s.portUp? 15 = false) ∧
    (∃ (s : State) (o : Nat), Awake s ∧ s.clasped = true ∧ s.clState = 2 ∧ s.clasp.copying = true ∧ s.clasp.linkUp = true ∧ s.quietWork = true ∧ s.clasp.copySent = o ∧ o + 1000 < 264256 ∧ s.get F.CLASP_SYNC_CHUNKS = 1) :=
  ⟨⟨b36 2 3 1 1 .running, by decide +kernel⟩,
   ⟨cp36 (b36 2 2 1 0 .running) 0, by decide +kernel⟩,
   ⟨b36 2 3 1 1 .running, 9, by decide +kernel⟩,
   ⟨b36 2 3 1 1 .running, (b36 2 3 1 1 .running).rd Reg.CLASP_SEQ, stateDigest ((b36 2 3 1 1 .running).rd Reg.CLASP_SEQ) 0 0, by decide +kernel⟩,
   ⟨b36 2 3 1 1 .running, (b36 2 3 1 1 .running).rd Reg.CLASP_SEQ, 5, by decide +kernel⟩,
   ⟨b36 2 2 1 1 .running, by decide +kernel⟩,
   ⟨cp36 (b36 2 2 1 0 .running) 0, by decide +kernel⟩,
   ⟨cp36 (b36 2 2 1 0 .running) 0, 3000, by decide +kernel⟩⟩

open P36 in
theorem wit_ClaspChecksAndCopies_2 :
    (∃ (s : State), Awake s ∧ s.clasped = true ∧ s.clState = 2 ∧ s.clasp.copying = true ∧ s.clasp.linkUp = true ∧ s.quietWork = true ∧ s.clasp.copySent < 264256 ∧ 264256 ≤ s.clasp.copySent + 1000 * max 1 (s.get F.CLASP_SYNC_CHUNKS)) ∧
    (∃ (s : State), Awake s ∧ s.clasped = true ∧ (s.clState ≠ 2 ∨ s.clasp.copying = false ∨ s.quietWork = false ∨ 264256 ≤ s.clasp.copySent)) ∧
    (∃ (s : State) (o : Nat) (bs : List Byte), Awake s ∧ s.clasped = true ∧ s.clState = 6 ∧ s.clasp.copyDone = o ∧ 0 < o ∧ o + bs.length ≤ 64) ∧
    (∃ (s : State) (d : Nat) (bs : List Byte), Awake s ∧ s.clasped = true ∧ s.clState = 6 ∧ s.clasp.copyDone = 0 ∧ bs.length = 64 ∧ d < 2 ^ 32) ∧
    (∃ (s : State) (o : Nat) (bs : List Byte), Awake s ∧ s.clasped = true ∧ s.clState = 6 ∧ s.clasp.copyDone = o ∧ 64 ≤ o ∧ o < 2112 ∧ o % 4 = 0 ∧ bs.length = 4) ∧
    (∃ (s : State) (o : Nat) (bs : List Byte), Awake s ∧ s.clasped = true ∧ s.clState = 6 ∧ s.clasp.copyDone = o ∧ 2112 ≤ o ∧ o < 264256 ∧ (o - 2112) % 4 = 0 ∧ bs.length = 4) ∧
    (∃ (s : State) (o : Nat), Awake s ∧ s.clasped = true ∧ (s.clState ≠ 6 ∨ s.clasp.copyDone ≠ o)) ∧
    (∃ (s : State), Awake s ∧ s.clasped = true ∧ s.clState ≠ 6) :=
  ⟨⟨ce36 (cp36 (b36 2 2 1 1 .running) 0), by decide +kernel⟩,
   ⟨b36 2 3 1 1 .running, by decide +kernel⟩,
   ⟨cp36 (b36 2 6 1 0 .running) 12, 12, [1,2,3,4], by decide +kernel⟩,
   ⟨cp36 (b36 2 6 1 1 .running) 0, 5, padTo 64 [1,2,3,4], by decide +kernel⟩,
   ⟨cp36 (b36 2 6 1 1 .running) 72, 72, [1,2,19,4], by decide +kernel⟩,
   ⟨cp36 (b36 2 6 1 0 .running) 2116, 2116, [1,2,3,4], by decide +kernel⟩,
   ⟨b36 2 3 1 1 .running, 9, by decide +kernel⟩,
   ⟨b36 2 3 1 1 .running, by decide +kernel⟩⟩

open P36 in
theorem wit_ClaspChecksAndCopies_3 :
    (∃ (s : State) (hash : List Byte), Awake s ∧ s.clasped = true ∧ s.clState = 6 ∧ s.imageHash = hash) ∧
    (∃ (s : State) (hash : List Byte), Awake s ∧ s.clasped = true ∧ s.clState = 6 ∧ s.imageHash ≠ hash) ∧
    (∃ (s : State), Awake s ∧ s.clasped = true ∧ (s.clState ≠ 2 ∨ s.clasp.copying = false)) ∧
    (∃ (s : State), Awake s ∧ s.clasped = true ∧ (s.port 15).sess.rx = none) ∧
    (∃ (s : State) (o d : Nat) (ct tag key : List Byte) (k : DirKey), Awake s ∧ s.clasped = true ∧ (s.port 15).sess.rx = some k ∧ key = padTo 16 (Config.gcmCrypt k.key (ivOf k.salt d) ct) ∧ padTo 16 (Config.gcmTag k.key (ivOf k.salt d) [] key) = tag ∧ s.e2eKeyOf o = none) ∧
    (∃ (s : State) (o d : Nat) (ct tag key : List Byte) (k : DirKey) (x : E2eKey), Awake s ∧ s.clasped = true ∧ (s.port 15).sess.rx = some k ∧ key = padTo 16 (Config.gcmCrypt k.key (ivOf k.salt d) ct) ∧ padTo 16 (Config.gcmTag k.key (ivOf k.salt d) [] key) = tag ∧ s.e2eKeyOf o = some x) ∧
    (∃ (s : State) (d : Nat) (ct tag key : List Byte) (k : DirKey), Awake s ∧ s.clasped = true ∧ (s.port 15).sess.rx = some k ∧ key = padTo 16 (Config.gcmCrypt k.key (ivOf k.salt d) ct) ∧ padTo 16 (Config.gcmTag k.key (ivOf k.salt d) [] key) ≠ tag) :=
  ⟨⟨cp36 (b36 2 6 1 0 .running) 12, (cp36 (b36 2 6 1 0 .running) 12).imageHash, by decide +kernel, by decide +kernel, by decide +kernel, rfl⟩,
   ⟨cp36 (b36 2 6 1 0 .running) 2116, [], by decide +kernel, by decide +kernel, by decide +kernel, padTo_ne_nil _⟩,
   ⟨b36 2 3 1 1 .running, by decide +kernel⟩,
   ⟨b36 2 3 1 1 .running, by decide +kernel⟩,
   ⟨kk36 (b36 2 6 1 0 .running), 2116, 5, [5], padTo 16 (Config.gcmTag [1] (ivOf [2] 5) [] (padTo 16 (Config.gcmCrypt [1] (ivOf [2] 5) [5]))), padTo 16 (Config.gcmCrypt [1] (ivOf [2] 5) [5]), {key := [1], salt := [2]}, by decide +kernel, by decide +kernel, by decide +kernel, rfl, rfl, by decide +kernel⟩,
   ⟨ko36 (kk36 (b36 2 6 1 0 .running)), 2116, 5, [5], padTo 16 (Config.gcmTag [1] (ivOf [2] 5) [] (padTo 16 (Config.gcmCrypt [1] (ivOf [2] 5) [5]))), padTo 16 (Config.gcmCrypt [1] (ivOf [2] 5) [5]), {key := [1], salt := [2]}, x0, by decide +kernel, by decide +kernel, by decide +kernel, rfl, rfl, by decide +kernel⟩,
   ⟨kk36 (b36 2 6 1 0 .running), 5, [5], [], padTo 16 (Config.gcmCrypt [1] (ivOf [2] 5) [5]), {key := [1], salt := [2]}, by decide +kernel, by decide +kernel, by decide +kernel, rfl, padTo_ne_nil _⟩⟩

namespace P40
def c40 (op a v : Nat) : HCmd := { ix := 67, op := op, flags := 2, die := 0x3FE, tag := 500, arg0 := a, arg1 := v, arg2 := 0 }
def b40 (seed : Nat) (run : RunState) (role : Role) (c : HCmd) : State :=
  let s := die seed run role
  let s := (List.range 16).foldl (fun s p => (s.put (F.PORT_CFG_TYPE p) 0).put (F.PORT_STATUS_STATE p) 0) s
  let s := if role = .root then s else ((((s.put (F.PORT_CFG_TYPE 2) 1).put (F.PORT_STATUS_STATE 2) 6).put (F.PORT_CFG_TYPE 4) 2).put F.TREE_STATUS_USE 1).put F.TREE_STATUS_DUP 0
  let s := ((s.put (F.PORT_CFG_TYPE 5) 3).put (F.PORT_STATUS_STATE 5) 6).put (F.PORT_CFG_TYPE 7) 3
  let s := (((s.put F.CLASP_CTRL_ENABLE 0).put F.CLASP_STATUS_STATE 0).put F.TREE_ID_NUMBERED 1).put F.TREE_ID_DIE 33
  let s := (((s.put (F.TREE_ROUTE_DRIFT 200) 0).put (F.TREE_ROUTE_DRIFT 201) 1).put (F.TREE_ROUTE_DRIFT 202) 15).put (F.TREE_ROUTE_DRIFT 203) 15
  let s := ((s.put (F.RING_CFG_EN 9) 1).put (F.RING_CFG_TYPE 9) 1).put (F.RING_CFG_SIZE_LOG2 9) 6
  let s := { s with hif := { s.hif with cmds := [(9, [c])], vtag := 65535 }, fault := { s.fault with retired := [unitKey 4 3], strikes := [(unitKey 4 3, 9)] } }
  (s.setPort 5 { kid := 200, joined := true }).setPort 7 { kid := 0x3FF }
def e40 (run : RunState) (role : Role) (op a v : Nat) (f : State → State := id) : State := f (b40 op run role (c40 op a v))
def arm40 (s : State) : State := (((s.put F.HALL_STATUS_DIGEST_VALID 1).put F.ORB_STATUS_PLL_LOCK 1).put F.ORB_STATUS_ORBIT_LOCK 1)
def noarm40 (s : State) : State := (((s.put F.HALL_STATUS_DIGEST_VALID 1).put F.ORB_STATUS_PLL_LOCK 0).put F.ORB_STATUS_ORBIT_LOCK 1)
def mask40 (s : State) : State := s.put F.FAULT_ALERT_MASK_INFO 1
def bb40 : HCmd := { ix := 66, op := 2, flags := 2, die := 0x3FE, tag := 500, arg0 := 9, arg1 := 0, arg2 := 0, place := .flight 9 }
def o40 (op die a v : Nat) : HCmd := { ix := 67, op := op, flags := 2, die := die, tag := 500, arg0 := a, arg1 := v, arg2 := 0 }
def f40 : HCmd := { ix := 67, op := 2, flags := 2, die := 200, tag := 500, arg0 := 4, arg1 := 5, arg2 := 0, place := .flight 7 }
def off40 (s : State) : State := s.put (F.RING_CFG_EN 9) 0
def two40 (s : State) : State := { s with hif := { s.hif with cmds := [(9, bb40 :: [c40 1 9 0])] } }
def tf40 (s : State) : State := { s with hif := { s.hif with cmds := [(9, bb40 :: [{ c40 1 9 0 with flags := 3 }])] } }
def full40 (s : State) : State := { s with buf := { units := List.replicate 300 { stream := 4, origin := 4, q := false, part := .resp, bytes := List.replicate 1024 7 } } }
def fe40 (on : Nat) (s : State) : State :=
  let s := ((arm40 s).put F.CLASP_CTRL_ENABLE 1).put F.CLASP_STATUS_STATE 1
  let s := { s with hif := { s.hif with feats := on * 0x1FF } }
  { s with clasp := { s.clasp with cold := true } }
def st40 (s : State) : State := let s := (s.put F.CLASP_CTRL_ENABLE 1).put F.CLASP_STATUS_STATE 3; { s with hif := { s.hif with feats := 0x1FF } }
def fl40 : HCmd := { f40 with since := 900000000000 }
end P40

open P40 in
theorem wit_RingCommandsRunAndComplete_1 :
    (∃ (s u : State) (r a v st det dat : Nat) (c : HCmd), Awake s ∧ s.sys.run ≠ .init ∧ r < 8192 ∧ a = c.arg0 ∧ v = c.arg1 ∧ s.dmaOn = true ∧ s.clasped = false ∧ s.ringOn r = true ∧ u = s.completeCmd r c.ix st det dat s.dieNo ∧ s.cmdsOf r = [c] ∧ bitsOf c.flags 1 1 = 1) ∧
    (∃ (s u : State) (r a v st det dat : Nat) (b c : HCmd), Awake s ∧ s.sys.run ≠ .init ∧ r < 8192 ∧ a = c.arg0 ∧ v = c.arg1 ∧ s.dmaOn = true ∧ s.clasped = false ∧ s.ringOn r = true ∧ u = s.completeCmd r c.ix st det dat s.dieNo ∧ s.cmdsOf r = [b, c] ∧ b.ix ≠ c.ix ∧ b.place = .flight a) ∧
    (∃ (s : State) (r a v : Nat) (c : HCmd), Awake s ∧ s.sys.run ≠ .init ∧ r < 8192 ∧ a = c.arg0 ∧ v = c.arg1 ∧ (s.hostReads = false ∨ s.nextCmd r = none)) ∧
    (∃ (s : State) (r a v : Nat) (b c : HCmd), Awake s ∧ s.sys.run ≠ .init ∧ r < 8192 ∧ a = c.arg0 ∧ v = c.arg1 ∧ s.cmdsOf r = [b, c] ∧ b.place = .flight a ∧ c.place = .waiting ∧ bitsOf c.flags 0 1 = 1) ∧
    (∃ (s : State) (r a v : Nat) (c : HCmd), Awake s ∧ s.sys.run ≠ .init ∧ r < 8192 ∧ a = c.arg0 ∧ v = c.arg1 ∧ s.hostReads = true ∧ s.nextCmd r = some c ∧ (c.op = 0 ∨ 0xB < c.op)) ∧
    (∃ (s : State) (r a v : Nat) (c : HCmd), Awake s ∧ s.sys.run ≠ .init ∧ r < 8192 ∧ a = c.arg0 ∧ v = c.arg1 ∧ s.hostReads = true ∧ s.nextCmd r = some c ∧ (1 ≤ c.op ∧ c.op ≤ 0xB)) ∧
    (∃ (s : State) (r a v : Nat) (c : HCmd), Awake s ∧ s.sys.run ≠ .init ∧ r < 8192 ∧ a = c.arg0 ∧ v = c.arg1 ∧ s.hostReads = true ∧ s.nextCmd r = some c ∧ s.isMine c.die = true ∧ c.op = 1) ∧
    (∃ (s : State) (r a v : Nat) (c : HCmd), Awake s ∧ s.sys.run ≠ .init ∧ r < 8192 ∧ a = c.arg0 ∧ v = c.arg1 ∧ s.hostReads = true ∧ s.nextCmd r = some c ∧ s.isMine c.die = true ∧ c.op = 2 ∧ a = Reg.VAULT_SCRUB) :=
  ⟨⟨e40 .ready .root 1 0 0, (e40 .ready .root 1 0 0).completeCmd 9 67 4 5 6 (e40 .ready .root 1 0 0).dieNo, 9, 0, 0, 4, 5, 6, c40 1 0 0, by decide +kernel⟩,
   ⟨e40 .running .root 1 9 0 two40, (e40 .running .root 1 9 0 two40).completeCmd 9 67 4 5 6 (e40 .running .root 1 9 0 two40).dieNo, 9, 9, 0, 4, 5, 6, bb40, c40 1 9 0, by decide +kernel⟩,
   ⟨e40 .running .root 1 9 0 off40, 9, 9, 0, c40 1 9 0, by decide +kernel⟩,
   ⟨e40 .running .root 1 9 0 tf40, 9, 9, 0, bb40, { c40 1 9 0 with flags := 3 }, by decide +kernel⟩,
   ⟨e40 .safe .root 12 4 33, 9, 4, 33, c40 12 4 33, by decide +kernel⟩,
   ⟨e40 .ready .root 1 0 0, 9, 0, 0, c40 1 0 0, by decide +kernel⟩,
   ⟨e40 .ready .root 1 0 0, 9, 0, 0, c40 1 0 0, by decide +kernel⟩,
   ⟨e40 .running .root 2 Reg.VAULT_SCRUB 0, 9, Reg.VAULT_SCRUB, 0, c40 2 Reg.VAULT_SCRUB 0, by decide +kernel⟩⟩

open P40 in
theorem wit_RingCommandsRunAndComplete_2 :
    (∃ (s : State) (r a v : Nat) (c : HCmd), Awake s ∧ s.sys.run ≠ .init ∧ r < 8192 ∧ a = c.arg0 ∧ v = c.arg1 ∧ s.hostReads = true ∧ s.nextCmd r = some c ∧ s.isMine c.die = true ∧ c.op = 2 ∧ a % 4 ≠ 0) ∧
    (∃ (s : State) (r a v : Nat) (c : HCmd), Awake s ∧ s.sys.run ≠ .init ∧ r < 8192 ∧ a = c.arg0 ∧ v = c.arg1 ∧ s.hostReads = true ∧ s.nextCmd r = some c ∧ s.isMine c.die = true ∧ c.op = 3 ∧ a = Reg.SYS_SCRATCH ∧ s.sys.run.isReady = true ∧ v < 2 ^ 32 ∧ s.sys.fuseDone = true ∧ s.bus.held = []) ∧
    (∃ (s : State) (r a v : Nat) (c : HCmd), Awake s ∧ s.sys.run ≠ .init ∧ r < 8192 ∧ a = c.arg0 ∧ v = c.arg1 ∧ s.hostReads = true ∧ s.nextCmd r = some c ∧ s.isMine c.die = true ∧ c.op = 3 ∧ a = Reg.PORT_CFG 3 ∧ s.sys.run = .running ∧ s.sys.fuseDone = true ∧ s.bus.held = []) ∧
    (∃ (s : State) (r a v : Nat) (c : HCmd), Awake s ∧ s.sys.run ≠ .init ∧ r < 8192 ∧ a = c.arg0 ∧ v = c.arg1 ∧ s.hostReads = true ∧ s.nextCmd r = some c ∧ s.isMine c.die = true ∧ c.op = 4 ∧ a = Reg.VAULT_SCRUB ∧ v = 1 ∧ s.roomFor 4 = true) ∧
    (∃ (s : State) (r a v : Nat) (c : HCmd), Awake s ∧ s.sys.run ≠ .init ∧ r < 8192 ∧ a = c.arg0 ∧ v = c.arg1 ∧ s.hostReads = true ∧ s.nextCmd r = some c ∧ s.isMine c.die = true ∧ c.op = 4 ∧ (a % 4 ≠ 0 ∨ v = 0 ∨ 256 < v) ∧ s.roomFor (4 * min v 256) = true) ∧
    (∃ (s : State) (r a v : Nat) (c : HCmd), Awake s ∧ s.sys.run ≠ .init ∧ r < 8192 ∧ a = c.arg0 ∧ v = c.arg1 ∧ s.hostReads = true ∧ s.nextCmd r = some c ∧ s.isMine c.die = true ∧ c.op = 4 ∧ s.roomFor (4 * min v 256) = false) ∧
    (∃ (s : State) (r a v : Nat) (c : HCmd), Awake s ∧ s.sys.run ≠ .init ∧ r < 8192 ∧ a = c.arg0 ∧ v = c.arg1 ∧ s.hostReads = true ∧ s.nextCmd r = some c ∧ s.isMine c.die = true ∧ c.op = 0xB ∧ a < 256 ∧ v = 1 ∧ s.roomFor 32 = true) ∧
    (∃ (s : State) (r a v : Nat) (c : HCmd), Awake s ∧ s.sys.run ≠ .init ∧ r < 8192 ∧ a = c.arg0 ∧ v = c.arg1 ∧ s.hostReads = true ∧ s.nextCmd r = some c ∧ s.isMine c.die = true ∧ c.op = 0xB ∧ (255 < a ∨ v = 0 ∨ 256 < v) ∧ s.roomFor (32 * min v 256) = true) :=
  ⟨⟨e40 .hold .root 2 6 0, 9, 6, 0, c40 2 6 0, by decide +kernel⟩,
   ⟨e40 .hold .root 3 Reg.SYS_SCRATCH 7, 9, Reg.SYS_SCRATCH, 7, c40 3 Reg.SYS_SCRATCH 7, by decide +kernel⟩,
   ⟨e40 .running .root 3 (Reg.PORT_CFG 3) 7, 9, Reg.PORT_CFG 3, 7, c40 3 (Reg.PORT_CFG 3) 7, by decide +kernel⟩,
   ⟨e40 .running .root 4 Reg.VAULT_SCRUB 1, 9, Reg.VAULT_SCRUB, 1, c40 4 Reg.VAULT_SCRUB 1, by decide +kernel⟩,
   ⟨e40 .running .root 4 Reg.VAULT_SCRUB 0, 9, Reg.VAULT_SCRUB, 0, c40 4 Reg.VAULT_SCRUB 0, by decide +kernel⟩,
   ⟨e40 .running .root 4 Reg.VAULT_SCRUB 1 full40, 9, Reg.VAULT_SCRUB, 1, c40 4 Reg.VAULT_SCRUB 1, by decide +kernel⟩,
   ⟨e40 .running .root 0xB 255 1, 9, 255, 1, c40 0xB 255 1, by decide +kernel⟩,
   ⟨e40 .safe .root 0xB 256 1, 9, 256, 1, c40 0xB 256 1, by decide +kernel⟩⟩

open P40 in
theorem wit_RingCommandsRunAndComplete_3 :
    (∃ (s : State) (r a v : Nat) (c : HCmd), Awake s ∧ s.sys.run ≠ .init ∧ r < 8192 ∧ a = c.arg0 ∧ v = c.arg1 ∧ s.hostReads = true ∧ s.nextCmd r = some c ∧ s.isMine c.die = true ∧ c.op = 0xB ∧ s.roomFor (32 * min v 256) = false) ∧
    (∃ (s : State) (r a v : Nat) (c : HCmd), Awake s ∧ s.sys.run ≠ .init ∧ r < 8192 ∧ a = c.arg0 ∧ v = c.arg1 ∧ s.hostReads = true ∧ s.nextCmd r = some c ∧ s.isMine c.die = true ∧ c.op = 5 ∧ s.sys.run = .ready ∧ s.on F.HALL_STATUS_DIGEST_VALID = true ∧ s.locked = true ∧ s.clasp.cold = false ∧ s.clasped = false) ∧
    (∃ (s : State) (r a v : Nat) (c : HCmd), Awake s ∧ s.sys.run ≠ .init ∧ r < 8192 ∧ a = c.arg0 ∧ v = c.arg1 ∧ s.hostReads = true ∧ s.nextCmd r = some c ∧ s.isMine c.die = true ∧ c.op = 5 ∧ s.sys.run = .ready ∧ s.clasped = true ∧ s.feat 8 = false) ∧
    (∃ (s : State) (r a v : Nat) (c : HCmd), Awake s ∧ s.sys.run ≠ .init ∧ r < 8192 ∧ a = c.arg0 ∧ v = c.arg1 ∧ s.hostReads = true ∧ s.nextCmd r = some c ∧ s.isMine c.die = true ∧ c.op = 5 ∧ s.sys.run = .ready ∧ s.on F.HALL_STATUS_DIGEST_VALID = true ∧ s.locked = true ∧ s.clasped = true ∧ s.feat 8 = true ∧ s.clState = 1 ∧ s.clasp.cold = true ∧ s.dmaOn = true) ∧
    (∃ (s : State) (r a v : Nat) (c : HCmd), Awake s ∧ s.sys.run ≠ .init ∧ r < 8192 ∧ a = c.arg0 ∧ v = c.arg1 ∧ s.hostReads = true ∧ s.nextCmd r = some c ∧ s.isMine c.die = true ∧ c.op = 5 ∧ s.sys.run = .ready ∧ (s.on F.HALL_STATUS_DIGEST_VALID = false ∨ s.locked = false) ∧ (s.clasped = false ∨ s.feat 8 = true)) ∧
    (∃ (s : State) (r a v : Nat) (c : HCmd), Awake s ∧ s.sys.run ≠ .init ∧ r < 8192 ∧ a = c.arg0 ∧ v = c.arg1 ∧ s.hostReads = true ∧ s.nextCmd r = some c ∧ s.isMine c.die = true ∧ c.op = 5 ∧ s.sys.run ≠ .ready) ∧
    (∃ (s : State) (r a v : Nat) (c : HCmd), Awake s ∧ s.sys.run ≠ .init ∧ r < 8192 ∧ a = c.arg0 ∧ v = c.arg1 ∧ s.hostReads = true ∧ s.nextCmd r = some c ∧ s.isMine c.die = true ∧ c.op = 6 ∧ s.sys.run = .armed ∧ s.clasped = false) ∧
    (∃ (s : State) (r a v : Nat) (c : HCmd), Awake s ∧ s.sys.run ≠ .init ∧ r < 8192 ∧ a = c.arg0 ∧ v = c.arg1 ∧ s.hostReads = true ∧ s.nextCmd r = some c ∧ s.isMine c.die = true ∧ c.op = 6 ∧ s.sys.run ≠ .armed) :=
  ⟨⟨e40 .running .root 0xB 9 1 full40, 9, 9, 1, c40 0xB 9 1, by decide +kernel⟩,
   ⟨e40 .ready .root 5 255 1 arm40, 9, 255, 1, c40 5 255 1, by decide +kernel⟩,
   ⟨e40 .ready .root 5 4 1 (fe40 0), 9, 4, 1, c40 5 4 1, by decide +kernel⟩,
   ⟨e40 .ready .root 5 4 1 (fe40 1), 9, 4, 1, c40 5 4 1, by decide +kernel⟩,
   ⟨e40 .ready .root 5 255 1 noarm40, 9, 255, 1, c40 5 255 1, by decide +kernel⟩,
   ⟨e40 .hold .root 5 255 1 arm40, 9, 255, 1, c40 5 255 1, by decide +kernel⟩,
   ⟨e40 .armed .root 6 255 1, 9, 255, 1, c40 6 255 1, by decide +kernel⟩,
   ⟨e40 .safe .root 6 256 1, 9, 256, 1, c40 6 256 1, by decide +kernel⟩⟩

open P40 in
theorem wit_RingCommandsRunAndComplete_4 :
    (∃ (s : State) (r a v : Nat) (c : HCmd), Awake s ∧ s.sys.run ≠ .init ∧ r < 8192 ∧ a = c.arg0 ∧ v = c.arg1 ∧ s.hostReads = true ∧ s.nextCmd r = some c ∧ s.isMine c.die = true ∧ c.op = 7 ∧ s.sys.run = .running) ∧
    (∃ (s : State) (r a v : Nat) (c : HCmd), Awake s ∧ s.sys.run ≠ .init ∧ r < 8192 ∧ a = c.arg0 ∧ v = c.arg1 ∧ s.hostReads = true ∧ s.nextCmd r = some c ∧ s.isMine c.die = true ∧ c.op = 7 ∧ s.sys.run = .hold) ∧
    (∃ (s : State) (r a v : Nat) (c : HCmd), Awake s ∧ s.sys.run ≠ .init ∧ r < 8192 ∧ a = c.arg0 ∧ v = c.arg1 ∧ s.hostReads = true ∧ s.nextCmd r = some c ∧ s.isMine c.die = true ∧ c.op = 7 ∧ s.sys.run ≠ .running ∧ s.sys.run ≠ .hold ∧ fragOut ((s.incBy Reg.SYS_REJECT_CNT 1).completeCmd r c.ix 1 s.sys.run.code 0 s.dieNo) = (s.incBy Reg.SYS_REJECT_CNT 1).completeCmd r c.ix 1 s.sys.run.code 0 s.dieNo) ∧
    (∃ (s : State) (r a v : Nat) (c : HCmd), Awake s ∧ s.sys.run ≠ .init ∧ r < 8192 ∧ a = c.arg0 ∧ v = c.arg1 ∧ s.hostReads = true ∧ s.nextCmd r = some c ∧ s.isMine c.die = true ∧ c.op = 8 ∧ (s.sys.run = .ready ∨ s.sys.run = .armed) ∧ a = 4 ∧ v < 16 ∧ s.isRetired 4 v = true ∧ s.on F.FAULT_ALERT_MASK_INFO = true) ∧
    (∃ (s : State) (r a v : Nat) (c : HCmd), Awake s ∧ s.sys.run ≠ .init ∧ r < 8192 ∧ a = c.arg0 ∧ v = c.arg1 ∧ s.hostReads = true ∧ s.nextCmd r = some c ∧ s.isMine c.die = true ∧ c.op = 8 ∧ (s.sys.run = .ready ∨ s.sys.run = .armed) ∧ (a = 7 ∨ (a = 4 ∧ 16 ≤ v) ∨ 10 ≤ a)) ∧
    (∃ (s : State) (r a v : Nat) (c : HCmd), Awake s ∧ s.sys.run ≠ .init ∧ r < 8192 ∧ a = c.arg0 ∧ v = c.arg1 ∧ s.hostReads = true ∧ s.nextCmd r = some c ∧ s.isMine c.die = true ∧ c.op = 8 ∧ (s.sys.run = .running ∨ s.sys.run = .hold ∨ s.sys.run = .safe)) :=
  ⟨⟨e40 .running .root 7 255 1, 9, 255, 1, c40 7 255 1, by decide +kernel⟩,
   ⟨e40 .hold .root 7 255 1, 9, 255, 1, c40 7 255 1, by decide +kernel⟩,
   ⟨e40 .armed .root 7 255 1, 9, 255, 1, c40 7 255 1, by decide +kernel⟩,
   ⟨e40 .ready .root 8 4 3 mask40, 9, 4, 3, c40 8 4 3, by decide +kernel⟩,
   ⟨e40 .ready .root 8 4 33, 9, 4, 33, c40 8 4 33, by decide +kernel⟩,
   ⟨e40 .safe .root 8 4 1, 9, 4, 1, c40 8 4 1, by decide +kernel⟩⟩

open P40 in
theorem wit_TreeCommandsAreAnswered_1 :
    (∃ (s : State), Awake s ∧ (s.isRoot = true ∨ s.on F.TREE_ID_NUMBERED = false)) ∧
    (∃ (s : State) (p : Nat), Awake s ∧ s.isRoot = false ∧ s.on F.TREE_ID_NUMBERED = true ∧ s.otherShaft = some p) ∧
    (∃ (s : State) (p : Nat), Awake s ∧ s.isRoot = false ∧ s.on F.TREE_ID_NUMBERED = true ∧ s.otherShaft ≠ some p ∧ s.sys.run = .init) ∧
    (∃ (s : State) (p a : Nat), Awake s ∧ s.isRoot = false ∧ s.on F.TREE_ID_NUMBERED = true ∧ s.otherShaft ≠ some p ∧ s.sys.run ≠ .init ∧ s.sys.fuseDone = true ∧ s.bus.held = [] ∧ a % 4 ≠ 0) ∧
    (∃ (s : State) (p a v : Nat), Awake s ∧ s.isRoot = false ∧ s.on F.TREE_ID_NUMBERED = true ∧ s.otherShaft ≠ some p ∧ s.sys.run ≠ .init ∧ s.sys.fuseDone = true ∧ s.bus.held = [] ∧ a = Reg.SYS_SCRATCH ∧ s.sys.run.isReady = true ∧ v < 2 ^ 32) ∧
    (∃ (s : State) (p a : Nat), Awake s ∧ s.isRoot = false ∧ s.on F.TREE_ID_NUMBERED = true ∧ s.otherShaft ≠ some p ∧ s.sys.run ≠ .init ∧ s.sys.fuseDone = true ∧ s.bus.held = [] ∧ a = Reg.PORT_CFG 3 ∧ s.sys.run = .running) ∧
    (∃ (s : State) (p a v : Nat), Awake s ∧ s.isRoot = false ∧ s.on F.TREE_ID_NUMBERED = true ∧ s.otherShaft ≠ some p ∧ s.sys.run ≠ .init ∧ s.sys.fuseDone = true ∧ s.bus.held = [] ∧ a = Reg.VAULT_SCRUB ∧ v = 1 ∧ s.roomFor 4 = true) ∧
    (∃ (s : State) (p a v : Nat), Awake s ∧ s.isRoot = false ∧ s.on F.TREE_ID_NUMBERED = true ∧ s.otherShaft ≠ some p ∧ s.sys.run ≠ .init ∧ s.sys.fuseDone = true ∧ s.bus.held = [] ∧ (a % 4 ≠ 0 ∨ v = 0 ∨ 256 < v) ∧ s.roomFor (4 * min v 256) = true) :=
  ⟨⟨b40 1 .running .root (o40 2 200 4 5), by decide +kernel⟩,
   ⟨e40 .ready .relay 1 0 0 arm40, 4, by decide +kernel⟩,
   ⟨e40 .init .relay 1 0 0 arm40, 2, by decide +kernel⟩,
   ⟨e40 .running .leaf 1 0 0, 2, 5, by decide +kernel⟩,
   ⟨e40 .running .relay 1 0 0, 2, Reg.SYS_SCRATCH, 1, by decide +kernel⟩,
   ⟨e40 .running .relay 1 0 0, 2, Reg.PORT_CFG 3, by decide +kernel⟩,
   ⟨e40 .running .relay 1 0 0, 2, Reg.VAULT_SCRUB, 1, by decide +kernel⟩,
   ⟨e40 .running .leaf 1 0 0, 2, 5, 1, by decide +kernel⟩⟩

open P40 in
theorem wit_TreeCommandsAreAnswered_2 :
    (∃ (s : State) (p a v : Nat), Awake s ∧ s.isRoot = false ∧ s.on F.TREE_ID_NUMBERED = true ∧ s.otherShaft ≠ some p ∧ s.sys.run ≠ .init ∧ s.sys.fuseDone = true ∧ s.bus.held = [] ∧ a < 256 ∧ v = 1 ∧ s.roomFor 32 = true) ∧
    (∃ (s : State) (p a v : Nat), Awake s ∧ s.isRoot = false ∧ s.on F.TREE_ID_NUMBERED = true ∧ s.otherShaft ≠ some p ∧ s.sys.run ≠ .init ∧ s.sys.fuseDone = true ∧ s.bus.held = [] ∧ (255 < a ∨ v = 0 ∨ 256 < v) ∧ s.roomFor (32 * min v 256) = true) ∧
    (∃ (s : State) (p : Nat), Awake s ∧ s.isRoot = false ∧ s.on F.TREE_ID_NUMBERED = true ∧ s.otherShaft ≠ some p ∧ s.sys.run ≠ .init ∧ s.sys.fuseDone = true ∧ s.bus.held = [] ∧ s.sys.run = .ready ∧ s.on F.HALL_STATUS_DIGEST_VALID = true ∧ s.locked = true ∧ s.clasp.cold = false) ∧
    (∃ (s : State) (p : Nat), Awake s ∧ s.isRoot = false ∧ s.on F.TREE_ID_NUMBERED = true ∧ s.otherShaft ≠ some p ∧ s.sys.run ≠ .init ∧ s.sys.fuseDone = true ∧ s.bus.held = [] ∧ s.sys.run ≠ .ready) ∧
    (∃ (s : State) (p : Nat), Awake s ∧ s.isRoot = false ∧ s.on F.TREE_ID_NUMBERED = true ∧ s.otherShaft ≠ some p ∧ s.sys.run ≠ .init ∧ s.sys.fuseDone = true ∧ s.bus.held = [] ∧ s.sys.run = .armed) ∧
    (∃ (s : State) (p : Nat), Awake s ∧ s.isRoot = false ∧ s.on F.TREE_ID_NUMBERED = true ∧ s.otherShaft ≠ some p ∧ s.sys.run ≠ .init ∧ s.sys.fuseDone = true ∧ s.bus.held = [] ∧ s.sys.run ≠ .armed) ∧
    (∃ (s : State) (p : Nat), Awake s ∧ s.isRoot = false ∧ s.on F.TREE_ID_NUMBERED = true ∧ s.otherShaft ≠ some p ∧ s.sys.run ≠ .init ∧ s.sys.fuseDone = true ∧ s.bus.held = [] ∧ s.sys.run = .running) ∧
    (∃ (s : State) (p : Nat), Awake s ∧ s.isRoot = false ∧ s.on F.TREE_ID_NUMBERED = true ∧ s.otherShaft ≠ some p ∧ s.sys.run ≠ .init ∧ s.sys.fuseDone = true ∧ s.bus.held = [] ∧ s.sys.run = .hold) :=
  ⟨⟨e40 .running .leaf 1 0 0, 2, 5, 1, by decide +kernel⟩,
   ⟨e40 .running .relay 1 0 0, 2, Reg.VAULT_SCRUB, 1, by decide +kernel⟩,
   ⟨e40 .ready .relay 1 0 0 arm40, 2, by decide +kernel⟩,
   ⟨e40 .running .relay 1 0 0, 2, by decide +kernel⟩,
   ⟨e40 .armed .relay 1 0 0 arm40, 2, by decide +kernel⟩,
   ⟨e40 .running .relay 1 0 0, 2, by decide +kernel⟩,
   ⟨e40 .running .relay 1 0 0, 2, by decide +kernel⟩,
   ⟨e40 .hold .relay 1 0 0 arm40, 2, by decide +kernel⟩⟩

open P40 in
theorem wit_TreeCommandsAreAnswered_3 :
    (∃ (s : State) (p : Nat), Awake s ∧ s.isRoot = false ∧ s.on F.TREE_ID_NUMBERED = true ∧ s.otherShaft ≠ some p ∧ s.sys.run ≠ .init ∧ s.sys.fuseDone = true ∧ s.bus.held = [] ∧ (s.sys.run = .running ∨ s.sys.run = .hold ∨ s.sys.run = .safe)) ∧
    (∃ (s : State) (p a : Nat), Awake s ∧ s.isRoot = false ∧ s.on F.TREE_ID_NUMBERED = true ∧ s.otherShaft ≠ some p ∧ s.sys.run ≠ .init ∧ s.sys.fuseDone = true ∧ s.bus.held = [] ∧ (s.sys.run = .ready ∨ s.sys.run = .armed) ∧ (a = 7 ∨ 10 ≤ a)) ∧
    (∃ (s : State) (p a v : Nat), Awake s ∧ s.isRoot = false ∧ s.on F.TREE_ID_NUMBERED = true ∧ s.otherShaft ≠ some p ∧ s.sys.run ≠ .init ∧ s.sys.fuseDone = true ∧ s.bus.held = [] ∧ (s.sys.run = .ready ∨ s.sys.run = .armed) ∧ a = 4 ∧ v < 16 ∧ s.isRetired 4 v = true) ∧
    (∃ (s : State) (r : Nat) (c : HCmd), Awake s ∧ s.hostReads = true ∧ s.dmaOn = true ∧ s.nextCmd r = some c ∧ s.isMine c.die = false ∧ c.op = 2 ∧ s.requestFails c.die = none) ∧
    (∃ (s : State) (r : Nat) (c : HCmd), Awake s ∧ s.hostReads = true ∧ s.dmaOn = true ∧ s.nextCmd r = some c ∧ s.isMine c.die = false ∧ c.op = 3 ∧ s.requestFails c.die = none) ∧
    (∃ (s : State) (a v r : Nat) (c : HCmd), Awake s ∧ s.hostReads = true ∧ s.dmaOn = true ∧ s.nextCmd r = some c ∧ s.isMine c.die = false ∧ c.op = 2 ∧ s.requestFails c.die = some (a, v)) ∧
    (∃ (s : State) (p r : Nat) (c : HCmd), Awake s ∧ s.hostReads = true ∧ s.dmaOn = true ∧ s.nextCmd r = some c ∧ s.isMine c.die = false ∧ c.op = 1 ∧ s.requestFails c.die = none ∧ s.routePort c.die = some p) ∧
    (∃ (s : State) (r : Nat) (c : HCmd), Awake s ∧ s.hostReads = true ∧ s.dmaOn = false ∧ s.standsBy = true ∧ s.nextCmd r = some c ∧ s.isMine c.die = false ∧ c.op = 2) :=
  ⟨⟨e40 .running .relay 1 0 0, 2, by decide +kernel⟩,
   ⟨e40 .ready .relay 1 0 0 arm40, 2, 7, by decide +kernel⟩,
   ⟨e40 .ready .relay 1 0 0 arm40, 2, 4, 3, by decide +kernel⟩,
   ⟨b40 1 .running .root (o40 2 200 4 5), 9, o40 2 200 4 5, by decide +kernel⟩,
   ⟨b40 1 .running .root (o40 3 200 4 5), 9, o40 3 200 4 5, by decide +kernel⟩,
   ⟨b40 1 .running .root (o40 2 205 4 5), 3, 0, 9, o40 2 205 4 5, by decide +kernel⟩,
   ⟨b40 1 .running .root (o40 1 200 4 5), 5, 9, o40 1 200 4 5, by decide +kernel⟩,
   ⟨st40 (b40 1 .running .root (o40 2 200 4 5)), 9, o40 2 200 4 5, by decide +kernel⟩⟩

open P40 in
theorem wit_TreeCommandsAreAnswered_4 :
    (∃ (s u : State) (vtag r : Nat) (c : HCmd), Awake s ∧ (s.cmdsOf r).find? (fun x => decide (x.ix = c.ix)) = some c ∧ c.place = .flight vtag ∧ s.atUs c.since (max 1 (s.get F.HIF_CMD_TMO_TMO)) = some u) ∧
    (∃ (s : State) (vtag r : Nat) (c : HCmd), Awake s ∧ (s.cmdsOf r).find? (fun x => decide (x.ix = c.ix)) = some c ∧ c.place = .flight vtag ∧ s.atUs c.since (max 1 (s.get F.HIF_CMD_TMO_TMO)) = none) ∧
    (∃ (s : State) (r : Nat) (c : HCmd), Awake s ∧ (s.cmdsOf r).find? (fun x => decide (x.ix = c.ix)) = some c ∧ c.place = .waiting) :=
  ⟨⟨b40 1 .running .root f40, b40 1 .running .root f40, 7, 9, f40, by decide +kernel⟩,
   ⟨b40 1 .running .root fl40, 7, 9, fl40, by decide +kernel⟩,
   ⟨e40 .running .relay 1 0 0, 9, c40 1 0 0, by decide +kernel⟩⟩

namespace P43
def c43 (op : Nat) (place : CmdAt := .waiting) (die : Nat := 0x3FE) : HCmd := { ix := 67, op := op, flags := 2, die := die, tag := 500, arg0 := 0, arg1 := 9999, arg2 := 0, place := place }
def b43 (seed : Nat) (run : RunState) (role : Role) (c : HCmd) : State :=
  let s := die seed run role
  let s := (List.range 16).foldl (fun s p => (s.put (F.PORT_CFG_TYPE p) 0).put (F.PORT_STATUS_STATE p) 0) s
  let s := if role = .root then s else ((((s.put (F.PORT_CFG_TYPE 2) 1).put (F.PORT_STATUS_STATE 2) 6).put (F.PORT_CFG_TYPE 4) 2).put F.TREE_STATUS_USE 1).put F.TREE_STATUS_DUP 0
  let s := ((s.put (F.PORT_CFG_TYPE 5) 3).put (F.PORT_STATUS_STATE 5) 6).put (F.PORT_CFG_TYPE 7) 3
  let s := (((s.put F.CLASP_CTRL_ENABLE 0).put F.CLASP_STATUS_STATE 0).put F.TREE_ID_NUMBERED 1).put F.TREE_ID_DIE 33
  let s := (((s.put (F.TREE_ROUTE_DRIFT 200) 0).put (F.TREE_ROUTE_DRIFT 201) 1).put (F.TREE_ROUTE_DRIFT 202) 15).put (F.TREE_ROUTE_DRIFT 203) 15
  let s := ((((s.put (F.RING_CFG_EN 9) 1).put (F.RING_CFG_TYPE 9) 1).put (F.RING_CFG_SIZE_LOG2 9) 6).put F.FAULT_ALERT_MASK_WARN 1).wr Reg.HALL_CAP_VER 5
  let s := { s with hif := { s.hif with cmds := [(9, [c])], vtag := 65535 }, fuse := { s.fuse with serial := [1,2,3,4,5,6,7,8], claimed := true, owner := [], boots := 7 } }
  (s.setPort 5 { kid := 200, joined := true }).setPort 7 { kid := 0x3FF }
def cap43 (flags len : Nat) (ser : List Byte) (ver : Nat) (items : List (Nat × Nat)) : List Byte :=
  leBytes 2 1 ++ leBytes 2 flags ++ leBytes 4 len ++ ser ++ leBytes 4 0 ++ leBytes 4 ver ++ leBytes 4 items.length ++ List.replicate 64 0 ++
   items.flatMap (fun i => leBytes 4 i.1 ++ leBytes 4 1 ++ leBytes 4 i.2) ++ List.replicate 64 0
def z43 : List Byte := List.replicate 8 0
def v43 (s : State) (bs : List Byte) : State := { s with hall := { s.hall with verify := some (bs, .tree 200 7) } }
def st43 (s : State) (bs : List Byte) : State := { s with hall := { s.hall with staged := bs, stageFor := (200, 7) } }
def u43 (s : State) : State := { s with hall := { s.hall with verify := none } }.unflag F.HALL_STATUS_CAP_BUSY
def e43 (bs : List Byte) : Ans := match capParse bs with | .error e => e | _ => ansOk
def bb43 := b43 2 .ready .relay (c43 9)
def C1 := cap43 0 168 z43 6 [(Reg.SYS_SCRATCH, 3)]
def ow43 (s : State) (bs : List Byte) : State := { s with fuse := { s.fuse with owner := capOwner bs } }
def ow43n (s : State) (bs : List Byte) : State := { s with fuse := { s.fuse with owner := (capOwner bs).map (fun b => b + 1) } }
def cl43 (ser : List Byte) : List Byte := cap43 2 156 ser 1 []
def nn43 (c : Bool) (o : List Byte) : State := { bb43 with fuse := { bb43.fuse with claimed := c, owner := o } }.put F.TREE_ID_NUMBERED 0
def h43 (s : State) (b : Bool) : State := { s with hall := { s.hall with hashing := b } }
def n43 (n : Nat) : List Byte := List.replicate n 9
def cl9 (b : Bool) : List Byte := cap43 (if b then 2 else 0) 156 z43 6 []
def cc43 : HCmd := c43 9 .waiting 200
def full43 (s : State) : State := { s with buf := { units := List.replicate 300 { stream := 4, origin := 4, q := false, part := .resp, bytes := List.replicate 1024 7 } } }
end P43

open P43 in
theorem wit_CapsulesAreVerifiedAndApplied :
    (∃ (s : State) (r p : Nat) (bs : List Byte) (c : HCmd), Awake s ∧ s.otherShaft ≠ some p ∧ s.hostReads = true ∧ s.nextCmd r = some c ∧ c.op = 9 ∧ s.isMine c.die = true ∧ (s.sys.run = .ready ∨ s.sys.run = .armed ∧ capClaim (bs.take c.arg1) = false) ∧ s.hall.verify = none) ∧
    (∃ (s : State) (r p : Nat) (bs : List Byte) (c : HCmd), Awake s ∧ s.otherShaft ≠ some p ∧ s.hostReads = true ∧ s.nextCmd r = some c ∧ c.op = 9 ∧ s.isMine c.die = true ∧ (s.sys.run = .ready ∨ s.sys.run = .armed ∧ capClaim (bs.take c.arg1) = false) ∧ s.hall.verify ≠ none) ∧
    (∃ (s : State) (r p : Nat) (bs : List Byte) (c : HCmd), Awake s ∧ s.otherShaft ≠ some p ∧ s.hostReads = true ∧ s.nextCmd r = some c ∧ c.op = 9 ∧ s.isMine c.die = true ∧ s.sys.run ≠ .ready ∧ (s.sys.run ≠ .armed ∨ capClaim (bs.take c.arg1) = true)) ∧
    (∃ (s : State) (r p : Nat) (c : HCmd), Awake s ∧ s.otherShaft ≠ some p ∧ s.hostReads = true ∧ s.nextCmd r = some c ∧ (c.op = 9 ∨ c.op = 0xA) ∧ r < 8192 ∧ c.op = 9) ∧
    (∃ (s : State) (r p : Nat) (c : HCmd), Awake s ∧ s.otherShaft ≠ some p ∧ s.hostReads = true ∧ s.nextCmd r = some c ∧ (c.op = 9 ∨ c.op = 0xA) ∧ r < 8192 ∧ c.op = 0xA) ∧
    (∃ (s : State) (r p : Nat), Awake s ∧ s.otherShaft ≠ some p ∧ (s.hostReads = false ∨ s.nextCmd r = none)) ∧
    (∃ (s : State) (r p : Nat) (bs : List Byte) (c : HCmd), Awake s ∧ s.otherShaft ≠ some p ∧ s.hostReads = true ∧ s.dmaOn = true ∧ s.nextCmd r = some c ∧ c.op = 9 ∧ s.isMine c.die = false ∧ s.requestFails c.die = none ∧ 0 < bs.length ∧ bs.length ≤ 1008 ∧ bs.length ≤ c.arg1) ∧
    (∃ (s : State) (p src tag off : Nat) (bs cs : List Byte), Awake s ∧ s.otherShaft ≠ some p ∧ s.sys.run = .ready ∧ cs = (if s.hall.stageFor = (src, tag) then s.hall.staged else []) ∧ off = cs.length ∧ 8 ≤ off + bs.length ∧ 8 ≤ capLen (cs ++ bs) ∧ capLen (cs ++ bs) ≤ off + bs.length ∧ capLen (cs ++ bs) ≤ 270336 ∧ s.hall.verify = none) ∧
    (∃ (s : State) (p src tag off : Nat) (bs cs : List Byte), Awake s ∧ s.otherShaft ≠ some p ∧ s.sys.run = .ready ∧ cs = (if s.hall.stageFor = (src, tag) then s.hall.staged else []) ∧ off = cs.length ∧ (off + bs.length < 8 ∨ capLen (cs ++ bs) ≤ 270336 ∧ off + bs.length < capLen (cs ++ bs))) ∧
    (∃ (s : State) (p src tag off : Nat) (bs cs : List Byte), Awake s ∧ s.otherShaft ≠ some p ∧ s.sys.run = .ready ∧ cs = (if s.hall.stageFor = (src, tag) then s.hall.staged else []) ∧ (off ≠ cs.length ∨ 8 ≤ off + bs.length ∧ 270336 < capLen (cs ++ bs))) ∧
    (∃ (s : State) (p : Nat), Awake s ∧ s.otherShaft ≠ some p ∧ s.hall.verify = none) ∧
    (∃ (s u : State) (p src tag : Nat) (bs : List Byte) (e : Ans), Awake s ∧ s.otherShaft ≠ some p ∧ s.hall.verify = some (bs, .tree src tag) ∧ u = { s with hall := { s.hall with verify := none } }.unflag F.HALL_STATUS_CAP_BUSY ∧ capClaim bs = false ∧ s.sys.run = .ready ∧ s.claimed? = true ∧ capParse bs = .error e) ∧
    (∃ (s u : State) (p src tag a v : Nat) (bs : List Byte), Awake s ∧ s.otherShaft ≠ some p ∧ s.hall.verify = some (bs, .tree src tag) ∧ u = { s with hall := { s.hall with verify := none } }.unflag F.HALL_STATUS_CAP_BUSY ∧ capClaim bs = false ∧ s.sys.run = .ready ∧ s.claimed? = true ∧ capParse bs = .ok [(a, v)] ∧ s.capTarget bs = false) ∧
    (∃ (s u : State) (p src tag a v : Nat) (bs : List Byte), Awake s ∧ s.otherShaft ≠ some p ∧ s.hall.verify = some (bs, .tree src tag) ∧ u = { s with hall := { s.hall with verify := none } }.unflag F.HALL_STATUS_CAP_BUSY ∧ capClaim bs = false ∧ s.sys.run = .ready ∧ s.claimed? = true ∧ capParse bs = .ok [(a, v)] ∧ s.capTarget bs = true ∧ s.ownerHash ≠ capOwner bs) ∧
    (∃ (s u : State) (p src tag a v : Nat) (bs : List Byte), Awake s ∧ s.otherShaft ≠ some p ∧ s.hall.verify = some (bs, .tree src tag) ∧ u = { s with hall := { s.hall with verify := none } }.unflag F.HALL_STATUS_CAP_BUSY ∧ capClaim bs = false ∧ s.sys.run = .ready ∧ s.claimed? = true ∧ capParse bs = .ok [(a, v)] ∧ s.capTarget bs = true ∧ s.ownerHash = capOwner bs) ∧
    (∃ (s u : State) (p src tag : Nat) (bs : List Byte), Awake s ∧ s.otherShaft ≠ some p ∧ s.hall.verify = some (bs, .tree src tag) ∧ u = { s with hall := { s.hall with verify := none } }.unflag F.HALL_STATUS_CAP_BUSY ∧ capClaim bs = true ∧ s.sys.run = .ready ∧ capParse bs = .ok [] ∧ capLen bs = 156 ∧ s.capTarget bs = false) ∧
    (∃ (s u : State) (p src tag : Nat) (bs : List Byte), Awake s ∧ s.otherShaft ≠ some p ∧ s.hall.verify = some (bs, .tree src tag) ∧ u = { s with hall := { s.hall with verify := none } }.unflag F.HALL_STATUS_CAP_BUSY ∧ capClaim bs = true ∧ s.sys.run = .ready ∧ capParse bs = .ok [] ∧ capLen bs = 156 ∧ s.capTarget bs = true ∧ s.on F.TREE_ID_NUMBERED = false) :=
  ⟨⟨b43 1 .ready .root (c43 9), 9, 5, cap43 0 168 z43 6 [(12, 3)], c43 9, by decide +kernel⟩,
   ⟨v43 (b43 1 .ready .root (c43 9)) (cap43 0 168 z43 6 [(12, 3)]), 9, 5, cap43 0 168 z43 6 [(12, 3)], c43 9, by decide +kernel⟩,
   ⟨b43 1 .running .root (c43 9), 9, 5, cap43 0 168 z43 6 [(12, 3)], c43 9, by decide +kernel⟩,
   ⟨b43 1 .ready .root (c43 9), 9, 5, c43 9, by decide +kernel⟩,
   ⟨b43 1 .armed .root (c43 0xA), 9, 5, c43 0xA, by decide +kernel⟩,
   ⟨st43 bb43 (C1.take 100), 9, 2, by decide +kernel⟩,
   ⟨b43 1 .armed .root cc43, 9, 5, cl9 true, cc43, by decide +kernel⟩,
   ⟨b43 1 .ready .root (c43 9), 5, 200, 7, 0, cap43 0 168 z43 6 [(12, 3)], [], by decide +kernel⟩,
   ⟨st43 bb43 (C1.take 100), 2, 200, 7, 100, C1.drop 150, C1.take 100, by decide +kernel⟩,
   ⟨st43 bb43 (C1.take 100), 2, 200, 7, 101, C1.drop 150, C1.take 100, by decide +kernel⟩,
   ⟨b43 1 .ready .root (c43 9), 5, by decide +kernel⟩,
   ⟨v43 bb43 (cap43 0 156 z43 6 [(Reg.SYS_SCRATCH, 3)]), u43 (v43 bb43 (cap43 0 156 z43 6 [(Reg.SYS_SCRATCH, 3)])), 2, 200, 7, cap43 0 156 z43 6 [(Reg.SYS_SCRATCH, 3)], e43 (cap43 0 156 z43 6 [(Reg.SYS_SCRATCH, 3)]), by decide +kernel⟩,
   ⟨v43 bb43 (cap43 0 168 (leBytes 8 5) 6 [(Reg.SYS_SCRATCH, 3)]), u43 (v43 bb43 (cap43 0 168 (leBytes 8 5) 6 [(Reg.SYS_SCRATCH, 3)])), 2, 200, 7, Reg.SYS_SCRATCH, 3, cap43 0 168 (leBytes 8 5) 6 [(Reg.SYS_SCRATCH, 3)], by decide +kernel⟩,
   ⟨v43 (ow43n bb43 C1) C1, u43 (v43 (ow43n bb43 C1) C1), 2, 200, 7, Reg.SYS_SCRATCH, 3, C1, by decide +kernel, by decide +kernel, by decide +kernel, rfl, by decide +kernel, by decide +kernel, by decide +kernel, by decide +kernel, by decide +kernel, padTo_flip _⟩,
   ⟨v43 (ow43 bb43 C1) C1, u43 (v43 (ow43 bb43 C1) C1), 2, 200, 7, Reg.SYS_SCRATCH, 3, C1, by decide +kernel, by decide +kernel, by decide +kernel, rfl, by decide +kernel, by decide +kernel, by decide +kernel, by decide +kernel, by decide +kernel, padTo_padTo _⟩,
   ⟨v43 (nn43 false []) (cl43 (leBytes 8 5)), u43 (v43 (nn43 false []) (cl43 (leBytes 8 5))), 2, 200, 7, cl43 (leBytes 8 5), by decide +kernel⟩,
   ⟨v43 (nn43 false []) (cl43 [1,2,3,4,5,6,7,8]), u43 (v43 (nn43 false []) (cl43 [1,2,3,4,5,6,7,8])), 2, 200, 7, cl43 [1,2,3,4,5,6,7,8], by decide +kernel⟩⟩

open P43 in
theorem wit_DigestCompletesAndDiesAttest :
    (∃ (s : State) (p : Nat), Awake s ∧ s.otherShaft ≠ some p ∧ s.hall.hashing = true) ∧
    (∃ (s : State) (p : Nat), Awake s ∧ s.otherShaft ≠ some p ∧ s.hall.hashing = false) ∧
    (∃ (s : State) (p : Nat) (nonce : List Byte), Awake s ∧ s.otherShaft ≠ some p ∧ s.sys.run ≠ .init ∧ 16 ≤ nonce.length ∧ nonce.length ≤ 64) ∧
    (∃ (s : State) (p : Nat) (nonce : List Byte), Awake s ∧ s.otherShaft ≠ some p ∧ 16 ≤ nonce.length ∧ nonce.length ≤ 64) ∧
    (∃ (s : State) (p : Nat) (nonce : List Byte), Awake s ∧ s.otherShaft ≠ some p ∧ s.sys.run ≠ .init ∧ (nonce.length < 16 ∨ 64 < nonce.length)) ∧
    (∃ (s : State) (p : Nat), Awake s ∧ s.otherShaft ≠ some p ∧ s.sys.run = .init) ∧
    (∃ (s : State) (r p : Nat) (nonce : List Byte) (c : HCmd), Awake s ∧ s.otherShaft ≠ some p ∧ s.hostReads = true ∧ s.nextCmd r = some c ∧ c.op = 0xA ∧ s.isMine c.die = true ∧ s.sys.run ≠ .init ∧ nonce.length ≤ c.arg1 ∧ 16 ≤ nonce.length ∧ nonce.length ≤ 64 ∧ s.roomFor 352 = true) ∧
    (∃ (s : State) (r p : Nat) (nonce : List Byte) (c : HCmd), Awake s ∧ s.otherShaft ≠ some p ∧ s.hostReads = true ∧ s.nextCmd r = some c ∧ c.op = 0xA ∧ s.isMine c.die = true ∧ s.sys.run ≠ .init ∧ nonce.length ≤ c.arg1 ∧ 16 ≤ nonce.length ∧ nonce.length ≤ 64 ∧ s.roomFor 352 = false) ∧
    (∃ (s : State) (r p : Nat) (nonce : List Byte) (c : HCmd), Awake s ∧ s.otherShaft ≠ some p ∧ s.hostReads = true ∧ s.nextCmd r = some c ∧ c.op = 0xA ∧ ((nonce.take c.arg1).length < 16 ∨ 64 < (nonce.take c.arg1).length)) ∧
    (∃ (s : State) (r p : Nat) (nonce : List Byte) (c : HCmd), Awake s ∧ s.otherShaft ≠ some p ∧ s.hostReads = true ∧ s.nextCmd r = some c ∧ c.op = 0xA ∧ s.isMine c.die = false ∧ s.dmaOn = true ∧ s.requestFails c.die = none ∧ nonce.length ≤ c.arg1 ∧ 16 ≤ nonce.length ∧ nonce.length ≤ 64) ∧
    (∃ (s : State) (r p tag : Nat) (rep : List Byte) (c : HCmd), Awake s ∧ s.otherShaft ≠ some p ∧ s.isRoot = true ∧ s.inFlight tag = some (r, c) ∧ c.op = 0xA ∧ s.roomFor 352 = true ∧ rep.length = 352) ∧
    (∃ (s : State) (p tag : Nat), Awake s ∧ s.otherShaft ≠ some p ∧ s.isRoot = true ∧ (s.inFlight tag = none ∨ s.roomFor 352 = false)) ∧
    (∃ (s : State) (p : Nat), Awake s ∧ s.otherShaft ≠ some p ∧ s.isRoot = false) :=
  ⟨⟨h43 bb43 true, 2, by decide +kernel⟩,
   ⟨h43 (b43 1 .safe .leaf (c43 9)) false, 2, by decide +kernel⟩,
   ⟨h43 bb43 true, 2, n43 16, by decide +kernel⟩,
   ⟨h43 bb43 true, 2, n43 16, by decide +kernel⟩,
   ⟨h43 (b43 1 .safe .leaf (c43 9)) false, 2, n43 65, by decide +kernel⟩,
   ⟨h43 (b43 1 .init .leaf (c43 9)) false, 2, by decide +kernel⟩,
   ⟨h43 (b43 1 .running .root (c43 0xA)) false, 9, 2, n43 16, c43 0xA, by decide +kernel⟩,
   ⟨full43 (b43 1 .running .root (c43 0xA)), 9, 2, n43 16, c43 0xA, by decide +kernel⟩,
   ⟨h43 (b43 1 .running .root (c43 0xA)) false, 9, 2, n43 1, c43 0xA, by decide +kernel⟩,
   ⟨h43 (b43 1 .running .root (c43 0xA .waiting 200)) false, 9, 2, n43 64, c43 0xA .waiting 200, by decide +kernel⟩,
   ⟨h43 (b43 1 .running .root (c43 0xA (.flight 7) 200)) false, 9, 2, 7, n43 352, c43 0xA (.flight 7) 200, by decide +kernel⟩,
   ⟨h43 (b43 1 .running .root (c43 0xA)) false, 2, 7, by decide +kernel⟩,
   ⟨h43 bb43 true, 2, by decide +kernel⟩⟩

namespace P44
def b44 (seed : Nat) (run : RunState) (ty : Nat) (head seen : Nat) : State :=
  let s := die seed run .root
  let s := (s.put F.CLASP_CTRL_ENABLE 0).put F.TREE_ID_NUMBERED 1
  let s := (((s.put (F.RING_CFG_EN 70) 1).put (F.RING_CFG_TYPE 70) ty).put (F.RING_CFG_SIZE_LOG2 70) 6).put (F.RING_CFG_VECTOR 70) 9
  ((s.wr (Reg.RING_HEAD 70) head).wr (Reg.RING_TAIL_SEEN 70) seen)
def d44 (n : Nat) : List Byte := (List.range 32).map (fun i => BitVec.ofNat 8 (i * n + 3))
def w44 (tail : Nat) (ds : List (List Byte)) (f : Bool) : TailWord := { ring := 70, tail := tail, descs := ds, fail := f }
def np44 (s : State) : State := { s with time := { s.time with fRun := false } }
def U0 : State := {}
def ns44 (s : State) (m : Bool) : State := { s with hif := { s.hif with nudges := [(1, m)], feats := 0x10 } }
def u44 : BUnit := { stream := 5, origin := 40, q := false, part := .alert, bytes := d44 5, whole := true, orbit := 0 }
def hb44 : HBuf := { ix := 77, addr := 0x123450000, len := 32, id := 6 }
def m44 (s : State) (f : Nat) (us : List BUnit) (bs : List HBuf) : State :=
  let s := ((s.wr (Reg.RING_MAP 40 + 8) 0x80468046).put (F.RING_CFG_DROP 70) 1).put (F.RING_STATUS_WAITING 70) 1
  { s with buf := { s.buf with units := us }, hif := { s.hif with feats := f, msixOn := true, bufs := [(70, bs)] } }
def q44 : ArbReq := { r := 2, cls := 1, len := 7, prog := 3 }
def mk44 (s : State) (z : Nat) : State := s.wr (0x90000 + 16 * 9 + 12) z
def noi (s : State) (z : Nat) : State := s.put (F.RING_CFG_NOINT 70) z
def G44 (s : State) (n : Nat) : State := (s.dmaGrant 70 n).1
def S1 : State := noi (mk44 (m44 (b44 1 .running 2 100 99) 1 [u44] [hb44]) 0) 0
def S3 : State := noi (mk44 (m44 (b44 2 .running 3 100 102) 1 [u44] [hb44]) 0) 1
def S4 : State := noi (mk44 (m44 (b44 2 .running 2 100 102) 1 [u44] []) 0) 1
def S5 : State := (noi (mk44 (m44 (b44 2 .running 2 100 102) 1 [u44] []) 0) 1).setArb 34 { owner := some q44 }
def S6 : State := ((m44 (b44 2 .running 2 100 102) 1 [u44] []).wr (Reg.RING_MAP 40 + 8) 0x80458045).wr (Reg.RING_CFG 69) 0
def S7 : State := ((m44 (b44 2 .running 2 100 102) 1 [] []).put (F.RING_CFG_DROP 70) 0).put (F.HIF_COAL_TIME 1) 0
def nw44 (s : State) : State := s.put (F.RING_STATUS_WAITING 70) 0
def lw44 (s : State) : State := { s with hif := { s.hif with waitAt := [(70, 900000000)] } }
def sb44 : State := (((b44 1 .running 2 100 99).put F.CLASP_CTRL_ENABLE 1).put F.CLASP_STATUS_STATE 3).put F.CLASP_CTRL_ALERT_RING 70
def ua44 : BUnit := { u44 with origin := sb44.dieNo }
def S8 : State := { sb44 with buf := { sb44.buf with units := [ua44] }, hif := { sb44.hif with bufs := [(70, [hb44])] } }
def co44 (s : State) (z : Nat) : State := { (mk44 s z).put (F.HIF_COAL_TIME 1) 5 with hif := { s.hif with coal := [(1, [9])] } }
def S9 (z : Nat) : State := co44 (m44 (b44 2 .running 2 100 102) 1 [] []) z
end P44

open P44 in
theorem wit_DoorbellsBringDescriptors :
    (∃ (s u : State) (w : TailWord) (r head n : Nat), Awake s ∧ w.ring = r ∧ r < 8192 ∧ s.rd (Reg.RING_HEAD r) = head ∧ w.tail < 2 ^ 32 ∧ n = (w.tail + 2 ^ 32 - head) % 2 ^ 32 ∧ s.hostReads = true ∧ 0 < s.get F.HIF_DB_POLL_POLL ∧ s.atUs s.hif.pollAt (s.get F.HIF_DB_POLL_POLL) = some u) ∧
    (∃ (s : State) (w : TailWord) (r head n : Nat), Awake s ∧ w.ring = r ∧ r < 8192 ∧ s.rd (Reg.RING_HEAD r) = head ∧ w.tail < 2 ^ 32 ∧ n = (w.tail + 2 ^ 32 - head) % 2 ^ 32 ∧ (s.hostReads = false ∨ s.get F.HIF_DB_POLL_POLL = 0 ∨ s.atUs s.hif.pollAt (s.get F.HIF_DB_POLL_POLL) = none)) ∧
    (∃ (s : State) (w : TailWord) (r head n : Nat), Awake s ∧ w.ring = r ∧ r < 8192 ∧ s.rd (Reg.RING_HEAD r) = head ∧ w.tail < 2 ^ 32 ∧ n = (w.tail + 2 ^ 32 - head) % 2 ^ 32 ∧ (s.hostReads = false ∨ s.ringOn r = false ∨ s.rd (Reg.RING_TAIL_SEEN r) = w.tail)) ∧
    (∃ (s : State) (w : TailWord) (r head v n : Nat), Awake s ∧ w.ring = r ∧ r < 8192 ∧ s.rd (Reg.RING_HEAD r) = head ∧ w.tail < 2 ^ 32 ∧ n = (w.tail + 2 ^ 32 - head) % 2 ^ 32 ∧ s.hostReads = true ∧ s.hif.nudges = [] ∧ r / 64 ≠ v) ∧
    (∃ (s : State) (w : TailWord) (r head v n : Nat), Awake s ∧ w.ring = r ∧ r < 8192 ∧ s.rd (Reg.RING_HEAD r) = head ∧ w.tail < 2 ^ 32 ∧ n = (w.tail + 2 ^ 32 - head) % 2 ^ 32 ∧ s.hostReads = true ∧ s.feat 4 = true ∧ s.hif.nudges = [(v, true)]) ∧
    (∃ (s : State) (w : TailWord) (r head v n : Nat), Awake s ∧ w.ring = r ∧ r < 8192 ∧ s.rd (Reg.RING_HEAD r) = head ∧ w.tail < 2 ^ 32 ∧ n = (w.tail + 2 ^ 32 - head) % 2 ^ 32 ∧ s.hostReads = true ∧ s.hif.nudges = [(v, false)]) ∧
    (∃ (s : State) (w : TailWord) (r head n : Nat) (d e : List Byte) (cs : List HCmd), Awake s ∧ w.ring = r ∧ r < 8192 ∧ s.rd (Reg.RING_HEAD r) = head ∧ w.tail < 2 ^ 32 ∧ n = (w.tail + 2 ^ 32 - head) % 2 ^ 32 ∧ s.hostReads = true ∧ s.ringOn r = true ∧ s.rd (Reg.RING_TAIL_SEEN r) ≠ w.tail ∧ n ≤ 2 ^ s.ringLog2 r ∧ s.ringType r = 1 ∧ s.cmdsOf r = cs ∧ w.fail = false ∧ w.descs = [d, e] ∧ n = cs.length + 2) ∧
    (∃ (s : State) (w : TailWord) (r head n : Nat) (d : List Byte) (bs : List HBuf), Awake s ∧ w.ring = r ∧ r < 8192 ∧ s.rd (Reg.RING_HEAD r) = head ∧ w.tail < 2 ^ 32 ∧ n = (w.tail + 2 ^ 32 - head) % 2 ^ 32 ∧ s.hostReads = true ∧ s.ringOn r = true ∧ s.rd (Reg.RING_TAIL_SEEN r) ≠ w.tail ∧ n ≤ 2 ^ s.ringLog2 r ∧ s.ringType r = 2 ∧ s.bufsOf r = bs ∧ w.fail = false ∧ w.descs = [d] ∧ n = bs.length + 1 ∧ s.hif.nudges = []) ∧
    (∃ (s : State) (w : TailWord) (r head n : Nat), Awake s ∧ w.ring = r ∧ r < 8192 ∧ s.rd (Reg.RING_HEAD r) = head ∧ w.tail < 2 ^ 32 ∧ n = (w.tail + 2 ^ 32 - head) % 2 ^ 32 ∧ s.hostReads = true ∧ s.ringOn r = true ∧ s.rd (Reg.RING_TAIL_SEEN r) ≠ w.tail ∧ n ≤ 2 ^ s.ringLog2 r ∧ s.ringType r = 3) ∧
    (∃ (s : State) (w : TailWord) (r head n : Nat), Awake s ∧ w.ring = r ∧ r < 8192 ∧ s.rd (Reg.RING_HEAD r) = head ∧ w.tail < 2 ^ 32 ∧ n = (w.tail + 2 ^ 32 - head) % 2 ^ 32 ∧ s.hostReads = true ∧ s.ringOn r = true ∧ s.rd (Reg.RING_TAIL_SEEN r) ≠ w.tail ∧ n ≤ 2 ^ s.ringLog2 r ∧ (s.ringType r = 1 ∨ s.ringType r = 2) ∧ w.fail = true) ∧
    (∃ (s : State) (w : TailWord) (r head n : Nat), Awake s ∧ w.ring = r ∧ r < 8192 ∧ s.rd (Reg.RING_HEAD r) = head ∧ w.tail < 2 ^ 32 ∧ n = (w.tail + 2 ^ 32 - head) % 2 ^ 32 ∧ s.hostReads = true ∧ s.ringOn r = true ∧ s.rd (Reg.RING_TAIL_SEEN r) ≠ w.tail ∧ 2 ^ s.ringLog2 r < n) :=
  ⟨⟨np44 ((b44 1 .running 1 100 99).put F.HIF_DB_POLL_POLL 7), np44 ((b44 1 .running 1 100 99).put F.HIF_DB_POLL_POLL 7), w44 102 [d44 3, d44 7] false, 70, 100, 2, by decide +kernel⟩,
   ⟨(b44 1 .running 2 100 99).put F.HIF_DB_POLL_POLL 0, w44 101 [d44 3] false, 70, 100, 1, by decide +kernel⟩,
   ⟨ns44 (b44 1 .safe 2 100 99) true, w44 99 [] true, 70, 100, 4294967295, by decide +kernel⟩,
   ⟨np44 ((b44 1 .running 1 100 99).put F.HIF_DB_POLL_POLL 7), w44 102 [d44 3, d44 7] false, 70, 100, 2, 2, by decide +kernel⟩,
   ⟨ns44 (b44 1 .safe 2 100 99) true, w44 99 [] true, 70, 100, 1, 4294967295, by decide +kernel⟩,
   ⟨ns44 (b44 1 .safe 2 100 99) false, w44 99 [] true, 70, 100, 1, 4294967295, by decide +kernel⟩,
   ⟨np44 ((b44 1 .running 1 100 99).put F.HIF_DB_POLL_POLL 7), w44 102 [d44 3, d44 7] false, 70, 100, 2, d44 3, d44 7, [], by decide +kernel⟩,
   ⟨(b44 1 .running 2 100 99).put F.HIF_DB_POLL_POLL 0, w44 101 [d44 3] false, 70, 100, 1, d44 3, [], by decide +kernel⟩,
   ⟨b44 1 .safe 3 100 99, w44 164 [d44 3] false, 70, 100, 64, by decide +kernel⟩,
   ⟨b44 1 .safe 2 100 99, w44 101 [] true, 70, 100, 1, by decide +kernel⟩,
   ⟨b44 1 .safe 3 100 99, w44 165 [d44 3] false, 70, 100, 65, by decide +kernel⟩⟩

open P44 in
theorem wit_UnitsAreDelivered :
    (∃ (s v : State) (r g : Nat) (u : BUnit) (b : HBuf), Awake s ∧ r < 8192 ∧ g = r / 64 ∧ s.dmaOn = true ∧ s.dropUnmapped = s ∧ s.unitFor r = some u ∧ u.stream = 5 ∧ u.bytes.length = 32 ∧ u.sentA = 0 ∧ s.dmaGrant r 1 = (v, true) ∧ fragOut { v with buf := { v.buf with units := v.buf.units.erase u } } = { v with buf := { v.buf with units := v.buf.units.erase u } } ∧ s.ringType r = 2 ∧ s.bufsOf r = [b] ∧ 32 ≤ b.len) ∧
    (∃ (s v : State) (r g : Nat) (u : BUnit), Awake s ∧ r < 8192 ∧ g = r / 64 ∧ s.dmaOn = true ∧ s.dropUnmapped = s ∧ s.unitFor r = some u ∧ u.stream = 5 ∧ u.bytes.length = 32 ∧ u.sentA = 0 ∧ s.dmaGrant r 1 = (v, true) ∧ fragOut { v with buf := { v.buf with units := v.buf.units.erase u } } = { v with buf := { v.buf with units := v.buf.units.erase u } } ∧ s.ringType r = 3 ∧ 2 ≤ s.avail r) ∧
    (∃ (s v : State) (r g : Nat) (u : BUnit), Awake s ∧ r < 8192 ∧ g = r / 64 ∧ s.dmaOn = true ∧ s.dropUnmapped = s ∧ s.unitFor r = some u ∧ s.dmaGrant r (ceilDiv u.bytes.length 64) = (v, true) ∧ u.tagged = false ∧ s.ringType r = 2 ∧ s.bufsOf r = [] ∧ 0 < u.bytes.length ∧ u.sentA = 0) ∧
    (∃ (s : State) (r g : Nat) (u : BUnit) (q : ArbReq), Awake s ∧ r < 8192 ∧ g = r / 64 ∧ s.dmaOn = true ∧ s.dropUnmapped = s ∧ s.unitFor r = some u ∧ (s.arb 34).owner = some q ∧ q.r ≠ g ∧ q.prog < q.len ∧ (s.arb 34).parked = false) ∧
    (∃ (s v : State) (r g : Nat) (u : BUnit), Awake s ∧ r < 8192 ∧ g = r / 64 ∧ s.dmaOn = true ∧ s.unitFor r = some u ∧ s.on (F.RING_CFG_DROP r) = true ∧ s.on (F.RING_STATUS_WAITING r) = true ∧ s.atUs (sget 0 s.hif.waitAt r) (max 1 (s.get F.HIF_DROP_TMO_TMO)) = some v) ∧
    (∃ (s : State) (r g : Nat) (u : BUnit), Awake s ∧ r < 8192 ∧ g = r / 64 ∧ s.dmaOn = true ∧ s.unitFor r = some u ∧ s.on (F.RING_CFG_DROP r) = true ∧ s.on (F.RING_STATUS_WAITING r) = true ∧ s.atUs (sget 0 s.hif.waitAt r) (max 1 (s.get F.HIF_DROP_TMO_TMO)) = none) ∧
    (∃ (s : State) (r g : Nat) (u : BUnit), Awake s ∧ r < 8192 ∧ g = r / 64 ∧ s.dmaOn = true ∧ s.buf.units = [u] ∧ s.deliverable u = true ∧ s.ringFor u.origin u.stream = none) ∧
    (∃ (s : State) (r g : Nat), Awake s ∧ r < 8192 ∧ g = r / 64 ∧ s.dmaOn = true ∧ s.dropUnmapped = s ∧ s.unitFor r = none) ∧
    (∃ (s : State) (r g : Nat), Awake s ∧ r < 8192 ∧ g = r / 64 ∧ s.dmaOn = false ∧ (s.clasped = false ∨ s.clState < 3)) ∧
    (∃ (s : State) (r g : Nat), Awake s ∧ r < 8192 ∧ g = r / 64 ∧ (s.dmaOn = false ∨ s.on (F.RING_CFG_DROP r) = false ∨ s.on (F.RING_STATUS_WAITING r) = false)) ∧
    (∃ (s : State) (r g : Nat) (u : BUnit) (b : HBuf), Awake s ∧ r < 8192 ∧ g = r / 64 ∧ s.clasped = true ∧ s.hif.d3 = false ∧ s.clState = 3 ∧ s.get F.CLASP_CTRL_ALERT_RING = r ∧ s.ringOn r = true ∧ s.ringType r = 2 ∧ s.bufsOf r = [b] ∧ 32 ≤ b.len ∧ s.buf.units = [u] ∧ u.whole = true ∧ u.stream = 5 ∧ u.origin = s.dieNo ∧ u.bytes.length = 32 ∧ u.sentA = 0 ∧ fragOut { s with buf := { s.buf with units := [] } } = { s with buf := { s.buf with units := [] } }) ∧
    (∃ (s v : State) (r g k : Nat), Awake s ∧ r < 8192 ∧ g = r / 64 ∧ sget [] s.hif.coal g = [k] ∧ s.get (F.HIF_COAL_TIME g) ≠ 0 ∧ k < 2048 ∧ s.atUs (sget 0 s.hif.coalAt g) (s.get (F.HIF_COAL_TIME g)) = some v ∧ s.hif.d3 = false ∧ s.hif.msixOn = true ∧ s.hif.msixMask = false ∧ s.rd (0x90000 + 16 * k + 12) % 2 = 0) ∧
    (∃ (s v : State) (r g k : Nat), Awake s ∧ r < 8192 ∧ g = r / 64 ∧ sget [] s.hif.coal g = [k] ∧ s.get (F.HIF_COAL_TIME g) ≠ 0 ∧ k < 2048 ∧ s.atUs (sget 0 s.hif.coalAt g) (s.get (F.HIF_COAL_TIME g)) = some v ∧ (s.hif.d3 = true ∨ s.hif.msixOn = false ∨ s.hif.msixMask = true ∨ s.rd (0x90000 + 16 * k + 12) % 2 = 1)) ∧
    (∃ (s : State) (r g : Nat), Awake s ∧ r < 8192 ∧ g = r / 64 ∧ (s.get (F.HIF_COAL_TIME g) = 0 ∨ sget [] s.hif.coal g = [] ∨ s.atUs (sget 0 s.hif.coalAt g) (s.get (F.HIF_COAL_TIME g)) = none)) :=
  ⟨⟨S1, G44 S1 1, 70, 1, u44, hb44, by decide +kernel⟩,
   ⟨S3, G44 S3 1, 70, 1, u44, by decide +kernel⟩,
   ⟨S4, G44 S4 1, 70, 1, u44, by decide +kernel⟩,
   ⟨S5, 70, 1, u44, q44, by decide +kernel⟩,
   ⟨np44 S4, np44 S4, 70, 1, u44, by decide +kernel⟩,
   ⟨lw44 S4, 70, 1, u44, by decide +kernel⟩,
   ⟨S6, 70, 1, u44, by decide +kernel⟩,
   ⟨S7, 70, 1, by decide +kernel⟩,
   ⟨(b44 1 .running 2 100 99).put F.CLASP_CTRL_ENABLE 0 |> fun s => { s with hif := { s.hif with d3 := true } }, 70, 1, by decide +kernel⟩,
   ⟨nw44 S4, 70, 1, by decide +kernel⟩,
   ⟨S8, 70, 1, ua44, hb44, by decide +kernel⟩,
   ⟨np44 (S9 0), np44 (S9 0), 70, 1, 9, by decide +kernel⟩,
   ⟨np44 (S9 1), np44 (S9 1), 70, 1, 9, by decide +kernel⟩,
   ⟨S1, 70, 1, by decide +kernel⟩⟩

namespace P45
def ft45 (s : State) (v n : Nat) : State := (((s.wr (Reg.HIF_FEAT_ACCEPT 0) v).wr (Reg.HIF_FEAT_ACCEPT 1) n).wr (Reg.HIF_FEAT_ACCEPT 2) 0).wr (Reg.HIF_FEAT_ACCEPT 3) 0
def noen (s : State) : State := (List.range 20).foldl (fun s r => s.put (F.RING_CFG_EN r) 0) s
def ena (s : State) : Bool := s.regs.any (fun e => decide (Reg.RING_CFG 0 ≤ e.1 ∧ e.1 < Reg.RING_CFG 8192 ∧ (e.1 - Reg.RING_CFG 0) % 32 = 0) && decide (bitsOf e.2.toNat 31 1 = 1))
def q45 (s : State) (f : Nat) (nu : List (Nat × Bool)) : State := { s with hif := { s.hif with feats := f, nudges := nu, bufs := [(3, [])] } }
def nc45 (s : State) : State := s.put F.CLASP_CTRL_ENABLE 0
def np45 (s : State) : State := (List.range 64).foldl (fun s k => s.wr (0x98000 + 4*k) 0) s
end P45

open P45 in
theorem wit_RegisterWritesAreJudged :
    (∃ (s : State) (v be : Nat) (bar : Bool), Awake s ∧ s.sys.fuseDone = true ∧ s.bus.held = [] ∧ v < 2 ^ 32 ∧ bar = true ∧ be < 15) ∧
    (∃ (s : State) (a v : Nat) (bar : Bool), Awake s ∧ s.sys.fuseDone = true ∧ s.bus.held = [] ∧ v < 2 ^ 32 ∧ s.sys.run.isReady = true ∧ findReg a = none ∧ inVault a = false ∧ a % 4 = 0 ∧ (bar = false ∨ s.isRoot = false)) ∧
    (∃ (s : State) (a v : Nat), Awake s ∧ s.sys.fuseDone = true ∧ s.bus.held = [] ∧ v < 2 ^ 32 ∧ (s.sys.run = .running ∨ s.sys.run = .hold) ∧ inVault a = false ∧ a % 4 = 0 ∧ (findReg a).any (fun h => decide (h.row.cls = .mode)) = true) ∧
    (∃ (s : State) (a v : Nat), Awake s ∧ s.sys.fuseDone = true ∧ s.bus.held = [] ∧ v < 2 ^ 32 ∧ s.sys.run = .ready ∧ inVault a = false ∧ a % 4 = 0 ∧ (findReg a).any (fun h => decide (h.row.cls = .prot)) = true) ∧
    (∃ (s : State) (v : Nat) (bar : Bool), Awake s ∧ s.sys.fuseDone = true ∧ s.bus.held = [] ∧ v < 2 ^ 32 ∧ s.sys.run = .ready ∧ s.isRoot = true ∧ v % 4 = 1 ∧ bar = false) ∧
    (∃ (s : State) (a v : Nat), Awake s ∧ s.sys.fuseDone = true ∧ s.bus.held = [] ∧ v < 2 ^ 32 ∧ (s.sys.run = .init ∨ s.sys.run = .safe) ∧ inVault a = false ∧ (findReg a).any (fun h => decide (h.row.cls ≠ .msix)) = true) ∧
    (∃ (s : State) (a v : Nat), Awake s ∧ s.sys.fuseDone = true ∧ s.bus.held = [] ∧ v < 2 ^ 32 ∧ inVault a = true ∧ a % 4 = 0 ∧ s.isRoot = true ∧ s.sys.run = .ready) :=
  ⟨⟨die 5 .hold .relay, 13, 14, true, by decide +kernel⟩,
   ⟨die 1 .ready .root, 0x300000, 0xFFFFFFFF, false, by decide +kernel⟩,
   ⟨die 2 .hold .root, Reg.ORB_LEN, 0x100, by decide +kernel⟩,
   ⟨die 2 .ready .root, Reg.CLASP_CTRL, 0x101, by decide +kernel⟩,
   ⟨die 3 .ready .root, 0x101, false, by decide +kernel⟩,
   ⟨die 3 .safe .leaf, Reg.CLASP_CTRL, 0x101, by decide +kernel⟩,
   ⟨die 3 .ready .root, vaultBase + 8, 0x101, by decide +kernel⟩⟩

open P45 in
theorem wit_HostPortIsSetAndReset :
    (∃ (s : State) (v n : Nat) (b : Bool) (e : Nat × Bool), Awake s ∧ s.bus.held = [] ∧ s.sys.fuseDone = true ∧ s.isRoot = true ∧ (s.sys.run = .ready ∨ s.sys.run = .armed) ∧ (s.regs.any (fun e => decide (Reg.RING_CFG 0 ≤ e.1 ∧ e.1 < Reg.RING_CFG 8192 ∧ (e.1 - Reg.RING_CFG 0) % 32 = 0) && decide (bitsOf e.2.toNat 31 1 = 1)) = b) ∧ v = s.rd (Reg.HIF_FEAT_ACCEPT 0) ∧ n = s.rd (Reg.HIF_FEAT_ACCEPT 1) ∧ s.rd (Reg.HIF_FEAT_ACCEPT 2) = 0 ∧ s.rd (Reg.HIF_FEAT_ACCEPT 3) = 0) ∧
    (∃ (s : State) (r v : Nat), Awake s ∧ s.bus.held = [] ∧ s.sys.fuseDone = true ∧ s.isRoot = true ∧ (s.sys.run = .ready ∨ s.sys.run = .armed) ∧ r < 8192 ∧ bitsOf v 31 1 = 1 ∧ v < 2 ^ 32 ∧ s.get F.HIF_FEAT_STATUS_STATE = 1 ∧ s.ringOn r = false) ∧
    (∃ (s : State) (r v : Nat), Awake s ∧ s.bus.held = [] ∧ s.sys.fuseDone = true ∧ s.isRoot = true ∧ (s.sys.run = .ready ∨ s.sys.run = .armed) ∧ r < 8192 ∧ bitsOf v 31 1 = 1 ∧ v < 2 ^ 32 ∧ s.get F.HIF_FEAT_STATUS_STATE ≠ 1) ∧
    (∃ (s : State) (v : Nat), Awake s ∧ s.bus.held = [] ∧ s.sys.fuseDone = true ∧ s.hostReads = true ∧ s.sys.run.isReady = true ∧ v < 128 ∧ s.feat 4 = true ∧ s.hif.nudges = []) ∧
    (∃ (s : State) (v : Nat) (e : Nat × Bool), Awake s ∧ s.bus.held = [] ∧ s.sys.fuseDone = true ∧ s.hostReads = true ∧ s.sys.run.isReady = true ∧ v < 128 ∧ s.feat 4 = true ∧ s.hif.nudges = [e] ∧ e.1 = v) ∧
    (∃ (s : State) (v : Nat), Awake s ∧ s.bus.held = [] ∧ s.sys.fuseDone = true ∧ s.hostReads = true ∧ s.sys.run.isReady = true ∧ v < 128 ∧ s.feat 4 = false) ∧
    (∃ (s : State), Awake s ∧ s.bus.held = [] ∧ s.sys.fuseDone = true ∧ s.isRoot = false) ∧
    (∃ (s : State) (v n : Nat), Awake s ∧ s.bus.held = [] ∧ s.sys.fuseDone = true ∧ s.isRoot = true ∧ v < 16 ∧ n < 8) ∧
    (∃ (s : State), Awake s ∧ s.bus.held = [] ∧ s.sys.fuseDone = true ∧ s.isRoot = true ∧ (List.range 64).all (fun k => decide (s.rd (0x98000 + 4 * k) = 0)) = true ∧ s.hif.cmds = []) :=
  ⟨⟨noen (ft45 (die 1 .ready .root) 0x1FF 0), 0x1FF, 0, ena (noen (ft45 (die 1 .ready .root) 0x1FF 0)), (1, true), by decide +kernel⟩,
   ⟨q45 ((noen (die 1 .armed .root)).put F.HIF_FEAT_STATUS_STATE 1) 1 [], 1, 0xEA000005, by decide +kernel⟩,
   ⟨q45 ((noen (die 1 .armed .root)).put F.HIF_FEAT_STATUS_STATE 2) 0x1FF [], 1, 0xEA000005, by decide +kernel⟩,
   ⟨nc45 (q45 (die 1 .armed .root) 0x1FF []), 5, by decide +kernel⟩,
   ⟨nc45 (q45 (die 1 .running .root) 0x1FF [(5, false)]), 5, (5, false), by decide +kernel⟩,
   ⟨noen (ft45 (die 1 .armed .root) 0x1 8), 0x1, by decide +kernel⟩,
   ⟨nc45 (q45 (die 1 .running .relay) 1 [(5, false)]), by decide +kernel⟩,
   ⟨np45 (die 1 .running .root), 5, 3, by decide +kernel⟩,
   ⟨noen (ft45 (die 1 .ready .root) 0x1FF 0), by decide +kernel⟩⟩

namespace P47
def F.PORT_CFG (p lo w : Nat) : Fld := ⟨Reg.PORT_CFG p, lo, w⟩
def b47 (seed : Nat) (st : Nat) (x : Sess) : State :=
  let s := die seed .running .relay
  let s := (List.range 16).foldl (fun s p => (s.put (F.PORT_CFG_TYPE p) 0).put (F.PORT_STATUS_STATE p) 0) s
  let s := (s.put (F.PORT_CFG_TYPE 5) 3).put (F.PORT_STATUS_STATE 5) st
  let s := ((s.put (F.PORT_CFG 5 0 16) 0x30)).put (F.HALL_PORT_LEVEL 5) (seed * 3)
  ({ s with fault := { s.fault with retired := [] } }.put F.HALL_POLICY_FAIL_LIMIT 5).setPort 5 { sess := x, lanes := [4, 5] }
def hel47 (n : Nat) : List Byte := [1, 2, 0, 0] ++ (List.range 296).map (fun i => BitVec.ofNat 8 (i * n))
def x47 : Sess := { mine := hel47 3, peer := hel47 5, eph := some 77, dTx := some { key := [1], salt := [2] }, dRx := some { key := [3], salt := [4] }, confRx := [9] }
def fin47 (x : Sess) : List Byte := finishMsg x.confRx (x.hash true)
def n47 (s : State) : Nat := min 255 (s.get (F.HALL_PORT_LEVEL 5) + 1)
def own47 (s : State) : State := { s with fuse := { s.fuse with owner := slice (hel47 3) 236 32 } }.put F.HALL_POLICY_MIN_AUTH 1
def rec47 (s : State) (x : Sess) : Sess := { x with since := s.fNow }
def b1 : State := b47 1 5 (rec47 (b47 1 5 {}) x47)
def X1 : Sess := rec47 (b47 1 5 {}) x47
def X2 : Sess := rec47 (b47 2 5 {}) x47
def b2 : State := b47 2 5 X2
def sh47 (s : State) : State := (s.put (F.PORT_CFG_TYPE 5) 2)
def np47 (s : State) : State := { s with time := { s.time with fRun := false } }
def k47 : DirKey := { key := [7], salt := [8] }
def A47 : DirKey := { key := [1], salt := [2] }
def B47 : DirKey := { key := [3], salt := [4] }
def y47 (s : State) (n : Int) : Sess := { x47 with tx := some k47, rx := some k47, oldEnds := (s.time.slots + n).toNat }
def ses47 (s : State) (n : Nat) : State := s.put (F.HALL_PORT_SESSION 5) n
def Y (seed n : Nat) (d : Int) (nw : Option DirKey) : Sess := { y47 (b47 seed 6 {}) d with rxNew := nw, redo := true }
def B (seed n : Nat) (d : Int) (nw : Option DirKey) : State := ses47 (b47 seed 6 (Y seed n d nw)) n
def A (s : State) (x : Sess) : State := (s.atSlot x.oldEnds).getD {}
def lv47 (s : State) : State := (s.put (F.HALL_PORT_LEVEL 5) 0).put F.HALL_POLICY_FAIL_LIMIT 9
def Z47 : Sess := { x47 with tx := some k47, mine := [] }
end P47

open P47 in
theorem wit_LinkSessionsOpenOrFail :
    (∃ (s : State) (p n : Nat) (x : Sess) (d : Bool), Awake s ∧ p < 16 ∧ s.driftSide p = d ∧ (s.port p).sess = x ∧ n = min 255 (s.get (F.HALL_PORT_LEVEL p) + 1) ∧ s.portState p = 5 ∧ x.mine ≠ [] ∧ x.peer ≠ []) ∧
    (∃ (s : State) (p n : Nat) (x : Sess) (d : Bool), Awake s ∧ p < 16 ∧ s.driftSide p = d ∧ (s.port p).sess = x ∧ n = min 255 (s.get (F.HALL_PORT_LEVEL p) + 1) ∧ s.portState p = 5 ∧ (x.mine = [] ∨ x.peer = [])) ∧
    (∃ (s : State) (p n : Nat) (m : List Byte) (x : Sess) (d : Bool), Awake s ∧ p < 16 ∧ s.driftSide p = d ∧ (s.port p).sess = x ∧ n = min 255 (s.get (F.HALL_PORT_LEVEL p) + 1) ∧ s.portState p = 5 ∧ s.time.fRun = true ∧ s.fNow ≤ x.since + s.usCycles 50000 ∧ x.finishOk d m = true) ∧
    (∃ (s : State) (p n : Nat) (m : List Byte) (x : Sess) (d : Bool), Awake s ∧ p < 16 ∧ s.driftSide p = d ∧ (s.port p).sess = x ∧ n = min 255 (s.get (F.HALL_PORT_LEVEL p) + 1) ∧ s.portState p = 5 ∧ ((s.time.fRun = true ∧ x.since + s.usCycles 50000 < s.fNow) ∨ x.finishOk d m = false)) ∧
    (∃ (s : State) (p n : Nat) (x : Sess) (d : Bool), Awake s ∧ p < 16 ∧ s.driftSide p = d ∧ (s.port p).sess = x ∧ n = min 255 (s.get (F.HALL_PORT_LEVEL p) + 1) ∧ s.portState p < 5) ∧
    (∃ (s u : State) (p n : Nat) (x : Sess) (d : Bool), Awake s ∧ p < 16 ∧ s.driftSide p = d ∧ (s.port p).sess = x ∧ n = min 255 (s.get (F.HALL_PORT_LEVEL p) + 1) ∧ s.portState p = 5 ∧ s.atUs x.since 50000 = some u) ∧
    (∃ (s : State) (p n : Nat) (x : Sess) (d : Bool), Awake s ∧ p < 16 ∧ s.driftSide p = d ∧ (s.port p).sess = x ∧ n = min 255 (s.get (F.HALL_PORT_LEVEL p) + 1) ∧ s.portState p = 5 ∧ s.atUs x.since 50000 = none) ∧
    (∃ (s u : State) (p n : Nat) (x : Sess) (d : Bool), Awake s ∧ p < 16 ∧ s.driftSide p = d ∧ (s.port p).sess = x ∧ n = min 255 (s.get (F.HALL_PORT_LEVEL p) + 1) ∧ s.portState p = 0 ∧ x.retry = true ∧ s.atUs x.since 100000 = some u ∧ (u.setSess p { x with retry := false }).mayTrain p = true) ∧
    (∃ (s u : State) (p n : Nat) (x : Sess) (d : Bool), Awake s ∧ p < 16 ∧ s.driftSide p = d ∧ (s.port p).sess = x ∧ n = min 255 (s.get (F.HALL_PORT_LEVEL p) + 1) ∧ s.portState p = 0 ∧ x.retry = true ∧ s.atUs x.since 100000 = some u ∧ (u.setSess p { x with retry := false }).mayTrain p = false) ∧
    (∃ (s : State) (p n : Nat) (x : Sess) (d : Bool), Awake s ∧ p < 16 ∧ s.driftSide p = d ∧ (s.port p).sess = x ∧ n = min 255 (s.get (F.HALL_PORT_LEVEL p) + 1) ∧ (x.retry = false ∨ s.atUs x.since 100000 = none)) :=
  ⟨⟨b1, 5, n47 b1, X1, true, by decide +kernel⟩,
   ⟨b47 2 5 { x47 with peer := [] }, 5, n47 (b47 2 5 x47), { x47 with peer := [] }, true, by decide +kernel⟩,
   ⟨b2, 5, n47 (b47 2 5 x47), fin47 X2, X2, true, by decide +kernel, by decide +kernel, by decide +kernel, by decide +kernel, by decide +kernel, by decide +kernel, by decide +kernel, by decide +kernel, finishOk_own _ _ (by decide +kernel)⟩,
   ⟨b1, 5, n47 b1, [], X1, true, by decide +kernel, by decide +kernel, by decide +kernel, by decide +kernel, by decide +kernel, by decide +kernel, Or.inr (finishOk_nil _ _)⟩,
   ⟨b47 2 3 { x47 with peer := [] }, 5, n47 (b47 2 5 x47), { x47 with peer := [] }, true, by decide +kernel⟩,
   ⟨np47 (b47 2 5 x47), np47 (b47 2 5 x47), 5, n47 (b47 2 5 x47), x47, true, by decide +kernel⟩,
   ⟨b1, 5, n47 b1, X1, true, by decide +kernel⟩,
   ⟨np47 (b47 2 0 { x47 with retry := true }), np47 (b47 2 0 { x47 with retry := true }), 5, n47 (b47 2 5 x47), { x47 with retry := true }, true, by decide +kernel⟩,
   ⟨np47 ((b47 2 0 { x47 with retry := true }).wr Reg.HALL_PORT_SAFE 0xFFFFFFFF), np47 ((b47 2 0 { x47 with retry := true }).wr Reg.HALL_PORT_SAFE 0xFFFFFFFF), 5, n47 (b47 2 5 x47), { x47 with retry := true }, true, by decide +kernel⟩,
   ⟨b1, 5, n47 b1, X1, true, by decide +kernel⟩⟩

open P47 in
theorem wit_LinksAreRekeyed :
    (∃ (s : State) (p : Nat) (x : Sess) (k : DirKey) (d : Bool), Awake s ∧ p < 16 ∧ s.driftSide p = d ∧ (s.port p).sess = x ∧ s.portUp? p = true ∧ d = true ∧ x.tx = some k ∧ x.ends = none ∧ s.sessState p = 4 ∧ (x.redo = true ∨ 2 ^ 32 ≤ k.ctr ∨ x.rx.any (fun y => decide (2 ^ 32 ≤ y.ctr)) = true ∨ 2 ^ s.get F.HALL_POLICY_REKEY_LOG2 ≤ (s.time.orbit + 2 ^ 32 - x.keyedAt % 2 ^ 32) % 2 ^ 32)) ∧
    (∃ (s : State) (p : Nat) (x : Sess) (k : DirKey) (d : Bool), Awake s ∧ p < 16 ∧ s.driftSide p = d ∧ (s.port p).sess = x ∧ s.portUp? p = true ∧ (d = false ∨ x.tx = none ∨ s.sessState p ≠ 4 ∨ (x.redo = false ∧ x.rx = none ∧ x.tx = some k ∧ k.ctr < 2 ^ 32 ∧ (s.time.orbit + 2 ^ 32 - x.keyedAt % 2 ^ 32) % 2 ^ 32 < 2 ^ s.get F.HALL_POLICY_REKEY_LOG2))) ∧
    (∃ (s : State) (p : Nat) (x : Sess) (k : DirKey) (d : Bool), Awake s ∧ p < 16 ∧ s.driftSide p = d ∧ (s.port p).sess = x ∧ s.portUp? p = true ∧ d = true ∧ x.tx = some k ∧ x.ends = none ∧ s.sessState p = 4 ∧ s.sys.run.isReady = true ∧ s.bus.held = [] ∧ s.hall.keys = [] ∧ (List.range 16).all (fun q => decide (q = p) || !s.driftSide q || !s.portUp? q) = true) ∧
    (∃ (s : State) (p : Nat) (x : Sess) (k : DirKey) (d : Bool), Awake s ∧ p < 16 ∧ s.driftSide p = d ∧ (s.port p).sess = x ∧ s.portUp? p = true ∧ x.tx = some k ∧ x.mine = [] ∧ x.ends = none) ∧
    (∃ (s : State) (p : Nat) (x : Sess) (d : Bool), Awake s ∧ p < 16 ∧ s.driftSide p = d ∧ (s.port p).sess = x ∧ s.portUp? p = true ∧ x.tx = none) ∧
    (∃ (s : State) (p : Nat) (m : List Byte) (x : Sess) (a b : DirKey) (d : Bool), Awake s ∧ p < 16 ∧ s.driftSide p = d ∧ (s.port p).sess = x ∧ s.portUp? p = true ∧ s.sessState p = 5 ∧ x.dTx = some a ∧ x.dRx = some b ∧ x.finishOk d m = true) ∧
    (∃ (s : State) (p : Nat) (x : Sess) (a b : DirKey) (d : Bool), Awake s ∧ p < 16 ∧ s.driftSide p = d ∧ (s.port p).sess = x ∧ s.portUp? p = true ∧ s.sessState p = 5 ∧ x.tx = some a ∧ x.rx = some b ∧ x.ends = none ∧ s.get (F.HALL_PORT_LEVEL p) + 1 < max 1 (s.get F.HALL_POLICY_FAIL_LIMIT) ∧ s.get (F.HALL_PORT_LEVEL p) < 255) ∧
    (∃ (s : State) (p : Nat) (x : Sess) (d : Bool), Awake s ∧ p < 16 ∧ s.driftSide p = d ∧ (s.port p).sess = x ∧ s.portUp? p = true ∧ s.sessState p ≠ 5) ∧
    (∃ (s u : State) (p : Nat) (x : Sess) (b : DirKey) (d : Bool), Awake s ∧ p < 16 ∧ s.driftSide p = d ∧ (s.port p).sess = x ∧ s.portUp? p = true ∧ s.atSlot x.oldEnds = some u ∧ x.rxNew = some b) ∧
    (∃ (s u : State) (p : Nat) (x : Sess) (d : Bool), Awake s ∧ p < 16 ∧ s.driftSide p = d ∧ (s.port p).sess = x ∧ s.portUp? p = true ∧ s.atSlot x.oldEnds = some u ∧ x.rxNew = none) ∧
    (∃ (s : State) (p : Nat) (x : Sess) (d : Bool), Awake s ∧ p < 16 ∧ s.driftSide p = d ∧ (s.port p).sess = x ∧ s.portUp? p = true ∧ s.atSlot x.oldEnds = none) :=
  ⟨⟨B 1 4 0 (some B47), 5, Y 1 4 0 (some B47), k47, true, by decide +kernel⟩,
   ⟨b47 1 6 x47, 5, x47, k47, true, by decide +kernel⟩,
   ⟨B 1 4 0 (some B47), 5, Y 1 4 0 (some B47), k47, true, by decide +kernel⟩,
   ⟨own47 (sh47 (b47 2 6 Z47)), 5, Z47, k47, false, by decide +kernel⟩,
   ⟨b47 1 6 x47, 5, x47, true, by decide +kernel⟩,
   ⟨B 2 5 3 none, 5, fin47 (Y 2 5 3 none), Y 2 5 3 none, A47, B47, true, by decide +kernel, by decide +kernel, by decide +kernel, by decide +kernel, by decide +kernel, by decide +kernel, by decide +kernel, by decide +kernel, finishOk_own _ _ (by decide +kernel)⟩,
   ⟨lv47 (B 2 5 90000 none), 5, Y 2 5 90000 none, k47, k47, true, by decide +kernel⟩,
   ⟨b47 1 6 x47, 5, x47, true, by decide +kernel⟩,
   ⟨B 1 4 0 (some B47), A (B 1 4 0 (some B47)) (Y 1 4 0 (some B47)), 5, Y 1 4 0 (some B47), B47, true, by decide +kernel⟩,
   ⟨B 2 5 3 none, A (B 2 5 3 none) (Y 2 5 3 none), 5, Y 2 5 3 none, true, by decide +kernel⟩,
   ⟨B 2 5 90000 none, 5, Y 2 5 90000 none, true, by decide +kernel⟩⟩

namespace P48
def b48 (seed : Nat) (role : Role) : State :=
  let s := die seed .running role
  let s := (List.range 16).foldl (fun s p => (s.put (F.PORT_CFG_TYPE p) 0).put (F.PORT_STATUS_STATE p) 0) s
  let s := if role = .root then s else ((((s.put (F.PORT_CFG_TYPE 2) 1).put (F.PORT_STATUS_STATE 2) 6).put (F.PORT_CFG_TYPE 4) 2).put F.TREE_STATUS_USE 1).put F.TREE_STATUS_DUP 0
  let s := ((s.put (F.PORT_CFG_TYPE 5) 3).put (F.PORT_STATUS_STATE 5) 6).put (F.PORT_CFG_TYPE 7) 3
  let s := (((s.put F.CLASP_CTRL_ENABLE 0).put F.CLASP_STATUS_STATE 0).put F.TREE_ID_NUMBERED 1).put F.TREE_ID_DIE 33
  let s := ((s.put (F.TREE_ROUTE_DRIFT 200) 0).put (F.TREE_ROUTE_DRIFT 201) 1).put F.HALL_POLICY_MIN_AUTH 1
  (s.setPort 5 { kid := 200, joined := true }).setPort 7 { kid := 0x3FF }
def hel48 (n : Nat) : List Byte := [1, 2, 0, 0] ++ (List.range 296).map (fun i => BitVec.ofNat 8 (i * n))
def A48 : DirKey := { key := [1], salt := [2] }
def B48 : DirKey := { key := [3], salt := [4] }
def x48 : Sess := { mine := hel48 3, peer := hel48 5, eph := some 77, dTx := some A48, dRx := some B48, confRx := [9] }
def own48 (s : State) (c : Bool) : State := { s with fuse := { s.fuse with claimed := c, owner := slice (hel48 3) 236 32 } }
def se48 (s : State) (x : Sess) : State := { s with hall := { s.hall with e2e := x } }
def fin48 (x : Sess) (d : Bool) : List Byte := finishMsg x.confRx (x.hash d)
def K48 : E2eKey := { origin := 200, key := [5] }
def y48 (s : State) (x : Sess) : Sess := { x with mine := s.helloMsg s.free, eph := some (s.free + 1), peer := hel48 3 }
def f48 (s : State) : State := { s.put F.HALL_POLICY_REKEY_LOG2 3 with time := { s.time with orbit := 77 } }
def rt48 (s : State) (x : List (Nat × Sess)) (ks : List E2eKey) : State := { s with hall := { s.hall with opening := x, keys := ks } }
end P48

open P48 in
theorem wit_EndToEndSessionsOpen :
    (∃ (s : State) (p o : Nat) (x : Sess), Awake s ∧ s.e2eSess o = x ∧ s.otherShaft = some p) ∧
    (∃ (s : State) (p o : Nat) (x : Sess), Awake s ∧ s.e2eSess o = x ∧ s.otherShaft ≠ some p ∧ s.isRoot = false ∧ s.claimed? = false) ∧
    (∃ (s : State) (p o : Nat) (x : Sess), Awake s ∧ s.e2eSess o = x ∧ s.otherShaft ≠ some p ∧ s.isRoot = true ∧ s.standsBy = true) ∧
    (∃ (s : State) (p o : Nat) (x : Sess), Awake s ∧ s.e2eSess o = x ∧ s.otherShaft ≠ some p ∧ s.isRoot = true ∧ s.standsBy = false ∧ s.clasped = true ∧ s.authWanted 15 = false) ∧
    (∃ (s : State) (p o : Nat) (m : List Byte) (x y : Sess), Awake s ∧ s.e2eSess o = x ∧ s.otherShaft ≠ some p ∧ ((s.isRoot = false ∧ s.claimed? = true) ∨ (s.isRoot = true ∧ s.standsBy = false ∧ (s.clasped = false ∨ s.authWanted 15 = true))) ∧ x.mine ≠ [] ∧ x.peer = [] ∧ y = { x with peer := m }) ∧
    (∃ (s : State) (p o : Nat) (m : List Byte) (x y : Sess), Awake s ∧ s.e2eSess o = x ∧ s.otherShaft ≠ some p ∧ ((s.isRoot = false ∧ s.claimed? = true) ∨ (s.isRoot = true ∧ s.standsBy = false ∧ (s.clasped = false ∨ s.authWanted 15 = true))) ∧ (x.mine = [] ∨ x.peer ≠ []) ∧ y = { x with mine := s.helloMsg s.free, eph := some (s.free + 1), peer := m }) ∧
    (∃ (s : State) (p o : Nat) (x : Sess), Awake s ∧ s.e2eSess o = x ∧ s.otherShaft ≠ some p ∧ (x.mine = [] ∨ x.peer = [])) ∧
    (∃ (s : State) (p o : Nat) (x y : Sess), Awake s ∧ s.e2eSess o = x ∧ s.otherShaft ≠ some p ∧ x.mine ≠ [] ∧ x.peer ≠ [] ∧ y = x.derive s.isRoot) ∧
    (∃ (s : State) (p o : Nat) (x : Sess), Awake s ∧ s.e2eSess o = x ∧ s.otherShaft ≠ some p ∧ x.mine = []) ∧
    (∃ (s : State) (p o : Nat) (m : List Byte) (x : Sess), Awake s ∧ s.e2eSess o = x ∧ s.otherShaft ≠ some p ∧ x.mine ≠ [] ∧ x.finishOk s.isRoot m = false) ∧
    (∃ (s : State) (p o : Nat) (m : List Byte) (x : Sess), Awake s ∧ s.e2eSess o = x ∧ s.otherShaft ≠ some p ∧ x.mine ≠ [] ∧ x.finishOk s.isRoot m = true ∧ x.dTx = none) ∧
    (∃ (s : State) (p o : Nat) (m : List Byte) (x : Sess) (a b : DirKey), Awake s ∧ s.e2eSess o = x ∧ s.otherShaft ≠ some p ∧ x.mine ≠ [] ∧ x.dTx = some a ∧ x.dRx = some b ∧ x.finishOk s.isRoot m = true ∧ s.isRoot = false) ∧
    (∃ (s : State) (p o : Nat) (m : List Byte) (x : Sess) (a b : DirKey), Awake s ∧ s.e2eSess o = x ∧ s.otherShaft ≠ some p ∧ x.mine ≠ [] ∧ x.dTx = some a ∧ x.dRx = some b ∧ x.finishOk s.isRoot m = true ∧ s.isRoot = true) ∧
    (∃ (s : State) (p o : Nat) (x : Sess), Awake s ∧ s.e2eSess o = x ∧ s.otherShaft ≠ some p ∧ (s.isRoot = true ∨ s.claimed? = false)) ∧
    (∃ (s : State) (p o : Nat) (x : Sess), Awake s ∧ s.e2eSess o = x ∧ s.otherShaft ≠ some p ∧ s.isRoot = false ∧ s.claimed? = true) ∧
    (∃ (s : State) (o : Nat) (x : Sess) (k : E2eKey), Awake s ∧ s.e2eSess o = x ∧ s.isRoot = true ∧ s.standsBy = false ∧ s.e2eKeyOf o = some k ∧ s.opening o = none ∧ 2 ^ s.get F.HALL_POLICY_REKEY_LOG2 ≤ (s.time.orbit + 2 ^ 32 - k.at' % 2 ^ 32) % 2 ^ 32) ∧
    (∃ (s : State) (o : Nat) (x : Sess) (k : E2eKey), Awake s ∧ s.e2eSess o = x ∧ s.e2eKeyOf o = some k ∧ (s.time.orbit + 2 ^ 32 - k.at' % 2 ^ 32) % 2 ^ 32 < 2 ^ s.get F.HALL_POLICY_REKEY_LOG2) ∧
    (∃ (s : State) (o : Nat) (x : Sess), Awake s ∧ s.e2eSess o = x ∧ (s.isRoot = false ∨ s.standsBy = true ∨ s.e2eKeyOf o = none ∨ s.opening o ≠ none)) :=
  ⟨⟨own48 (b48 1 .relay) true, 4, 33, {}, by decide +kernel⟩,
   ⟨own48 (b48 1 .relay) false, 2, 33, {}, by decide +kernel⟩,
   ⟨(((own48 (b48 1 .root) true).put F.CLASP_CTRL_ENABLE 1).put F.CLASP_STATUS_STATE 3).put F.HALL_AUTH_MODE 1, 5, 200, {}, by decide +kernel⟩,
   ⟨(((own48 (b48 1 .root) true).put F.CLASP_CTRL_ENABLE 1).put F.CLASP_STATUS_STATE 2).put F.HALL_AUTH_MODE 0, 5, 200, {}, by decide +kernel⟩,
   ⟨se48 (own48 (b48 1 .relay) true) { x48 with peer := [] }, 2, 33, hel48 3, { x48 with peer := [] }, { x48 with peer := hel48 3 }, by decide +kernel⟩,
   ⟨rt48 ((((((own48 (b48 1 .root) true).put F.CLASP_CTRL_ENABLE 1).put F.CLASP_STATUS_STATE 2).put F.HALL_AUTH_MODE 1).put (F.PORT_STATUS_STATE 15) 6).setPort 15 { sess := { tx := some A48 } }) [] [K48], 5, 200, hel48 3, {}, y48 (rt48 ((((((own48 (b48 1 .root) true).put F.CLASP_CTRL_ENABLE 1).put F.CLASP_STATUS_STATE 2).put F.HALL_AUTH_MODE 1).put (F.PORT_STATUS_STATE 15) 6).setPort 15 { sess := { tx := some A48 } }) [] [K48]) {}, by decide +kernel, by decide +kernel, by decide +kernel, by decide +kernel, by decide +kernel, rfl⟩,
   ⟨own48 (b48 1 .relay) false, 2, 33, {}, by decide +kernel⟩,
   ⟨se48 (own48 (b48 1 .relay) true) x48, 2, 33, x48, x48.derive (se48 (own48 (b48 1 .relay) true) x48).isRoot, by decide +kernel, by decide +kernel, by decide +kernel, by decide +kernel, by decide +kernel, rfl⟩,
   ⟨own48 (b48 1 .relay) false, 2, 33, {}, by decide +kernel⟩,
   ⟨se48 (own48 (b48 1 .relay) true) { x48 with peer := [] }, 2, 33, [], { x48 with peer := [] }, by decide +kernel, by decide +kernel, by decide +kernel, by decide +kernel, finishOk_nil _ _⟩,
   ⟨se48 (own48 (b48 1 .relay) true) { x48 with dTx := none }, 2, 33, fin48 x48 false, { x48 with dTx := none }, by decide +kernel, by decide +kernel, by decide +kernel, by decide +kernel, finishOk_own _ _ (by decide +kernel), by decide +kernel⟩,
   ⟨se48 (own48 (b48 1 .relay) true) x48, 2, 33, fin48 x48 false, x48, A48, B48, by decide +kernel, by decide +kernel, by decide +kernel, by decide +kernel, by decide +kernel, by decide +kernel, finishOk_own _ _ (by decide +kernel), by decide +kernel⟩,
   ⟨rt48 ((((((own48 (b48 1 .root) true).put F.CLASP_CTRL_ENABLE 1).put F.CLASP_STATUS_STATE 2).put F.HALL_AUTH_MODE 1).put (F.PORT_STATUS_STATE 15) 6).setPort 15 { sess := { tx := some A48 } }) [(200, x48)] [], 5, 200, fin48 x48 true, x48, A48, B48, by decide +kernel, by decide +kernel, by decide +kernel, by decide +kernel, by decide +kernel, by decide +kernel, finishOk_own _ _ (by decide +kernel), by decide +kernel⟩,
   ⟨own48 (b48 1 .relay) false, 2, 33, {}, by decide +kernel⟩,
   ⟨se48 (own48 (b48 1 .relay) true) { x48 with peer := [] }, 2, 33, { x48 with peer := [] }, by decide +kernel⟩,
   ⟨rt48 (f48 (own48 (b48 1 .root) true)) [] [{ origin := 3, key := [] }, K48], 200, {}, K48, by decide +kernel⟩,
   ⟨rt48 ((((((own48 (b48 1 .root) true).put F.CLASP_CTRL_ENABLE 1).put F.CLASP_STATUS_STATE 2).put F.HALL_AUTH_MODE 1).put (F.PORT_STATUS_STATE 15) 6).setPort 15 { sess := { tx := some A48 } }) [] [K48], 200, {}, K48, by decide +kernel⟩,
   ⟨own48 (b48 1 .relay) false, 33, {}, by decide +kernel⟩⟩

namespace P50
def sq50 (s : State) (j inp : Nat) (en ev : Nat) : State := ((s.put (F.MON_SEQ_EN j) en).put (F.MON_SEQ_INPUT j) inp).put (F.MON_SEQ_EVERY j) ev
def b50 (seed : Nat) (w : MonWork) (guard owed inPass : Bool) (run pace cal : Nat) (len : Nat) : State :=
  let s := die seed .ready .leaf
  let s := sq50 (sq50 (sq50 s 0 4 1 0) 1 (4 + seed) 1 0) 2 7 1 0
  let s := [0].foldl (fun s g => (s.put (F.MON_FACT_GAIN_GAIN g) 0x400000).put (F.MON_FACT_OFS_OFS g) 77) s
  let s := [4, 5, 9].foldl (fun s k => (((((s.put (F.MON_IN_PWL_EN k) 0).put (F.MON_EXC_CHOP k) 0).put (F.MON_USER_GAIN_GAIN k) 0x400000).put (F.MON_USER_OFS_OFS k) 0xFFFFF0).put (F.MON_IN_OVR_STRIKE k) 0).wr (Reg.MON_EXC k) 1) s
  let s := ((((s.put F.MON_SEQ_CTRL_LEN len).put F.MON_SEQ_CTRL_PACE pace).put F.MON_SEQ_STATUS_RUNNING run).put F.MON_CAL_STATUS_STATE cal).put F.MON_STREAM_PASS_EN 0
  let s := s.put F.MON_STREAM_INJ_EN 0
  { s with mon := { s.mon with k := (match w with | .entry j => s.get (F.MON_SEQ_INPUT j) | .inj => 9 | .scope => 5 | _ => 0), odr := 2, outs := 4, work := w, guard := guard, owed := owed, inPass := inPass, items := [[1, 2]], coef := { exc := 1, drift := 3, ofs := -5, gain := 0x400000 } }, time := { s.time with slot := 0, orbit := 64 } }
def v50 : MonConv := { x := -12345 }
def big50 : MonConv := { x := 900000000 }
def R50 (s : State) (v : MonConv) : List Byte := (s.monResult s.mon.k s.mon.coef v 0).bytes
def I50 (s : State) (v : MonConv) : List Byte := (s.monResult s.mon.k s.mon.coef v 16).bytes
def P50 (s : State) : Nat := s.get F.MON_SEQ_CTRL_PACE
def e1 : State := b50 1 (.entry 0) false false true 1 1 0 3
def e2 : State := b50 1 (.entry 0) false true true 1 1 2 3
def e3 : State := b50 1 (.entry 2) false true true 1 1 2 3
def e4 : State := b50 2 (.entry 2) false true false 1 1 2 3
def e5 : State := b50 2 .idle false true false 1 1 2 3
def e6 : State := b50 2 .idle false true false 0 0 2 3
def e7 : State := b50 3 (.entry 1) true false true 1 1 0 3
def e8 : State := { e1 with mon := { e1.mon with injWait := true, injK := 12, injOdr := 3 } }
def e9 : State := e1.put F.MON_CAL_STATUS_STATE 1
def fa50 (s : State) : State := { s with mon := { s.mon with since := 900000000000 } }
def rec50 : State := let s := die 1 .ready .root; { ((s.put F.MON_SEQ_STATUS_RUNNING 1).put F.MON_STREAM_PASS_EN 1) with mon := { s.mon with work := .idle, inPass := true, items := [[1,2,3,4,5,6,7,8]] } }
def w50 (w : MonWork) := b50 1 w false true true 0 1 0 3
def iw50 (s : State) : State := { s with mon := { s.mon with injWait := true } }
def rt50 (s : State) (k : Nat) : State := { s with fault := { s.fault with retired := unitKey 8 k :: s.fault.retired } }
def sc50 (s : State) : State := { s with mon := { s.mon with scope := { s.mon.scope with on := true, input := 5, buf := [3], skip := 0 } } }
end P50

open P50 in
theorem wit_SequencerConvertsItsEntries :
    (∃ (s u : State) (k : Nat) (v : MonConv) (bs : List Byte), Awake s ∧ s.monRuns = true ∧ k = s.mon.k ∧ k < 32 ∧ bs = (u.monResult k u.mon.coef v 0).bytes ∧ v.ovl = false) ∧
    (∃ (s u : State) (j k : Nat) (v : MonConv) (bs : List Byte), Awake s ∧ s.monRuns = true ∧ k = s.mon.k ∧ k < 32 ∧ bs = (u.monResult k u.mon.coef v 0).bytes ∧ s.mon.work = .entry j ∧ s.mon.guard = false ∧ s.atUs s.mon.since (s.mon.outs * monPeriod s.mon.odr) = some u ∧ u.mon.injWait = true) ∧
    (∃ (s u : State) (j k : Nat) (v : MonConv) (bs : List Byte), Awake s ∧ s.monRuns = true ∧ k = s.mon.k ∧ k < 32 ∧ bs = (u.monResult k u.mon.coef v 0).bytes ∧ s.mon.work = .entry j ∧ s.mon.guard = false ∧ s.atUs s.mon.since (s.mon.outs * monPeriod s.mon.odr) = some u ∧ u.mon.injWait = false ∧ u.get F.MON_CAL_STATUS_STATE = 1) ∧
    (∃ (s u : State) (j k : Nat) (v : MonConv) (bs : List Byte), Awake s ∧ s.monRuns = true ∧ k = s.mon.k ∧ k < 32 ∧ bs = (u.monResult k u.mon.coef v 0).bytes ∧ s.mon.work = .entry j ∧ s.mon.guard = false ∧ s.atUs s.mon.since (s.mon.outs * monPeriod s.mon.odr) = some u ∧ u.mon.injWait = false ∧ u.mon.scope.on = false ∧ u.get F.MON_CAL_STATUS_STATE ≠ 1 ∧ u.on F.MON_SEQ_STATUS_RUNNING = true ∧ u.mon.inPass = true ∧ (u.monResult k u.mon.coef v 0).opn = false ∧ (u.monResult k u.mon.coef v 0).bad = false ∧ j < 31 ∧ j + 1 < u.monLen ∧ u.on (F.MON_SEQ_EN (j + 1)) = true ∧ u.rd Reg.MON_PASS % 2 ^ u.get (F.MON_SEQ_EVERY (j + 1)) = 0 ∧ u.monRetired (u.get (F.MON_SEQ_INPUT (j + 1))) = false ∧ (u.monResult k u.mon.coef v 0).ovr = false) ∧
    (∃ (s u : State) (j k : Nat) (v : MonConv) (bs : List Byte), Awake s ∧ s.monRuns = true ∧ k = s.mon.k ∧ k < 32 ∧ bs = (u.monResult k u.mon.coef v 0).bytes ∧ s.mon.work = .entry j ∧ s.mon.guard = false ∧ s.atUs s.mon.since (s.mon.outs * monPeriod s.mon.odr) = some u ∧ u.mon.injWait = false ∧ u.mon.scope.on = false ∧ u.get F.MON_CAL_STATUS_STATE ≠ 1 ∧ u.on F.MON_SEQ_STATUS_RUNNING = true ∧ u.mon.inPass = true ∧ (u.monResult k u.mon.coef v 0).opn = false ∧ (u.monResult k u.mon.coef v 0).bad = false ∧ j < 31 ∧ j + 1 < u.monLen ∧ u.on (F.MON_SEQ_EN (j + 1)) = true ∧ u.rd Reg.MON_PASS % 2 ^ u.get (F.MON_SEQ_EVERY (j + 1)) = 0 ∧ u.monRetired (u.get (F.MON_SEQ_INPUT (j + 1))) = false ∧ (u.monResult k u.mon.coef v 0).ovr = true) ∧
    (∃ (s u : State) (j k : Nat) (v : MonConv) (bs : List Byte), Awake s ∧ s.monRuns = true ∧ k = s.mon.k ∧ k < 32 ∧ bs = (u.monResult k u.mon.coef v 0).bytes ∧ s.mon.work = .entry j ∧ s.mon.guard = false ∧ s.atUs s.mon.since (s.mon.outs * monPeriod s.mon.odr) = some u ∧ u.mon.injWait = false ∧ u.mon.scope.on = false ∧ u.get F.MON_CAL_STATUS_STATE ≠ 1 ∧ u.on F.MON_SEQ_STATUS_RUNNING = true ∧ u.mon.inPass = true ∧ (u.monResult k u.mon.coef v 0).opn = false ∧ (u.monResult k u.mon.coef v 0).bad = false ∧ (u.monResult k u.mon.coef v 0).ovr = false ∧ u.monLen ≤ j + 1 ∧ u.get F.MON_SEQ_CTRL_PACE ≠ 0 ∧ u.on F.MON_STREAM_PASS_EN = false) ∧
    (∃ (s u : State) (j k : Nat) (v : MonConv) (bs : List Byte), Awake s ∧ s.monRuns = true ∧ k = s.mon.k ∧ k < 32 ∧ bs = (u.monResult k u.mon.coef v 0).bytes ∧ s.mon.work = .entry j ∧ s.atUs s.mon.since (s.mon.outs * monPeriod s.mon.odr) = none) ∧
    (∃ (s u : State) (k : Nat) (v : MonConv) (bs : List Byte), Awake s ∧ s.monRuns = true ∧ k = s.mon.k ∧ k < 32 ∧ bs = (u.monResult k u.mon.coef v 0).bytes ∧ s.mon.work = .idle ∧ s.mon.inPass = false) ∧
    (∃ (s u : State) (k : Nat) (v : MonConv) (bs : List Byte), Awake s ∧ s.monRuns = true ∧ k = s.mon.k ∧ k < 32 ∧ bs = (u.monResult k u.mon.coef v 0).bytes ∧ s.mon.guard = true ∧ s.atUs s.mon.since (s.mon.outs * monPeriod s.mon.odr) = some u) ∧
    (∃ (s u : State) (k : Nat) (v : MonConv) (bs : List Byte), Awake s ∧ s.monRuns = true ∧ k = s.mon.k ∧ k < 32 ∧ bs = (u.monResult k u.mon.coef v 0).bytes ∧ s.mon.guard = false) ∧
    (∃ (s u : State) (k p : Nat) (v : MonConv) (bs : List Byte), Awake s ∧ s.monRuns = true ∧ k = s.mon.k ∧ k < 32 ∧ bs = (u.monResult k u.mon.coef v 0).bytes ∧ s.on F.MON_SEQ_STATUS_RUNNING = true ∧ p = s.get F.MON_SEQ_CTRL_PACE ∧ p ≠ 0 ∧ s.time.slot = 0 ∧ s.orbitNow % 2 ^ (p - 1) = 0 ∧ s.mon.inPass = true) ∧
    (∃ (s u : State) (k p : Nat) (v : MonConv) (bs : List Byte), Awake s ∧ s.monRuns = true ∧ k = s.mon.k ∧ k < 32 ∧ bs = (u.monResult k u.mon.coef v 0).bytes ∧ s.on F.MON_SEQ_STATUS_RUNNING = true ∧ p = s.get F.MON_SEQ_CTRL_PACE ∧ p ≠ 0 ∧ s.time.slot = 0 ∧ s.orbitNow % 2 ^ (p - 1) = 0 ∧ s.mon.inPass = false ∧ s.mon.work = .idle ∧ s.mon.injWait = false ∧ s.mon.scope.on = false ∧ s.get F.MON_CAL_STATUS_STATE ≠ 1 ∧ s.on (F.MON_SEQ_EN 0) = true ∧ s.rd Reg.MON_PASS % 2 ^ s.get (F.MON_SEQ_EVERY 0) = 0 ∧ s.monRetired (s.get (F.MON_SEQ_INPUT 0)) = false) ∧
    (∃ (s u : State) (k p : Nat) (v : MonConv) (bs : List Byte), Awake s ∧ s.monRuns = true ∧ k = s.mon.k ∧ k < 32 ∧ bs = (u.monResult k u.mon.coef v 0).bytes ∧ s.on F.MON_SEQ_STATUS_RUNNING = true ∧ p = s.get F.MON_SEQ_CTRL_PACE ∧ p ≠ 0 ∧ s.time.slot = 0 ∧ s.orbitNow % 2 ^ (p - 1) = 0 ∧ s.mon.inPass = false ∧ s.mon.work ≠ .idle) ∧
    (∃ (s u : State) (k : Nat) (v : MonConv) (bs : List Byte), Awake s ∧ s.monRuns = true ∧ k = s.mon.k ∧ k < 32 ∧ bs = (u.monResult k u.mon.coef v 0).bytes ∧ (s.on F.MON_SEQ_STATUS_RUNNING = false ∨ s.get F.MON_SEQ_CTRL_PACE = 0 ∨ s.time.slot ≠ 0 ∨ s.orbitNow % 2 ^ (s.get F.MON_SEQ_CTRL_PACE - 1) ≠ 0)) ∧
    (∃ (s u : State) (k : Nat) (v : MonConv) (bs : List Byte), Awake s ∧ s.monRuns = true ∧ k = s.mon.k ∧ k < 32 ∧ bs = (u.monResult k u.mon.coef v 0).bytes ∧ s.bus.held = [] ∧ s.sys.fuseDone = true ∧ s.get F.MON_SEQ_CTRL_PACE ≠ 0 ∧ s.mon.work = .idle) ∧
    (∃ (s u : State) (j k : Nat) (v : MonConv) (bs : List Byte), Awake s ∧ s.monRuns = true ∧ k = s.mon.k ∧ k < 32 ∧ bs = (u.monResult k u.mon.coef v 0).bytes ∧ s.bus.held = [] ∧ s.sys.fuseDone = true ∧ s.mon.work = .entry j ∧ s.get F.MON_SEQ_CTRL_PACE ≠ 0) ∧
    (∃ (s u : State) (k : Nat) (v : MonConv) (bs : List Byte), Awake s ∧ s.monRuns = true ∧ k = s.mon.k ∧ k < 32 ∧ bs = (u.monResult k u.mon.coef v 0).bytes ∧ s.bus.held = [] ∧ s.sys.fuseDone = true ∧ s.get F.MON_SEQ_CTRL_PACE = 0 ∧ s.mon.work = .idle ∧ s.mon.injWait = false ∧ s.mon.scope.on = false ∧ s.get F.MON_CAL_STATUS_STATE ≠ 1 ∧ s.on (F.MON_SEQ_EN 0) = true ∧ s.rd Reg.MON_PASS % 2 ^ s.get (F.MON_SEQ_EVERY 0) = 0 ∧ s.monRetired (s.get (F.MON_SEQ_INPUT 0)) = false) ∧
    (∃ (s u : State) (j k : Nat) (v : MonConv) (bs : List Byte), Awake s ∧ s.monRuns = true ∧ k = s.mon.k ∧ k < 32 ∧ bs = (u.monResult k u.mon.coef v 0).bytes ∧ s.bus.held = [] ∧ s.sys.fuseDone = true ∧ s.on F.MON_SEQ_STATUS_RUNNING = true ∧ s.mon.inPass = true ∧ s.mon.work = .entry j ∧ s.mon.injWait = false ∧ s.mon.scope.on = false ∧ s.on F.MON_STREAM_PASS_EN = false) ∧
    (∃ (s u : State) (k : Nat) (v : MonConv) (bs : List Byte), Awake s ∧ s.monRuns = true ∧ k = s.mon.k ∧ k < 32 ∧ bs = (u.monResult k u.mon.coef v 0).bytes ∧ s.bus.held = [] ∧ s.sys.fuseDone = true ∧ s.on F.MON_SEQ_STATUS_RUNNING = true ∧ s.mon.inPass = true ∧ s.on F.MON_STREAM_PASS_EN = true ∧ s.mon.work = .idle ∧ 16 + 8 * s.mon.items.length + 32 ≤ s.partFree .mon ∧ s.uplinks = s ∧ s.isRoot = true ∧ s.mon.items.all (fun x => decide (x.length = 8)) = true) ∧
    (∃ (s u : State) (k : Nat) (v : MonConv) (bs : List Byte), Awake s ∧ s.monRuns = true ∧ k = s.mon.k ∧ k < 32 ∧ bs = (u.monResult k u.mon.coef v 0).bytes ∧ s.bus.held = [] ∧ s.sys.fuseDone = true ∧ s.on F.MON_SEQ_STATUS_RUNNING = false) :=
  ⟨⟨e1, e1, e1.mon.k, v50, R50 e1 v50, by decide +kernel⟩,
   ⟨e8, e8, 0, e8.mon.k, v50, R50 e8 v50, by decide +kernel⟩,
   ⟨e9, e9, 0, e9.mon.k, v50, R50 e9 v50, by decide +kernel⟩,
   ⟨e1, e1, 0, e1.mon.k, v50, R50 e1 v50, by decide +kernel⟩,
   ⟨e2, e2, 0, e2.mon.k, big50, R50 e2 big50, by decide +kernel⟩,
   ⟨e3, e3, 2, e3.mon.k, v50, R50 e3 v50, by decide +kernel⟩,
   ⟨fa50 e1, e1, 0, e1.mon.k, v50, R50 e1 v50, by decide +kernel⟩,
   ⟨e5, e5, e5.mon.k, v50, R50 e5 v50, by decide +kernel⟩,
   ⟨e7, e7, e7.mon.k, v50, R50 e7 v50, by decide +kernel⟩,
   ⟨e1, e1, e1.mon.k, v50, R50 e1 v50, by decide +kernel⟩,
   ⟨e1, e1, e1.mon.k, P50 e1, v50, R50 e1 v50, by decide +kernel⟩,
   ⟨e5, e5, e5.mon.k, P50 e5, v50, R50 e5 v50, by decide +kernel⟩,
   ⟨e4, e4, e4.mon.k, P50 e4, v50, R50 e4 v50, by decide +kernel⟩,
   ⟨e6, e6, e6.mon.k, v50, R50 e6 v50, by decide +kernel⟩,
   ⟨e5, e5, e5.mon.k, v50, R50 e5 v50, by decide +kernel⟩,
   ⟨e1, e1, 0, e1.mon.k, v50, R50 e1 v50, by decide +kernel⟩,
   ⟨e6, e6, e6.mon.k, v50, R50 e6 v50, by decide +kernel⟩,
   ⟨e1, e1, 0, e1.mon.k, v50, R50 e1 v50, by decide +kernel⟩,
   ⟨rec50, rec50, rec50.mon.k, v50, R50 rec50 v50, by decide +kernel⟩,
   ⟨e6, e6, e6.mon.k, v50, R50 e6 v50, by decide +kernel⟩⟩

open P50 in
theorem wit_InjectionExcitationAndModeTakeEffect :
    (∃ (s : State) (k v : Nat), Awake s ∧ s.monRuns = true ∧ s.bus.held = [] ∧ s.sys.fuseDone = true ∧ v < 2 ^ 31 ∧ s.mon.injWait = false ∧ k = v % 32 ∧ s.monRetired k = false ∧ bitsOf v 8 4 ≠ 15 ∧ (s.mon.work = .idle ∨ s.mon.work = .cal ∧ s.get F.MON_CAL_STATUS_STATE = 1)) ∧
    (∃ (s : State) (j k v : Nat), Awake s ∧ s.monRuns = true ∧ s.bus.held = [] ∧ s.sys.fuseDone = true ∧ v < 2 ^ 31 ∧ s.mon.injWait = false ∧ k = v % 32 ∧ s.monRetired k = false ∧ bitsOf v 8 4 ≠ 15 ∧ s.mon.work = .entry j) ∧
    (∃ (s : State) (k v : Nat), Awake s ∧ s.monRuns = true ∧ s.bus.held = [] ∧ s.sys.fuseDone = true ∧ v < 2 ^ 31 ∧ s.mon.injWait = false ∧ k = v % 32 ∧ s.monRetired k = false ∧ bitsOf v 8 4 ≠ 15 ∧ s.mon.work = .scope) ∧
    (∃ (s : State) (k v : Nat), Awake s ∧ s.monRuns = true ∧ s.bus.held = [] ∧ s.sys.fuseDone = true ∧ v < 2 ^ 31 ∧ s.mon.injWait = false ∧ k = v % 32 ∧ s.monRetired k = false ∧ bitsOf v 8 4 ≠ 15 ∧ s.mon.work = .cal ∧ s.get F.MON_CAL_STATUS_STATE ≠ 1) ∧
    (∃ (s : State) (k v : Nat), Awake s ∧ s.monRuns = true ∧ s.bus.held = [] ∧ s.sys.fuseDone = true ∧ v < 2 ^ 31 ∧ s.mon.injWait = false ∧ s.mon.work ≠ .inj ∧ k = v % 32 ∧ k < 16 ∧ s.monRetired k = true ∧ bitsOf v 8 4 ≠ 15 ∧ s.on F.MON_STREAM_INJ_EN = false) ∧
    (∃ (s : State) (v : Nat), Awake s ∧ s.monRuns = true ∧ s.bus.held = [] ∧ s.sys.fuseDone = true ∧ v < 2 ^ 31 ∧ (s.mon.injWait = true ∨ s.mon.work = .inj)) ∧
    (∃ (s u : State) (k v : Nat) (c : MonConv) (bs : List Byte), Awake s ∧ s.monRuns = true ∧ s.bus.held = [] ∧ s.sys.fuseDone = true ∧ v < 2 ^ 31 ∧ s.mon.work = .inj ∧ s.mon.guard = false ∧ k = s.mon.k ∧ k < 32 ∧ s.atUs s.mon.since (s.mon.outs * monPeriod s.mon.odr) = some u ∧ bs = (u.monResult k u.mon.coef c 16).bytes ∧ (u.monResult k u.mon.coef c 16).ovr = false ∧ (u.monResult k u.mon.coef c 16).opn = false ∧ (u.monResult k u.mon.coef c 16).bad = false ∧ u.mon.injWait = false ∧ u.mon.scope.on = false ∧ u.get F.MON_CAL_STATUS_STATE ≠ 1 ∧ u.on F.MON_STREAM_INJ_EN = false ∧ u.on F.MON_SEQ_STATUS_RUNNING = false) ∧
    (∃ (s : State) (k v : Nat), Awake s ∧ s.monRuns = true ∧ s.bus.held = [] ∧ s.sys.fuseDone = true ∧ v < 2 ^ 31 ∧ k < 32 ∧ s.mon.work ≠ .scope) ∧
    (∃ (s : State) (v : Nat), Awake s ∧ s.monRuns = true ∧ s.bus.held = [] ∧ s.sys.fuseDone = true ∧ v < 2 ^ 31 ∧ s.mon.work ≠ .scope) ∧
    (∃ (s : State) (k v : Nat), Awake s ∧ s.monRuns = true ∧ s.bus.held = [] ∧ s.sys.fuseDone = true ∧ v < 2 ^ 31 ∧ k < 16 ∧ s.mon.work = .scope ∧ s.mon.scope.on = true ∧ s.mon.scope.input = k) ∧
    (∃ (s : State) (j k v : Nat), Awake s ∧ s.monRuns = true ∧ s.bus.held = [] ∧ s.sys.fuseDone = true ∧ v < 2 ^ 31 ∧ k < 16 ∧ (s.mon.work = .entry j ∨ s.mon.work = .inj) ∧ s.mon.k = k ∧ s.isRetired 8 k = false) ∧
    (∃ (s : State) (v : Nat), Awake s ∧ s.monRuns = true ∧ s.bus.held = [] ∧ s.sys.fuseDone = true ∧ v < 2 ^ 31 ∧ v % 4 ≠ 3 ∧ s.get F.MON_CAL_STATUS_STATE ≠ 1 ∧ s.get F.MON_CAL_STATUS_STATE ≠ 2 ∧ (v % 4 = 2 ∨ s.mon.scope.on = false)) ∧
    (∃ (s : State) (v : Nat), Awake s ∧ s.monRuns = true ∧ s.bus.held = [] ∧ s.sys.fuseDone = true ∧ v < 2 ^ 31 ∧ v % 4 ≠ 3 ∧ s.get F.MON_CAL_STATUS_STATE ≠ 1 ∧ s.get F.MON_CAL_STATUS_STATE ≠ 2 ∧ v % 4 ≠ 2 ∧ s.mon.scope.on = true) ∧
    (∃ (s : State) (v : Nat), Awake s ∧ s.monRuns = true ∧ s.bus.held = [] ∧ s.sys.fuseDone = true ∧ v < 2 ^ 31 ∧ v % 4 = 3 ∧ s.get F.MON_CAL_STATUS_STATE ≠ 1 ∧ s.get F.MON_CAL_STATUS_STATE ≠ 2 ∧ s.mon.scope.on = false) ∧
    (∃ (s : State) (v : Nat), Awake s ∧ s.monRuns = true ∧ s.bus.held = [] ∧ s.sys.fuseDone = true ∧ v < 2 ^ 31 ∧ (s.get F.MON_CAL_STATUS_STATE = 1 ∨ s.get F.MON_CAL_STATUS_STATE = 2) ∧ v % 4 ≠ 3) :=
  ⟨⟨w50 .idle, 4, 4 + 0x300, by decide +kernel⟩,
   ⟨w50 (.entry 1), 1, 5, 5 + 0x300, by decide +kernel⟩,
   ⟨sc50 (w50 .scope), 5, 5 + 0x300, by decide +kernel⟩,
   ⟨w50 .cal, 5, 5 + 0x300, by decide +kernel⟩,
   ⟨rt50 (w50 (.entry 1)) 7, 7, 7 + 0x300, by decide +kernel⟩,
   ⟨iw50 (w50 .cal), 7 + 0x300, by decide +kernel⟩,
   ⟨w50 .inj, w50 .inj, 9, 7 + 0x300, v50, I50 (w50 .inj) v50, by decide +kernel⟩,
   ⟨w50 .idle, 4, 4 + 0x300, by decide +kernel⟩,
   ⟨w50 .idle, 4 + 0x300, by decide +kernel⟩,
   ⟨sc50 (w50 .scope), 5, 5 + 0x300, by decide +kernel⟩,
   ⟨w50 (.entry 1), 1, 5, 5 + 0x300, by decide +kernel⟩,
   ⟨w50 .idle, 4 + 0x300, by decide +kernel⟩,
   ⟨sc50 (w50 .scope), 5 + 0x300, by decide +kernel⟩,
   ⟨iw50 (w50 .cal), 7 + 0x300, by decide +kernel⟩,
   ⟨(w50 .cal).put F.MON_CAL_STATUS_STATE 1, 5 + 0x300, by decide +kernel⟩⟩

namespace P52
def b52 (seed : Nat) (w : MonWork) (cal : Nat) (q : List (Nat × Nat)) : State :=
  let s := die seed .ready .leaf
  let s := [0, 2, 3, 6].foldl (fun s g => (s.put (F.MON_FACT_GAIN_GAIN g) 0x400000).put (F.MON_FACT_OFS_OFS g) 77) s
  let s := [0, 1, 2, 4, 5, 9].foldl (fun s k => (((((s.put (F.MON_IN_PWL_EN k) 0).put (F.MON_EXC_CHOP k) 0).put (F.MON_USER_GAIN_GAIN k) 0x400000).put (F.MON_USER_OFS_OFS k) 0xFFFFF0).put (F.MON_IN_OVR_STRIKE k) 0).wr (Reg.MON_EXC k) 1) s
  let s := ((((s.put F.MON_SEQ_CTRL_LEN 3).put F.MON_SEQ_CTRL_PACE 1).put F.MON_SEQ_STATUS_RUNNING 0).put F.MON_CAL_STATUS_STATE cal).put F.MON_STREAM_CAL_EN 0
  { s with mon := { s.mon with work := w, calQ := q, coef := { exc := 1, drift := 3, ofs := -5, gain := 0x400000 } } }
def vs52 (x : Int) : List MonConv := (List.range 16).map (fun (i : Nat) => { x := x + i })
def mx52 (s : State) (n : Nat) : State := (s.atUs s.mon.since (n * s.mon.outs * monPeriod s.mon.odr)).getD s
def mv52 (s : State) : State := { s with mon := { s.mon with since := 0, odr := 0, outs := 3, coef := { s.mon.coef with g := 2 } }, time := { s.time with now := 999999999, slots := 4000000 } }
def zz52 (s : State) (op k : Nat) (vs : List MonConv) : Int := let u := mx52 s 16; let m := u.sysSum vs
  if op = 2 then roundDiv m (2 ^ 23 * 16) else if op = 3 then m - u.getS (F.MON_USER_OFS_OFS k) * (2 ^ 23 * 16) else roundDiv ((vs.map (fun v => u.monCode 0 (u.monCoef 16) v)).foldl (fun a b => a + b) 0) 16
def ov52 : List MonConv := (vs52 5).take 5 ++ { x := 3, ovl := true } :: (vs52 5).drop 6
def cs52 : List MonConv := [{ x := 50 }, { x := -70 }, { x := 5000 }]
def g52 (s : State) : State := (List.range 32).foldl (fun s j => (s.put (F.MON_SEQ_EN j) 1).put (F.MON_SEQ_INPUT j) (j % 3)) ([0, 1, 2, 4, 5, 9].foldl (fun s k => s.put (F.MON_IN_GAIN k) (k * 3 % 8)) s)
def sc52 (s : State) (c : ScopeSt) (mode rep mask en : Nat) : State :=
  let s := ((((s.put F.MON_CTRL_MODE mode).put F.MON_SCOPE_REPEAT rep).put F.MON_SCOPE_MASK_EN mask).put F.MON_STREAM_SCOPE_EN en).put F.MON_SCOPE_TRIG 3
  let s := ((List.range 4).foldl (fun s i => (s.put (F.MON_ENV_UPPER i) 2000).put (F.MON_ENV_LOWER i) 60000) s).put F.MON_SCOPE_INPUT 4
  mv52 { s with mon := { s.mon with scope := c } }
def xx52 (s : State) (v : MonConv) : Int := (monLimit (s.monCode s.mon.coef.g { s.mon.coef with exc := 0 } v) v.ovl (decide (v.x < 0))).1
def uu52 (s : State) : State := (s.atUs s.mon.since (monPeriod s.mon.odr)).getD s
def po52 (s : State) : Nat := min 8192 (max 1 (s.get F.MON_SCOPE_CNT_POST))
def pe52 (s : State) : Nat := min (s.get F.MON_SCOPE_CNT_PRE) (8192 - po52 s)
def ct52 (s : State) (pre post : Nat) : State := (s.put F.MON_SCOPE_CNT_PRE pre).put F.MON_SCOPE_CNT_POST post
def c52 : ScopeSt := { on := true, begun := true, skip := 0, buf := [1, 2, 3], pre := 3, post := 2, number := 8, prev := some 7 }
def tr52 (s : State) (t d l : Nat) : State := (((s.put F.MON_SCOPE_TRIG t).put F.MON_SCOPE_DIR d).put F.MON_SCOPE_LEVEL_LEVEL l).put F.MON_SCOPE_LEVEL_DELTA 20
def fa52 (s : State) : State := { s with mon := { s.mon with since := 900000000000 } }
def fu52 (s : State) : State := { s with buf := { s.buf with units := List.replicate 100 { stream := 3, origin := 3, q := false, part := .mon, bytes := List.replicate 1024 5 } } }
end P52

open P52 in
theorem wit_CalibrationsArePendedRunAndStored :
    (∃ (s : State) (v : Nat), Awake s ∧ s.monRuns = true ∧ s.bus.held = [] ∧ s.sys.fuseDone = true ∧ v < 2 ^ 31 ∧ (s.get F.MON_CAL_STATUS_STATE = 1 ∨ s.get F.MON_CAL_STATUS_STATE = 2)) ∧
    (∃ (s : State) (v : Nat), Awake s ∧ s.monRuns = true ∧ s.bus.held = [] ∧ s.sys.fuseDone = true ∧ v < 2 ^ 31 ∧ s.get F.MON_CAL_STATUS_STATE ≠ 1 ∧ s.get F.MON_CAL_STATUS_STATE ≠ 2) ∧
    (∃ (s : State) (op k i v : Nat) (rest : List (Nat × Nat)), Awake s ∧ s.monRuns = true ∧ s.bus.held = [] ∧ s.sys.fuseDone = true ∧ v < 2 ^ 31 ∧ s.get F.MON_CAL_STATUS_STATE = 1 ∧ s.mon.work = .idle ∧ s.mon.injWait = false ∧ s.mon.calQ = (op, k) :: rest ∧ i = (if op = 1 then 30 else if op = 4 then 16 else k) ∧ (op = 2 ∨ op = 3) ∧ (16 ≤ k ∨ s.isRetired 8 k = true) ∧ s.mon.scope.on = false ∧ s.on F.MON_SEQ_STATUS_RUNNING = false) ∧
    (∃ (s : State) (op k i v : Nat) (rest : List (Nat × Nat)), Awake s ∧ s.monRuns = true ∧ s.bus.held = [] ∧ s.sys.fuseDone = true ∧ v < 2 ^ 31 ∧ s.get F.MON_CAL_STATUS_STATE = 1 ∧ s.mon.work = .idle ∧ s.mon.injWait = false ∧ s.mon.calQ = (op, k) :: rest ∧ i = (if op = 1 then 30 else if op = 4 then 16 else k) ∧ ((op ≠ 2 ∧ op ≠ 3) ∨ (k < 16 ∧ s.isRetired 8 k = false))) ∧
    (∃ (s : State) (v : Nat), Awake s ∧ s.monRuns = true ∧ s.bus.held = [] ∧ s.sys.fuseDone = true ∧ v < 2 ^ 31 ∧ (s.get F.MON_CAL_STATUS_STATE ≠ 1 ∨ s.mon.work ≠ .idle ∨ s.mon.injWait = true)) ∧
    (∃ (s : State) (op k v : Nat) (vs : List MonConv) (rest : List (Nat × Nat)), Awake s ∧ s.monRuns = true ∧ s.bus.held = [] ∧ s.sys.fuseDone = true ∧ v < 2 ^ 31 ∧ s.get F.MON_CAL_STATUS_STATE = 2 ∧ s.mon.work = .cal ∧ s.mon.calQ = (op, k) :: rest ∧ op ≠ 1 ∧ vs.length = 16 ∧ s.atUs s.mon.since (16 * s.mon.outs * monPeriod s.mon.odr) = none) ∧
    (∃ (s u : State) (op k v : Nat) (vs : List MonConv) (m z : Int) (rest : List (Nat × Nat)), Awake s ∧ s.monRuns = true ∧ s.bus.held = [] ∧ s.sys.fuseDone = true ∧ v < 2 ^ 31 ∧ s.get F.MON_CAL_STATUS_STATE = 2 ∧ s.mon.work = .cal ∧ s.mon.calQ = (op, k) :: rest ∧ op ≠ 1 ∧ vs.length = 16 ∧ s.atUs s.mon.since (16 * s.mon.outs * monPeriod s.mon.odr) = some u ∧ u.mon.injWait = false ∧ u.mon.scope.on = false ∧ u.on F.MON_SEQ_STATUS_RUNNING = false ∧ rest = [] ∧ (op = 2 ∨ op = 3) ∧ k < 16 ∧ u.isRetired 8 k = false ∧ vs.all (fun v => !(u.monResult k u.mon.coef v 0).ovr && !(u.monResult k u.mon.coef v 0).opn) = true ∧ m = u.sysSum vs ∧ op = 2 ∧ z = roundDiv m (2 ^ 23 * 16) ∧ z.natAbs ≤ 2 ^ 21 ∧ u.on F.MON_STREAM_CAL_EN = false) ∧
    (∃ (s u : State) (op k v : Nat) (vs : List MonConv) (m z : Int) (rest : List (Nat × Nat)), Awake s ∧ s.monRuns = true ∧ s.bus.held = [] ∧ s.sys.fuseDone = true ∧ v < 2 ^ 31 ∧ s.get F.MON_CAL_STATUS_STATE = 2 ∧ s.mon.work = .cal ∧ s.mon.calQ = (op, k) :: rest ∧ op ≠ 1 ∧ vs.length = 16 ∧ s.atUs s.mon.since (16 * s.mon.outs * monPeriod s.mon.odr) = some u ∧ u.mon.injWait = false ∧ u.mon.scope.on = false ∧ u.on F.MON_SEQ_STATUS_RUNNING = false ∧ rest = [] ∧ (op = 2 ∨ op = 3) ∧ k < 16 ∧ u.isRetired 8 k = false ∧ vs.all (fun v => !(u.monResult k u.mon.coef v 0).ovr && !(u.monResult k u.mon.coef v 0).opn) = true ∧ m = u.sysSum vs ∧ op = 2 ∧ z = roundDiv m (2 ^ 23 * 16) ∧ z.natAbs ≤ 2 ^ 21 ∧ u.on F.MON_STREAM_CAL_EN = true ∧ u.uplinks = u ∧ u.isRoot = true ∧ 64 ≤ u.partFree .mon) ∧
    (∃ (s u : State) (op k v : Nat) (vs : List MonConv) (m z : Int) (rest : List (Nat × Nat)), Awake s ∧ s.monRuns = true ∧ s.bus.held = [] ∧ s.sys.fuseDone = true ∧ v < 2 ^ 31 ∧ s.get F.MON_CAL_STATUS_STATE = 2 ∧ s.mon.work = .cal ∧ s.mon.calQ = (op, k) :: rest ∧ op ≠ 1 ∧ vs.length = 16 ∧ s.atUs s.mon.since (16 * s.mon.outs * monPeriod s.mon.odr) = some u ∧ u.mon.injWait = false ∧ u.mon.scope.on = false ∧ u.on F.MON_SEQ_STATUS_RUNNING = false ∧ rest = [] ∧ (op = 2 ∨ op = 3) ∧ k < 16 ∧ u.isRetired 8 k = false ∧ vs.all (fun v => !(u.monResult k u.mon.coef v 0).ovr && !(u.monResult k u.mon.coef v 0).opn) = true ∧ m = u.sysSum vs ∧ op = 2 ∧ z = roundDiv m (2 ^ 23 * 16) ∧ 2 ^ 21 < z.natAbs) ∧
    (∃ (s u : State) (op k v : Nat) (vs : List MonConv) (m z : Int) (rest : List (Nat × Nat)), Awake s ∧ s.monRuns = true ∧ s.bus.held = [] ∧ s.sys.fuseDone = true ∧ v < 2 ^ 31 ∧ s.get F.MON_CAL_STATUS_STATE = 2 ∧ s.mon.work = .cal ∧ s.mon.calQ = (op, k) :: rest ∧ op ≠ 1 ∧ vs.length = 16 ∧ s.atUs s.mon.since (16 * s.mon.outs * monPeriod s.mon.odr) = some u ∧ u.mon.injWait = false ∧ u.mon.scope.on = false ∧ u.on F.MON_SEQ_STATUS_RUNNING = false ∧ rest = [] ∧ (op = 2 ∨ op = 3) ∧ k < 16 ∧ u.isRetired 8 k = false ∧ vs.all (fun v => !(u.monResult k u.mon.coef v 0).ovr && !(u.monResult k u.mon.coef v 0).opn) = true ∧ m = u.sysSum vs ∧ op = 3 ∧ m - u.getS (F.MON_USER_OFS_OFS k) * (2 ^ 23 * 16) = z ∧ z ≠ 0 ∧ 2 ^ 21 ≤ (if 0 < z then roundDiv (u.getS F.MON_CAL_TARGET_TARGET * 2 ^ 57) z else roundDiv (-(u.getS F.MON_CAL_TARGET_TARGET * 2 ^ 57)) (-z)) ∧ (if 0 < z then roundDiv (u.getS F.MON_CAL_TARGET_TARGET * 2 ^ 57) z else roundDiv (-(u.getS F.MON_CAL_TARGET_TARGET * 2 ^ 57)) (-z)) ≤ 2 ^ 23 ∧ u.on F.MON_STREAM_CAL_EN = false) ∧
    (∃ (s u : State) (op k v : Nat) (vs : List MonConv) (m z : Int) (rest : List (Nat × Nat)), Awake s ∧ s.monRuns = true ∧ s.bus.held = [] ∧ s.sys.fuseDone = true ∧ v < 2 ^ 31 ∧ s.get F.MON_CAL_STATUS_STATE = 2 ∧ s.mon.work = .cal ∧ s.mon.calQ = (op, k) :: rest ∧ op ≠ 1 ∧ vs.length = 16 ∧ s.atUs s.mon.since (16 * s.mon.outs * monPeriod s.mon.odr) = some u ∧ u.mon.injWait = false ∧ u.mon.scope.on = false ∧ u.on F.MON_SEQ_STATUS_RUNNING = false ∧ rest = [] ∧ (op = 2 ∨ op = 3) ∧ k < 16 ∧ u.isRetired 8 k = false ∧ vs.all (fun v => !(u.monResult k u.mon.coef v 0).ovr && !(u.monResult k u.mon.coef v 0).opn) = true ∧ m = u.sysSum vs ∧ op = 3 ∧ m - u.getS (F.MON_USER_OFS_OFS k) * (2 ^ 23 * 16) = z ∧ z ≠ 0 ∧ ((if 0 < z then roundDiv (u.getS F.MON_CAL_TARGET_TARGET * 2 ^ 57) z else roundDiv (-(u.getS F.MON_CAL_TARGET_TARGET * 2 ^ 57)) (-z)) < 2 ^ 21 ∨ 2 ^ 23 < (if 0 < z then roundDiv (u.getS F.MON_CAL_TARGET_TARGET * 2 ^ 57) z else roundDiv (-(u.getS F.MON_CAL_TARGET_TARGET * 2 ^ 57)) (-z)))) ∧
    (∃ (s u : State) (op k v : Nat) (vs : List MonConv) (z : Int) (rest : List (Nat × Nat)), Awake s ∧ s.monRuns = true ∧ s.bus.held = [] ∧ s.sys.fuseDone = true ∧ v < 2 ^ 31 ∧ s.get F.MON_CAL_STATUS_STATE = 2 ∧ s.mon.work = .cal ∧ s.mon.calQ = (op, k) :: rest ∧ op ≠ 1 ∧ vs.length = 16 ∧ s.atUs s.mon.since (16 * s.mon.outs * monPeriod s.mon.odr) = some u ∧ u.mon.injWait = false ∧ u.mon.scope.on = false ∧ u.on F.MON_SEQ_STATUS_RUNNING = false ∧ rest = [] ∧ op = 4 ∧ vs.all (fun v => !(u.monResult 16 (u.monCoef 16) v 0).ovr && !(u.monResult 16 (u.monCoef 16) v 0).opn) = true ∧ u.on F.MON_STREAM_CAL_EN = false ∧ z = roundDiv ((vs.map (fun v => u.monCode 0 (u.monCoef 16) v)).foldl (fun a b => a + b) 0) 16) ∧
    (∃ (s u : State) (op k v : Nat) (vs : List MonConv) (rest : List (Nat × Nat)), Awake s ∧ s.monRuns = true ∧ s.bus.held = [] ∧ s.sys.fuseDone = true ∧ v < 2 ^ 31 ∧ s.get F.MON_CAL_STATUS_STATE = 2 ∧ s.mon.work = .cal ∧ s.mon.calQ = (op, k) :: rest ∧ op ≠ 1 ∧ vs.length = 16 ∧ s.atUs s.mon.since (16 * s.mon.outs * monPeriod s.mon.odr) = some u ∧ u.mon.injWait = false ∧ u.mon.scope.on = false ∧ u.on F.MON_SEQ_STATUS_RUNNING = false ∧ rest = [] ∧ (op = 2 ∨ op = 3) ∧ (16 ≤ k ∨ u.isRetired 8 k = true)) ∧
    (∃ (s u : State) (op k v : Nat) (vs cs ws : List MonConv) (w : MonConv) (rest : List (Nat × Nat)), Awake s ∧ s.monRuns = true ∧ s.bus.held = [] ∧ s.sys.fuseDone = true ∧ v < 2 ^ 31 ∧ s.get F.MON_CAL_STATUS_STATE = 2 ∧ s.mon.work = .cal ∧ s.mon.calQ = (op, k) :: rest ∧ op ≠ 1 ∧ vs.length = 16 ∧ s.atUs s.mon.since (16 * s.mon.outs * monPeriod s.mon.odr) = some u ∧ u.mon.injWait = false ∧ u.mon.scope.on = false ∧ u.on F.MON_SEQ_STATUS_RUNNING = false ∧ rest = [] ∧ (op = 2 ∨ op = 3) ∧ k < 16 ∧ u.isRetired 8 k = false ∧ vs = ws ++ w :: cs ∧ ws.all (fun v => !(u.monResult k u.mon.coef v 0).ovr && !(u.monResult k u.mon.coef v 0).opn) = true ∧ ((u.monResult k u.mon.coef w 0).ovr || (u.monResult k u.mon.coef w 0).opn) = true) ∧
    (∃ (s u : State) (op k v : Nat) (vs : List MonConv) (rest : List (Nat × Nat)), Awake s ∧ s.monRuns = true ∧ s.bus.held = [] ∧ s.sys.fuseDone = true ∧ v < 2 ^ 31 ∧ s.get F.MON_CAL_STATUS_STATE = 2 ∧ s.mon.work = .cal ∧ s.mon.calQ = (op, k) :: rest ∧ op ≠ 1 ∧ vs.length = 16 ∧ s.atUs s.mon.since (16 * s.mon.outs * monPeriod s.mon.odr) = some u ∧ u.mon.injWait = false ∧ u.mon.scope.on = false ∧ u.on F.MON_SEQ_STATUS_RUNNING = false ∧ rest ≠ []) ∧
    (∃ (s : State) (k v : Nat) (cs : List MonConv) (css : List (List MonConv)) (rest : List (Nat × Nat)), Awake s ∧ s.monRuns = true ∧ s.bus.held = [] ∧ s.sys.fuseDone = true ∧ v < 2 ^ 31 ∧ s.get F.MON_CAL_STATUS_STATE = 2 ∧ s.mon.work = .cal ∧ s.mon.calQ = (1, k) :: rest ∧ css.length = s.gainsInUse.length ∧ cs.length = css.length ∧ css.all (fun l => decide (l.length = 16)) = true ∧ s.atUs s.mon.since (17 * css.length * s.mon.outs * monPeriod s.mon.odr) = none) ∧
    (∃ (s u : State) (k v : Nat) (cs : List MonConv) (css : List (List MonConv)) (rest : List (Nat × Nat)), Awake s ∧ s.monRuns = true ∧ s.bus.held = [] ∧ s.sys.fuseDone = true ∧ v < 2 ^ 31 ∧ s.get F.MON_CAL_STATUS_STATE = 2 ∧ s.mon.work = .cal ∧ s.mon.calQ = (1, k) :: rest ∧ css.length = s.gainsInUse.length ∧ cs.length = css.length ∧ css.all (fun l => decide (l.length = 16)) = true ∧ s.atUs s.mon.since (17 * css.length * s.mon.outs * monPeriod s.mon.odr) = some u ∧ u.mon.injWait = false ∧ u.mon.scope.on = false ∧ u.on F.MON_SEQ_STATUS_RUNNING = false ∧ u.on F.MON_STREAM_CAL_EN = false ∧ (u.gainsInUse.zip css).all (fun e => e.2.all (fun v => !(u.monResult 30 (u.zeroCoef e.1) v 0).ovr && !(u.monResult 30 (u.zeroCoef e.1) v 0).opn)) = true) ∧
    (∃ (s : State) (v : Nat), Awake s ∧ s.monRuns = true ∧ s.bus.held = [] ∧ s.sys.fuseDone = true ∧ v < 2 ^ 31 ∧ (s.get F.MON_CAL_STATUS_STATE ≠ 2 ∨ s.mon.work ≠ .cal ∨ s.mon.calQ = [])) :=
  ⟨⟨b52 1 .idle 1 [(2, 5)], 7, by decide +kernel⟩,
   ⟨b52 1 .idle 3 [], 9 + 0x1340, by decide +kernel⟩,
   ⟨b52 1 .idle 1 [(2, 16)], 2, 16, 16, 7, (b52 1 .idle 1 [(2, 16)]).mon.calQ.drop 1, by decide +kernel⟩,
   ⟨b52 1 .idle 1 [(2, 5)], 2, 5, 5, 7, (b52 1 .idle 1 [(2, 5)]).mon.calQ.drop 1, by decide +kernel⟩,
   ⟨b52 1 .idle 3 [], 9 + 0x1340, by decide +kernel⟩,
   ⟨fa52 (b52 1 .cal 2 [(2, 5)]), 2, 5, 7, vs52 9, [], by decide +kernel⟩,
   ⟨mv52 (b52 1 .cal 2 [(2, 5)]), mx52 (mv52 (b52 1 .cal 2 [(2, 5)])) 16, 2, 5, 7, vs52 (-999), (mx52 (mv52 (b52 1 .cal 2 [(2, 5)])) 16).sysSum (vs52 (-999)), zz52 (mv52 (b52 1 .cal 2 [(2, 5)])) 2 5 (vs52 (-999)), (mv52 (b52 1 .cal 2 [(2, 5)])).mon.calQ.drop 1, by decide +kernel⟩,
   ⟨mv52 (let s := (b52 1 .cal 2 [(2, 5)]).put F.MON_STREAM_CAL_EN 1; { s with sys := { s.sys with role := .root } }), mx52 (mv52 (let s := (b52 1 .cal 2 [(2, 5)]).put F.MON_STREAM_CAL_EN 1; { s with sys := { s.sys with role := .root } })) 16, 2, 5, 7, vs52 9, (mx52 (mv52 (let s := (b52 1 .cal 2 [(2, 5)]).put F.MON_STREAM_CAL_EN 1; { s with sys := { s.sys with role := .root } })) 16).sysSum (vs52 9), zz52 (mv52 (let s := (b52 1 .cal 2 [(2, 5)]).put F.MON_STREAM_CAL_EN 1; { s with sys := { s.sys with role := .root } })) 2 5 (vs52 9), (mv52 (let s := (b52 1 .cal 2 [(2, 5)]).put F.MON_STREAM_CAL_EN 1; { s with sys := { s.sys with role := .root } })).mon.calQ.drop 1, by decide +kernel⟩,
   ⟨mv52 (b52 1 .cal 2 [(2, 5)]), mx52 (mv52 (b52 1 .cal 2 [(2, 5)])) 16, 2, 5, 7, vs52 3000000, (mx52 (mv52 (b52 1 .cal 2 [(2, 5)])) 16).sysSum (vs52 3000000), zz52 (mv52 (b52 1 .cal 2 [(2, 5)])) 2 5 (vs52 3000000), (mv52 (b52 1 .cal 2 [(2, 5)])).mon.calQ.drop 1, by decide +kernel⟩,
   ⟨mv52 ((b52 1 .cal 2 [(3, 5)]).put F.MON_CAL_TARGET_TARGET (ofSigned 16 (20000))), mx52 (mv52 ((b52 1 .cal 2 [(3, 5)]).put F.MON_CAL_TARGET_TARGET (ofSigned 16 (20000)))) 16, 3, 5, 7, vs52 3000000, (mx52 (mv52 ((b52 1 .cal 2 [(3, 5)]).put F.MON_CAL_TARGET_TARGET (ofSigned 16 (20000)))) 16).sysSum (vs52 3000000), zz52 (mv52 ((b52 1 .cal 2 [(3, 5)]).put F.MON_CAL_TARGET_TARGET (ofSigned 16 (20000)))) 3 5 (vs52 3000000), (mv52 ((b52 1 .cal 2 [(3, 5)]).put F.MON_CAL_TARGET_TARGET (ofSigned 16 (20000)))).mon.calQ.drop 1, by decide +kernel⟩,
   ⟨mv52 (b52 1 .cal 2 [(3, 5)]), mx52 (mv52 (b52 1 .cal 2 [(3, 5)])) 16, 3, 5, 7, vs52 (-999), (mx52 (mv52 (b52 1 .cal 2 [(3, 5)])) 16).sysSum (vs52 (-999)), zz52 (mv52 (b52 1 .cal 2 [(3, 5)])) 3 5 (vs52 (-999)), (mv52 (b52 1 .cal 2 [(3, 5)])).mon.calQ.drop 1, by decide +kernel⟩,
   ⟨mv52 (b52 1 .cal 2 [(4, 0)]), mx52 (mv52 (b52 1 .cal 2 [(4, 0)])) 16, 4, 0, 7, vs52 (-999), zz52 (mv52 (b52 1 .cal 2 [(4, 0)])) 4 0 (vs52 (-999)), (mv52 (b52 1 .cal 2 [(4, 0)])).mon.calQ.drop 1, by decide +kernel⟩,
   ⟨mv52 (b52 1 .cal 2 [(2, 17)]), mx52 (mv52 (b52 1 .cal 2 [(2, 17)])) 16, 2, 17, 7, vs52 (-999), (mv52 (b52 1 .cal 2 [(2, 17)])).mon.calQ.drop 1, by decide +kernel⟩,
   ⟨mv52 (b52 1 .cal 2 [(2, 5)]), mx52 (mv52 (b52 1 .cal 2 [(2, 5)])) 16, 2, 5, 7, ov52, ov52.drop 6, ov52.take 5, ov52.getD 5 { x := 0 }, (mv52 (b52 1 .cal 2 [(2, 5)])).mon.calQ.drop 1, by decide +kernel⟩,
   ⟨mv52 (b52 1 .cal 2 [(2, 5), (4, 0)]), mx52 (mv52 (b52 1 .cal 2 [(2, 5), (4, 0)])) 16, 2, 5, 7, vs52 (-999), (mv52 (b52 1 .cal 2 [(2, 5), (4, 0)])).mon.calQ.drop 1, by decide +kernel⟩,
   ⟨fa52 (g52 (b52 1 .cal 2 [(1, 0)])), 0, 7, cs52, [vs52 77, vs52 (-900), vs52 3000], [], by decide +kernel⟩,
   ⟨g52 (mv52 (b52 1 .cal 2 [(1, 0)])), mx52 (g52 (mv52 (b52 1 .cal 2 [(1, 0)]))) 51, 0, 7, cs52, [vs52 77, vs52 (-900), vs52 3000], [(1, 0)].drop 1, by decide +kernel⟩,
   ⟨b52 1 .idle 1 [(2, 5)], 7, by decide +kernel⟩⟩

open P52 in
theorem wit_ScopeCapturesItsSamples_1 :
    (∃ (s : State) (n post pre : Nat) (c : ScopeSt), Awake s ∧ s.monRuns = true ∧ s.bus.held = [] ∧ s.sys.fuseDone = true ∧ s.mon.scope = c ∧ s.get F.MON_CTRL_MODE = 2 ∧ post = min 8192 (max 1 (s.get F.MON_SCOPE_CNT_POST)) ∧ pre = min (s.get F.MON_SCOPE_CNT_PRE) (8192 - post) ∧ s.mon.work = .entry n) ∧
    (∃ (s : State) (post pre : Nat) (c : ScopeSt), Awake s ∧ s.monRuns = true ∧ s.bus.held = [] ∧ s.sys.fuseDone = true ∧ s.mon.scope = c ∧ s.get F.MON_CTRL_MODE = 2 ∧ post = min 8192 (max 1 (s.get F.MON_SCOPE_CNT_POST)) ∧ pre = min (s.get F.MON_SCOPE_CNT_PRE) (8192 - post) ∧ s.mon.work = .idle ∧ s.mon.injWait = false ∧ s.get F.MON_CAL_STATUS_STATE ≠ 1) ∧
    (∃ (s : State) (c : ScopeSt), Awake s ∧ s.monRuns = true ∧ s.bus.held = [] ∧ s.sys.fuseDone = true ∧ s.mon.scope = c ∧ s.get F.MON_CTRL_MODE ≠ 2) ∧
    (∃ (s : State) (c : ScopeSt), Awake s ∧ s.monRuns = true ∧ s.bus.held = [] ∧ s.sys.fuseDone = true ∧ s.mon.scope = c ∧ c.on = false) ∧
    (∃ (s : State) (n : Nat) (c : ScopeSt), Awake s ∧ s.monRuns = true ∧ s.bus.held = [] ∧ s.sys.fuseDone = true ∧ s.mon.scope = c ∧ c.on = true ∧ s.mon.work = .entry n) ∧
    (∃ (s : State) (c : ScopeSt), Awake s ∧ s.monRuns = true ∧ s.bus.held = [] ∧ s.sys.fuseDone = true ∧ s.mon.scope = c ∧ c.on = true ∧ s.mon.work = .scope) ∧
    (∃ (s : State) (c : ScopeSt), Awake s ∧ s.monRuns = true ∧ s.bus.held = [] ∧ s.sys.fuseDone = true ∧ s.mon.scope = c ∧ c.on = true ∧ c.begun = true ∧ c.trig = none ∧ c.pre ≤ c.buf.length ∧ 0 < s.get F.MON_SCOPE_AUTO_TMO ∧ s.get F.MON_SCOPE_AUTO_TMO ≤ c.waits) ∧
    (∃ (s : State) (c : ScopeSt), Awake s ∧ s.monRuns = true ∧ s.bus.held = [] ∧ s.sys.fuseDone = true ∧ s.mon.scope = c ∧ (c.on = false ∨ c.begun = false ∨ c.trig ≠ none ∨ c.buf.length < c.pre ∨ s.get F.MON_SCOPE_AUTO_TMO = 0 ∨ c.waits < s.get F.MON_SCOPE_AUTO_TMO)) :=
  ⟨⟨ct52 (sc52 (b52 1 (.entry 3) 0 []) {} 2 0 0 0) 500 8100, 3, po52 (ct52 (sc52 (b52 1 (.entry 3) 0 []) {} 2 0 0 0) 500 8100), pe52 (ct52 (sc52 (b52 1 (.entry 3) 0 []) {} 2 0 0 0) 500 8100), (ct52 (sc52 (b52 1 (.entry 3) 0 []) {} 2 0 0 0) 500 8100).mon.scope, by decide +kernel⟩,
   ⟨ct52 (sc52 (b52 1 .idle 0 []) {} 2 0 0 0) 500 8100, po52 (ct52 (sc52 (b52 1 .idle 0 []) {} 2 0 0 0) 500 8100), pe52 (ct52 (sc52 (b52 1 .idle 0 []) {} 2 0 0 0) 500 8100), (ct52 (sc52 (b52 1 .idle 0 []) {} 2 0 0 0) 500 8100).mon.scope, by decide +kernel⟩,
   ⟨b52 1 .idle 3 [], (b52 1 .idle 3 []).mon.scope, by decide +kernel⟩,
   ⟨b52 1 .idle 3 [], (b52 1 .idle 3 []).mon.scope, by decide +kernel⟩,
   ⟨(sc52 (b52 1 (.entry 3) 0 []) c52 1 0 0 0).put F.MON_SCOPE_AUTO_TMO 7, 3, ((sc52 (b52 1 (.entry 3) 0 []) c52 1 0 0 0).put F.MON_SCOPE_AUTO_TMO 7).mon.scope, by decide +kernel⟩,
   ⟨(sc52 (b52 1 .scope 0 []) { c52 with waits := 7 } 1 0 0 0).put F.MON_SCOPE_AUTO_TMO 7, ((sc52 (b52 1 .scope 0 []) { c52 with waits := 7 } 1 0 0 0).put F.MON_SCOPE_AUTO_TMO 7).mon.scope, by decide +kernel⟩,
   ⟨(sc52 (b52 1 .scope 0 []) { c52 with waits := 7 } 1 0 0 0).put F.MON_SCOPE_AUTO_TMO 7, ((sc52 (b52 1 .scope 0 []) { c52 with waits := 7 } 1 0 0 0).put F.MON_SCOPE_AUTO_TMO 7).mon.scope, by decide +kernel⟩,
   ⟨b52 1 .idle 3 [], (b52 1 .idle 3 []).mon.scope, by decide +kernel⟩⟩

open P52 in
theorem wit_ScopeCapturesItsSamples_2 :
    (∃ (s : State) (c : ScopeSt), Awake s ∧ s.monRuns = true ∧ s.bus.held = [] ∧ s.sys.fuseDone = true ∧ s.mon.scope = c ∧ (s.mon.work ≠ .scope ∨ c.begun = false ∨ s.mon.guard = true)) ∧
    (∃ (s : State) (c : ScopeSt), Awake s ∧ s.monRuns = true ∧ s.bus.held = [] ∧ s.sys.fuseDone = true ∧ s.mon.scope = c ∧ c.on = true ∧ c.begun = true ∧ s.mon.work = .scope ∧ s.mon.guard = false ∧ s.atUs s.mon.since (monPeriod s.mon.odr) = none) ∧
    (∃ (s u : State) (c : ScopeSt), Awake s ∧ s.monRuns = true ∧ s.bus.held = [] ∧ s.sys.fuseDone = true ∧ s.mon.scope = c ∧ c.on = true ∧ c.begun = true ∧ s.mon.work = .scope ∧ s.mon.guard = false ∧ s.atUs s.mon.since (monPeriod s.mon.odr) = some u ∧ u.mon.scope = c ∧ 0 < c.skip) ∧
    (∃ (s u : State) (v : MonConv) (x : Int) (c : ScopeSt), Awake s ∧ s.monRuns = true ∧ s.bus.held = [] ∧ s.sys.fuseDone = true ∧ s.mon.scope = c ∧ c.on = true ∧ c.begun = true ∧ s.mon.work = .scope ∧ s.mon.guard = false ∧ s.atUs s.mon.since (monPeriod s.mon.odr) = some u ∧ u.mon.scope = c ∧ c.skip = 0 ∧ x = (monLimit (u.monCode u.mon.coef.g { u.mon.coef with exc := 0 } v) v.ovl (decide (v.x < 0))).1 ∧ c.force = true) ∧
    (∃ (s u : State) (v : MonConv) (x : Int) (c : ScopeSt), Awake s ∧ s.monRuns = true ∧ s.bus.held = [] ∧ s.sys.fuseDone = true ∧ s.mon.scope = c ∧ c.on = true ∧ c.begun = true ∧ s.mon.work = .scope ∧ s.mon.guard = false ∧ s.atUs s.mon.since (monPeriod s.mon.odr) = some u ∧ u.mon.scope = c ∧ c.skip = 0 ∧ x = (monLimit (u.monCode u.mon.coef.g { u.mon.coef with exc := 0 } v) v.ovl (decide (v.x < 0))).1 ∧ c.autoDue = true) ∧
    (∃ (s u : State) (v : MonConv) (x y : Int) (c : ScopeSt), Awake s ∧ s.monRuns = true ∧ s.bus.held = [] ∧ s.sys.fuseDone = true ∧ s.mon.scope = c ∧ c.on = true ∧ c.begun = true ∧ s.mon.work = .scope ∧ s.mon.guard = false ∧ s.atUs s.mon.since (monPeriod s.mon.odr) = some u ∧ u.mon.scope = c ∧ c.skip = 0 ∧ x = (monLimit (u.monCode u.mon.coef.g { u.mon.coef with exc := 0 } v) v.ovl (decide (v.x < 0))).1 ∧ c.force = false ∧ c.autoDue = false ∧ c.prev = some y ∧ u.get F.MON_SCOPE_TRIG = 0 ∧ u.on F.MON_SCOPE_DIR = false) ∧
    (∃ (s u : State) (v : MonConv) (x y : Int) (c : ScopeSt), Awake s ∧ s.monRuns = true ∧ s.bus.held = [] ∧ s.sys.fuseDone = true ∧ s.mon.scope = c ∧ c.on = true ∧ c.begun = true ∧ s.mon.work = .scope ∧ s.mon.guard = false ∧ s.atUs s.mon.since (monPeriod s.mon.odr) = some u ∧ u.mon.scope = c ∧ c.skip = 0 ∧ x = (monLimit (u.monCode u.mon.coef.g { u.mon.coef with exc := 0 } v) v.ovl (decide (v.x < 0))).1 ∧ c.force = false ∧ c.autoDue = false ∧ c.prev = some y ∧ u.get F.MON_SCOPE_TRIG = 0 ∧ u.on F.MON_SCOPE_DIR = true) ∧
    (∃ (s u : State) (v : MonConv) (x y : Int) (c : ScopeSt), Awake s ∧ s.monRuns = true ∧ s.bus.held = [] ∧ s.sys.fuseDone = true ∧ s.mon.scope = c ∧ c.on = true ∧ c.begun = true ∧ s.mon.work = .scope ∧ s.mon.guard = false ∧ s.atUs s.mon.since (monPeriod s.mon.odr) = some u ∧ u.mon.scope = c ∧ c.skip = 0 ∧ x = (monLimit (u.monCode u.mon.coef.g { u.mon.coef with exc := 0 } v) v.ovl (decide (v.x < 0))).1 ∧ c.force = false ∧ c.autoDue = false ∧ c.prev = some y ∧ u.get F.MON_SCOPE_TRIG = 1 ∧ u.on F.MON_SCOPE_DIR = false) :=
  ⟨⟨b52 1 .idle 3 [], (b52 1 .idle 3 []).mon.scope, by decide +kernel⟩,
   ⟨fa52 (sc52 (b52 1 .scope 0 []) c52 1 0 0 0), c52, by decide +kernel⟩,
   ⟨sc52 (b52 1 .scope 0 []) { c52 with skip := 2 } 1 0 0 0, uu52 (sc52 (b52 1 .scope 0 []) { c52 with skip := 2 } 1 0 0 0), (sc52 (b52 1 .scope 0 []) { c52 with skip := 2 } 1 0 0 0).mon.scope, by decide +kernel⟩,
   ⟨sc52 (b52 1 .scope 0 []) { c52 with force := true } 1 0 0 0, uu52 (sc52 (b52 1 .scope 0 []) { c52 with force := true } 1 0 0 0), { x := 50 }, xx52 (uu52 (sc52 (b52 1 .scope 0 []) { c52 with force := true } 1 0 0 0)) { x := 50 }, (sc52 (b52 1 .scope 0 []) { c52 with force := true } 1 0 0 0).mon.scope, by decide +kernel⟩,
   ⟨sc52 (b52 1 .scope 0 []) { c52 with autoDue := true } 1 0 0 0, uu52 (sc52 (b52 1 .scope 0 []) { c52 with autoDue := true } 1 0 0 0), { x := 50 }, xx52 (uu52 (sc52 (b52 1 .scope 0 []) { c52 with autoDue := true } 1 0 0 0)) { x := 50 }, (sc52 (b52 1 .scope 0 []) { c52 with autoDue := true } 1 0 0 0).mon.scope, by decide +kernel⟩,
   ⟨tr52 (sc52 (b52 1 .scope 0 []) { c52 with cal := false } 1 0 0 0) 0 0 40, uu52 (tr52 (sc52 (b52 1 .scope 0 []) { c52 with cal := false } 1 0 0 0) 0 0 40), { x := -30000 }, xx52 (uu52 (tr52 (sc52 (b52 1 .scope 0 []) { c52 with cal := false } 1 0 0 0) 0 0 40)) { x := -30000 }, (tr52 (sc52 (b52 1 .scope 0 []) { c52 with cal := false } 1 0 0 0) 0 0 40).mon.scope.prev.getD 0, (tr52 (sc52 (b52 1 .scope 0 []) { c52 with cal := false } 1 0 0 0) 0 0 40).mon.scope, by decide +kernel⟩,
   ⟨tr52 (sc52 (b52 1 .scope 0 []) { c52 with cal := true } 1 0 0 0) 0 1 40, uu52 (tr52 (sc52 (b52 1 .scope 0 []) { c52 with cal := true } 1 0 0 0) 0 1 40), { x := -30000 }, xx52 (uu52 (tr52 (sc52 (b52 1 .scope 0 []) { c52 with cal := true } 1 0 0 0) 0 1 40)) { x := -30000 }, (tr52 (sc52 (b52 1 .scope 0 []) { c52 with cal := true } 1 0 0 0) 0 1 40).mon.scope.prev.getD 0, (tr52 (sc52 (b52 1 .scope 0 []) { c52 with cal := true } 1 0 0 0) 0 1 40).mon.scope, by decide +kernel⟩,
   ⟨tr52 (sc52 (b52 1 .scope 0 []) { c52 with cal := false } 1 0 0 0) 1 0 40, uu52 (tr52 (sc52 (b52 1 .scope 0 []) { c52 with cal := false } 1 0 0 0) 1 0 40), { x := -30000 }, xx52 (uu52 (tr52 (sc52 (b52 1 .scope 0 []) { c52 with cal := false } 1 0 0 0) 1 0 40)) { x := -30000 }, (tr52 (sc52 (b52 1 .scope 0 []) { c52 with cal := false } 1 0 0 0) 1 0 40).mon.scope.prev.getD 0, (tr52 (sc52 (b52 1 .scope 0 []) { c52 with cal := false } 1 0 0 0) 1 0 40).mon.scope, by decide +kernel⟩⟩

open P52 in
theorem wit_ScopeCapturesItsSamples_3 :
    (∃ (s u : State) (v : MonConv) (x y : Int) (c : ScopeSt), Awake s ∧ s.monRuns = true ∧ s.bus.held = [] ∧ s.sys.fuseDone = true ∧ s.mon.scope = c ∧ c.on = true ∧ c.begun = true ∧ s.mon.work = .scope ∧ s.mon.guard = false ∧ s.atUs s.mon.since (monPeriod s.mon.odr) = some u ∧ u.mon.scope = c ∧ c.skip = 0 ∧ x = (monLimit (u.monCode u.mon.coef.g { u.mon.coef with exc := 0 } v) v.ovl (decide (v.x < 0))).1 ∧ c.force = false ∧ c.autoDue = false ∧ c.prev = some y ∧ u.get F.MON_SCOPE_TRIG = 1 ∧ u.on F.MON_SCOPE_DIR = true) ∧
    (∃ (s u : State) (v : MonConv) (x y : Int) (c : ScopeSt), Awake s ∧ s.monRuns = true ∧ s.bus.held = [] ∧ s.sys.fuseDone = true ∧ s.mon.scope = c ∧ c.on = true ∧ c.begun = true ∧ s.mon.work = .scope ∧ s.mon.guard = false ∧ s.atUs s.mon.since (monPeriod s.mon.odr) = some u ∧ u.mon.scope = c ∧ c.skip = 0 ∧ x = (monLimit (u.monCode u.mon.coef.g { u.mon.coef with exc := 0 } v) v.ovl (decide (v.x < 0))).1 ∧ c.force = false ∧ c.autoDue = false ∧ c.prev = some y ∧ u.get F.MON_SCOPE_TRIG = 2) ∧
    (∃ (s u : State) (v : MonConv) (x y : Int) (c : ScopeSt), Awake s ∧ s.monRuns = true ∧ s.bus.held = [] ∧ s.sys.fuseDone = true ∧ s.mon.scope = c ∧ c.on = true ∧ c.begun = true ∧ s.mon.work = .scope ∧ s.mon.guard = false ∧ s.atUs s.mon.since (monPeriod s.mon.odr) = some u ∧ u.mon.scope = c ∧ c.skip = 0 ∧ x = (monLimit (u.monCode u.mon.coef.g { u.mon.coef with exc := 0 } v) v.ovl (decide (v.x < 0))).1 ∧ c.force = false ∧ c.autoDue = false ∧ c.prev = some y ∧ u.get F.MON_SCOPE_TRIG = 3) ∧
    (∃ (s u : State) (v : MonConv) (x : Int) (c : ScopeSt), Awake s ∧ s.monRuns = true ∧ s.bus.held = [] ∧ s.sys.fuseDone = true ∧ s.mon.scope = c ∧ c.on = true ∧ c.begun = true ∧ s.mon.work = .scope ∧ s.mon.guard = false ∧ s.atUs s.mon.since (monPeriod s.mon.odr) = some u ∧ u.mon.scope = c ∧ c.skip = 0 ∧ x = (monLimit (u.monCode u.mon.coef.g { u.mon.coef with exc := 0 } v) v.ovl (decide (v.x < 0))).1 ∧ c.trig = none ∧ c.buf.length < c.pre) ∧
    (∃ (s u : State) (v : MonConv) (x : Int) (c : ScopeSt), Awake s ∧ s.monRuns = true ∧ s.bus.held = [] ∧ s.sys.fuseDone = true ∧ s.mon.scope = c ∧ c.on = true ∧ c.begun = true ∧ s.mon.work = .scope ∧ s.mon.guard = false ∧ s.atUs s.mon.since (monPeriod s.mon.odr) = some u ∧ u.mon.scope = c ∧ c.skip = 0 ∧ x = (monLimit (u.monCode u.mon.coef.g { u.mon.coef with exc := 0 } v) v.ovl (decide (v.x < 0))).1 ∧ c.trig = none ∧ c.pre ≤ c.buf.length ∧ u.scopeTrig x = false) ∧
    (∃ (s u : State) (v : MonConv) (x : Int) (c : ScopeSt), Awake s ∧ s.monRuns = true ∧ s.bus.held = [] ∧ s.sys.fuseDone = true ∧ s.mon.scope = c ∧ c.on = true ∧ c.begun = true ∧ s.mon.work = .scope ∧ s.mon.guard = false ∧ s.atUs s.mon.since (monPeriod s.mon.odr) = some u ∧ u.mon.scope = c ∧ c.skip = 0 ∧ x = (monLimit (u.monCode u.mon.coef.g { u.mon.coef with exc := 0 } v) v.ovl (decide (v.x < 0))).1 ∧ c.trig = none ∧ c.pre ≤ c.buf.length ∧ u.scopeTrig x = true ∧ u.scopeOutside c.buf.length x = false ∧ c.buf.length + 1 < c.pre + c.post) ∧
    (∃ (s u : State) (n : Nat) (v : MonConv) (x : Int) (c : ScopeSt), Awake s ∧ s.monRuns = true ∧ s.bus.held = [] ∧ s.sys.fuseDone = true ∧ s.mon.scope = c ∧ c.on = true ∧ c.begun = true ∧ s.mon.work = .scope ∧ s.mon.guard = false ∧ s.atUs s.mon.since (monPeriod s.mon.odr) = some u ∧ u.mon.scope = c ∧ c.skip = 0 ∧ x = (monLimit (u.monCode u.mon.coef.g { u.mon.coef with exc := 0 } v) v.ovl (decide (v.x < 0))).1 ∧ c.trig = some n ∧ u.scopeOutside c.buf.length x = false ∧ c.buf.length + 1 < c.pre + c.post) ∧
    (∃ (s u : State) (n : Nat) (v : MonConv) (x : Int) (c : ScopeSt), Awake s ∧ s.monRuns = true ∧ s.bus.held = [] ∧ s.sys.fuseDone = true ∧ s.mon.scope = c ∧ c.on = true ∧ c.begun = true ∧ s.mon.work = .scope ∧ s.mon.guard = false ∧ s.atUs s.mon.since (monPeriod s.mon.odr) = some u ∧ u.mon.scope = c ∧ c.skip = 0 ∧ x = (monLimit (u.monCode u.mon.coef.g { u.mon.coef with exc := 0 } v) v.ovl (decide (v.x < 0))).1 ∧ c.trig = some n ∧ u.scopeOutside c.buf.length x = false ∧ c.pre + c.post ≤ c.buf.length + 1 ∧ u.on F.MON_SEQ_STATUS_RUNNING = false ∧ u.mon.injWait = false) :=
  ⟨⟨tr52 (sc52 (b52 1 .scope 0 []) { c52 with cal := true } 1 0 0 0) 1 1 40, uu52 (tr52 (sc52 (b52 1 .scope 0 []) { c52 with cal := true } 1 0 0 0) 1 1 40), { x := -30000 }, xx52 (uu52 (tr52 (sc52 (b52 1 .scope 0 []) { c52 with cal := true } 1 0 0 0) 1 1 40)) { x := -30000 }, (tr52 (sc52 (b52 1 .scope 0 []) { c52 with cal := true } 1 0 0 0) 1 1 40).mon.scope.prev.getD 0, (tr52 (sc52 (b52 1 .scope 0 []) { c52 with cal := true } 1 0 0 0) 1 1 40).mon.scope, by decide +kernel⟩,
   ⟨tr52 (sc52 (b52 1 .scope 0 []) { c52 with cal := false } 1 0 0 0) 2 0 40, uu52 (tr52 (sc52 (b52 1 .scope 0 []) { c52 with cal := false } 1 0 0 0) 2 0 40), { x := -30000 }, xx52 (uu52 (tr52 (sc52 (b52 1 .scope 0 []) { c52 with cal := false } 1 0 0 0) 2 0 40)) { x := -30000 }, (tr52 (sc52 (b52 1 .scope 0 []) { c52 with cal := false } 1 0 0 0) 2 0 40).mon.scope.prev.getD 0, (tr52 (sc52 (b52 1 .scope 0 []) { c52 with cal := false } 1 0 0 0) 2 0 40).mon.scope, by decide +kernel⟩,
   ⟨(sc52 (b52 1 .scope 0 []) { c52 with waits := 7 } 1 0 0 0).put F.MON_SCOPE_AUTO_TMO 7, uu52 ((sc52 (b52 1 .scope 0 []) { c52 with waits := 7 } 1 0 0 0).put F.MON_SCOPE_AUTO_TMO 7), { x := 5000 }, xx52 (uu52 ((sc52 (b52 1 .scope 0 []) { c52 with waits := 7 } 1 0 0 0).put F.MON_SCOPE_AUTO_TMO 7)) { x := 5000 }, ((sc52 (b52 1 .scope 0 []) { c52 with waits := 7 } 1 0 0 0).put F.MON_SCOPE_AUTO_TMO 7).mon.scope.prev.getD 0, ((sc52 (b52 1 .scope 0 []) { c52 with waits := 7 } 1 0 0 0).put F.MON_SCOPE_AUTO_TMO 7).mon.scope, by decide +kernel⟩,
   ⟨sc52 (b52 1 .scope 0 []) { c52 with pre := 4 } 1 0 0 0, uu52 (sc52 (b52 1 .scope 0 []) { c52 with pre := 4 } 1 0 0 0), { x := 5000 }, xx52 (uu52 (sc52 (b52 1 .scope 0 []) { c52 with pre := 4 } 1 0 0 0)) { x := 5000 }, (sc52 (b52 1 .scope 0 []) { c52 with pre := 4 } 1 0 0 0).mon.scope, by decide +kernel⟩,
   ⟨(sc52 (b52 1 .scope 0 []) { c52 with waits := 7 } 1 0 0 0).put F.MON_SCOPE_AUTO_TMO 7, uu52 ((sc52 (b52 1 .scope 0 []) { c52 with waits := 7 } 1 0 0 0).put F.MON_SCOPE_AUTO_TMO 7), { x := 5000 }, xx52 (uu52 ((sc52 (b52 1 .scope 0 []) { c52 with waits := 7 } 1 0 0 0).put F.MON_SCOPE_AUTO_TMO 7)) { x := 5000 }, ((sc52 (b52 1 .scope 0 []) { c52 with waits := 7 } 1 0 0 0).put F.MON_SCOPE_AUTO_TMO 7).mon.scope, by decide +kernel⟩,
   ⟨sc52 (b52 1 .scope 0 []) { c52 with force := true } 1 0 0 0, uu52 (sc52 (b52 1 .scope 0 []) { c52 with force := true } 1 0 0 0), { x := 50 }, xx52 (uu52 (sc52 (b52 1 .scope 0 []) { c52 with force := true } 1 0 0 0)) { x := 50 }, (sc52 (b52 1 .scope 0 []) { c52 with force := true } 1 0 0 0).mon.scope, by decide +kernel⟩,
   ⟨sc52 (b52 1 .scope 0 []) { c52 with trig := some 3 } 1 0 0 0, uu52 (sc52 (b52 1 .scope 0 []) { c52 with trig := some 3 } 1 0 0 0), 3, { x := 50 }, xx52 (uu52 (sc52 (b52 1 .scope 0 []) { c52 with trig := some 3 } 1 0 0 0)) { x := 50 }, (sc52 (b52 1 .scope 0 []) { c52 with trig := some 3 } 1 0 0 0).mon.scope, by decide +kernel⟩,
   ⟨sc52 (b52 1 .scope 0 []) { c52 with trig := some 3, pre := 2 } 1 0 0 0, uu52 (sc52 (b52 1 .scope 0 []) { c52 with trig := some 3, pre := 2 } 1 0 0 0), 3, { x := 50 }, xx52 (uu52 (sc52 (b52 1 .scope 0 []) { c52 with trig := some 3, pre := 2 } 1 0 0 0)) { x := 50 }, (sc52 (b52 1 .scope 0 []) { c52 with trig := some 3, pre := 2 } 1 0 0 0).mon.scope, by decide +kernel⟩⟩

open P52 in
theorem wit_ScopeCapturesItsSamples_4 :
    (∃ (s u : State) (n : Nat) (v : MonConv) (x : Int) (c : ScopeSt), Awake s ∧ s.monRuns = true ∧ s.bus.held = [] ∧ s.sys.fuseDone = true ∧ s.mon.scope = c ∧ c.on = true ∧ c.begun = true ∧ s.mon.work = .scope ∧ s.mon.guard = false ∧ s.atUs s.mon.since (monPeriod s.mon.odr) = some u ∧ u.mon.scope = c ∧ c.skip = 0 ∧ x = (monLimit (u.monCode u.mon.coef.g { u.mon.coef with exc := 0 } v) v.ovl (decide (v.x < 0))).1 ∧ c.trig = some n ∧ u.scopeOutside c.buf.length x = true ∧ c.buf.length < 8192) ∧
    (∃ (s : State) (n : Nat) (c : ScopeSt) (rest : List Nat), Awake s ∧ s.monRuns = true ∧ s.bus.held = [] ∧ s.sys.fuseDone = true ∧ s.mon.scope = c ∧ c.parts = n :: rest ∧ partCost .mon (24 + 2 * min 1024 (c.buf.length - n)) ≤ s.partFree .mon ∧ s.uplinks = s) ∧
    (∃ (s : State) (n : Nat) (c : ScopeSt) (rest : List Nat), Awake s ∧ s.monRuns = true ∧ s.bus.held = [] ∧ s.sys.fuseDone = true ∧ s.mon.scope = c ∧ c.parts = n :: rest ∧ s.partFree .mon < partCost .mon (24 + 2 * min 1024 (c.buf.length - n))) ∧
    (∃ (s : State) (c : ScopeSt), Awake s ∧ s.monRuns = true ∧ s.bus.held = [] ∧ s.sys.fuseDone = true ∧ s.mon.scope = c ∧ c.parts = []) ∧
    (∃ (s : State) (n : Nat) (c : ScopeSt), Awake s ∧ s.monRuns = true ∧ s.bus.held = [] ∧ s.sys.fuseDone = true ∧ s.mon.scope = c ∧ s.on F.MON_SCOPE_REPEAT = true ∧ c.on = false ∧ c.shown = true ∧ c.stop = false ∧ c.parts = [] ∧ s.get F.MON_CTRL_MODE = 2 ∧ s.mon.work = .entry n) ∧
    (∃ (s : State) (c : ScopeSt), Awake s ∧ s.monRuns = true ∧ s.bus.held = [] ∧ s.sys.fuseDone = true ∧ s.mon.scope = c ∧ (s.on F.MON_SCOPE_REPEAT = false ∨ c.on = true ∨ c.shown = false ∨ c.stop = true ∨ c.parts ≠ [])) :=
  ⟨⟨sc52 (b52 1 .scope 0 []) { c52 with trig := some 3 } 1 0 1 0, uu52 (sc52 (b52 1 .scope 0 []) { c52 with trig := some 3 } 1 0 1 0), 3, { x := 600000 }, xx52 (uu52 (sc52 (b52 1 .scope 0 []) { c52 with trig := some 3 } 1 0 1 0)) { x := 600000 }, (sc52 (b52 1 .scope 0 []) { c52 with trig := some 3 } 1 0 1 0).mon.scope, by decide +kernel⟩,
   ⟨sc52 (b52 1 .idle 0 []) { c52 with on := false, trig := some 3, pre := 2, parts := [0], viol := some (3, 5) } 1 0 1 0, 0, (sc52 (b52 1 .idle 0 []) { c52 with on := false, trig := some 3, pre := 2, parts := [0], viol := some (3, 5) } 1 0 1 0).mon.scope, (sc52 (b52 1 .idle 0 []) { c52 with on := false, trig := some 3, pre := 2, parts := [0], viol := some (3, 5) } 1 0 1 0).mon.scope.parts.drop 1, by decide +kernel⟩,
   ⟨fu52 (sc52 (b52 1 .idle 0 []) { c52 with on := false, parts := [0] } 1 0 0 0), 0, { c52 with on := false, parts := [0] }, [], by decide +kernel⟩,
   ⟨b52 1 .idle 3 [], (b52 1 .idle 3 []).mon.scope, by decide +kernel⟩,
   ⟨ct52 (sc52 (b52 1 (.entry 3) 0 []) { shown := true, number := 5 } 2 1 0 0) 500 9000, 3, (ct52 (sc52 (b52 1 (.entry 3) 0 []) { shown := true, number := 5 } 2 1 0 0) 500 9000).mon.scope, by decide +kernel⟩,
   ⟨b52 1 .idle 3 [], (b52 1 .idle 3 []).mon.scope, by decide +kernel⟩⟩

end Sys2Proof.Tests
end

section
/-! Bytes, signed fields and the nugget's layout (R4, R144). -/

namespace Sys2Proof

/-- A field is narrower than its width allows. -/
theorem bitsOf_lt (v lo w : Nat) : bitsOf v lo w < 2 ^ w := Nat.mod_lt _ (by positivity)

/-- A two's-complement word fits its width. -/
theorem ofSigned_lt (w : Nat) (z : Int) : ofSigned w z < 2 ^ w := by
  have h : (0 : Int) < ((2 ^ w : Nat) : Int) := by positivity
  have hlt := Int.emod_lt_of_pos z h
  have hnn := Int.emod_nonneg z h.ne'
  unfold ofSigned
  omega

/-- A number within the range of `w + 1` bits is read back from its two's complement. -/
theorem toSigned_ofSigned (w : Nat) (z : Int) (hlo : -(2 ^ w : Nat) ≤ z) (hhi : z < (2 ^ w : Nat)) :
    toSigned (w + 1) (ofSigned (w + 1) z) = z := by
  have hpow : 2 ^ (w + 1) = 2 ^ w + 2 ^ w := by rw [pow_succ]; ring
  have hlt := ofSigned_lt (w + 1) z
  simp only [toSigned, Nat.mod_eq_of_lt hlt, Nat.add_sub_cancel]
  by_cases hz : 0 ≤ z
  · have hm : z % ((2 ^ (w + 1) : Nat) : Int) = z := Int.emod_eq_of_lt hz (by omega)
    simp only [ofSigned, hm]
    split <;> omega
  · have hm : z % ((2 ^ (w + 1) : Nat) : Int) = z + (2 ^ (w + 1) : Nat) := by
      rw [← Int.add_emod_right]
      exact Int.emod_eq_of_lt (by omega) (by omega)
    simp only [ofSigned, hm]
    split <;> omega

end Sys2Proof

namespace Sys2Proof.Machine

/-- Bytes are as many as asked for. -/
theorem length_leBytes (n v : Nat) : (leBytes n v).length = n := by
  induction n generalizing v with
  | zero => rfl
  | succ n ih => simp [leBytes, ih]

/-- Little-endian bytes spell the number's low bytes (R4). -/
theorem ofLE_leBytes (n v : Nat) : ofLE (leBytes n v) = v % 256 ^ n := by
  induction n generalizing v with
  | zero => simp [leBytes, ofLE, Nat.mod_one]
  | succ n ih =>
    calc ofLE (leBytes (n + 1) v) = v % 256 + 256 * (v / 256 % 256 ^ n) := by simp [leBytes, ofLE, ih]
      _ = v % 256 ^ (n + 1) := by rw [pow_succ', Nat.mod_mul]

/-- Four numbers packed as R144 packs a nugget, each within its field, are found at their fields. -/
theorem nuggetFields_bitsOf {a r f t : Nat} (ha : a < 2 ^ 14) (hr : r < 2 ^ 4) (hf : f < 2 ^ 16) (ht : t < 2 ^ 12) :
    a * 2 ^ 34 + r * 2 ^ 30 + f * 2 ^ 14 + t * 2 ^ 2 < 2 ^ 48 ∧
    bitsOf (a * 2 ^ 34 + r * 2 ^ 30 + f * 2 ^ 14 + t * 2 ^ 2) 34 14 = a ∧
    bitsOf (a * 2 ^ 34 + r * 2 ^ 30 + f * 2 ^ 14 + t * 2 ^ 2) 30 4 = r ∧
    bitsOf (a * 2 ^ 34 + r * 2 ^ 30 + f * 2 ^ 14 + t * 2 ^ 2) 14 16 = f ∧
    bitsOf (a * 2 ^ 34 + r * 2 ^ 30 + f * 2 ^ 14 + t * 2 ^ 2) 2 12 = t := by
  unfold bitsOf
  omega

/-- Settles O8: the bytes by induction on their number, the nugget by its four fields. -/
theorem bytesAndNuggetsReadBack : Obligations.BytesAndNuggetsReadBack := by
  intro n v tile len trig data htile
  have hchan : tile * 64 + bitsOf data 28 6 < 2 ^ 14 := by
    have := bitsOf_lt data 28 6
    omega
  obtain ⟨hlt, htc, hrel, hfine, htot⟩ := nuggetFields_bitsOf hchan (ofSigned_lt 4 (relSlot len (bitsOf data 34 14) trig))
    (bitsOf_lt data 12 16) (bitsOf_lt data 0 12)
  refine ⟨⟨length_leBytes n v, ofLE_leBytes n v⟩, fun hlo hhi => ?_, hlt, htc, hfine, htot⟩
  calc toSigned 4 (bitsOf (nuggetOf tile len trig data) 30 4)
      = toSigned 4 (ofSigned 4 (relSlot len (bitsOf data 34 14) trig)) := congrArg (toSigned 4) hrel
    _ = relSlot len (bitsOf data 34 14) trig := toSigned_ofSigned 3 _ (by simpa using hlo) (by omega)

end Sys2Proof.Machine
end

section
/-! The reset commands (R11, R12, R23, R443, R444, R466): what a reset clears and keeps, and what its release sets. -/

namespace Sys2Proof.Machine

/-- Of a memory reduced to one key, that key reads as before and every other as unlisted. -/
theorem sget_filter_key {α : Type} (d : α) (m : List (Nat × α)) (k a : Nat) :
    sget d (m.filter (fun p => decide (p.1 = k))) a = if a = k then sget d m a else d := by
  induction m with
  | nil => simp [sget]
  | cons p m ih =>
    obtain ⟨j, v⟩ := p
    by_cases hj : j = k
    · subst hj
      by_cases ha : j = a
      · simp [sget, ha]
      · have ha' : a ≠ j := fun e => ha e.symm
        simpa [sget, ha, ha'] using ih
    · by_cases ha : a = k
      · subst ha
        simpa [sget, hj] using ih
      · simpa [sget, hj, ha] using ih

/-- A power-on clears every register. -/
theorem State.rd_cleared_powerOn (s : State) (a : Nat) : (s.cleared true).rd a = (resetWord a).toNat := rfl

/-- Another reset clears every register but the log's position (R466). -/
theorem State.rd_cleared_warm (s : State) (a : Nat) :
    (s.cleared false).rd a = if a = Reg.FAULT_LOG_NEXT then s.rd a else (resetWord a).toNat := by
  simp only [State.rd, State.cleared, Bool.false_eq_true, if_false, sget_filter_key]
  split <;> rfl

/-- A reset that is no power-on, whatever it records of its source: the registers, the fault log and what is held outside the die's
logic stand as R443 and R466 say. -/
theorem State.cleared_warm_frame (s : State) (y : SysSt) :
    (∀ a, a ≠ Reg.FAULT_LOG_NEXT → ({ s.cleared false with sys := y }).rd a = (resetWord a).toNat) ∧
    ({ s.cleared false with sys := y }).rd Reg.FAULT_LOG_NEXT = s.rd Reg.FAULT_LOG_NEXT ∧
    (s.cleared false).fault.log = s.fault.log ∧ (s.cleared false).vault = {} ∧ (s.cleared false).time = {} ∧
    (s.cleared false).ports = [] ∧ (s.cleared false).buf = {} ∧ (s.cleared false).tap = s.tap ∧
    (s.cleared false).fuse = s.fuse ∧ (s.cleared false).pending = s.pending := by
  refine ⟨fun a ha => ?_, ?_, rfl, rfl, rfl, rfl, rfl, rfl, rfl, rfl⟩
  · exact (s.rd_cleared_warm a).trans (if_neg ha)
  · exact (s.rd_cleared_warm _).trans (if_pos rfl)

/-- A claim that power interrupts leaves the TAP, the boot fuses and the queue alone (R397). -/
theorem State.claimInterrupted_frame (s : State) : s.claimInterrupted.tap = s.tap ∧
    s.claimInterrupted.fuse.boots = s.fuse.boots ∧ s.claimInterrupted.pending = s.pending := by
  unfold State.claimInterrupted
  repeat' split
  all_goals exact ⟨rfl, rfl, rfl⟩

/-- What POWER_ON_RESET does. -/
theorem exec_powerOnReset (s : State) : exec .powerOnReset s = .next (powerOnReset s) := by
  obtain ⟨-, -, hpend⟩ := s.claimInterrupted_frame
  exact finishReset_eq hpend

/-- Out of RESET, RST_N clears all but the fault log and records its source (R443). -/
theorem exec_rstNAssert (s : State) (h : s.sys.run ≠ .reset) : exec .rstNAssert s =
    .next { s.cleared false with sys := { (s.cleared false).sys with rstSeen := true } } := by
  show finishReset s (rstNAssert s) = _
  simp only [rstNAssert, h, if_false]
  exact finishReset_eq rfl

/-- Out of RESET, PERST_N clears all but the fault log of a root and records its source (R443). -/
theorem exec_perstNAssert_root (s : State) (straps : Nat) (h : s.sys.run ≠ .reset) (hr : s.sys.role = .root) :
    exec (.perstNAssert straps) s =
      .next { s.cleared false with sys := { (s.cleared false).sys with perstSeen := true } } := by
  show finishReset s (perstNAssert straps s) = _
  simp only [perstNAssert, h, if_false, State.isRoot, hr, decide_true, if_true]
  exact finishReset_eq rfl

/-- Out of RESET, PERST_N leaves a die that is no root alone (R443). -/
theorem exec_perstNAssert_other (s : State) (straps : Nat) (h : s.sys.run ≠ .reset) (hr : s.sys.role ≠ .root) :
    exec (.perstNAssert straps) s = .next s := by
  show finishReset s (perstNAssert straps s) = _
  simp only [perstNAssert, h, if_false, State.isRoot, hr, decide_false, Bool.false_eq_true]
  exact finishReset_eq rfl

/-! The release of reset. -/

/-- The straps of a root (R11). -/
theorem Role.ofCode_eq_root {c : Nat} : Role.ofCode c = .root ↔ c = 2 := by
  unfold Role.ofCode
  split_ifs <;> simp_all

/-- The straps of a leaf (R11). -/
theorem Role.ofCode_eq_leaf {c : Nat} : Role.ofCode c = .leaf ↔ c = 0 := by
  unfold Role.ofCode
  split_ifs <;> simp_all

/-- A root's reset values: all paths are valid (R12). -/
theorem State.roleResets_root (s : State) (h : s.sys.role = .root) : s.roleResets = s.put F.TREE_STATUS_PATHV 3 := by
  simp [State.roleResets, State.isRoot, h]

/-- The reset values that every other role shares (R37, R70, R285). -/
def State.shaftResets (s : State) : State :=
  ((s.put F.ORB_CLK_SRC 1).put F.WALL_SERVO_SRC 1).wr (Reg.PORT_CFG 0) 0x4000000F

/-- A leaf's reset values: the matrix is on (R74). -/
theorem State.roleResets_leaf (s : State) (h : s.sys.role = .leaf) :
    s.roleResets = s.shaftResets.put F.FE_CTRL_MATRIX_EN 1 := by
  simp [State.roleResets, State.shaftResets, State.isRoot, State.isLeaf, h]

/-- The reset values of a relay, and of a die in factory test (R12). -/
theorem State.roleResets_relay (s : State) (hr : s.sys.role ≠ .root) (hl : s.sys.role ≠ .leaf) :
    s.roleResets = s.shaftResets := by
  simp [State.roleResets, State.shaftResets, State.isRoot, State.isLeaf, hr, hl]

/-- The values that follow the role of a die that is no root, and the registers that hold them (R12, R37, R70, R74, R285). -/
theorem State.roleResets_below (s : State) (h : s.sys.role ≠ .root) :
    s.roleResets.get F.ORB_CLK_SRC = 1 ∧ s.roleResets.get F.WALL_SERVO_SRC = 1 ∧
    s.roleResets.rd (Reg.PORT_CFG 0) = 0x4000000F ∧
    (s.sys.role = .leaf → s.roleResets.get F.FE_CTRL_MATRIX_EN = 1) ∧
    regsBut [Reg.ORB_CLK, Reg.WALL_SERVO, Reg.PORT_CFG 0, Reg.FE_CTRL] s s.roleResets := by
  have hclk : s.shaftResets.get F.ORB_CLK_SRC = 1 := by
    rw [State.shaftResets, State.get_wr_other _ _ _ _ (by decide), State.get_put_other _ _ _ _ (by decide),
      State.get_put_same _ _ _ (by decide)]
    rfl
  have hservo : s.shaftResets.get F.WALL_SERVO_SRC = 1 := by
    rw [State.shaftResets, State.get_wr_other _ _ _ _ (by decide), State.get_put_same _ _ _ (by decide)]
    rfl
  have hport : s.shaftResets.rd (Reg.PORT_CFG 0) = 0x4000000F := State.rd_wr_same _ _ _
  have hrest : regsBut [Reg.ORB_CLK, Reg.WALL_SERVO, Reg.PORT_CFG 0] s s.shaftResets := by
    intro a ha
    simp only [List.mem_cons, List.not_mem_nil, or_false, not_or] at ha
    obtain ⟨hc, hw, hp⟩ := ha
    rw [State.shaftResets, State.rd_wr_other _ _ _ _ hp, State.rd_put_other _ _ _ _ hw, State.rd_put_other _ _ _ _ hc]
  by_cases hl : s.sys.role = .leaf
  · rw [State.roleResets_leaf s hl]
    refine ⟨(State.get_put_other _ _ _ _ (by decide)).trans hclk, (State.get_put_other _ _ _ _ (by decide)).trans hservo,
      (State.rd_put_other _ _ _ _ (by decide)).trans hport, fun _ => State.get_put_same _ _ _ (by decide), fun a ha => ?_⟩
    simp only [List.mem_cons, List.not_mem_nil, or_false, not_or] at ha
    obtain ⟨hc, hw, hp, hf⟩ := ha
    exact (State.rd_put_other _ _ _ _ hf).trans (hrest a (by simp [hc, hw, hp]))
  · rw [State.roleResets_relay s h hl]
    refine ⟨hclk, hservo, hport, fun e => absurd e hl, fun a ha => hrest a fun hm => ha ?_⟩
    simp only [List.mem_cons, List.not_mem_nil, or_false] at hm ⊢
    tauto

/-- The values that follow the role change registers alone. -/
theorem State.roleResets_frame (s : State) : s.roleResets = { s with regs := s.roleResets.regs } := by
  unfold State.roleResets
  repeat' split
  all_goals rfl

/-- The die as RESET_DEASSERT finds its role: strapped, in INIT, one boot fuse burnt (R11, R19, R390). -/
def State.strapped (s : State) (straps : Nat) (claspId : Bool) : State :=
  { s with
    sys := { s.sys with run := .init, role := Role.ofCode (straps % 4), straps := straps % 4, claspId := claspId }
    fuse := { s.fuse with boots := min 16383 (s.fuse.boots + 1) } }

/-- FAULT_BOOT and CLASP_STATUS as the release of reset from cause `c` leaves them (R443). -/
def State.bootRecord (s : State) (c : Nat) (claspId : Bool) : State :=
  ((s.put F.FAULT_BOOT_CAUSE c).put F.FAULT_BOOT_LOG_KEPT (b2n (decide (c ≠ 0)))).put F.CLASP_STATUS_CLASP_ID (b2n claspId)

/-- In RESET, the release straps the die, loads what follows the role and records the cause. -/
theorem resetDeassert_eq (s : State) (straps : Nat) (claspId : Bool) (h : s.sys.run = .reset) :
    resetDeassert straps claspId s = (s.strapped straps claspId).roleResets.bootRecord s.bootCause claspId := by
  simp [resetDeassert, State.strapped, State.bootRecord, h]

/-- The record of a boot names the cause, and says whether the log was kept. -/
theorem State.bootRecord_fields (s : State) (c : Nat) (claspId : Bool) (hc : c < 4) :
    (s.bootRecord c claspId).get F.FAULT_BOOT_CAUSE = c ∧
    (s.bootRecord c claspId).on F.FAULT_BOOT_LOG_KEPT = decide (c ≠ 0) := by
  constructor
  · rw [State.bootRecord, State.get_put_other _ _ _ _ (by decide), State.get_put_apart _ _ _ _ (by decide) (by decide),
      State.get_put_same _ _ _ (by decide)]
    exact Nat.mod_eq_of_lt hc
  · rw [State.on, State.bootRecord, State.get_put_other _ _ _ _ (by decide), State.get_put_same _ _ _ (by decide)]
    cases decide (c ≠ 0) <;> rfl

/-- The record of a boot changes two registers. -/
theorem State.rd_bootRecord_other (s : State) (c : Nat) (claspId : Bool) {a : Nat} (hb : a ≠ Reg.FAULT_BOOT)
    (hc : a ≠ Reg.CLASP_STATUS) : (s.bootRecord c claspId).rd a = s.rd a := by
  rw [State.bootRecord, State.rd_put_other _ _ _ _ hc, State.rd_put_other _ _ _ _ hb, State.rd_put_other _ _ _ _ hb]

/-- The record of a boot leaves the fields of other registers alone. -/
theorem State.get_bootRecord_other (s : State) (c : Nat) (claspId : Bool) (f : Fld) (hb : f.reg ≠ Reg.FAULT_BOOT)
    (hc : f.reg ≠ Reg.CLASP_STATUS) : (s.bootRecord c claspId).get f = s.get f := by
  rw [State.get, State.rd_bootRecord_other _ _ _ hb hc]; rfl

/-- The release of reset changes registers, what the straps fix and the boot fuses alone. -/
theorem resetDeassert_frame (s : State) (straps : Nat) (claspId : Bool) (h : s.sys.run = .reset) :
    resetDeassert straps claspId s = { s.strapped straps claspId with regs := (resetDeassert straps claspId s).regs } := by
  rw [resetDeassert_eq s straps claspId h, State.roleResets_frame]; rfl

/-- What RESET_DEASSERT does in RESET. -/
theorem exec_resetDeassert (s : State) (straps : Nat) (claspId : Bool) (h : s.sys.run = .reset) :
    exec (.resetDeassert straps claspId) s = .next (resetDeassert straps claspId s) :=
  finishReset_eq (by rw [resetDeassert_frame s straps claspId h]; rfl)

/-- Out of RESET, RESET_DEASSERT leaves the die alone. -/
theorem exec_resetDeassert_awake (s : State) (straps : Nat) (claspId : Bool) (h : s.sys.run ≠ .reset) :
    exec (.resetDeassert straps claspId) s = .next s := by
  show finishReset s (resetDeassert straps claspId s) = _
  simp only [resetDeassert, h, ne_eq, not_false_eq_true, if_true]
  exact finishReset_eq rfl

/-- The cause of a boot is one of three, and only a power-on is 0 (R443). -/
theorem State.bootCause_spec (s : State) : s.bootCause < 4 ∧ decide (s.bootCause ≠ 0) = !s.sys.porSeen := by
  unfold State.bootCause
  cases s.sys.porSeen <;> cases s.sys.rstSeen <;> decide

/-- What the release of reset writes in the registers of a root (R12, R443). -/
theorem resetDeassert_root (s : State) (straps : Nat) (claspId : Bool) (h : s.sys.run = .reset) (hs : straps % 4 = 2) :
    (resetDeassert straps claspId s).get F.TREE_STATUS_PATHV = 3 ∧
    regsBut [Reg.FAULT_BOOT, Reg.CLASP_STATUS, Reg.TREE_STATUS] s (resetDeassert straps claspId s) := by
  rw [resetDeassert_eq s straps claspId h, State.roleResets_root _ (Role.ofCode_eq_root.mpr hs)]
  refine ⟨?_, fun a ha => ?_⟩
  · rw [State.get_bootRecord_other _ _ _ _ (by decide) (by decide), State.get_put_same _ _ _ (by decide)]
    rfl
  · simp only [List.mem_cons, List.not_mem_nil, or_false, not_or] at ha
    obtain ⟨hb, hc, ht⟩ := ha
    rw [State.rd_bootRecord_other _ _ _ hb hc, State.rd_put_other _ _ _ _ ht]; rfl

/-- What the release of reset writes in the registers of any other die (R12, R37, R70, R74, R285, R443). -/
theorem resetDeassert_below (s : State) (straps : Nat) (claspId : Bool) (h : s.sys.run = .reset) (hs : straps % 4 ≠ 2) :
    (resetDeassert straps claspId s).get F.ORB_CLK_SRC = 1 ∧ (resetDeassert straps claspId s).get F.WALL_SERVO_SRC = 1 ∧
    (resetDeassert straps claspId s).rd (Reg.PORT_CFG 0) = 0x4000000F ∧
    (straps % 4 = 0 → (resetDeassert straps claspId s).get F.FE_CTRL_MATRIX_EN = 1) ∧
    regsBut [Reg.ORB_CLK, Reg.WALL_SERVO, Reg.PORT_CFG 0, Reg.FE_CTRL, Reg.FAULT_BOOT, Reg.CLASP_STATUS] s
      (resetDeassert straps claspId s) := by
  obtain ⟨hclk, hservo, hport, hleaf, hrest⟩ :=
    (s.strapped straps claspId).roleResets_below (fun e => hs (Role.ofCode_eq_root.mp e))
  rw [resetDeassert_eq s straps claspId h]
  refine ⟨?_, ?_, ?_, fun h0 => ?_, fun a ha => ?_⟩
  · rw [State.get_bootRecord_other _ _ _ _ (by decide) (by decide), hclk]
  · rw [State.get_bootRecord_other _ _ _ _ (by decide) (by decide), hservo]
  · rw [State.rd_bootRecord_other _ _ _ (by decide) (by decide), hport]
  · rw [State.get_bootRecord_other _ _ _ _ (by decide) (by decide), hleaf (Role.ofCode_eq_leaf.mpr h0)]
  · simp only [List.mem_cons, List.not_mem_nil, or_false, not_or] at ha
    obtain ⟨hc, hw, hp, hf, hb, hcl⟩ := ha
    rw [State.rd_bootRecord_other _ _ _ hb hcl, hrest a (by simp [hc, hw, hp, hf])]; rfl

/-- Settles O9: each reset by what it clears and keeps, its release by the role that the straps fix. -/
theorem resetsAndTheirRelease : Obligations.ResetsAndTheirRelease := by
  refine ⟨fun s straps => ⟨?powerOn, fun hrun => ?rstN, fun hrun hroot => ?perstN, exec_perstNAssert_other s straps⟩,
    fun s straps claspId => ⟨fun hrun => ?release, exec_resetDeassert_awake s straps claspId⟩⟩
  case powerOn =>
    obtain ⟨htap, hboots, hpend⟩ := s.claimInterrupted_frame
    exact ⟨_, exec_powerOnReset s, rfl, rfl, rfl, State.rd_cleared_powerOn s.claimInterrupted, rfl, rfl, rfl, rfl, rfl, htap,
      hboots, hpend⟩
  case rstN => exact ⟨_, exec_rstNAssert s hrun, rfl, rfl, rfl, rfl, s.cleared_warm_frame _⟩
  case perstN => exact ⟨_, exec_perstNAssert_root s straps hrun hroot, rfl, rfl, rfl, rfl, s.cleared_warm_frame _⟩
  case release =>
    have hframe := resetDeassert_frame s straps claspId hrun
    have hsys : (resetDeassert straps claspId s).sys = (s.strapped straps claspId).sys := by rw [hframe]
    have hfuse : (resetDeassert straps claspId s).fuse = (s.strapped straps claspId).fuse := by rw [hframe]
    obtain ⟨hc4, hkept⟩ := s.bootCause_spec
    have hrecord := (s.strapped straps claspId).roleResets.bootRecord_fields s.bootCause claspId hc4
    rw [← resetDeassert_eq s straps claspId hrun, hkept] at hrecord
    obtain ⟨hcause, hlog⟩ := hrecord
    refine ⟨_, exec_resetDeassert s straps claspId hrun, congrArg SysSt.run hsys, congrArg SysSt.role hsys,
      congrArg SysSt.straps hsys, congrArg SysSt.claspId hsys, hfuse, hcause, hlog, fun hs => ?_,
      resetDeassert_root s straps claspId hrun, fun hs => ?_, fun h0 => ?_, ?_, by rw [hframe]; rfl⟩
    · obtain ⟨hclk, hservo, hport, -, -⟩ := resetDeassert_below s straps claspId hrun hs
      exact ⟨hclk, hservo, hport⟩
    · obtain ⟨-, -, -, -, hrest⟩ := resetDeassert_below s straps claspId hrun hs
      exact hrest _ (by decide)
    · obtain ⟨-, -, -, hleaf, -⟩ := resetDeassert_below s straps claspId hrun (by omega)
      exact hleaf h0
    · intro a ha
      simp only [List.mem_cons, List.not_mem_nil, or_false, not_or] at ha
      obtain ⟨hc, hw, hp, hf, hb, hcl, ht⟩ := ha
      by_cases hs : straps % 4 = 2
      · exact (resetDeassert_root s straps claspId hrun hs).2 a (by simp [hb, hcl, ht])
      · obtain ⟨-, -, -, -, hrest⟩ := resetDeassert_below s straps claspId hrun hs
        exact hrest a (by simp [hc, hw, hp, hf, hb, hcl])

end Sys2Proof.Machine
end

section
/-! Register writes as commands bring them (R4–R9, R24–R30, R391): which register an offset names, what a refusal leaves, how a write
is judged, and what an accepted word stores. -/

namespace Sys2Proof.Machine

/-! The register an offset names (R468, R476). -/

/-- A row found among a block's registers is one of them, in that block. -/
theorem findRow_mem {b : Block} {rel : Nat} {rs : List RegRow} {h : Hit} (hf : findRow b rel rs = some h) :
    h.blk = b ∧ h.row ∈ rs := by
  induction rs with
  | nil => cases hf
  | cons r rs ih =>
    unfold findRow at hf
    split at hf
    · cases hf
      exact ⟨rfl, List.mem_cons_self⟩
    · obtain ⟨hb, hm⟩ := ih hf
      exact ⟨hb, List.mem_cons_of_mem _ hm⟩

/-- A register found is a row of its block, at an offset of that block's region. -/
theorem findReg_mem {a : Nat} {h : Hit} (hf : findReg a = some h) : blockOf a = some h.blk ∧ h.row ∈ h.blk.regs := by
  unfold findReg at hf
  split at hf
  · next b hb =>
    obtain ⟨rfl, hm⟩ := findRow_mem hf
    exact ⟨hb, hm⟩
  · cases hf

/-- Every block ends below the end of RING (R476). -/
theorem Block.end_le (b : Block) : b.base + b.count * b.stride ≤ 0xED000 := by cases b <;> decide

/-- A register's offset is a word. -/
theorem findReg_lt {a : Nat} {h : Hit} (hf : findReg a = some h) : a < 2 ^ 32 := by
  have hin := List.find?_some (findReg_mem hf).1
  have hend := h.blk.end_le
  simp only [decide_eq_true_eq] at hin
  omega

/-- Offsets whose registers differ in a property differ. -/
theorem ne_of_findReg_any {p : Hit → Bool} {a b : Nat} (ha : (findReg a).any p = true) (hb : (findReg b).any p = false) :
    a ≠ b := by
  rintro rfl
  simp [ha] at hb

/-! Changes of registers alone. -/

/-- A word write changes registers alone. -/
theorem State.wr_frame (s : State) (a v : Nat) : s.wr a v = { s with regs := (s.wr a v).regs } := rfl

/-- Two changes of registers alone make one. -/
theorem State.regsOnly_trans {s t u : State} (h : t = { s with regs := t.regs }) (h' : u = { t with regs := u.regs }) :
    u = { s with regs := u.regs } :=
  h'.trans (by rw [h])

/-! What a refusal leaves (R27, R360, R391). -/

/-- A refusal counts up SYS_REJECT_CNT, and for a Protected target HALL_PROTECTED_REJ_CNT. -/
theorem State.rd_rejected (s : State) (prot : Bool) :
    (s.rejected prot).rd Reg.SYS_REJECT_CNT = min (s.rd Reg.SYS_REJECT_CNT + 1) 0xFFFFFFFF ∧
    (prot = true → (s.rejected prot).rd Reg.HALL_PROTECTED_REJ_CNT = min (s.rd Reg.HALL_PROTECTED_REJ_CNT + 1) 0xFFFFFFFF) ∧
    regsBut [Reg.SYS_REJECT_CNT, Reg.HALL_PROTECTED_REJ_CNT] s (s.rejected prot) := by
  refine ⟨?_, ?_, fun a ha => ?_⟩
  · cases prot <;> simp [State.rejected, State.rd_incBy]
  · rintro rfl
    simp [State.rejected, State.rd_incBy]
  · simp only [List.mem_cons, List.not_mem_nil, or_false, not_or] at ha
    cases prot <;> simp [State.rejected, State.rd_incBy, ha]

/-- A refusal changes registers alone. -/
theorem State.rejected_frame (s : State) (prot : Bool) : s.rejected prot = { s with regs := (s.rejected prot).regs } := by
  cases prot with
  | false => exact State.wr_frame _ _ _
  | true => exact State.regsOnly_trans (State.wr_frame s _ _) (State.wr_frame _ _ _)

/-- The record of a refusal changes registers alone. -/
theorem State.lastReject_frame (s : State) (r : Ans) (a : Nat) :
    s.lastReject r a = { s with regs := (s.lastReject r a).regs } :=
  State.regsOnly_trans (State.regsOnly_trans (State.wr_frame s _ _) (State.wr_frame _ _ _)) (State.wr_frame _ _ _)

/-- HIF_LAST_REJECT holds the answer and the offset; every other register stays. -/
theorem State.lastReject_spec (s : State) (r : Ans) (a : Nat) :
    (s.lastReject r a).get F.HIF_LAST_REJECT_STATUS = r.status % 2 ^ 8 ∧
    (s.lastReject r a).get F.HIF_LAST_REJECT_DETAIL = r.detail % 2 ^ 24 ∧
    (s.lastReject r a).rd (Reg.HIF_LAST_REJECT + 4) = a % 2 ^ 32 ∧
    regsBut [Reg.HIF_LAST_REJECT, Reg.HIF_LAST_REJECT + 4] s (s.lastReject r a) := by
  unfold State.lastReject
  refine ⟨?_, ?_, State.rd_wr_same _ _ _, fun b hb => ?_⟩
  · rw [State.get_wr_other _ _ _ _ (by decide), State.get_put_apart _ _ _ _ (by decide) (by decide),
      State.get_put_same _ _ _ (by decide)]
  · rw [State.get_wr_other _ _ _ _ (by decide), State.get_put_same _ _ _ (by decide)]
  · simp only [List.mem_cons, List.not_mem_nil, or_false, not_or] at hb
    obtain ⟨h0, h4⟩ := hb
    rw [State.rd_wr_other _ _ _ _ h4, State.rd_put_other _ _ _ _ h0, State.rd_put_other _ _ _ _ h0]

/-- The die after a write that answer `r` refuses: by a root's BAR the refusal is recorded too (R360). -/
def State.refused (s : State) (bar prot : Bool) (r : Ans) (a : Nat) : State :=
  if bar ∧ s.isRoot then (s.rejected prot).lastReject r a else s.rejected prot

/-- A refused write changes registers alone. -/
theorem State.refused_frame (s : State) (bar prot : Bool) (r : Ans) (a : Nat) :
    s.refused bar prot r a = { s with regs := (s.refused bar prot r a).regs } := by
  unfold State.refused
  split
  · exact State.regsOnly_trans (s.rejected_frame prot) (State.lastReject_frame _ r a)
  · exact s.rejected_frame prot

/-- The counters after a refused write, and the registers that it leaves alone (R27). -/
theorem State.rd_refused (s : State) (bar prot : Bool) (r : Ans) (a : Nat) :
    (s.refused bar prot r a).rd Reg.SYS_REJECT_CNT = min (s.rd Reg.SYS_REJECT_CNT + 1) 0xFFFFFFFF ∧
    (prot = true →
      (s.refused bar prot r a).rd Reg.HALL_PROTECTED_REJ_CNT = min (s.rd Reg.HALL_PROTECTED_REJ_CNT + 1) 0xFFFFFFFF) ∧
    regsBut [Reg.SYS_REJECT_CNT, Reg.HALL_PROTECTED_REJ_CNT, Reg.HIF_LAST_REJECT, Reg.HIF_LAST_REJECT + 4] s
      (s.refused bar prot r a) := by
  obtain ⟨hcnt, hprot, hrest⟩ := s.rd_rejected prot
  unfold State.refused
  split
  · obtain ⟨-, -, -, hlast⟩ := (s.rejected prot).lastReject_spec r a
    refine ⟨(hlast _ (by decide)).trans hcnt, fun hp => (hlast _ (by decide)).trans (hprot hp), fun b hb => ?_⟩
    simp only [List.mem_cons, List.not_mem_nil, or_false, not_or] at hb
    obtain ⟨h1, h2, h3, h4⟩ := hb
    exact (hlast b (by simp [h3, h4])).trans (hrest b (by simp [h1, h2]))
  · refine ⟨hcnt, hprot, fun b hb => hrest b fun hm => hb ?_⟩
    simp only [List.mem_cons, List.not_mem_nil, or_false] at hm ⊢
    tauto

/-- By a root's BAR, HIF_LAST_REJECT holds the answer to a refused write (R360). -/
theorem State.lastReject_of_refused (s : State) (prot : Bool) (r : Ans) (a : Nat) (hroot : s.isRoot = true) :
    (s.refused true prot r a).get F.HIF_LAST_REJECT_STATUS = r.status % 2 ^ 8 ∧
    (s.refused true prot r a).get F.HIF_LAST_REJECT_DETAIL = r.detail % 2 ^ 24 ∧
    (s.refused true prot r a).rd (Reg.HIF_LAST_REJECT + 4) = a % 2 ^ 32 := by
  obtain ⟨hst, hdet, hofs, -⟩ := (s.rejected prot).lastReject_spec r a
  simp only [State.refused, hroot, and_self, if_true]
  exact ⟨hst, hdet, hofs⟩

/-! Commands that write. -/

/-- A write with every byte enable set is the write of a command. -/
theorem exec_registerWrite_full (s : State) (bar : Bool) (a v : Nat) :
    exec (.registerWrite bar a v 15) s = finish s (s.write bar a v) := by
  show finish s (s.registerWrite bar a v 15) = _
  simp [State.registerWrite]

/-- A write by a BAR that does not set every byte enable has no effect (R359). -/
theorem exec_registerWrite_partial {s : State} (ha : Awake s) (a v : Nat) {be : Nat} (hbe : be < 15) :
    exec (.registerWrite true a v be) s = .next s := by
  show finish s (s.registerWrite true a v be) = _
  have hne : be % 16 ≠ 15 := by omega
  simp only [State.registerWrite, hne, ne_eq, not_false_eq_true, and_self, if_true]
  exact finish_eq ha rfl rfl

/-- A write that is answered with another status than OK ends as a refusal does. -/
theorem exec_registerWrite_refused {s : State} (ha : Awake s) (bar : Bool) {a v : Nat} {r : Ans} {prot : Bool}
    (hb : s.busWrite a v = (r, s.rejected prot)) (hr : r.status ≠ 0) :
    exec (.registerWrite bar a v 15) s = .next (s.refused bar prot r a) := by
  have hw : s.write bar a v = s.refused bar prot r a := by simp [State.write, State.refused, hb, hr]
  rw [exec_registerWrite_full, hw, State.refused_frame]
  exact finish_eq ha rfl rfl

/-- A write that changes registers alone ends in its effect. -/
theorem exec_registerWrite_regs {s t : State} (ha : Awake s) {bar : Bool} {a v : Nat} (hw : s.write bar a v = t)
    (ht : t = { s with regs := t.regs }) : exec (.registerWrite bar a v 15) s = .next t := by
  rw [exec_registerWrite_full, hw, ht]
  exact finish_eq ha rfl rfl

/-! How a write is judged (R24, R25, R391, R468). -/

/-- In the states with READY, an aligned write of the register range is judged by its register. -/
theorem State.busWrite_ready {s : State} {a : Nat} (hr : s.sys.run.isReady = true) (hv : inVault a = false) (h4 : a % 4 = 0)
    (v : Nat) : s.busWrite a v = s.regWrite false a v := by
  have hn : s.sys.run ≠ .reset ∧ s.sys.run ≠ .init ∧ s.sys.run ≠ .safe := by
    revert hr
    cases s.sys.run <;> simp [RunState.isReady]
  simp [State.busWrite, hn, hv, h4]

/-- A Mode register is judged as Mode: FE_CH, which its fields judge, is none (R89). -/
theorem State.classOf_mode {s : State} {a : Nat} {h : Hit} (hf : findReg a = some h) (hc : h.row.cls = .mode) (nw : Nat) :
    s.classOf h a nw = .mode := by
  have hch : ∀ r ∈ regsFe, r.off = 0x10000 → r.cls ≠ .mode := by decide
  have hne : ¬(h.blk = .fe ∧ h.row.off = 0x10000) := by
    rintro ⟨hb, ho⟩
    have hm := (findReg_mem hf).2
    rw [hb] at hm
    exact hch _ hm ho hc
  rw [State.classOf, if_neg hne, hc]

/-- While capture runs, a write of a Mode register is refused with the run state (R24, R25). -/
theorem State.regWrite_mode_capturing {s : State} {a : Nat} {h : Hit} (hf : findReg a = some h) (hc : h.row.cls = .mode)
    (hr : s.sys.run.capturing = true) (v : Nat) : ∃ prot, s.regWrite false a v = (s.ansState, s.rejected prot) := by
  have hn : s.sys.run ≠ .ready ∧ s.sys.run ≠ .armed := by
    revert hr
    cases s.sys.run <;> simp [RunState.capturing]
  simp only [State.regWrite, hf, State.classOf_mode hf hc, Cls.accepts, hn, or_self, decide_false, Bool.and_false,
    Bool.or_false, Bool.false_eq_true, if_false, Bool.not_false, if_true]
  exact ⟨_, rfl⟩

/-- In READY, a direct write of a Protected register is refused as such (R391). -/
theorem State.regWrite_prot_ready {s : State} {a : Nat} {h : Hit} (hf : findReg a = some h) (hc : h.row.cls = .prot)
    (hr : s.sys.run = .ready) (v : Nat) : s.regWrite false a v = (ansProt a, s.rejected true) := by
  simp [State.regWrite, hf, hc, hr]

/-- In the states with READY, an offset without a register answers BAD_ARG and is counted (R468). -/
theorem State.regWrite_unmapped {s : State} {a : Nat} (hf : findReg a = none) (v : Nat) :
    s.regWrite false a v = (ansBadArg, s.incBy Reg.SYS_BADADDR_CNT 1) := by
  simp [State.regWrite, hf]

/-- In INIT and SAFE, a write of a register outside the MSI-X table is refused with the run state (R23, R25; log 72). -/
theorem State.busWrite_closed {s : State} {a : Nat} {h : Hit} (hf : findReg a = some h) (hc : h.row.cls ≠ .msix)
    (hv : inVault a = false) (hr : s.sys.run = .init ∨ s.sys.run = .safe) (v : Nat) :
    s.busWrite a v = (s.ansState, s.rejected (s.protTarget a)) := by
  have hn : s.sys.run ≠ .reset := by rcases hr with hr | hr <;> simp [hr]
  simp [State.busWrite, hn, hv, hr, hf, hc]

/-- In READY, a root's vault window is Protected (R391). -/
theorem State.busWrite_vault_root {s : State} {a : Nat} (hv : inVault a = true) (h4 : a % 4 = 0) (hroot : s.isRoot = true)
    (hr : s.sys.run = .ready) (v : Nat) : s.busWrite a v = (ansProt a, s.rejected true) := by
  simp [State.busWrite, hv, h4, hroot, hr]

/-! Words accepted (R6–R8, R461, R462). -/

/-- A word under the mask of all its bits. -/
theorem and_word_mask {v : Nat} (hv : v < 2 ^ 32) : v &&& 0xFFFFFFFF = v :=
  (Nat.and_two_pow_sub_one_eq_mod v 32).trans (Nat.mod_eq_of_lt hv)

/-- With no words held, an accepted write of a register of one word is its effect (R470). -/
theorem State.write_applied {s : State} {bar : Bool} {a v : Nat} {h : Hit} (hheld : s.bus.held = []) (hv : v < 2 ^ 32)
    (hw : s.write bar a v = ({ s with bus := { s.bus with held := s.bus.held.filter (fun p => !decide (a = p.1)) } }).applyWord h a
      (v % 2 ^ 32)) : s.write bar a v = s.applyWord h a v := by
  have hs : { s with bus := { s.bus with held := s.bus.held.filter (fun p => !decide (a = p.1)) } } = s := by
    rw [hheld, List.filter_nil, ← hheld]
  rw [hw, hs, Nat.mod_eq_of_lt hv]

/-- SYS_SCRATCH in the register map. -/
theorem findReg_sysScratch : findReg Reg.SYS_SCRATCH =
    some ⟨.sys, { off := 0xC, cls := .live, rw := fun _ _ _ => 0xFFFFFFFF }, 0, 0, 0⟩ := rfl

/-- ORB_STATUS in the register map. -/
theorem findReg_orbStatus : findReg Reg.ORB_STATUS = some ⟨.orb, { off := 0x10, cls := .live, w1c := 0xFF00 }, 0, 0, 0⟩ := rfl

/-- ORB_MISS_CNT in the register map. -/
theorem findReg_orbMissCnt : findReg Reg.ORB_MISS_CNT = some ⟨.orb, { off := 0x20, cls := .live, cnt := true }, 0, 0, 0⟩ := rfl

/-- SYS_STATUS in the register map. -/
theorem findReg_sysStatus : findReg Reg.SYS_STATUS =
    some ⟨.sys, { off := 0, cls := .ro, rst := fun _ _ _ => 0x10 }, 0, 0, 0⟩ := rfl

/-- ORB_CLK in the register map. -/
theorem findReg_orbClk : findReg Reg.ORB_CLK = some ⟨.orb, { off := 0, cls := .mode, rw := fun _ _ _ => 3 }, 0, 0, 0⟩ := rfl

/-- SYS_SCRATCH takes the whole word (R6). -/
theorem State.write_sysScratch {s : State} (hr : s.sys.run.isReady = true) (hheld : s.bus.held = []) {v : Nat} (hv : v < 2 ^ 32)
    (bar : Bool) : s.write bar Reg.SYS_SCRATCH v = s.wr Reg.SYS_SCRATCH v := by
  rw [State.write_applied hheld hv (State.write_taken s bar Reg.SYS_SCRATCH v _ findReg_sysScratch (by decide) (by decide) hr rfl
    (by decide) (by decide) rfl rfl hr rfl rfl)]
  have hm : digestMask Reg.SYS_SCRATCH = none := by decide
  simp [State.applyWord, State.newWord, fixWord, featWord, State.wrote, hm, and_word_mask hv]

/-- The flags of ORB_STATUS written with 1 clear, and no other bit changes (R461). -/
theorem State.write_orbStatus {s : State} (hr : s.sys.run.isReady = true) (hheld : s.bus.held = []) {v : Nat} (hv : v < 2 ^ 32)
    (bar : Bool) : s.write bar Reg.ORB_STATUS v =
      s.wr Reg.ORB_STATUS (s.rd Reg.ORB_STATUS &&& (0xFFFFFFFF ^^^ (v &&& 0xFF00))) := by
  rw [State.write_applied hheld hv (State.write_taken s bar Reg.ORB_STATUS v _ findReg_orbStatus (by decide) (by decide) hr rfl
    (by decide) (by decide) rfl rfl hr rfl rfl)]
  have hm : digestMask Reg.ORB_STATUS = none := by decide
  simp [State.applyWord, State.newWord, fixWord, featWord, State.wrote, hm, and_word_mask (s.rd_lt _)]

/-- A write of ORB_MISS_CNT clears it (R462). -/
theorem State.write_orbMissCnt {s : State} (hr : s.sys.run.isReady = true) (hheld : s.bus.held = []) {v : Nat} (hv : v < 2 ^ 32)
    (bar : Bool) : s.write bar Reg.ORB_MISS_CNT v = s.wr Reg.ORB_MISS_CNT 0 := by
  rw [State.write_applied hheld hv (State.write_taken s bar Reg.ORB_MISS_CNT v _ findReg_orbMissCnt (by decide) (by decide) hr rfl
    (by decide) (by decide) rfl rfl hr rfl rfl)]
  simp [State.applyWord, State.clearCnt]

/-- A write of SYS_STATUS, which no write class holds, is accepted and stores nothing (R7). -/
theorem State.write_sysStatus {s : State} (hr : s.sys.run.isReady = true) (v : Nat) (bar : Bool) :
    s.write bar Reg.SYS_STATUS v = s := by
  have hg : s.gate Reg.SYS_STATUS = none := rfl
  have hb : s.busWrite Reg.SYS_STATUS v = (ansOk, s) := by
    rw [State.busWrite_ready hr (by decide) (by decide)]
    simp [State.regWrite, findReg_sysStatus, State.classOf, Cls.accepts, hr, hg]
  simp [State.write, hb, ansOk]

/-- A root refuses SHAFT as the source of its clock (R30, R35). -/
theorem State.busWrite_orbClk_shaft_root {s : State} (hr : s.sys.run = .ready) (hroot : s.isRoot = true) {v : Nat}
    (hsh : v % 4 = 1) : s.busWrite Reg.ORB_CLK v = (ansMode 5 Reg.SYS_STATUS, s.rejected false) := by
  have hg : s.gate Reg.ORB_CLK = none := rfl
  rw [State.busWrite_ready (by rw [hr]; rfl) (by decide) (by decide)]
  simp [State.regWrite, findReg_orbClk, State.classOf, Cls.accepts, State.conflict, hr, hg, hroot, hsh]

/-! The judgement of register writes. -/

/-- The registers that a refusal may change are neither Mode nor Protected. -/
theorem not_mem_refusal_regs {a : Nat} {c : Cls} (hc : c = .mode ∨ c = .prot)
    (ha : (findReg a).any (fun h => decide (h.row.cls = c)) = true) :
    a ∉ [Reg.SYS_REJECT_CNT, Reg.HALL_PROTECTED_REJ_CNT, Reg.HIF_LAST_REJECT, Reg.HIF_LAST_REJECT + 4] := by
  have hoff : ∀ b ∈ [Reg.SYS_REJECT_CNT, Reg.HALL_PROTECTED_REJ_CNT, Reg.HIF_LAST_REJECT, Reg.HIF_LAST_REJECT + 4],
      (findReg b).any (fun h => decide (h.row.cls = c)) = false := by
    rcases hc with rfl | rfl <;> decide
  exact fun hm => ne_of_findReg_any ha (hoff a hm) rfl

/-- An optional register with a property is a register with it. -/
theorem exists_of_findReg_any {p : Hit → Prop} [DecidablePred p] {a : Nat} (ha : (findReg a).any (fun h => decide (p h)) = true) :
    ∃ h, findReg a = some h ∧ p h := by
  simpa [Option.any_eq_true] using ha

/-- A refused write of a Mode or Protected register: the register keeps its word, the refusal is counted, and by a root's BAR it is
recorded (R27, R360). -/
theorem State.refused_spec (s : State) (bar prot : Bool) (r : Ans) {a : Nat} {c : Cls} (hc : c = .mode ∨ c = .prot)
    (ha : (findReg a).any (fun h => decide (h.row.cls = c)) = true) (hst : r.status < 2 ^ 8) (hdet : r.detail < 2 ^ 24) :
    (s.refused bar prot r a).rd a = s.rd a ∧
    (bar = true → s.isRoot = true → (s.refused bar prot r a).get F.HIF_LAST_REJECT_STATUS = r.status ∧
      (s.refused bar prot r a).get F.HIF_LAST_REJECT_DETAIL = r.detail ∧
      (s.refused bar prot r a).rd (Reg.HIF_LAST_REJECT + 4) = a) := by
  obtain ⟨-, -, hrest⟩ := s.rd_refused bar prot r a
  obtain ⟨h, hf, -⟩ := exists_of_findReg_any ha
  refine ⟨hrest a (not_mem_refusal_regs hc ha), ?_⟩
  rintro rfl hroot
  have hlast := s.lastReject_of_refused prot r a hroot
  rwa [Nat.mod_eq_of_lt hst, Nat.mod_eq_of_lt hdet, Nat.mod_eq_of_lt (findReg_lt hf)] at hlast

/-- Settles O51: each clause is a write accepted, or a refusal with the answer that the register's class, the run state or the mode
gives. -/
theorem registerWritesAreJudged : Obligations.RegisterWritesAreJudged := by
  intro s a v be bar ha _ hheld hv
  refine ⟨?byteEnables, fun hr => ?scratch, fun hr => ?flags, fun hr => ?counter, fun hr => ?readOnly,
    fun hr hf hin h4 hbar => ?unmapped, fun hr hin h4 hc => ?mode, fun hr hin h4 hc => ?prot, fun hr hroot hsh hbar => ?conflict,
    fun hr hin hc => ?closed, fun hin h4 hroot hr => ?vault⟩
  case byteEnables =>
    rintro rfl hbe
    exact exec_registerWrite_partial ha a v hbe
  case scratch =>
    refine ⟨_, exec_registerWrite_regs ha (State.write_sysScratch hr hheld hv bar) (State.wr_frame _ _ _), ?_, fun b hb => ?_,
      State.wr_frame _ _ _⟩
    · rw [State.rd_wr_same, Nat.mod_eq_of_lt hv]
    · exact State.rd_wr_other _ _ _ _ (by simpa using hb)
  case flags =>
    refine ⟨_, exec_registerWrite_regs ha (State.write_orbStatus hr hheld hv bar) (State.wr_frame _ _ _), ?_, fun b hb => ?_,
      State.wr_frame _ _ _⟩
    · rw [State.rd_wr_same, Nat.mod_eq_of_lt (Nat.lt_of_le_of_lt Nat.and_le_left (s.rd_lt _))]
    · exact State.rd_wr_other _ _ _ _ (by simpa using hb)
  case counter =>
    exact ⟨_, exec_registerWrite_regs ha (State.write_orbMissCnt hr hheld hv bar) (State.wr_frame _ _ _), State.rd_wr_same _ _ _,
      fun b hb => State.rd_wr_other _ _ _ _ (by simpa using hb), State.wr_frame _ _ _⟩
  case readOnly => exact exec_registerWrite_regs ha (State.write_sysStatus hr v bar) rfl
  case unmapped =>
    have hb := (State.busWrite_ready hr hin h4 v).trans (State.regWrite_unmapped hf v)
    have hn : ¬(bar = true ∧ s.isRoot = true) := by rcases hbar with h | h <;> simp [h]
    refine exec_registerWrite_regs ha ?_ (State.wr_frame _ _ _)
    simp only [State.write, hb, ← and_assoc, hn, false_and, if_false]
  case mode =>
    obtain ⟨h, hf, hcls⟩ := exists_of_findReg_any hc
    have hcap : s.sys.run.capturing = true := by rcases hr with hr | hr <;> rw [hr] <;> rfl
    have hrdy : s.sys.run.isReady = true := by rcases hr with hr | hr <;> rw [hr] <;> rfl
    have hcode : s.sys.run.code < 2 ^ 24 := by rcases hr with hr | hr <;> rw [hr] <;> decide
    obtain ⟨prot, hw⟩ := State.regWrite_mode_capturing hf hcls hcap v
    have hb := (State.busWrite_ready hrdy hin h4 v).trans hw
    obtain ⟨hkept, hlast⟩ := s.refused_spec bar prot s.ansState (.inl rfl) hc (by decide : 1 < 2 ^ 8) hcode
    obtain ⟨hcnt, -, hrest⟩ := s.rd_refused bar prot s.ansState a
    exact ⟨_, exec_registerWrite_refused ha bar hb Nat.one_ne_zero, hkept, hcnt, hlast, hrest, s.refused_frame _ _ _ _⟩
  case prot =>
    obtain ⟨h, hf, hcls⟩ := exists_of_findReg_any hc
    have hb := (State.busWrite_ready (by rw [hr]; rfl) hin h4 v).trans (State.regWrite_prot_ready hf hcls hr v)
    obtain ⟨hkept, hlast⟩ := s.refused_spec bar true (ansProt a) (.inr rfl) hc (by decide : 0x10 < 2 ^ 8) (by decide : 0 < 2 ^ 24)
    obtain ⟨hcnt, hprot, hrest⟩ := s.rd_refused bar true (ansProt a) a
    exact ⟨_, exec_registerWrite_refused ha bar hb (by decide : 0x10 ≠ 0), hkept, hcnt, hprot rfl, hlast, hrest,
      s.refused_frame _ _ _ _⟩
  case conflict =>
    subst hbar
    exact exec_registerWrite_refused ha false (State.busWrite_orbClk_shaft_root hr hroot hsh) (by decide : 2 ≠ 0)
  case closed =>
    obtain ⟨h, hf, hcls⟩ := exists_of_findReg_any hc
    obtain ⟨hcnt, -, hrest⟩ := s.rd_rejected (s.protTarget a)
    exact ⟨_, exec_registerWrite_refused ha false (State.busWrite_closed hf hcls hin hr v) Nat.one_ne_zero, hcnt, hrest,
      s.rejected_frame _⟩
  case vault =>
    obtain ⟨hcnt, hprot, -⟩ := s.rd_refused bar true (ansProt a) a
    have hframe := s.refused_frame bar true (ansProt a) a
    exact ⟨_, exec_registerWrite_refused ha bar (State.busWrite_vault_root hin h4 hroot hr v) (by decide : 0x10 ≠ 0), hprot rfl, hcnt,
      by rw [hframe], by rw [hframe]⟩

end Sys2Proof.Machine
end

section
/-! Outcomes of commands (R11, R19, R22, R23, R443): every command ends in a next state, along an edge of R19 unless it is a reset, and
the READY ball follows. -/

namespace Sys2Proof.Machine

/-- A command's outcome is its effect, as `finish` or `finishAny` or, of a reset command, `finishReset` passes it on. -/
theorem exec_outcome (c : Instr) (s : State) :
    (∃ t, exec c s = finish s t) ∨ (∃ t, exec c s = finishAny s t) ∨ (isReset c ∧ ∃ t, exec c s = finishReset s t) := by
  cases c with
  | powerOnReset | rstNAssert | perstNAssert | resetDeassert => exact .inr (.inr ⟨trivial, _, rfl⟩)
  | serialSupplyChange | tapOperation => exact .inr (.inl ⟨_, rfl⟩)
  | _ => exact .inl ⟨_, rfl⟩

/-- A command other than a reset leaves the die as it is, or ends as `finishAny` says. -/
theorem exec_of_not_isReset {c : Instr} (hc : ¬ isReset c) (s : State) :
    exec c s = .next s ∨ ∃ t, exec c s = finishAny s t := by
  rcases exec_outcome c s with ⟨t, h⟩ | h | ⟨hr, -⟩
  · by_cases hs : s.sys.run = .reset
    · exact .inl (h.trans (finish_reset t hs))
    · exact .inr ⟨t, h.trans (finish_awake t hs)⟩
  · exact .inr h
  · exact absurd hr hc

/-- The transitions that `finishAny` lets through are the edges of R19's table. -/
theorem RunState.allowed_iff_runEdge (a b : RunState) : RunState.allowed a b = true ↔ runEdge a b := by
  cases a <;> cases b <;> simp [RunState.allowed, runEdge]

/-- The READY flag is set in the four states of R22. -/
theorem RunState.isReady_iff (r : RunState) :
    r.isReady = true ↔ (r = .ready ∨ r = .armed ∨ r = .running ∨ r = .hold) := by
  cases r <;> simp [RunState.isReady]

/-- What `finishAny` keeps of every effect: queue and role, an edge of R19, and a sound ball. -/
theorem finishAny_keeps (s t : State) : ∃ u, finishAny s t = .next u ∧ u.pending = s.pending ∧ u.sys.role = s.sys.role ∧
    runEdge s.sys.run u.sys.run ∧ readySound u := by
  obtain ⟨r, hr, h⟩ := finishAny_spec s t
  refine ⟨_, h, rfl, rfl, ?_, RunState.isReady_iff r⟩
  rcases hr with ⟨rfl, ha⟩ | ⟨rfl, -⟩
  · exact (RunState.allowed_iff_runEdge _ _).mp ha
  · exact .inl rfl

/-- Settles O3: each outcome is a next state with the queue as it was. -/
theorem everyCommandEndsInANextState : Obligations.EveryCommandEndsInANextState := by
  intro c s
  rcases exec_outcome c s with ⟨t, h⟩ | ⟨t, h⟩ | ⟨-, t, h⟩
  · by_cases hs : s.sys.run = .reset
    · exact ⟨s, h.trans (finish_reset t hs), rfl⟩
    · obtain ⟨u, hu, hp, -⟩ := finishAny_keeps s t
      exact ⟨u, (h.trans (finish_awake t hs)).trans hu, hp⟩
  · obtain ⟨u, hu, hp, -⟩ := finishAny_keeps s t
    exact ⟨u, h.trans hu, hp⟩
  · exact ⟨_, h, rfl⟩

/-- A command other than a reset moves the run state along an edge of R19, and keeps the role. -/
theorem exec_edge {c : Instr} {s t : State} (hc : ¬ isReset c) (h : exec c s = .next t) :
    runEdge s.sys.run t.sys.run ∧ t.sys.role = s.sys.role := by
  rcases exec_of_not_isReset hc s with h' | ⟨u, h'⟩
  · obtain rfl : s = t := Host.Outcome.next.inj (h'.symm.trans h)
    exact ⟨.inl rfl, rfl⟩
  · obtain ⟨v, hv, -, hrole, hedge, -⟩ := finishAny_keeps s u
    obtain rfl : v = t := Host.Outcome.next.inj (hv.symm.trans (h'.symm.trans h))
    exact ⟨hedge, hrole⟩

/-- Settles O6: what `finishAny` lets through are edges of R19, and none of them leaves SAFE or RESET. -/
theorem runStateMovesOnlyAlongItsTable : Obligations.RunStateMovesOnlyAlongItsTable := by
  intro c s t h
  refine ⟨fun hc => exec_edge hc h, fun hs ht => ?_, fun hs ht => ?_⟩
  all_goals
    by_contra hc
    obtain ⟨hedge, -⟩ := exec_edge hc h
    rw [hs] at hedge
    simp [runEdge] at hedge
    exact ht hedge.symm

/-- A reset command leaves a sound READY ball sound: it is low in RESET and INIT. -/
theorem exec_isReset_readySound {c : Instr} {s t : State} (hc : isReset c) (hs : readySound s) (h : exec c s = .next t) :
    readySound t := by
  have hball : s.sys.run = .reset → s.sys.readyBall = false := fun hr => by rw [readyBall_eq hs, hr]; rfl
  cases c with
  | powerOnReset =>
    rw [exec_powerOnReset] at h
    cases h
    simp [readySound, powerOnReset, State.cleared]
  | rstNAssert =>
    obtain rfl := Host.Outcome.next.inj (h.symm.trans (rfl : exec .rstNAssert s = .next { rstNAssert s with pending := s.pending }))
    by_cases hr : s.sys.run = .reset
    · simp [readySound, rstNAssert, hr, hball hr]
    · simp [readySound, rstNAssert, hr, State.cleared]
  | perstNAssert straps =>
    obtain rfl := Host.Outcome.next.inj
      (h.symm.trans (rfl : exec (.perstNAssert straps) s = .next { perstNAssert straps s with pending := s.pending }))
    by_cases hr : s.sys.run = .reset
    · by_cases h2 : straps % 4 = 2 <;> simp [readySound, perstNAssert, hr, hball hr, h2]
    · by_cases h2 : s.isRoot = true
      · simp [readySound, perstNAssert, hr, h2, State.cleared]
      · simpa [perstNAssert, hr, h2] using hs
  | resetDeassert straps claspId =>
    by_cases hr : s.sys.run = .reset
    · rw [exec_resetDeassert s straps claspId hr] at h
      cases h
      rw [readySound, resetDeassert_frame s straps claspId hr]
      simp [State.strapped, hball hr]
    · rw [exec_resetDeassert_awake s straps claspId hr] at h
      cases h
      exact hs
  | _ => exact absurd hc id

/-- A command keeps the READY ball sound. -/
theorem exec_readySound {c : Instr} {s t : State} (hs : readySound s) (h : exec c s = .next t) : readySound t := by
  by_cases hc : isReset c
  · exact exec_isReset_readySound hc hs h
  · rcases exec_of_not_isReset hc s with h' | ⟨u, h'⟩
    · cases h'.symm.trans h
      exact hs
    · obtain ⟨v, hv, -, -, -, hsound⟩ := finishAny_keeps s u
      obtain rfl : v = t := Host.Outcome.next.inj (hv.symm.trans (h'.symm.trans h))
      exact hsound

/-- What `finish` passes on has a sound READY ball if the state before had. -/
theorem finish_readySound {s t u : State} (hs : readySound s) (h : finish s t = .next u) : readySound u := by
  by_cases hr : s.sys.run = .reset
  · rw [finish_reset t hr] at h
    cases h
    exact hs
  · obtain ⟨v, hv, -, -, -, hsound⟩ := finishAny_keeps s t
    rw [finish_awake t hr, hv] at h
    cases h
    exact hsound

/-- SYS_STATUS reads the role, the run state and READY, in every state of the die (R18, R22). -/
theorem State.regRead_sysStatus (s : State) :
    (s.regRead Reg.SYS_STATUS).1 = (s.sys.role.code * 256 + s.sys.run.code * 16 + b2n s.sys.run.isReady) % 2 ^ 32 := by
  have hgate : s.gate Reg.SYS_STATUS = none := rfl
  have hheld : Hit.held ⟨.sys, { off := 0, cls := .ro, rst := fun _ _ _ => 0x10 }, 0, 0, 0⟩ = false := rfl
  have hfuse : fuseBits ⟨.sys, { off := 0, cls := .ro, rst := fun _ _ _ => 0x10 }, 0, 0, 0⟩ = 0 := rfl
  have hn : Reg.SYS_STATUS ≠ Reg.ORB_SLOT ∧ Reg.SYS_STATUS ≠ Reg.WALL_NS := by decide
  simp only [State.regRead, findReg_sysStatus, State.latchWords, true_or, if_true, State.latchTime, hn, if_false, hgate, hheld,
    Bool.and_false, List.find?_eq_none.mpr (fun _ _ => Bool.false_ne_true), State.beforeFuses, hfuse, or_true, State.wordNow]
  simp [State.shown]

/-- SYS_STATUS.READY reads as R22 says of the run state. -/
theorem State.regRead_ready_iff (s : State) : bitsOf (s.regRead Reg.SYS_STATUS).1 0 1 = 1 ↔
    (s.sys.run = .ready ∨ s.sys.run = .armed ∨ s.sys.run = .running ∨ s.sys.run = .hold) := by
  rw [← RunState.isReady_iff, s.regRead_sysStatus]
  cases s.sys.run.isReady <;> simp [bitsOf, b2n] <;> omega

/-- Settles O4: the ball by what every outcome keeps, SYS_STATUS.READY by what it reads. -/
theorem stepKeepsTheReadyBall : Obligations.StepKeepsTheReadyBall := by
  intro s t hs h
  refine ⟨?_, t.regRead_ready_iff⟩
  unfold step at h
  split at h
  · exact finish_readySound hs h
  · next c rest _ => exact exec_readySound (s := { s with pending := rest }) hs h

/-- At reset, every register but the four that follow a leaf's role reads its reset value. -/
theorem State.rd_reset_other {a : Nat} (ha : a ∉ [Reg.ORB_CLK, Reg.WALL_SERVO, Reg.PORT_CFG 0, Reg.FE_CTRL]) :
    State.reset.rd a = (resetWord a).toNat := by
  simp only [List.mem_cons, List.not_mem_nil, or_false, not_or] at ha
  obtain ⟨hc, hw, hp, hf⟩ := ha
  simp [State.rd, State.reset, sget, Ne.symm hc, Ne.symm hw, Ne.symm hp, Ne.symm hf]

/-- Settles O5: the state at reset, field by field. -/
theorem resetLeavesTheDieInInit : Obligations.ResetLeavesTheDieInInit := fun _ =>
  ⟨by simp [readySound, State.reset], rfl, rfl, rfl, rfl, rfl, rfl, rfl, rfl, rfl, by decide, by decide, by decide, by decide,
    State.reset_swf, State.rd_reset_other⟩

end Sys2Proof.Machine
end

section
/-! Reads (R9, R33, R67, R468, R469): what a read answers, and what it latches. -/

namespace Sys2Proof.Machine

/-- What a register shows does not depend on the configuration window. -/
theorem State.wordNow_bus (s : State) (b : BusSt) (h : Hit) (a : Nat) : ({ s with bus := b }).wordNow h a = s.wordNow h a := rfl

/-- After fuse load a word reads as it is. -/
theorem State.beforeFuses_done {s : State} (hd : s.sys.fuseDone = true) (h : Hit) (v : Nat) : s.beforeFuses h v = (v, s) := by
  simp [State.beforeFuses, hd]

/-- The memory `m` with the words `ks` of the register at `a` latched in it. -/
def State.latchInto (s : State) (h : Hit) (a : Nat) (ks : List Nat) (m : List (Nat × Nat)) : List (Nat × Nat) :=
  ks.foldl (fun m k => sset 0 m (a + 4 * k) (s.wordNow { h with w := k } (a + 4 * k))) m

/-- A word that is latched, or was there already, is found. -/
theorem State.sget_latchInto (s : State) (h : Hit) (a : Nat) (ks : List Nat) (m : List (Nat × Nat)) {j : Nat}
    (hj : j ∈ ks ∨ sget 0 m (a + 4 * j) = s.wordNow { h with w := j } (a + 4 * j)) :
    sget 0 (s.latchInto h a ks m) (a + 4 * j) = s.wordNow { h with w := j } (a + 4 * j) := by
  induction ks generalizing m with
  | nil => simpa [State.latchInto] using hj
  | cons k ks ih =>
    refine ih _ ?_
    by_cases hk : j = k
    · subst hk
      exact .inr (sget_sset_same _ _ _ _)
    · rcases hj with hj | hj
      · exact .inl (by simpa [hk] using hj)
      · exact .inr ((sget_sset_other _ _ _ (by omega) _).trans hj)

/-- After fuse load, the fold that latches words changes the latches alone. -/
theorem State.latchFold_eq {s : State} (hd : s.sys.fuseDone = true) (h : Hit) (a : Nat) (ks : List Nat) (m : List (Nat × Nat)) :
    ks.foldl (fun (s : State) k =>
      let h' : Hit := { h with w := k }
      let (v, s) := s.beforeFuses h' (s.wordNow h' (a + 4 * k))
      { s with bus := { s.bus with latched := sset 0 s.bus.latched (a + 4 * k) v } })
      { s with bus := { s.bus with latched := m } } =
    { s with bus := { s.bus with latched := s.latchInto h a ks m } } := by
  induction ks generalizing m with
  | nil => rfl
  | cons k ks ih =>
    simp only [List.foldl_cons]
    rw [State.beforeFuses_done (s := { s with bus := { s.bus with latched := m } }) hd]
    exact ih _

/-- After fuse load, the read of a register's lowest word latches the others (R469). -/
theorem State.latchWords_eq {s : State} (hd : s.sys.fuseDone = true) {h : Hit} (hw : h.w = 0) (a : Nat) :
    s.latchWords h a = { s with bus := { s.bus with
      latched := s.latchInto h a ((List.range (h.row.words - 1)).map (· + 1)) s.bus.latched } } := by
  unfold State.latchWords
  split
  · next h1 =>
    have h1 : h.row.words = 1 := by simpa [hw] using h1
    simp [h1, State.latchInto]
  · exact State.latchFold_eq hd h a _ s.bus.latched

/-- After fuse load, a register's lowest word for which none is held answers its value and latches the others (R9, R469). -/
theorem State.regRead_low {s : State} {a : Nat} {h : Hit} (hf : findReg a = some h) (hd : s.sys.fuseDone = true) (hw : h.w = 0)
    (hheld : s.bus.held.all (fun p => decide (p.1 ≠ a)) = true) (ho : a ≠ Reg.ORB_SLOT) (hn : a ≠ Reg.WALL_NS) :
    s.regRead a = (s.wordNow h a, s.latchWords h a) := by
  have hfind : s.bus.held.find? (fun p => decide (p.1 = a) && h.held) = none := by
    simp only [List.all_eq_true, decide_eq_true_eq] at hheld
    exact List.find?_eq_none.mpr fun p hp => by simp [hheld p hp]
  have hbus := State.latchWords_eq hd hw a
  have hdone : (s.latchWords h a).sys.fuseDone = true := by rw [hbus]; exact hd
  have hgate : (s.latchWords h a).gate a = s.gate a := by rw [hbus]; rfl
  have hnow : (s.latchWords h a).wordNow h a = s.wordNow h a := by rw [hbus]; exact s.wordNow_bus _ h a
  simp only [State.regRead, hf, State.latchTime, ho, hn, if_false, hfind, hw, ne_eq, not_true_eq_false, and_false, hgate,
    State.beforeFuses_done hdone, hnow]
  split
  · next hg => simp [State.wordNow, hg]
  · rfl

/-- A read of the register range puts out what the register answers. -/
theorem State.readBack_reg {s : State} {a : Nat} (hv : inVault a = false) :
    s.readBack a = (s.regRead a).2.emit (.readback (s.regRead a).1 false) := by
  simp [State.readBack, State.busRead, hv]

/-- A command that reads a register puts out what it answers. -/
theorem finish_readBack {s t : State} (ha : Awake s) {a v : Nat} (hv : inVault a = false) (hr : s.regRead a = (v, t))
    (hs : t.sys = s.sys) (hp : t.pending = s.pending) : finish s (s.readBack a) = .next (t.emit (.readback v false)) := by
  rw [State.readBack_reg hv, hr]
  exact finish_eq ha hs hp

/-- With every lower word that is held elsewhere, a register that holds none of its own answers after fuse load with its value. -/
theorem exec_multiwordRead_low {s : State} (ha : Awake s) (hd : s.sys.fuseDone = true) {a : Nat} {h : Hit} (hf : findReg a = some h)
    (hw : h.w = 0) (ho : a ≠ Reg.ORB_SLOT) (hn : a ≠ Reg.WALL_NS) (hv : inVault a = false)
    (hheld : s.bus.held.all (fun p => decide (p.1 ≠ a)) = true) :
    ∃ t, exec (.multiwordRead a) s = .next t ∧ t.out = s.out ++ [.readback (s.wordNow h a) false] ∧
      (∀ k, 0 < k → k < h.row.words → sget 0 t.bus.latched (a + 4 * k) = s.wordNow { h with w := k } (a + 4 * k)) ∧
      t.bus = { s.bus with latched := s.latchInto h a ((List.range (h.row.words - 1)).map (· + 1)) s.bus.latched } ∧
      t = { s with bus := t.bus, out := t.out } := by
  have hbus := State.latchWords_eq hd hw a
  refine ⟨_, finish_readBack ha hv (State.regRead_low hf hd hw hheld ho hn) (by rw [hbus]) (by rw [hbus]), ?_⟩
  rw [hbus]
  refine ⟨rfl, fun k h0 hk => s.sget_latchInto h a _ _ (.inl ?_), rfl, rfl⟩
  exact List.mem_map.mpr ⟨k - 1, List.mem_range.mpr (by omega), by omega⟩

/-- ORB_SLOT in the register map. -/
theorem findReg_orbSlot : findReg Reg.ORB_SLOT = some ⟨.orb, { off := 0x14, cls := .ro }, 0, 0, 0⟩ := rfl

/-- WALL_NS in the register map. -/
theorem findReg_wallNs : findReg Reg.WALL_NS = some ⟨.wall, { off := 0, cls := .ro }, 0, 0, 0⟩ := rfl

/-- ORB_ORBIT in the register map. -/
theorem findReg_orbOrbit : findReg Reg.ORB_ORBIT = some ⟨.orb, { off := 0x18, cls := .ro }, 0, 0, 0⟩ := rfl

/-- TALLY_SUM in the register map. -/
theorem findReg_tallySum : findReg (Reg.TALLY_SUM 5) =
    some ⟨.tally, { off := 0x20000, n1 := 16384, s1 := 8, words := 2, cls := .ro }, 5, 0, 0⟩ := rfl

/-- After fuse load, the read of a register of one word for which none is held answers what it shows, and latches what spans
registers (R33, R67). -/
theorem State.regRead_single {s : State} {a : Nat} {h : Hit} (hf : findReg a = some h) (hd : s.sys.fuseDone = true)
    (hw : h.row.words = 1) (hh : h.held = false) (hg : (s.latchTime a).gate a = none) (hdone : (s.latchTime a).sys = s.sys) :
    s.regRead a = ((s.latchTime a).wordNow h a, s.latchTime a) := by
  have hfind : s.bus.held.find? (fun p => decide (p.1 = a) && h.held) = none := List.find?_eq_none.mpr fun p _ => by simp [hh]
  have hwords : s.latchWords h a = s := by simp [State.latchWords, hw]
  simp [State.regRead, hf, hwords, hg, hfind, hw, State.beforeFuses_done (s := s.latchTime a) (hdone ▸ hd)]

/-- ORB_SLOT answers slot and F-cycle, and latches the orbit (R33). -/
theorem State.regRead_orbSlot {s : State} (hd : s.sys.fuseDone = true) : s.regRead Reg.ORB_SLOT =
    ((if s.time.counting then s.time.slot + s.time.fcyc * 2 ^ 16 else 0) % 2 ^ 32,
      { s with time := { s.time with orbitLatch := s.orbitNow } }) :=
  State.regRead_single findReg_orbSlot hd rfl rfl rfl rfl

/-- WALL_NS answers the nanoseconds, and latches the date (R67). -/
theorem State.regRead_wallNs {s : State} (hd : s.sys.fuseDone = true) : s.regRead Reg.WALL_NS =
    (s.wallNs, { s with wall := { s.wall with secLatch := s.wallSec, stamp := s.stamp32 } }) := by
  have hlt : s.wallNs % 2 ^ 32 = s.wallNs := Nat.mod_eq_of_lt (lt_trans (Nat.mod_lt _ (by norm_num)) (by norm_num))
  rw [← hlt]
  exact State.regRead_single findReg_wallNs hd rfl rfl rfl rfl

/-- ORB_ORBIT answers the orbit last latched (R33). -/
theorem State.regRead_orbOrbit {s : State} (hd : s.sys.fuseDone = true) :
    s.regRead Reg.ORB_ORBIT = (s.time.orbitLatch % 2 ^ 32, s) :=
  State.regRead_single findReg_orbOrbit hd rfl rfl rfl rfl

/-- A TALLY_SUM register reads its sum, low word first, where it is not gated (R195). -/
theorem State.wordNow_tallySum (s : State) (w : Nat) :
    s.wordNow ⟨.tally, { off := 0x20000, n1 := 16384, s1 := 8, words := 2, cls := .ro }, 5, 0, w⟩ (Reg.TALLY_SUM 5 + 4 * w)
      = if (s.gate (Reg.TALLY_SUM 5 + 4 * w)).isSome then 0 else s.tallySum 5 / 2 ^ (32 * w) % 2 ^ 32 := by
  simp [State.wordNow, State.shown]

/-- Settles O17: each read by what its register shows and what reading it latches. -/
theorem readsAnswerAndLatch : Obligations.ReadsAnswerAndLatch := by
  intro s a ha hd hheld
  refine ⟨?orbSlot, ?wallNs, ?orbOrbit, fun hroot => ?tallySum, fun h hf hw ho hn hv hall => ?mapped, fun hf hv => ?unmapped⟩
  case orbSlot =>
    have h : exec .orbSlotRead s = _ := finish_readBack ha (by decide) (State.regRead_orbSlot hd) rfl rfl
    exact ⟨_, h, rfl, rfl, rfl⟩
  case wallNs =>
    have h : exec .wallNsRead s = _ := finish_readBack ha (by decide) (State.regRead_wallNs hd) rfl rfl
    exact ⟨_, h, rfl, rfl, rfl⟩
  case orbOrbit =>
    exact ⟨_, finish_readBack ha (by decide) (State.regRead_orbOrbit hd) rfl rfl, rfl⟩
  case tallySum =>
    have hall : s.bus.held.all (fun p => decide (p.1 ≠ Reg.TALLY_SUM 5)) = true := by
      simp only [List.all_eq_true, decide_eq_true_eq]
      exact fun p hp e => hheld p hp (by simp [e])
    have hgate : ∀ w, w < 2 → s.gate (Reg.TALLY_SUM 5 + 4 * w) = none := by
      intro w hw
      have hb : ∀ w, w < 2 → blockOf (Reg.TALLY_SUM 5 + 4 * w) = some .tally := by decide
      simp [State.gate, hb w hw, hroot]
    obtain ⟨t, ht, hout, hlat, -, hframe⟩ := exec_multiwordRead_low ha hd findReg_tallySum rfl (by decide) (by decide) (by decide) hall
    have hlow := s.wordNow_tallySum 0
    have hhigh := s.wordNow_tallySum 1
    simp only [hgate 0 (by decide), hgate 1 (by decide), Option.isSome_none, Bool.false_eq_true, if_false] at hlow hhigh
    exact ⟨t, ht, by rw [hout, ← Nat.div_one (s.tallySum 5)]; exact congrArg (fun v => s.out ++ [Out.readback v false]) hlow,
      (hlat 1 (by decide) (by decide)).trans hhigh, hframe⟩
  case mapped =>
    obtain ⟨t, ht, hout, hlat, -, hframe⟩ := exec_multiwordRead_low ha hd hf hw ho hn hv hall
    exact ⟨t, ht, hout, fun hg => by simp [State.wordNow, hg], fun hg => by simp [State.wordNow, hg], hlat, hframe⟩
  case unmapped => exact finish_readBack ha hv (by rw [State.regRead, hf]; rfl) rfl rfl

end Sys2Proof.Machine
end

section
/-! Orbit starts at a die that a copy has given its counters (R352): the orbit number is the copy's, not the one before plus 1. -/

namespace Sys2Proof.Machine

/-- A die in the last F-cycle of orbit 0, in which orbit 5 of the pair's active member, taken in this orbit, waits for the orbit start
to come (R352). -/
def copiedCounters : State :=
  { State.reset with
    time := { fRun := true, counting := true, len := 512, slot := 511, fcyc := 63 }
    clasp := { counters := some (0, 5, 0) } }

/-- The orbit number that an outcome leaves. -/
def orbitAfter : Host.Outcome State Fault Refusal → Option Nat
  | .next t => some t.time.orbit
  | _ => none

/-- The orbit that starts takes the copy's number and counts on from it (R352). -/
theorem orbitAfter_copiedCounters : orbitAfter (exec (.orbitStart true [] []) copiedCounters) = some 6 := by decide +kernel

/-- Refutes O12: where a copy's counters wait for the orbit start, the orbit is numbered from them (here 6), and not 1 more than the
orbit before (here 1). -/
theorem not_orbitsMarkersAndTheEndOfCapture : ¬ Obligations.OrbitsMarkersAndTheEndOfCapture := by
  rintro ⟨hstart, -⟩
  have hawake : Awake copiedCounters := ⟨by decide, by decide⟩
  obtain ⟨t, ht, -, -, -, -, horbit, -⟩ := hstart copiedCounters true [] [] hawake rfl rfl (by decide) (by decide)
  have h6 : some t.time.orbit = some 6 := by rw [← orbitAfter_copiedCounters, ht]; rfl
  have h1 : t.time.orbit = 1 := horbit
  rw [h1] at h6
  exact absurd h6 (by decide)

end Sys2Proof.Machine
end

section
/-! Loss of the clock at a RUNNING die (R21, R45, R175): the HOLD that it enters raises BUSY_OUT, and BUSY's change is kept with the trigger. -/

namespace Sys2Proof.Machine

/-- A RUNNING root on its ball clock with BUSY_OUT low. -/
def runningOnBall : State := { sys := { run := .running, readyBall := true } }

/-- What an outcome keeps of BUSY_OUT's last change. -/
def busyWasAfter : Host.Outcome State Fault Refusal → Option (Nat × Bool)
  | .next t => some t.trg.busyWas
  | _ => none

/-- BUSY_OUT rises with the HOLD: it was low in the slots before slot 1. -/
theorem busyWasAfter_runningOnBall : busyWasAfter (exec .bclkLost runningOnBall) = some (1, false) := by decide +kernel

/-- Refutes O13: a lost clock that takes a RUNNING die to HOLD changes the trigger's record of BUSY_OUT, and so more than registers, SYS,
time and TIU. -/
theorem not_timingIsLostHeldAndFollowed : ¬ Obligations.TimingIsLostHeldAndFollowed := by
  rintro ⟨hlost, -⟩
  have hawake : Awake runningOnBall := ⟨by decide, by decide⟩
  obtain ⟨⟨t, ht, -, -, -, -, -, -, -, -, -, hframe⟩, -⟩ := hlost runningOnBall hawake (.inl (by decide))
  have hwas : some t.trg.busyWas = some (1, false) := by rw [← busyWasAfter_runningOnBall, ht]; rfl
  have hkept : t.trg = runningOnBall.trg := by rw [hframe]
  rw [hkept] at hwas
  exact absurd hwas (by decide)

end Sys2Proof.Machine
end

section
/-! FE_CTRL written at a relay that holds a closed fragment for the Facet (R9, R74, R279): the same command lets the fragment move on. -/

namespace Sys2Proof.Machine

/-- A relay in READY with its matrix on, no fragment open, and a closed one that waits for a Facet engine. -/
def relayWithWaiting : State :=
  { sys := { role := .relay, run := .ready, readyBall := true }
    regs := [(Reg.FE_CTRL, 1)]
    facet := { wait := [{ frag := { tag := 0, kind := .accept, first := 0, last := 0, trig := 0 }
                          nuggets := [], miss := 0, ovf := 0, warn := false }] } }

/-- The fragments that an outcome leaves waiting for a Facet engine. -/
def waitingAfter : Host.Outcome State Fault Refusal → Option Nat
  | .next t => some t.facet.wait.length
  | _ => none

/-- An engine is free, so the fragment enters the Facet. -/
theorem waitingAfter_relayWithWaiting : waitingAfter (exec (.feCtrlWrite false 0) relayWithWaiting) = some 0 := by decide +kernel

/-- Refutes O18: a matrix powered down, with no fragment open, lets a closed fragment into the Facet, and so changes more than registers,
FE, VTDC, tiles, arbiters and assembly. -/
theorem not_frontEndIsSetAndSettles : ¬ Obligations.FrontEndIsSetAndSettles := by
  rintro ⟨hwrites, -⟩
  have hawake : Awake relayWithWaiting := ⟨by decide, by decide⟩
  obtain ⟨-, hoff, -⟩ := hwrites relayWithWaiting false 0 hawake rfl rfl
  obtain ⟨t, ht, -, -, -, -, -, -, -, hframe⟩ := hoff (by decide) rfl
  have hnone : some t.facet.wait.length = some 0 := by rw [← waitingAfter_relayWithWaiting, ht]; rfl
  have hkept : t.facet = relayWithWaiting.facet := by rw [hframe rfl]
  rw [hkept] at hnone
  exact absurd hnone (by decide)

end Sys2Proof.Machine
end

section
/-! ARM from the tree at a die whose answer takes its shaft uplink (R247, R327): the uplink's arbiter counts a grant. -/

namespace Sys2Proof.Machine

/-- A numbered relay in READY, its clock and digest ready to arm, with shaft port 0 in UP. -/
def armableRelay : State :=
  { sys := { role := .relay, run := .ready, readyBall := true, fuseDone := true }
    regs := [(Reg.ORB_CLK, 2), (Reg.ORB_STATUS, BitVec.ofNat 32 (2 ^ F.ORB_STATUS_PLL_LOCK.lo)), (Reg.TREE_ID, 2 ^ 31),
             (Reg.HALL_STATUS, 2 ^ 9), (Reg.PORT_CFG 0, 2 ^ 30 + 1), (Reg.PORT_STATUS 0, 6)] }

/-- The grants of the SHAFT uplink's arbiter that an outcome leaves counted. -/
def grantsAfter : Host.Outcome State Fault Refusal → Option Nat
  | .next t => some (t.rd (Reg.ARB_GRANT_CNT 16))
  | _ => none

/-- CFG_RESP to die 5, to which no drift routes, is granted the uplink. -/
theorem grantsAfter_armableRelay : grantsAfter (exec (.arm (.tree 0 5 0 0 0 0)) armableRelay) = some 1 := by decide +kernel

/-- Refutes O46: an ARM that is answered over the shaft leaves ARB_GRANT_CNT of its uplink one higher, and so not every register as it
was. -/
theorem not_treeCommandsAreAnswered : ¬ Obligations.TreeCommandsAreAnswered := by
  intro h
  have hawake : Awake armableRelay := ⟨by decide, by decide⟩
  obtain ⟨-, -, -, hruns, -⟩ := h armableRelay armableRelay 0 5 0 0 0 0 0 (parseCmd 0 []) hawake
  obtain ⟨-, -, -, -, -, -, -, -, -, harm, -⟩ :=
    hruns (by decide) (by decide) (by decide) (by decide) rfl rfl
  obtain ⟨t, ht, -, -, hregs, -⟩ := harm rfl (by decide) (by decide) rfl
  have hone : some (t.rd (Reg.ARB_GRANT_CNT 16)) = some 1 := by rw [← grantsAfter_armableRelay, ht]; rfl
  have hkept : t.rd (Reg.ARB_GRANT_CNT 16) = armableRelay.rd (Reg.ARB_GRANT_CNT 16) := by rw [State.rd, hregs, State.rd]
  rw [hkept] at hone
  exact absurd hone (by decide)

end Sys2Proof.Machine
end

section
/-! Frames: run state, times, host port and queue through the operations of the blocks. Alerts, strikes, arbitration, frames, blocks and
the work of vault, tally and Facet leave all four alone. -/

namespace Sys2Proof.Machine

/-- What the work of a block leaves alone: run state, times, host port and the queue of commands. -/
def State.still (s : State) : SysSt × TimeSt × HifSt × List Instr := (s.sys, s.time, s.hif, s.pending)

@[simp] theorem State.still_eta (s : State) : (s.sys, s.time, s.hif, s.pending) = s.still := Eq.trans rfl rfl

theorem State.still_mk (x0 x1 x2 x3 x4 x5 x6 x7 x8 x9 x10 x11 x12 x13 x14 x15 x16 x17 x18 x19 x20 x21 x22 x23 x24 x25 x26 x27 x28 x29) :
    (State.mk x0 x1 x2 x3 x4 x5 x6 x7 x8 x9 x10 x11 x12 x13 x14 x15 x16 x17 x18 x19 x20 x21 x22 x23 x24 x25 x26 x27 x28 x29).still =
      (x1, x2, x22, x29) := Eq.trans rfl rfl

@[simp] theorem State.still_ite (c : Prop) [Decidable c] (s t : State) :
    (if c then s else t).still = if c then s.still else t.still := apply_ite State.still c s t

theorem State.sys_of_still {s t : State} (h : t.still = s.still) : t.sys = s.sys := congrArg (·.1) h
theorem State.time_of_still {s t : State} (h : t.still = s.still) : t.time = s.time := congrArg (·.2.1) h
theorem State.hif_of_still {s t : State} (h : t.still = s.still) : t.hif = s.hif := congrArg (·.2.2.1) h
theorem State.pending_of_still {s t : State} (h : t.still = s.still) : t.pending = s.pending := congrArg (·.2.2.2) h

/-- What each step of a fold keeps, the fold keeps. -/
theorem foldl_keeps {α β : Type} (P : State → β) {f : State → α → State} (h : ∀ s x, P (f s x) = P s) (l : List α) (s : State) :
    P (l.foldl f s) = P s := by
  induction l generalizing s with
  | nil => rfl
  | cons x l ih => exact (ih (f s x)).trans (h s x)

@[simp] theorem foldl_still {α : Type} {f : State → α → State} (h : ∀ s x, (f s x).still = s.still) (l : List α) (s : State) :
    (l.foldl f s).still = s.still := foldl_keeps State.still h l s

@[simp] theorem State.wr_still (s : State) (a v : Nat) : (s.wr a v).still = s.still := Eq.trans rfl rfl
@[simp] theorem State.put_still (s : State) (f : Fld) (v : Nat) : (s.put f v).still = s.still := Eq.trans rfl rfl
@[simp] theorem State.incBy_still (s : State) (a n : Nat) : (s.incBy a n).still = s.still := Eq.trans rfl rfl
@[simp] theorem State.incWrap_still (s : State) (a : Nat) : (s.incWrap a).still = s.still := Eq.trans rfl rfl
@[simp] theorem State.wr64_still (s : State) (a v : Nat) : (s.wr64 a v).still = s.still := Eq.trans rfl rfl
@[simp] theorem State.wrS64_still (s : State) (a : Nat) (z : Int) : (s.wrS64 a z).still = s.still := Eq.trans rfl rfl
@[simp] theorem State.emit_still (s : State) (o : Out) : (s.emit o).still = s.still := Eq.trans rfl rfl
@[simp] theorem State.block_still (s : State) (p typ content : Nat) : (s.block p typ content).still = s.still := Eq.trans rfl rfl
@[simp] theorem State.setWall_still (s : State) (z : Int) : (s.setWall z).still = s.still := Eq.trans rfl rfl
@[simp] theorem State.pushUnit_still (s : State) (n : Nat) (p : Part) (q : Bool) (bs : List Byte) :
    (s.pushUnit n p q bs).still = s.still := Eq.trans rfl rfl
@[simp] theorem State.setChan_still (s : State) (n : Nat) (c : Chan) : (s.setChan n c).still = s.still := Eq.trans rfl rfl
@[simp] theorem State.setPair_still (s : State) (p : Nat) (v : Pair) : (s.setPair p v).still = s.still := Eq.trans rfl rfl
@[simp] theorem State.setArb_still (s : State) (i : Nat) (a : Arb) : (s.setArb i a).still = s.still := Eq.trans rfl rfl
@[simp] theorem State.setTile_still (s : State) (t : Nat) (v : Tile) : (s.setTile t v).still = s.still := Eq.trans rfl rfl
@[simp] theorem State.setPort_still (s : State) (p : Nat) (v : PortSt) : (s.setPort p v).still = s.still := Eq.trans rfl rfl
@[simp] theorem State.setLane_still (s : State) (l : Nat) (v : LaneSt) : (s.setLane l v).still = s.still := Eq.trans rfl rfl
@[simp] theorem State.setVword_still (s : State) (w v : Nat) : (s.setVword w v).still = s.still := Eq.trans rfl rfl
@[simp] theorem State.setBankQ_still (s : State) (b : Nat) (v : BankQ) : (s.setBankQ b v).still = s.still := Eq.trans rfl rfl
@[simp] theorem State.setTword_still (s : State) (w v : Nat) : (s.setTword w v).still = s.still := Eq.trans rfl rfl

/-! Alerts and strikes. -/

@[simp] theorem State.logAlert_still (s : State) (rec : List Byte) : (s.logAlert rec).still = s.still := by
  simp [State.logAlert, ↓State.still_mk]
@[simp] theorem State.sendAlert_still (s : State) (sev : Sev) (rec : List Byte) : (s.sendAlert sev rec).still = s.still := by
  simp [State.sendAlert, ↓State.still_mk]
@[simp] theorem State.alert_still (s : State) (sev : Sev) (a b ut ui d : Nat) : (s.alert sev a b ut ui d).still = s.still := by
  simp [State.alert]
@[simp] theorem State.warn_still (s : State) (f : Fld) (d : Nat) : (s.warn f d).still = s.still := by simp [State.warn]
@[simp] theorem State.warnCnt_still (s : State) (a d : Nat) : (s.warnCnt a d).still = s.still := by simp [State.warnCnt]
@[simp] theorem State.addStrike_still (s : State) (ty ix : Nat) : (s.addStrike ty ix).still = s.still := by
  simp [State.addStrike, ↓State.still_mk]
@[simp] theorem State.retire_still (s : State) (ty ix : Nat) : (s.retire ty ix).still = s.still := by simp [State.retire, ↓State.still_mk]
@[simp] theorem State.pendRetire_still (s : State) (ty ix : Nat) : (s.pendRetire ty ix).still = s.still := by
  simp [State.pendRetire, ↓State.still_mk]
@[simp] theorem State.safeRecord_still (s : State) (cause : Nat) : (s.safeRecord cause).still = s.still := by
  simp [State.safeRecord]

/-! Arbiters. -/

@[simp] theorem State.arbTurn_still (s : State) (i : Nat) : (s.arbTurn i).still = s.still := by simp [State.arbTurn]
@[simp] theorem State.arbCountMask_still (s : State) (i : Nat) : (s.arbCountMask i).still = s.still := by
  simp [State.arbCountMask]
@[simp] theorem State.arbGrant_still (s : State) (i : Nat) (q : ArbReq) : (s.arbGrant i q).still = s.still := by
  simp [State.arbGrant]
@[simp] theorem State.arbDecide_still (s : State) (i : Nat) : (s.arbDecide i).still = s.still := by
  unfold State.arbDecide; dsimp only; split <;> simp
@[simp] theorem State.arbJoin_still (s : State) (i : Nat) (q : ArbReq) : (s.arbJoin i q).still = s.still := by
  simp [State.arbJoin]
@[simp] theorem State.arbSettle_still (s : State) (i : Nat) : (s.arbSettle i).still = s.still := by simp [State.arbSettle]
@[simp] theorem State.arbReady_still (s : State) (i : Nat) : (s.arbReady i).still = s.still := by simp [State.arbReady]
@[simp] theorem State.arbDrop_still (s : State) (i r : Nat) : (s.arbDrop i r).still = s.still := by
  unfold State.arbDrop; dsimp only; split <;> simp
@[simp] theorem State.arbRelease_still (s : State) (i : Nat) : (s.arbRelease i).still = s.still := by
  unfold State.arbRelease; dsimp only; (repeat' split) <;> simp
@[simp] theorem State.arbReclass_still (s : State) (i : Nat) : (s.arbReclass i).still = s.still := by simp [State.arbReclass]
@[simp] theorem State.bankOp_still (s : State) (b r : Nat) : (s.bankOp b r).still = s.still := by simp [State.bankOp]

/-! Frames. -/

@[simp] theorem State.takeKey_still (s : State) (p : Nat) : (s.takeKey p).2.still = s.still := by
  unfold State.takeKey; dsimp only; (repeat' split) <;> simp
@[simp] theorem State.txFrame_still (s : State) (p v typ stream : Nat) (bs : List Byte) :
    (s.txFrame p v typ stream bs).still = s.still := by simp [State.txFrame]
@[simp] theorem State.controlGrant_still (s : State) (p n : Nat) : (s.controlGrant p n).2.still = s.still := by
  unfold State.controlGrant; split <;> simp
@[simp] theorem State.sendControl_still (s : State) (p : Nat) (f : Nat × Nat × List Byte) : (s.sendControl p f).still = s.still := by
  simp [State.sendControl]
@[simp] theorem State.controlDone_still (s : State) (p : Nat) : (s.controlDone p).still = s.still := by simp [State.controlDone]
@[simp] theorem pumpFrom_still (p k : Nat) (s : State) : (pumpFrom p k s).still = s.still := by
  induction k generalizing s with
  | zero => rfl
  | succ k ih => unfold pumpFrom; split <;> simp [ih]
@[simp] theorem State.pump_still (s : State) (p : Nat) : (s.pump p).still = s.still := by simp [State.pump]
@[simp] theorem State.queueFrame_still (s : State) (p v typ : Nat) (bs : List Byte) : (s.queueFrame p v typ bs).still = s.still := by
  simp [State.queueFrame]
@[simp] theorem State.sendVc1_still (s : State) (p : Nat) (m : Vc1) : (s.sendVc1 p m).still = s.still := by simp [State.sendVc1]
@[simp] theorem State.sendUp1_still (s : State) (m : Vc1) : (s.sendUp1 m).still = s.still := by simp [State.sendUp1]
@[simp] theorem State.sendVc0_still (s : State) (p : Nat) (bs : List Byte) : (s.sendVc0 p bs).still = s.still := by
  simp [State.sendVc0]
@[simp] theorem State.sendUp0_still (s : State) (bs : List Byte) : (s.sendUp0 bs).still = s.still := by simp [State.sendUp0]
@[simp] theorem State.sendUpTo_still (s : State) (dst : Nat) (bs : List Byte) : (s.sendUpTo dst bs).still = s.still := by
  unfold State.sendUpTo; (repeat' split) <;> simp
@[simp] theorem State.sendTo_still (s : State) (dst : Nat) (bs : List Byte) : (s.sendTo dst bs).still = s.still := by
  unfold State.sendTo; (repeat' split) <;> simp

/-! The trigger path. -/

@[simp] theorem State.markLeft_still (s : State) (u : BUnit) : (s.markLeft u).still = s.still := by
  unfold State.markLeft; dsimp only; (repeat' split) <;> simp [↓State.still_mk]
@[simp] theorem State.busyFollows_still (s t : State) : (s.busyFollows t).still = t.still := by simp [State.busyFollows, ↓State.still_mk]
@[simp] theorem State.queueTrigger_still (s : State) (m : TrigMsg) (z : Option Int) : (s.queueTrigger m z).still = s.still := by
  cases z <;> simp [State.queueTrigger, ↓State.still_mk]
@[simp] theorem busyUpdate_still (s : State) : (busyUpdate s).still = s.still := by simp [busyUpdate, ↓State.still_mk]
@[simp] theorem busyLost_still (p : Nat) (s : State) : (busyLost p s).still = s.still := by simp [busyLost, ↓State.still_mk]
@[simp] theorem busyRefresh_still (s : State) : (busyRefresh s).still = s.still := by simp [busyRefresh]
@[simp] theorem endFreeze_still (s : State) : (endFreeze s).still = s.still := by
  unfold endFreeze; split <;> simp [↓State.still_mk]

end Sys2Proof.Machine
end

section
/-! Frames of the blocks that count, build, code and store: vault, tally, capture, Facet, buffer and front end. -/

namespace Sys2Proof.Machine

/-! The vault. -/

@[simp] theorem State.queueRow_still (s : State) (row : Nat) : (s.queueRow row).still = s.still := by
  simp [State.queueRow, ↓State.still_mk]
@[simp] theorem State.strikeRow_still (s : State) (row : Nat) : (s.strikeRow row).still = s.still := by simp [State.strikeRow]
@[simp] theorem State.vaultErr_still (s : State) (typ w syn : Nat) : (s.vaultErr typ w syn).still = s.still := by
  simp [State.vaultErr]
@[simp] theorem State.noteCorrected_still (s : State) (w : Nat) : (s.noteCorrected w).still = s.still := by
  simp [State.noteCorrected, ↓State.still_mk]
@[simp] theorem State.vaultSeen_still (s : State) (w : Nat) (f : Found) : (s.vaultSeen w f).still = s.still := by
  cases f <;> simp [State.vaultSeen]
@[simp] theorem State.vaultNote_still (s : State) (w : Nat) (f : Found) : (s.vaultNote w f).still = s.still := by
  cases f <;> simp [State.vaultNote]
@[simp] theorem State.readWord_still (s : State) (w : Nat) (b : Bool) : (s.readWord w b).2.2.still = s.still := by
  unfold State.readWord; dsimp only; split <;> simp
@[simp] theorem State.writeWord_still (s : State) (w d : Nat) : (s.writeWord w d).still = s.still := by simp [State.writeWord]
@[simp] theorem State.addEntry_still (s : State) (e k : Nat) : (s.addEntry e k).still = s.still := by
  unfold State.addEntry; dsimp only; split <;> simp
@[simp] theorem serveBank_still (b k : Nat) (s : State) : (serveBank b k s).still = s.still := by
  induction k generalizing s with
  | zero => rfl
  | succ k ih => unfold serveBank; split <;> simp [ih]
@[simp] theorem State.bankNow_still (s : State) (b : Nat) : (s.bankNow b).still = s.still := by simp [State.bankNow]
@[simp] theorem State.incEntry_still (s : State) (e : Nat) : (s.incEntry e).still = s.still := by
  simp [State.incEntry, ↓State.still_mk]
@[simp] theorem State.settleWord_still (s : State) (w : Nat) : (s.settleWord w).still = s.still := by simp [State.settleWord]
@[simp] theorem State.remapRow_still (s : State) (row spare : Nat) : (s.remapRow row spare).still = s.still := by
  simp [State.remapRow, ↓State.still_mk]

/-! The tally. -/

@[simp] theorem State.addCounter_still (s : State) (word lo w k : Nat) : (s.addCounter word lo w k).still = s.still := by
  unfold State.addCounter; dsimp only; split <;> simp
@[simp] theorem tallyCount_still (n slot fine tot : Nat) (s : State) : (tallyCount n slot fine tot s).still = s.still := by
  unfold tallyCount; split <;> simp [↓State.still_mk]
@[simp] theorem tallyBuilt_still (b : Built) (s : State) : (tallyBuilt b s).still = s.still := by simp [tallyBuilt]
@[simp] theorem mirrorOne_still (s : State) (w : Nat) : (mirrorOne s w).still = s.still := by simp [mirrorOne]
@[simp] theorem tallyMirror_still (s : State) : (tallyMirror s).still = s.still := by simp [tallyMirror]
@[simp] theorem tallyOrbit_still (s : State) : (tallyOrbit s).still = s.still := by simp [tallyOrbit, ↓State.still_mk]

/-! Capture. -/

@[simp] theorem State.dropCal_still (s : State) (p : Nat) : (s.dropCal p).still = s.still := by simp [State.dropCal]
@[simp] theorem State.dropCals_still (s : State) (ch : Nat) : (s.dropCals ch).still = s.still := by simp [State.dropCals]
@[simp] theorem State.tileDown_still (s : State) (t : Nat) : (s.tileDown t).still = s.still := by
  simp [State.tileDown, ↓State.still_mk]
@[simp] theorem State.strikeTile_still (s : State) (t : Nat) : (s.strikeTile t).still = s.still := by simp [State.strikeTile]
@[simp] theorem State.strikeColumn_still (s : State) (c : Nat) : (s.strikeColumn c).still = s.still := by
  simp [State.strikeColumn]
@[simp] theorem State.closeStrikes_still (s : State) (f : Frag) : (s.closeStrikes f).still = s.still := by
  simp [State.closeStrikes]
@[simp] theorem drainFrom_still (k : Nat) (s : State) : (drainFrom k s).still = s.still := by
  induction k generalizing s with
  | zero => rfl
  | succ k ih => unfold drainFrom; split <;> simp [ih, ↓State.still_mk]
@[simp] theorem State.drain_still (s : State) : s.drain.still = s.still := by simp [State.drain]
@[simp] theorem State.freeTiles_still (s : State) : s.freeTiles.still = s.still := by
  unfold State.freeTiles; (repeat' split) <;> simp [↓State.still_mk]

/-! The uplinks. -/

@[simp] theorem State.mapRel_still (s : State) (h : Nat) (f : Release → Release) : (s.mapRel h f).still = s.still :=
  Eq.trans rfl rfl
@[simp] theorem State.readyAccept_still (s : State) (e : TrigEntry) : (s.readyAccept e).still = s.still := Eq.trans rfl rfl
@[simp] theorem nackAtOrigin_still (m : SpecMsg) (s : State) : (nackAtOrigin m s).still = s.still := by
  unfold nackAtOrigin; (repeat' split) <;> simp [↓State.still_mk]
@[simp] theorem State.nackFragment_still (s : State) (id : SpecId) : (s.nackFragment id).still = s.still := by
  unfold State.nackFragment; dsimp only; (repeat' split) <;> simp
@[simp] theorem State.freeBelow_still (s : State) : s.freeBelow.still = s.still := by simp [State.freeBelow, ↓State.still_mk]
@[simp] theorem State.specReclass_still (s : State) : s.specReclass.still = s.still := by simp [State.specReclass]
@[simp] theorem State.uplinkPoll_still (s : State) (i : Nat) : (s.uplinkPoll i).still = s.still := by
  unfold State.uplinkPoll; (repeat' split) <;> simp
@[simp] theorem State.uplinks_still (s : State) : s.uplinks.still = s.still := by simp [State.uplinks]

/-! Facet and buffer. -/

@[simp] theorem takeClosed_still (s : State) : (takeClosed s).still = s.still := by
  simp [takeClosed, ↓State.still_mk]
@[simp] theorem intoFacet_still (k : Nat) (s : State) : (intoFacet k s).still = s.still := by
  induction k generalizing s with
  | zero => rfl
  | succ k ih => unfold intoFacet; split <;> simp [ih, ↓State.still_mk]
theorem State.enterBuffer_still {s t : State} {b : Built} {bs : List Byte} (h : s.enterBuffer b bs = some t) :
    t.still = s.still := by
  unfold State.enterBuffer at h
  dsimp only at h
  (repeat' split at h) <;> cases h <;> simp [↓State.still_mk]
@[simp] theorem intoBuffer_still (k : Nat) (s : State) : (intoBuffer k s).still = s.still := by
  induction k generalizing s with
  | zero => rfl
  | succ k ih =>
    unfold intoBuffer
    split
    · rfl
    · split
      · rfl
      · split
        · rfl
        · next h => simp [ih, ↓State.still_mk, State.enterBuffer_still h]
@[simp] theorem fragOut_still (s : State) : (fragOut s).still = s.still := by simp [fragOut]
@[simp] theorem State.mapOpen_still (s : State) (p : Nat) (pc : Piece) (f : BUnit → BUnit) : (s.mapOpen p pc f).still = s.still :=
  Eq.trans rfl rfl
@[simp] theorem State.dropOpen_still (s : State) (p : Nat) (pc : Piece) : (s.dropOpen p pc).still = s.still := Eq.trans rfl rfl
@[simp] theorem State.abortOpen_still (s : State) (p : Nat) (pc : Piece) : (s.abortOpen p pc).still = s.still := by
  unfold State.abortOpen; (repeat' split) <;> simp
@[simp] theorem State.abortPort_still (s : State) (p : Nat) : (s.abortPort p).still = s.still := by simp [State.abortPort]

end Sys2Proof.Machine
end

section
/-! Frames of front end, TIU, ports and tree, and the two times that start-up sets (R44, R445): that the F-clock runs and that the PLL
has locked. Nothing that the PLL's lock sets off takes either back. -/

namespace Sys2Proof.Machine

/-! Front end and phase loop. -/

@[simp] theorem State.holdPhase_still (s : State) : s.holdPhase.still = s.still := Eq.trans rfl rfl
@[simp] theorem State.calRange_still (s : State) : s.calRange.still = s.still := by simp [State.calRange]
@[simp] theorem State.clampCheck_still (s : State) : s.clampCheck.still = s.still := by simp [State.clampCheck]
@[simp] theorem State.ofsApply_still (s : State) : s.ofsApply.still = s.still := by simp [State.ofsApply, ↓State.still_mk]
@[simp] theorem State.strikeChan_still (s : State) (n : Nat) : (s.strikeChan n).still = s.still := by simp [State.strikeChan]
@[simp] theorem noiseCheck_still (s : State) : (noiseCheck s).still = s.still := by simp [noiseCheck]
@[simp] theorem leakUpdate_still (above below : List Nat) (s : State) : (leakUpdate above below s).still = s.still := by
  simp [leakUpdate]
@[simp] theorem State.retireNow_still (s : State) (n : Nat) : (s.retireNow n).still = s.still := by
  simp [State.retireNow, ↓State.still_mk]
@[simp] theorem State.wallLoad_still (s : State) : s.wallLoad.still = s.still := by simp [State.wallLoad]

/-! The TIU. -/

@[simp] theorem tiuFinish_still (s : State) : (tiuFinish s).still = s.still := by simp [tiuFinish]
@[simp] theorem tiuClose_still (x : Int) (s : State) : (tiuClose x s).still = s.still := by simp [tiuClose, ↓State.still_mk]
@[simp] theorem tiuOpen_still (st : Stamp) (s : State) : (tiuOpen st s).still = s.still := Eq.trans rfl rfl
@[simp] theorem State.useStop_still (s : State) (p : Stamp) : (s.useStop p).still = s.still := Eq.trans rfl rfl
@[simp] theorem tiuStartEdge_still (st : Stamp) (s : State) : (tiuStartEdge st s).still = s.still := by
  unfold tiuStartEdge; (repeat' split) <;> simp [↓State.still_mk]
@[simp] theorem tiuStopEdge_still (st : Stamp) (s : State) : (tiuStopEdge st s).still = s.still := by
  unfold tiuStopEdge; dsimp only; (repeat' split) <;> simp [↓State.still_mk]
@[simp] theorem tiuEdge_still (src : Nat) (st : Stamp) (s : State) : (tiuEdge src st s).still = s.still := by
  unfold tiuEdge; dsimp only; (repeat' split) <;> simp
@[simp] theorem tiuMarker_still (s : State) : (tiuMarker s).still = s.still := by simp [tiuMarker]
@[simp] theorem tiuStart_still (s : State) : (tiuStart s).still = s.still := by simp [tiuStart, ↓State.still_mk]
@[simp] theorem tiuAbort_still (s : State) : (tiuAbort s).still = s.still := by simp [tiuAbort, ↓State.still_mk]
@[simp] theorem tiuCommand_still (abort start : Bool) (s : State) : (tiuCommand abort start s).still = s.still := by
  simp [tiuCommand]

/-! Ports. -/

@[simp] theorem State.setLanes_still (s : State) (p : Nat) (ls : List Nat) : (s.setLanes p ls).still = s.still := by
  unfold State.setLanes; dsimp only; split <;> simp
@[simp] theorem State.lanePower_still (s : State) (l : Nat) (on : Bool) : (s.lanePower l on).still = s.still := by
  simp [State.lanePower]
@[simp] theorem State.sendTrain_still (s : State) (p step : Nat) : (s.sendTrain p step).still = s.still := by
  simp [State.sendTrain]
@[simp] theorem State.toBase_still (s : State) (p : Nat) : (s.toBase p).still = s.still := by simp [State.toBase]
@[simp] theorem State.clearRoutes_still (s : State) (p : Nat) : (s.clearRoutes p).still = s.still := by
  simp [State.clearRoutes, ↓State.still_mk]
@[simp] theorem State.parentRetire_still (s : State) (i : Nat) : (s.parentRetire i).still = s.still := by
  simp [State.parentRetire, ↓State.still_mk]
@[simp] theorem State.strikeParent_still (s : State) (p : Nat) : (s.strikeParent p).still = s.still := by
  simp [State.strikeParent]

/-! The tree. -/

@[simp] theorem State.sendHome_still (s : State) (p : Nat) (promote dup : Bool) : (s.sendHome p promote dup).still = s.still := by
  simp [State.sendHome]
@[simp] theorem State.homeDup_still (s : State) (die : Nat) : (s.homeDup die).still = s.still := by
  unfold State.homeDup; split <;> simp [↓State.still_mk]
@[simp] theorem State.recordRoute_still (s : State) (die drift : Nat) (alt : Bool) :
    (s.recordRoute die drift alt).still = s.still := by simp [State.recordRoute, ↓State.still_mk]
@[simp] theorem State.assignChild_still (s : State) (a : Assign) : (s.assignChild a).still = s.still := by
  unfold State.assignChild; split <;> simp
@[simp] theorem State.assignDown_still (s : State) (a : Assign) : (s.assignDown a).still = s.still := by
  unfold State.assignDown; (repeat' split) <;> simp
@[simp] theorem State.refuseChild_still (s : State) (drift reason : Nat) : (s.refuseChild drift reason).still = s.still := by
  unfold State.refuseChild; split <;> simp
@[simp] theorem State.refuse_still (s : State) (c : NewChild) (reason : Nat) : (s.refuse c reason).still = s.still := by
  simp [State.refuse]
@[simp] theorem State.sendAssign_still (s : State) (a : Assign) : (s.sendAssign a).still = s.still := by
  simp [State.sendAssign]
@[simp] theorem State.tableJoin_still (s : State) (j : Join) : (s.tableJoin j).still = s.still := Eq.trans rfl rfl
@[simp] theorem State.assign_still (s : State) (c : NewChild) (die level : Nat) : (s.assign c die level).still = s.still := by
  simp [State.assign]
@[simp] theorem State.assignAlt_still (s : State) (c : NewChild) (j : Join) : (s.assignAlt c j).still = s.still := by
  simp [State.assignAlt]
@[simp] theorem State.rootNewChild_still (s : State) (c : NewChild) : (s.rootNewChild c).still = s.still := by
  unfold State.rootNewChild; dsimp only; (repeat' split) <;> simp
@[simp] theorem State.takeNewChild_still (s : State) (c : NewChild) : (s.takeNewChild c).still = s.still := by
  simp [State.takeNewChild]
@[simp] theorem State.newChild_still (s : State) (p : Nat) : (s.newChild p).still = s.still := by
  unfold State.newChild; dsimp only; (repeat' split) <;> simp
@[simp] theorem State.newChildResend_still (s : State) : s.newChildResend.still = s.still := by simp [State.newChildResend]

/-! The start of an orbit. -/

@[simp] theorem State.decayType_still (s : State) (ty : Nat) : (s.decayType ty).still = s.still := Eq.trans rfl rfl
@[simp] theorem decayTick_still (s : State) (ty : Nat) : (decayTick s ty).still = s.still := by
  simp [decayTick, ↓State.still_mk]
@[simp] theorem State.decays_still (s : State) : s.decays.still = s.still := by simp [State.decays, ↓State.still_mk]
@[simp] theorem State.sendMarker_still (s : State) (p : Nat) : (s.sendMarker p).still = s.still := by
  simp [State.sendMarker, State.fresh, ↓State.still_mk]

/-! What the PLL's lock sets. -/

/-- The PLL has locked once, and the F-clock runs (R44, R445). -/
def State.clock (s : State) : Bool × Bool := (s.sys.pllDone, s.time.fRun)

theorem State.clock_mk (x0 x1 x2 x3 x4 x5 x6 x7 x8 x9 x10 x11 x12 x13 x14 x15 x16 x17 x18 x19 x20 x21 x22 x23 x24 x25 x26 x27 x28 x29) :
    (State.mk x0 x1 x2 x3 x4 x5 x6 x7 x8 x9 x10 x11 x12 x13 x14 x15 x16 x17 x18 x19 x20 x21 x22 x23 x24 x25 x26 x27 x28 x29).clock =
      (x1.pllDone, x2.fRun) := Eq.trans rfl rfl
@[simp] theorem State.clock_eta (s : State) : (s.sys.pllDone, s.time.fRun) = s.clock := Eq.trans rfl rfl
@[simp] theorem State.clock_ite (c : Prop) [Decidable c] (s t : State) :
    (if c then s else t).clock = if c then s.clock else t.clock := apply_ite State.clock c s t
@[simp] theorem foldl_clock {α : Type} {f : State → α → State} (h : ∀ s x, (f s x).clock = s.clock) (l : List α) (s : State) :
    (l.foldl f s).clock = s.clock := foldl_keeps State.clock h l s

/-- What leaves run state and times alone leaves the clock alone. -/
theorem State.clock_of_still {s t : State} (h : t.still = s.still) : t.clock = s.clock := by
  rw [State.clock, State.clock, State.sys_of_still h, State.time_of_still h]

@[simp] theorem State.wr_clock (s : State) (a v : Nat) : (s.wr a v).clock = s.clock := Eq.trans rfl rfl
@[simp] theorem State.incBy_clock (s : State) (a n : Nat) : (s.incBy a n).clock = s.clock := Eq.trans rfl rfl
@[simp] theorem State.incWrap_clock (s : State) (a : Nat) : (s.incWrap a).clock = s.clock := Eq.trans rfl rfl
@[simp] theorem State.put_clock (s : State) (f : Fld) (v : Nat) : (s.put f v).clock = s.clock := Eq.trans rfl rfl
@[simp] theorem State.block_clock (s : State) (p typ content : Nat) : (s.block p typ content).clock = s.clock := Eq.trans rfl rfl
@[simp] theorem State.setLane_clock (s : State) (l : Nat) (v : LaneSt) : (s.setLane l v).clock = s.clock := Eq.trans rfl rfl

@[simp] theorem State.retire_clock (s : State) (ty ix : Nat) : (s.retire ty ix).clock = s.clock :=
  State.clock_of_still (s.retire_still ty ix)
@[simp] theorem State.addStrike_clock (s : State) (ty ix : Nat) : (s.addStrike ty ix).clock = s.clock :=
  State.clock_of_still (s.addStrike_still ty ix)
@[simp] theorem State.holdPhase_clock (s : State) : s.holdPhase.clock = s.clock := Eq.trans rfl rfl
@[simp] theorem State.lanePower_clock (s : State) (l : Nat) (on : Bool) : (s.lanePower l on).clock = s.clock :=
  State.clock_of_still (s.lanePower_still l on)
@[simp] theorem State.setLanes_clock (s : State) (p : Nat) (ls : List Nat) : (s.setLanes p ls).clock = s.clock :=
  State.clock_of_still (s.setLanes_still p ls)
@[simp] theorem State.toBase_clock (s : State) (p : Nat) : (s.toBase p).clock = s.clock := State.clock_of_still (s.toBase_still p)

@[simp] theorem State.enter_clock (s : State) (r : RunState) : (s.enter r).clock = s.clock := by
  rw [State.enter, State.clock_of_still (State.busyFollows_still _ _)]
  simp [↓State.clock_mk]
@[simp] theorem State.loseTiming_clock (s : State) : s.loseTiming.clock = s.clock := by simp [State.loseTiming]
@[simp] theorem State.regainTiming_clock (s : State) : s.regainTiming.clock = s.clock := by simp [State.regainTiming]
@[simp] theorem State.tryRegain_clock (s : State) : s.tryRegain.clock = s.clock := by simp [State.tryRegain]
@[simp] theorem State.loseShaft_clock (s : State) : s.loseShaft.clock = s.clock := by
  simp [State.loseShaft, ↓State.clock_mk]
@[simp] theorem State.sawOff_clock (s : State) (t : Nat) : (s.sawOff t).clock = s.clock := Eq.trans rfl rfl
@[simp] theorem State.loopSource_clock (s : State) : s.loopSource.clock = s.clock := by simp [State.loopSource]

/-! Ports that go DOWN. -/

@[simp] theorem State.shaftTimingLost_clock (s : State) (p : Nat) : (s.shaftTimingLost p).clock = s.clock := by
  unfold State.shaftTimingLost
  split
  · exact (State.clock_of_still (State.strikeParent_still _ p)).trans s.loseShaft_clock
  · rfl
@[simp] theorem State.shaftLost_clock (s : State) (p : Nat) : (s.shaftLost p).clock = s.clock := by
  simp [State.shaftLost, ↓State.clock_mk]

@[simp] theorem State.setPort_clock (s : State) (p : Nat) (v : PortSt) : (s.setPort p v).clock = s.clock := Eq.trans rfl rfl
@[simp] theorem State.abortPort_clock (s : State) (p : Nat) : (s.abortPort p).clock = s.clock :=
  State.clock_of_still (s.abortPort_still p)
@[simp] theorem State.clearRoutes_clock (s : State) (p : Nat) : (s.clearRoutes p).clock = s.clock :=
  State.clock_of_still (s.clearRoutes_still p)
@[simp] theorem busyLost_clock (p : Nat) (s : State) : (busyLost p s).clock = s.clock := State.clock_of_still (busyLost_still p s)

@[simp] theorem State.portDown_clock (s : State) (p : Nat) : (s.portDown p).clock = s.clock := by
  simp [State.portDown, ↓State.clock_mk]
@[simp] theorem State.portLost_clock (s : State) (p : Nat) : (s.portLost p).clock = s.clock := by simp [State.portLost]
@[simp] theorem State.portRetire_clock (s : State) (p : Nat) : (s.portRetire p).clock = s.clock := by simp [State.portRetire]
@[simp] theorem State.strikePort_clock (s : State) (p : Nat) : (s.strikePort p).clock = s.clock := by simp [State.strikePort]
@[simp] theorem State.laneRetire_clock (s : State) (l : Nat) : (s.laneRetire l).clock = s.clock := by
  unfold State.laneRetire; dsimp only; (repeat' split) <;> simp

/-! The start of an orbit, and what waits for it. -/

@[simp] theorem State.calUpdate_clock (s : State) : s.calUpdate.clock = s.clock := by
  simp [State.calUpdate, ↓State.clock_mk]
@[simp] theorem State.calMark_clock (s : State) (i : Nat) : (s.calMark i).clock = s.clock := Eq.trans rfl rfl
@[simp] theorem State.claspOrbit_clock (s : State) : s.claspOrbit.clock = s.clock := by
  unfold State.claspOrbit; split <;> rfl
@[simp] theorem State.tileDown_clock (s : State) (t : Nat) : (s.tileDown t).clock = s.clock :=
  State.clock_of_still (s.tileDown_still t)
@[simp] theorem State.retireUnit_clock (s : State) (ty ix : Nat) : (s.retireUnit ty ix).clock = s.clock := by
  have hchan := State.clock_of_still (s.pendRetire_still 1 ix)
  have hpair := State.clock_of_still ((s.retire 2 ix).dropCal_still ix)
  have hrow := State.clock_of_still ((s.retire 7 ix).queueRow_still ix)
  have hparent := State.clock_of_still (s.parentRetire_still ix)
  simp [State.retireUnit, hchan, hpair, hrow, hparent]
@[simp] theorem State.lowered_clock (s : State) : s.lowered.clock = s.clock := by simp [State.lowered, ↓State.clock_mk]
@[simp] theorem State.queueTrigger_clock (s : State) (m : TrigMsg) (z : Option Int) : (s.queueTrigger m z).clock = s.clock :=
  State.clock_of_still (s.queueTrigger_still m z)
@[simp] theorem State.sendVc1_clock (s : State) (p : Nat) (m : Vc1) : (s.sendVc1 p m).clock = s.clock :=
  State.clock_of_still (s.sendVc1_still p m)
@[simp] theorem State.busyFollows_clock (s t : State) : (s.busyFollows t).clock = t.clock :=
  State.clock_of_still (s.busyFollows_still t)
@[simp] theorem trigStage_clock (w : Nat) (s : State) : (trigStage w s).clock = s.clock := by
  simp [trigStage, ↓State.clock_mk]
/-- The start of an orbit up to the strikes that a lowered limit makes count. -/
@[simp] theorem State.orbitBegin_clock (s : State) (above below : List Nat) : (s.orbitBegin above below).clock = s.clock := by
  unfold State.orbitBegin
  extract_lets s1 s2 _ _ _ s3 s4 s5 s6 s7
  have h1 : s1.clock = s.clock :=
    (State.clock_of_still (State.calRange_still _)).trans
      ((State.calUpdate_clock _).trans (State.clock_of_still (tiuMarker_still s)))
  have h2 : s2.clock = s1.clock := by
    simp only [s2, State.clock_ite, State.clock_of_still (State.ofsApply_still s1), ite_self]
  have h3 : s3.clock = s2.clock := rfl
  have h4 : s4.clock = s3.clock := foldl_clock (fun s p => State.clock_of_still (s.sendMarker_still p)) _ s3
  have h5 : s5.clock = s4.clock := (State.lowered_clock _).trans (State.clock_of_still (by simp))
  have h6 : s6.clock = s5.clock := foldl_clock (fun _ _ => State.put_clock _ _ _) _ s5
  have h7 : s7.clock = s6.clock := State.clock_of_still (by simp [s7])
  calc s7.newChildResend.claspOrbit.clock
      _ = s7.clock := (State.claspOrbit_clock _).trans (State.clock_of_still s7.newChildResend_still)
      _ = s.clock := by rw [h7, h6, h5, h4, h3, h2, h1]
@[simp] theorem State.takeLater_clock (s : State) (l : Later) : (s.takeLater l).clock = s.clock := by
  cases l with
  | trigWord w => exact trigStage_clock w s
  | wallSet => exact State.clock_of_still s.wallLoad_still
  | retire n => exact State.clock_of_still (s.retireNow_still n)
  | unfreeze => exact State.clock_of_still (endFreeze_still s)
  | tiuCmd abort start => exact State.clock_of_still (tiuCommand_still abort start s)
@[simp] theorem State.runLater_clock (s : State) : s.runLater.clock = s.clock := by simp [State.runLater, ↓State.clock_mk]
@[simp] theorem State.startCounters_clock (s : State) : s.startCounters.clock = s.clock := by
  simp [State.startCounters, ↓State.clock_mk]

end Sys2Proof.Machine
end

section
/-! Start-up (R12, R44, R445, R448–R451, R464): the ends of INIT's steps. -/

namespace Sys2Proof.Machine

/-- A command of a die out of RESET whose effect makes a transition of R19 ends in that effect, with the role, the queue and the
ball of R22. -/
theorem finish_next {s t : State} (h : s.sys.run ≠ .reset) (ha : RunState.allowed s.sys.run t.sys.run = true) :
    finish s t = .next { t with
      pending := s.pending, sys := { t.sys with role := s.sys.role, readyBall := t.sys.run.isReady } } := by
  simp [finish, h, finishAny, ha]

/-- A die may stay in its run state. -/
theorem RunState.allowed_self (r : RunState) : RunState.allowed r r = true := by cases r <;> rfl

/-! The alert that a start-up step raises. -/

/-- An alert changes the registers of the log, of the sequence and of dropped alerts alone. -/
theorem State.get_alert_other (s : State) (sev : Sev) (reg bit ut ui data : Nat) {f : Fld} (hlog : f.reg ≠ Reg.FAULT_LOG_NEXT)
    (hseq : f.reg ≠ Reg.FAULT_ALERT_SEQ) (hcnt : f.reg ≠ Reg.FAULT_ALERT_DROP_CNT)
    (hdrop : f.reg ≠ Reg.FAULT_STATUS ∨ f.lo + f.w ≤ F.FAULT_STATUS_ALERT_DROP.lo) (hw : f.lo + f.w ≤ 32) :
    (s.alert sev reg bit ut ui data).get f = s.get f := by
  have hput : ∀ u : State, (u.put F.FAULT_STATUS_ALERT_DROP 1).get f = u.get f := fun u =>
    hdrop.elim (State.get_put_other u F.FAULT_STATUS_ALERT_DROP f 1) (fun h => State.get_put_apart u _ f 1 (.inl h) hw)
  have hinc : ∀ u : State, (u.incBy Reg.FAULT_ALERT_DROP_CNT 1).get f = u.get f := fun u => State.get_incBy u _ _ f hcnt
  have hsend : ∀ (u : State) (rec : List Byte), (u.sendAlert sev rec).get f = u.get f := by
    intro u rec
    unfold State.sendAlert
    (repeat' split)
    · rfl
    · rfl
    · rfl
    · rfl
    · simp [hput, hinc]
  have hindex : ∀ (u : State) (g : Fld) (v : Nat), g.reg = Reg.FAULT_LOG_NEXT → (u.put g v).get f = u.get f :=
    fun u g v hg => State.get_put_other u g f v (hg ▸ hlog)
  have hlogged : ∀ rec : List Byte, (s.logAlert rec).get f = s.get f := by
    intro rec
    unfold State.logAlert
    dsimp only
    split <;> simp [hindex]
  rw [State.alert, hsend, State.get_put_other _ F.FAULT_ALERT_SEQ_SEQ f _ hseq, hlogged]

/-- BUSY_OUT's level is no register. -/
theorem State.busyFollows_regs (s t : State) : (s.busyFollows t).regs = t.regs := by
  unfold State.busyFollows; split <;> rfl

/-- A change of run state changes no register. -/
theorem State.enter_regs (s : State) (r : RunState) : (s.enter r).regs = s.regs := by
  unfold State.enter; rw [State.busyFollows_regs]; split <;> rfl

/-- The run state that a die enters is its run state. -/
theorem State.enter_run (s : State) (r : RunState) : (s.enter r).sys.run = r := by
  unfold State.enter
  rw [State.sys_of_still (State.busyFollows_still _ _)]
  split <;> rfl

/-- A die that enters SAFE is in SAFE. -/
theorem State.toSafe_run {s : State} (h : s.sys.run ≠ .safe) : s.toSafe.sys.run = .safe := by
  rw [State.toSafe, if_neg h]
  extract_lets s1 _ _ _ _ s3
  have h3 : s3.sys = s1.sys := (State.put_sys _ _ _).trans ((State.put_sys _ _ _).trans (Eq.trans rfl rfl))
  have h1 : s1.sys.run = .safe := State.enter_run _ _
  split <;> simp [h3, h1]

/-- The SAFE record names its cause. -/
theorem State.safeStop_spec {s : State} (h : s.sys.run ≠ .safe) {c : Nat} (hc : c < 16) :
    (s.safeStop c).sys.run = .safe ∧ (s.safeStop c).get F.FAULT_STATUS_SAFE_CAUSE = c := by
  rw [State.safeStop, if_neg h]
  refine ⟨(congrArg (·.run) (State.sys_of_still (State.safeRecord_still _ c))).trans (State.toSafe_run h), ?_⟩
  rw [State.safeRecord, State.get_alert_other _ _ _ _ _ _ _ (by decide) (by decide) (by decide) (by decide) (by decide),
    State.get_put_same _ _ _ (by decide)]
  exact Nat.mod_eq_of_lt hc

/-! The steps. -/

/-- The fuses' words are registers and repaired rows. -/
theorem State.loadFuses_still (s : State) : s.loadFuses.still = s.still := by
  unfold State.loadFuses
  refine (foldl_still (fun u b => ?_) _ _).trans ?_
  · simp [↓State.still_mk]
  · simp [State.fuseTrims]

/-- Fuse load marks its end; the ports' lanes start, and a factory die without the factory fuse stops (R449). -/
theorem fuseLoadDone_sys {s : State} (us : Nat) (hi : s.sys.run = .init) (hf : s.sys.fuseDone = false)
    (hr : s.sys.role ≠ .factory ∨ s.fuse.factoryTest = true) : (fuseLoadDone us s).sys = { s.sys with fuseDone := true } := by
  unfold fuseLoadDone
  rw [if_neg (by simp [hi, hf]), if_neg (by grind)]
  refine (State.sys_of_still (foldl_still (fun u p => u.toBase_still p) _ _)).trans ?_
  exact (State.put_sys _ _ _).trans (State.sys_of_still (State.loadFuses_still _))

theorem fuseLoadDone_stops {s : State} (us : Nat) (hi : s.sys.run = .init) (hf : s.sys.fuseDone = false)
    (hr : s.sys.role = .factory) (ht : s.fuse.factoryTest = false) :
    (fuseLoadDone us s).sys.run = .safe ∧ (fuseLoadDone us s).get F.FAULT_STATUS_SAFE_CAUSE = 5 := by
  unfold fuseLoadDone
  rw [if_neg (by simp [hi, hf]), if_pos (by simp [hr, ht])]
  refine State.safeStop_spec ?_ (by decide)
  rw [State.put_sys, State.sys_of_still (State.loadFuses_still _)]
  simp [hi]

/-- A row that fails takes a spare, or none is left (R450). -/
theorem State.initRow_still (s : State) (row : Nat) : (s.initRow row).still = s.still := by simp [State.initRow]

/-- Memory initialisation marks its end and starts the digest; failed tests of the Hallmark stop the die. -/
theorem memoryInitDone_passed {s : State} (us words : Nat) (rows tiles : List Nat) (hi : s.sys.run = .init)
    (hf : s.sys.fuseDone = true) (hm : s.sys.memDone = false) :
    (memoryInitDone us rows tiles words true s).sys = { s.sys with memDone := true } ∧
      (memoryInitDone us rows tiles words true s).hall.hashing = true ∧
      (memoryInitDone us rows tiles words true s).on F.HALL_STATUS_DIGEST_VALID = false := by
  unfold memoryInitDone
  rw [if_neg (by simp [hi, hf, hm])]
  extract_lets _ s1 s2 s3 s4
  have h4 : s4.sys = { s.sys with memDone := true } := by
    refine (State.sys_of_still (foldl_still (fun u _ => by simp) _ _)).trans ?_
    refine (State.sys_of_still (foldl_still State.strikeTile_still _ _)).trans ?_
    exact State.sys_of_still (foldl_still State.initRow_still _ _)
  refine ⟨h4, rfl, ?_⟩
  have h0 : (s4.put F.HALL_STATUS_DIGEST_VALID 0).get F.HALL_STATUS_DIGEST_VALID = 0 := State.get_put_same _ _ _ (by decide)
  exact bne_eq_false_iff_eq.mpr h0

theorem memoryInitDone_stops {s : State} (us words : Nat) (rows tiles : List Nat) (hi : s.sys.run = .init)
    (hf : s.sys.fuseDone = true) (hm : s.sys.memDone = false) :
    (memoryInitDone us rows tiles words false s).sys.run = .safe ∧
      (memoryInitDone us rows tiles words false s).get F.FAULT_STATUS_SAFE_CAUSE = 3 := by
  unfold memoryInitDone
  rw [if_neg (by simp [hi, hf, hm]), if_pos (by simp)]
  exact State.safeStop_spec (by simp [hi]) (by decide)

/-- The PLL's lock starts the F-clock (R44). -/
theorem pllLock_clock {s : State} (us : Nat) (hf : s.sys.fuseDone = true) (hl : s.on F.ORB_STATUS_PLL_LOCK = false)
    (hs : s.srcShaft = true → s.sys.serialUp = true) : (pllLock us s).clock = (true, true) := by
  unfold pllLock
  rw [if_neg (by simpa [hf, hl] using hs)]
  extract_lets _ _ _ s0 s1 s2 _ s3 s4
  have h1 : s1.clock = (true, true) := by
    rw [State.loopSource_clock, State.flag_eq, State.put_clock, State.flag_eq, State.put_clock, State.clock_ite,
      State.runLater_clock, ite_self]
    rfl
  have h2 : s2.clock = s1.clock := by simp [s2]
  have h3 : s3.clock = s2.clock := by
    simp only [s3, State.clock_ite, State.clock_of_still (State.wallLoad_still _)]
    simp [State.clock_mk]
  have h4 : s4.clock = s3.clock := by simp [s4]
  rw [State.tryRegain_clock, h4, h3, h2, h1]

/-- Self-calibration leads to READY with the START alert (R451, R464). -/
theorem selfCalibrationDone_ready {s : State} (us : Nat) (c : CalSet) (zero check : List MonConv) (hi : s.sys.run = .init)
    (hm : s.sys.memDone = true) (hp : s.sys.pllDone = true ∨ s.sys.noRef = true) :
    (selfCalibrationDone us c zero check s).sys.run = .ready ∧ (selfCalibrationDone us c zero check s).sys.startSent = true ∧
      (selfCalibrationDone us c zero check s).get (F.FAULT_START_US 3) = us % 2 ^ 16 := by
  unfold selfCalibrationDone
  rw [if_neg (by rcases hp with hp | hp <;> simp [hi, hm, hp])]
  extract_lets s1 s2 _ s3
  have hrun : s2.sys.run = .ready := State.enter_run _ _
  have hsys := State.sys_of_still (State.alert_still s3 .start F.SYS_STATUS_READY.reg F.SYS_STATUS_READY.lo 0 0
    (s3.get F.FAULT_BOOT_CAUSE + b2n (s3.on F.FAULT_BOOT_NOREF) * 16 + b2n (s3.on F.FAULT_BOOT_LOG_KEPT) * 32))
  refine ⟨(congrArg (·.run) hsys).trans hrun, congrArg (·.startSent) hsys, ?_⟩
  rw [State.get_alert_other _ _ _ _ _ _ _ (by decide) (by decide) (by decide) (by decide) (by decide)]
  have hregs : s3.regs = ((s1.calConverter zero check).put (F.FAULT_START_US 3) us).regs := State.enter_regs _ _
  rw [State.get_congr hregs, State.get_put_same _ _ _ (by decide)]

/-- A step of INIT that leaves run state and role as they were ends in its effect, but for the queue. -/
theorem finish_init {s t : State} (ha : Awake s) (hr : t.sys.run = s.sys.run) (hl : t.sys.role = s.sys.role)
    (hb : t.sys.readyBall = s.sys.readyBall) : finish s t = .next { t with pending := s.pending } := by
  rw [finish_next ha.1 (by rw [hr]; exact RunState.allowed_self _)]
  have hsys : { t.sys with role := s.sys.role, readyBall := t.sys.run.isReady } = t.sys := by
    rw [hr, ← readyBall_eq ha.2, ← hb, ← hl]
  rw [hsys]

/-- Settles O10: each step of INIT by what it sets, and the PLL's lock by what it sets off not taking the clock back. -/
theorem startUpStepsLeadToReady : Obligations.StartUpStepsLeadToReady := by
  intro s us words rows tiles c zero check ha
  refine ⟨fun hi hf hr => ?_, fun hi hf hr ht => ?_, fun hi hf hm => ⟨?_, ?_⟩, fun hf hl hs => ?_, fun hi hm hp => ?_,
    fun hi hf hp hn => ?_⟩
  · have hsys := fuseLoadDone_sys us hi hf hr
    exact ⟨_, finish_init (t := fuseLoadDone us s) ha (by rw [hsys]) (by rw [hsys]) (by rw [hsys]), hsys⟩
  · obtain ⟨hrun, hcause⟩ := fuseLoadDone_stops us hi hf hr ht
    exact ⟨_, finish_next (t := fuseLoadDone us s) ha.1 (by rw [hi, hrun]; rfl), hrun, hcause⟩
  · obtain ⟨hsys, hhash, hvalid⟩ := memoryInitDone_passed us words rows tiles hi hf hm
    exact ⟨_, finish_init (t := memoryInitDone us rows tiles words true s) ha (by rw [hsys]) (by rw [hsys]) (by rw [hsys]), hsys,
      hhash, hvalid⟩
  · obtain ⟨hrun, hcause⟩ := memoryInitDone_stops us words rows tiles hi hf hm
    exact ⟨_, finish_next (t := memoryInitDone us rows tiles words false s) ha.1 (by rw [hi, hrun]; rfl), hrun, hcause⟩
  · have hclock := pllLock_clock us hf hl hs
    obtain ⟨r, -, hout⟩ := finishAny_spec s (pllLock us s)
    exact ⟨_, (finish_awake _ ha.1).trans hout, congrArg (·.2) hclock, congrArg (·.1) hclock⟩
  · obtain ⟨hrun, hsent, hus⟩ := selfCalibrationDone_ready us c zero check hi hm hp
    refine ⟨_, finish_next (t := selfCalibrationDone us c zero check s) ha.1 (by rw [hi, hrun]; rfl), hrun, ?_, hsent, hus⟩
    simp [hrun, RunState.isReady]
  · have hout : noReferenceTimeout s =
        (({ s with sys := { s.sys with noRef := true } }).put F.FAULT_BOOT_NOREF 1).put (F.FAULT_START_US 2) 10000 := by
      unfold noReferenceTimeout
      rw [if_neg (by simp [hi, hf, hp, hn])]
      rfl
    have hnext : exec .noReferenceTimeout s = .next (noReferenceTimeout s) :=
      finish_eq' (t := noReferenceTimeout s) ha (by rw [hout]; rfl) (by rw [hout]; rfl) (by rw [hout]; rfl) (by rw [hout]; rfl)
    refine ⟨_, hnext, ?_, ?_, ?_, ?_⟩ <;> rw [hout]
    · rw [State.on, State.get_put_other _ _ _ _ (by decide), State.get_put_same _ _ _ (by decide)]
      rfl
    · exact State.get_put_same _ _ _ (by decide)
    · intro a hmem
      simp only [List.mem_cons, List.not_mem_nil, or_false, not_or] at hmem
      obtain ⟨hboot, hstart⟩ := hmem
      rw [State.rd_put_other _ _ _ _ hstart, State.rd_put_other _ _ _ _ hboot]
      exact State.rd_congr rfl a
    · rfl

end Sys2Proof.Machine
end

section
/-! Writes of the registers of ports and lanes, and what each leaves (R7, R25, R284, R306, R321). -/

namespace Sys2Proof.Machine

/-! Words under a mask (R6). -/

/-- A field that the mask covers takes the written bits. -/
theorem bitsOf_masked (old v : Nat) {m lo w : Nat} (hw : lo + w ≤ 32)
    (hm : ∀ i < w, (m.testBit (lo + i) && !(0xFFFFFFFF ^^^ m).testBit (lo + i)) = true) :
    bitsOf (((old &&& (0xFFFFFFFF ^^^ m)) ||| (v &&& m)) &&& 0xFFFFFFFF) lo w = bitsOf v lo w := by
  apply Nat.eq_of_testBit_eq
  intro i
  simp only [bitsOf, Nat.testBit_mod_two_pow, Nat.testBit_div_two_pow, Nat.testBit_and, Nat.testBit_or]
  by_cases hi : i < w
  · have hb := hm i hi
    have h32 : Nat.testBit 0xFFFFFFFF (lo + i) = true := by
      rw [show (0xFFFFFFFF : Nat) = 2 ^ 32 - 1 from rfl, Nat.testBit_two_pow_sub_one]
      simp only [decide_eq_true_eq]; omega
    simp only [Bool.and_eq_true, Bool.not_eq_true'] at hb
    obtain ⟨hin, hout⟩ := hb
    simp [hi, Nat.add_comm i lo, hin, hout, h32]
  · simp [hi]

/-! The registers of a port and of a lane in the register map. -/

/-- PORT_CFG in the register map. -/
def portCfgHit (p : Nat) : Hit := ⟨.port, { off := 0, n1 := 16, s1 := 0x100, cls := .mode, rw := fun _ _ _ => 0xE000FFFF }, p, 0, 0⟩
/-- PORT_WIDTH in the register map. -/
def portWidthHit (p : Nat) : Hit :=
  ⟨.port, { off := 0x24, n1 := 16, s1 := 0x100, cls := .live, rw := fun _ _ _ => 0xF, rst := fun _ _ _ => 0xF }, p, 0, 0⟩
/-- LANE_CTRL in the register map. -/
def laneCtrlHit (l : Nat) : Hit :=
  ⟨.lane, { off := 0, n1 := 16, s1 := 0x100, cls := .mode, rw := fun _ _ _ => 0x133, rst := fun _ _ _ => 0x100 }, l, 0, 0⟩

theorem findReg_portCfg {p : Nat} (hp : p < 16) : findReg (Reg.PORT_CFG p) = some (portCfgHit p) := by interval_cases p <;> rfl
theorem findReg_portWidth {p : Nat} (hp : p < 16) : findReg (Reg.PORT_WIDTH p) = some (portWidthHit p) := by
  interval_cases p <;> rfl
theorem findReg_laneCtrl {l : Nat} (hl : l < 16) : findReg (Reg.LANE_CTRL l) = some (laneCtrlHit l) := by
  interval_cases l <;> rfl

/-- The words of these registers are aligned, lie outside the vault window, and their blocks are as given. -/
theorem portLane_offsets : ∀ p < 16,
    (Reg.PORT_CFG p % 4 = 0 ∧ inVault (Reg.PORT_CFG p) = false ∧ blockOf (Reg.PORT_CFG p) = some .port) ∧
    (Reg.PORT_WIDTH p % 4 = 0 ∧ inVault (Reg.PORT_WIDTH p) = false ∧ blockOf (Reg.PORT_WIDTH p) = some .port) ∧
    (Reg.LANE_CTRL p % 4 = 0 ∧ inVault (Reg.LANE_CTRL p) = false ∧ blockOf (Reg.LANE_CTRL p) = some .lane) := by decide

theorem State.gate_port (s : State) {a : Nat} (h : blockOf a = some .port) : s.gate a = none := by simp [State.gate, h]
/-- A lane that a root's host link does not use answers (R9). -/
theorem State.gate_laneCtrl {s : State} {l : Nat} (hl : l < 16) (hh : s.hostLane l = false) : s.gate (Reg.LANE_CTRL l) = none := by
  obtain ⟨-, -, -, -, hb⟩ := portLane_offsets l hl
  have hlow : s.isRoot = true → ¬ Reg.LANE_CTRL 8 ≤ Reg.LANE_CTRL l := by
    intro hr
    simp only [State.hostLane, hr, Bool.true_and, decide_eq_false_iff_not] at hh
    simp only [Reg.LANE_CTRL]; omega
  simp only [State.gate, hb, ite_eq_right_iff]
  rintro ⟨hr, hle⟩
  exact absurd hle (hlow hr)

/-! Accepted writes. -/

/-- The die after the words held below offset `a` have been taken (R470). -/
def State.letGo (s : State) (a : Nat) : State :=
  { s with bus := { s.bus with held := s.bus.held.filter (fun p => !decide (a = p.1)) } }

@[simp] theorem State.letGo_still (s : State) (a : Nat) : (s.letGo a).still = s.still := Eq.trans rfl rfl
@[simp] theorem State.letGo_regs (s : State) (a : Nat) : (s.letGo a).regs = s.regs := Eq.trans rfl rfl
@[simp] theorem State.letGo_ports (s : State) (a : Nat) : (s.letGo a).ports = s.ports := Eq.trans rfl rfl
@[simp] theorem State.letGo_lanes (s : State) (a : Nat) : (s.letGo a).lanes = s.lanes := Eq.trans rfl rfl
@[simp] theorem State.letGo_out (s : State) (a : Nat) : (s.letGo a).out = s.out := Eq.trans rfl rfl
@[simp] theorem State.letGo_pending (s : State) (a : Nat) : (s.letGo a).pending = s.pending := Eq.trans rfl rfl
@[simp] theorem State.letGo_rd (s : State) (a b : Nat) : (s.letGo a).rd b = s.rd b := Eq.trans rfl rfl
@[simp] theorem State.letGo_get (s : State) (a : Nat) (f : Fld) : (s.letGo a).get f = s.get f := Eq.trans rfl rfl
@[simp] theorem State.letGo_port (s : State) (a p : Nat) : (s.letGo a).port p = s.port p := Eq.trans rfl rfl
@[simp] theorem State.letGo_lane (s : State) (a l : Nat) : (s.letGo a).lane l = s.lane l := Eq.trans rfl rfl

/-- The word that a write leaves under the mask `m` of writable bits (R6). -/
def maskedWord (m old v : Nat) : Nat := ((old &&& (0xFFFFFFFF ^^^ m)) ||| (v &&& m)) &&& 0xFFFFFFFF

/-- The word that a write of PORT_CFG leaves. -/
def State.portCfgWord (s : State) (p v : Nat) : Nat := maskedWord 0xE000FFFF (s.rd (Reg.PORT_CFG p)) v
/-- The word that a write of PORT_WIDTH leaves. -/
def State.portWidthWord (s : State) (p v : Nat) : Nat := maskedWord 0xF (s.rd (Reg.PORT_WIDTH p)) v
/-- The word that a write of LANE_CTRL leaves. -/
def State.laneCtrlWord (s : State) (l v : Nat) : Nat := maskedWord 0x133 (s.rd (Reg.LANE_CTRL l)) v

/-- A register without flags, in a block whose words are taken as written. -/
theorem State.newWord_masked (s : State) (h : Hit) (a v : Nat) {m : Nat} (hb : h.blk = .port ∨ h.blk = .lane) (hf : h.row.w1c = 0)
    (hm : h.row.rw h.i h.j h.w = m) : s.newWord h a v = maskedWord m (s.rd a) v := by
  have hfix : ∀ old w, fixWord h old w = w := by intro old w; rcases hb with hb | hb <;> simp only [fixWord, hb]
  have hfeat : ∀ fs w, featWord fs h w = w := by intro fs w; rcases hb with hb | hb <;> simp only [featWord, hb]
  simp only [State.newWord, hfix, hfeat, hf, hm, Nat.and_zero, Nat.xor_zero, maskedWord]

theorem State.newWord_portCfg (s : State) (p v : Nat) : s.newWord (portCfgHit p) (Reg.PORT_CFG p) v = s.portCfgWord p v :=
  s.newWord_masked _ _ v (.inl rfl) rfl rfl
theorem State.newWord_portWidth (s : State) (p v : Nat) : s.newWord (portWidthHit p) (Reg.PORT_WIDTH p) v = s.portWidthWord p v :=
  s.newWord_masked _ _ v (.inl rfl) rfl rfl
theorem State.newWord_laneCtrl (s : State) (l v : Nat) : s.newWord (laneCtrlHit l) (Reg.LANE_CTRL l) v = s.laneCtrlWord l v :=
  s.newWord_masked _ _ v (.inr rfl) rfl rfl

theorem bitsOf_portCfgWord (s : State) (p v : Nat) :
    (∀ lo w, lo + w ≤ 16 → bitsOf (s.portCfgWord p v) lo w = bitsOf v lo w) ∧
    (∀ lo w, 29 ≤ lo → lo + w ≤ 32 → bitsOf (s.portCfgWord p v) lo w = bitsOf v lo w) := by
  have hbits : ∀ i < 32, i < 16 ∨ 29 ≤ i → (Nat.testBit 0xE000FFFF i && !(0xFFFFFFFF ^^^ 0xE000FFFF).testBit i) = true := by decide
  exact ⟨fun lo w h => bitsOf_masked _ _ (by omega) fun i hi => hbits _ (by omega) (by omega),
    fun lo w h h' => bitsOf_masked _ _ (by omega) fun i hi => hbits _ (by omega) (by omega)⟩
theorem bitsOf_portWidthWord (s : State) (p v : Nat) : bitsOf (s.portWidthWord p v) 0 4 = bitsOf v 0 4 :=
  bitsOf_masked _ _ (by decide) (by decide)
theorem bitsOf_laneCtrlWord (s : State) (l v : Nat) :
    bitsOf (s.laneCtrlWord l v) 0 2 = bitsOf v 0 2 ∧ bitsOf (s.laneCtrlWord l v) 4 2 = bitsOf v 4 2 :=
  ⟨bitsOf_masked _ _ (by decide) (by decide), bitsOf_masked _ _ (by decide) (by decide)⟩

/-- A conflict of PORT_CFG looks at TYPE and LANES alone (R284). -/
theorem State.portConflict_congr (s : State) (p : Nat) {w w' : Nat} (ht : bitsOf w 30 2 = bitsOf w' 30 2)
    (hl : bitsOf w 0 16 = bitsOf w' 0 16) : s.portConflict p w = s.portConflict p w' := by
  simp only [State.portConflict, ht, hl]
theorem State.portConflict_portCfgWord (s : State) (p v : Nat) : s.portConflict p (s.portCfgWord p v) = s.portConflict p v := by
  obtain ⟨hlow, hhigh⟩ := bitsOf_portCfgWord s p v
  exact s.portConflict_congr p (hhigh 30 2 (by decide) (by decide)) (hlow 0 16 (by decide))

/-- A digest follows where the digested bits change (R399). -/
def State.digested (s : State) (a old nw : Nat) : State :=
  match digestMask a with
  | some m => if old &&& m = nw &&& m then s else s.redigest
  | none => s

/-- A word of a port or lane register that no write clears takes effect: stored, its effects, the digest (R399). -/
theorem State.applyWord_portLane (s : State) (h : Hit) (a v : Nat) (hb : h.blk = .port ∨ h.blk = .lane) (hc : h.row.cnt = false) :
    s.applyWord h a v = ((if h.blk = .port ∧ h.row.off = 0 then s.portCfgWrite h.i (s.newWord h a v) else s.wr a (s.newWord h a v)).wrote
      h (s.rd a) v (s.newWord h a v)).digested a (s.rd a) (s.newWord h a v) := by
  have hw : ¬(h.blk = .wall ∧ h.row.off = 0x14 ∧ s.get F.WALL_SERVO_SRC ≠ 0) := by
    rintro ⟨hwall, -⟩
    rcases hb with hb | hb <;> rw [hb] at hwall <;> cases hwall
  rw [State.applyWord, hc, if_neg Bool.false_ne_true, if_neg hw]
  rfl

theorem State.conflict_portCfg (s : State) (p a v nw : Nat) : s.conflict (portCfgHit p) a v nw = s.portConflict p nw := by
  simp only [State.conflict, portCfgHit, if_true]
theorem State.wrote_portCfg (s : State) (p old v nw : Nat) : s.wrote (portCfgHit p) old v nw = s := by
  simp [State.wrote, portCfgHit]
theorem State.wrote_portWidth (s : State) (p old v nw : Nat) : s.wrote (portWidthHit p) old v nw = portWidthSet p s := by
  simp only [State.wrote, portWidthHit, if_true]
theorem State.wrote_laneCtrl (s : State) (l old v nw : Nat) : s.wrote (laneCtrlHit l) old v nw =
    if bitsOf old 0 6 ≠ bitsOf nw 0 6 then ((s.prbsKeep l).loopWrite l (bitsOf old 0 2) (bitsOf nw 0 2)).prbsStart l else s := by
  simp only [State.wrote, laneCtrlHit, true_and]

/-- In READY a PORT_CFG that conflicts with nothing is taken (R284). -/
theorem State.write_portCfg {s : State} {p v : Nat} (hp : p < 16) (hr : s.sys.run = .ready)
    (hc : s.portConflict p (v % 2 ^ 32) = none) (bar : Bool) : s.write bar (Reg.PORT_CFG p) v =
      ((s.letGo (Reg.PORT_CFG p)).portCfgWrite p (s.portCfgWord p (v % 2 ^ 32))).digested (Reg.PORT_CFG p)
        (s.rd (Reg.PORT_CFG p)) (s.portCfgWord p (v % 2 ^ 32)) := by
  obtain ⟨⟨h4, hv, hb⟩, -⟩ := portLane_offsets p hp
  have hx : s.conflict (portCfgHit p) (Reg.PORT_CFG p) (v % 2 ^ 32) (s.newWord (portCfgHit p) (Reg.PORT_CFG p) (v % 2 ^ 32)) = none := by
    rw [s.newWord_portCfg, s.conflict_portCfg, s.portConflict_portCfgWord, hc]
  rw [State.write_taken s bar (Reg.PORT_CFG p) v _ (findReg_portCfg hp) hv h4 (by rw [hr]; rfl) rfl Cls.noConfusion Cls.noConfusion
    rfl rfl (by rw [State.classOf_mode (findReg_portCfg hp) rfl, hr]; rfl) (s.gate_port hb) hx, ← State.letGo,
    State.applyWord_portLane _ _ _ _ (.inl rfl) rfl, State.newWord_portCfg, State.wrote_portCfg, if_pos ⟨rfl, rfl⟩]
  rfl

/-- PORT_WIDTH is taken in every state with READY (R25, R306). -/
theorem State.write_portWidth {s : State} {p : Nat} (hp : p < 16) (hr : s.sys.run = .ready) (bar : Bool) (v : Nat) :
    s.write bar (Reg.PORT_WIDTH p) v =
      (portWidthSet p ((s.letGo (Reg.PORT_WIDTH p)).wr (Reg.PORT_WIDTH p) (s.portWidthWord p (v % 2 ^ 32)))).digested
        (Reg.PORT_WIDTH p) (s.rd (Reg.PORT_WIDTH p)) (s.portWidthWord p (v % 2 ^ 32)) := by
  obtain ⟨-, ⟨h4, hv, hb⟩, -⟩ := portLane_offsets p hp
  have hcls : (s.classOf (portWidthHit p) (Reg.PORT_WIDTH p) (s.newWord (portWidthHit p) (Reg.PORT_WIDTH p) (v % 2 ^ 32))) = .live := rfl
  rw [State.write_taken s bar (Reg.PORT_WIDTH p) v _ (findReg_portWidth hp) hv h4 (by rw [hr]; rfl) rfl Cls.noConfusion
    Cls.noConfusion rfl rfl (by rw [hcls, hr]; rfl) (s.gate_port hb) rfl, ← State.letGo,
    State.applyWord_portLane _ _ _ _ (.inl rfl) rfl, State.newWord_portWidth, State.wrote_portWidth,
    if_neg (fun h => absurd h.2 (by simp [portWidthHit]))]
  rfl

/-- In READY, LANE_CTRL of a lane that no host link uses is taken (R321). -/
theorem State.write_laneCtrl {s : State} {l : Nat} (hl : l < 16) (hr : s.sys.run = .ready) (hh : s.hostLane l = false) (bar : Bool)
    (v : Nat) : s.write bar (Reg.LANE_CTRL l) v =
      (((s.letGo (Reg.LANE_CTRL l)).wr (Reg.LANE_CTRL l) (s.laneCtrlWord l (v % 2 ^ 32))).wrote (laneCtrlHit l)
        (s.rd (Reg.LANE_CTRL l)) (v % 2 ^ 32) (s.laneCtrlWord l (v % 2 ^ 32))).digested
        (Reg.LANE_CTRL l) (s.rd (Reg.LANE_CTRL l)) (s.laneCtrlWord l (v % 2 ^ 32)) := by
  obtain ⟨-, -, h4, hv, -⟩ := portLane_offsets l hl
  rw [State.write_taken s bar (Reg.LANE_CTRL l) v _ (findReg_laneCtrl hl) hv h4 (by rw [hr]; rfl) rfl Cls.noConfusion
    Cls.noConfusion rfl rfl (by rw [State.classOf_mode (findReg_laneCtrl hl) rfl, hr]; rfl) (State.gate_laneCtrl hl hh) rfl,
    ← State.letGo, State.applyWord_portLane _ _ _ _ (.inr rfl) rfl, State.newWord_laneCtrl,
    if_neg (fun h => absurd h.1 (by simp [laneCtrlHit]))]
  rfl

/-! What the digest leaves unchanged. -/

@[simp] theorem State.digested_still (s : State) (a old nw : Nat) : (s.digested a old nw).still = s.still := by
  unfold State.digested; (repeat' split) <;> rfl
@[simp] theorem State.digested_ports (s : State) (a old nw : Nat) : (s.digested a old nw).ports = s.ports := by
  unfold State.digested; (repeat' split) <;> rfl
@[simp] theorem State.digested_lanes (s : State) (a old nw : Nat) : (s.digested a old nw).lanes = s.lanes := by
  unfold State.digested; (repeat' split) <;> rfl
@[simp] theorem State.digested_out (s : State) (a old nw : Nat) : (s.digested a old nw).out = s.out := by
  unfold State.digested; (repeat' split) <;> rfl
@[simp] theorem State.digested_pending (s : State) (a old nw : Nat) : (s.digested a old nw).pending = s.pending := by
  unfold State.digested; (repeat' split) <;> rfl
/-- The digest's flag is in HALL_STATUS. -/
theorem State.rd_digested (s : State) (a old nw : Nat) {b : Nat} (hb : b ≠ Reg.HALL_STATUS) : (s.digested a old nw).rd b = s.rd b := by
  have hr : s.redigest.rd b = s.rd b := State.rd_put_other s F.HALL_STATUS_DIGEST_VALID 0 b hb
  unfold State.digested
  (repeat' split) <;> simp only [hr]
theorem State.get_digested (s : State) (a old nw : Nat) {f : Fld} (hf : f.reg ≠ Reg.HALL_STATUS) : (s.digested a old nw).get f = s.get f := by
  unfold State.get; rw [s.rd_digested a old nw hf]
theorem State.port_digested (s : State) (a old nw p : Nat) : (s.digested a old nw).port p = s.port p :=
  State.port_congr (s.digested_ports a old nw) p
theorem State.lane_digested (s : State) (a old nw p : Nat) : (s.digested a old nw).lane p = s.lane p :=
  State.lane_congr (s.digested_lanes a old nw) p

/-! Refused writes of PORT_CFG. -/

/-- A PORT_CFG of more than four lanes is refused with the register itself as the reason (R284). -/
theorem State.busWrite_portCfg_wide {s : State} {p v : Nat} (hp : p < 16) (hr : s.sys.run = .ready)
    (hc : 4 < popCount 16 (v % 2 ^ 16)) : s.busWrite (Reg.PORT_CFG p) v = (ansMode 0x0A (Reg.PORT_CFG p), s.rejected false) := by
  obtain ⟨⟨h4, hv, hb⟩, -⟩ := portLane_offsets p hp
  have hn := s.newWord_portCfg p (v % 2 ^ 32)
  have hlanes : bitsOf (v % 2 ^ 32) 0 16 = v % 2 ^ 16 := by simp [bitsOf]
  have hx : s.portConflict p (s.portCfgWord p (v % 2 ^ 32)) = some (0x0A, Reg.PORT_CFG p) := by
    rw [s.portConflict_portCfgWord]
    simp only [State.portConflict, hlanes, hc, if_true]
  have hcls := State.classOf_mode (s := s) (findReg_portCfg hp) rfl (s.portCfgWord p (v % 2 ^ 32))
  have hhall : (decide ((portCfgHit p).blk = .hall) && decide ((portCfgHit p).row.off = 4)) = false := rfl
  have hprot : decide ((portCfgHit p).row.cls = .prot) = false := rfl
  have hring : ¬((portCfgHit p).blk = .ring ∧ (portCfgHit p).row.off = 0x10008 ∧ bitsOf (v % 2 ^ 32) 31 1 = 1 ∧
    s.get F.HIF_FEAT_STATUS_STATE ≠ 1) := by
    rintro ⟨hb, -⟩
    cases hb
  have hro : (portCfgHit p).row.cls ≠ .ro := by simp [portCfgHit]
  rw [State.busWrite_ready (by rw [hr]; rfl) hv h4]
  simp only [State.regWrite, findReg_portCfg hp, hn, s.conflict_portCfg, hx, hcls, hhall, hprot, hring, hro, s.gate_port hb, Cls.accepts, hr,
    Bool.false_and, Bool.and_false, Bool.or_false, if_false, Bool.false_eq_true, decide_true, Bool.not_true]

/-- A refusal whose target is not Protected leaves HALL_PROTECTED_REJ_CNT alone (R27). -/
theorem State.refused_regsBut (s : State) (bar : Bool) (r : Ans) (a : Nat) :
    regsBut [Reg.SYS_REJECT_CNT, Reg.HIF_LAST_REJECT, Reg.HIF_LAST_REJECT + 4] s (s.refused bar false r a) := by
  intro b hb
  simp only [List.mem_cons, List.not_mem_nil, or_false, not_or] at hb
  obtain ⟨hcnt, h0, h4⟩ := hb
  have hrej : (s.rejected false).rd b = s.rd b := by simp [State.rejected, State.rd_incBy, hcnt]
  unfold State.refused
  split
  · obtain ⟨-, -, -, hlast⟩ := (s.rejected false).lastReject_spec r a
    exact (hlast b (by simp [h0, h4])).trans hrej
  · exact hrej

end Sys2Proof.Machine
end

section
/-! Lanes of ports: what a set of lanes leaves, and the loops (R306, R314, R321). -/

namespace Sys2Proof.Machine

/-! The port of a lane. -/

/-- The lanes' ports follow from the role, CLASP_CTRL and the PORT_CFG of every port (R284). -/
theorem State.portOfLane_congr {s t : State} (hsys : t.sys = s.sys) (hc : t.rd Reg.CLASP_CTRL = s.rd Reg.CLASP_CTRL)
    (hp : ∀ q < 16, t.rd (Reg.PORT_CFG q) = s.rd (Reg.PORT_CFG q)) (l : Nat) : t.portOfLane l = s.portOfLane l := by
  have hkind : ∀ q < 16, t.portKind q = s.portKind q := fun q hq => by
    simp only [State.portKind, State.isRoot, State.on, State.get, hsys, hc, hp q hq]
    rfl
  have hmask : ∀ q < 16, t.portMask q = s.portMask q := fun q hq => by simp only [State.portMask, State.get, hkind q hq, hp q hq]
  have hfind : (List.range 16).find? (fun p => decide (t.portKind p ≠ 0) && decide (bitsOf (t.portMask p) l 1 = 1)) =
      (List.range 16).find? (fun p => decide (s.portKind p ≠ 0) && decide (bitsOf (s.portMask p) l 1 = 1)) :=
    List.find?_congr fun q hq => by rw [hkind q (List.mem_range.1 hq), hmask q (List.mem_range.1 hq)]
  rw [State.portOfLane, State.portOfLane, hfind, State.hostLane, State.hostLane, State.isRoot, State.isRoot, hsys]
theorem State.portOfLane_of_regs {s t : State} (hsys : t.sys = s.sys) (hr : t.regs = s.regs) (l : Nat) : t.portOfLane l = s.portOfLane l :=
  State.portOfLane_congr hsys (State.rd_congr hr _) (fun _ _ => State.rd_congr hr _) l

/-! A port's lanes are set. -/

@[simp] theorem State.setLanes_lanes (s : State) (p : Nat) (ls : List Nat) : (s.setLanes p ls).lanes = s.lanes := by
  unfold State.setLanes; dsimp only; (repeat' split) <;> simp
@[simp] theorem State.setLanes_out (s : State) (p : Nat) (ls : List Nat) : (s.setLanes p ls).out = s.out := by
  unfold State.setLanes; dsimp only; (repeat' split) <;> simp
@[simp] theorem State.setLanes_pending (s : State) (p : Nat) (ls : List Nat) : (s.setLanes p ls).pending = s.pending := by
  unfold State.setLanes; dsimp only; (repeat' split) <;> simp
/-- Registers and ports alone follow. -/
theorem State.setLanes_frame (s : State) (p : Nat) (ls : List Nat) :
    s.setLanes p ls = { s with regs := (s.setLanes p ls).regs, ports := (s.setLanes p ls).ports } := by
  have hput : ∀ (t : State) (f : Fld) (x : Nat), t = { s with regs := t.regs, ports := t.ports } →
      t.put f x = { s with regs := (t.put f x).regs, ports := (t.put f x).ports } := fun t f x h => by
    conv_lhs => rw [State.put, h]
    rfl
  unfold State.setLanes
  dsimp only
  split
  · exact hput _ _ _ rfl
  · split
    · exact hput _ _ _ (hput _ _ _ (hput _ _ _ rfl))
    · exact hput _ _ _ (hput _ _ _ rfl)
theorem State.port_setLanes (s : State) (p : Nat) (ls : List Nat) (q : Nat) :
    (s.setLanes p ls).port q = if q = p then { s.port p with lanes := ls } else s.port q := by
  have h : (s.setLanes p ls).ports = (s.setPort p { s.port p with lanes := ls }).ports := by
    unfold State.setLanes; dsimp only; (repeat' split) <;> simp
  rw [State.port_congr h, State.port_setPort]
/-- Of the registers, PORT_STATUS alone follows. -/
theorem State.rd_setLanes (s : State) (p : Nat) (ls : List Nat) {a : Nat} (ha : a ≠ Reg.PORT_STATUS p) :
    (s.setLanes p ls).rd a = s.rd a := by
  have hput : ∀ (t : State) (lo w x : Nat), (t.put ⟨Reg.PORT_STATUS p, lo, w⟩ x).rd a = t.rd a :=
    fun t lo w x => t.rd_put_other _ x a ha
  unfold State.setLanes; dsimp only; (repeat' split) <;> simp only [State.flag_eq, hput] <;> rfl
theorem State.get_setLanes (s : State) (p : Nat) (ls : List Nat) {f : Fld} (hf : f.reg ≠ Reg.PORT_STATUS p) :
    (s.setLanes p ls).get f = s.get f := by
  unfold State.get; rw [s.rd_setLanes p ls hf]
/-- With a first lane, WIDTH and TLANE show the lanes (R314). -/
theorem State.setLanes_cons_fields (s : State) (p c : Nat) (ls : List Nat) :
    (s.setLanes p (c :: ls)).get (F.PORT_STATUS_WIDTH p) = ls.length % 4 ∧
    (s.setLanes p (c :: ls)).get (F.PORT_STATUS_TLANE p) = c % 16 := by
  unfold State.setLanes
  simp only [List.head?_cons, List.length_cons, Nat.add_sub_cancel, State.flag_eq]
  split
  · exact ⟨by rw [State.get_put_apart _ _ _ _ (by simp) (by simp), State.get_put_apart _ _ _ _ (by simp) (by simp),
        State.get_put_same _ _ _ (by simp)]; rfl,
      by rw [State.get_put_apart _ _ _ _ (by simp) (by simp), State.get_put_same _ _ _ (by simp)]; rfl⟩
  · exact ⟨by rw [State.get_put_apart _ _ _ _ (by simp) (by simp), State.get_put_same _ _ _ (by simp)]; rfl,
      by rw [State.get_put_same _ _ _ (by simp)]; rfl⟩

/-! Loops of a lane (R321). -/

/-- The first of two lanes leaves its port. -/
theorem State.laneLeaves_pair {s : State} {p l c : Nat} (hp : s.portOfLane l = some p) (hl : (s.port p).lanes = [l, c]) (hne : c ≠ l) :
    s.laneLeaves l = s.setLanes p [c] := by
  simp [State.laneLeaves, hp, hl, hne]

/-- A far-end loop is granted (R321). -/
theorem loopRequest_granted {s : State} {p l c : Nat} (ha : Awake s) (hr : s.sys.run = .ready) (hp : s.portOfLane l = some p)
    (hallow : s.on (F.PORT_CFG_LOOP_ALLOW p) = true) (hl : (s.port p).lanes = [l, c]) (hne : c ≠ l) :
    ∃ t, exec (.loopRequest l) s = .next t ∧ t.out = s.out ++ [.block p 0xE1 1] ∧ (t.lane l).loop = 3 ∧ (t.port p).lanes = [c] ∧
      regsBut [Reg.PORT_STATUS p] s t ∧ t = { s with regs := t.regs, lanes := t.lanes, ports := t.ports, out := t.out } := by
  have hpl : (s.setLane l { s.lane l with loop := 3 }).portOfLane l = some p := (State.portOfLane_of_regs rfl rfl l).trans hp
  have he : loopRequest l s = ((s.setLane l { s.lane l with loop := 3 }).setLanes p [c]).block p 0xE1 1 := by
    simp only [loopRequest, hp, hr, hallow, and_self, if_true]
    rw [State.laneLeaves_pair hpl ((congrArg PortSt.lanes (by simp)).trans hl) hne]
  refine ⟨_, finish_eq ha (congrArg State.sys he |>.trans ?_) (congrArg State.pending he |>.trans ?_), ?_⟩
  · exact State.sys_of_still (by simp [State.block])
  · simp [State.block]
  rw [he]
  refine ⟨?_, ?_, ?_, fun a ha => State.rd_setLanes _ p [c] (by simpa using ha), ?_⟩
  · simp [State.block, State.emit]
  · rw [State.block, State.lane_emit, State.lane_congr (State.setLanes_lanes _ _ _)]
    simp
  · rw [State.block, State.port_emit, State.port_setLanes, if_pos rfl]
  · rw [State.setLanes_frame]
    rfl

/-- Without LOOP_ALLOW a far-end loop is refused (R321). -/
theorem loopRequest_refused {s : State} {p l : Nat} (ha : Awake s) (hp : s.portOfLane l = some p)
    (hallow : s.on (F.PORT_CFG_LOOP_ALLOW p) = false) : exec (.loopRequest l) s = .next (s.emit (.block p 0xE1 2)) := by
  have he : loopRequest l s = s.emit (.block p 0xE1 2) := by
    simp only [loopRequest, hp, hallow, Bool.false_eq_true, and_false, if_false]
    rfl
  exact (congrArg (finish s) he).trans (finish_eq ha rfl rfl)

/-- The partner's grant starts the loop, and with a pattern selected the checker (R321, R322). -/
theorem loopGrant_taken {s : State} {l : Nat} (ha : Awake s) (hw : (s.lane l).loop = 1) :
    ∃ t, exec (.loopGrant l) s = .next t ∧ (t.lane l).loop = 2 ∧
      (t.lane l).prbs = (if s.get (F.LANE_CTRL_PRBS l) ≠ 0 ∧ s.get (F.LANE_CTRL_LOOP l) ≠ 0 then some (s.fNow, 64) else (s.lane l).prbs) ∧
      (∀ k, k ≠ l → t.lane k = s.lane k) ∧ t = { s with lanes := t.lanes } := by
  have hlt : s.get (F.LANE_CTRL_LOOP l) < 4 := bitsOf_lt _ _ _
  let u := s.setLane l { s.lane l with loop := 2 }
  have hu : u.lane l = { s.lane l with loop := 2 } := by simp [u]
  have hon : u.prbsOn l = decide (s.get (F.LANE_CTRL_PRBS l) ≠ 0 ∧ s.get (F.LANE_CTRL_LOOP l) ≠ 0) := by
    have hg : ∀ f, u.get f = s.get f := fun _ => rfl
    simp only [State.prbsOn, hu, hg]
    interval_cases s.get (F.LANE_CTRL_LOOP l) <;> simp
  have he : loopGrant l s = u.prbsStart l := by simp only [loopGrant, hw, if_true, u]
  by_cases hc : s.get (F.LANE_CTRL_PRBS l) ≠ 0 ∧ s.get (F.LANE_CTRL_LOOP l) ≠ 0
  · have hs : u.prbsStart l = u.setLane l { u.lane l with prbs := some (s.fNow, 64) } := by
      rw [State.prbsStart, hon, decide_eq_true hc, if_pos rfl]
      rfl
    have hx := (congrArg (finish s) (he.trans hs)).trans (finish_eq ha rfl rfl)
    refine ⟨_, hx, ?_, ?_, fun k hk => ?_, rfl⟩
    · simp [hu]
    · simp [hu, hc]
    · simp [u, hk]
  · have hs : u.prbsStart l = u := by
      rw [State.prbsStart, hon, decide_eq_false hc, if_neg Bool.false_ne_true]
    have hx := (congrArg (finish s) (he.trans hs)).trans (finish_eq ha rfl rfl)
    refine ⟨_, hx, ?_, ?_, fun k hk => ?_, rfl⟩
    · simp [hu]
    · simp [hu, hc]
    · simp [u, hk]

/-- The partner's refusal ends our request (R321). -/
theorem loopRefuse_taken {s : State} {l : Nat} (ha : Awake s) (hw : (s.lane l).loop = 1) :
    ∃ t, exec (.loopRefuse l) s = .next t ∧ t.on (F.LANE_STATUS_LOOP_REFUSED l) = true ∧ (t.lane l).loop = 0 ∧
      regsBut [Reg.LANE_STATUS l] s t ∧ t = { s with regs := t.regs, lanes := t.lanes } := by
  have he : loopRefuse l s = (s.setLane l { s.lane l with loop := 0 }).put (F.LANE_STATUS_LOOP_REFUSED l) 1 := by
    simp only [loopRefuse, hw, if_true, State.flag_eq]
  have hx := (congrArg (finish s) he).trans (finish_eq ha rfl rfl)
  refine ⟨_, hx, ?_, ?_, fun a ha => ?_, rfl⟩
  · simp only [State.on, State.get_put_same _ (F.LANE_STATUS_LOOP_REFUSED l) 1 (by simp : 12 + 1 ≤ 32)]
    rfl
  · simp
  · exact State.rd_put_other _ _ _ _ (by simpa using ha)

/-- Without a request of ours, grant and refusal are nothing. -/
theorem loopAnswer_idle {s : State} {l : Nat} (ha : Awake s) (hw : (s.lane l).loop ≠ 1) :
    exec (.loopGrant l) s = .next s ∧ exec (.loopRefuse l) s = .next s := by
  have hg : loopGrant l s = s := by simp only [loopGrant, hw, if_false]
  have hr : loopRefuse l s = s := by simp only [loopRefuse, hw, if_false]
  exact ⟨(congrArg (finish s) hg).trans (finish_eq ha rfl rfl), (congrArg (finish s) hr).trans (finish_eq ha rfl rfl)⟩

end Sys2Proof.Machine
end

section
/-! A lane returns to its port, lanes sleep, and LANE_CTRL.LOOP takes a lane out (R306, R321). -/

namespace Sys2Proof.Machine

/-! A lane's power. -/

theorem State.lanePower_true (s : State) (l : Nat) :
    s.lanePower l true = (s.put (F.LANE_STATUS_RX_AWAKE l) 1).put (F.LANE_STATUS_TX_AWAKE l) 1 := Eq.trans rfl rfl
theorem State.lanePower_false (s : State) (l : Nat) : s.lanePower l false =
    ((s.put (F.LANE_STATUS_RX_AWAKE l) 0).put (F.LANE_STATUS_TX_AWAKE l) 0).put (F.LANE_STATUS_LOCK l) 0 := Eq.trans rfl rfl

/-! A lane returns (R321, R458). -/

/-- The die after a lane has been powered to train into its port again. -/
def State.rejoined (s : State) (l : Nat) : State := ((s.lanePower l true).put (F.LANE_STATUS_ADAPT l) 0).setLane l { rejoin := true }

@[simp] theorem State.rejoined_still (s : State) (l : Nat) : (s.rejoined l).still = s.still := by simp [State.rejoined]
@[simp] theorem State.rejoined_ports (s : State) (l : Nat) : (s.rejoined l).ports = s.ports := by
  simp [State.rejoined, State.lanePower_true]
@[simp] theorem State.rejoined_fault (s : State) (l : Nat) : (s.rejoined l).fault = s.fault := by
  simp [State.rejoined, State.lanePower_true]
@[simp] theorem State.rejoined_pending (s : State) (l : Nat) : (s.rejoined l).pending = s.pending := by
  simp [State.rejoined, State.lanePower_true]
theorem State.lane_rejoined (s : State) (l k : Nat) : (s.rejoined l).lane k = if k = l then { rejoin := true } else s.lane k := by
  simp [State.rejoined, State.lanePower_true]
theorem State.rd_rejoined (s : State) (l : Nat) {a : Nat} (ha : a ≠ Reg.LANE_STATUS l) : (s.rejoined l).rd a = s.rd a := by
  show ((((s.put (F.LANE_STATUS_RX_AWAKE l) 1).put (F.LANE_STATUS_TX_AWAKE l) 1).put (F.LANE_STATUS_ADAPT l) 0)).rd a = _
  rw [State.rd_put_other _ _ _ _ ha, State.rd_put_other _ _ _ _ ha, State.rd_put_other _ _ _ _ ha]
theorem State.get_rejoined (s : State) (l : Nat) {f : Fld} (hf : f.reg ≠ Reg.LANE_STATUS l) : (s.rejoined l).get f = s.get f := by
  unfold State.get; rw [s.rd_rejoined l hf]
/-- The lane is awake and not adapted. -/
theorem State.rejoined_awake (s : State) (l : Nat) :
    (s.rejoined l).get (F.LANE_STATUS_ADAPT l) = 0 ∧ (s.rejoined l).get (F.LANE_STATUS_RX_AWAKE l) = 1 := by
  have he : ∀ f, (s.rejoined l).get f =
      ((((s.put (F.LANE_STATUS_RX_AWAKE l) 1).put (F.LANE_STATUS_TX_AWAKE l) 1).put (F.LANE_STATUS_ADAPT l) 0)).get f := fun _ => rfl
  exact ⟨by rw [he, State.get_put_same _ _ _ (by simp)]; rfl,
    by rw [he, State.get_put_apart _ _ _ _ (by simp) (by simp), State.get_put_apart _ _ _ _ (by simp) (by simp),
      State.get_put_same _ _ _ (by simp)]; rfl⟩

/-- A lane whose port is UP without it trains into the port (R321). -/
theorem State.laneReturns_up {s : State} {p l c : Nat} (hpl : s.portOfLane l = some p) (h6 : s.portState p = 6)
    (hlanes : (s.port p).lanes = [c]) (hne : c ≠ l) :
    s.laneReturns l = (s.rejoined l).setLanes p (((s.rejoined l).lanesFor p).filter (fun k => [c].contains k || decide (k = l))) := by
  have h6' : (s.rejoined l).portState p = 6 := by
    refine (s.get_rejoined l ?_).trans h6
    simp only [Reg.PORT_STATUS, Reg.LANE_STATUS]; omega
  have hlanes' : ((s.rejoined l).port p).lanes = [c] := (congrArg PortSt.lanes (State.port_congr (s.rejoined_ports l) p)).trans hlanes
  have hnot : ¬([c].contains l = true ∨ 4 ≤ [c].length) := by simp [Ne.symm hne]
  rw [State.laneReturns, hpl]
  show (if (s.rejoined l).portState p = 7 then _ else if (s.rejoined l).portState p < 2 then _ else
    if ((s.rejoined l).port p).lanes.contains l ∨ 4 ≤ ((s.rejoined l).port p).lanes.length then _ else
      (s.rejoined l).setLanes p (((s.rejoined l).lanesFor p).filter (fun k => ((s.rejoined l).port p).lanes.contains k || decide (k = l)))) = _
  rw [h6', hlanes', if_neg (by decide), if_neg (by decide), if_neg hnot]

theorem State.mem_lanesFor {s : State} {p k : Nat} : k ∈ s.lanesFor p ↔ k < 16 ∧ s.portOfLane k = some p ∧ s.laneServes k = true := by
  simp [State.lanesFor]

/-- The partner's loop ends: the lane trains into its port again (R321). -/
theorem loopEnd_returns {s : State} {p l c : Nat} (ha : Awake s) (hl : l < 16) (hc : c < 16) (hne : c ≠ l)
    (h3 : (s.lane l).loop = 3) (hpl : s.portOfLane l = some p) (h6 : s.portState p = 6) (hlanes : (s.port p).lanes = [c])
    (hret : s.isRetired 5 l = false) (hloop : s.get (F.LANE_CTRL_LOOP l) = 0) (hpc : s.portOfLane c = some p)
    (hserves : s.laneServes c = true) : ∃ t, exec (.loopEnd l) s = .next t ∧ (t.lane l).loop = 0 ∧ (t.lane l).rejoin = true ∧
      (t.port p).lanes.contains l = true ∧ (t.port p).lanes.contains c = true ∧ t.get (F.LANE_STATUS_ADAPT l) = 0 ∧
      t.on (F.LANE_STATUS_RX_AWAKE l) = true ∧ t.sys = s.sys ∧ t.time = s.time := by
  let u := s.setLane l { s.lane l with loop := 0 }
  let r := u.rejoined l
  let ls := (r.lanesFor p).filter (fun k => [c].contains k || decide (k = l))
  have hreg : Reg.LANE_STATUS l ≠ Reg.PORT_STATUS p := by simp only [Reg.PORT_STATUS, Reg.LANE_STATUS]; omega
  have hsys : r.sys = s.sys := (State.sys_of_still (u.rejoined_still l)).trans rfl
  have hport : ∀ k, r.portOfLane k = s.portOfLane k := by
    have hclasp : Reg.CLASP_CTRL ≠ Reg.LANE_STATUS l := by simp only [Reg.CLASP_CTRL, Reg.LANE_STATUS]; omega
    have hcfg : ∀ q, Reg.PORT_CFG q ≠ Reg.LANE_STATUS l := fun q => by simp only [Reg.PORT_CFG, Reg.LANE_STATUS]; omega
    exact fun k => State.portOfLane_congr hsys (u.rd_rejoined l hclasp) (fun q _ => u.rd_rejoined l (hcfg q)) k
  have hget : ∀ k, r.get (F.LANE_CTRL_LOOP k) = s.get (F.LANE_CTRL_LOOP k) := fun k =>
    (u.get_rejoined l (by simp only [Reg.LANE_CTRL, Reg.LANE_STATUS]; omega)).trans rfl
  have hretired : ∀ k, r.isRetired 5 k = s.isRetired 5 k := fun k =>
    (congrArg (fun x : FaultSt => x.retired.contains (unitKey 5 k)) (u.rejoined_fault l)).trans rfl
  have hlane : r.lane l = { rejoin := true } := (u.lane_rejoined l l).trans (if_pos rfl)
  have hlanec : r.lane c = s.lane c := ((u.lane_rejoined l c).trans (if_neg hne)).trans ((State.lane_setLane _ _ _ _).trans (if_neg hne))
  have hl' : l ∈ r.lanesFor p := by
    refine State.mem_lanesFor.2 ⟨hl, (hport l).trans hpl, ?_⟩
    simp only [State.laneServes, hretired, hget, hret, hloop, hlane]
    rfl
  have hc' : c ∈ r.lanesFor p := by
    refine State.mem_lanesFor.2 ⟨hc, (hport c).trans hpc, ?_⟩
    rw [← hserves]
    simp only [State.laneServes, hretired, hget, hlanec]
  have he : loopEnd l s = r.setLanes p ls := by
    have hret := State.laneReturns_up (s := u) (c := c) ((State.portOfLane_of_regs rfl rfl l).trans hpl) h6 hlanes hne
    simp only [loopEnd, h3, if_true]
    exact hret
  obtain ⟨hadapt, hrx⟩ := u.rejoined_awake l
  have hst : (r.setLanes p ls).still = s.still := (State.setLanes_still r p ls).trans ((u.rejoined_still l).trans rfl)
  refine ⟨_, finish_eq ha ((congrArg State.sys he).trans (State.sys_of_still hst))
    ((congrArg State.pending he).trans ((r.setLanes_pending p ls).trans (u.rejoined_pending l))), ?_⟩
  rw [he, State.port_setLanes, if_pos rfl, State.lane_congr (State.setLanes_lanes r p ls), hlane, State.on,
    r.get_setLanes p ls hreg, r.get_setLanes p ls hreg, hadapt, hrx]
  exact ⟨rfl, rfl, by simp [ls, hl'], by simp [ls, hc'], rfl, rfl, State.sys_of_still hst, State.time_of_still hst⟩

/-! TX_AWAKE of a port of two lanes (R306). -/

/-- Of two lanes the second is put to sleep, and a SLEEP block tells the partner. -/
theorem portWidthSet_sleep {u : State} {p l c : Nat} (hf : u.portFeat p 7 = true) (hup : u.portUp? p = true)
    (hlanes : (u.port p).lanes = [l, c]) (hne : c ≠ l) (hw : u.get (F.PORT_WIDTH_TX_AWAKE p) = 1)
    (hl : u.on (F.LANE_STATUS_TX_AWAKE l) = true) : portWidthSet p u =
      (if u.on (F.LANE_STATUS_TX_AWAKE c) then u.block p 0xD2 1 else u).put (F.LANE_STATUS_TX_AWAKE c) 0 := by
  have hil : u.laneIndex p l = 0 := by simp [State.laneIndex, hlanes]
  have hic : u.laneIndex p c = 1 := by simp [State.laneIndex, hlanes, Ne.symm hne]
  have hl' : ∀ o, (u.emit o).on (F.LANE_STATUS_TX_AWAKE l) = true := fun _ => hl
  cases hc : u.on (F.LANE_STATUS_TX_AWAKE c) <;>
    simp [portWidthSet, hf, hup, hlanes, hil, hic, hw, hl, hl', hc, Ne.symm hne, bitsOf, State.block]

theorem portWidthWrite_sleeps {s : State} {p l c v : Nat} (ha : Awake s) (hr : s.sys.run = .ready) (hp : p < 16) (hl : l < 16)
    (hc : c < 16) (hne : c ≠ l) (bar : Bool) (hf : s.portFeat p 7 = true) (hup : s.portUp? p = true)
    (hlanes : (s.port p).lanes = [l, c]) (hv : v % 16 = 1) (hon : s.on (F.LANE_STATUS_TX_AWAKE l) = true) :
    ∃ t, exec (.portWidthWrite bar p v) s = .next t ∧
      t.out = s.out ++ (if s.on (F.LANE_STATUS_TX_AWAKE c) = true then [.block p 0xD2 1] else []) ∧
      t.get (F.PORT_WIDTH_TX_AWAKE p) = 1 ∧ t.on (F.LANE_STATUS_TX_AWAKE c) = false ∧ t.lanes = s.lanes ∧ t.ports = s.ports ∧
      regsBut [Reg.PORT_WIDTH p, Reg.LANE_STATUS c, Reg.HALL_STATUS] s t ∧ t.sys = s.sys ∧ t.time = s.time := by
  let w := s.portWidthWord p (v % 2 ^ 32)
  obtain ⟨u, hu⟩ : ∃ u, u = (s.letGo (Reg.PORT_WIDTH p)).wr (Reg.PORT_WIDTH p) w := ⟨_, rfl⟩
  obtain ⟨b, hbdef⟩ : ∃ b, b = if s.on (F.LANE_STATUS_TX_AWAKE c) then u.block p 0xD2 1 else u := ⟨_, rfl⟩
  obtain ⟨t, ht⟩ : ∃ t, t = (b.put (F.LANE_STATUS_TX_AWAKE c) 0).digested (Reg.PORT_WIDTH p) (s.rd (Reg.PORT_WIDTH p)) w := ⟨_, rfl⟩
  have hw : bitsOf w 0 4 = 1 := by
    rw [bitsOf_portWidthWord, bitsOf_mod_word _ _ _ (by decide)]
    simpa [bitsOf] using hv
  have hrd : ∀ a, a ≠ Reg.PORT_WIDTH p → u.rd a = s.rd a := fun a h => by
    rw [hu, State.rd_wr_other _ _ _ _ h, s.letGo_rd]
  have hwidth : u.get (F.PORT_WIDTH_TX_AWAKE p) = 1 := by
    show bitsOf (u.rd (Reg.PORT_WIDTH p)) 0 4 = 1
    rw [hu, State.rd_wr_same, bitsOf_mod_word _ _ _ (by decide), hw]
  have hlst : ∀ k, k < 16 → u.on (F.LANE_STATUS_TX_AWAKE k) = s.on (F.LANE_STATUS_TX_AWAKE k) := fun k hk => by
    simp only [State.on, State.get]
    rw [hrd _ (by simp only [Reg.LANE_STATUS, Reg.PORT_WIDTH]; omega)]
  have hfeat : u.portFeat p 7 = true := by
    have h64 : u.rd64 (Reg.PORT_FEAT p) = s.rd64 (Reg.PORT_FEAT p) := by
      rw [State.rd64, State.rd64, hrd _ (by simp only [Reg.PORT_FEAT, Reg.PORT_WIDTH]; omega),
        hrd _ (by simp only [Reg.PORT_FEAT, Reg.PORT_WIDTH]; omega)]
    rw [← hf, State.portFeat, State.portFeat, h64]
  have hup' : u.portUp? p = true := by
    have hst : u.portState p = s.portState p := by
      rw [State.portState, State.portState, State.get, State.get, hrd _ (by simp only [Reg.PORT_STATUS, Reg.PORT_WIDTH]; omega)]
    rw [← hup, State.portUp?, State.portUp?, hst]
  have hset := portWidthSet_sleep hfeat hup' (by rw [hu, State.port_wr, s.letGo_port, hlanes]) hne hwidth ((hlst l hl).trans hon)
  rw [hlst c hc, ← hbdef] at hset
  have hb : b.still = s.still ∧ b.lanes = s.lanes ∧ b.ports = s.ports ∧ b.pending = s.pending ∧ b.regs = u.regs ∧
      b.out = s.out ++ (if s.on (F.LANE_STATUS_TX_AWAKE c) = true then [.block p 0xD2 1] else []) := by
    have hus : u.still = s.still ∧ u.lanes = s.lanes ∧ u.ports = s.ports ∧ u.pending = s.pending ∧ u.out = s.out := by simp [hu]
    obtain ⟨h1, h2, h3, h4, h5⟩ := hus
    rw [hbdef]
    split
    · exact ⟨h1, h2, h3, h4, rfl, congrArg (· ++ _) h5⟩
    · exact ⟨h1, h2, h3, h4, rfl, h5.trans (List.append_nil _).symm⟩
  obtain ⟨hstill, hla, hpo, hpe, hregs, hout⟩ := hb
  have he : s.write bar (Reg.PORT_WIDTH (p % 16)) v = t := by
    rw [Nat.mod_eq_of_lt hp, State.write_portWidth hp hr bar v, ht, ← hset, hu]
  have hts : t.still = s.still := by simp [ht, hstill]
  have hdig : ∀ a, a ≠ Reg.HALL_STATUS → t.rd a = (b.put (F.LANE_STATUS_TX_AWAKE c) 0).rd a := fun a h => by
    rw [ht, State.rd_digested _ _ _ _ h]
  have hsys := State.sys_of_still hts
  refine ⟨t, (congrArg (finish s) he).trans (finish_eq ha hsys (by simp [ht, hpe])), by simp [ht, hout], ?_, ?_, by simp [ht, hla],
    by simp [ht, hpo], fun a hab => ?_, hsys, State.time_of_still hts⟩
  · have h1 : Reg.PORT_WIDTH p ≠ Reg.LANE_STATUS c := by simp only [Reg.PORT_WIDTH, Reg.LANE_STATUS]; omega
    show bitsOf (t.rd (Reg.PORT_WIDTH p)) 0 4 = 1
    rw [hdig _ (by simp only [Reg.PORT_WIDTH, Reg.HALL_STATUS]; omega), State.rd_put_other _ _ _ _ h1, State.rd_congr hregs]
    exact hwidth
  · have h1 : t.get (F.LANE_STATUS_TX_AWAKE c) = 0 := by
      rw [ht, State.get_digested _ _ _ _ (by simp only [Reg.LANE_STATUS, Reg.HALL_STATUS]; omega), State.get_put_same _ _ _ (by simp)]
      rfl
    rw [State.on, h1]
    rfl
  · simp only [List.mem_cons, List.not_mem_nil, or_false, not_or] at hab
    obtain ⟨h1, h2, h3⟩ := hab
    rw [hdig a h3, State.rd_put_other _ _ _ _ h2, State.rd_congr hregs, hrd a h1]

/-! LANE_CTRL.LOOP takes a lane out of its port (R321, R322). -/

/-- The checker's count is kept in two words of the lane (R322). -/
theorem State.rd_prbsKeep (s : State) (l : Nat) {a : Nat} (h0 : a ≠ Reg.LANE_PRBS_BITS l) (h4 : a ≠ Reg.LANE_PRBS_BITS l + 4) :
    (s.prbsKeep l).rd a = s.rd a := by
  unfold State.prbsKeep
  split
  · rw [State.rd_congr (State.setLane_regs _ _ _), State.wr64, State.rd_wr_other _ _ _ _ h4, State.rd_wr_other _ _ _ _ h0]
  · rfl
@[simp] theorem State.prbsKeep_still (s : State) (l : Nat) : (s.prbsKeep l).still = s.still := by
  unfold State.prbsKeep; split <;> simp
@[simp] theorem State.prbsKeep_ports (s : State) (l : Nat) : (s.prbsKeep l).ports = s.ports := by
  unfold State.prbsKeep; split <;> simp [State.wr64]
@[simp] theorem State.prbsKeep_out (s : State) (l : Nat) : (s.prbsKeep l).out = s.out := by
  unfold State.prbsKeep; split <;> simp [State.wr64]
@[simp] theorem State.prbsKeep_pending (s : State) (l : Nat) : (s.prbsKeep l).pending = s.pending := by
  unfold State.prbsKeep; split <;> simp [State.wr64]

@[simp] theorem State.prbsStart_still (s : State) (l : Nat) : (s.prbsStart l).still = s.still := by
  unfold State.prbsStart; split <;> simp
@[simp] theorem State.prbsStart_regs (s : State) (l : Nat) : (s.prbsStart l).regs = s.regs := by
  unfold State.prbsStart; split <;> rfl
@[simp] theorem State.prbsStart_ports (s : State) (l : Nat) : (s.prbsStart l).ports = s.ports := by
  unfold State.prbsStart; split <;> rfl
@[simp] theorem State.prbsStart_out (s : State) (l : Nat) : (s.prbsStart l).out = s.out := by
  unfold State.prbsStart; split <;> rfl
@[simp] theorem State.prbsStart_pending (s : State) (l : Nat) : (s.prbsStart l).pending = s.pending := by
  unfold State.prbsStart; split <;> rfl
/-- A checker that starts leaves the lane's loop. -/
theorem State.loop_prbsStart (s : State) (l : Nat) : ((s.prbsStart l).lane l).loop = (s.lane l).loop := by
  unfold State.prbsStart; split <;> simp

/-- A lane outside a loop enters one: it leaves its port, and for the far-end loop the partner is asked (R321). -/
theorem State.loopWrite_enters {k : State} {p l c n : Nat} (hpl : k.portOfLane l = some p) (hlanes : (k.port p).lanes = [l, c])
    (hne : c ≠ l) (hn : n ≠ 0) : k.loopWrite l 0 n =
      if n = 3 then ((k.setLanes p [c]).setLane l { (k.setLanes p [c]).lane l with loop := 1 }).laneBlock l 0xE1 0
      else k.setLanes p [c] := by
  simp only [State.loopWrite, Ne.symm hn, hn, if_false, if_true, State.laneLeaves_pair hpl hlanes hne, OfNat.zero_ne_ofNat]

/-- What a lane leaves behind that enters a loop. -/
theorem State.loopWrite_spec {k : State} {p l c n : Nat} (hp : p < 16) (hc : c < 16) (hpl : k.portOfLane l = some p)
    (hlanes : (k.port p).lanes = [l, c]) (hne : c ≠ l) (hn : n ≠ 0) :
    (k.loopWrite l 0 n).still = k.still ∧ (k.loopWrite l 0 n).pending = k.pending ∧
    (k.loopWrite l 0 n).out = k.out ++ (if n = 3 then [.block p 0xE1 0] else []) ∧
    (n = 3 → ((k.loopWrite l 0 n).lane l).loop = 1) ∧
    ((k.loopWrite l 0 n).port p).lanes = [c] ∧ (∀ x, x ≠ p → (k.loopWrite l 0 n).port x = k.port x) ∧
    (k.loopWrite l 0 n).get (F.PORT_STATUS_WIDTH p) = 0 ∧ (k.loopWrite l 0 n).get (F.PORT_STATUS_TLANE p) = c ∧
    (∀ a, a ≠ Reg.PORT_STATUS p → (k.loopWrite l 0 n).rd a = k.rd a) := by
  obtain ⟨hwidth, htlane⟩ := k.setLanes_cons_fields p c []
  rw [Nat.mod_eq_of_lt hc] at htlane
  have hport : ∀ x, x ≠ p → (k.setLanes p [c]).port x = k.port x := fun x hx => by rw [State.port_setLanes, if_neg hx]
  have hlan : ((k.setLanes p [c]).port p).lanes = [c] := by rw [State.port_setLanes, if_pos rfl]
  have hrd : ∀ a, a ≠ Reg.PORT_STATUS p → (k.setLanes p [c]).rd a = k.rd a := fun a h => k.rd_setLanes p [c] h
  rw [State.loopWrite_enters hpl hlanes hne hn]
  by_cases h3 : n = 3
  · have hpl' : ((k.setLanes p [c]).setLane l { (k.setLanes p [c]).lane l with loop := 1 }).portOfLane l = some p := by
      refine (State.portOfLane_congr (t := (k.setLanes p [c]).setLane l _) (s := k) (State.sys_of_still (by simp)) ?_ (fun q _ => ?_) l).trans hpl
      · exact hrd _ (by simp only [Reg.CLASP_CTRL, Reg.PORT_STATUS]; omega)
      · exact hrd _ (by simp only [Reg.PORT_CFG, Reg.PORT_STATUS]; omega)
    simp only [h3, if_true, State.laneBlock, hpl', State.block]
    exact ⟨by simp, by simp [State.emit], by simp [State.emit], fun _ => by simp, by simp [hlan], fun x hx => by simp [hport x hx],
      hwidth, htlane, hrd⟩
  · simp only [h3, if_false]
    exact ⟨by simp, by simp, by simp, False.elim, hlan, hport, hwidth, htlane, hrd⟩

/-- LANE_CTRL.LOOP takes a lane out of its port of two lanes (R321). -/
theorem laneCtrlWrite_leaves {s : State} {p l c v : Nat} (ha : Awake s) (hr : s.sys.run = .ready) (hp : p < 16) (hl : l < 16)
    (hc : c < 16) (hne : c ≠ l) (hh : s.hostLane l = false) (bar : Bool) (hpl : s.portOfLane l = some p)
    (hlanes : (s.port p).lanes = [l, c]) (h0 : s.get (F.LANE_CTRL_LOOP l) = 0) (hv : v % 4 ≠ 0) :
    ∃ t, exec (.laneCtrlWrite bar l v) s = .next t ∧ t.get (F.LANE_CTRL_LOOP l) = v % 4 ∧ (t.port p).lanes = [c] ∧
      t.get (F.PORT_STATUS_WIDTH p) = 0 ∧ t.get (F.PORT_STATUS_TLANE p) = c ∧
      t.out = s.out ++ (if v % 4 = 3 then [.block p 0xE1 0] else []) ∧ (v % 4 = 3 → (t.lane l).loop = 1) ∧
      (∀ x, x ≠ p → t.port x = s.port x) ∧ t.sys = s.sys ∧ t.time = s.time := by
  let w := s.laneCtrlWord l (v % 2 ^ 32)
  obtain ⟨k, hk⟩ : ∃ k, k = ((s.letGo (Reg.LANE_CTRL l)).wr (Reg.LANE_CTRL l) w).prbsKeep l := ⟨_, rfl⟩
  obtain ⟨m, hm⟩ : ∃ m, m = k.loopWrite l 0 (v % 4) := ⟨_, rfl⟩
  obtain ⟨t, ht⟩ : ∃ t, t = (m.prbsStart l).digested (Reg.LANE_CTRL l) (s.rd (Reg.LANE_CTRL l)) w := ⟨_, rfl⟩
  have hw : bitsOf w 0 2 = v % 4 := by
    rw [(bitsOf_laneCtrlWord s l _).1, bitsOf_mod_word _ _ _ (by decide)]
    simp [bitsOf]
  have hne6 : bitsOf (s.rd (Reg.LANE_CTRL l)) 0 6 ≠ bitsOf w 0 6 := fun h6 => by
    have h2 : bitsOf (s.rd (Reg.LANE_CTRL l)) 0 2 = bitsOf w 0 2 := by
      simp only [bitsOf] at h6 ⊢
      omega
    exact hv (hw.symm.trans (h2.symm.trans h0))
  have he : s.write bar (Reg.LANE_CTRL (l % 16)) v = t := by
    rw [Nat.mod_eq_of_lt hl, State.write_laneCtrl hl hr hh bar v, State.wrote_laneCtrl, if_pos hne6, ht, hm, hk]
    rw [show bitsOf (s.rd (Reg.LANE_CTRL l)) 0 2 = 0 from h0, hw]
  have hkrd : ∀ a, a ≠ Reg.LANE_PRBS_BITS l → a ≠ Reg.LANE_PRBS_BITS l + 4 → a ≠ Reg.LANE_CTRL l → k.rd a = s.rd a := fun a h1 h2 h3 => by
    rw [hk, State.rd_prbsKeep _ _ h1 h2, State.rd_wr_other _ _ _ _ h3, s.letGo_rd]
  have hks : k.still = s.still ∧ k.ports = s.ports ∧ k.out = s.out ∧ k.pending = s.pending := by simp [hk]
  obtain ⟨hkstill, hkports, hkout, hkpend⟩ := hks
  have hkpl : k.portOfLane l = some p := by
    refine (State.portOfLane_congr (State.sys_of_still hkstill) (hkrd _ ?_ ?_ ?_) (fun q _ => hkrd _ ?_ ?_ ?_) l).trans hpl <;>
      simp only [Reg.CLASP_CTRL, Reg.PORT_CFG, Reg.LANE_PRBS_BITS, Reg.LANE_CTRL] <;> omega
  obtain ⟨hstill, hpend, hout, hloop, hlan, hport, hwidth, htlane, hrd⟩ :=
    State.loopWrite_spec hp hc hkpl ((congrArg PortSt.lanes (State.port_congr hkports p)).trans hlanes) hne hv
  rw [← hm] at hstill hpend hout hloop hlan hport hwidth htlane hrd
  have htget : ∀ f : Fld, f.reg ≠ Reg.HALL_STATUS → t.get f = m.get f := fun f hf => by
    rw [ht, State.get_digested _ _ _ _ hf, State.get_congr (m.prbsStart_regs l)]
  have htport : ∀ x, t.port x = m.port x := fun x => by rw [ht, State.port_digested, State.port_congr (m.prbsStart_ports l)]
  have hts : t.still = s.still := by simp [ht, hstill, hkstill]
  have hsys := State.sys_of_still hts
  refine ⟨t, (congrArg (finish s) he).trans (finish_eq ha hsys (by simp [ht, hpend, hkpend])), ?_, by rw [htport, hlan], ?_, ?_,
    by simp [ht, hout, hkout], fun h3 => ?_, fun x hx => by rw [htport, hport x hx, State.port_congr hkports], hsys,
    State.time_of_still hts⟩
  · rw [htget _ (by simp only [Reg.LANE_CTRL, Reg.HALL_STATUS]; omega), ← hw, State.get,
      hrd _ (by simp only [Reg.LANE_CTRL, Reg.PORT_STATUS]; omega), hk,
      State.rd_prbsKeep _ _ (by simp only [Reg.LANE_CTRL, Reg.LANE_PRBS_BITS]; omega)
        (by simp only [Reg.LANE_CTRL, Reg.LANE_PRBS_BITS]; omega), State.rd_wr_same, bitsOf_mod_word _ _ _ (by simp)]
  · rw [htget _ (by simp only [Reg.PORT_STATUS, Reg.HALL_STATUS]; omega), hwidth]
  · rw [htget _ (by simp only [Reg.PORT_STATUS, Reg.HALL_STATUS]; omega), htlane]
  · rw [ht, State.lane_digested, State.loop_prbsStart, hloop h3]

end Sys2Proof.Machine
end

section
/-! What sending leaves of a port: its lanes, and PORT_STATUS. -/

namespace Sys2Proof.Machine

/-- What each step with a member of the list keeps, the fold keeps. -/
theorem foldl_keeps_mem {α β : Type} (P : State → β) {f : State → α → State} (l : List α) (h : ∀ s, ∀ x ∈ l, P (f s x) = P s) (s : State) :
    P (l.foldl f s) = P s := by
  induction l generalizing s with
  | nil => rfl
  | cons x l ih =>
    exact (ih (fun s y hy => h s y (List.mem_cons_of_mem _ hy)) (f s x)).trans (h s x List.mem_cons_self)

/-- The lanes of the ports, PORT_STATUS and CLASP_CTRL, from register words and ports. -/
def linesOf (regs : List (Nat × BitVec 32)) (ports : List (Nat × PortSt)) : (Nat → List Nat) × (Nat → Nat) × Nat :=
  (fun q => (sget {} ports q).lanes, fun q => (sget (resetWord (Reg.PORT_STATUS (q % 16))) regs (Reg.PORT_STATUS (q % 16))).toNat,
    (sget (resetWord Reg.CLASP_CTRL) regs Reg.CLASP_CTRL).toNat)

/-- The lanes of the ports, PORT_STATUS and CLASP_CTRL. -/
def State.lines (s : State) : (Nat → List Nat) × (Nat → Nat) × Nat := linesOf s.regs s.ports

@[simp] theorem State.lines_eta (s : State) : linesOf s.regs s.ports = s.lines := Eq.trans rfl rfl
theorem State.lines_mk (x0 x1 x2 x3 x4 x5 x6 x7 x8 x9 x10 x11 x12 x13 x14 x15 x16 x17 x18 x19 x20 x21 x22 x23 x24 x25 x26 x27 x28 x29) :
    (State.mk x0 x1 x2 x3 x4 x5 x6 x7 x8 x9 x10 x11 x12 x13 x14 x15 x16 x17 x18 x19 x20 x21 x22 x23 x24 x25 x26 x27 x28 x29).lines =
      linesOf x0 x15 := Eq.trans rfl rfl
@[simp] theorem State.lines_ite (c : Prop) [Decidable c] (s t : State) :
    (if c then s else t).lines = if c then s.lines else t.lines := apply_ite State.lines c s t

theorem State.lanes_of_lines {s t : State} (h : t.lines = s.lines) (q : Nat) : (t.port q).lanes = (s.port q).lanes :=
  congrFun (congrArg Prod.fst h) q
theorem State.portState_of_lines {s t : State} (h : t.lines = s.lines) {q : Nat} (hq : q < 16) : t.portState q = s.portState q := by
  have hr : t.rd (Reg.PORT_STATUS (q % 16)) = s.rd (Reg.PORT_STATUS (q % 16)) := congrFun (congrArg (·.2.1) h) q
  rw [Nat.mod_eq_of_lt hq] at hr
  rw [State.portState, State.portState, State.get, State.get, hr]

theorem State.clasp_of_lines {s t : State} (h : t.lines = s.lines) : t.rd Reg.CLASP_CTRL = s.rd Reg.CLASP_CTRL :=
  congrArg (·.2.2) h

theorem State.lines_ext {s t : State} (hl : ∀ q, (t.port q).lanes = (s.port q).lanes)
    (hr : ∀ q < 16, t.rd (Reg.PORT_STATUS q) = s.rd (Reg.PORT_STATUS q)) (hc : t.rd Reg.CLASP_CTRL = s.rd Reg.CLASP_CTRL) :
    t.lines = s.lines :=
  Prod.ext (funext hl) (Prod.ext (funext fun q => hr (q % 16) (Nat.mod_lt _ (by decide))) hc)
/-- The registers that `lines` holds. -/
def lineReg (a : Nat) : Prop := a = Reg.CLASP_CTRL ∨ ∃ q < 16, a = Reg.PORT_STATUS q
theorem State.wr_lines (s : State) (a v : Nat) (h : ¬ lineReg a) : (s.wr a v).lines = s.lines :=
  State.lines_ext (fun q => congrArg PortSt.lanes (State.port_wr s a v q))
    (fun q hq => State.rd_wr_other _ _ _ _ fun he => h (.inr ⟨q, hq, he.symm⟩)) (State.rd_wr_other _ _ _ _ fun he => h (.inl he.symm))
theorem State.put_lines (s : State) (f : Fld) (v : Nat) (h : ¬ lineReg f.reg) : (s.put f v).lines = s.lines :=
  s.wr_lines _ _ h
/-- A register beyond the ports, or of another offset in a port, is none of them. -/
theorem not_lineReg {a : Nat} (h : 0x12F14 < a ∨ a < 0x12000 ∨ a % 0x100 ≠ 0x14) (hc : a ≠ Reg.CLASP_CTRL) : ¬ lineReg a := by
  rintro (h' | ⟨q, hq, h'⟩)
  · exact hc h'
  · simp only [Reg.PORT_STATUS] at h'
    omega
theorem State.setPort_lines (s : State) (p : Nat) (v : PortSt) (h : v.lanes = (s.port p).lanes) : (s.setPort p v).lines = s.lines :=
  State.lines_ext (fun q => by rw [State.port_setPort]; split <;> simp_all) (fun _ _ => rfl) rfl
@[simp] theorem State.emit_lines (s : State) (o : Out) : (s.emit o).lines = s.lines := Eq.trans rfl rfl
@[simp] theorem State.setArb_lines (s : State) (i : Nat) (a : Arb) : (s.setArb i a).lines = s.lines := Eq.trans rfl rfl
theorem foldl_lines {α : Type} {f : State → α → State} (h : ∀ s x, (f s x).lines = s.lines) (l : List α) (s : State) :
    (l.foldl f s).lines = s.lines := foldl_keeps State.lines h l s

/-! The arbiters. -/

@[simp] theorem State.incGrant_lines (s : State) (i : Nat) : (s.incBy (Reg.ARB_GRANT_CNT i) 1).lines = s.lines :=
  s.wr_lines _ _ (not_lineReg (by simp only [Reg.ARB_GRANT_CNT]; omega) (by simp only [Reg.ARB_GRANT_CNT, Reg.CLASP_CTRL]; omega))
@[simp] theorem State.incMask_lines (s : State) (i : Nat) : (s.incBy (Reg.ARB_QMASK_CNT i) 1).lines = s.lines :=
  s.wr_lines _ _ (not_lineReg (by simp only [Reg.ARB_QMASK_CNT]; omega) (by simp only [Reg.ARB_QMASK_CNT, Reg.CLASP_CTRL]; omega))
@[simp] theorem State.arbTurn_lines (s : State) (i : Nat) : (s.arbTurn i).lines = s.lines := by
  unfold State.arbTurn; dsimp only; split <;> simp
@[simp] theorem State.arbCountMask_lines (s : State) (i : Nat) : (s.arbCountMask i).lines = s.lines := by
  unfold State.arbCountMask; dsimp only; split <;> simp
@[simp] theorem State.arbGrant_lines (s : State) (i : Nat) (q : ArbReq) : (s.arbGrant i q).lines = s.lines := by
  unfold State.arbGrant; simp
@[simp] theorem State.arbDecide_lines (s : State) (i : Nat) : (s.arbDecide i).lines = s.lines := by
  unfold State.arbDecide; dsimp only; split <;> simp
@[simp] theorem State.arbJoin_lines (s : State) (i : Nat) (q : ArbReq) : (s.arbJoin i q).lines = s.lines := by
  unfold State.arbJoin; dsimp only; split <;> simp
@[simp] theorem State.arbSettle_lines (s : State) (i : Nat) : (s.arbSettle i).lines = s.lines := by
  unfold State.arbSettle; split <;> simp
@[simp] theorem State.arbDrop_lines (s : State) (i r : Nat) : (s.arbDrop i r).lines = s.lines := by
  unfold State.arbDrop; dsimp only; (repeat' split) <;> simp
@[simp] theorem State.arbRelease_lines (s : State) (i : Nat) : (s.arbRelease i).lines = s.lines := by
  unfold State.arbRelease; dsimp only; (repeat' split) <;> simp

/-! Frames. -/

@[simp] theorem State.putPhase_lines (s : State) (p v : Nat) : (s.put (F.HALL_PORT_PHASE p) v).lines = s.lines :=
  s.put_lines _ v (not_lineReg (by simp only [Reg.HALL_PORT]; omega) (by simp only [Reg.HALL_PORT, Reg.CLASP_CTRL]; omega))
@[simp] theorem State.takeKey_lines (s : State) (p : Nat) : (s.takeKey p).2.lines = s.lines := by
  unfold State.takeKey
  extract_lets q _ s1 q1
  have h1 : s1.lines = s.lines := by
    simp only [s1]
    split
    · rfl
    · exact (State.putPhase_lines _ p _).trans (s.setPort_lines p _ rfl)
  split
  · exact h1
  · refine (State.setPort_lines s1 p _ ?_).trans h1
    rfl
/-- A channel's state is no lane. -/
theorem PortSt.setVc_lanes (q : PortSt) (v : Nat) (c : Vc) : (q.setVc v c).lanes = q.lanes := by
  unfold PortSt.setVc; (repeat' split) <;> rfl
@[simp] theorem State.txFrame_lines (s : State) (p v typ stream : Nat) (bs : List Byte) :
    (s.txFrame p v typ stream bs).lines = s.lines := by
  unfold State.txFrame
  dsimp only
  rw [State.emit_lines]
  refine (State.setPort_lines _ p _ ?_).trans (s.takeKey_lines p)
  exact PortSt.setVc_lanes _ _ _
@[simp] theorem State.controlGrant_lines (s : State) (p n : Nat) : (s.controlGrant p n).2.lines = s.lines := by
  unfold State.controlGrant; split <;> simp
@[simp] theorem State.sendControl_lines (s : State) (p : Nat) (f : Nat × Nat × List Byte) : (s.sendControl p f).lines = s.lines :=
  (State.txFrame_lines _ _ _ _ _ _).trans (s.setPort_lines p _ rfl)
@[simp] theorem State.controlDone_lines (s : State) (p : Nat) : (s.controlDone p).lines = s.lines := by
  unfold State.controlDone; split <;> simp
@[simp] theorem pumpFrom_lines (p k : Nat) (s : State) : (pumpFrom p k s).lines = s.lines := by
  induction k generalizing s with
  | zero => rfl
  | succ k ih => unfold pumpFrom; split <;> simp [ih]
@[simp] theorem State.pump_lines (s : State) (p : Nat) : (s.pump p).lines = s.lines := pumpFrom_lines _ _ s
@[simp] theorem State.queueFrame_lines (s : State) (p v typ : Nat) (bs : List Byte) : (s.queueFrame p v typ bs).lines = s.lines :=
  (State.pump_lines _ p).trans (s.setPort_lines p _ rfl)
@[simp] theorem State.sendVc1_lines (s : State) (p : Nat) (m : Vc1) : (s.sendVc1 p m).lines = s.lines := by
  unfold State.sendVc1; split <;> simp
@[simp] theorem State.sendUp1_lines (s : State) (m : Vc1) : (s.sendUp1 m).lines = s.lines :=
  foldl_lines (fun s p => s.sendVc1_lines p m) _ s

/-! A port goes DOWN (R313). -/

@[simp] theorem State.busyFollows_lines (s t : State) : (s.busyFollows t).lines = t.lines := by
  unfold State.busyFollows; split <;> rfl
@[simp] theorem State.putBusy_lines (s : State) (v : Nat) : (s.put F.TRG_STATUS_BUSY v).lines = s.lines :=
  s.put_lines _ v (not_lineReg (by decide) (by decide))
@[simp] theorem busyUpdate_lines (s : State) : (busyUpdate s).lines = s.lines := by
  unfold busyUpdate; dsimp only; split <;> simp [↓State.lines_mk]
@[simp] theorem busyLost_lines (p : Nat) (s : State) : (busyLost p s).lines = s.lines := by
  simp [busyLost, ↓State.lines_mk]
@[simp] theorem State.clearRoutes_lines (s : State) (p : Nat) : (s.clearRoutes p).lines = s.lines := by
  unfold State.clearRoutes
  simp only [↓State.lines_mk, State.lines_eta]
  refine foldl_keeps_mem State.lines _ (fun s d hd => s.put_lines _ _ ?_) s
  obtain ⟨e, -, he⟩ := List.mem_filterMap.1 hd
  simp only [Reg.TREE_ROUTE, Option.ite_none_right_eq_some, Option.some.injEq] at he
  obtain ⟨⟨-, hlt, -⟩, hd⟩ := he
  exact not_lineReg (by simp only [Reg.TREE_ROUTE]; omega) (by simp only [Reg.TREE_ROUTE, Reg.CLASP_CTRL]; omega)

/-- Units that end as aborted leave the ports alone. -/
@[simp] theorem State.alert_ports (s : State) (sev : Sev) (a b ut ui d : Nat) : (s.alert sev a b ut ui d).ports = s.ports := by
  unfold State.alert State.sendAlert State.logAlert State.pushUnit
  dsimp only
  (repeat' split) <;> simp
@[simp] theorem State.markLeft_ports (s : State) (u : BUnit) : (s.markLeft u).ports = s.ports := by
  unfold State.markLeft; dsimp only; (repeat' split) <;> simp
theorem State.abortOpen_ports (s : State) (p : Nat) (pc : Piece) : (s.abortOpen p pc).ports = s.ports := by
  unfold State.abortOpen State.warnCnt State.dropOpen State.mapOpen
  dsimp only
  (repeat' split) <;> simp
@[simp] theorem State.abortPort_ports (s : State) (p : Nat) : (s.abortPort p).ports = s.ports :=
  foldl_keeps State.ports (fun s _ => s.abortOpen_ports p _) _ s

/-- Nor do they touch CLASP_CTRL. -/
theorem State.alert_clasp (s : State) (sev : Sev) (a b ut ui d : Nat) :
    (s.alert sev a b ut ui d).rd Reg.CLASP_CTRL = s.rd Reg.CLASP_CTRL := by
  have hget : ∀ t : State, t.get ⟨Reg.CLASP_CTRL, 0, 32⟩ = t.rd Reg.CLASP_CTRL := fun t => by
    simp [State.get, bitsOf]
    exact t.rd_lt _
  rw [← hget, ← hget]
  exact s.get_alert_other sev a b ut ui d (by decide) (by decide) (by decide) (.inl (by decide)) (by decide)
theorem State.markLeft_clasp (s : State) (u : BUnit) : (s.markLeft u).rd Reg.CLASP_CTRL = s.rd Reg.CLASP_CTRL := by
  unfold State.markLeft
  dsimp only
  split
  · rfl
  · split
    · exact State.rd_wr_other _ _ _ _ (by decide)
    · rfl
theorem State.abortOpen_clasp (s : State) (p : Nat) (pc : Piece) : (s.abortOpen p pc).rd Reg.CLASP_CTRL = s.rd Reg.CLASP_CTRL := by
  have hinc : (s.inc Reg.FRAG_RX_ABORT_CNT).rd Reg.CLASP_CTRL = s.rd Reg.CLASP_CTRL := State.rd_wr_other _ _ _ _ (by decide)
  have hdrop : ∀ t : State, (t.dropOpen p pc).rd Reg.CLASP_CTRL = t.rd Reg.CLASP_CTRL := fun _ => rfl
  have hmap : ∀ (t : State) f, (t.mapOpen p pc f).rd Reg.CLASP_CTRL = t.rd Reg.CLASP_CTRL := fun _ _ => rfl
  have hs2 : ∀ u : BUnit, (if isSpecUnit u.bytes then (s.inc Reg.FRAG_RX_ABORT_CNT).markLeft u else s.inc Reg.FRAG_RX_ABORT_CNT).rd
      Reg.CLASP_CTRL = s.rd Reg.CLASP_CTRL := fun u => by
    split
    · exact (State.markLeft_clasp _ u).trans hinc
    · exact hinc
  unfold State.abortOpen
  split
  · rfl
  · dsimp only
    split
    · exact hdrop s
    · split
      · rw [State.warnCnt, State.alert_clasp, hdrop, hs2]
      · split
        · rw [hdrop, hs2]
        · rw [hmap, hs2]
theorem State.abortPort_clasp (s : State) (p : Nat) : (s.abortPort p).rd Reg.CLASP_CTRL = s.rd Reg.CLASP_CTRL :=
  foldl_keeps (·.rd Reg.CLASP_CTRL) (fun s _ => s.abortOpen_clasp p _) _ s

/-- A port that is in DOWN goes down: nothing is lost. -/
theorem State.portDown_of_down {s : State} {p : Nat} (hp : p < 16) (h0 : s.portState p = 0) :
    (s.portDown p).still = s.still ∧ (∀ q, ((s.portDown p).port q).lanes = (s.port q).lanes) ∧ (s.portDown p).portState p = 0 ∧
    (s.portDown p).rd Reg.CLASP_CTRL = s.rd Reg.CLASP_CTRL := by
  let q := s.port p
  let v : PortSt := { lanes := q.lanes, kid := 0x3FF, rate := q.rate, sess := { retry := q.sess.retry, since := q.sess.since } }
  let s2 := (s.abortPort p).setPort p v
  let s3 := ((s2.put (F.PORT_STATUS_STATE p) 0).put (F.HALL_PORT_SESSION p) 0).put (F.HALL_PORT_PHASE p) 0
  have hlt : ¬(0 < s.portState p) := by omega
  have hlanes3 : ∀ q, (s3.port q).lanes = (s.port q).lanes := fun q => by
    have hq : (s2.port q).lanes = (s.port q).lanes := by
      simp only [s2, State.port_setPort, State.port_congr (s.abortPort_ports p)]
      split
      · next h => rw [h]
      · rfl
    simp only [s3, State.port_put]
    exact hq
  have hstate3 : s3.portState p = 0 := by
    have hne : (F.PORT_STATUS_STATE p).reg ≠ Reg.HALL_PORT p := by simp only [Reg.PORT_STATUS, Reg.HALL_PORT]; omega
    show s3.get _ = 0
    rw [State.get_put_other _ _ _ _ hne, State.get_put_other _ _ _ _ hne, State.get_put_same _ _ _ (by simp)]
    rfl
  have hclasp3 : s3.rd Reg.CLASP_CTRL = s.rd Reg.CLASP_CTRL := by
    have hne : Reg.CLASP_CTRL ≠ Reg.HALL_PORT p ∧ Reg.CLASP_CTRL ≠ Reg.PORT_STATUS p := by
      simp only [Reg.PORT_STATUS, Reg.HALL_PORT, Reg.CLASP_CTRL]; omega
    show (((s2.put _ 0).put _ 0).put _ 0).rd _ = _
    rw [State.rd_put_other _ _ _ _ hne.1, State.rd_put_other _ _ _ _ hne.1, State.rd_put_other _ _ _ _ hne.2,
      State.rd_congr (State.setPort_regs _ _ _), State.abortPort_clasp]
  have hstill3 : s3.still = s.still := by simp [s3, s2]
  have hd : (s.portDown p).still = s3.still ∧ (s.portDown p).lines = s3.lines := by
    have hput : ∀ x : State, (x.put F.TREE_STATUS_ALT_WARM 0).lines = x.lines := fun x =>
      x.put_lines _ 0 (not_lineReg (by decide) (by decide))
    constructor
    · simp only [State.portDown, hlt, and_false, if_false, ↓State.still_mk, State.still_eta, State.unflag_eq]
      simp [↓State.still_mk, s3, s2]
    · simp only [State.portDown, hlt, and_false, if_false, ↓State.lines_mk, State.lines_eta, State.unflag_eq]
      simp [↓State.lines_mk, hput, s3, s2, v, q]
  exact ⟨hd.1.trans hstill3, fun q => (State.lanes_of_lines hd.2 q).trans (hlanes3 q), (State.portState_of_lines hd.2 hp).trans hstate3,
    (State.clasp_of_lines hd.2).trans hclasp3⟩

end Sys2Proof.Machine
end

section
/-! A write of PORT_CFG starts its port anew under its type and lanes (R284, R314). -/

namespace Sys2Proof.Machine

/-! Folds over some elements. -/

/-- What each step brings about for its element and keeps for every element holds of all elements. -/
theorem foldl_forall_mem {α : Type} (P : α → State → Prop) {f : State → α → State} (h : ∀ s x, P x (f s x))
    (hk : ∀ s x y, P y s → P y (f s x)) (l : List α) (s : State) : ∀ x ∈ l, P x (l.foldl f s) := by
  have hkeep : ∀ (l : List α) (s : State) (y : α), P y s → P y (l.foldl f s) := by
    intro l
    induction l with
    | nil => exact fun _ _ hy => hy
    | cons x l ih => exact fun s y hy => ih _ y (hk s x y hy)
  induction l generalizing s with
  | nil => intro x hx; cases hx
  | cons x l ih =>
    intro y hy
    rcases List.mem_cons.1 hy with rfl | hy
    · exact hkeep l _ _ (h s _)
    · exact ih _ y hy

/-- A state that no member of the list changes. -/
theorem foldl_eq_self {α : Type} {f : State → α → State} {s : State} (l : List α) (h : ∀ x ∈ l, f s x = s) : l.foldl f s = s := by
  induction l with
  | nil => rfl
  | cons x l ih => rw [List.foldl_cons, h x List.mem_cons_self, ih fun y hy => h y (List.mem_cons_of_mem _ hy)]

/-! Who holds a lane, and the lanes of a port. -/

theorem State.mayTrain_congr {s t : State} (hsys : t.sys = s.sys) (hf : t.fault = s.fault) (hc : t.rd Reg.CLASP_CTRL = s.rd Reg.CLASP_CTRL)
    (hsafe : t.rd Reg.HALL_PORT_SAFE = s.rd Reg.HALL_PORT_SAFE) {p : Nat} (hp : t.rd (Reg.PORT_CFG p) = s.rd (Reg.PORT_CFG p))
    (hr : (t.port p).sess.retry = (s.port p).sess.retry) : t.mayTrain p = s.mayTrain p := by
  have hkind : t.portKind p = s.portKind p := by
    simp only [State.portKind, State.isRoot, State.on, State.get, hsys, hc, hp]
    rfl
  simp only [State.mayTrain, State.isRetired, hkind, hsys, hf, hsafe, hr]

theorem State.lanesFor_congr {s t : State} (hf : t.fault = s.fault) (hl : ∀ k, t.portOfLane k = s.portOfLane k)
    (hctrl : ∀ k < 16, t.rd (Reg.LANE_CTRL k) = s.rd (Reg.LANE_CTRL k)) (hloop : ∀ k, (t.lane k).loop = 3 ↔ (s.lane k).loop = 3) (p : Nat) :
    t.lanesFor p = s.lanesFor p := by
  unfold State.lanesFor
  refine List.filter_congr fun k hk => ?_
  have h := hctrl k (List.mem_range.1 hk)
  simp only [State.laneServes, State.isRetired, State.get, hf, hl, h, ne_eq, hloop]
  rfl

/-! The conflicts of lanes (R284). -/

@[simp] theorem State.conflicts_still (s : State) : s.conflicts.still = s.still := foldl_still (fun _ _ => State.put_still _ _ _) _ s
@[simp] theorem State.conflicts_ports (s : State) : s.conflicts.ports = s.ports :=
  foldl_keeps State.ports (fun _ _ => State.put_ports _ _ _) _ s
theorem State.rd_conflicts (s : State) {a : Nat} (h : ∀ q < 16, a ≠ Reg.PORT_STATUS q) : s.conflicts.rd a = s.rd a :=
  foldl_keeps_mem (·.rd a) _ (fun s q hq => s.rd_put_other _ _ _ (h q (List.mem_range.1 hq))) s
theorem State.portState_conflicts (s : State) (p : Nat) : s.conflicts.portState p = s.portState p :=
  foldl_keeps (·.portState p) (fun s q => s.get_put_apart _ _ _ (by simp) (by simp)) _ s

/-- With no lane in use nothing leaves a port (R284). -/
theorem State.relane_idle {s : State} (h : ∀ q < 16, (s.port q).lanes = []) (p : Nat) : s.relane p = s.conflicts := by
  refine foldl_eq_self _ fun q hq => ?_
  have hq' : (s.conflicts.port q).lanes = [] := by
    rw [State.port_congr s.conflicts_ports]
    exact h q (List.mem_range.1 (List.mem_filter.1 hq).1)
  simp only [hq', List.filter_nil, if_true]

/-! Lanes that no port uses any more sleep (R284). -/

@[simp] theorem State.lanePower_ports (s : State) (l : Nat) (on : Bool) : (s.lanePower l on).ports = s.ports := by
  cases on
  · simp [State.lanePower_false]
  · simp [State.lanePower_true]
theorem State.rd_lanePower (s : State) (l : Nat) (on : Bool) {a : Nat} (h : a ≠ Reg.LANE_STATUS l) : (s.lanePower l on).rd a = s.rd a := by
  have hput : ∀ (t : State) (lo w x : Nat), (t.put ⟨Reg.LANE_STATUS l, lo, w⟩ x).rd a = t.rd a := fun t lo w x => t.rd_put_other _ x a h
  cases on
  · rw [State.lanePower_false, hput, hput, hput]
  · rw [State.lanePower_true, hput, hput]

/-! To BASE (R314). -/

/-- A lane of a port that enters BASE is powered, not adapted and without lock. -/
def State.based (s : State) (l : Nat) : State :=
  (((s.lanePower l true).put (F.LANE_STATUS_ADAPT l) 0).put (F.LANE_STATUS_LOCK l) 0).setLane l {}

@[simp] theorem State.based_still (s : State) (l : Nat) : (s.based l).still = s.still := by simp [State.based]
@[simp] theorem State.based_ports (s : State) (l : Nat) : (s.based l).ports = s.ports := by simp [State.based]
@[simp] theorem State.based_fault (s : State) (l : Nat) : (s.based l).fault = s.fault := by simp [State.based, State.lanePower_true]
theorem State.lane_based (s : State) (l k : Nat) : (s.based l).lane k = if k = l then {} else s.lane k := by
  simp [State.based, State.lanePower_true]
theorem State.rd_based (s : State) (l : Nat) {a : Nat} (h : a ≠ Reg.LANE_STATUS l) : (s.based l).rd a = s.rd a := by
  rw [State.based, State.rd_congr (State.setLane_regs _ _ _), State.rd_put_other _ _ _ _ h, State.rd_put_other _ _ _ _ h,
    State.rd_lanePower _ _ _ h]
/-- The lane is awake and not adapted. -/
abbrev laneAwake (k : Nat) (s : State) : Prop := s.get (F.LANE_STATUS_RX_AWAKE k) = 1 ∧ s.get (F.LANE_STATUS_ADAPT k) = 0
theorem State.based_awake (s : State) (l : Nat) : laneAwake l (s.based l) := by
  have he : ∀ f, (s.based l).get f = (((((s.put (F.LANE_STATUS_RX_AWAKE l) 1).put (F.LANE_STATUS_TX_AWAKE l) 1).put
      (F.LANE_STATUS_ADAPT l) 0)).put (F.LANE_STATUS_LOCK l) 0).get f := fun f => by
    rw [State.based, State.get_congr (State.setLane_regs _ _ _), State.lanePower_true]
  exact ⟨by rw [he, State.get_put_apart _ _ _ _ (by simp) (by simp), State.get_put_apart _ _ _ _ (by simp) (by simp),
      State.get_put_apart _ _ _ _ (by simp) (by simp), State.get_put_same _ _ _ (by simp)]; rfl,
    by rw [he, State.get_put_apart _ _ _ _ (by simp) (by simp), State.get_put_same _ _ _ (by simp)]; rfl⟩
theorem laneAwake_congr {s t : State} {k : Nat} (h : t.rd (Reg.LANE_STATUS k) = s.rd (Reg.LANE_STATUS k)) (ha : laneAwake k s) :
    laneAwake k t := by
  simpa only [laneAwake, State.get, h] using ha
theorem laneAwake_based {s : State} {k : Nat} (l : Nat) (h : laneAwake k s) : laneAwake k (s.based l) := by
  by_cases hkl : k = l
  · rw [hkl]
    exact s.based_awake l
  · exact laneAwake_congr (s.rd_based l (by simp only [Reg.LANE_STATUS]; omega)) h

/-- After all lanes of a list the members hold nothing, and the others what they held. -/
theorem State.lane_foldl_based (ls : List Nat) (s : State) (k : Nat) : (ls.foldl State.based s).lane k = if k ∈ ls then {} else s.lane k := by
  induction ls generalizing s with
  | nil => simp
  | cons l ls ih =>
    rw [List.foldl_cons, ih, State.lane_based]
    by_cases hl : k = l <;> by_cases hls : k ∈ ls <;> simp [hl, hls]

/-- Blocks of training change the outputs alone. -/
theorem State.sendTrain_keeps {β : Type} (P : State → β) (h : ∀ s o, P (State.emit s o) = P s) (s : State) (p step : Nat) :
    P (s.sendTrain p step) = P s :=
  foldl_keeps P (fun s _ => foldl_keeps P (fun s _ => h s _) _ s) _ s

/-- What a port in DOWN becomes that may train. -/
theorem State.toBase_spec {b : State} {p : Nat} (h0 : b.portState p = 0) (hm : b.mayTrain p = true) :
    (b.toBase p).portState p = 1 ∧ (b.toBase p).fault = b.fault ∧ ((b.toBase p).port p).lanes = (b.port p).lanes ∧
    ((b.toBase p).port p).sess = (b.port p).sess ∧
    (∀ a, a ≠ Reg.PORT_STATUS p → (∀ k < 16, a ≠ Reg.LANE_STATUS k) → (b.toBase p).rd a = b.rd a) ∧
    (∀ k, ((b.toBase p).lane k).loop = 3 ↔ (b.lane k).loop = 3) ∧ (p < 16 → ∀ k ∈ b.lanesFor p, laneAwake k (b.toBase p)) := by
  obtain ⟨s1, hs1⟩ : ∃ s1, s1 = (b.lanesFor p).foldl State.based b := ⟨_, rfl⟩
  obtain ⟨s2, hs2⟩ : ∃ s2, s2 = (s1.put (F.PORT_STATUS_STATE p) 1).setPort p
    { (s1.put (F.PORT_STATUS_STATE p) 1).port p with set := none, same := 0, ready := false, locked := false, rate := (2, 1) } := ⟨_, rfl⟩
  have he : b.toBase p = s2.sendTrain p 0 := by
    rw [State.toBase, if_pos ⟨h0, hm⟩, hs2, hs1]
    rfl
  have hregs : (s2.sendTrain p 0).regs = s2.regs := s2.sendTrain_keeps State.regs (fun _ _ => rfl) p 0
  have hports1 : s1.ports = b.ports := hs1 ▸ foldl_keeps State.ports State.based_ports _ b
  have hport : (s2.sendTrain p 0).port p = s2.port p := State.port_congr (s2.sendTrain_keeps State.ports (fun _ _ => rfl) p 0) p
  have hport2 : (s2.port p).lanes = (b.port p).lanes ∧ (s2.port p).sess = (b.port p).sess := by
    rw [hs2, State.port_setPort, if_pos rfl, State.port_put, State.port_congr hports1]
    exact ⟨rfl, rfl⟩
  have hrd2 : ∀ a, a ≠ Reg.PORT_STATUS p → s2.rd a = s1.rd a := fun a h => by
    rw [hs2, State.rd_congr (State.setPort_regs _ _ _), State.rd_put_other _ _ _ _ h]
  rw [he, hport]
  refine ⟨?_, ?_, hport2.1, hport2.2, fun a ha hl => ?_, fun k => ?_, fun hp k hk => ?_⟩
  · rw [State.portState, State.get_congr hregs, hs2, State.get_congr (State.setPort_regs _ _ _), State.get_put_same _ _ _ (by simp)]
    rfl
  · rw [s2.sendTrain_keeps State.fault (fun _ _ => rfl) p 0, hs2, State.setPort_fault, State.put_fault, hs1]
    exact foldl_keeps State.fault State.based_fault _ b
  · rw [State.rd_congr hregs, hrd2 a ha, hs1]
    exact foldl_keeps_mem (·.rd a) _ (fun s k hk => s.rd_based k (hl k (State.mem_lanesFor.1 hk).1)) b
  · have hlane : (s2.sendTrain p 0).lane k = s1.lane k := by
      rw [State.lane_congr (s2.sendTrain_keeps State.lanes (fun _ _ => rfl) p 0), hs2, State.lane_setPort, State.lane_put]
    rw [hlane, hs1, State.lane_foldl_based]
    split
    · next hk =>
      have hserves := (State.mem_lanesFor.1 hk).2.2
      simp only [State.laneServes, Bool.and_eq_true, decide_eq_true_eq] at hserves
      simp [hserves.2]
    · rfl
  · have hawake : laneAwake k s1 := hs1 ▸ foldl_forall_mem laneAwake State.based_awake (fun s x y h => laneAwake_based x h) _ b k hk
    have hk16 := (State.mem_lanesFor.1 hk).1
    exact laneAwake_congr ((State.rd_congr hregs _).trans (hrd2 _ (by simp only [Reg.LANE_STATUS, Reg.PORT_STATUS]; omega))) hawake

/-- A port in DOWN that may not train stays there. -/
theorem State.toBase_stays {b : State} {p : Nat} (hm : b.mayTrain p = false) : b.toBase p = b := by
  simp [State.toBase, hm]

/-! The write. -/

/-- The die before a port whose PORT_CFG has been written may enter BASE. -/
def State.configured (s : State) (p nw : Nat) : State :=
  (List.range 16).foldl (fun t l =>
    if bitsOf (t.rd (Reg.PORT_CFG p) ||| nw) l 1 = 1 ∧ t.portOfLane l = none ∧ ¬ t.hostLane l then t.lanePower l false else t)
    ((((s.portDown p).setLanes p []).wr (Reg.PORT_CFG p) nw).relane p)

theorem State.portCfgWrite_eq (s : State) (p nw : Nat) : s.portCfgWrite p nw = (s.configured p nw).toBase p := rfl

/-- With every port in DOWN and no lane in use the port keeps nothing but its new word. -/
theorem State.configured_spec {s : State} {p nw : Nat} (hp : p < 16) (h0 : s.portState p = 0) (hl : ∀ q < 16, (s.port q).lanes = []) :
    (s.configured p nw).still = s.still ∧ (s.configured p nw).rd (Reg.PORT_CFG p) = nw % 2 ^ 32 ∧
    (s.configured p nw).portState p = 0 ∧ ((s.configured p nw).port p).lanes = [] ∧
    (s.configured p nw).rd Reg.CLASP_CTRL = s.rd Reg.CLASP_CTRL := by
  obtain ⟨hstill, hlanes, hstate, hclasp⟩ := s.portDown_of_down hp h0
  obtain ⟨s1, hs1⟩ : ∃ s1, s1 = ((s.portDown p).setLanes p []).wr (Reg.PORT_CFG p) nw := ⟨_, rfl⟩
  have hlanes1 : ∀ q < 16, (s1.port q).lanes = [] := fun q hq => by
    rw [hs1, State.port_wr, State.port_setLanes]
    split
    · rfl
    · rw [hlanes, hl q hq]
  have hstill1 : s1.still = s.still := by rw [hs1, State.wr_still, State.setLanes_still, hstill]
  have hcfg1 : s1.rd (Reg.PORT_CFG p) = nw % 2 ^ 32 := by rw [hs1, State.rd_wr_same]
  have hstate1 : s1.portState p = 0 := by
    have hne : Reg.PORT_STATUS p ≠ Reg.PORT_CFG p := by simp only [Reg.PORT_STATUS, Reg.PORT_CFG]; omega
    rw [← hstate, hs1, State.portState, State.get_wr_other _ _ _ _ hne, State.setLanes]
    exact State.get_put_apart _ _ _ _ (by simp) (by simp)
  have hsleep : ∀ a, (∀ k < 16, a ≠ Reg.LANE_STATUS k) → (s.configured p nw).rd a = s1.conflicts.rd a := fun a ha => by
    rw [State.configured, ← hs1, State.relane_idle hlanes1]
    refine foldl_keeps_mem (·.rd a) _ (fun t k hk => ?_) _
    split
    · exact t.rd_lanePower k false (ha k (List.mem_range.1 hk))
    · rfl
  refine ⟨?_, ?_, ?_, ?_, ?_⟩
  · rw [State.configured, ← hs1, State.relane_idle hlanes1]
    refine (foldl_still (fun t k => ?_) _ _).trans (s1.conflicts_still.trans hstill1)
    split
    · exact t.lanePower_still k false
    · rfl
  · rw [hsleep _ fun k hk => by simp only [Reg.PORT_CFG, Reg.LANE_STATUS]; omega, s1.rd_conflicts, hcfg1]
    intro q hq
    simp only [Reg.PORT_CFG, Reg.PORT_STATUS]; omega
  · rw [State.portState, State.get, hsleep _ fun k hk => by simp only [Reg.PORT_STATUS, Reg.LANE_STATUS]; omega]
    exact (s1.portState_conflicts p).trans hstate1
  · have hports : (s.configured p nw).ports = s1.ports := by
      rw [State.configured, ← hs1, State.relane_idle hlanes1]
      refine (foldl_keeps State.ports (fun t k => ?_) _ _).trans s1.conflicts_ports
      split
      · exact t.lanePower_ports k false
      · rfl
    rw [State.port_congr hports, hlanes1 p hp]
  · rw [hsleep _ fun k hk => by simp only [Reg.CLASP_CTRL, Reg.LANE_STATUS]; omega, s1.rd_conflicts, hs1,
      State.rd_wr_other _ _ _ _ (by simp only [Reg.CLASP_CTRL, Reg.PORT_CFG]; omega),
      State.rd_setLanes _ _ _ (by simp only [Reg.CLASP_CTRL, Reg.PORT_STATUS]; omega), hclasp]
    intro q hq
    simp only [Reg.CLASP_CTRL, Reg.PORT_STATUS]; omega

/-- A PORT_CFG that is taken: the port is in BASE exactly where it may train, and then its lanes are awake (R284, R314). -/
theorem portCfgWrite_starts {s : State} {p v : Nat} (ha : Awake s) (hr : s.sys.run = .ready) (hp : p < 16) (bar : Bool)
    (hc : s.portConflict p (v % 2 ^ 32) = none) (h0 : s.portState p = 0)
    (hl : (List.range 16).all (fun x => decide ((s.port x).lanes = [])) = true) :
    ∃ t, exec (.portCfgWrite bar p v) s = .next t ∧ t.get (F.PORT_CFG_TYPE p) = v / 2 ^ 30 % 4 ∧ t.get (F.PORT_CFG_LANES p) = v % 2 ^ 16 ∧
      t.get (F.PORT_CFG_LOOP_ALLOW p) = v / 2 ^ 29 % 2 ∧ t.portState p = (if t.mayTrain p = true then 1 else 0) ∧ (t.port p).lanes = [] ∧
      (t.mayTrain p = true → (t.lanesFor p).all (fun x => t.on (F.LANE_STATUS_RX_AWAKE x) && decide (t.get (F.LANE_STATUS_ADAPT x) = 0)) = true) ∧
      t.rd Reg.CLASP_CTRL = s.rd Reg.CLASP_CTRL ∧ t.sys = s.sys ∧ t.time = s.time := by
  let w := s.portCfgWord p (v % 2 ^ 32)
  have hl' : ∀ q < 16, (s.port q).lanes = [] := fun q hq => by
    simpa using List.all_eq_true.1 hl q (List.mem_range.2 hq)
  obtain ⟨b, hb⟩ : ∃ b, b = (s.letGo (Reg.PORT_CFG p)).configured p w := ⟨_, rfl⟩
  obtain ⟨t, ht⟩ : ∃ t, t = (b.toBase p).digested (Reg.PORT_CFG p) (s.rd (Reg.PORT_CFG p)) w := ⟨_, rfl⟩
  obtain ⟨hstill, hcfg, hstate, hlanes, hclaspb⟩ := State.configured_spec (s := s.letGo (Reg.PORT_CFG p)) (nw := w) hp h0 hl'
  rw [← hb] at hstill hcfg hstate hlanes hclaspb
  have hts : t.still = s.still := by
    have h := (State.digested_still (b.toBase p) (Reg.PORT_CFG p) (s.rd (Reg.PORT_CFG p)) w).trans ((b.toBase_still p).trans hstill)
    rw [ht]
    exact h
  have hrd : ∀ a, a ≠ Reg.HALL_STATUS → t.rd a = (b.toBase p).rd a := fun a h => by
    rw [ht]
    exact State.rd_digested _ _ _ _ h
  have hport : t.port p = (b.toBase p).port p := by
    rw [ht]
    exact State.port_digested _ _ _ _ p
  have hlane : ∀ k, t.lane k = (b.toBase p).lane k := fun k => by
    rw [ht]
    exact State.lane_digested _ _ _ _ k
  have hfault : t.fault = (b.toBase p).fault := by
    rw [ht]
    unfold State.digested; (repeat' split) <;> rfl
  have hbsys := State.sys_of_still hstill
  have hsys := State.sys_of_still hts
  have hcfgt : t.rd (Reg.PORT_CFG p) = w % 2 ^ 32 ∧ t.mayTrain p = b.mayTrain p ∧ t.lanesFor p = b.lanesFor p ∧
      t.rd Reg.CLASP_CTRL = b.rd Reg.CLASP_CTRL := by
    obtain ⟨hfb, hsess, hbase, hloop⟩ : (b.toBase p).fault = b.fault ∧ ((b.toBase p).port p).sess = (b.port p).sess ∧
        (∀ a, a ≠ Reg.PORT_STATUS p → (∀ k < 16, a ≠ Reg.LANE_STATUS k) → (b.toBase p).rd a = b.rd a) ∧
        (∀ k, ((b.toBase p).lane k).loop = 3 ↔ (b.lane k).loop = 3) := by
      cases hm : b.mayTrain p with
      | false =>
        rw [State.toBase_stays hm]
        exact ⟨rfl, rfl, fun _ _ _ => rfl, fun _ => Iff.rfl⟩
      | true =>
        obtain ⟨-, h1, -, h2, h3, h4, -⟩ := State.toBase_spec hstate hm
        exact ⟨h1, h2, h3, h4⟩
    have hcfgs : ∀ q < 16, t.rd (Reg.PORT_CFG q) = b.rd (Reg.PORT_CFG q) := fun q hq => by
      rw [hrd _ (by simp only [Reg.PORT_CFG, Reg.HALL_STATUS]; omega), hbase _ (by simp only [Reg.PORT_CFG, Reg.PORT_STATUS]; omega)]
      intro k hk
      simp only [Reg.PORT_CFG, Reg.LANE_STATUS]; omega
    have hclasp : t.rd Reg.CLASP_CTRL = b.rd Reg.CLASP_CTRL := by
      rw [hrd _ (by decide), hbase _ (by simp only [Reg.CLASP_CTRL, Reg.PORT_STATUS]; omega)]
      intro k hk
      simp only [Reg.CLASP_CTRL, Reg.LANE_STATUS]; omega
    have hsafe : t.rd Reg.HALL_PORT_SAFE = b.rd Reg.HALL_PORT_SAFE := by
      rw [hrd _ (by decide), hbase _ (by simp only [Reg.HALL_PORT_SAFE, Reg.PORT_STATUS]; omega)]
      intro k hk
      simp only [Reg.HALL_PORT_SAFE, Reg.LANE_STATUS]; omega
    have hctrl : ∀ k < 16, t.rd (Reg.LANE_CTRL k) = b.rd (Reg.LANE_CTRL k) := fun k hk => by
      rw [hrd _ (by simp only [Reg.LANE_CTRL, Reg.HALL_STATUS]; omega), hbase _ (by simp only [Reg.LANE_CTRL, Reg.PORT_STATUS]; omega)]
      intro j hj
      simp only [Reg.LANE_CTRL, Reg.LANE_STATUS]; omega
    have htb := hsys.trans hbsys.symm
    exact ⟨(hcfgs p hp).trans hcfg,
      State.mayTrain_congr htb (hfault.trans hfb) hclasp hsafe (hcfgs p hp) (by rw [hport, hsess]),
      State.lanesFor_congr (hfault.trans hfb) (State.portOfLane_congr htb hclasp hcfgs) hctrl (fun k => by rw [hlane, hloop]) p, hclasp⟩
  obtain ⟨hword, hmay, hfor, hclaspt⟩ := hcfgt
  obtain ⟨hlow, hhigh⟩ := bitsOf_portCfgWord s p (v % 2 ^ 32)
  have hfield : ∀ lo n, lo + n ≤ 32 → lo + n ≤ 16 ∨ 29 ≤ lo → bitsOf (t.rd (Reg.PORT_CFG p)) lo n = bitsOf v lo n := fun lo n h h' => by
    rw [hword, bitsOf_mod_word _ _ _ h, ← bitsOf_mod_word v _ _ h]
    exact h'.elim (hlow lo n) fun h29 => hhigh lo n h29 h
  have hexec : exec (.portCfgWrite bar p v) s = .next t := by
    have he : s.write bar (Reg.PORT_CFG (p % 16)) v = (b.toBase p).digested (Reg.PORT_CFG p) (s.rd (Reg.PORT_CFG p)) w := by
      rw [Nat.mod_eq_of_lt hp, State.write_portCfg hp hr hc bar, State.portCfgWrite_eq, hb]
    exact (congrArg (finish s) (he.trans ht.symm)).trans (finish_eq ha hsys (State.pending_of_still hts))
  have hstatus : t.portState p = (b.toBase p).portState p := by
    rw [State.portState, State.portState, State.get, State.get, hrd _ (by simp only [Reg.PORT_STATUS, Reg.HALL_STATUS]; omega)]
  refine ⟨t, hexec, (hfield 30 2 (by decide) (.inr (by decide))), (hfield 0 16 (by decide) (.inl (by decide))).trans (by simp [bitsOf]),
    hfield 29 1 (by decide) (.inr (by decide)), ?_, ?_, fun hm => ?_,
    hclaspt.trans hclaspb, hsys, State.time_of_still hts⟩
  · cases hm : b.mayTrain p with
    | false => rw [hstatus, hmay, hm, State.toBase_stays hm, hstate]; rfl
    | true => rw [hstatus, hmay, hm, (State.toBase_spec hstate hm).1]; rfl
  · rw [hport]
    cases hm : b.mayTrain p with
    | false => rw [State.toBase_stays hm, hlanes]
    | true =>
      obtain ⟨-, -, h, -⟩ := State.toBase_spec hstate hm
      rw [h, hlanes]
  · rw [hmay] at hm
    obtain ⟨-, -, -, -, -, -, hawake⟩ := State.toBase_spec hstate hm
    rw [hfor, List.all_eq_true]
    intro k hk
    have hk16 := (State.mem_lanesFor.1 hk).1
    obtain ⟨hrx, hadapt⟩ := laneAwake_congr (hrd _ (by simp only [Reg.LANE_STATUS, Reg.HALL_STATUS]; omega)) (hawake hp k hk)
    simp [State.on, hrx, hadapt]

end Sys2Proof.Machine
end

section
/-! Ports, widths and loops as software sets them (R26, R284, R306, R321). -/

namespace Sys2Proof.Machine

/-- A port of kind 0 that keeps TYPE 0 may not train. -/
theorem State.mayTrain_unused {s t : State} {p : Nat} (hsys : t.sys = s.sys) (hc : t.rd Reg.CLASP_CTRL = s.rd Reg.CLASP_CTRL)
    (hk : s.portKind p = 0) (h0 : t.get (F.PORT_CFG_TYPE p) = 0) : t.mayTrain p = false := by
  have hclasp : ¬(p = 15 ∧ t.isRoot = true ∧ t.on F.CLASP_CTRL_ENABLE = true) := by
    have hcongr : t.isRoot = s.isRoot ∧ t.on F.CLASP_CTRL_ENABLE = s.on F.CLASP_CTRL_ENABLE := by
      simp only [State.isRoot, State.on, State.get, hsys, hc]
      exact ⟨trivial, trivial⟩
    rw [hcongr.1, hcongr.2]
    intro h
    rw [State.portKind, if_pos h] at hk
    cases hk
  have hkind : t.portKind p = 0 := by rw [State.portKind, if_neg hclasp, h0]
  simp [State.mayTrain, hkind]

/-- A PORT_CFG of more than four lanes changes nothing but the counts and the record of the refusal (R27, R284, R360). -/
theorem portCfgWrite_refused {s : State} {p v : Nat} (ha : Awake s) (hr : s.sys.run = .ready) (hp : p < 16) (bar : Bool)
    (hc : 4 < popCount 16 (v % 2 ^ 16)) : ∃ t, exec (.portCfgWrite bar p v) s = .next t ∧
      t.rd Reg.SYS_REJECT_CNT = min (s.rd Reg.SYS_REJECT_CNT + 1) 0xFFFFFFFF ∧ t.rd (Reg.PORT_CFG p) = s.rd (Reg.PORT_CFG p) ∧
      (bar = true → s.isRoot = true → t.get F.HIF_LAST_REJECT_STATUS = 2 ∧ t.rd (Reg.HIF_LAST_REJECT + 4) = Reg.PORT_CFG p) ∧
      regsBut [Reg.SYS_REJECT_CNT, Reg.HIF_LAST_REJECT, Reg.HIF_LAST_REJECT + 4] s t ∧ t = { s with regs := t.regs } := by
  let r := ansMode 0x0A (Reg.PORT_CFG p)
  have hst : r.status = 2 := rfl
  have hw : s.write bar (Reg.PORT_CFG (p % 16)) v = s.refused bar false r (Reg.PORT_CFG p) := by
    rw [Nat.mod_eq_of_lt hp]
    simp [State.write, State.refused, State.busWrite_portCfg_wide hp hr hc, r, ansMode]
  have hmode : (findReg (Reg.PORT_CFG p)).any (fun h => decide (h.row.cls = .mode)) = true := by
    rw [findReg_portCfg hp]
    rfl
  have hdetail : r.detail < 2 ^ 24 := by
    have hall : ∀ q < 16, (ansMode 0x0A (Reg.PORT_CFG q)).detail < 2 ^ 24 := by decide
    exact hall p hp
  obtain ⟨hkept, hlast⟩ := s.refused_spec bar false r (.inl rfl) hmode (by rw [hst]; decide) hdetail
  obtain ⟨hcnt, -, -⟩ := s.rd_refused bar false r (Reg.PORT_CFG p)
  have hexec : exec (.portCfgWrite bar p v) s = .next (s.refused bar false r (Reg.PORT_CFG p)) := by
    refine (congrArg (finish s) hw).trans ?_
    rw [State.refused_frame]
    exact finish_eq ha rfl rfl
  refine ⟨_, hexec, hcnt, hkept, fun hb hroot => ?_, s.refused_regsBut bar r _, s.refused_frame _ _ _ _⟩
  obtain ⟨hstatus, -, haddr⟩ := hlast hb hroot
  exact ⟨hstatus.trans hst, haddr⟩

/-- Settles O38: each clause by what the write or the block leaves of the port, its lanes and its loop. -/
theorem portsWidthsAndLoopsAreSet : Obligations.PortsWidthsAndLoopsAreSet := by
  intro s bar p l c v ha hr hp hl hc hne hh
  refine ⟨fun hconf hty hk h0 _ hlanes _ => ?unused, fun hconf _ _ h0 _ hlanes _ => ?used,
    fun hwide _ => portCfgWrite_refused ha hr hp bar hwide,
    fun hf hup hlanes hv hon => portWidthWrite_sleeps ha hr hp hl hc hne bar hf hup hlanes hv hon,
    fun hpl hlanes hoff hv => laneCtrlWrite_leaves ha hr hp hl hc hne hh bar hpl hlanes hoff hv,
    fun hpl => ⟨fun hallow hlanes => loopRequest_granted ha hr hpl hallow hlanes hne, loopRequest_refused ha hpl⟩,
    fun hw => ⟨loopGrant_taken ha hw, loopRefuse_taken ha hw⟩, fun hw => loopAnswer_idle ha hw,
    fun h3 hpl h6 hlanes hret hloop hpc hserves => loopEnd_returns ha hl hc hne h3 hpl h6 hlanes hret hloop hpc hserves⟩
  case unused =>
    obtain ⟨t, hexec, htype, hcfg, hallow, hstate, hlane, -, hclasp, hsys, htime⟩ := portCfgWrite_starts ha hr hp bar hconf h0 hlanes
    rw [hty] at htype
    have hm := State.mayTrain_unused hsys hclasp hk htype
    exact ⟨t, hexec, htype, hcfg, hallow, by rw [hstate, hm]; rfl, hlane, hsys, htime⟩
  case used =>
    obtain ⟨t, hexec, htype, hcfg, -, hstate, hlane, hawake, -, hsys, htime⟩ := portCfgWrite_starts ha hr hp bar hconf h0 hlanes
    exact ⟨t, hexec, htype, hcfg, hstate, hlane, hawake, hsys, htime⟩

end Sys2Proof.Machine
end

section
/-! Completions of a ring (R365, R366, R384): what they change, and what they do not look at. -/

namespace Sys2Proof.Machine

/-! What writing a completion may change. -/

/-- The state but for registers, ports, outputs, host port and clasp. -/
def State.besides (s : State) : State := { s with regs := [], ports := [], out := [], hif := {}, clasp := {} }

/-- `u` is `s` after completions have been written: registers of the host's blocks, CLASP_SEQ and the phase of port 15 may have changed. -/
structure Wrote (s u : State) : Prop where
  besides : u.besides = s.besides
  cold : u.clasp.cold = s.clasp.cold
  rd : ∀ a < 0x98000, a ≠ Reg.HALL_PORT 15 → a ≠ Reg.CLASP_SEQ → u.rd a = s.rd a

theorem Wrote.refl (s : State) : Wrote s s := ⟨rfl, rfl, fun _ _ _ _ => rfl⟩
theorem Wrote.trans {s t u : State} (h1 : Wrote s t) (h2 : Wrote t u) : Wrote s u :=
  ⟨h2.besides.trans h1.besides, h2.cold.trans h1.cold, fun a h h' h'' => (h2.rd a h h' h'').trans (h1.rd a h h' h'')⟩
theorem Wrote.sys {s u : State} (h : Wrote s u) : u.sys = s.sys :=
  show u.besides.sys = s.besides.sys from congrArg State.sys h.besides
theorem Wrote.time {s u : State} (h : Wrote s u) : u.time = s.time :=
  show u.besides.time = s.besides.time from congrArg State.time h.besides
theorem Wrote.pending {s u : State} (h : Wrote s u) : u.pending = s.pending :=
  show u.besides.pending = s.besides.pending from congrArg State.pending h.besides
theorem Wrote.fault {s u : State} (h : Wrote s u) : u.fault = s.fault :=
  show u.besides.fault = s.besides.fault from congrArg State.fault h.besides
theorem Wrote.get {s u : State} (h : Wrote s u) (f : Fld) (hlt : f.reg < 0x98000) (hp : f.reg ≠ Reg.HALL_PORT 15)
    (hq : f.reg ≠ Reg.CLASP_SEQ) : u.get f = s.get f := by
  rw [State.get, State.get, h.rd _ hlt hp hq]
theorem Wrote.clasped {s u : State} (h : Wrote s u) : u.clasped = s.clasped := by
  simp only [State.clasped, State.isRoot, State.on, h.sys, h.get F.CLASP_CTRL_ENABLE (by decide) (by decide) (by decide)]

theorem Wrote.wr (s : State) (a v : Nat) (ha : 0x98000 ≤ a ∨ a = Reg.HALL_PORT 15 ∨ a = Reg.CLASP_SEQ) : Wrote s (s.wr a v) :=
  ⟨rfl, rfl, fun b hb hp hq => State.rd_wr_other _ _ _ _ (by rintro rfl; omega)⟩
theorem Wrote.emit (s : State) (o : Out) : Wrote s (s.emit o) := ⟨rfl, rfl, fun _ _ _ _ => rfl⟩
theorem Wrote.setPort (s : State) (p : Nat) (v : PortSt) : Wrote s (s.setPort p v) := ⟨rfl, rfl, fun _ _ _ _ => rfl⟩
theorem Wrote.withHif (s : State) (h : HifSt) : Wrote s { s with hif := h } := ⟨rfl, rfl, fun _ _ _ _ => rfl⟩
theorem Wrote.setCmds (s : State) (r : Nat) (cs : List HCmd) : Wrote s (s.setCmds r cs) := Wrote.withHif s _

/-! Interrupts. -/

theorem Wrote.sendMsix (s : State) (v : Nat) : Wrote s (s.sendMsix v) := by
  unfold State.sendMsix
  dsimp only
  split
  · exact Wrote.wr s _ _ (.inl (by omega))
  · exact Wrote.emit s _
theorem Wrote.foldl_sendMsix (vs : List Nat) (s : State) : Wrote s (vs.foldl State.sendMsix s) := by
  induction vs generalizing s with
  | nil => exact Wrote.refl s
  | cons v vs ih => exact (Wrote.sendMsix s v).trans (ih _)
theorem Wrote.signalGroup (s : State) (g : Nat) : Wrote s (s.signalGroup g) := (Wrote.withHif s _).trans (Wrote.foldl_sendMsix _ _)
theorem Wrote.completionNoted (s : State) (r : Nat) (noint : Bool) : Wrote s (s.completionNoted r noint) := by
  unfold State.completionNoted
  split
  · exact Wrote.refl s
  · extract_lets g vs at' _ s1 n
    have h1 : Wrote s s1 := Wrote.withHif s _
    split
    · exact h1.trans (Wrote.signalGroup s1 g)
    · exact h1

/-! The clasp link of a pair, port 15: its frames wait for no arbiter. -/

theorem State.clasped_portKind {s : State} (h : s.clasped = true) : s.portKind 15 = 4 := by
  simp only [State.clasped, Bool.and_eq_true] at h
  rw [State.portKind, if_pos ⟨rfl, h⟩]
theorem State.clasped_arbitrated {s : State} (h : s.clasped = true) : s.arbitrated 15 = false := by
  rw [State.arbitrated, State.clasped_portKind h]
  rfl

theorem Wrote.takeKey (s : State) : Wrote s (s.takeKey 15).2 := by
  unfold State.takeKey
  extract_lets q _ s1 q1
  have h1 : Wrote s s1 := by
    simp only [s1]
    split
    · exact Wrote.refl s
    · exact (Wrote.setPort s 15 _).trans (Wrote.wr _ _ _ (.inr (.inl rfl)))
  split
  · exact h1
  · exact h1.trans (Wrote.setPort s1 15 _)
theorem Wrote.txFrame (s : State) (v typ stream : Nat) (bs : List Byte) : Wrote s (s.txFrame 15 v typ stream bs) :=
  ((Wrote.takeKey s).trans (Wrote.setPort _ 15 _)).trans (Wrote.emit _ _)
theorem Wrote.sendControl (s : State) (f : Nat × Nat × List Byte) : Wrote s (s.sendControl 15 f) :=
  (Wrote.setPort s 15 _).trans (Wrote.txFrame _ _ _ _ _)

/-- On the clasp link a frame that may start leaves at once. -/
theorem pumpFrom_clasped {s : State} (h : s.clasped = true) (k : Nat) : pumpFrom 15 (k + 1) s =
    match s.nextControl 15 with
    | none => s
    | some f => pumpFrom 15 k (s.sendControl 15 f) := by
  have hgrant : ∀ n, s.controlGrant 15 n = (true, s) := fun n => by
    rw [State.controlGrant, State.clasped_arbitrated h]
    rfl
  have hdone : ∀ f, (s.sendControl 15 f).controlDone 15 = s.sendControl 15 f := fun f => by
    rw [State.controlDone, State.clasped_arbitrated ((Wrote.sendControl s f).clasped.trans h)]
    rfl
  rw [pumpFrom]
  cases s.nextControl 15 with
  | none => rfl
  | some f => simp only [hgrant, hdone, if_true]

theorem Wrote.pumpFrom (k : Nat) {s : State} (h : s.clasped = true) : Wrote s (pumpFrom 15 k s) := by
  induction k generalizing s with
  | zero => exact Wrote.refl s
  | succ k ih =>
    rw [pumpFrom_clasped h]
    split
    · exact Wrote.refl s
    · next f _ =>
      have hf := Wrote.sendControl s f
      exact hf.trans (ih (hf.clasped.trans h))
theorem Wrote.queueFrame {s : State} (h : s.clasped = true) (v typ : Nat) (bs : List Byte) : Wrote s (s.queueFrame 15 v typ bs) :=
  (Wrote.setPort s 15 _).trans (Wrote.pumpFrom _ ((Wrote.setPort s 15 _).clasped.trans h))
theorem Wrote.sendMember {s : State} (h : s.clasped = true) (code : Nat) (body : List Byte) : Wrote s (s.sendMember code body) := by
  unfold State.sendMember
  split
  · next hup =>
    rw [State.sendVc0, if_pos hup]
    exact Wrote.queueFrame h _ _ _
  · exact Wrote.refl s
theorem Wrote.recordWritten (s : State) (r ix origin stream key : Nat) (rec : List Byte) :
    Wrote s (s.recordWritten r ix origin stream key rec) := by
  unfold State.recordWritten
  split
  · next h =>
    extract_lets d seq s0 w awaits _ s1
    have h0 : Wrote s s0 := Wrote.wr s _ _ (.inr (.inr rfl))
    have h1 : Wrote s s1 := h0.trans ⟨rfl, rfl, fun _ _ _ _ => rfl⟩
    exact h1.trans (Wrote.sendMember (h1.clasped.trans h.1) _ _)
  · exact Wrote.refl s

/-! Completions. -/

theorem Wrote.writeDone (r k : Nat) (s : State) : Wrote s (writeDone r k s) := by
  induction k generalizing s with
  | zero => exact Wrote.refl s
  | succ k ih =>
    rw [Sys2Proof.Machine.writeDone]
    split
    · exact Wrote.refl s
    · split
      · extract_lets bs s1 s2
        have h1 : Wrote s s1 := ((Wrote.setCmds s r _).trans (Wrote.wr _ (Reg.RING_HEAD r) _
          (.inl (by simp only [Reg.RING_HEAD]; omega)))).trans (Wrote.emit _ _)
        have h2 : Wrote s s2 := h1.trans (Wrote.completionNoted s1 r _)
        exact (h2.trans (Wrote.recordWritten s2 r _ _ _ _ _)).trans (ih _)
      · exact Wrote.refl s
theorem Wrote.completeCmd (s : State) (r ix status detail data die : Nat) : Wrote s (s.completeCmd r ix status detail data die) := by
  have h1 : Wrote s (s.setPlace r ix (.done status detail data die)) := Wrote.setCmds s r _
  unfold State.completeCmd State.flushRing
  split
  · exact h1.trans (Wrote.writeDone r _ _)
  · exact h1

end Sys2Proof.Machine
end

section
/-! What a completion does not look at: run state, the actions fired, and SYS_SCRATCH (R365, R366). -/

namespace Sys2Proof.Machine

/-- A relation of register words that equal writes keep, and under which every register but SYS_SCRATCH reads the same. -/
structure RegsAlike (K : List (Nat × Word) → List (Nat × Word) → Prop) : Prop where
  wr : ∀ {s t : State} (a v : Nat), K s.regs t.regs → K (s.wr a v).regs (t.wr a v).regs
  rd : ∀ {s t : State}, K s.regs t.regs → ∀ a, a ≠ Reg.SYS_SCRATCH → t.rd a = s.rd a

/-- Words that agree but for SYS_SCRATCH. -/
def scratchAlike (m m' : List (Nat × Word)) : Prop :=
  ∀ a, a ≠ Reg.SYS_SCRATCH → sget (resetWord a) m' a = sget (resetWord a) m a

theorem regsAlike_eq : RegsAlike Eq where
  wr a v h := by simp only [State.wr, h]
  rd h a _ := State.rd_congr h.symm a
theorem regsAlike_scratch : RegsAlike scratchAlike where
  wr a v h := fun b hb => by
    simp only [State.wr]
    by_cases hab : b = a
    · rw [hab, sget_sset_same, sget_sset_same]
    · rw [sget_sset_other _ _ _ hab, sget_sset_other _ _ _ hab, h b hb]
  rd h a ha := congrArg BitVec.toNat (h a ha)

/-- The state but for registers, run state and times. -/
def State.face (s : State) : State := { s with regs := [], sys := {}, time := {} }

/-- `t` is `s` but for registers that `K` relates, the run state and the actions fired. -/
structure Alike (K : List (Nat × Word) → List (Nat × Word) → Prop) (s t : State) : Prop where
  face : t.face = s.face
  role : t.sys.role = s.sys.role
  time : t.time = { s.time with fired := t.time.fired }
  regs : K s.regs t.regs

section
variable {K : List (Nat × Word) → List (Nat × Word) → Prop} {s t : State} (hK : RegsAlike K) (h : Alike K s t)
include hK h

/-! Reads. -/

theorem Alike.get {f : Fld} (hf : f.reg ≠ Reg.SYS_SCRATCH) : t.get f = s.get f := by
  rw [State.get, State.get, hK.rd h.regs _ hf]
theorem Alike.on {f : Fld} (hf : f.reg ≠ Reg.SYS_SCRATCH) : t.on f = s.on f := by
  rw [State.on, State.on, h.get hK hf]
theorem Alike.rd64 {a : Nat} (ha : a ≠ Reg.SYS_SCRATCH) (ha4 : a + 4 ≠ Reg.SYS_SCRATCH) : t.rd64 a = s.rd64 a := by
  rw [State.rd64, State.rd64, hK.rd h.regs _ ha, hK.rd h.regs _ ha4]
theorem Alike.dieNo : t.dieNo = s.dieNo := by
  rw [State.dieNo, State.dieNo, h.on hK (by decide), h.get hK (by decide)]

omit hK
theorem Alike.hif : t.hif = s.hif := show t.face.hif = s.face.hif from congrArg State.hif h.face
theorem Alike.out : t.out = s.out := show t.face.out = s.face.out from congrArg State.out h.face
theorem Alike.clasp : t.clasp = s.clasp := show t.face.clasp = s.face.clasp from congrArg State.clasp h.face
theorem Alike.port (p : Nat) : t.port p = s.port p :=
  State.port_congr (show t.face.ports = s.face.ports from congrArg State.ports h.face) p
theorem Alike.lane (l : Nat) : t.lane l = s.lane l :=
  State.lane_congr (show t.face.lanes = s.face.lanes from congrArg State.lanes h.face) l
theorem Alike.cmdsOf (r : Nat) : t.cmdsOf r = s.cmdsOf r := by rw [State.cmdsOf, State.cmdsOf, h.hif]
theorem Alike.isRoot : t.isRoot = s.isRoot := by rw [State.isRoot, State.isRoot, h.role]
theorem Alike.fNow : t.fNow = s.fNow := by rw [State.fNow, State.fNow, h.time]
theorem Alike.orbitNow : t.orbitNow = s.orbitNow := by rw [State.orbitNow, State.orbitNow, h.time]
include hK

theorem Alike.clasped : t.clasped = s.clasped := by rw [State.clasped, State.clasped, h.isRoot, h.on hK (by decide)]
theorem Alike.dmaOn : t.dmaOn = s.dmaOn := by
  rw [State.dmaOn, State.dmaOn, h.isRoot, h.hif, h.clasped hK, State.clState, State.clState, h.get hK (by decide)]
theorem Alike.ringOn (r : Nat) : t.ringOn r = s.ringOn r := h.on hK (by simp only [Reg.RING_CFG, Reg.SYS_SCRATCH]; omega)
theorem Alike.ringLog2 (r : Nat) : t.ringLog2 r = s.ringLog2 r := by
  rw [State.ringLog2, State.ringLog2, h.get hK (by simp only [Reg.RING_CFG, Reg.SYS_SCRATCH]; omega)]
theorem Alike.cmdBytes (r : Nat) (c : HCmd) (status detail data die : Nat) :
    t.cmdBytes r c status detail data die = s.cmdBytes r c status detail data die := by
  rw [State.cmdBytes, State.cmdBytes, State.phaseBit, State.phaseBit, h.ringLog2 hK]
theorem Alike.descAddr (r i : Nat) : t.descAddr r i = s.descAddr r i := by
  rw [State.descAddr, State.descAddr, h.ringLog2 hK, h.rd64 hK (by simp only [Reg.RING_BASE, Reg.SYS_SCRATCH]; omega)
    (by simp only [Reg.RING_BASE, Reg.SYS_SCRATCH]; omega)]
theorem Alike.portUp? (p : Nat) : t.portUp? p = s.portUp? p := by
  rw [State.portUp?, State.portUp?, State.portState, State.portState, h.get hK (by simp only [Reg.PORT_STATUS, Reg.SYS_SCRATCH]; omega)]
theorem Alike.nextControl (p : Nat) : t.nextControl p = s.nextControl p := by
  simp only [State.nextControl, State.mayStart, State.framesWait, State.frameLen, State.payloadMax, h.port, h.lane]
  rfl

/-! Operations. -/

theorem Alike.wr (a v : Nat) : Alike K (s.wr a v) (t.wr a v) := ⟨h.face, h.role, h.time, hK.wr a v h.regs⟩
omit hK
theorem Alike.emit (o : Out) : Alike K (s.emit o) (t.emit o) := ⟨congrArg (·.emit o) h.face, h.role, h.time, h.regs⟩
theorem Alike.setPort (p : Nat) (v : PortSt) : Alike K (s.setPort p v) (t.setPort p v) :=
  ⟨congrArg (·.setPort p v) h.face, h.role, h.time, h.regs⟩
theorem Alike.withHif (x : HifSt) : Alike K { s with hif := x } { t with hif := x } :=
  ⟨congrArg (fun y : State => { y with hif := x }) h.face, h.role, h.time, h.regs⟩
theorem Alike.withClasp (x : ClaspSt) : Alike K { s with clasp := x } { t with clasp := x } :=
  ⟨congrArg (fun y : State => { y with clasp := x }) h.face, h.role, h.time, h.regs⟩
theorem Alike.setCmds (r : Nat) (cs : List HCmd) : Alike K (s.setCmds r cs) (t.setCmds r cs) := by
  unfold State.setCmds
  rw [h.hif]
  exact h.withHif _
theorem Alike.setPlace (r ix : Nat) (p : CmdAt) : Alike K (s.setPlace r ix p) (t.setPlace r ix p) := by
  unfold State.setPlace
  rw [h.cmdsOf]
  exact h.setCmds r _
include hK
theorem Alike.put (f : Fld) (v : Nat) (hf : f.reg ≠ Reg.SYS_SCRATCH) : Alike K (s.put f v) (t.put f v) := by
  unfold State.put
  rw [hK.rd h.regs _ hf]
  exact h.wr hK _ _
end

section
variable {K : List (Nat × Word) → List (Nat × Word) → Prop} {s t : State} (hK : RegsAlike K)
include hK

/-! Interrupts. -/

theorem Alike.sendMsix (h : Alike K s t) (v : Nat) : Alike K (s.sendMsix v) (t.sendMsix v) := by
  have hrd : ∀ a, 0x90000 ≤ a → t.rd a = s.rd a := fun a ha => hK.rd h.regs a (by simp only [Reg.SYS_SCRATCH]; omega)
  unfold State.sendMsix
  dsimp only
  rw [h.hif, hrd _ (by omega), hrd _ (by omega), hrd _ (by omega), State.rd64, State.rd64, hrd _ (by omega), hrd _ (by omega)]
  split
  · exact h.wr hK _ _
  · exact h.emit _
theorem Alike.foldl_sendMsix (vs : List Nat) {s t : State} (h : Alike K s t) : Alike K (vs.foldl State.sendMsix s) (vs.foldl State.sendMsix t) := by
  induction vs generalizing s t with
  | nil => exact h
  | cons v vs ih => exact ih (h.sendMsix hK v)
theorem Alike.signalGroup (h : Alike K s t) (g : Nat) : Alike K (s.signalGroup g) (t.signalGroup g) := by
  unfold State.signalGroup
  rw [h.hif]
  exact Alike.foldl_sendMsix hK _ (h.withHif _)
theorem Alike.signalIf (h : Alike K s t) (b : Prop) [Decidable b] (x : HifSt) (g : Nat) :
    Alike K (if b then ({ s with hif := x } : State).signalGroup g else { s with hif := x })
      (if b then ({ t with hif := x } : State).signalGroup g else { t with hif := x }) := by
  split
  · exact (h.withHif x).signalGroup hK g
  · exact h.withHif x
theorem Alike.completionNoted (h : Alike K s t) (r : Nat) (noint : Bool) : Alike K (s.completionNoted r noint) (t.completionNoted r noint) := by
  have hcfg : Reg.RING_CFG r ≠ Reg.SYS_SCRATCH := by simp only [Reg.RING_CFG, Reg.SYS_SCRATCH]; omega
  have hcoal : Reg.HIF_COAL (r / 64) ≠ Reg.SYS_SCRATCH := by simp only [Reg.HIF_COAL, Reg.SYS_SCRATCH]; omega
  unfold State.completionNoted State.feat
  dsimp only
  rw [h.on (f := F.RING_CFG_NOINT r) hK hcfg, h.get (f := F.RING_CFG_VECTOR r) hK hcfg, h.get (f := F.HIF_COAL_COUNT (r / 64)) hK hcoal, h.hif, h.fNow]
  split
  · exact h
  · exact h.signalIf hK _ _ _

/-! The clasp link. -/

/-- The die after a port has taken a key that waits (R406). -/
def State.keyTaken (s : State) (p : Nat) : State :=
  match (s.port p).sess.txNew with
  | none => s
  | some k => (s.setPort p { s.port p with sess := { (s.port p).sess with tx := some k, txNew := none } }).put (F.HALL_PORT_PHASE p)
      (1 - s.get (F.HALL_PORT_PHASE p))
omit hK in
theorem State.takeKey_eq (s : State) (p : Nat) : s.takeKey p = match ((s.keyTaken p).port p).sess.tx with
    | none => (none, s.keyTaken p)
    | some k => (some (k, (s.keyTaken p).get (F.HALL_PORT_PHASE p)), (s.keyTaken p).setPort p
        { (s.keyTaken p).port p with sess := { ((s.keyTaken p).port p).sess with tx := some { k with ctr := k.ctr + 1 } } }) := rfl
theorem Alike.keyTaken (h : Alike K s t) (p : Nat) : Alike K (s.keyTaken p) (t.keyTaken p) := by
  have hph : Reg.HALL_PORT p ≠ Reg.SYS_SCRATCH := by simp only [Reg.HALL_PORT, Reg.SYS_SCRATCH]; omega
  unfold State.keyTaken
  rw [h.port, h.get (f := F.HALL_PORT_PHASE p) hK hph]
  split
  · exact h
  · exact (h.setPort p _).put hK _ _ hph
theorem Alike.takeKey (h : Alike K s t) (p : Nat) : (t.takeKey p).1 = (s.takeKey p).1 ∧ Alike K (s.takeKey p).2 (t.takeKey p).2 := by
  have hph : Reg.HALL_PORT p ≠ Reg.SYS_SCRATCH := by simp only [Reg.HALL_PORT, Reg.SYS_SCRATCH]; omega
  have h1 := h.keyTaken hK p
  rw [State.takeKey_eq, State.takeKey_eq, h1.port, h1.get (f := F.HALL_PORT_PHASE p) hK hph]
  split
  · exact ⟨rfl, h1⟩
  · exact ⟨rfl, h1.setPort p _⟩
theorem Alike.txFrame (h : Alike K s t) (p v typ stream : Nat) (bs : List Byte) :
    Alike K (s.txFrame p v typ stream bs) (t.txFrame p v typ stream bs) := by
  obtain ⟨hkey, h1⟩ := h.takeKey hK p
  unfold State.txFrame
  dsimp only
  rw [hkey, h1.port, h1.dieNo hK, h1.orbitNow, h1.fNow]
  exact (h1.setPort p _).emit _
theorem Alike.sendControl (h : Alike K s t) (p : Nat) (f : Nat × Nat × List Byte) : Alike K (s.sendControl p f) (t.sendControl p f) := by
  unfold State.sendControl
  rw [h.port]
  exact (h.setPort p _).txFrame hK _ _ _ _ _
theorem Alike.pumpFrom (k : Nat) {s t : State} (h : Alike K s t) (hc : s.clasped = true) : Alike K (pumpFrom 15 k s) (pumpFrom 15 k t) := by
  induction k generalizing s t with
  | zero => exact h
  | succ k ih =>
    rw [pumpFrom_clasped hc, pumpFrom_clasped ((h.clasped hK).trans hc), h.nextControl hK]
    split
    · exact h
    · next f _ => exact ih (h.sendControl hK 15 f) ((Wrote.sendControl s f).clasped.trans hc)
theorem Alike.queueFrame (h : Alike K s t) (hc : s.clasped = true) (v typ : Nat) (bs : List Byte) :
    Alike K (s.queueFrame 15 v typ bs) (t.queueFrame 15 v typ bs) := by
  have h1 := h.setPort 15 { s.port 15 with waiting := (s.port 15).waiting ++ [(v, typ, bs)] }
  unfold State.queueFrame State.pump
  rw [h.port, h1.port]
  exact Alike.pumpFrom hK _ h1 ((Wrote.setPort s 15 _).clasped.trans hc)
theorem Alike.sendMember (h : Alike K s t) (hc : s.clasped = true) (code : Nat) (body : List Byte) :
    Alike K (s.sendMember code body) (t.sendMember code body) := by
  unfold State.sendMember State.sendVc0
  dsimp only
  rw [h.portUp? hK, h.clasp, h.get (f := F.CLASP_PEER_DIE) hK (by decide), h.dieNo hK]
  split
  · exact h.queueFrame hK hc _ _ _
  · exact h
theorem Alike.recordWritten (h : Alike K s t) (r ix origin stream key : Nat) (rec : List Byte) :
    Alike K (s.recordWritten r ix origin stream key rec) (t.recordWritten r ix origin stream key rec) := by
  have hslots : t.time.slots = s.time.slots := by rw [h.time]
  unfold State.recordWritten State.clState
  dsimp only
  rw [h.clasped hK, h.get (f := F.CLASP_STATUS_STATE) hK (by decide), h.on (f := F.CLASP_STATUS_ALONE) hK (by decide), h.clasp, hslots,
    hK.rd h.regs Reg.CLASP_SEQ (by decide)]
  split
  · next hc =>
    have hseq := h.wr hK Reg.CLASP_SEQ ((s.rd Reg.CLASP_SEQ + 1) % 2 ^ 32)
    have hw := Wrote.wr s Reg.CLASP_SEQ ((s.rd Reg.CLASP_SEQ + 1) % 2 ^ 32) (.inr (.inr rfl))
    refine (hseq.withClasp _).sendMember hK ?_ _ _
    exact (Wrote.clasped (hw.trans ⟨rfl, rfl, fun _ _ _ _ => rfl⟩)).trans hc.1
  · exact h

/-! Completions. -/

theorem Alike.writeDone (r k : Nat) {s t : State} (h : Alike K s t) : Alike K (writeDone r k s) (writeDone r k t) := by
  induction k generalizing s t with
  | zero => exact h
  | succ k ih =>
    rw [Sys2Proof.Machine.writeDone, Sys2Proof.Machine.writeDone, h.cmdsOf]
    split
    · exact h
    · next c cs _ =>
      split
      · next status detail data die _ =>
        dsimp only
        rw [h.cmdBytes hK]
        have hhead : Reg.RING_HEAD r ≠ Reg.SYS_SCRATCH := by simp only [Reg.RING_HEAD, Reg.SYS_SCRATCH]; omega
        have h1 : Alike K ((s.setCmds r cs).headUp r 1) ((t.setCmds r cs).headUp r 1) := by
          have hc := h.setCmds r cs
          unfold State.headUp
          rw [hK.rd hc.regs _ hhead]
          exact hc.wr hK _ _
        rw [h.descAddr hK]
        exact ih (((h1.emit _).completionNoted hK r _).recordWritten hK r _ _ _ _ _)
      · exact h
theorem Alike.completeCmd (h : Alike K s t) (r ix status detail data die : Nat) :
    Alike K (s.completeCmd r ix status detail data die) (t.completeCmd r ix status detail data die) := by
  have h1 := h.setPlace r ix (.done status detail data die)
  unfold State.completeCmd State.flushRing
  rw [h1.dmaOn hK, h1.ringOn hK, h1.cmdsOf]
  split
  · exact Alike.writeDone hK r _ h1
  · exact h1
end

end Sys2Proof.Machine
end

section
/-! Commands of a ring (R365–R368, R376, R386): how one is taken, run and completed. -/

namespace Sys2Proof.Machine

/-! The order of a ring's commands (R366). -/

theorem State.dmaOn_setCmds (s : State) (r : Nat) (cs : List HCmd) : (s.setCmds r cs).dmaOn = s.dmaOn := Eq.trans rfl rfl
theorem State.ringOn_setCmds (s : State) (r : Nat) (cs : List HCmd) (k : Nat) : (s.setCmds r cs).ringOn k = s.ringOn k := Eq.trans rfl rfl
theorem State.cmdsOf_setPlace (s : State) (r ix : Nat) (p : CmdAt) : (s.setPlace r ix p).cmdsOf r =
    (s.cmdsOf r).map (fun (c : HCmd) => if c.ix = ix then { c with place := p } else c) := by
  rw [State.setPlace, State.cmdsOf_setCmds, if_pos rfl]

/-- The one command of a ring completes: its completion is written, and the head moves on. -/
theorem State.completeCmd_single {s : State} {r : Nat} {c : HCmd} (st det dat : Nat) (hd : s.dmaOn = true) (hc : s.clasped = false)
    (hr : s.ringOn r = true) (hcs : s.cmdsOf r = [c]) (hf : bitsOf c.flags 1 1 = 1) :
    s.completeCmd r c.ix st det dat s.dieNo = (((s.setPlace r c.ix (.done st det dat s.dieNo)).setCmds r []).headUp r 1).emit
      (.dmaWrite (s.descAddr r c.ix + 16) (s.cmdBytes r c st det dat s.dieNo)) := by
  obtain ⟨x, hx⟩ : ∃ x, x = s.setPlace r c.ix (.done st det dat s.dieNo) := ⟨_, rfl⟩
  have hcmds : x.cmdsOf r = [{ c with place := .done st det dat s.dieNo }] := by
    rw [hx, State.cmdsOf_setPlace, hcs]
    simp
  have hdma : x.dmaOn = true := by rw [hx]; exact (s.dmaOn_setCmds r _).trans hd
  have hring : x.ringOn r = true := by rw [hx]; exact (s.ringOn_setCmds r _ r).trans hr
  have hnoted : ∀ t : State, t.completionNoted r (decide (bitsOf c.flags 1 1 = 1)) = t := fun t => by
    simp [State.completionNoted, hf]
  have hrec : ∀ (t : State) a b d e k, t.clasped = false → t.recordWritten r a b d e k = t := fun t a b d e k ht => by
    simp [State.recordWritten, ht]
  have hclasped : ((((x.setCmds r []).headUp r 1).emit (.dmaWrite (x.descAddr r c.ix + 16) (x.cmdBytes r c st det dat s.dieNo)))).clasped =
      false := by
    have hw : Wrote s ((((x.setCmds r []).headUp r 1).emit (.dmaWrite (x.descAddr r c.ix + 16) (x.cmdBytes r c st det dat s.dieNo)))) := by
      rw [hx]
      exact (((Wrote.setCmds s r _).trans (Wrote.setCmds _ r [])).trans
        (Wrote.wr _ (Reg.RING_HEAD r) _ (.inl (by simp only [Reg.RING_HEAD]; omega)))).trans (Wrote.emit _ _)
    exact hw.clasped.trans hc
  have haddr : x.descAddr r c.ix = s.descAddr r c.ix := by rw [hx]; rfl
  have hbytes : x.cmdBytes r c st det dat s.dieNo = s.cmdBytes r c st det dat s.dieNo := by rw [hx]; rfl
  have hwrite : writeDone r 1 x = ((x.setCmds r []).headUp r 1).emit (.dmaWrite (x.descAddr r c.ix + 16)
      (x.cmdBytes r c st det dat s.dieNo)) := by
    rw [writeDone, hcmds]
    dsimp only
    rw [hnoted]
    exact hrec _ _ _ _ _ _ hclasped
  rw [State.completeCmd, ← hx, State.flushRing, if_pos ⟨hdma, hring⟩, hcmds, List.length_singleton, hwrite, haddr, hbytes]

/-- A command behind one that is still in flight completes without being written (R366). -/
theorem State.completeCmd_behind {s : State} {r a : Nat} {b c : HCmd} (st det dat : Nat) (hcs : s.cmdsOf r = [b, c]) (hne : b.ix ≠ c.ix)
    (hb : b.place = .flight a) : s.completeCmd r c.ix st det dat s.dieNo = s.setPlace r c.ix (.done st det dat s.dieNo) ∧
      (s.completeCmd r c.ix st det dat s.dieNo).cmdsOf r = [b, { c with place := .done st det dat s.dieNo }] := by
  have hcmds : (s.setPlace r c.ix (.done st det dat s.dieNo)).cmdsOf r = [b, { c with place := .done st det dat s.dieNo }] := by
    rw [State.cmdsOf_setPlace, hcs]
    simp [hne]
  have he : s.completeCmd r c.ix st det dat s.dieNo = s.setPlace r c.ix (.done st det dat s.dieNo) := by
    rw [State.completeCmd, State.flushRing]
    split
    · rw [hcmds, List.length_cons, writeDone, hcmds]
      simp only [hb]
    · rfl
  exact ⟨he, he ▸ hcmds⟩

/-! How a command is taken (R366, R367, R386). -/

/-- Without a command to run, a ring's command does nothing. -/
theorem State.command_idle {s : State} {r : Nat} (h : s.hostReads = false ∨ s.nextCmd r = none) (op : Nat)
    (f : Nat → Nat → Nat → State → Done × State) (need : Nat → Nat) : s.command (.ring r) op f need = s := by
  rcases h with h | h
  · simp [State.command, h]
  · simp [State.command, h]

/-- A refusal is counted, and the die keeps its number. -/
theorem State.dieNo_rejected (s : State) : (s.rejected false).dieNo = s.dieNo := by
  have hget : ∀ f : Fld, f.reg ≠ Reg.SYS_REJECT_CNT → (s.incBy Reg.SYS_REJECT_CNT 1).get f = s.get f := fun f => s.get_incBy _ 1 f
  show State.dieNo (s.incBy Reg.SYS_REJECT_CNT 1) = _
  rw [State.dieNo, State.dieNo, State.on, State.on, hget _ (by decide), hget _ (by decide)]

section
variable {s : State} {r : Nat} {c : HCmd} (hread : s.hostReads = true) (hnext : s.nextCmd r = some c) (hmine : s.isMine c.die = true)
include hread hnext hmine

/-- A command of this die that finds room for its record is run at this die. -/
theorem State.command_run {op : Nat} (hop : c.op = op) (f : Nat → Nat → Nat → State → Done × State) (need : Nat → Nat)
    (hroom : s.roomFor (need c.arg1) = true) : s.command (.ring r) op f need =
      (s.atTarget op c.arg0 (f c.tag c.arg0 c.arg1)).2.ringDone r c.ix (s.atTarget op c.arg0 (f c.tag c.arg0 c.arg1)).1 := by
  simp only [State.command, hread, hnext, hop, hmine, hroom, not_true_eq_false, ne_eq, if_false, if_true]

/-- A command that the run state accepts runs. -/
theorem State.command_accepted {op : Nat} (hop : c.op = op) (ha : opAccepted op s.sys.run = true)
    (f : Nat → Nat → Nat → State → Done × State) (need : Nat → Nat) (hroom : s.roomFor (need c.arg1) = true) :
    s.command (.ring r) op f need = (f c.tag c.arg0 c.arg1 s).2.ringDone r c.ix (f c.tag c.arg0 c.arg1 s).1 := by
  rw [State.command_run hread hnext hmine hop f need hroom, State.atTarget, if_pos ha]

/-- A command that the run state refuses completes with the run state as detail, and is counted. -/
theorem State.command_refused {op : Nat} (hop : c.op = op) (ha : opAccepted op s.sys.run = false) (h3 : op ≠ 3)
    (f : Nat → Nat → Nat → State → Done × State) : s.command (.ring r) op f =
      (s.incBy Reg.SYS_REJECT_CNT 1).completeCmd r c.ix 1 s.sys.run.code 0 s.dieNo := by
  have hprot : (decide (op = 3) && s.protTarget c.arg0) = false := by simp [h3]
  have hdie : (s.rejected false).dieNo = s.dieNo := s.dieNo_rejected
  rw [State.command_run hread hnext hmine hop f _ rfl, State.atTarget, if_neg (by simp [ha]), hprot]
  exact congrArg ((s.incBy Reg.SYS_REJECT_CNT 1).completeCmd r c.ix 1 s.sys.run.code 0) hdie

/-- A command whose record finds no room waits (R268). -/
theorem State.command_waits {op : Nat} (hop : c.op = op) (f : Nat → Nat → Nat → State → Done × State) (need : Nat → Nat)
    (hroom : s.roomFor (need c.arg1) = false) : s.command (.ring r) op f need = s := by
  simp only [State.command, hread, hnext, hop, hmine, hroom, not_true_eq_false, ne_eq, if_false, if_true, Bool.false_eq_true,
    not_false_eq_true]
end

/-- No room is needed where nothing is answered. -/
theorem State.roomFor_zero (s : State) : s.roomFor 0 = true := by simp [State.roomFor]

/-! How a command ends. -/

/-- A die whose completions have been written answers the command. -/
theorem finish_wrote {s u : State} (ha : Awake s) (h : Wrote s u) : finish s u = .next u := finish_eq ha h.sys h.pending
theorem finish_completeCmd {s : State} (ha : Awake s) (r ix st det dat die : Nat) :
    finish s (s.completeCmd r ix st det dat die) = .next (s.completeCmd r ix st det dat die) :=
  finish_wrote ha (Wrote.completeCmd s r ix st det dat die)
theorem finish_refusedCmd {s : State} (ha : Awake s) (r ix st det dat die : Nat) :
    finish s ((s.incBy Reg.SYS_REJECT_CNT 1).completeCmd r ix st det dat die) =
      .next ((s.incBy Reg.SYS_REJECT_CNT 1).completeCmd r ix st det dat die) := by
  have h := Wrote.completeCmd (s.incBy Reg.SYS_REJECT_CNT 1) r ix st det dat die
  exact finish_eq ha h.sys h.pending

/-- With no command to run, none of a ring's commands does anything. -/
theorem ringCommands_idle {s : State} {r : Nat} (ha : Awake s) (h : s.hostReads = false ∨ s.nextCmd r = none) :
    exec (.nop (.ring r)) s = .next s ∧ exec (.cfgRd (.ring r)) s = .next s ∧ exec (.cfgWr (.ring r)) s = .next s ∧
    exec (.cfgRdBlock (.ring r)) s = .next s ∧ exec (.logRead (.ring r)) s = .next s ∧ exec (.arm (.ring r)) s = .next s ∧
    exec (.disarm (.ring r)) s = .next s ∧ exec (.readmit (.ring r)) s = .next s ∧ exec (.badOp r) s = .next s := by
  have hcmd : ∀ op f need, finish s (s.command (.ring r) op f need) = .next s := fun op f need => by
    rw [State.command_idle h]
    exact finish_eq ha rfl rfl
  have hbad : badOp r s = s := by rcases h with h | h <;> simp [badOp, h]
  exact ⟨hcmd _ _ _, hcmd _ _ _, hcmd _ _ _, hcmd _ _ _, hcmd _ _ _, hcmd _ _ _, hcmd _ _ _, hcmd _ _ _,
    (congrArg (finish s) hbad).trans (finish_eq ha rfl rfl)⟩

/-- Behind a fence a command waits for one in flight (R366). -/
theorem State.nextCmd_fenced {s : State} {r a : Nat} {b c : HCmd} (hcs : s.cmdsOf r = [b, c]) (hb : b.place = .flight a)
    (hc : c.place = .waiting) (hf : bitsOf c.flags 0 1 = 1) : s.nextCmd r = none := by
  simp [State.nextCmd, hcs, hb, hc, hf]

/-- A command with an unknown OP completes as such, and any other is none of these (R368). -/
theorem badOp_answers {s : State} {r : Nat} {c : HCmd} (ha : Awake s) (hread : s.hostReads = true) (hnext : s.nextCmd r = some c) :
    (c.op = 0 ∨ 0xB < c.op → exec (.badOp r) s = .next (s.completeCmd r c.ix 0x80 0 0 s.dieNo)) ∧
    (1 ≤ c.op ∧ c.op ≤ 0xB → exec (.badOp r) s = .next s) := by
  constructor
  · intro hop
    have he : badOp r s = s.completeCmd r c.ix 0x80 0 0 s.dieNo := by simp [badOp, hread, hnext, hop]
    exact (congrArg (finish s) he).trans (finish_completeCmd ha _ _ _ _ _ _)
  · rintro ⟨h1, h2⟩
    have he : badOp r s = s := by
      have hop : ¬(c.op = 0 ∨ 0xB < c.op) := by omega
      simp [badOp, hread, hnext, hop]
    exact (congrArg (finish s) he).trans (finish_eq ha rfl rfl)

/-! Reads and writes of registers (R327, R367, R468). -/

/-- VAULT_SCRUB in the register map. -/
theorem findReg_vaultScrub : ∃ row : RegRow, findReg Reg.VAULT_SCRUB = some ⟨.vault, row, 0, 0, 0⟩ ∧ row.off = 0 ∧ row.words = 1 ∧
    row.held = false := ⟨_, rfl, rfl, rfl, rfl⟩

/-- A read of VAULT_SCRUB answers the register and changes nothing. -/
theorem State.busRead_vaultScrub (s : State) : s.busRead Reg.VAULT_SCRUB = (s.rd Reg.VAULT_SCRUB, false, s) := by
  obtain ⟨row, hf, ho, hw, hh⟩ := findReg_vaultScrub
  have hv : inVault Reg.VAULT_SCRUB = false := by decide
  have hg : s.gate Reg.VAULT_SCRUB = none := rfl
  have hlt := s.rd_lt Reg.VAULT_SCRUB
  have ht : s.latchTime Reg.VAULT_SCRUB = s := by
    rw [State.latchTime, if_neg (by decide), if_neg (by decide)]
  have hl : s.latchWords ⟨.vault, row, 0, 0, 0⟩ Reg.VAULT_SCRUB = s := by simp [State.latchWords, hw]
  have hm : fuseBits ⟨.vault, row, 0, 0, 0⟩ = 0 := by simp [fuseBits, ho]
  have hn : s.wordNow ⟨.vault, row, 0, 0, 0⟩ Reg.VAULT_SCRUB = s.rd Reg.VAULT_SCRUB := by
    simp only [State.wordNow, hg, State.shown, ho, Option.isSome_none, Bool.false_eq_true, if_false, OfNat.zero_ne_ofNat]
    exact Nat.mod_eq_of_lt hlt
  have hr : s.regRead Reg.VAULT_SCRUB = (s.rd Reg.VAULT_SCRUB, s) := by
    have hheld : Hit.held ⟨.vault, row, 0, 0, 0⟩ = false := by simp [Hit.held, hh]
    have hnone : s.bus.held.find? (fun p => decide (p.1 = Reg.VAULT_SCRUB) && false) = none := by simp
    simp only [State.regRead, hf, hl, ht, hg, hheld, hw, State.beforeFuses, hm, hn, hnone, Option.isSome_none, Bool.false_eq_true,
      if_false, lt_self_iff_false, false_and, or_true, if_true]
  simp [State.busRead, hv, hr]

end Sys2Proof.Machine
end

section
/-! The commands of a ring, one by one (R19, R367, R376, R458, R466). -/

namespace Sys2Proof.Machine

/-! Which commands a run state accepts (R367). -/

theorem opAccepted_always {r : RunState} (hi : r ≠ .init) (hr : r ≠ .reset) {op : Nat} (hop : op = 1 ∨ op = 2 ∨ op = 4 ∨ op = 0xB) :
    opAccepted op r = true := by
  cases r <;> simp_all [opAccepted] <;> omega
theorem opAccepted_cfgWr {r : RunState} (h : r.isReady = true) : opAccepted 3 r = true := by
  cases r <;> simp_all [opAccepted, RunState.isReady]

section
variable {s : State} {r : Nat} {c : HCmd} (ha : Awake s) (hi : s.sys.run ≠ .init) (hread : s.hostReads = true)
  (hnext : s.nextCmd r = some c) (hmine : s.isMine c.die = true)
include ha hi hread hnext hmine

/-! NOP and CFG_RD. -/

theorem nop_completes (hop : c.op = 1) : exec (.nop (.ring r)) s = .next (s.completeCmd r c.ix 0 0 0 s.dieNo) := by
  have he : cmdNop (.ring r) s = s.completeCmd r c.ix 0 0 0 s.dieNo :=
    State.command_accepted hread hnext hmine hop (opAccepted_always hi ha.1 (by simp)) _ _ s.roomFor_zero
  exact (congrArg (finish s) he).trans (finish_completeCmd ha _ _ _ _ _ _)

theorem cfgRd_completes (hop : c.op = 2) (ha0 : c.arg0 = Reg.VAULT_SCRUB) :
    exec (.cfgRd (.ring r)) s = .next (s.completeCmd r c.ix 0 0 (s.rd Reg.VAULT_SCRUB) s.dieNo) := by
  have hrd : s.cfgRd c.arg0 = ({ ansOk with data := s.rd Reg.VAULT_SCRUB }, s) := by
    rw [ha0, State.cfgRd, if_neg (by decide), s.busRead_vaultScrub]
  have he : cmdCfgRd (.ring r) s = s.completeCmd r c.ix 0 0 (s.rd Reg.VAULT_SCRUB) s.dieNo := by
    refine (State.command_accepted hread hnext hmine hop (opAccepted_always hi ha.1 (by simp)) _ _ s.roomFor_zero).trans ?_
    dsimp only
    rw [hrd]
    rfl
  exact (congrArg (finish s) he).trans (finish_completeCmd ha _ _ _ _ _ _)
theorem cfgRd_unaligned (hop : c.op = 2) (h4 : c.arg0 % 4 ≠ 0) :
    exec (.cfgRd (.ring r)) s = .next (s.completeCmd r c.ix 0x81 0 0 s.dieNo) := by
  have hrd : s.cfgRd c.arg0 = (ansBadArg, s) := by rw [State.cfgRd, if_pos h4]
  have he : cmdCfgRd (.ring r) s = s.completeCmd r c.ix 0x81 0 0 s.dieNo := by
    refine (State.command_accepted hread hnext hmine hop (opAccepted_always hi ha.1 (by simp)) _ _ s.roomFor_zero).trans ?_
    dsimp only
    rw [hrd]
    rfl
  exact (congrArg (finish s) he).trans (finish_completeCmd ha _ _ _ _ _ _)

/-! CFG_WR. -/

omit ha hi hread hnext hmine in
theorem State.busWrite_sysScratch (hr : s.sys.run.isReady = true) (hheld : s.bus.held = []) {v : Nat} (hv : v < 2 ^ 32) :
    s.busWrite Reg.SYS_SCRATCH v = (ansOk, s.wr Reg.SYS_SCRATCH v) := by
  have hans : (s.busWrite Reg.SYS_SCRATCH v).1 = ansOk := by
    have hg : s.gate Reg.SYS_SCRATCH = none := rfl
    rw [State.busWrite_ready hr (by decide) (by decide)]
    simp [State.regWrite, findReg_sysScratch, State.classOf, Cls.accepts, hr, hg, State.conflict]
  have hstate : (s.busWrite Reg.SYS_SCRATCH v).2 = s.wr Reg.SYS_SCRATCH v := by
    rw [← State.write_sysScratch hr hheld hv false]
    simp [State.write]
  rw [← hans, ← hstate]
omit ha hi hread hnext hmine in
theorem State.dieNo_wrScratch (v : Nat) : (s.wr Reg.SYS_SCRATCH v).dieNo = s.dieNo := by
  rw [State.dieNo, State.dieNo, State.on, State.on, State.get_wr_other _ _ _ _ (by decide), State.get_wr_other _ _ _ _ (by decide)]

omit hi in
theorem cfgWr_scratch (hop : c.op = 3) (ha0 : c.arg0 = Reg.SYS_SCRATCH) (hr : s.sys.run.isReady = true) {v : Nat} (hv1 : v = c.arg1)
    (hv : v < 2 ^ 32) (hheld : s.bus.held = []) : ∃ t, exec (.cfgWr (.ring r)) s = .next t ∧ t.rd Reg.SYS_SCRATCH = v ∧
      (∀ x, x ≠ Reg.SYS_SCRATCH → t.rd x = (s.completeCmd r c.ix 0 0 0 s.dieNo).rd x) ∧
      t.out = (s.completeCmd r c.ix 0 0 0 s.dieNo).out ∧ t.cmdsOf r = (s.completeCmd r c.ix 0 0 0 s.dieNo).cmdsOf r ∧
      t.sys = s.sys ∧ t.time = s.time := by
  let u := s.wr Reg.SYS_SCRATCH v
  have he : cmdCfgWr (.ring r) s = u.completeCmd r c.ix 0 0 0 s.dieNo := by
    refine (State.command_accepted hread hnext hmine hop (opAccepted_cfgWr hr) _ _ s.roomFor_zero).trans ?_
    dsimp only
    rw [ha0, ← hv1, State.busWrite_sysScratch hr hheld hv, ← State.dieNo_wrScratch v]
    rfl
  have hw := Wrote.completeCmd u r c.ix 0 0 0 s.dieNo
  have hbase : Alike scratchAlike s u := ⟨rfl, rfl, rfl, fun a ha => sget_sset_other _ _ _ ha _⟩
  have hal := hbase.completeCmd regsAlike_scratch r c.ix 0 0 0 s.dieNo
  refine ⟨_, (congrArg (finish s) he).trans (finish_eq ha hw.sys hw.pending), ?_, fun x hx => regsAlike_scratch.rd hal.regs x hx, hal.out,
    hal.cmdsOf r, hw.sys, hw.time⟩
  rw [hw.rd _ (by decide) (by decide) (by decide), State.rd_wr_same, Nat.mod_eq_of_lt hv]

omit hi in
theorem cfgWr_refused (hop : c.op = 3) (ha0 : c.arg0 = Reg.PORT_CFG 3) (hr : s.sys.run = .running) : exec (.cfgWr (.ring r)) s =
    .next ((s.incBy Reg.SYS_REJECT_CNT 1).completeCmd r c.ix 1 s.sys.run.code 0 s.dieNo) := by
  have hw : s.busWrite (Reg.PORT_CFG 3) c.arg1 = (s.ansState, s.rejected false) := by
    have hcls := State.classOf_mode (s := s) (findReg_portCfg (by decide : 3 < 16)) rfl
    rw [State.busWrite_ready (by rw [hr]; rfl) (by decide) (by decide)]
    have hhall : (decide ((portCfgHit 3).blk = .hall) && decide ((portCfgHit 3).row.off = 4)) = false := rfl
    have hprot : decide ((portCfgHit 3).row.cls = .prot) = false := rfl
    simp [State.regWrite, findReg_portCfg, hcls, hhall, hprot, Cls.accepts, hr]
  have hdie : (s.rejected false).dieNo = s.dieNo := State.dieNo_rejected s
  have he : cmdCfgWr (.ring r) s = (s.incBy Reg.SYS_REJECT_CNT 1).completeCmd r c.ix 1 s.sys.run.code 0 s.dieNo := by
    refine (State.command_accepted hread hnext hmine hop (opAccepted_cfgWr (by rw [hr]; rfl)) _ _ s.roomFor_zero).trans ?_
    dsimp only
    rw [ha0, hw]
    exact congrArg ((s.incBy Reg.SYS_REJECT_CNT 1).completeCmd r c.ix 1 s.sys.run.code 0) hdie
  exact (congrArg (finish s) he).trans (finish_refusedCmd ha _ _ _ _ _ _)

/-! CFG_RD_BLOCK and LOG_READ: a response record goes into the buffer (R376). -/

omit hi hread hnext hmine in
theorem finish_recorded (n : Nat) (p : Part) (q : Bool) (bs : List Byte) (ix : Nat) :
    finish s ((s.pushUnit n p q bs).uplinks.setPlace r ix .record) = .next ((s.pushUnit n p q bs).uplinks.setPlace r ix .record) := by
  have hst : (s.pushUnit n p q bs).uplinks.still = s.still := by simp
  exact finish_eq ha ((Wrote.setCmds _ r _).sys.trans (State.sys_of_still hst)) ((Wrote.setCmds _ r _).pending.trans (State.pending_of_still hst))

theorem cfgRdBlock_records (hop : c.op = 4) (ha0 : c.arg0 = Reg.VAULT_SCRUB) (h1 : c.arg1 = 1) (hroom : s.roomFor 4 = true) :
    exec (.cfgRdBlock (.ring r)) s = .next ((s.pushUnit 4 .resp false (leBytes 1 4 ++ leBytes 1 0 ++ leBytes 2 s.dieNo ++ leBytes 2 c.tag ++
      leBytes 2 1 ++ List.replicate 8 0 ++ leBytes 4 (s.rd Reg.VAULT_SCRUB))).uplinks.setPlace r c.ix .record) := by
  have hwords : readWords 1 Reg.VAULT_SCRUB s = (leBytes 4 (s.rd Reg.VAULT_SCRUB), s) := by
    simp [readWords, s.busRead_vaultScrub]
  have hlen : (leBytes 4 (s.rd Reg.VAULT_SCRUB)).length / 4 = 1 := by simp [leBytes]
  have he : cmdCfgRdBlock (.ring r) s = (s.pushUnit 4 .resp false (leBytes 1 4 ++ leBytes 1 0 ++ leBytes 2 s.dieNo ++ leBytes 2 c.tag ++
      leBytes 2 1 ++ List.replicate 8 0 ++ leBytes 4 (s.rd Reg.VAULT_SCRUB))).uplinks.setPlace r c.ix .record := by
    refine (State.command_accepted hread hnext hmine hop (opAccepted_always hi ha.1 (by simp)) _ _ (by simpa [h1] using hroom)).trans ?_
    rw [ha0, h1, if_neg (by decide), hwords]
    simp only [State.respond, respRecord, hlen, State.ringDone]
  exact (congrArg (finish s) he).trans (finish_recorded ha _ _ _ _ _)
theorem cfgRdBlock_badArg (hop : c.op = 4) (hbad : c.arg0 % 4 ≠ 0 ∨ c.arg1 = 0 ∨ 256 < c.arg1) (hroom : s.roomFor (4 * min c.arg1 256) = true) :
    exec (.cfgRdBlock (.ring r)) s = .next (s.completeCmd r c.ix 0x81 0 0 s.dieNo) := by
  have he : cmdCfgRdBlock (.ring r) s = s.completeCmd r c.ix 0x81 0 0 s.dieNo := by
    refine (State.command_accepted hread hnext hmine hop (opAccepted_always hi ha.1 (by simp)) _ _ hroom).trans ?_
    rw [if_pos hbad]
    rfl
  exact (congrArg (finish s) he).trans (finish_completeCmd ha _ _ _ _ _ _)
theorem logRead_records (hop : c.op = 0xB) (h256 : c.arg0 < 256) (h1 : c.arg1 = 1) (hroom : s.roomFor 32 = true) :
    exec (.logRead (.ring r)) s = .next ((s.pushUnit 4 .resp false (leBytes 1 0xB ++ leBytes 1 0 ++ leBytes 2 s.dieNo ++ leBytes 2 c.tag ++
      leBytes 2 8 ++ List.replicate 8 0 ++ padTo 32 (sget [] s.fault.log c.arg0))).uplinks.setPlace r c.ix .record) := by
  have hlen : (padTo 32 (sget [] s.fault.log c.arg0)).length / 4 = 8 := by
    have h32 : (padTo 32 (sget [] s.fault.log c.arg0)).length = 32 := by simp [padTo]; omega
    rw [h32]
  have hwords : (List.range 1).flatMap (fun k => padTo 32 (sget [] s.fault.log ((c.arg0 + k) % 256))) = padTo 32 (sget [] s.fault.log c.arg0) := by
    simp [Nat.mod_eq_of_lt h256]
  have he : cmdLogRead (.ring r) s = (s.pushUnit 4 .resp false (leBytes 1 0xB ++ leBytes 1 0 ++ leBytes 2 s.dieNo ++ leBytes 2 c.tag ++
      leBytes 2 8 ++ List.replicate 8 0 ++ padTo 32 (sget [] s.fault.log c.arg0))).uplinks.setPlace r c.ix .record := by
    refine (State.command_accepted hread hnext hmine hop (opAccepted_always hi ha.1 (by simp)) _ _ (by simpa [h1] using hroom)).trans ?_
    rw [h1, if_neg (by omega)]
    dsimp only
    rw [hwords]
    simp only [State.respond, respRecord, hlen, State.ringDone]
  exact (congrArg (finish s) he).trans (finish_recorded ha _ _ _ _ _)
theorem logRead_badArg (hop : c.op = 0xB) (hbad : 255 < c.arg0 ∨ c.arg1 = 0 ∨ 256 < c.arg1) (hroom : s.roomFor (32 * min c.arg1 256) = true) :
    exec (.logRead (.ring r)) s = .next (s.completeCmd r c.ix 0x81 0 0 s.dieNo) := by
  have he : cmdLogRead (.ring r) s = s.completeCmd r c.ix 0x81 0 0 s.dieNo := by
    refine (State.command_accepted hread hnext hmine hop (opAccepted_always hi ha.1 (by simp)) _ _ hroom).trans ?_
    rw [if_pos hbad]
    rfl
  exact (congrArg (finish s) he).trans (finish_completeCmd ha _ _ _ _ _ _)

omit hi in
/-- Without room for its record, a command of either kind waits (R268). -/
theorem records_wait : (c.op = 4 → s.roomFor (4 * min c.arg1 256) = false → exec (.cfgRdBlock (.ring r)) s = .next s) ∧
    (c.op = 0xB → s.roomFor (32 * min c.arg1 256) = false → exec (.logRead (.ring r)) s = .next s) :=
  ⟨fun hop hroom => (congrArg (finish s) (State.command_waits hread hnext hmine hop _ _ hroom)).trans (finish_eq ha rfl rfl),
    fun hop hroom => (congrArg (finish s) (State.command_waits hread hnext hmine hop _ _ hroom)).trans (finish_eq ha rfl rfl)⟩

end

end Sys2Proof.Machine
end

section
/-! ARM, DISARM, STOP and READMIT from a ring (R19, R353, R367, R378, R458). -/

namespace Sys2Proof.Machine

/-! Completions of a root without a partner change host registers, the host port and the outputs alone. -/

/-- The state but for registers, outputs and host port. -/
def State.besidesHost (s : State) : State := { s with regs := [], out := [], hif := {} }

@[simp] theorem State.wr_besidesHost (s : State) (a v : Nat) : (s.wr a v).besidesHost = s.besidesHost := Eq.trans rfl rfl
@[simp] theorem State.emit_besidesHost (s : State) (o : Out) : (s.emit o).besidesHost = s.besidesHost := Eq.trans rfl rfl
@[simp] theorem State.withHif_besidesHost (s : State) (h : HifSt) : ({ s with hif := h } : State).besidesHost = s.besidesHost := Eq.trans rfl rfl
@[simp] theorem State.setCmds_besidesHost (s : State) (r : Nat) (cs : List HCmd) : (s.setCmds r cs).besidesHost = s.besidesHost :=
  Eq.trans rfl rfl
@[simp] theorem State.sendMsix_besidesHost (s : State) (v : Nat) : (s.sendMsix v).besidesHost = s.besidesHost := by
  unfold State.sendMsix; dsimp only; split <;> simp
@[simp] theorem State.signalGroup_besidesHost (s : State) (g : Nat) : (s.signalGroup g).besidesHost = s.besidesHost :=
  (foldl_keeps State.besidesHost State.sendMsix_besidesHost _ _).trans (s.withHif_besidesHost _)
@[simp] theorem State.completionNoted_besidesHost (s : State) (r : Nat) (noint : Bool) :
    (s.completionNoted r noint).besidesHost = s.besidesHost := by
  unfold State.completionNoted
  split
  · rfl
  · extract_lets g vs at' _ s1 n
    have h1 : s1.besidesHost = s.besidesHost := s.withHif_besidesHost _
    split
    · exact (s1.signalGroup_besidesHost g).trans h1
    · exact h1
theorem writeDone_besidesHost (r k : Nat) {s : State} (hc : s.clasped = false) : (writeDone r k s).besidesHost = s.besidesHost := by
  induction k generalizing s with
  | zero => rfl
  | succ k ih =>
    rw [writeDone]
    split
    · rfl
    · split
      · extract_lets bs s1 s2
        have hw1 : Wrote s s1 := ((Wrote.setCmds s r _).trans (Wrote.wr _ (Reg.RING_HEAD r) _
          (.inl (by simp only [Reg.RING_HEAD]; omega)))).trans (Wrote.emit _ _)
        have hc2 : s2.clasped = false := (hw1.trans (Wrote.completionNoted s1 r _)).clasped.trans hc
        have h2 : s2.besidesHost = s.besidesHost := (s1.completionNoted_besidesHost r _).trans rfl
        have hrec : ∀ a b d e f, s2.recordWritten r a b d e f = s2 := fun a b d e f => by simp [State.recordWritten, hc2]
        rw [hrec]
        exact (ih hc2).trans h2
      · rfl
theorem State.completeCmd_besidesHost {s : State} (hc : s.clasped = false) (r ix st det dat die : Nat) :
    (s.completeCmd r ix st det dat die).besidesHost = s.besidesHost := by
  have h1 : (s.setPlace r ix (.done st det dat die)).besidesHost = s.besidesHost := Eq.trans rfl rfl
  have hc1 : (s.setPlace r ix (.done st det dat die)).clasped = false := (Wrote.setCmds s r _).clasped.trans hc
  unfold State.completeCmd State.flushRing
  split
  · exact (writeDone_besidesHost r _ hc1).trans h1
  · exact h1

/-! Transitions outside RUNNING. -/

/-- BUSY_OUT is driven outside RUNNING in any case (R175). -/
theorem State.enter_idle {s : State} {r : RunState} (hs : s.sys.run ≠ .running) (hr : r ≠ .running) : s.enter r = { s with
    sys := { s.sys with run := r, readyBall := r.isReady, holdOrbits := 0, stopPend := s.sys.stopPend && r.capturing } } := by
  have hcause : ∀ t : State, t.sys.run ≠ .running → t.busyCause = true := fun t ht => by simp [State.busyCause, ht]
  have hsame : State.busyCause { s with
      sys := { s.sys with run := r, readyBall := r.isReady, holdOrbits := 0, stopPend := s.sys.stopPend && r.capturing } } = s.busyCause := (hcause _ hr).trans (hcause s hs).symm
  rw [State.enter, if_neg hr]
  exact if_pos (.inl hsame)

/-- A transition that R19 allows ends in the effect of its command, where the effect keeps the role and the ball follows. -/
theorem finish_enters {s t : State} (h : s.sys.run ≠ .reset) (ha : RunState.allowed s.sys.run t.sys.run = true)
    (hb : t.sys.readyBall = t.sys.run.isReady) (hl : t.sys.role = s.sys.role) (hp : t.pending = s.pending) : finish s t = .next t := by
  rw [finish_next h ha]
  have hsys : { t.sys with role := s.sys.role, readyBall := t.sys.run.isReady } = t.sys := by rw [← hb, ← hl]
  rw [hsys, ← hp]

/-- The die after a transition and its command's completion, as told by the completion without the transition. -/
theorem enters_completes {s v : State} {r ix : Nat} (h : s.sys.run ≠ .reset) (hc : s.clasped = false) (hal : Alike Eq s v)
    (hface : v.besidesHost = { s with sys := v.sys, time := v.time }.besidesHost) (hrun : RunState.allowed s.sys.run v.sys.run = true)
    (hball : v.sys.readyBall = v.sys.run.isReady) (hpend : v.pending = s.pending) :
    finish s (v.completeCmd r ix 0 0 0 s.dieNo) = .next (v.completeCmd r ix 0 0 0 s.dieNo) ∧
    (v.completeCmd r ix 0 0 0 s.dieNo).sys = v.sys ∧ (v.completeCmd r ix 0 0 0 s.dieNo).time = v.time ∧
    (v.completeCmd r ix 0 0 0 s.dieNo).regs = (s.completeCmd r ix 0 0 0 s.dieNo).regs ∧
    (v.completeCmd r ix 0 0 0 s.dieNo).out = (s.completeCmd r ix 0 0 0 s.dieNo).out ∧
    (v.completeCmd r ix 0 0 0 s.dieNo).besidesHost = { s with sys := v.sys, time := v.time }.besidesHost := by
  have hw := Wrote.completeCmd v r ix 0 0 0 s.dieNo
  have hfin := hal.completeCmd regsAlike_eq r ix 0 0 0 s.dieNo
  have hcv : v.clasped = false := (hal.clasped regsAlike_eq).trans hc
  refine ⟨finish_enters h (by rw [hw.sys, hrun]) (by rw [hw.sys, hball]) (by rw [hw.sys, hal.role]) (hw.pending.trans hpend), hw.sys, hw.time,
    hfin.regs.symm, hfin.out, (State.completeCmd_besidesHost hcv _ _ _ _ _ _).trans hface⟩

section
variable {s : State} {r : Nat} {c : HCmd} (ha : Awake s) (hread : s.hostReads = true) (hnext : s.nextCmd r = some c)
  (hmine : s.isMine c.die = true)
include ha hread hnext hmine

/-! ARM. -/

/-- The die armed: nothing has fired yet. -/
def State.armed (s : State) : State :=
  { s with
    sys := { s.sys with run := .armed, readyBall := true, holdOrbits := 0, stopPend := false }, time := { s.time with fired := [] } }

theorem arm_arms (hop : c.op = 5) (hr : s.sys.run = .ready) (hdig : s.on F.HALL_STATUS_DIGEST_VALID = true) (hlock : s.locked = true)
    (hcold : s.clasp.cold = false) (hcl : s.clasped = false) : ∃ t, exec (.arm (.ring r)) s = .next t ∧ t.sys.run = .armed ∧
      t.time.fired = [] ∧ t.regs = (s.completeCmd r c.ix 0 0 0 s.dieNo).regs ∧ t.out = (s.completeCmd r c.ix 0 0 0 s.dieNo).out ∧
      t = { s with sys := t.sys, time := t.time, regs := t.regs, hif := t.hif, out := t.out } := by
  have hent : s.enter .armed = { s with sys := { s.sys with run := .armed, readyBall := true, holdOrbits := 0, stopPend := false } } := by
    rw [State.enter_idle (by simp [hr]) (by simp)]
    simp [RunState.isReady, RunState.capturing]
  have he : cmdArm (.ring r) s = s.armed.completeCmd r c.ix 0 0 0 s.dieNo := by
    refine (State.command_accepted hread hnext hmine hop (by simp [hr, opAccepted]) _ _ s.roomFor_zero).trans ?_
    simp only [hcl, hdig, hlock, hcold, hent, Bool.false_eq_true, false_and, not_true_eq_false, or_self, if_false]
    rfl
  have hal : Alike Eq s s.armed := ⟨rfl, rfl, rfl, rfl⟩
  obtain ⟨hfin, hsys, htime, hregs, hout, hrest⟩ := enters_completes (r := r) (ix := c.ix) ha.1 hcl hal rfl (by rw [hr]; rfl) rfl rfl
  refine ⟨_, (congrArg (finish s) he).trans hfin, by rw [hsys]; rfl, by rw [htime]; rfl, hregs, hout, ?_⟩
  obtain ⟨t, ht⟩ : ∃ t, t = s.armed.completeCmd r c.ix 0 0 0 s.dieNo := ⟨_, rfl⟩
  rw [← ht] at hsys htime hrest ⊢
  calc t = { t.besidesHost with regs := t.regs, hif := t.hif, out := t.out } := rfl
    _ = _ := by rw [hrest, ← hsys, ← htime]; rfl

/-- A pair without the feature arms no die (R378). -/
theorem arm_feature (hop : c.op = 5) (hr : s.sys.run = .ready) (hcl : s.clasped = true) (hf : s.feat 8 = false) :
    exec (.arm (.ring r)) s = .next (s.completeCmd r c.ix 0x83 0 0 s.dieNo) := by
  have he : cmdArm (.ring r) s = s.completeCmd r c.ix 0x83 0 0 s.dieNo := by
    refine (State.command_accepted hread hnext hmine hop (by simp [hr, opAccepted]) _ _ s.roomFor_zero).trans ?_
    simp only [hcl, hf, Bool.false_eq_true, not_false_eq_true, and_self, if_true]
    rfl
  exact (congrArg (finish s) he).trans (finish_completeCmd ha _ _ _ _ _ _)

/-- Without a valid digest, or unlocked, the die is not armed. -/
theorem arm_unfit (hop : c.op = 5) (hr : s.sys.run = .ready) (hbad : s.on F.HALL_STATUS_DIGEST_VALID = false ∨ s.locked = false)
    (hcl : s.clasped = false ∨ s.feat 8 = true) : exec (.arm (.ring r)) s =
      .next ((s.incBy Reg.SYS_REJECT_CNT 1).completeCmd r c.ix 1 s.sys.run.code 0 s.dieNo) := by
  have hfeat : ¬(s.clasped = true ∧ ¬ s.feat 8 = true) := by rcases hcl with h | h <;> simp [h]
  have hunfit : ¬ s.on F.HALL_STATUS_DIGEST_VALID = true ∨ ¬ s.locked = true := by rcases hbad with h | h <;> simp [h]
  have he : cmdArm (.ring r) s = (s.incBy Reg.SYS_REJECT_CNT 1).completeCmd r c.ix 1 s.sys.run.code 0 s.dieNo := by
    refine (State.command_accepted hread hnext hmine hop (by simp [hr, opAccepted]) _ _ s.roomFor_zero).trans ?_
    rw [if_neg hfeat, if_pos hunfit]
    exact congrArg ((s.incBy Reg.SYS_REJECT_CNT 1).completeCmd r c.ix 1 s.sys.run.code 0) s.dieNo_rejected
  exact (congrArg (finish s) he).trans (finish_refusedCmd ha _ _ _ _ _ _)

/-- A command that its run state refuses, as its row answers it. -/
theorem finish_refused {op : Nat} (hop : c.op = op) (hacc : opAccepted op s.sys.run = false) (h3 : op ≠ 3)
    (f : Nat → Nat → Nat → State → Done × State) : finish s (s.command (.ring r) op f) =
      .next ((s.incBy Reg.SYS_REJECT_CNT 1).completeCmd r c.ix 1 s.sys.run.code 0 s.dieNo) := by
  rw [State.command_refused hread hnext hmine hop hacc h3]
  exact finish_refusedCmd ha _ _ _ _ _ _

theorem arm_refused (hop : c.op = 5) (hi : s.sys.run ≠ .init) (hr : s.sys.run ≠ .ready) : exec (.arm (.ring r)) s =
    .next ((s.incBy Reg.SYS_REJECT_CNT 1).completeCmd r c.ix 1 s.sys.run.code 0 s.dieNo) := by
  refine finish_refused ha hread hnext hmine hop ?_ (by decide) _
  have h0 := ha.1
  revert hi hr h0
  cases s.sys.run <;> simp [opAccepted]

/-- An active member of a pair that was cold arms alone (R353). -/
theorem arm_alone (hop : c.op = 5) (hr : s.sys.run = .ready) (hdig : s.on F.HALL_STATUS_DIGEST_VALID = true) (hlock : s.locked = true)
    (hcl : s.clasped = true) (hf : s.feat 8 = true) (hst : s.clState = 1) (hcold : s.clasp.cold = true) :
    ∃ t, exec (.arm (.ring r)) s = .next t ∧ t.sys.run = .armed ∧ t.clState = 2 ∧ t.on F.CLASP_STATUS_ALONE = true ∧
      t.on F.ORB_STATUS_HOLDOVER = false ∧ t.clasp.cold = false := by
  have hent : s.enter .armed = { s with sys := { s.sys with run := .armed, readyBall := true, holdOrbits := 0, stopPend := false } } := by
    rw [State.enter_idle (by simp [hr]) (by simp)]
    simp [RunState.isReady, RunState.capturing]
  let w : State := { s.armed.put F.ORB_STATUS_HOLDOVER 0 with clasp := { s.clasp with cold := false } }
  let v : State := (w.put F.CLASP_STATUS_STATE clActive).put F.CLASP_STATUS_ALONE 1
  have he : cmdArm (.ring r) s = v.completeCmd r c.ix 0 0 0 v.dieNo := by
    refine (State.command_accepted hread hnext hmine hop (by simp [hr, opAccepted]) _ _ s.roomFor_zero).trans ?_
    have h1 : s.clState = clPairing := hst
    simp only [hcl, hf, hdig, hlock, hcold, hent, h1, not_true_eq_false, and_false, and_self, or_self, if_false, if_true]
    rfl
  have hw := Wrote.completeCmd v r c.ix 0 0 0 v.dieNo
  have hfin : finish s (v.completeCmd r c.ix 0 0 0 v.dieNo) = .next (v.completeCmd r c.ix 0 0 0 v.dieNo) :=
    finish_enters ha.1 (by rw [hw.sys, hr]; rfl) (by rw [hw.sys]; rfl) (by rw [hw.sys]; rfl) (hw.pending.trans rfl)
  refine ⟨_, (congrArg (finish s) he).trans hfin, by rw [hw.sys]; rfl, ?_, ?_, ?_, hw.cold.trans rfl⟩
  · rw [State.clState, hw.get _ (by decide) (by decide) (by decide), State.get_put_apart _ _ _ _ (by decide) (by decide),
      State.get_put_same _ _ _ (by decide)]
    rfl
  · rw [State.on, hw.get _ (by decide) (by decide) (by decide), State.get_put_same _ _ _ (by decide)]
    rfl
  · have h0 : w.get F.ORB_STATUS_HOLDOVER = 0 := State.get_put_same s.armed F.ORB_STATUS_HOLDOVER 0 (by decide)
    rw [State.on, hw.get _ (by decide) (by decide) (by decide), State.get_put_other _ _ _ _ (by decide),
      State.get_put_other _ _ _ _ (by decide), h0]
    rfl

/-! DISARM. -/

theorem disarm_readies (hop : c.op = 6) (hr : s.sys.run = .armed) (hcl : s.clasped = false) : ∃ t, exec (.disarm (.ring r)) s = .next t ∧
      t.sys.run = .ready ∧ t.sys.readyBall = true ∧ t.out = (s.completeCmd r c.ix 0 0 0 s.dieNo).out ∧
      t.regs = (s.completeCmd r c.ix 0 0 0 s.dieNo).regs ∧ t = { s with sys := t.sys, regs := t.regs, hif := t.hif, out := t.out } := by
  let v : State := { s with sys := { s.sys with run := .ready, readyBall := true, holdOrbits := 0, stopPend := false } }
  have hent : s.enter .ready = v := by
    rw [State.enter_idle (by simp [hr]) (by simp)]
    simp [RunState.isReady, RunState.capturing, v]
  have he : cmdDisarm (.ring r) s = v.completeCmd r c.ix 0 0 0 s.dieNo := by
    refine (State.command_accepted hread hnext hmine hop (by simp [hr, opAccepted]) _ _ s.roomFor_zero).trans ?_
    rw [hent]
    rfl
  have hal : Alike Eq s v := ⟨rfl, rfl, rfl, rfl⟩
  obtain ⟨hfin, hsys, htime, hregs, hout, hrest⟩ := enters_completes (r := r) (ix := c.ix) ha.1 hcl hal rfl (by rw [hr]; rfl) rfl rfl
  refine ⟨_, (congrArg (finish s) he).trans hfin, by rw [hsys], by rw [hsys], hout, hregs, ?_⟩
  obtain ⟨t, ht⟩ : ∃ t, t = v.completeCmd r c.ix 0 0 0 s.dieNo := ⟨_, rfl⟩
  rw [← ht] at hsys htime hrest ⊢
  calc t = { t.besidesHost with regs := t.regs, hif := t.hif, out := t.out } := rfl
    _ = _ := by rw [hrest, ← hsys]; rfl

theorem disarm_refused (hop : c.op = 6) (hi : s.sys.run ≠ .init) (hr : s.sys.run ≠ .armed) : exec (.disarm (.ring r)) s =
    .next ((s.incBy Reg.SYS_REJECT_CNT 1).completeCmd r c.ix 1 s.sys.run.code 0 s.dieNo) := by
  refine finish_refused ha hread hnext hmine hop ?_ (by decide) _
  have h0 := ha.1
  revert hi hr h0
  cases s.sys.run <;> simp [opAccepted]

/-! READMIT. -/

theorem readmit_refused (hop : c.op = 8) (hr : s.sys.run = .running ∨ s.sys.run = .hold ∨ s.sys.run = .safe) : exec (.readmit (.ring r)) s =
    .next ((s.incBy Reg.SYS_REJECT_CNT 1).completeCmd r c.ix 1 s.sys.run.code 0 s.dieNo) := by
  refine finish_refused ha hread hnext hmine hop ?_ (by decide) _
  rcases hr with hr | hr | hr <;> simp [hr, opAccepted]

/-- A unit that does not exist, or a row, is not re-admitted. -/
theorem readmit_badArg (hop : c.op = 8) (hr : s.sys.run = .ready ∨ s.sys.run = .armed)
    (hbad : c.arg0 = 7 ∨ (c.arg0 = 4 ∧ 16 ≤ c.arg1) ∨ 10 ≤ c.arg0) :
    exec (.readmit (.ring r)) s = .next (s.completeCmd r c.ix 0x81 0 0 s.dieNo) := by
  have hno : ¬ unitExists c.arg0 c.arg1 = true ∨ c.arg0 = 7 := by
    rcases hbad with h | ⟨h, h16⟩ | h
    · exact .inr h
    · left
      simp [unitExists, h]
      omega
    · left
      have hne : ∀ k < 10, c.arg0 ≠ k := fun k hk => by omega
      simp [unitExists, hne 1, hne 2, hne 3, hne 4, hne 5, hne 6, hne 7, hne 8, hne 9]
  have he : cmdReadmit (.ring r) s = s.completeCmd r c.ix 0x81 0 0 s.dieNo := by
    refine (State.command_accepted hread hnext hmine hop (by rcases hr with hr | hr <;> simp [hr, opAccepted]) _ _ s.roomFor_zero).trans ?_
    dsimp only
    rw [State.readmit, if_pos hno]
    rfl
  exact (congrArg (finish s) he).trans (finish_completeCmd ha _ _ _ _ _ _)

omit ha hread hnext hmine in
/-- An INFO alert that is masked is logged and numbered, and not sent (R463–R466). -/
theorem State.alert_info_masked {s : State} (hm : s.on F.FAULT_ALERT_MASK_INFO = true) (reg bit ut ui data : Nat) :
    s.alert .info reg bit ut ui data = (s.logAlert (alertRecord s .info reg bit ut ui data)).put F.FAULT_ALERT_SEQ_SEQ
      (s.get F.FAULT_ALERT_SEQ_SEQ + 1) := by
  obtain ⟨u, hu⟩ : ∃ u, u = (s.logAlert (alertRecord s .info reg bit ut ui data)).put F.FAULT_ALERT_SEQ_SEQ
      (s.get F.FAULT_ALERT_SEQ_SEQ + 1) := ⟨_, rfl⟩
  have hmask : u.on F.FAULT_ALERT_MASK_INFO = true := by
    have hput : ∀ (t : State) (g : Fld) (x : Nat), g.reg = Reg.FAULT_LOG_NEXT → (t.put g x).get F.FAULT_ALERT_MASK_INFO =
        t.get F.FAULT_ALERT_MASK_INFO := fun t g x hg => State.get_put_other t g _ x (by rw [hg]; decide)
    have hlog : u.get F.FAULT_ALERT_MASK_INFO = s.get F.FAULT_ALERT_MASK_INFO := by
      rw [hu, State.get_put_other _ _ _ _ (by decide), State.logAlert]
      dsimp only
      split <;> simp [hput]
    rw [State.on, hlog]
    exact hm
  rw [State.alert]
  simp only [← hu, State.sendAlert, alertMasked, hmask, if_true]

/-- A retired unit of a column is back in service without strikes, and the alert about it is logged (R458). -/
theorem readmit_column {v : Nat} (hop : c.op = 8) (hr : s.sys.run = .ready ∨ s.sys.run = .armed) (h4 : c.arg0 = 4) (hv1 : v = c.arg1)
    (hv : v < 16) (hret : s.isRetired 4 v = true) (hm : s.on F.FAULT_ALERT_MASK_INFO = true) :
    ∃ t, exec (.readmit (.ring r)) s = .next t ∧ t.isRetired 4 v = false ∧ t.strikesOf 4 v = 0 ∧
      t.get (F.FAULT_RETIRED_COUNT 4) = (s.get (F.FAULT_RETIRED_COUNT 4) - 1) % 2 ^ (F.FAULT_RETIRED_COUNT 4).w ∧
      t.get F.FAULT_ALERT_SEQ_SEQ = (s.get F.FAULT_ALERT_SEQ_SEQ + 1) % 2 ^ F.FAULT_ALERT_SEQ_SEQ.w ∧ t.sys = s.sys ∧ t.time = s.time := by
  let u := s.readmitUnit 4 v
  let x := u.alert .info Reg.FAULT_STATUS 8 4 v 0
  have hu : u = ({ s with fault := { s.fault with
      strikes := sset 0 s.fault.strikes (unitKey 4 v) 0
      retired := s.fault.retired.filter (fun k => decide (k ≠ unitKey 4 v))
      pending := s.fault.pending.filter (fun k => decide (k ≠ unitKey 4 v)) } }).put (F.FAULT_RETIRED_COUNT 4)
        (s.get (F.FAULT_RETIRED_COUNT 4) - 1) := by
    simp only [u, State.readmitUnit, hret, if_true]
  have hre : s.readmit 4 v = (ansOk, x) := by
    have hex : ¬(¬ unitExists 4 v = true ∨ (4 : Nat) = 7) := by simp [unitExists, hv]
    rw [State.readmit, if_neg hex]
    simp [hret, State.resumeUnit, x, u]
  have he : cmdReadmit (.ring r) s = x.completeCmd r c.ix 0 0 0 x.dieNo := by
    refine (State.command_accepted hread hnext hmine hop (by rcases hr with hr | hr <;> simp [hr, opAccepted]) _ _ s.roomFor_zero).trans ?_
    dsimp only
    rw [h4, ← hv1, hre]
    rfl
  have hw := Wrote.completeCmd x r c.ix 0 0 0 x.dieNo
  have hmu : u.on F.FAULT_ALERT_MASK_INFO = true := by
    rw [hu, State.on, State.get_put_other _ _ _ _ (by decide)]
    exact hm
  have hx : x = (u.logAlert (alertRecord u .info Reg.FAULT_STATUS 8 4 v 0)).put F.FAULT_ALERT_SEQ_SEQ (u.get F.FAULT_ALERT_SEQ_SEQ + 1) :=
    State.alert_info_masked hmu _ _ _ _ _
  have hlogf : ∀ (t : State) rec, (t.logAlert rec).fault.retired = t.fault.retired ∧ (t.logAlert rec).fault.strikes = t.fault.strikes :=
    fun t rec => by
      unfold State.logAlert
      dsimp only
      split <;> simp
  have hret' : x.fault.retired = s.fault.retired.filter (fun k => decide (k ≠ unitKey 4 v)) := by
    rw [hx, State.put_fault, (hlogf u _).1, hu, State.put_fault]
  have hstr' : x.fault.strikes = sset 0 s.fault.strikes (unitKey 4 v) 0 := by
    rw [hx, State.put_fault, (hlogf u _).2, hu, State.put_fault]
  have hstill : x.still = s.still := (u.alert_still _ _ _ _ _ _).trans (by rw [hu]; simp [↓State.still_mk])
  have hsys := hw.sys.trans (State.sys_of_still hstill)
  refine ⟨_, (congrArg (finish s) he).trans (finish_eq ha hsys (hw.pending.trans (State.pending_of_still hstill))), ?_, ?_, ?_, ?_, hsys,
    hw.time.trans (State.time_of_still hstill)⟩
  · rw [State.isRetired, hw.fault, hret']
    simp
  · rw [State.strikesOf, hw.fault, hstr', sget_sset_same]
  · rw [hw.get _ (by decide) (by decide) (by decide)]
    refine (State.get_alert_other u _ _ _ _ _ _ (by decide) (by decide) (by decide) (.inl (by decide)) (by decide)).trans ?_
    rw [hu, State.get_put_same _ _ _ (by decide)]
  · rw [hw.get _ (by decide) (by decide) (by decide), hx, State.get_put_same _ _ _ (by decide), hu, State.get_put_other _ _ _ _ (by decide)]
    rfl

end

end Sys2Proof.Machine
end

section
/-! STOP from a ring (R19, R20, R133, R367): from HOLD capture ends at once. -/

namespace Sys2Proof.Machine

/-! The end of capture leaves times and queue alone. -/

@[simp] theorem State.issue_still (s : State) (f : Frag) : (s.issue f).still = s.still := by simp [State.issue, ↓State.still_mk]
@[simp] theorem State.issueWait_still (s : State) : s.issueWait.still = s.still := by
  unfold State.issueWait
  split
  · rfl
  · split <;> simp [↓State.still_mk]
@[simp] theorem acceptIssue_still (s : State) : (acceptIssue s).still = s.still := by
  unfold acceptIssue
  split
  · exact s.issueWait_still
  · split <;> simp [↓State.still_mk]
@[simp] theorem issueAll_still (k : Nat) (s : State) : (issueAll k s).still = s.still := by
  induction k generalizing s with
  | zero => rfl
  | succ k ih => exact (ih _).trans (acceptIssue_still s)
@[simp] theorem State.beginFlush_still (s : State) : s.beginFlush.still = s.still := by simp [State.beginFlush, ↓State.still_mk]
@[simp] theorem State.dumpEnd_still (s : State) (d : Dump) : (s.dumpEnd d).still = s.still := by
  unfold State.dumpEnd; dsimp only; (repeat' split) <;> simp [↓State.still_mk]
/-- The last record of a dump reads no memory. -/
@[simp] theorem dumpStop_still (s : State) : (dumpStop s).still = s.still := by
  unfold dumpStop
  split
  · rfl
  · next d _ =>
    split
    · rfl
    · simp only [dumpRecordWrite, dumpPayload]
      split
      · simp [↓State.still_mk]
      · simp [↓State.still_mk]

/-- A transition leaves the times alone. -/
theorem State.enter_time (s : State) (r : RunState) : (s.enter r).time = s.time := by
  unfold State.enter
  refine (State.time_of_still (State.busyFollows_still _ _)).trans ?_
  split <;> rfl

@[simp] theorem State.answer_still (s : State) (src tag st det dat : Nat) : (s.answer src tag st det dat).still = s.still := by
  simp [State.answer]

/-- The run state and the times of a die. -/
def State.runTime (s : State) : RunState × TimeSt := (s.sys.run, s.time)

theorem Wrote.runTime {s u : State} (h : Wrote s u) : u.runTime = s.runTime := by
  unfold State.runTime
  rw [h.sys, h.time]

/-- STOP commands that complete leave run state and times alone. -/
theorem State.stopsDone_runTime (s : State) : s.stopsDone.runTime = s.runTime := by
  unfold State.stopsDone
  extract_lets s1 _ s2
  have h1 : s1.still = s.still := foldl_still (fun t e => t.answer_still _ _ _ _ _) _ s
  have h2 : s2.runTime = s.runTime := Prod.ext (congrArg SysSt.run (State.sys_of_still h1)) (State.time_of_still h1)
  refine (foldl_keeps State.runTime (fun t e => ?_) s2.hif.cmds s2).trans h2
  refine foldl_keeps State.runTime (fun u c => ?_) e.2 t
  split
  · exact (Wrote.completeCmd u _ _ _ _ _ _).runTime
  · rfl

/-- Capture ends in READY, and the orbit stays. -/
theorem State.endCapture_run (s : State) : s.endCapture.sys.run = .ready ∧ s.endCapture.time = s.time := by
  unfold State.endCapture
  extract_lets s1 s2
  have h2 : (dumpStop s2).still = s.still := by simp [s2, s1]
  have hfree := State.freeTiles_still ((dumpStop s2).enter .ready)
  have hdone := State.stopsDone_runTime ((dumpStop s2).enter .ready).freeTiles
  simp only [State.runTime] at hdone
  rw [State.sys_of_still hfree, State.time_of_still hfree, State.enter_run, State.enter_time, State.time_of_still h2] at hdone
  exact ⟨congrArg Prod.fst hdone, congrArg Prod.snd hdone⟩

section
variable {s : State} {r : Nat} {c : HCmd} (ha : Awake s) (hread : s.hostReads = true) (hnext : s.nextCmd r = some c)
  (hmine : s.isMine c.die = true)
include ha hread hnext hmine

theorem stop_fromHold (hop : c.op = 7) (hr : s.sys.run = .hold) : ∃ t, exec (.stop (.ring r)) s = .next t ∧ t.sys.run = .ready ∧
    t.sys.readyBall = true ∧ t.time.orbit = s.time.orbit := by
  obtain ⟨hrun, htime⟩ := s.endCapture_run
  obtain ⟨x, hx⟩ : ∃ x, x = fragOut (s.endCapture.completeCmd r c.ix 0 0 0 s.endCapture.dieNo) := ⟨_, rfl⟩
  have he : fragOut (cmdStop (.ring r) s) = x := by
    rw [hx]
    refine congrArg fragOut ((State.command_accepted hread hnext hmine hop (by simp [hr, opAccepted]) _ _ s.roomFor_zero).trans ?_)
    rw [if_pos hr]
    rfl
  have hw := Wrote.completeCmd s.endCapture r c.ix 0 0 0 s.endCapture.dieNo
  have hst := fragOut_still (s.endCapture.completeCmd r c.ix 0 0 0 s.endCapture.dieNo)
  rw [← hx] at hst
  have hxrun : x.sys.run = .ready := by rw [State.sys_of_still hst, hw.sys, hrun]
  have hxtime : x.time = s.time := by rw [State.time_of_still hst, hw.time, htime]
  refine ⟨_, (congrArg (finish s) he).trans (finish_next ha.1 (by rw [hr, hxrun]; rfl)), hxrun, ?_, congrArg TimeSt.orbit hxtime⟩
  rw [hxrun]
  rfl

theorem stop_refused (hop : c.op = 7) (hi : s.sys.run ≠ .init) (hr : s.sys.run ≠ .running) (hh : s.sys.run ≠ .hold)
    (hfix : fragOut ((s.incBy Reg.SYS_REJECT_CNT 1).completeCmd r c.ix 1 s.sys.run.code 0 s.dieNo) =
      (s.incBy Reg.SYS_REJECT_CNT 1).completeCmd r c.ix 1 s.sys.run.code 0 s.dieNo) :
    exec (.stop (.ring r)) s = .next ((s.incBy Reg.SYS_REJECT_CNT 1).completeCmd r c.ix 1 s.sys.run.code 0 s.dieNo) := by
  have hacc : opAccepted 7 s.sys.run = false := by
    have h0 := ha.1
    revert hi hr hh h0
    cases s.sys.run <;> simp [opAccepted]
  have he : fragOut (cmdStop (.ring r) s) = (s.incBy Reg.SYS_REJECT_CNT 1).completeCmd r c.ix 1 s.sys.run.code 0 s.dieNo := by
    rw [cmdStop, State.command_refused hread hnext hmine hop hacc (by decide), hfix]
  exact (congrArg (finish s) he).trans (finish_refusedCmd ha _ _ _ _ _ _)

end

end Sys2Proof.Machine
end

section
/-! A STOP that waits for the end of the orbit (R20) is seen by no work of capture, vault, tally, Facet, buffer or ports: what they make of
a die with the STOP is what they make of it without, and the STOP waits still. -/

namespace Sys2Proof.Machine

/-- A STOP waits for the end of the orbit. -/
@[simps] def SysSt.stop (y : SysSt) : SysSt := { y with stopPend := true }

/-- The die with a STOP that waits for the end of the orbit. -/
@[simps] def State.stop (s : State) : State := { s with sys := s.sys.stop }

theorem State.stop_mk (x0 x1 x2 x3 x4 x5 x6 x7 x8 x9 x10 x11 x12 x13 x14 x15 x16 x17 x18 x19 x20 x21 x22 x23 x24 x25 x26 x27 x28 x29) :
    State.mk x0 (SysSt.stop x1) x2 x3 x4 x5 x6 x7 x8 x9 x10 x11 x12 x13 x14 x15 x16 x17 x18 x19 x20 x21 x22 x23 x24 x25 x26 x27 x28 x29 =
      (State.mk x0 x1 x2 x3 x4 x5 x6 x7 x8 x9 x10 x11 x12 x13 x14 x15 x16 x17 x18 x19 x20 x21 x22 x23 x24 x25 x26 x27 x28 x29).stop :=
  Eq.trans rfl rfl

@[simp] theorem State.stop_ite (c : Prop) [Decidable c] (s t : State) : (if c then s.stop else t.stop) = (if c then s else t).stop :=
  (apply_ite State.stop c s t).symm

/-- What each step of a fold makes alike with and without the STOP, the fold does. -/
@[simp] theorem foldl_stop {α : Type} {f : State → α → State} (h : ∀ s x, f s.stop x = (f s x).stop) (l : List α) (s : State) :
    l.foldl f s.stop = (l.foldl f s).stop := by
  induction l generalizing s with
  | nil => rfl
  | cons x l ih => rw [List.foldl_cons, List.foldl_cons, h, ih]

/-! What the blocks read of a die. -/

section
variable (s : State)

@[simp] theorem State.stop_rd (a : Nat) : s.stop.rd a = s.rd a := Eq.trans rfl rfl
@[simp] theorem State.stop_get (f : Fld) : s.stop.get f = s.get f := Eq.trans rfl rfl
@[simp] theorem State.stop_on (f : Fld) : s.stop.on f = s.on f := Eq.trans rfl rfl
@[simp] theorem State.stop_dieNo : s.stop.dieNo = s.dieNo := Eq.trans rfl rfl
@[simp] theorem State.stop_orbitNow : s.stop.orbitNow = s.orbitNow := Eq.trans rfl rfl
@[simp] theorem State.stop_isRoot : s.stop.isRoot = s.isRoot := Eq.trans rfl rfl
@[simp] theorem State.stop_fNow : s.stop.fNow = s.fNow := Eq.trans rfl rfl
@[simp] theorem State.stop_alertRecord (v : Sev) (a b ut ui d : Nat) : alertRecord s.stop v a b ut ui d = alertRecord s v a b ut ui d :=
  Eq.trans rfl rfl
@[simp] theorem State.stop_alertMasked (v : Sev) : alertMasked s.stop v = alertMasked s v := by cases v <;> rfl
@[simp] theorem State.stop_alertRoom (v : Sev) : alertRoom s.stop v = alertRoom s v := Eq.trans rfl rfl
@[simp] theorem State.stop_isRetired (ty ix : Nat) : s.stop.isRetired ty ix = s.isRetired ty ix := Eq.trans rfl rfl
@[simp] theorem State.stop_strikesOf (ty ix : Nat) : s.stop.strikesOf ty ix = s.strikesOf ty ix := Eq.trans rfl rfl
@[simp] theorem State.stop_strikeLimit (ty : Nat) : s.stop.strikeLimit ty = s.strikeLimit ty := Eq.trans rfl rfl
@[simp] theorem State.stop_atLimit (ty ix : Nat) : s.stop.atLimit ty ix = s.atLimit ty ix := Eq.trans rfl rfl
@[simp] theorem State.stop_pair (p : Nat) : s.stop.pair p = s.pair p := Eq.trans rfl rfl
@[simp] theorem State.stop_arb (i : Nat) : s.stop.arb i = s.arb i := Eq.trans rfl rfl
@[simp] theorem State.stop_arbWindow (i : Nat) : s.stop.arbWindow i = s.arbWindow i := Eq.trans rfl rfl
@[simp] theorem State.stop_arbMasked (i : Nat) (a : Arb) (q : ArbReq) : s.stop.arbMasked i a q = s.arbMasked i a q := Eq.trans rfl rfl
@[simp] theorem State.stop_arbNext (i : Nat) (a : Arb) (n : Nat) : s.stop.arbNext i a n = s.arbNext i a n := Eq.trans rfl rfl
@[simp] theorem State.stop_arbClassOf (i r : Nat) : s.stop.arbClassOf i r = s.arbClassOf i r := Eq.trans rfl rfl
@[simp] theorem State.stop_arbMayGrant (i r : Nat) : s.stop.arbMayGrant i r = s.arbMayGrant i r := Eq.trans rfl rfl
@[simp] theorem State.stop_tile (t : Nat) : s.stop.tile t = s.tile t := Eq.trans rfl rfl
@[simp] theorem State.stop_hasCredit (c : Nat) : s.stop.hasCredit c = s.hasCredit c := Eq.trans rfl rfl
@[simp] theorem State.stop_build (f : Frag) : s.stop.build f = s.build f := Eq.trans rfl rfl
@[simp] theorem State.stop_columnMissing (f : Frag) (c : Nat) : s.stop.columnMissing f c = s.columnMissing f c := Eq.trans rfl rfl
@[simp] theorem State.stop_flushed : s.stop.flushed = s.flushed := Eq.trans rfl rfl
@[simp] theorem State.stop_tselNow : s.stop.tselNow = s.tselNow := Eq.trans rfl rfl
@[simp] theorem State.stop_fragTag (bs : List Byte) : s.stop.fragTag bs = s.fragTag bs := Eq.trans rfl rfl
@[simp] theorem State.stop_freeEngine : s.stop.freeEngine = s.freeEngine := Eq.trans rfl rfl
@[simp] theorem State.stop_port (p : Nat) : s.stop.port p = s.port p := Eq.trans rfl rfl
@[simp] theorem State.stop_portUp (p : Nat) : s.stop.portUp? p = s.portUp? p := Eq.trans rfl rfl
@[simp] theorem State.stop_portVersion (p : Nat) : s.stop.portVersion p = s.portVersion p := Eq.trans rfl rfl
@[simp] theorem State.stop_routePort (d : Nat) : s.stop.routePort d = s.routePort d := Eq.trans rfl rfl
@[simp] theorem State.stop_driftsUp : s.stop.driftsUp = s.driftsUp := Eq.trans rfl rfl
@[simp] theorem State.stop_upPorts : s.stop.upPorts = s.upPorts := Eq.trans rfl rfl
@[simp] theorem State.stop_upHeld : s.stop.upHeld = s.upHeld := Eq.trans rfl rfl
@[simp] theorem State.stop_arbitrated (p : Nat) : s.stop.arbitrated p = s.arbitrated p := Eq.trans rfl rfl
@[simp] theorem State.stop_uplinkOf (p : Nat) : s.stop.uplinkOf p = s.uplinkOf p := Eq.trans rfl rfl
@[simp] theorem State.stop_uplinkPort (i : Nat) : s.stop.uplinkPort i = s.uplinkPort i := Eq.trans rfl rfl
@[simp] theorem State.stop_askers (p : Nat) : s.stop.askers p = s.askers p := Eq.trans rfl rfl
@[simp] theorem State.stop_payloadMax (p : Nat) : s.stop.payloadMax p = s.payloadMax p := Eq.trans rfl rfl
@[simp] theorem State.stop_frameLen (p n : Nat) : s.stop.frameLen p n = s.frameLen p n := Eq.trans rfl rfl
@[simp] theorem State.stop_nextControl (p : Nat) : s.stop.nextControl p = s.nextControl p := Eq.trans rfl rfl
@[simp] theorem State.stop_pieceBytes (p : Nat) (u : BUnit) (a n : Nat) : s.stop.pieceBytes p u a n = s.pieceBytes p u a n := Eq.trans rfl rfl
@[simp] theorem State.stop_maySend (p : Nat) (u : BUnit) : s.stop.maySend p u = s.maySend p u := Eq.trans rfl rfl
@[simp] theorem State.stop_requesterOf (u : BUnit) : s.stop.requesterOf u = s.requesterOf u := Eq.trans rfl rfl
@[simp] theorem State.stop_bankQ (b : Nat) : s.stop.bankQ b = s.bankQ b := Eq.trans rfl rfl
@[simp] theorem State.stop_vword (w : Nat) : s.stop.vword w = s.vword w := Eq.trans rfl rfl
@[simp] theorem State.stop_tword (w : Nat) : s.stop.tword w = s.tword w := Eq.trans rfl rfl
@[simp] theorem State.stop_binOf (v : Nat) : s.stop.binOf v = s.binOf v := Eq.trans rfl rfl
@[simp] theorem State.stop_histEntry (n b : Nat) : s.stop.histEntry n b = s.histEntry n b := Eq.trans rfl rfl
@[simp] theorem State.stop_tallyK : s.stop.tallyK = s.tallyK := Eq.trans rfl rfl
@[simp] theorem State.stop_withSrc (b : Built) : s.stop.withSrc b = s.withSrc b := Eq.trans rfl rfl
@[simp] theorem State.stop_releaseOf (b : Built) : s.stop.releaseOf b = s.releaseOf b := Eq.trans rfl rfl
@[simp] theorem State.stop_fits (p : Part) (n : Nat) : s.stop.fits p n = s.fits p n := Eq.trans rfl rfl
end

/-- The pieces of a unit. -/
@[simp] theorem State.stop_unitPieces (s : State) (p : Nat) (u : BUnit) (cuts : List Nat) (a n : Nat) :
    s.stop.unitPieces p u cuts a n = s.unitPieces p u cuts a n := by
  induction cuts generalizing a n with
  | nil => rfl
  | cons c cuts ih => simp only [State.unitPieces, ih, State.stop_pieceBytes]

/-- The pieces of a requester's units. -/
@[simp] theorem State.stop_takePieces (s : State) (p up r : Nat) (units behind : List BUnit) (stream : Option Nat) (n : Nat) :
    takePieces s.stop p up r units behind stream n = takePieces s p up r units behind stream n := by
  induction units generalizing behind stream n with
  | nil => rfl
  | cons u units ih =>
    simp only [takePieces, ih, State.stop_requesterOf, State.stop_maySend, State.stop_unitPieces, State.stop_port]

@[simp] theorem State.stop_nextPayload (s : State) (p r n : Nat) : s.stop.nextPayload p r n = s.nextPayload p r n := by
  simp [State.nextPayload]

end Sys2Proof.Machine
end

section
/-! Each operation on a die with a STOP that waits makes of it what it makes of the die without, and the STOP waits still: alerts,
arbiters, frames, uplinks. -/

namespace Sys2Proof.Machine

@[simp] theorem State.wr_stop (s : State) (a v : Nat) : s.stop.wr a v = (s.wr a v).stop := Eq.trans rfl rfl
@[simp] theorem State.put_stop (s : State) (f : Fld) (v : Nat) : s.stop.put f v = (s.put f v).stop := Eq.trans rfl rfl
@[simp] theorem State.incBy_stop (s : State) (a n : Nat) : s.stop.incBy a n = (s.incBy a n).stop := Eq.trans rfl rfl
@[simp] theorem State.inc_stop (s : State) (a : Nat) : s.stop.inc a = (s.inc a).stop := Eq.trans rfl rfl
@[simp] theorem State.emit_stop (s : State) (o : Out) : s.stop.emit o = (s.emit o).stop := Eq.trans rfl rfl
@[simp] theorem State.pushUnit_stop (s : State) (n : Nat) (p : Part) (q : Bool) (bs : List Byte) :
    s.stop.pushUnit n p q bs = (s.pushUnit n p q bs).stop := Eq.trans rfl rfl
@[simp] theorem State.flag_stop (s : State) (f : Fld) : s.stop.flag f = (s.flag f).stop := Eq.trans rfl rfl
@[simp] theorem State.setPair_stop (s : State) (p : Nat) (v : Pair) : s.stop.setPair p v = (s.setPair p v).stop := Eq.trans rfl rfl
@[simp] theorem State.setArb_stop (s : State) (i : Nat) (a : Arb) : s.stop.setArb i a = (s.setArb i a).stop := Eq.trans rfl rfl
@[simp] theorem State.setTile_stop (s : State) (t : Nat) (v : Tile) : s.stop.setTile t v = (s.setTile t v).stop := Eq.trans rfl rfl
@[simp] theorem State.setPort_stop (s : State) (p : Nat) (v : PortSt) : s.stop.setPort p v = (s.setPort p v).stop := Eq.trans rfl rfl
@[simp] theorem State.setVword_stop (s : State) (w v : Nat) : s.stop.setVword w v = (s.setVword w v).stop := Eq.trans rfl rfl
@[simp] theorem State.setBankQ_stop (s : State) (b : Nat) (v : BankQ) : s.stop.setBankQ b v = (s.setBankQ b v).stop := Eq.trans rfl rfl
@[simp] theorem State.setTword_stop (s : State) (w v : Nat) : s.stop.setTword w v = (s.setTword w v).stop := Eq.trans rfl rfl
@[simp] theorem State.mapRel_stop (s : State) (h : Nat) (f : Release → Release) : s.stop.mapRel h f = (s.mapRel h f).stop := Eq.trans rfl rfl
@[simp] theorem State.readyAccept_stop (s : State) (e : TrigEntry) : s.stop.readyAccept e = (s.readyAccept e).stop := Eq.trans rfl rfl
@[simp] theorem State.arbReady_stop (s : State) (i : Nat) : s.stop.arbReady i = (s.arbReady i).stop := Eq.trans rfl rfl
@[simp] theorem State.dropCal_stop (s : State) (n : Nat) : s.stop.dropCal n = (s.dropCal n).stop := by simp [State.dropCal]
@[simp] theorem State.dropCals_stop (s : State) (ch : Nat) : s.stop.dropCals ch = (s.dropCals ch).stop := by simp [State.dropCals]
@[simp] theorem State.vaultErr_stop (s : State) (typ w syn : Nat) : s.stop.vaultErr typ w syn = (s.vaultErr typ w syn).stop := by
  simp [State.vaultErr]
@[simp] theorem State.arbReclass_stop (s : State) (i : Nat) : s.stop.arbReclass i = (s.arbReclass i).stop := by
  simp [State.arbReclass]

/-! Alerts and strikes. -/

@[simp] theorem State.logAlert_stop (s : State) (rec : List Byte) : s.stop.logAlert rec = (s.logAlert rec).stop := by
  simp [State.logAlert, ↓State.stop_mk]
@[simp] theorem State.sendAlert_stop (s : State) (v : Sev) (rec : List Byte) : s.stop.sendAlert v rec = (s.sendAlert v rec).stop := by
  simp [State.sendAlert, ↓State.stop_mk]
@[simp] theorem State.alert_stop (s : State) (v : Sev) (a b ut ui d : Nat) : s.stop.alert v a b ut ui d = (s.alert v a b ut ui d).stop := by
  simp [State.alert]
@[simp] theorem State.addStrike_stop (s : State) (ty ix : Nat) : s.stop.addStrike ty ix = (s.addStrike ty ix).stop := by
  simp [State.addStrike, ↓State.stop_mk]
@[simp] theorem State.retire_stop (s : State) (ty ix : Nat) : s.stop.retire ty ix = (s.retire ty ix).stop := by
  simp [State.retire, ↓State.stop_mk]

/-! Arbiters. -/

@[simp] theorem State.arbTurn_stop (s : State) (i : Nat) : s.stop.arbTurn i = (s.arbTurn i).stop := by simp [State.arbTurn]
@[simp] theorem State.arbCountMask_stop (s : State) (i : Nat) : s.stop.arbCountMask i = (s.arbCountMask i).stop := by
  simp [State.arbCountMask]
@[simp] theorem State.arbGrant_stop (s : State) (i : Nat) (q : ArbReq) : s.stop.arbGrant i q = (s.arbGrant i q).stop := by
  simp [State.arbGrant]
@[simp] theorem State.arbDecide_stop (s : State) (i : Nat) : s.stop.arbDecide i = (s.arbDecide i).stop := by
  simp only [State.arbDecide, State.arbTurn_stop, State.arbCountMask_stop, State.stop_arb, State.stop_arbNext]
  split <;> simp
@[simp] theorem State.arbJoin_stop (s : State) (i : Nat) (q : ArbReq) : s.stop.arbJoin i q = (s.arbJoin i q).stop := by
  simp [State.arbJoin]
@[simp] theorem State.arbSettle_stop (s : State) (i : Nat) : s.stop.arbSettle i = (s.arbSettle i).stop := by simp [State.arbSettle]
@[simp] theorem State.arbDrop_stop (s : State) (i r : Nat) : s.stop.arbDrop i r = (s.arbDrop i r).stop := by
  simp only [State.arbDrop, State.stop_arb]
  split <;> simp
@[simp] theorem State.arbRelease_stop (s : State) (i : Nat) : s.stop.arbRelease i = (s.arbRelease i).stop := by
  simp only [State.arbRelease, State.arbTurn_stop, State.arbCountMask_stop, State.stop_arb, State.stop_arbNext]
  split
  · split
    · simp
    · split <;> simp
  · rfl
@[simp] theorem State.bankOp_stop (s : State) (b r : Nat) : s.stop.bankOp b r = (s.bankOp b r).stop := by simp [State.bankOp]

/-! Frames. -/

@[simp] theorem State.takeKey_stop (s : State) (p : Nat) : s.stop.takeKey p = ((s.takeKey p).1, (s.takeKey p).2.stop) := by
  unfold State.takeKey
  simp only [State.stop_port]
  cases (s.port p).sess.txNew with
  | none => simp only [State.stop_port]; split <;> simp
  | some k => simp only [State.stop_get, State.setPort_stop, State.put_stop, State.stop_port]; split <;> simp
@[simp] theorem State.txFrame_stop (s : State) (p v typ stream : Nat) (bs : List Byte) :
    s.stop.txFrame p v typ stream bs = (s.txFrame p v typ stream bs).stop := by simp [State.txFrame]
@[simp] theorem State.controlGrant_stop (s : State) (p n : Nat) :
    s.stop.controlGrant p n = ((s.controlGrant p n).1, (s.controlGrant p n).2.stop) := by
  simp only [State.controlGrant, State.stop_arbitrated]
  split <;> simp
@[simp] theorem State.sendControl_stop (s : State) (p : Nat) (f : Nat × Nat × List Byte) :
    s.stop.sendControl p f = (s.sendControl p f).stop := by simp [State.sendControl]
@[simp] theorem State.controlDone_stop (s : State) (p : Nat) : s.stop.controlDone p = (s.controlDone p).stop := by simp [State.controlDone]
@[simp] theorem pumpFrom_stop (p k : Nat) (s : State) : pumpFrom p k s.stop = (pumpFrom p k s).stop := by
  induction k generalizing s with
  | zero => rfl
  | succ k ih =>
    simp only [pumpFrom, State.stop_nextControl]
    split
    · rfl
    · simp [ih]
@[simp] theorem State.pump_stop (s : State) (p : Nat) : s.stop.pump p = (s.pump p).stop := by simp [State.pump]
@[simp] theorem State.queueFrame_stop (s : State) (p v typ : Nat) (bs : List Byte) :
    s.stop.queueFrame p v typ bs = (s.queueFrame p v typ bs).stop := by simp [State.queueFrame]
@[simp] theorem State.sendVc1_stop (s : State) (p : Nat) (m : Vc1) : s.stop.sendVc1 p m = (s.sendVc1 p m).stop := by
  simp [State.sendVc1]

/-! The uplinks. -/

@[simp] theorem State.uplinkPoll_stop (s : State) (i : Nat) : s.stop.uplinkPoll i = (s.uplinkPoll i).stop := by
  simp only [State.uplinkPoll, State.stop_uplinkPort]
  split
  · rfl
  · simp
@[simp] theorem State.specReclass_stop (s : State) : s.stop.specReclass = s.specReclass.stop := by simp [State.specReclass]
@[simp] theorem nackAtOrigin_stop (m : SpecMsg) (s : State) : nackAtOrigin m s.stop = (nackAtOrigin m s).stop := by
  simp only [nackAtOrigin, State.stop_trg]
  split
  · rfl
  · split
    · split
      · split <;> simp
      · rfl
    · split <;> rfl
@[simp] theorem State.nackFragment_stop (s : State) (id : SpecId) : s.stop.nackFragment id = (s.nackFragment id).stop := by
  simp only [State.nackFragment, State.stop_on, State.stop_get, State.stop_routePort]
  split
  · simp
  · split <;> simp
@[simp] theorem State.freeBelow_stop (s : State) : s.stop.freeBelow = s.freeBelow.stop := by
  simp [State.freeBelow, ↓State.stop_mk]
@[simp] theorem State.uplinks_stop (s : State) : s.stop.uplinks = s.uplinks.stop := by simp [State.uplinks]

end Sys2Proof.Machine
end

section
/-! The same of vault, tally, capture, Facet and buffer, and of the way of a fragment. -/

namespace Sys2Proof.Machine

/-! The vault. -/

@[simp] theorem State.queueRow_stop (s : State) (row : Nat) : s.stop.queueRow row = (s.queueRow row).stop := by
  simp [State.queueRow, ↓State.stop_mk]
@[simp] theorem State.strikeRow_stop (s : State) (row : Nat) : s.stop.strikeRow row = (s.strikeRow row).stop := by
  simp [State.strikeRow]
@[simp] theorem State.noteCorrected_stop (s : State) (w : Nat) : s.stop.noteCorrected w = (s.noteCorrected w).stop := by
  simp only [State.noteCorrected, State.stop_vault, State.stop_rd]
  split <;> simp [↓State.stop_mk]
@[simp] theorem State.vaultSeen_stop (s : State) (w : Nat) (f : Found) : s.stop.vaultSeen w f = (s.vaultSeen w f).stop := by
  cases f <;> simp [State.vaultSeen]
@[simp] theorem State.vaultNote_stop (s : State) (w : Nat) (f : Found) : s.stop.vaultNote w f = (s.vaultNote w f).stop := by
  cases f <;> simp [State.vaultNote]
@[simp] theorem State.addEntry_stop (s : State) (e k : Nat) : s.stop.addEntry e k = (s.addEntry e k).stop := by
  simp only [State.addEntry, State.stop_vword]
  split <;> simp
@[simp] theorem serveBank_stop (b k : Nat) (s : State) : serveBank b k s.stop = (serveBank b k s).stop := by
  induction k generalizing s with
  | zero => rfl
  | succ k ih =>
    simp only [serveBank, State.stop_bankQ]
    split
    · rfl
    · simp [ih]
@[simp] theorem State.bankNow_stop (s : State) (b : Nat) : s.stop.bankNow b = (s.bankNow b).stop := by simp [State.bankNow]

/-! The tally. -/

@[simp] theorem State.incEntry_stop (s : State) (e : Nat) : s.stop.incEntry e = (s.incEntry e).stop := by
  simp only [State.incEntry, State.bankNow_stop, State.stop_bankQ]
  split
  · simp
  · split <;> simp [↓State.stop_mk]
@[simp] theorem State.addCounter_stop (s : State) (word lo w k : Nat) : s.stop.addCounter word lo w k = (s.addCounter word lo w k).stop := by
  simp only [State.addCounter, State.stop_tword]
  split <;> simp
@[simp] theorem tallyCount_stop (n slot fine tot : Nat) (s : State) : tallyCount n slot fine tot s.stop = (tallyCount n slot fine tot s).stop := by
  simp [tallyCount, ↓State.stop_mk]
@[simp] theorem tallyBuilt_stop (b : Built) (s : State) : tallyBuilt b s.stop = (tallyBuilt b s).stop := by
  simp [tallyBuilt]

/-! Capture. -/

@[simp] theorem State.tileDown_stop (s : State) (t : Nat) : s.stop.tileDown t = (s.tileDown t).stop := by
  simp [State.tileDown, ↓State.stop_mk]
@[simp] theorem State.strikeTile_stop (s : State) (t : Nat) : s.stop.strikeTile t = (s.strikeTile t).stop := by simp [State.strikeTile]
@[simp] theorem State.strikeColumn_stop (s : State) (c : Nat) : s.stop.strikeColumn c = (s.strikeColumn c).stop := by
  simp [State.strikeColumn]
@[simp] theorem State.closeStrikes_stop (s : State) (f : Frag) : s.stop.closeStrikes f = (s.closeStrikes f).stop := by
  simp [State.closeStrikes]
@[simp] theorem drainFrom_stop (k : Nat) (s : State) : drainFrom k s.stop = (drainFrom k s).stop := by
  induction k generalizing s with
  | zero => rfl
  | succ k ih =>
    simp only [drainFrom, State.stop_asm]
    split
    · rfl
    · simp [ih, ↓State.stop_mk]
@[simp] theorem State.drain_stop (s : State) : s.stop.drain = s.drain.stop := by simp [State.drain]
@[simp] theorem State.freeTiles_stop (s : State) : s.stop.freeTiles = s.freeTiles.stop := by
  simp only [State.freeTiles, State.stop_asm]
  split
  · rfl
  · simp [↓State.stop_mk]

/-! The way of a fragment. -/

@[simp] theorem takeClosed_stop (s : State) : takeClosed s.stop = (takeClosed s).stop := by
  simp [takeClosed, ↓State.stop_mk]
@[simp] theorem intoFacet_stop (k : Nat) (s : State) : intoFacet k s.stop = (intoFacet k s).stop := by
  induction k generalizing s with
  | zero => rfl
  | succ k ih =>
    simp only [intoFacet, State.stop_facet]
    split
    · rfl
    · simp [ih, ↓State.stop_mk]
@[simp] theorem State.enterBuffer_stop (s : State) (b : Built) (bs : List Byte) :
    s.stop.enterBuffer b bs = (s.enterBuffer b bs).map State.stop := by
  simp only [State.enterBuffer, State.stop_releaseOf, State.stop_fits]
  split
  · split
    · rfl
    · split <;> rfl
    · split
      · rfl
      · simp
  · split <;> rfl
@[simp] theorem intoBuffer_stop (k : Nat) (s : State) : intoBuffer k s.stop = (intoBuffer k s).stop := by
  induction k generalizing s with
  | zero => rfl
  | succ k ih =>
    simp only [intoBuffer, State.stop_facet, State.enterBuffer_stop]
    split
    · rfl
    · next j js _ =>
      split
      · rfl
      · next bs _ =>
        cases s.enterBuffer j.built bs with
        | none => rfl
        | some t => exact ih { t with facet := { t.facet with jobs := js } }

/-- The way of a fragment does not see the STOP. -/
theorem fragOut_stop (s : State) : fragOut s.stop = (fragOut s).stop := by simp [fragOut]

end Sys2Proof.Machine
end

section
/-! STOP from a ring while the die runs, and the commands of a ring together (R19, R20, R365–R368, R376, R386). -/

namespace Sys2Proof.Machine

theorem State.phaseBit_eq (s : State) (r ix : Nat) : s.phaseBit r ix = 1 - ix / 2 ^ s.ringLog2 r % 2 := Eq.trans rfl rfl

/-- The one command of a ring completes: its completion is written, the ring is empty, and its head has moved on (R365). -/
theorem completeCmd_alone {s u : State} {r : Nat} {c : HCmd} {st det dat : Nat} (hd : s.dmaOn = true) (hc : s.clasped = false)
    (hr : s.ringOn r = true) (hu : u = s.completeCmd r c.ix st det dat s.dieNo) (hcs : s.cmdsOf r = [c]) (hf : bitsOf c.flags 1 1 = 1) :
    u.cmdsOf r = [] ∧
    u.out = s.out ++ [.dmaWrite (s.descAddr r c.ix + 16) (leBytes 4 dat ++ leBytes 4 (det % 2 ^ 24) ++ leBytes 2 (s.dieNo % 1024) ++
      leBytes 2 c.tag ++ leBytes 2 0 ++ leBytes 1 st ++ leBytes 1 (1 - c.ix / 2 ^ s.ringLog2 r % 2))] ∧
    u.rd (Reg.RING_HEAD r) = (s.rd (Reg.RING_HEAD r) + 1) % 2 ^ 32 ∧ regsBut [Reg.RING_HEAD r] s u ∧
    u = { s with regs := u.regs, hif := { s.hif with cmds := u.hif.cmds }, out := u.out } := by
  obtain ⟨x, hx⟩ : ∃ x, x = (s.setPlace r c.ix (.done st det dat s.dieNo)).setCmds r [] := ⟨_, rfl⟩
  have hxrd : ∀ a, x.rd a = s.rd a := fun a => by rw [hx]; rfl
  have hxcmds : x.cmdsOf r = [] := by rw [hx, State.cmdsOf_setCmds, if_pos rfl]
  have hshape : x = { s with hif := { s.hif with cmds := x.hif.cmds } } := by rw [hx]; rfl
  have hxout : x.out = s.out := by rw [hx]; rfl
  rw [State.completeCmd_single st det dat hd hc hr hcs hf, ← hx, State.headUp] at hu
  refine ⟨?_, ?_, ?_, fun a ha => ?_, ?_⟩
  · rw [hu]
    exact hxcmds
  · rw [hu, State.emit, ← hxout, State.cmdBytes, State.phaseBit_eq]
    rfl
  · rw [hu]
    refine (State.rd_wr_same x _ _).trans ?_
    rw [hxrd, Nat.mod_mod]
  · have hne : a ≠ Reg.RING_HEAD r := fun h => ha (List.mem_singleton.mpr h)
    rw [hu]
    exact (State.rd_wr_other x _ _ a hne).trans (hxrd a)
  · rw [hu, hshape]
    rfl

/-- A STOP while the die runs waits inside for the end of the orbit (R20). -/
theorem stop_waits {s : State} {r : Nat} {c : HCmd} (ha : Awake s) (hread : s.hostReads = true) (hnext : s.nextCmd r = some c)
    (hmine : s.isMine c.die = true) (hop : c.op = 7) (hr : s.sys.run = .running) :
    ∃ t, exec (.stop (.ring r)) s = .next t ∧ t.sys = { s.sys with stopPend := true } ∧ t.time = s.time ∧
      (fragOut (s.setPlace r c.ix .inside) = s.setPlace r c.ix .inside →
        t.cmdsOf r = (s.setPlace r c.ix .inside).cmdsOf r ∧ t.out = s.out ∧ t.regs = s.regs) := by
  obtain ⟨x, hx⟩ : ∃ x, x = s.setPlace r c.ix .inside := ⟨_, rfl⟩
  have hcmd : cmdStop (.ring r) s = x.stop := by
    rw [hx]
    refine (State.command_accepted hread hnext hmine hop (by simp [hr, opAccepted]) _ _ s.roomFor_zero).trans ?_
    rw [if_neg (by simp [hr])]
    rfl
  have hst := fragOut_still x.stop
  have hsys : (fragOut x.stop).sys = s.sys.stop := by rw [State.sys_of_still hst, hx]; rfl
  have htime : (fragOut x.stop).time = s.time := by rw [State.time_of_still hst, hx]; rfl
  have hpend : (fragOut x.stop).pending = s.pending := by rw [State.pending_of_still hst, hx]; rfl
  refine ⟨fragOut x.stop, (congrArg (fun u => finish s (fragOut u)) hcmd).trans
    (finish_eq' ha (by rw [hsys]; rfl) (by rw [hsys]; rfl) (by rw [hsys]; rfl) hpend), hsys, htime, fun hfix => ?_⟩
  rw [← hx] at hfix ⊢
  rw [fragOut_stop, hfix, hx]
  exact ⟨rfl, rfl, rfl⟩

/-- Settles O45: a command completes through one rule, and each command meets the run state's test before its own. -/
theorem ringCommandsRunAndComplete : Obligations.RingCommandsRunAndComplete := by
  unfold Obligations.RingCommandsRunAndComplete
  intro s u r a v st det dat b c ha hi _ hca hcv
  subst hca hcv
  refine ⟨fun hd hc hr hu => ⟨completeCmd_alone hd hc hr hu, fun hcs hne hb => ?_⟩, ringCommands_idle ha,
    State.nextCmd_fenced, badOp_answers ha, fun hread hnext hmine => ?_⟩
  · obtain ⟨he, hcmds⟩ := State.completeCmd_behind st det dat hcs hne hb
    rw [← hu] at he hcmds
    exact ⟨hcmds, fun x _ => by rw [he]; rfl, by rw [he]; rfl⟩
  · refine ⟨nop_completes ha hi hread hnext hmine, fun hop h => h ▸ cfgRd_completes ha hi hread hnext hmine hop h,
      cfgRd_unaligned ha hi hread hnext hmine, fun hop h hr hv _ hheld => h ▸ cfgWr_scratch ha hread hnext hmine hop h hr rfl hv hheld,
      fun hop h hr _ _ => cfgWr_refused ha hread hnext hmine hop h hr,
      fun hop h h1 hroom => h ▸ cfgRdBlock_records ha hi hread hnext hmine hop h h1 hroom,
      cfgRdBlock_badArg ha hi hread hnext hmine, (records_wait ha hread hnext hmine).1, logRead_records ha hi hread hnext hmine,
      logRead_badArg ha hi hread hnext hmine, (records_wait ha hread hnext hmine).2, arm_arms ha hread hnext hmine,
      arm_feature ha hread hnext hmine,
      fun hop hr hdig hlock hcl hf hst hcold _ => arm_alone ha hread hnext hmine hop hr hdig hlock hcl hf hst hcold,
      arm_unfit ha hread hnext hmine, fun hop hr => arm_refused ha hread hnext hmine hop hi hr,
      disarm_readies ha hread hnext hmine, fun hop hr => disarm_refused ha hread hnext hmine hop hi hr,
      stop_waits ha hread hnext hmine, stop_fromHold ha hread hnext hmine,
      fun hop hr hh hfix => stop_refused ha hread hnext hmine hop hi hr hh hfix,
      fun hop hr h4 hv hret hm => readmit_column ha hread hnext hmine hop hr h4 rfl hv hret hm,
      readmit_badArg ha hread hnext hmine, readmit_refused ha hread hnext hmine⟩

end Sys2Proof.Machine
end

section
/-! QUIET_BEGIN at a die whose open window is recorded as one that begins later (R52): the entry extends the record and leaves its start. -/

namespace Sys2Proof.Machine

/-- A die locked to REFCLK in the slot of its QUIET_BEGIN entry 0, with QUIET set and the window of record beginning 4 slots ahead. -/
def quietAhead : State :=
  { sys := { run := .ready, readyBall := true }
    regs := [(Reg.ORB_CLK, 2), (Reg.ORB_STATUS, BitVec.ofNat 32 (2 ^ F.ORB_STATUS_PLL_LOCK.lo + 2 ^ F.ORB_STATUS_QUIET.lo))]
    time := { fRun := true, counting := true, len := 512, slots := 2, slot := 2, quiets := [(6, 10)], calLen := 1
              cal := [(0, 2 ^ 31 + 2 * 2 ^ 21 + 2)] } }

/-- Whether the present slot of the die that an outcome leaves lies in a window of record. -/
def quietNowAfter : Host.Outcome State Fault Refusal → Option Bool
  | .next t => some (t.quietAt t.time.slots)
  | _ => none

/-- The record now runs from slot 6 to the orbit's end, so slot 2 is in no window of record. -/
theorem quietNowAfter_quietAhead : quietNowAfter (exec (.quietBegin 0) quietAhead) = some false := by decide +kernel

/-- Refutes O15: a QUIET_BEGIN that fires with QUIET set keeps the start of the window of record, and where that start lies ahead the
entry's own slot is in no window. -/
theorem not_calendarEntriesFireAtTheirSlot : ¬ Obligations.CalendarEntriesFireAtTheirSlot := by
  rintro ⟨hquiet, -⟩
  have hawake : Awake quietAhead := ⟨by decide, by decide⟩
  obtain ⟨-, -, -, hopen, -⟩ := hquiet quietAhead quietAhead 0 hawake (by decide)
  obtain ⟨t, ht, -, hslots, -, -, hin⟩ := hopen (by decide) (by decide) (by decide)
  have hnow : t.quietAt quietAhead.time.slots = true := hin (by decide)
  have hout : some (t.quietAt t.time.slots) = some false := by rw [← quietNowAfter_quietAhead, ht]; rfl
  rw [hslots, hnow] at hout
  exact absurd hout (by decide)

end Sys2Proof.Machine
end

section
/-! Flags, and the die at a later moment as its registers show it (R32, R461). -/

namespace Sys2Proof.Machine

/-- A flag set is on, and one cleared is off. -/
theorem State.on_put_flag (s : State) {f : Fld} (hw : f.w = 1) (hf : f.lo + f.w ≤ 32) :
    (s.put f 1).on f = true ∧ (s.put f 0).on f = false := by
  simp [State.on, State.get_put_same _ _ _ hf, hw]

/-- A field write leaves the flags of its register beside the field alone. -/
theorem State.on_put_apart (s : State) {f g : Fld} (v : Nat) (h : g.lo + g.w ≤ f.lo ∨ f.lo + f.w ≤ g.lo) (hg : g.lo + g.w ≤ 32) :
    (s.put f v).on g = s.on g := by
  simp [State.on, State.get_put_apart s f g v h hg]

/-- A flag is read from its own register alone. -/
theorem State.on_congr {s t : State} {f : Fld} (h : t.rd f.reg = s.rd f.reg) : t.on f = s.on f := by
  simp [State.on, State.get, h]

/-- A register is its field of all 32 bits. -/
theorem State.rd_eq_get (s : State) (a : Nat) : s.rd a = s.get ⟨a, 0, 32⟩ := by
  exact ((congrArg (· % 2 ^ 32) (Nat.div_one _)).trans (Nat.mod_eq_of_lt (s.rd_lt a))).symm

/-- A signed number written is held in two's complement. -/
theorem State.rd_wrS_same (s : State) (a : Nat) (z : Int) : (s.wrS a z).rd a = ofSigned 32 z :=
  (State.rd_wr_same _ _ _).trans (Nat.mod_eq_of_lt (ofSigned_lt 32 z))

/-- At a later F-cycle, every register but the BUSY slots and the orbit's status reads as now. -/
theorem State.atF_rd {s u : State} {t : Nat} (h : s.atF t = some u) (a : Nat) (hb : a ≠ Reg.TRG_BUSY_SLOTS)
    (ho : a ≠ Reg.ORB_STATUS) : u.rd a = s.rd a := by
  obtain rfl | ⟨n, rfl⟩ := State.atF_elapse h
  · rfl
  · exact s.elapse_rd n a hb ho

/-- At a later F-cycle, every field of those registers reads as now. -/
theorem State.atF_get {s u : State} {t : Nat} (h : s.atF t = some u) (f : Fld) (hb : f.reg ≠ Reg.TRG_BUSY_SLOTS)
    (ho : f.reg ≠ Reg.ORB_STATUS) : u.get f = s.get f := by
  simp only [State.get, State.atF_rd h f.reg hb ho]

/-- At a later F-cycle, every flag of those registers stands as now. -/
theorem State.atF_on {s u : State} {t : Nat} (h : s.atF t = some u) (f : Fld) (hb : f.reg ≠ Reg.TRG_BUSY_SLOTS)
    (ho : f.reg ≠ Reg.ORB_STATUS) : u.on f = s.on f :=
  State.on_congr (State.atF_rd h f.reg hb ho)

end Sys2Proof.Machine
end

section
/-! The two-way exchange (R53–R55, R295, R298): PROBE, the parent's answers, and what they measure. -/

namespace Sys2Proof.Machine

/-- The die with an exchange begun on port `p`, its PROBE `sub` fine units into the F-cycle (R53, R298). -/
def State.probe (s : State) (p sub : Nat) : State :=
  (({ s with phase := { s.phase with
      nextSeq := (s.phase.nextSeq + 1) % 256
      exch := s.phase.exch ++ [{ seq := s.phase.nextSeq, port := p, t1 := s.stampHere sub, began := s.time.slots }] } } : State).setPort p
    { s.port p with probed := some s.exchangePeriod }).block p 0x87 s.phase.nextSeq

/-- A PROBE leaves at its moment, if one is due then and fewer than four exchanges are outstanding. -/
theorem exchangeStart_reached {s u : State} {p d : Nat} (hx : s.exchanges p = true) (hu : s.atF (s.fNow + d) = some u) (sub : Nat) :
    exchangeStart p d sub s =
      if 4 ≤ (u.phase.exch.filter (fun e => decide (e.port = p))).length ∨ u.exchangeDue p = false then u else u.probe p sub := by
  rw [exchangeStart, if_pos hx, State.ahead, State.reachF_at hu]
  rfl

/-- A port whose stamps are not taken begins no exchange. -/
theorem exchangeStart_idle {s : State} {p : Nat} (hx : s.exchanges p = false) (d sub : Nat) : exchangeStart p d sub s = s := by
  rw [exchangeStart, if_neg (by simp [hx])]

/-- The parent answers a PROBE with REPLY2 as it comes and with REPLY3 at its later moment, each with its stamp. -/
theorem probeReceived_answered {s u v : State} {p seq d sub d3 : Nat} (hk : s.portKind p = 3) (hf : s.time.fRun = true)
    (hs : 0 < s.portState p) (hu : s.atF (s.fNow + d) = some u)
    (hv : (u.block p 0x88 (seq % 256 + u.stampAtBall p sub * 256)).atF (u.fNow + d3) = some v) (t3 : Nat) :
    probeReceived p seq d sub d3 t3 s = v.block p 0x89 (seq % 256 + v.stampAtBall p t3 * 256) := by
  rw [probeReceived, if_pos ⟨hk, hf, hs⟩, State.ahead, State.reachF_at hu]
  exact State.reachF_at hv _

/-- A port that is no drift port, is DOWN or has no clock answers no PROBE. -/
theorem probeReceived_ignored {s : State} {p : Nat} (h : s.portKind p ≠ 3 ∨ s.time.fRun = false ∨ s.portState p = 0)
    (seq d sub d3 t3 : Nat) : probeReceived p seq d sub d3 t3 s = s := by
  rw [probeReceived, if_neg]
  rintro ⟨hk, hf, hs⟩
  rcases h with h | h | h
  · exact h hk
  · simp [h] at hf
  · omega

/-- An exchange that has ended is no longer outstanding. -/
theorem State.exchOf_dropExch (s : State) (p seq : Nat) : (s.dropExch p seq).exchOf p seq = none := by
  simp only [State.exchOf, State.dropExch, List.find?_eq_none, List.mem_filter, decide_eq_true_eq]
  exact fun e he => he.2

/-- The die after REPLY3 ends the exchange of SEQ `seq` on port `p` with its round trip; the offset is kept for the port's shaft unless
the child's phase moved (R54, R55). -/
def State.endExch (s : State) (p seq : Nat) (rtt theta : Int) (moved : Bool) : State :=
  { s with
    regs := if s.shaftPort = some p then (s.wrS Reg.ORB_PA_RTT rtt).regs else s.regs
    phase := { (s.dropExch p seq).phase with
      thetas := if s.shaftPort = some p ∧ moved = false then s.phase.thetas ++ [theta] else s.phase.thetas
      altThetas := if s.shaftPort ≠ some p ∧ moved = false then s.phase.altThetas ++ [theta] else s.phase.altThetas }
    ports := (s.setPort p { s.port p with rttSum := (s.port p).rttSum + rtt, rttCnt := (s.port p).rttCnt + 1 }).ports }

/-- REPLY3 ends its exchange at the moment it comes. -/
theorem reply3Received_reached {s u : State} {p seq t2 t3 d sub : Nat} {e : Exch} (he : s.exchOf p seq = some e) (h2 : e.t2 = some t2)
    (hu : s.atF (s.fNow + d) = some u) : reply3Received p seq t3 d sub s =
      u.endExch p seq (toSigned 32 (ofSigned 32 (stampDiff t2 e.t1 + stampDiff (u.stampHere sub) t3)))
        (16 * (stampDiff (u.stampHere sub) t3 - stampDiff t2 e.t1) - u.asymOf p) (u.moved e) := by
  simp only [reply3Received, he, h2, State.ahead, State.reachF_at hu, State.endExch]
  by_cases hp : u.shaftPort = some p <;> cases u.moved e <;>
    simp only [hp, ne_eq, not_true_eq_false, not_false_eq_true, Bool.false_eq_true, reduceCtorEq, and_true, and_false, if_true,
      if_false] <;> rfl

/-- What the exchange measured is added to its port. -/
theorem State.port_endExch (s : State) (p seq : Nat) (rtt theta : Int) (moved : Bool) : (s.endExch p seq rtt theta moved).port p =
    { s.port p with rttSum := (s.port p).rttSum + rtt, rttCnt := (s.port p).rttCnt + 1 } :=
  (State.port_congr (s := s.setPort p _) rfl p).trans (by simp)

/-- On the shaft in use ORB_PA_RTT takes the round trip; no other register changes. -/
theorem State.rd_endExch (s : State) (p seq : Nat) (rtt theta : Int) (moved : Bool) :
    (s.shaftPort = some p → (s.endExch p seq rtt theta moved).rd Reg.ORB_PA_RTT = ofSigned 32 rtt) ∧
    regsBut [Reg.ORB_PA_RTT] s (s.endExch p seq rtt theta moved) := by
  have hregs : (s.endExch p seq rtt theta moved).regs = if s.shaftPort = some p then (s.wrS Reg.ORB_PA_RTT rtt).regs else s.regs := rfl
  refine ⟨fun hp => ?_, fun a ha => ?_⟩
  · rw [if_pos hp] at hregs
    exact (State.rd_congr hregs _).trans (s.rd_wrS_same _ _)
  · split at hregs
    · exact (State.rd_congr hregs a).trans (State.rd_wr_other _ _ _ _ (by simpa using ha))
    · exact State.rd_congr hregs a

/-- What REPLY3 leaves: the exchange has ended, its round trip is counted, and its offset joins those of its shaft unless the phase moved. -/
theorem State.endExch_spec (s : State) (p seq : Nat) (rtt theta : Int) (moved : Bool) {t : State}
    (ht : t = s.endExch p seq rtt theta moved) :
    t.exchOf p seq = none ∧ (t.port p).rttSum = (s.port p).rttSum + rtt ∧ (t.port p).rttCnt = (s.port p).rttCnt + 1 ∧
    (s.shaftPort = some p → t.rd Reg.ORB_PA_RTT = ofSigned 32 rtt) ∧
    (s.shaftPort = some p → moved = false →
      t.phase.altThetas = s.phase.altThetas ∧ t.phase.thetas = s.phase.thetas ++ [theta]) ∧
    (s.shaftPort ≠ some p → moved = false →
      t.phase.thetas = s.phase.thetas ∧ t.phase.altThetas = s.phase.altThetas ++ [theta]) ∧
    (moved = true → t.phase.thetas = s.phase.thetas ∧ t.phase.altThetas = s.phase.altThetas) ∧
    regsBut [Reg.ORB_PA_RTT] s t ∧ t = { s with regs := t.regs, phase := t.phase, ports := t.ports } := by
  subst ht
  obtain ⟨hrtt, hregs⟩ := s.rd_endExch p seq rtt theta moved
  refine ⟨State.exchOf_dropExch s p seq, by rw [State.port_endExch], by rw [State.port_endExch], hrtt,
    fun hp hm => ⟨if_neg (by simp [hp]), if_pos ⟨hp, hm⟩⟩, fun hp hm => ⟨if_neg (by simp [hp]), if_pos ⟨hp, hm⟩⟩,
    fun hm => ⟨if_neg (by simp [hm]), if_neg (by simp [hm])⟩, hregs, rfl⟩

/-- An exchange without an answer is counted lost at its time-out. -/
theorem probeTimeout_reached {s u : State} {p seq : Nat} {e : Exch} (he : s.exchOf p seq = some e)
    (hu : s.atSlot (e.began + 256) = some u) :
    probeTimeout p seq s = (u.dropExch p seq).incBy (Reg.PORT_PROBE_LOST_CNT p) 1 := by
  simp only [probeTimeout, he, State.reachSlot_at hu, State.inc_eq]

/-- An answer to no exchange, and the time-out of none, change nothing. -/
theorem exchange_none {s : State} {p seq : Nat} (he : s.exchOf p seq = none) (t3 d sub : Nat) :
    probeTimeout p seq s = s ∧ reply3Received p seq t3 d sub s = s := by
  simp only [probeTimeout, reply3Received, he, and_self]

end Sys2Proof.Machine
end

section
/-! The servo of WALL and its sources (R69–R73, R358). -/

namespace Sys2Proof.Machine

/-! Alerts. -/

/-- An alert changes the registers of the log, of the sequence, of dropped alerts and of the fault status alone. -/
theorem State.alert_regsBut (s : State) (sev : Sev) (reg bit ut ui data : Nat) :
    regsBut [Reg.FAULT_ALERT_SEQ, Reg.FAULT_LOG_NEXT, Reg.FAULT_ALERT_DROP_CNT, Reg.FAULT_STATUS] s
      (s.alert sev reg bit ut ui data) := by
  intro a ha
  simp only [List.mem_cons, List.not_mem_nil, or_false, not_or] at ha
  obtain ⟨hseq, hlog, hcnt, hstat⟩ := ha
  rw [State.rd_eq_get, State.rd_eq_get]
  exact State.get_alert_other s sev reg bit ut ui data (f := ⟨a, 0, 32⟩) hlog hseq hcnt (.inl hstat) (Nat.le_refl 32)

/-- An alert changes registers, the fault log and the buffer. -/
theorem State.alert_frame (s : State) (sev : Sev) (reg bit ut ui data : Nat) :
    s.alert sev reg bit ut ui data = { s with
      regs := (s.alert sev reg bit ut ui data).regs
      fault := (s.alert sev reg bit ut ui data).fault
      buf := (s.alert sev reg bit ut ui data).buf } := by
  have hlogged : ∀ rec : List Byte, s.logAlert rec = { s with regs := (s.logAlert rec).regs, fault := (s.logAlert rec).fault } := by
    intro rec; unfold State.logAlert; dsimp only; split <;> rfl
  have hsent : ∀ (u : State) (rec : List Byte), u.sendAlert sev rec = { u with
      regs := (u.sendAlert sev rec).regs, fault := (u.sendAlert sev rec).fault, buf := (u.sendAlert sev rec).buf } := by
    intro u rec; unfold State.sendAlert; (repeat' split) <;> rfl
  unfold State.alert
  dsimp only
  rw [hsent, State.put, State.wr_frame, hlogged]

/-! WALL takes WALL_SET (R73). -/

/-- The value of WALL_SET, in units of WALL. -/
def State.wallSetting (s : State) : Nat :=
  ((s.rd Reg.WALL_SET + s.rd (Reg.WALL_SET + 4) % 2 ^ 16 * 2 ^ 32) * 1000000000 + s.rd (Reg.WALL_SET + 8) % 2 ^ 30) * 2 ^ 32

/-- WALL_SET is its three words. -/
theorem State.wallSetting_congr {s u : State} (h : ∀ a ∈ [Reg.WALL_SET, Reg.WALL_SET + 4, Reg.WALL_SET + 8], u.rd a = s.rd a) :
    u.wallSetting = s.wallSetting := by
  simp only [List.forall_mem_cons] at h
  obtain ⟨hlow, hhigh, hns, -⟩ := h
  unfold State.wallSetting
  rw [hlow, hhigh, hns]

/-- Time changes no word of WALL_SET. -/
theorem ne_of_mem_wallSet : ∀ {a : Nat}, a ∈ [Reg.WALL_SET, Reg.WALL_SET + 4, Reg.WALL_SET + 8] →
    a ≠ Reg.TRG_BUSY_SLOTS ∧ a ≠ Reg.ORB_STATUS := by
  intro a ha
  simp only [List.mem_cons, List.not_mem_nil, or_false] at ha
  rcases ha with rfl | rfl | rfl <;> decide

/-- WALL set to a number of its units, with STEPPED. -/
def State.wallTo (s : State) (n : Nat) : State := (s.setWall n).put F.WALL_STATUS_STEPPED 1

/-- The load of WALL_SET sets WALL to the setting. -/
theorem State.wallLoad_eq (s : State) : s.wallLoad = s.wallTo s.wallSetting := by
  unfold State.wallLoad State.wallSetting State.wallTo; rfl

/-- WALL set wraps with its seconds; STEPPED is set, and no other register changes. -/
theorem State.wallTo_spec (s : State) (n : Nat) :
    (s.wallTo n).wall = { s.wall with t := n % wallModulus } ∧ (s.wallTo n).on F.WALL_STATUS_STEPPED = true ∧
    regsBut [Reg.WALL_STATUS] s (s.wallTo n) ∧ s.wallTo n = { s with regs := (s.wallTo n).regs, wall := (s.wallTo n).wall } := by
  refine ⟨?_, (State.on_put_flag _ rfl (by decide)).1, fun a ha => State.rd_put_other _ _ _ _ (by simpa using ha), rfl⟩
  rw [State.wallTo, State.put_wall, State.setWall, ← Int.natCast_emod, Int.toNat_natCast]

/-- The load of WALL_SET sets WALL to the setting, with STEPPED, and changes no other register. -/
theorem State.wallLoad_spec (s : State) :
    s.wallLoad.wall = { s.wall with t := s.wallSetting % wallModulus } ∧ s.wallLoad.on F.WALL_STATUS_STEPPED = true ∧
    regsBut [Reg.WALL_STATUS] s s.wallLoad ∧ s.wallLoad = { s with regs := s.wallLoad.regs, wall := s.wallLoad.wall } := by
  rw [State.wallLoad_eq]
  exact s.wallTo_spec s.wallSetting

/-! The servo (R69, R72). -/

/-- The servo steps WALL by the offset `e` and starts its integral anew (R69). -/
def State.stepWall (s : State) (e : Int) : State :=
  let s1 := ((s.wrS Reg.WALL_OFFSET (roundDiv e (2 ^ 24))).setWall ((s.wall.t : Int) - e)).flag F.WALL_STATUS_STEPPED
  { s1 with wall := { s1.wall with fresh := false, integ := 0, integD := 1 } }

/-- The servo's integral after an update with offset `e` over an interval of `d` (R69). -/
def State.servoInteg (s : State) (e : Int) (d : Nat) : Int × Nat :=
  ratClamp (s.rd Reg.WALL_LIM) (s.wall.integ * d - s.get F.WALL_GAIN_KI * e * 65536 * s.wall.integD) (s.wall.integD * d)

/-- The rate that the servo sets with an update of offset `e` over an interval of `d` (R69). -/
def State.servoRate (s : State) (e : Int) (d : Nat) : Int × Nat :=
  ratClamp (s.rd Reg.WALL_LIM) ((s.servoInteg e d).1 * d - s.get F.WALL_GAIN_KP * e * 65536 * (s.servoInteg e d).2)
    ((s.servoInteg e d).2 * d)

/-- The servo steers WALL's rate by its offset `e` over an interval of `d` (R69). -/
def State.steerWall (s : State) (e : Int) (d : Nat) : State :=
  let s1 := (s.wrS Reg.WALL_OFFSET (roundDiv e (2 ^ 24))).wrS Reg.WALL_ADJ
    (roundDiv (s.servoRate e d).1 (s.servoRate e d).2)
  { s1 with wall := { s1.wall with integ := (s.servoInteg e d).1, integD := (s.servoInteg e d).2 } }

/-- The update is recorded, and LOCKED follows the run of good offsets (R72). -/
def State.judgeLock (s : State) (e : Int) : State :=
  let good := if decide (e.natAbs ≤ 8 * 4294967296) then min 4 (s.wall.good + 1) else 0
  let s1 := { s with wall := { s.wall with good := good, lastUpd := some s.time.now, srcLost := false } }
  if 64 * 4294967296 < e.natAbs then s1.unflag F.WALL_STATUS_LOCKED
  else if good = 4 then s1.flag F.WALL_STATUS_LOCKED
  else s1

/-- An update steps WALL where it is the first or beyond the step threshold, and steers it otherwise. -/
theorem State.servo_eq (s : State) (e : Int) (t : Nat) :
    s.servo e t = (if s.wall.fresh ∨ s.get F.WALL_STEP_THR_THR * 4294967296 < e.natAbs then s.stepWall e
      else s.steerWall e (atLeast1 t)).judgeLock e := by
  unfold State.servo
  split <;> rfl

/-- The judgement of LOCKED leaves WALL, its integral and every other bit as they are. -/
theorem State.judgeLock_spec (s : State) (e : Int) :
    (s.judgeLock e).wall = { s.wall with good := (s.judgeLock e).wall.good, lastUpd := some s.time.now, srcLost := false } ∧
    (s.judgeLock e).on F.WALL_STATUS_STEPPED = s.on F.WALL_STATUS_STEPPED ∧ regsBut [Reg.WALL_STATUS] s (s.judgeLock e) ∧
    s.judgeLock e = { s with regs := (s.judgeLock e).regs, wall := (s.judgeLock e).wall } := by
  have hstep : ∀ (u : State) (v : Nat), (u.put F.WALL_STATUS_LOCKED v).on F.WALL_STATUS_STEPPED = u.on F.WALL_STATUS_STEPPED :=
    fun u v => u.on_put_apart v (by decide) (by decide)
  have hother : ∀ (u : State) (v a : Nat), a ∉ [Reg.WALL_STATUS] → (u.put F.WALL_STATUS_LOCKED v).rd a = u.rd a :=
    fun u v a ha => State.rd_put_other _ _ _ _ (by simpa using ha)
  unfold State.judgeLock
  extract_lets good _ s1
  split
  · exact ⟨rfl, hstep s1 0, hother s1 0, rfl⟩
  · split
    · exact ⟨rfl, hstep s1 1, hother s1 1, rfl⟩
    · exact ⟨rfl, rfl, fun _ _ => rfl, rfl⟩

/-- What a step leaves. -/
theorem State.stepWall_spec (s : State) (e : Int) :
    (s.stepWall e).wall = { s.wall with
      t := (((s.wall.t : Int) - e) % (wallModulus : Int)).toNat, fresh := false, integ := 0, integD := 1 } ∧
    (s.stepWall e).on F.WALL_STATUS_STEPPED = true ∧ (s.stepWall e).rd Reg.WALL_OFFSET = ofSigned 32 (roundDiv e (2 ^ 24)) ∧
    regsBut [Reg.WALL_OFFSET, Reg.WALL_STATUS] s (s.stepWall e) ∧
    s.stepWall e = { s with regs := (s.stepWall e).regs, wall := (s.stepWall e).wall } := by
  refine ⟨rfl, (State.on_put_flag _ rfl (by decide)).1, ?_, fun a ha => ?_, rfl⟩
  · exact (State.rd_put_other _ F.WALL_STATUS_STEPPED 1 _ (by decide)).trans (s.rd_wrS_same _ _)
  · simp only [List.mem_cons, List.not_mem_nil, or_false, not_or] at ha
    exact (State.rd_put_other _ F.WALL_STATUS_STEPPED 1 _ ha.2).trans (State.rd_wr_other _ _ _ _ ha.1)

/-- What a change of rate leaves. -/
theorem State.steerWall_spec (s : State) (e : Int) (d : Nat) :
    (s.steerWall e d).wall = { s.wall with integ := (s.servoInteg e d).1, integD := (s.servoInteg e d).2 } ∧
    (s.steerWall e d).rd Reg.WALL_OFFSET = ofSigned 32 (roundDiv e (2 ^ 24)) ∧
    regsBut [Reg.WALL_OFFSET, Reg.WALL_ADJ] s (s.steerWall e d) ∧
    s.steerWall e d = { s with regs := (s.steerWall e d).regs, wall := (s.steerWall e d).wall } := by
  refine ⟨rfl, ?_, fun a ha => ?_, rfl⟩
  · exact (State.rd_wr_other _ Reg.WALL_ADJ _ _ (by decide)).trans (s.rd_wrS_same _ _)
  · simp only [List.mem_cons, List.not_mem_nil, or_false, not_or] at ha
    exact (State.rd_wr_other _ Reg.WALL_ADJ _ _ ha.2).trans (State.rd_wr_other _ _ _ _ ha.1)

/-- An update that steps: WALL moves by the offset, the integral starts anew and WALL_ADJ stays. -/
theorem State.servo_steps {s : State} {e : Int} (h : s.wall.fresh = true ∨ s.get F.WALL_STEP_THR_THR * 4294967296 < e.natAbs) (t : Nat) :
    ((s.servo e t).wall.t : Int) = ((s.wall.t : Int) - e) % (wallModulus : Int) ∧ (s.servo e t).on F.WALL_STATUS_STEPPED = true ∧
    (s.servo e t).wall.integ = 0 ∧ (s.servo e t).rd Reg.WALL_ADJ = s.rd Reg.WALL_ADJ := by
  obtain ⟨hw, hst, -, hregs, -⟩ := s.stepWall_spec e
  obtain ⟨hw', hst', hregs', -⟩ := (s.stepWall e).judgeLock_spec e
  rw [State.servo_eq, if_pos h, hst', hst, hw', hw, hregs' _ (by decide), hregs _ (by decide)]
  refine ⟨?_, rfl, rfl, rfl⟩
  exact Int.toNat_of_nonneg (Int.emod_nonneg _ (by decide))

/-- An update that steers leaves WALL as it is. -/
theorem State.servo_steers {s : State} {e : Int} (hf : s.wall.fresh = false)
    (he : e.natAbs ≤ s.get F.WALL_STEP_THR_THR * 4294967296) (t : Nat) : (s.servo e t).wall.t = s.wall.t := by
  obtain ⟨hw, -⟩ := (s.steerWall e (atLeast1 t)).judgeLock_spec e
  rw [State.servo_eq, if_neg (by simp [hf, he]), hw]
  rfl

/-- What every update leaves: the record of it, WALL_OFFSET, and all but the servo's registers. -/
theorem State.servo_spec (s : State) (e : Int) (t : Nat) :
    (s.servo e t).wall = { s.wall with
      t := (s.servo e t).wall.t, integ := (s.servo e t).wall.integ, integD := (s.servo e t).wall.integD
      good := (s.servo e t).wall.good, fresh := false, lastUpd := some s.time.now, srcLost := false } ∧
    (s.servo e t).rd Reg.WALL_OFFSET = ofSigned 32 (roundDiv e (2 ^ 24)) ∧
    regsBut [Reg.WALL_OFFSET, Reg.WALL_STATUS, Reg.WALL_ADJ] s (s.servo e t) ∧
    s.servo e t = { s with regs := (s.servo e t).regs, wall := (s.servo e t).wall } := by
  rw [State.servo_eq]
  split
  case isTrue =>
    obtain ⟨hw, -, hofs, hregs, hfr⟩ := s.stepWall_spec e
    obtain ⟨hw', -, hregs', hfr'⟩ := (s.stepWall e).judgeLock_spec e
    refine ⟨?_, (hregs' _ (by decide)).trans hofs, fun a ha => ?_, ?_⟩
    · rw [hw', hw]; rfl
    · simp only [List.mem_cons, List.not_mem_nil, or_false, not_or] at ha
      exact (hregs' a (by simp [ha])).trans (hregs a (by simp [ha]))
    · exact hfr'.trans (by rw [hfr])
  case isFalse h =>
    obtain ⟨hfresh, -⟩ := not_or.mp h
    obtain ⟨hw, hofs, hregs, hfr⟩ := s.steerWall_spec e (atLeast1 t)
    obtain ⟨hw', -, hregs', hfr'⟩ := (s.steerWall e (atLeast1 t)).judgeLock_spec e
    refine ⟨?_, (hregs' _ (by decide)).trans hofs, fun a ha => ?_, ?_⟩
    · rw [hw', hw, ← Bool.not_eq_true _ |>.mp hfresh]; rfl
    · simp only [List.mem_cons, List.not_mem_nil, or_false, not_or] at ha
      exact (hregs' a (by simp [ha])).trans (hregs a (by simp [ha]))
    · exact hfr'.trans (by rw [hfr])

/-! The sources (R70, R71, R358). -/

/-- A PPS edge with SET_AT_PPS pending loads WALL_SET and counts as accepted (R73; log 86). -/
theorem ppsEdge_sets {s u : State} {d : Nat} (hf : s.time.fRun = true) (hu : s.atF (s.fNow + d) = some u)
    (hset : u.wall.setAtPps = true) :
    ppsEdge d s = { u.wallLoad with wall := { u.wallLoad.wall with setAtPps := false, sinceAcc := 0 } } := by
  rw [ppsEdge, if_pos hf, State.ahead, State.reachF_at hu, if_pos hset]

/-- A PPS edge outside the window of a locked servo is counted alone (R71). -/
theorem ppsEdge_rejected {s u : State} {d : Nat} (hf : s.time.fRun = true) (hu : s.atF (s.fNow + d) = some u)
    (hset : u.wall.setAtPps = false) (hsrc : u.get F.WALL_SERVO_SRC = 2) (hlock : u.on F.WALL_STATUS_LOCKED = true)
    (hwin : u.get F.WALL_PPS_WIN_WIN * 4294967296 < u.ppsOffset.natAbs) : ppsEdge d s = u.incBy Reg.WALL_PPS_REJ_CNT 1 := by
  rw [ppsEdge, if_pos hf, State.ahead, State.reachF_at hu, if_neg (by simp [hset]), if_neg (not_not.mpr hsrc),
    if_pos ⟨hlock, hwin⟩, State.inc_eq]

/-- Any other PPS edge updates the servo (R70). -/
theorem ppsEdge_updates {s u : State} {d : Nat} (hf : s.time.fRun = true) (hu : s.atF (s.fNow + d) = some u)
    (hset : u.wall.setAtPps = false) (hsrc : u.get F.WALL_SERVO_SRC = 2)
    (hwin : ¬(u.on F.WALL_STATUS_LOCKED = true ∧ u.get F.WALL_PPS_WIN_WIN * 4294967296 < u.ppsOffset.natAbs)) :
    ∃ n, ppsEdge d s = { u.servo u.ppsOffset n with wall := { (u.servo u.ppsOffset n).wall with sinceAcc := 0 } } := by
  rw [ppsEdge, if_pos hf, State.ahead, State.reachF_at hu, if_neg (by simp [hset]), if_neg (not_not.mpr hsrc), if_neg hwin]
  exact ⟨_, rfl⟩

/-- Where PPS is not the source, an edge with nothing to set does nothing. -/
theorem ppsEdge_ignored {s u : State} {d : Nat} (hf : s.time.fRun = true) (hu : s.atF (s.fNow + d) = some u)
    (hset : u.wall.setAtPps = false) (hsrc : u.get F.WALL_SERVO_SRC ≠ 2) : ppsEdge d s = u := by
  rw [ppsEdge, if_pos hf, State.ahead, State.reachF_at hu, if_neg (by simp [hset]), if_pos hsrc]

/-- The die with its source lost, before the alert (R71, R72). -/
def State.lostSource (s : State) : State :=
  { (s.put F.WALL_STATUS_SRC_LOST 1).put F.WALL_STATUS_LOCKED 0 with
    wall := { s.wall with good := 0, fresh := true, srcLost := true } }

/-- The loss of the source raises an alert on SRC_LOST. -/
theorem State.servoLost_eq (s : State) :
    s.servoLost = s.lostSource.alert .warn F.WALL_STATUS_SRC_LOST.reg F.WALL_STATUS_SRC_LOST.lo 0 0 0 := rfl

/-- What the loss of the source changes: SRC_LOST is set with its alert, LOCKED clears, and the next update is a first one. -/
theorem State.servoLost_spec (s : State) :
    s.servoLost.on F.WALL_STATUS_SRC_LOST = true ∧ s.servoLost.on F.WALL_STATUS_LOCKED = false ∧
    s.servoLost.wall = { s.wall with good := 0, fresh := true, srcLost := true } ∧
    regsBut [Reg.WALL_STATUS, Reg.FAULT_ALERT_SEQ, Reg.FAULT_LOG_NEXT, Reg.FAULT_ALERT_DROP_CNT, Reg.FAULT_STATUS] s s.servoLost ∧
    s.servoLost = { s with
      regs := s.servoLost.regs, wall := s.servoLost.wall, fault := s.servoLost.fault, buf := s.servoLost.buf } := by
  have hregs := s.lostSource.alert_regsBut .warn F.WALL_STATUS_SRC_LOST.reg F.WALL_STATUS_SRC_LOST.lo 0 0 0
  have hfr := s.lostSource.alert_frame .warn F.WALL_STATUS_SRC_LOST.reg F.WALL_STATUS_SRC_LOST.lo 0 0 0
  have hwall := congrArg State.wall hfr
  rw [State.servoLost_eq]
  refine ⟨?_, ?_, hwall, fun a ha => ?_, hfr.trans (by rw [hwall]; rfl)⟩
  · rw [State.on_congr (hregs _ (by decide))]
    exact (State.on_put_apart _ 0 (by decide) (by decide)).trans (s.on_put_flag rfl (by decide)).1
  · rw [State.on_congr (hregs _ (by decide))]
    exact (State.on_put_flag _ rfl (by decide)).2
  · simp only [List.mem_cons, List.not_mem_nil, or_false, not_or] at ha
    obtain ⟨hwall, hrest⟩ := ha
    refine (hregs a (by simpa using hrest)).trans ?_
    exact (State.rd_put_other _ F.WALL_STATUS_LOCKED 0 a hwall).trans (State.rd_put_other s F.WALL_STATUS_SRC_LOST 1 a hwall)

/-- A source is silent after 2 s of PPS, or 4 periods of PTM (R71). -/
theorem State.srcSilent_iff (s : State) : s.srcSilent = true ↔
    (s.get F.WALL_SERVO_SRC = 2 ∧ 2 * secUnit ≤ s.wall.sinceAcc) ∨ (s.get F.WALL_SERVO_SRC = 3 ∧ 4 * s.ptmPeriod ≤ s.wall.ptmHeard) := by
  simp only [State.srcSilent, Bool.or_eq_true, Bool.and_eq_true, decide_eq_true_eq]

/-- A PTM request is due where none has been sent within the period. -/
theorem ptmRequest_due {s : State} (hroot : s.isRoot = true) (hsrc : s.get F.WALL_SERVO_SRC = 3)
    (hen : s.on F.HIF_STATUS_PTM_EN = true) (hage : s.wall.ptmAge.all (fun n => decide (s.ptmPeriod ≤ n)) = true) :
    ptmRequest s = { s with wall := { s.wall with ptmOut := some s.wall.t, ptmAge := some 0 }, out := s.out ++ [.ptm] } := by
  cases h : s.wall.ptmAge with
  | none => simp [ptmRequest, hroot, hsrc, hen, h, State.emit]
  | some n =>
    have hdue : s.ptmPeriod ≤ n := by simpa [h] using hage
    simp [ptmRequest, hroot, hsrc, hen, h, hdue, State.emit]

/-- Within the period of a PTM request no other leaves. -/
theorem ptmRequest_early {s : State} (hage : s.wall.ptmAge.any (fun n => decide (n < s.ptmPeriod)) = true) : ptmRequest s = s := by
  rw [ptmRequest, if_neg]
  rintro ⟨-, -, -, hdue⟩
  cases h : s.wall.ptmAge with
  | none => simp [h] at hage
  | some n => simp [h] at hage hdue; omega

end Sys2Proof.Machine
end

section
/-! Exchanges and the sources of WALL as commands of an awake die (R53–R55, R69–R73, R298, R358). -/

namespace Sys2Proof.Machine

variable {s u v : State}

/-! The exchange. -/

/-- EXCHANGE_START: a PROBE leaves at its moment where one is due, and none leaves a port whose stamps are not taken. -/
theorem exec_exchangeStart (ha : Awake s) (p d sub : Nat) :
    (s.exchanges p = true → s.atF (s.fNow + d) = some u →
      exec (.exchangeStart p d sub) s =
        .next (if 4 ≤ (u.phase.exch.filter (fun e => decide (e.port = p))).length ∨ u.exchangeDue p = false then u else u.probe p sub)) ∧
    (s.exchanges p = false → exec (.exchangeStart p d sub) s = .next s) := by
  refine ⟨fun hx hu => ?_, fun hx => ?_⟩
  · refine (congrArg (finish s) (exchangeStart_reached hx hu sub)).trans ?_
    split
    · exact finish_at ha (State.atF_sys hu) rfl rfl
    · exact finish_at ha (State.atF_sys hu) rfl rfl
  · exact (congrArg (finish s) (exchangeStart_idle hx d sub)).trans (finish_eq ha rfl rfl)

/-- The probe of a port leaves its exchange and the period in which it began. -/
theorem State.probe_port (s : State) (p sub : Nat) : ((s.probe p sub).port p).probed = some s.exchangePeriod := by
  have hport : (s.probe p sub).port p = { s.port p with probed := some s.exchangePeriod } :=
    (State.port_congr (s := s.setPort p { s.port p with probed := some s.exchangePeriod }) rfl p).trans (by simp)
  rw [hport]

/-- PROBE_RECEIVED at a drift port ends with REPLY3 on the port, at the second answer's moment. -/
theorem exec_probeReceived (ha : Awake s) {p seq d sub d3 : Nat} (hk : s.portKind p = 3) (hf : s.time.fRun = true)
    (hs : 0 < s.portState p) (hu : s.atF (s.fNow + d) = some u)
    (hv : (u.block p 0x88 (seq % 256 + u.stampAtBall p sub * 256)).atF (u.fNow + d3) = some v) (t3 : Nat) :
    exec (.probeReceived p seq d sub d3 t3) s = .next (v.block p 0x89 (seq % 256 + v.stampAtBall p t3 * 256)) := by
  obtain ⟨hsys, hpend⟩ := State.atF_sys hu
  obtain ⟨hsys', hpend'⟩ := State.atF_sys hv
  exact (congrArg (finish s) (probeReceived_answered hk hf hs hu hv t3)).trans
    (finish_at ha ⟨hsys'.trans hsys, hpend'.trans hpend⟩ rfl rfl)

/-- REPLY3_RECEIVED ends an exchange that has its t2. -/
theorem exec_reply3Received (ha : Awake s) {p seq t2 d : Nat} {e : Exch} (he : s.exchOf p seq = some e) (h2 : e.t2 = some t2)
    (hu : s.atF (s.fNow + d) = some u) (t3 sub : Nat) : exec (.reply3Received p seq t3 d sub) s =
      .next (u.endExch p seq (toSigned 32 (ofSigned 32 (stampDiff t2 e.t1 + stampDiff (u.stampHere sub) t3)))
        (16 * (stampDiff (u.stampHere sub) t3 - stampDiff t2 e.t1) - u.asymOf p) (u.moved e)) :=
  (congrArg (finish s) (reply3Received_reached he h2 hu)).trans (finish_at ha (State.atF_sys hu) rfl rfl)

/-- PROBE_TIMEOUT counts an exchange that is outstanding as lost. -/
theorem exec_probeTimeout (ha : Awake s) {p seq : Nat} {e : Exch} (he : s.exchOf p seq = some e)
    (hu : s.atSlot (e.began + 256) = some u) :
    exec (.probeTimeout p seq) s = .next ((u.dropExch p seq).incBy (Reg.PORT_PROBE_LOST_CNT p) 1) :=
  (congrArg (finish s) (probeTimeout_reached he hu)).trans (finish_at ha (State.atSlot_sys hu) rfl rfl)

/-! WALL. -/

/-- PPS_EDGE ends in what the edge does at its moment. -/
theorem exec_ppsEdge (ha : Awake s) {d : Nat} (hu : s.atF (s.fNow + d) = some u) {t : State} (h : ppsEdge d s = t)
    (hsys : t.sys = u.sys) (hpend : t.pending = u.pending) : exec (.ppsEdge d) s = .next t :=
  (congrArg (finish s) h).trans (finish_at ha (State.atF_sys hu) hsys hpend)

/-- A PPS edge with SET_AT_PPS pending takes WALL_SET (R73; log 86). -/
theorem ppsEdge_setting (ha : Awake s) {d : Nat} (hf : s.time.fRun = true) (hu : s.atF (s.fNow + d) = some u)
    (hset : u.wall.setAtPps = true) : ∃ t, exec (.ppsEdge d) s = .next t ∧ t.wall.t = s.wallSetting % wallModulus ∧
      t.wall = { u.wall with t := t.wall.t, setAtPps := false, sinceAcc := 0 } ∧ t.on F.WALL_STATUS_STEPPED = true ∧
      regsBut [Reg.WALL_STATUS] u t ∧ t = { u with regs := t.regs, wall := t.wall } := by
  have hsame : u.wallSetting = s.wallSetting :=
    State.wallSetting_congr fun a ha => State.atF_rd hu a (ne_of_mem_wallSet ha).1 (ne_of_mem_wallSet ha).2
  obtain ⟨hw, hst, hregs, hfr⟩ := u.wallLoad_spec
  rw [hsame] at hw
  obtain ⟨x, hx⟩ : ∃ x, x = u.wallLoad := ⟨_, rfl⟩
  have hsets := ppsEdge_sets hf hu hset
  rw [← hx] at hw hst hregs hfr hsets
  generalize s.wallSetting % wallModulus = m at hw ⊢
  refine ⟨_, exec_ppsEdge ha hu hsets (by rw [hfr]) (by rw [hfr]), ?_, ?_, (State.on_congr (State.rd_congr rfl _)).trans hst,
    fun a ha => (State.rd_congr rfl a).trans (hregs a ha), by rw [hfr]⟩
  · rw [hw]
  · rw [hw]

/-- A PPS edge within the window, or of a servo that is not locked, updates the servo (R69–R71). -/
theorem ppsEdge_updating (ha : Awake s) {d : Nat} (hf : s.time.fRun = true) (hu : s.atF (s.fNow + d) = some u)
    (hset : u.wall.setAtPps = false) (hsrc : s.get F.WALL_SERVO_SRC = 2)
    (hwin : s.on F.WALL_STATUS_LOCKED = false ∨ u.ppsOffset.natAbs ≤ s.get F.WALL_PPS_WIN_WIN * 4294967296) :
    ∃ t, exec (.ppsEdge d) s = .next t ∧
      ((u.wall.fresh = true ∨ s.get F.WALL_STEP_THR_THR * 4294967296 < u.ppsOffset.natAbs) →
        (t.wall.t : Int) = ((u.wall.t : Int) - u.ppsOffset) % (wallModulus : Int) ∧ t.on F.WALL_STATUS_STEPPED = true ∧
        t.wall.integ = 0 ∧ t.rd Reg.WALL_ADJ = u.rd Reg.WALL_ADJ) ∧
      (u.wall.fresh = false → u.ppsOffset.natAbs ≤ s.get F.WALL_STEP_THR_THR * 4294967296 → t.wall.t = u.wall.t) ∧
      t.wall.fresh = false ∧ t.wall.sinceAcc = 0 ∧ t.wall.srcLost = false ∧ t.wall.lastUpd = some u.time.now ∧
      t.rd Reg.WALL_OFFSET = ofSigned 32 (roundDiv u.ppsOffset (2 ^ 24)) ∧
      regsBut [Reg.WALL_OFFSET, Reg.WALL_STATUS, Reg.WALL_ADJ] u t ∧ t = { u with regs := t.regs, wall := t.wall } := by
  have hsrc' : u.get F.WALL_SERVO_SRC = 2 := (State.atF_get hu _ (by decide) (by decide)).trans hsrc
  have hlock : u.on F.WALL_STATUS_LOCKED = s.on F.WALL_STATUS_LOCKED := State.atF_on hu _ (by decide) (by decide)
  have hw : u.get F.WALL_PPS_WIN_WIN = s.get F.WALL_PPS_WIN_WIN := State.atF_get hu _ (by decide) (by decide)
  have hthr : u.get F.WALL_STEP_THR_THR = s.get F.WALL_STEP_THR_THR := State.atF_get hu _ (by decide) (by decide)
  obtain ⟨n, hn⟩ := ppsEdge_updates hf hu hset hsrc' (by
    rw [hlock, hw]
    rintro ⟨hl, hgt⟩
    rcases hwin with h | h
    · simp [h] at hl
    · omega)
  obtain ⟨hwall, hofs, hregs, hfr⟩ := u.servo_spec u.ppsOffset n
  refine ⟨_, exec_ppsEdge ha hu hn (by rw [hfr]) (by rw [hfr]), fun h => ?_, fun hfresh hle => ?_, ?_, rfl, ?_, ?_, hofs, hregs,
    by rw [hfr]⟩
  · exact State.servo_steps (by rw [hthr]; exact h) n
  · exact State.servo_steers hfresh (by rw [hthr]; exact hle) n
  all_goals rw [hwall]

/-- With PTM as the source, the response to a request updates the servo (R70). -/
theorem ptmResponse_updating (ha : Awake s) {w : Nat} (hout : s.wall.ptmOut = some w) (hsrc : s.get F.WALL_SERVO_SRC = 3) (sec ns : Nat) :
    ∃ t, exec (.ptmResponse sec ns) s = .next t ∧ t.wall.ptmOut = none ∧ t.wall.ptmHeard = 0 ∧ t.wall.fresh = false ∧
      t.wall.srcLost = false ∧
      (s.wall.fresh = true → (t.wall.t : Int) = ((s.wall.t : Int) - ((w : Int) - (sec * 1000000000 + ns) * 4294967296)) % (wallModulus : Int) ∧
        t.on F.WALL_STATUS_STEPPED = true) ∧
      regsBut [Reg.WALL_OFFSET, Reg.WALL_STATUS, Reg.WALL_ADJ] s t ∧ t = { s with regs := t.regs, wall := t.wall } := by
  obtain ⟨x, hx⟩ : ∃ x : State, x = { s with wall := { s.wall with ptmOut := none, ptmHeard := 0 } } := ⟨_, rfl⟩
  obtain ⟨e, he⟩ : ∃ e : Int, e = (w : Int) - (sec * 1000000000 + ns) * 4294967296 := ⟨_, rfl⟩
  have hresp : ptmResponse sec ns s = x.servo e (s.ptmPeriod * s.orbitSpan) := by
    simp only [ptmResponse, hout, hsrc, if_true, hx, he]
  obtain ⟨hwall, -, hregs, hfr⟩ := x.servo_spec e (s.ptmPeriod * s.orbitSpan)
  refine ⟨_, (congrArg (finish s) hresp).trans (finish_eq ha (by rw [hfr, hx]) (by rw [hfr, hx])), ?_, ?_, ?_, ?_, fun hfresh => ?_,
    fun a h => ?_, ?_⟩
  · rw [hwall, hx]
  · rw [hwall, hx]
  · rw [hwall]
  · rw [hwall]
  · obtain ⟨ht, hst, -⟩ := State.servo_steps (s := x) (e := e) (.inl (by rw [hx]; exact hfresh)) (s.ptmPeriod * s.orbitSpan)
    rw [← he]
    exact ⟨ht.trans (by rw [hx]), hst⟩
  · exact (hregs a h).trans (State.rd_congr (by rw [hx]) a)
  · exact hfr.trans (by rw [hx])

/-- WALL_SRC_LOST takes effect once, at a source that is silent (R71). -/
theorem exec_wallSrcLost (ha : Awake s) :
    (s.srcSilent = true → s.wall.srcLost = false → exec .wallSrcLost s = .next s.servoLost) ∧
    (s.srcSilent = false ∨ s.wall.srcLost = true → exec .wallSrcLost s = .next s) := by
  refine ⟨fun hs hl => ?_, fun h => ?_⟩
  · obtain ⟨-, -, -, -, hfr⟩ := s.servoLost_spec
    exact (congrArg (finish s) (if_pos ⟨hs, hl⟩)).trans (finish_eq ha (by rw [hfr]) (by rw [hfr]))
  · refine (congrArg (finish s) (if_neg ?_)).trans (finish_eq ha rfl rfl)
    rintro ⟨hs, hl⟩
    rcases h with h | h
    · simp [h] at hs
    · simp [h] at hl

end Sys2Proof.Machine
end

section
/-! The exchange and the sources of WALL together (R53–R55, R69–R73, R295, R298, R358). -/

namespace Sys2Proof.Machine

/-- Settles O16: each command acts on the die at its moment, the exchange by what it measures and WALL by what the servo makes of its
offset. -/
theorem exchangesAndWallSourcesMeasure : Obligations.ExchangesAndWallSourcesMeasure := by
  unfold Obligations.ExchangesAndWallSourcesMeasure
  refine ⟨fun s u v p seq d sub d3 t2 t3 e ha => ?_, fun s u d w sec ns ha => ?_⟩
  · refine ⟨fun hx hu hfew hdue => ?begins, fun hx hu hno => ?waits, (exec_exchangeStart (u := u) ha p d sub).2,
      fun hk hf hs hu hv => ⟨_, exec_probeReceived ha hk hf hs hu hv t3, rfl⟩,
      fun h => (congrArg (finish s) (probeReceived_ignored h seq d sub d3 t3)).trans (finish_eq ha rfl rfl),
      ⟨_, finish_eq ha rfl rfl, rfl⟩, fun he h2 hu => ⟨_, exec_reply3Received ha he h2 hu t3 sub, u.endExch_spec p seq _ _ _ rfl⟩, fun he hu => ?timeout, fun he => ?none⟩
    case begins =>
      have h := (exec_exchangeStart ha p d sub).1 hx hu
      rw [if_neg (by simp [hfew, hdue])] at h
      exact ⟨_, h, rfl, u.probe_port p sub, rfl⟩
    case waits =>
      have h := (exec_exchangeStart ha p d sub).1 hx hu
      rwa [if_pos hno] at h
    case timeout =>
      refine ⟨_, exec_probeTimeout ha he hu, State.exchOf_dropExch u p seq, ?_, fun a h => ?_, rfl⟩
      · exact (State.rd_incBy _ _ _ _).trans (if_pos rfl)
      · exact (State.rd_incBy _ _ _ _).trans (if_neg (by simpa using h))
    case none =>
      obtain ⟨hto, hr3⟩ := exchange_none he t3 d sub
      exact ⟨(congrArg (finish s) hto).trans (finish_eq ha rfl rfl), (congrArg (finish s) hr3).trans (finish_eq ha rfl rfl)⟩
  · refine ⟨fun hf hu hset => ppsEdge_setting ha hf hu hset, fun hf hu hset hsrc hlock hwin => ?rejected,
      fun hf hu hset hsrc hwin => ppsEdge_updating ha hf hu hset hsrc hwin, fun hf hu hset hsrc => ?ignored, fun hf => ?stopped,
      fun hs hl => ?lost, fun h => ?stays, fun hroot hsrc hen hage => ?request, fun hage => ?early, fun hout => ?noRequest,
      fun hout hsrc => ptmResponse_updating ha hout hsrc sec ns, fun hout hsrc => ?otherSource⟩
    case rejected =>
      have hsrc' : u.get F.WALL_SERVO_SRC = 2 := (State.atF_get hu _ (by decide) (by decide)).trans hsrc
      have hlock' : u.on F.WALL_STATUS_LOCKED = true := (State.atF_on hu _ (by decide) (by decide)).trans hlock
      have hw : u.get F.WALL_PPS_WIN_WIN = s.get F.WALL_PPS_WIN_WIN := State.atF_get hu _ (by decide) (by decide)
      refine ⟨_, exec_ppsEdge ha hu (ppsEdge_rejected hf hu hset hsrc' hlock' (by rw [hw]; exact hwin)) rfl rfl,
        (State.rd_incBy _ _ _ _).trans (if_pos rfl), fun a h => ?_, rfl⟩
      exact (State.rd_incBy _ _ _ _).trans (if_neg (by simpa using h))
    case ignored =>
      have hsrc' : u.get F.WALL_SERVO_SRC ≠ 2 := by rwa [State.atF_get hu _ (by decide) (by decide)]
      exact exec_ppsEdge ha hu (ppsEdge_ignored hf hu hset hsrc') rfl rfl
    case stopped => exact (congrArg (finish s) (if_neg (by simp [hf]))).trans (finish_eq ha rfl rfl)
    case lost =>
      obtain ⟨hon, hoff, hwall, hregs, hfr⟩ := s.servoLost_spec
      exact ⟨_, (exec_wallSrcLost ha).1 (s.srcSilent_iff.mpr hs) hl, hon, hoff, hwall, hregs _ (by decide), hregs, hfr⟩
    case stays =>
      refine (exec_wallSrcLost ha).2 (h.imp_left fun ⟨hpps, hptm⟩ => ?_)
      rw [← Bool.not_eq_true, s.srcSilent_iff]
      rintro (⟨hsrc, hle⟩ | ⟨hsrc, hle⟩)
      · exact absurd (hpps hsrc) (by omega)
      · exact absurd (hptm hsrc) (by omega)
    case request => exact (congrArg (finish s) (ptmRequest_due hroot hsrc hen hage)).trans (finish_eq ha rfl rfl)
    case early => exact (congrArg (finish s) (ptmRequest_early hage)).trans (finish_eq ha rfl rfl)
    case noRequest =>
      have h : ptmResponse sec ns s = s := by simp only [ptmResponse, hout]
      exact (congrArg (finish s) h).trans (finish_eq ha rfl rfl)
    case otherSource =>
      have h : ptmResponse sec ns s = { s with wall := { s.wall with ptmOut := none, ptmHeard := 0 } } := by
        simp only [ptmResponse, hout, hsrc, if_false]
      exact (congrArg (finish s) h).trans (finish_eq ha rfl rfl)

end Sys2Proof.Machine
end

section
/-! Words under a mask of low bits, and accepted writes of registers of one word that no write clears (R6–R8, R399). -/

namespace Sys2Proof

/-- A field of the low bits written with its own value changes nothing. -/
theorem setBits_bitsOf (v w : Nat) : setBits v 0 w (bitsOf v 0 w) = v := by
  have hdiv := Nat.div_add_mod v (2 ^ w)
  simp only [setBits, bitsOf, pow_zero, Nat.mod_one, Nat.div_one, Nat.mod_mod, Nat.mul_one, Nat.zero_add]
  rw [Nat.mul_comm]
  omega

/-- Of two writes of the low bits the second stays. -/
theorem setBits_setBits (v w x y : Nat) : setBits (setBits v 0 w x) 0 w y = setBits v 0 w y := by
  have hdiv : (x % 2 ^ w + v / 2 ^ w * 2 ^ w) / 2 ^ w = v / 2 ^ w := by
    rw [Nat.add_mul_div_right _ _ (by positivity), Nat.div_eq_of_lt (Nat.mod_lt _ (by positivity)), Nat.zero_add]
  simp only [setBits, pow_zero, Nat.mod_one, Nat.mul_one, Nat.zero_add, hdiv]

/-- The low bits are replaced by those of a number that agrees with it there. -/
theorem setBits_congr (v w : Nat) {x y : Nat} (h : x % 2 ^ w = y % 2 ^ w) : setBits v 0 w x = setBits v 0 w y := by
  simp only [setBits, h]

end Sys2Proof

namespace Sys2Proof.Machine

/-- Under a mask of the `k` low bits a write replaces them. -/
theorem maskedWord_low {old k : Nat} (ho : old < 2 ^ 32) (hk : k ≤ 32) (v : Nat) : maskedWord (2 ^ k - 1) old v = setBits old 0 k v := by
  have hset : setBits old 0 k v = 2 ^ k * (old / 2 ^ k) + v % 2 ^ k := by
    simp only [setBits, pow_zero, Nat.mod_one, Nat.mul_one, Nat.zero_add]; ring
  rw [hset]
  apply Nat.eq_of_testBit_eq
  intro i
  rw [Nat.testBit_two_pow_mul_add _ (Nat.mod_lt _ (by positivity)), maskedWord, show (0xFFFFFFFF : Nat) = 2 ^ 32 - 1 from rfl]
  simp only [Nat.testBit_and, Nat.testBit_or, Nat.testBit_xor, Nat.testBit_two_pow_sub_one, Nat.testBit_mod_two_pow,
    Nat.testBit_div_two_pow]
  by_cases hi : i < k
  · have h32 : i < 32 := by omega
    simp [hi, h32]
  · have hik : i - k + k = i := Nat.sub_add_cancel (by omega)
    by_cases h32 : i < 32
    · simp [hi, h32, hik]
    · have hbig : old.testBit i = false := Nat.testBit_lt_two_pow (lt_of_lt_of_le ho (Nat.pow_le_pow_right (by decide) (by omega)))
      simp [hi, h32, hik, hbig]

/-- An accepted word of a register that no write clears is stored, has its effects, and is digested. -/
theorem State.applyWord_stored (s : State) {h : Hit} (hc : h.row.cnt = false) (hp : h.blk ≠ .port)
    (hw : ¬(h.blk = .wall ∧ h.row.off = 0x14)) (a v : Nat) :
    s.applyWord h a v = ((s.wr a (s.newWord h a v)).wrote h (s.rd a) v (s.newWord h a v)).digested a (s.rd a) (s.newWord h a v) := by
  have hw' : ¬(h.blk = .wall ∧ h.row.off = 0x14 ∧ s.get F.WALL_SERVO_SRC ≠ 0) := fun ⟨hb, ho, _⟩ => hw ⟨hb, ho⟩
  have hp' : ¬(h.blk = .port ∧ h.row.off = 0) := fun ⟨hb, _⟩ => hp hb
  rw [State.applyWord, hc, if_neg Bool.false_ne_true, if_neg hw']
  simp only [hp', if_false]
  rfl

/-- The digest changes its flag and that it is computed. -/
theorem State.digested_frame (s : State) (a old nw : Nat) : s.digested a old nw = { s with
    regs := (s.digested a old nw).regs, hall := { s.hall with hashing := (s.digested a old nw).hall.hashing } } := by
  unfold State.digested
  (repeat' split) <;> rfl

/-- A word that does not change is not digested. -/
theorem State.digested_same (s : State) (a w : Nat) : s.digested a w w = s := by
  unfold State.digested
  split
  · exact if_pos rfl
  · rfl

/-! ORB_CLK and ORB_LEN (R35, R37). -/

/-- ORB_CLK in the register map. -/
def orbClkHit : Hit := ⟨.orb, { off := 0, cls := .mode, rw := fun _ _ _ => 3 }, 0, 0, 0⟩
/-- ORB_LEN in the register map. -/
def orbLenHit : Hit := ⟨.orb, { off := 4, cls := .mode, rw := fun _ _ _ => 0x3FFF, rst := fun _ _ _ => 0x1000 }, 0, 0, 0⟩
/-- WALL_CMD in the register map. -/
def wallCmdHit : Hit := ⟨.wall, { off := 0x44, cls := .live }, 0, 0, 0⟩

theorem findReg_orbClkHit : findReg Reg.ORB_CLK = some orbClkHit := rfl
theorem findReg_orbLenHit : findReg Reg.ORB_LEN = some orbLenHit := rfl
theorem findReg_wallCmdHit : findReg Reg.WALL_CMD = some wallCmdHit := rfl

/-- The word that a write of ORB_CLK stores: the reserved source keeps the one before (R8, R35). -/
theorem State.newWord_orbClk (s : State) (v : Nat) : s.newWord orbClkHit Reg.ORB_CLK v =
    setBits (s.rd Reg.ORB_CLK) 0 2 (if v % 4 = 3 then s.get F.ORB_CLK_SRC else v) := by
  have hmask : s.newWord orbClkHit Reg.ORB_CLK v =
      keepFld F.ORB_CLK_SRC (fun v => decide (v = 3)) (s.rd Reg.ORB_CLK) (maskedWord 3 (s.rd Reg.ORB_CLK) v) := by
    simp only [State.newWord, orbClkHit, featWord, fixWord, if_true, maskedWord, Nat.and_zero, Nat.xor_zero]
  have hlow : maskedWord 3 (s.rd Reg.ORB_CLK) v = setBits (s.rd Reg.ORB_CLK) 0 2 v := maskedWord_low (k := 2) (s.rd_lt _) (by decide) v
  rw [hmask, hlow, keepFld, bitsOf_setBits_same]
  by_cases h3 : v % 4 = 3
  · simp only [Nat.reducePow, h3, decide_true, if_true]
    exact setBits_setBits _ _ _ _
  · simp only [Nat.reducePow, h3, decide_false, Bool.false_eq_true, if_false]

/-- The word that a write of ORB_LEN stores: the length is at least 512 (R37). -/
theorem State.newWord_orbLen (s : State) (v : Nat) : s.newWord orbLenHit Reg.ORB_LEN v =
    setBits (s.rd Reg.ORB_LEN) 0 14 (max 512 (v % 2 ^ 14)) := by
  have hmask : s.newWord orbLenHit Reg.ORB_LEN v = rangeFld F.ORB_LEN_LEN 512 16383 (maskedWord 0x3FFF (s.rd Reg.ORB_LEN) v) := by
    simp only [State.newWord, orbLenHit, featWord, fixWord, if_true, maskedWord, Nat.and_zero, Nat.xor_zero]
    rfl
  have hlow : maskedWord 0x3FFF (s.rd Reg.ORB_LEN) v = setBits (s.rd Reg.ORB_LEN) 0 14 v :=
    maskedWord_low (k := 14) (s.rd_lt _) (by decide) v
  have hmin : min 16383 (v % 2 ^ 14) = v % 2 ^ 14 := min_eq_right (by omega)
  rw [hmask, hlow, rangeFld, bitsOf_setBits_same, hmin, setBits_setBits]

/-- The word that a write of WALL_CMD stores is the one there (R73). -/
theorem State.newWord_wallCmd (s : State) (v : Nat) : s.newWord wallCmdHit Reg.WALL_CMD v = s.rd Reg.WALL_CMD := by
  have hmask : s.newWord wallCmdHit Reg.WALL_CMD v = maskedWord 0 (s.rd Reg.WALL_CMD) v := by
    simp only [State.newWord, wallCmdHit, featWord, fixWord, maskedWord, Nat.and_zero, Nat.xor_zero]
  exact hmask.trans ((maskedWord_low (k := 0) (s.rd_lt _) (by decide) v).trans (by simp [setBits, Nat.mod_one]))

/-- Which writes of ORB_CLK form no conflict (R30, R35). -/
theorem State.conflict_orbClk {s : State} {v : Nat} (hsrc : v % 4 = 0 ∧ s.isRoot = true ∨ v % 4 = 1 ∧ s.isRoot = false ∨
      v % 4 = 2 ∧ (s.isRoot = true ∨ s.on F.TREE_ID_NUMBERED = false) ∧ s.clasped = false ∨ v % 4 = 3) (nw : Nat) :
    s.conflict orbClkHit Reg.ORB_CLK v nw = none := by
  simp only [State.conflict, orbClkHit, if_true]
  rcases hsrc with ⟨h, hr⟩ | ⟨h, hr⟩ | ⟨h, hr, hc⟩ | h
  · simp [h, hr]
  · simp [h, hr]
  · rcases hr with hr | hr <;> simp [h, hr, hc]
  · simp [h]

/-- An accepted write of ORB_CLK. -/
theorem State.write_orbClk {s : State} (hr : s.sys.run = .ready) {v : Nat}
    (hsrc : v % 4 = 0 ∧ s.isRoot = true ∨ v % 4 = 1 ∧ s.isRoot = false ∨
      v % 4 = 2 ∧ (s.isRoot = true ∨ s.on F.TREE_ID_NUMBERED = false) ∧ s.clasped = false ∨ v % 4 = 3) (bar : Bool) :
    s.write bar Reg.ORB_CLK v = (((s.letGo Reg.ORB_CLK).wr Reg.ORB_CLK (s.newWord orbClkHit Reg.ORB_CLK (v % 2 ^ 32))).wrote orbClkHit
      (s.rd Reg.ORB_CLK) (v % 2 ^ 32) (s.newWord orbClkHit Reg.ORB_CLK (v % 2 ^ 32))).digested Reg.ORB_CLK (s.rd Reg.ORB_CLK)
      (s.newWord orbClkHit Reg.ORB_CLK (v % 2 ^ 32)) := by
  have hmod : v % 2 ^ 32 % 4 = v % 4 := Nat.mod_mod_of_dvd _ (by decide)
  refine (State.write_taken s bar Reg.ORB_CLK v _ findReg_orbClkHit (by decide) (by decide) (by rw [hr]; rfl) rfl (by decide) (by decide)
    rfl rfl (by rw [State.classOf_mode findReg_orbClkHit rfl, hr]; rfl) rfl (State.conflict_orbClk (by rw [hmod]; exact hsrc) _)).trans ?_
  exact (s.letGo Reg.ORB_CLK).applyWord_stored rfl (by decide) (by decide) _ _

/-- An accepted write of ORB_LEN. -/
theorem State.write_orbLen {s : State} (hr : s.sys.run = .ready) (v : Nat) (bar : Bool) :
    s.write bar Reg.ORB_LEN v = (((s.letGo Reg.ORB_LEN).wr Reg.ORB_LEN (s.newWord orbLenHit Reg.ORB_LEN (v % 2 ^ 32))).wrote orbLenHit
      (s.rd Reg.ORB_LEN) (v % 2 ^ 32) (s.newWord orbLenHit Reg.ORB_LEN (v % 2 ^ 32))).digested Reg.ORB_LEN (s.rd Reg.ORB_LEN)
      (s.newWord orbLenHit Reg.ORB_LEN (v % 2 ^ 32)) := by
  refine (State.write_taken s bar Reg.ORB_LEN v _ findReg_orbLenHit (by decide) (by decide) (by rw [hr]; rfl) rfl (by decide) (by decide)
    rfl rfl (by rw [State.classOf_mode findReg_orbLenHit rfl, hr]; rfl) rfl rfl).trans ?_
  exact (s.letGo Reg.ORB_LEN).applyWord_stored rfl (by decide) (by decide) _ _

/-- A write of WALL_CMD stores nothing; its bits are commands (R73). -/
theorem State.write_wallCmd {s : State} (hr : s.sys.run.isReady = true) (hsrc : s.get F.WALL_SERVO_SRC ≠ 1) (v : Nat) (bar : Bool) :
    s.write bar Reg.WALL_CMD v = ((s.letGo Reg.WALL_CMD).wr Reg.WALL_CMD (s.rd Reg.WALL_CMD)).wrote wallCmdHit (s.rd Reg.WALL_CMD)
      (v % 2 ^ 32) (s.rd Reg.WALL_CMD) := by
  have hconf : s.conflict wallCmdHit Reg.WALL_CMD (v % 2 ^ 32) (s.newWord wallCmdHit Reg.WALL_CMD (v % 2 ^ 32)) = none := by
    simp [State.conflict, wallCmdHit, hsrc]
  refine (State.write_taken s bar Reg.WALL_CMD v _ findReg_wallCmdHit (by decide) (by decide) hr rfl (by decide) (by decide) rfl rfl
    hr rfl hconf).trans ?_
  refine ((s.letGo Reg.WALL_CMD).applyWord_stored rfl (by decide) (by decide) _ _).trans ?_
  rw [State.newWord_wallCmd, State.digested_same]
  rfl

end Sys2Proof.Machine
end

section
/-! The clock that changes (R37, R58, R129). -/

namespace Sys2Proof.Machine

/-- The PLL re-locks: PLL_LOCK clears, and the TIU loses its open interval. -/
theorem State.relock_spec (s : State) :
    s.relock.on F.ORB_STATUS_PLL_LOCK = false ∧ s.relock.on F.TIU_STATUS_GAP = true ∧
    regsBut [Reg.ORB_STATUS, Reg.TIU_STATUS] s s.relock ∧
    s.relock = { s with regs := s.relock.regs, tiu := { s.tiu with openAt := none } } := by
  refine ⟨?_, (State.on_put_flag _ rfl (by decide)).1, fun a ha => ?_, rfl⟩
  · refine (State.on_congr (State.rd_put_other _ F.TIU_STATUS_GAP 1 Reg.ORB_STATUS (by decide))).trans ?_
    exact (s.on_put_flag rfl (by decide)).2
  · simp only [List.mem_cons, List.not_mem_nil, or_false, not_or] at ha
    exact (State.rd_put_other _ F.TIU_STATUS_GAP 1 a ha.2).trans (State.rd_put_other s F.ORB_STATUS_PLL_LOCK 0 a ha.1)

/-- A write of the loop's state is read back. -/
theorem State.pa_put_state (s : State) {v : Nat} (hv : v < 8) : (s.put F.ORB_PA_STATUS_STATE v).pa = v := by
  have h := s.get_put_same F.ORB_PA_STATUS_STATE v (by decide)
  rw [State.pa, h]
  exact Nat.mod_eq_of_lt hv

/-- A write of a field of ORB_PA_STATUS leaves the other registers. -/
theorem State.regsBut_put_paStatus (s : State) {f : Fld} (hf : f.reg = Reg.ORB_PA_STATUS) (v : Nat) :
    regsBut [Reg.ORB_PA_STATUS] s (s.put f v) :=
  fun a ha => s.rd_put_other f v a (by rw [hf]; exact List.ne_of_not_mem_cons ha)

/-- Only registers change under a write of a field. -/
theorem State.put_frame (s : State) (f : Fld) (v : Nat) : s.put f v = { s with regs := (s.put f v).regs } := rfl

/-- The loop of a die that the shaft clocks leaves REFERENCE for HUNT, and stays as it is in any other state (R58). -/
theorem State.loopSource_shaft {s : State} (hs : s.get F.ORB_CLK_SRC = 1) :
    s.loopSource = if s.pa = paReference then s.put F.ORB_PA_STATUS_STATE paHunt else s := by
  unfold State.loopSource State.srcShaft
  rw [if_pos (decide_eq_true hs)]

/-- The loop of a die with any other source is in REFERENCE (R58). -/
theorem State.loopSource_other {s : State} (hs : s.get F.ORB_CLK_SRC ≠ 1) : s.loopSource =
    ((if s.pa = paReference ∨ s.pa = paAligned then s else s.sawOff s.time.slots).put F.ORB_PA_STATUS_STATE paReference).put
      F.ORB_PA_STATUS_CHAIN 0 := by
  unfold State.loopSource State.srcShaft
  rw [if_neg (by rw [decide_eq_false hs]; exact Bool.false_ne_true)]

/-- The loop's state follows the source: HUNT where the shaft takes over from REFERENCE, and REFERENCE for every other source. -/
theorem State.loopSource_spec (s : State) :
    s.loopSource.pa = (if s.get F.ORB_CLK_SRC = 1 then (if s.pa = paReference then paHunt else s.pa) else paReference) ∧
    regsBut [Reg.ORB_PA_STATUS] s s.loopSource ∧
    s.loopSource = { s with regs := s.loopSource.regs, time := { s.time with lastOff := s.loopSource.time.lastOff } } := by
  by_cases hs : s.get F.ORB_CLK_SRC = 1
  · rw [State.loopSource_shaft hs, if_pos hs]
    by_cases hp : s.pa = paReference
    · rw [if_pos hp, if_pos hp]
      exact ⟨s.pa_put_state (by decide), s.regsBut_put_paStatus rfl _, s.put_frame _ _⟩
    · rw [if_neg hp, if_neg hp]
      exact ⟨rfl, fun _ _ => rfl, rfl⟩
  · rw [State.loopSource_other hs, if_neg hs]
    obtain ⟨y, hy⟩ : ∃ y, y = if s.pa = paReference ∨ s.pa = paAligned then s else s.sawOff s.time.slots := ⟨_, rfl⟩
    have hyfr : y = { s with time := { s.time with lastOff := y.time.lastOff } } := by rw [hy]; split <;> rfl
    have hyrd : ∀ a, y.rd a = s.rd a := fun a => State.rd_congr (by rw [hyfr]) a
    rw [← hy]
    refine ⟨((y.put F.ORB_PA_STATUS_STATE paReference).get_put_apart F.ORB_PA_STATUS_CHAIN F.ORB_PA_STATUS_STATE 0 (by decide) (by decide)).trans
      (y.pa_put_state (by decide)), fun a ha => ?_, ?_⟩
    · exact ((State.regsBut_put_paStatus _ rfl 0 a ha).trans (y.regsBut_put_paStatus rfl paReference a ha)).trans (hyrd a)
    · rw [State.put_frame _ F.ORB_PA_STATUS_CHAIN, State.put_frame y, hyfr]

/-- After the re-lock the counters wait for a marker if the shaft clocks them, and take the length where they stand. -/
theorem State.clockChanged_eq (s : State) : s.clockChanged = { s.relock.loopSource with time := { s.relock.loopSource.time with
    reload := s.relock.loopSource.srcShaft
    len := if s.relock.loopSource.time.counting then s.relock.loopSource.time.len else s.relock.loopSource.get F.ORB_LEN_LEN } } := by
  unfold State.clockChanged
  rfl

/-- A change of ORB_CLK or ORB_LEN: the PLL re-locks and the loop follows the source; the counters run on, and the length is taken where
they stand. -/
theorem State.clockChanged_spec (s : State) :
    s.clockChanged.on F.ORB_STATUS_PLL_LOCK = false ∧
    s.clockChanged.pa = (if s.get F.ORB_CLK_SRC = 1 then (if s.pa = paReference then paHunt else s.pa) else paReference) ∧
    s.clockChanged.on F.TIU_STATUS_GAP = true ∧ s.clockChanged.tiu = { s.tiu with openAt := none } ∧
    s.clockChanged.time = { s.time with
      lastOff := s.clockChanged.time.lastOff, reload := s.clockChanged.time.reload
      len := if s.time.counting then s.time.len else s.get F.ORB_LEN_LEN } ∧
    regsBut [Reg.ORB_STATUS, Reg.ORB_PA_STATUS, Reg.TIU_STATUS] s s.clockChanged ∧
    s.clockChanged = { s with regs := s.clockChanged.regs, time := s.clockChanged.time, tiu := s.clockChanged.tiu } := by
  obtain ⟨hlock, hgap, hregs, hfr⟩ := s.relock_spec
  obtain ⟨hpa, hregs', hfr'⟩ := s.relock.loopSource_spec
  have hsrc : s.relock.get F.ORB_CLK_SRC = s.get F.ORB_CLK_SRC := by simp only [State.get, hregs Reg.ORB_CLK (by decide)]
  have hstate : s.relock.pa = s.pa := by simp only [State.pa, State.get, hregs Reg.ORB_PA_STATUS (by decide)]
  rw [hsrc, hstate] at hpa
  have hlen : s.relock.loopSource.get F.ORB_LEN_LEN = s.get F.ORB_LEN_LEN := by
    simp only [State.get, hregs' Reg.ORB_LEN (by decide), hregs Reg.ORB_LEN (by decide)]
  have hlock' : s.relock.loopSource.on F.ORB_STATUS_PLL_LOCK = false := (State.on_congr (hregs' Reg.ORB_STATUS (by decide))).trans hlock
  have hgap' : s.relock.loopSource.on F.TIU_STATUS_GAP = true := (State.on_congr (hregs' Reg.TIU_STATUS (by decide))).trans hgap
  have hrd : regsBut [Reg.ORB_STATUS, Reg.ORB_PA_STATUS, Reg.TIU_STATUS] s s.relock.loopSource := by
    intro a ha
    simp only [List.mem_cons, List.not_mem_nil, or_false, not_or] at ha
    exact (hregs' a (by simp [ha])).trans (hregs a (by simp [ha]))
  rw [State.clockChanged_eq, hlen]
  generalize s.relock.loopSource = y at *
  generalize s.relock = r at hfr hfr'
  rw [hfr] at hfr'
  have htiu : y.tiu = { s.tiu with openAt := none } := by rw [hfr']
  have htime : y.time = { s.time with lastOff := y.time.lastOff } := by rw [hfr']
  have hrd' : ∀ t : TimeSt, ∀ a, ({ y with time := t } : State).rd a = y.rd a := fun t a => State.rd_congr rfl a
  refine ⟨(State.on_congr (hrd' _ _)).trans hlock', ?_, (State.on_congr (hrd' _ _)).trans hgap', htiu, ?_, fun a ha => (hrd' _ a).trans (hrd a ha), ?_⟩
  · rw [← hpa]
    simp only [State.pa, State.get, hrd']
  · rw [htime]
  · rw [hfr']

end Sys2Proof.Machine
end

section
/-! The clock source and the orbit length written in READY (R35, R37). -/

namespace Sys2Proof.Machine

/-- What a changed word of ORB_CLK or ORB_LEN makes of a die: the PLL re-locks, the loop follows the source, and the counters run on. -/
structure ClockMoved (a : Nat) (s t : State) : Prop where
  unlocked : t.on F.ORB_STATUS_PLL_LOCK = false
  loop : t.pa = if t.get F.ORB_CLK_SRC = 1 then (if s.pa = paReference then paHunt else s.pa) else paReference
  gap : t.on F.TIU_STATUS_GAP = true
  closed : t.tiu = { s.tiu with openAt := none }
  runsOn : t.time = { s.time with lastOff := t.time.lastOff, reload := t.time.reload, len := if s.time.counting then s.time.len else t.get F.ORB_LEN_LEN }
  others : regsBut [a, Reg.ORB_STATUS, Reg.ORB_PA_STATUS, Reg.TIU_STATUS, Reg.HALL_STATUS] s t
  frame : t = { s with regs := t.regs, time := t.time, tiu := t.tiu, hall := { s.hall with hashing := t.hall.hashing }, bus := t.bus }

/-- A word stored in ORB_CLK or ORB_LEN that changes the clock. -/
theorem State.clockMoved_of_wr (s : State) {a : Nat} (ha : a = Reg.ORB_CLK ∨ a = Reg.ORB_LEN) (w old : Nat) :
    ClockMoved a s (((s.letGo a).wr a w).clockChanged.digested a old w) ∧
    (((s.letGo a).wr a w).clockChanged.digested a old w).rd a = w % 2 ^ 32 := by
  have hapart : a ∉ [Reg.ORB_STATUS, Reg.ORB_PA_STATUS, Reg.TIU_STATUS] ∧ a ≠ Reg.HALL_STATUS := by
    rcases ha with rfl | rfl <;> decide
  have hxa : ((s.letGo a).wr a w).rd a = w % 2 ^ 32 := State.rd_wr_same _ _ _
  have hxrd : ∀ b, b ≠ a → ((s.letGo a).wr a w).rd b = s.rd b := fun b hb => State.rd_wr_other _ _ _ _ hb
  have hxfr : (s.letGo a).wr a w = { s with regs := ((s.letGo a).wr a w).regs, bus := (s.letGo a).bus } := rfl
  have hxpa : ((s.letGo a).wr a w).pa = s.pa := by
    simp only [State.pa, State.get, hxrd Reg.ORB_PA_STATUS (fun h => hapart.1 (by rw [← h]; decide))]
  generalize (s.letGo a).wr a w = x at *
  obtain ⟨hlock, hpa, hgap, htiu, htime, hregs, hfr⟩ := x.clockChanged_spec
  have hsrc : x.clockChanged.get F.ORB_CLK_SRC = x.get F.ORB_CLK_SRC := by simp only [State.get, hregs Reg.ORB_CLK (by decide)]
  have hlen : x.clockChanged.get F.ORB_LEN_LEN = x.get F.ORB_LEN_LEN := by simp only [State.get, hregs Reg.ORB_LEN (by decide)]
  rw [← hsrc, hxpa] at hpa
  rw [← hlen] at htime
  have hya : x.clockChanged.rd a = w % 2 ^ 32 := (hregs a hapart.1).trans hxa
  generalize x.clockChanged = y at *
  have hdrd : ∀ {b}, b ≠ Reg.HALL_STATUS → (y.digested a old w).rd b = y.rd b := fun hb => y.rd_digested a old w hb
  have hdget : ∀ f : Fld, f.reg ≠ Reg.HALL_STATUS → (y.digested a old w).get f = y.get f := fun f hf => y.get_digested a old w hf
  have hdfr := y.digested_frame a old w
  generalize y.digested a old w = t at *
  refine ⟨⟨(State.on_congr (hdrd (by decide))).trans hlock, ?_, (State.on_congr (hdrd (by decide))).trans hgap, ?_, ?_, fun b hb => ?_, ?_⟩,
    (hdrd hapart.2).trans hya⟩
  · rw [hdget _ (by decide), ← hpa, State.pa, State.pa, hdget _ (by decide)]
  · rw [hdfr, htiu, hxfr]
  · rw [hdget _ (by decide), hdfr, htime, hxfr]
  · simp only [List.mem_cons, List.not_mem_nil, or_false, not_or] at hb
    obtain ⟨hba, hb1, hb2, hb3, hb4⟩ := hb
    exact ((hdrd hb4).trans (hregs b (by simp [hb1, hb2, hb3]))).trans (hxrd b hba)
  · rw [hdfr, hfr, hxfr]

/-- What follows from a write of ORB_CLK. -/
theorem State.wrote_orbClk (s : State) (old v w : Nat) : s.wrote orbClkHit old v w = if old = w then s else s.clockChanged := by
  unfold State.wrote
  exact if_pos (Or.inl rfl)

/-- What follows from a write of ORB_LEN. -/
theorem State.wrote_orbLen (s : State) (old v w : Nat) : s.wrote orbLenHit old v w = if old = w then s else s.clockChanged := by
  unfold State.wrote
  exact if_pos (Or.inr rfl)

/-- A write that stores the word that stands there leaves every word as it is. -/
theorem State.wr_rd_unchanged (s : State) (a : Nat) : regsBut [] s ((s.letGo a).wr a (s.rd a)) := by
  intro b _
  by_cases hb : b = a
  · rw [hb, State.rd_wr_same]
    exact Nat.mod_eq_of_lt (s.rd_lt a)
  · exact State.rd_wr_other _ _ _ _ hb

/-- A changed clock source in READY. -/
theorem State.orbClk_changed {s : State} (ha : Awake s) (hr : s.sys.run = .ready) {v : Nat}
    (hsrc : v % 4 = 0 ∧ s.isRoot = true ∨ v % 4 = 1 ∧ s.isRoot = false ∨
      v % 4 = 2 ∧ (s.isRoot = true ∨ s.on F.TREE_ID_NUMBERED = false) ∧ s.clasped = false)
    (hne : v % 4 ≠ s.get F.ORB_CLK_SRC) (bar : Bool) :
    ∃ t, exec (.orbClkWrite bar v) s = .next t ∧ t.get F.ORB_CLK_SRC = v % 4 ∧ ClockMoved Reg.ORB_CLK s t := by
  have h3 : ¬ v % 2 ^ 32 % 4 = 3 := by
    rw [Nat.mod_mod_of_dvd v (by decide : 4 ∣ 2 ^ 32)]
    omega
  have hw : s.newWord orbClkHit Reg.ORB_CLK (v % 2 ^ 32) = setBits (s.rd Reg.ORB_CLK) 0 2 (v % 2 ^ 32) := by
    rw [State.newWord_orbClk, if_neg h3]
  obtain ⟨w, hwdef⟩ : ∃ w, w = setBits (s.rd Reg.ORB_CLK) 0 2 (v % 2 ^ 32) := ⟨_, rfl⟩
  have hbits : bitsOf w 0 2 = v % 4 := by
    rw [hwdef, bitsOf_setBits_same]
    exact Nat.mod_mod_of_dvd v (by decide : 4 ∣ 2 ^ 32)
  have hold : s.rd Reg.ORB_CLK ≠ w := fun h => hne (by rw [← hbits, ← h]; rfl)
  have hwrite := State.write_orbClk hr (by tauto) bar
  rw [hw, ← hwdef, State.wrote_orbClk, if_neg hold] at hwrite
  obtain ⟨hmoved, hword⟩ := s.clockMoved_of_wr (Or.inl rfl) w (s.rd Reg.ORB_CLK)
  rw [← hwrite] at hmoved hword
  refine ⟨s.write bar Reg.ORB_CLK v, ?_, ?_, hmoved⟩
  · exact finish_eq ha (by rw [hmoved.frame]) (by rw [hmoved.frame])
  · rw [State.get, show F.ORB_CLK_SRC = ⟨Reg.ORB_CLK, 0, 2⟩ from rfl, hword, bitsOf_mod_word _ _ _ (by decide), hbits]

/-- A changed orbit length in READY. -/
theorem State.orbLen_changed {s : State} (ha : Awake s) (hr : s.sys.run = .ready) {v : Nat}
    (hne : max 512 (v % 2 ^ 14) ≠ s.get F.ORB_LEN_LEN) (bar : Bool) :
    ∃ t, exec (.orbLenWrite bar v) s = .next t ∧ t.get F.ORB_LEN_LEN = max 512 (v % 2 ^ 14) ∧ ClockMoved Reg.ORB_LEN s t := by
  have hw : s.newWord orbLenHit Reg.ORB_LEN (v % 2 ^ 32) = setBits (s.rd Reg.ORB_LEN) 0 14 (max 512 (v % 2 ^ 14)) := by
    rw [State.newWord_orbLen, Nat.mod_mod_of_dvd v (by decide : 2 ^ 14 ∣ 2 ^ 32)]
  obtain ⟨l, hl⟩ : ∃ l, l = max 512 (v % 2 ^ 14) := ⟨_, rfl⟩
  have hlt : l < 2 ^ 14 := by rw [hl]; omega
  rw [← hl] at hw hne ⊢
  obtain ⟨w, hwdef⟩ : ∃ w, w = setBits (s.rd Reg.ORB_LEN) 0 14 l := ⟨_, rfl⟩
  have hbits : bitsOf w 0 14 = l := by rw [hwdef, bitsOf_setBits_same, Nat.mod_eq_of_lt hlt]
  have hold : s.rd Reg.ORB_LEN ≠ w := fun h => hne (by rw [← hbits, ← h]; rfl)
  have hwrite := State.write_orbLen hr v bar
  rw [hw, ← hwdef, State.wrote_orbLen, if_neg hold] at hwrite
  obtain ⟨hmoved, hword⟩ := s.clockMoved_of_wr (Or.inr rfl) w (s.rd Reg.ORB_LEN)
  rw [← hwrite] at hmoved hword
  refine ⟨s.write bar Reg.ORB_LEN v, ?_, ?_, hmoved⟩
  · exact finish_eq ha (by rw [hmoved.frame]) (by rw [hmoved.frame])
  · rw [State.get, show F.ORB_LEN_LEN = ⟨Reg.ORB_LEN, 0, 14⟩ from rfl, hword, bitsOf_mod_word _ _ _ (by decide), hbits]

/-- A word of ORB_CLK that changes nothing, or names the reserved source, leaves the clock alone. -/
theorem State.orbClk_unchanged {s : State} (ha : Awake s) (hr : s.sys.run = .ready) {v : Nat}
    (hsrc : v % 4 = 0 ∧ s.isRoot = true ∨ v % 4 = 1 ∧ s.isRoot = false ∨
      v % 4 = 2 ∧ (s.isRoot = true ∨ s.on F.TREE_ID_NUMBERED = false) ∧ s.clasped = false ∨ v % 4 = 3)
    (hsame : v % 4 = 3 ∨ v % 4 = s.get F.ORB_CLK_SRC) (bar : Bool) :
    ∃ t, exec (.orbClkWrite bar v) s = .next t ∧ regsBut [] s t ∧ t = { s with regs := t.regs, bus := t.bus } := by
  have hmod : v % 2 ^ 32 % 4 = v % 4 := Nat.mod_mod_of_dvd v (by decide)
  have hsrcOf : s.get F.ORB_CLK_SRC = bitsOf (s.rd Reg.ORB_CLK) 0 2 := by unfold State.get; rfl
  have hw : s.newWord orbClkHit Reg.ORB_CLK (v % 2 ^ 32) = s.rd Reg.ORB_CLK := by
    rw [State.newWord_orbClk, hmod]
    by_cases h3 : v % 4 = 3
    · rw [if_pos h3, hsrcOf, setBits_bitsOf]
    · have h : v % 4 = s.get F.ORB_CLK_SRC := hsame.resolve_left h3
      rw [if_neg h3, setBits_congr (y := s.get F.ORB_CLK_SRC), hsrcOf, setBits_bitsOf]
      rw [show (2 : Nat) ^ 2 = 4 from rfl, hmod, ← h, Nat.mod_mod]
  have hwrite := State.write_orbClk hr hsrc bar
  rw [hw, State.wrote_orbClk, if_pos rfl, State.digested_same] at hwrite
  refine ⟨s.write bar Reg.ORB_CLK v, finish_eq ha (by rw [hwrite]; rfl) (by rw [hwrite]; rfl), ?_, ?_⟩ <;> rw [hwrite]
  · exact s.wr_rd_unchanged _
  · rfl

/-- A word of ORB_LEN that keeps the length leaves the clock alone. -/
theorem State.orbLen_unchanged {s : State} (ha : Awake s) (hr : s.sys.run = .ready) {v : Nat}
    (hsame : max 512 (v % 2 ^ 14) = s.get F.ORB_LEN_LEN) (bar : Bool) :
    ∃ t, exec (.orbLenWrite bar v) s = .next t ∧ regsBut [] s t ∧ t = { s with regs := t.regs, bus := t.bus } := by
  have hlenOf : s.get F.ORB_LEN_LEN = bitsOf (s.rd Reg.ORB_LEN) 0 14 := by unfold State.get; rfl
  have hw : s.newWord orbLenHit Reg.ORB_LEN (v % 2 ^ 32) = s.rd Reg.ORB_LEN := by
    rw [State.newWord_orbLen, Nat.mod_mod_of_dvd v (by decide : 2 ^ 14 ∣ 2 ^ 32), hsame, hlenOf, setBits_bitsOf]
  have hwrite := State.write_orbLen hr v bar
  rw [hw, State.wrote_orbLen, if_pos rfl, State.digested_same] at hwrite
  refine ⟨s.write bar Reg.ORB_LEN v, finish_eq ha (by rw [hwrite]; rfl) (by rw [hwrite]; rfl), ?_, ?_⟩ <;> rw [hwrite]
  · exact s.wr_rd_unchanged _
  · rfl

end Sys2Proof.Machine
end

section
/-! Time that passes over two dies that differ only in how their words are kept. -/

namespace Sys2Proof.Machine

/-- `t` reads as `s`: every word is the same, and but for the words' store and the bus so is everything else. -/
def State.ReadsAs (s t : State) : Prop := ∃ r b, t = { s with regs := r, bus := b } ∧ ∀ a, t.rd a = s.rd a

namespace State.ReadsAs

variable {s t : State}

theorem on (h : s.ReadsAs t) (f : Fld) : t.on f = s.on f := by
  obtain ⟨_, _, -, hrd⟩ := h
  exact State.on_congr (hrd _)

theorem frame (h : s.ReadsAs t) : t = { s with regs := t.regs, bus := t.bus } := by
  obtain ⟨r, b, rfl, -⟩ := h
  rfl

theorem regsBut (h : s.ReadsAs t) : regsBut [] s t := by
  obtain ⟨_, _, -, hrd⟩ := h
  exact fun a _ => hrd a

theorem wr (h : s.ReadsAs t) (a v : Nat) : (s.wr a v).ReadsAs (t.wr a v) := by
  obtain ⟨r, b, rfl, hrd⟩ := h
  refine ⟨_, b, rfl, fun c => ?_⟩
  rw [State.rd_wr, State.rd_wr, hrd c]

theorem put (h : s.ReadsAs t) (f : Fld) (v : Nat) : (s.put f v).ReadsAs (t.put f v) := by
  have hrd := h.regsBut f.reg (by simp)
  unfold State.put
  rw [hrd]
  exact h.wr _ _

theorem incBy (h : s.ReadsAs t) (a n : Nat) : (s.incBy a n).ReadsAs (t.incBy a n) := by
  have hrd := h.regsBut a (by simp)
  unfold State.incBy
  rw [hrd]
  exact h.wr _ _

/-- A change of other parts of the state keeps two such dies alike. -/
theorem map (h : s.ReadsAs t) (g : State → State) (hg : ∀ (u : State) r b, g { u with regs := r, bus := b } = { g u with regs := r, bus := b }) :
    (g s).ReadsAs (g t) := by
  obtain ⟨r, b, rfl, hrd⟩ := h
  have hself : g s = { g s with regs := s.regs, bus := s.bus } := hg s s.regs s.bus
  have hregs : (g s).regs = s.regs := by rw [hself]
  refine ⟨r, b, hg s r b, fun a => ?_⟩
  rw [hg, ← State.rd_congr hregs.symm a, ← hrd a]
  exact State.rd_congr rfl a

end State.ReadsAs

/-- The time and WALL `n` F-cycles on, of `inc` units each. -/
def State.tick (inc : Int) (n : Nat) (s : State) : State :=
  { s.setWall (s.wall.t + n * inc) with
    time := { s.time with
      now := s.time.now + n, slots := s.time.slots + (s.time.fcyc + n) / 64, fcyc := (s.time.fcyc + n) % 64
      slot := if s.time.counting then s.time.slot + (s.time.fcyc + n) / 64 else s.time.slot }
    wall := { s.wall with t := ((s.wall.t + n * inc) % (wallModulus : Int)).toNat, sinceAcc := s.wall.sinceAcc + (n * inc).toNat } }

/-- Time that passes within the orbit moves the counters on and counts the slots under BUSY. -/
theorem State.pass_eq (s : State) (n : Nat) : s.pass n =
    if s.on F.TRG_STATUS_BUSY ∧ 0 < (s.time.fcyc + n) / 64 then (s.tick s.wallInc n).incBy Reg.TRG_BUSY_SLOTS ((s.time.fcyc + n) / 64)
    else s.tick s.wallInc n := by
  unfold State.pass State.tick; rfl

/-- WALL's increment is of register words. -/
theorem State.ReadsAs.wallInc {s t : State} (h : s.ReadsAs t) : t.wallInc = s.wallInc := by
  unfold State.wallInc State.rdS
  rw [h.regsBut Reg.WALL_NOM (by simp), h.regsBut Reg.WALL_ADJ (by simp)]

theorem State.ReadsAs.pass {s t : State} (h : s.ReadsAs t) (n : Nat) : (s.pass n).ReadsAs (t.pass n) := by
  have htime : t.time = s.time := by rw [h.frame]
  have htick : (s.tick s.wallInc n).ReadsAs (t.tick s.wallInc n) := by
    generalize s.wallInc = inc
    exact h.map (State.tick inc n) fun _ _ _ => by unfold State.tick State.setWall; rfl
  rw [State.pass_eq, State.pass_eq, h.wallInc, h.on, htime]
  split
  · exact htick.incBy _ _
  · exact htick

/-- A bulk pass counts the window that ends, and the words left of a burst are dropped. -/
def State.windowEnds (bulk : Bool) (s : State) : State :=
  { s with
    vault := { s.vault with burst := 0 }
    vtdc := if bulk then { s.vtdc with windows := s.vtdc.windows + 1 } else s.vtdc }

/-- The pairs of a bulk pass stop. -/
def State.pairsStop (bulk : Bool) (s : State) : State :=
  { s with vtdc := if bulk then { s.vtdc with
      dflt := s.vtdc.dflt.stop
      pairs := (s.vtdc.pairs.map (fun p => (p.1, p.2.stop))).filter (fun p => decide (p.2 ≠ s.vtdc.dflt.stop)) } else s.vtdc }

/-- The copy of a repair pauses. -/
def State.repairPauses (f : Nat) (s : State) : State := { s with vault := { s.vault with repair := s.vault.repair.map (Repair.pause f) } }

theorem State.stopQuietWork_eq (s : State) (f : Nat) :
    s.stopQuietWork f = (s.pairsStop (s.on F.VTDC_STATUS_BULK_ACTIVE)).repairPauses f := by
  unfold State.stopQuietWork State.stopPairs State.pairsStop State.repairPauses
  cases s.on F.VTDC_STATUS_BULK_ACTIVE <;> rfl

theorem State.closeQuiet_eq (s : State) : s.closeQuiet =
    if s.sys.run.capturing then
      ((s.put F.ORB_STATUS_QUIET 0).windowEnds (s.on F.VTDC_STATUS_BULK_ACTIVE)).stopQuietWork s.quietEndF
    else (s.put F.ORB_STATUS_QUIET 0).windowEnds (s.on F.VTDC_STATUS_BULK_ACTIVE) := by
  unfold State.closeQuiet State.windowEnds
  cases s.on F.VTDC_STATUS_BULK_ACTIVE <;> rfl

theorem State.ReadsAs.stopQuietWork {s t : State} (h : s.ReadsAs t) (f : Nat) : (s.stopQuietWork f).ReadsAs (t.stopQuietWork f) := by
  rw [State.stopQuietWork_eq, State.stopQuietWork_eq, h.on]
  exact (h.map (State.pairsStop _) fun _ _ _ => rfl).map (State.repairPauses f) fun _ _ _ => rfl

theorem State.ReadsAs.closeQuiet {s t : State} (h : s.ReadsAs t) : s.closeQuiet.ReadsAs t.closeQuiet := by
  have hrun : t.sys = s.sys := by rw [h.frame]
  have hend : t.quietEndF = s.quietEndF := by rw [h.frame]; rfl
  have hends := (h.put F.ORB_STATUS_QUIET 0).map (State.windowEnds (s.on F.VTDC_STATUS_BULK_ACTIVE)) fun _ _ _ => rfl
  rw [State.closeQuiet_eq, State.closeQuiet_eq, hrun, hend, h.on]
  split
  · exact hends.stopQuietWork _
  · exact hends

theorem State.elapse_eq (s : State) (n : Nat) : s.elapse n =
    if s.time.fRun then (if (s.pass n).quietOver then (s.pass n).closeQuiet else s.pass n) else s := by
  unfold State.elapse; rfl

theorem State.ReadsAs.elapse {s t : State} (h : s.ReadsAs t) (n : Nat) : (s.elapse n).ReadsAs (t.elapse n) := by
  have htime : t.time = s.time := by rw [h.frame]
  have hpass := h.pass n
  have hover : (t.pass n).quietOver = (s.pass n).quietOver := by
    have hptime : (t.pass n).time = (s.pass n).time := by rw [hpass.frame]
    unfold State.quietOver State.quietAt
    rw [hpass.on, hptime]
  rw [State.elapse_eq, State.elapse_eq, htime, hover]
  split
  · split
    · exact hpass.closeQuiet
    · exact hpass
  · exact h

/-- With the F-clock machine time moves on. -/
theorem State.elapse_now {s : State} (hf : s.time.fRun = true) (n : Nat) : (s.elapse n).time.now = s.time.now + n := by
  have hpass : (s.pass n).time.now = s.time.now + n := by
    rw [State.pass_eq]
    split <;> rfl
  rw [State.elapse_eq, if_pos hf]
  split
  · rw [State.closeQuiet_frame, hpass]
  · exact hpass

end Sys2Proof.Machine
end

section
/-! Commands of WALL_CMD (R73). -/

namespace Sys2Proof.Machine

/-- The die as a write of WALL_CMD leaves it before the command: nothing is stored, and a split read of the register is over. -/
def State.wallCmdStored (s : State) : State := (s.letGo Reg.WALL_CMD).wr Reg.WALL_CMD (s.rd Reg.WALL_CMD)

theorem State.wallCmdStored_readsAs (s : State) : s.ReadsAs s.wallCmdStored :=
  ⟨_, _, rfl, fun a => s.wr_rd_unchanged _ a (by simp)⟩

/-- SET_NOW of WALL_CMD. -/
theorem State.write_wallSetNow {s : State} (hr : s.sys.run.isReady = true) (hsrc : s.get F.WALL_SERVO_SRC ≠ 1) (bar : Bool) :
    s.write bar Reg.WALL_CMD 1 = s.wallCmdStored.wallSetNow := by
  rw [State.write_wallCmd hr hsrc, ← State.wallCmdStored]
  unfold State.wrote
  rfl

/-- SET_AT_PPS of WALL_CMD. -/
theorem State.write_wallSetAtPps {s : State} (hr : s.sys.run.isReady = true) (hsrc : s.get F.WALL_SERVO_SRC ≠ 1) (bar : Bool) :
    s.write bar Reg.WALL_CMD 2 = { s.wallCmdStored with wall := { s.wall with setAtPps := true } } := by
  rw [State.write_wallCmd hr hsrc, ← State.wallCmdStored]
  unfold State.wrote
  rfl

/-- The outcome of SET_NOW. -/
theorem exec_wallSetNow {s : State} (hr : s.sys.run.isReady = true) (hsrc : s.get F.WALL_SERVO_SRC ≠ 1) (bar : Bool) :
    exec (.wallSetNow bar) s = finish s s.wallCmdStored.wallSetNow :=
  congrArg (finish s) (State.write_wallSetNow hr hsrc bar)

/-- Without the F-clock SET_NOW waits for it. -/
theorem State.wallSetNow_stopped {x : State} (hf : x.time.fRun = false) : x.wallSetNow = { x with wall := { x.wall with setNow := true } } := by
  unfold State.wallSetNow
  rw [hf]
  rfl

/-- In an orbit's last F-cycle SET_NOW waits for the next orbit's first. -/
theorem State.wallSetNow_deferred {x : State} (hf : x.time.fRun = true) (hc : x.time.counting = true)
    (hlast : x.time.len * 64 ≤ x.time.slot * 64 + x.time.fcyc + 1) : x.wallSetNow = x.defer .wallSet := by
  unfold State.wallSetNow State.nextF
  rw [if_pos hf, if_pos (Or.inr ⟨hc, hlast⟩)]

/-- In any other F-cycle WALL takes the setting in the next one. -/
theorem State.wallSetNow_next {x : State} (hf : x.time.fRun = true)
    (hmore : x.time.counting = true → x.time.slot * 64 + x.time.fcyc + 1 < x.time.len * 64) : x.wallSetNow = (x.elapse 1).wallLoad := by
  unfold State.wallSetNow State.nextF
  rw [if_pos hf, if_neg]
  rintro (h | ⟨hc, hle⟩)
  · exact h hf
  · exact absurd (hmore hc) (by omega)

/-- SET_NOW while the F-clock stands. -/
theorem wallSetNow_stopped {s : State} (ha : Awake s) (hr : s.sys.run.isReady = true) (hsrc : s.get F.WALL_SERVO_SRC ≠ 1)
    (hf : s.time.fRun = false) (bar : Bool) : ∃ t, exec (.wallSetNow bar) s = .next t ∧
      t.wall = { s.wall with setNow := true } ∧ regsBut [] s t ∧ t = { s with regs := t.regs, wall := t.wall, bus := t.bus } := by
  obtain ⟨r, b, hx, hrd⟩ := s.wallCmdStored_readsAs
  rw [exec_wallSetNow hr hsrc, State.wallSetNow_stopped (by rw [hx]; exact hf)]
  generalize s.wallCmdStored = x at *
  subst hx
  exact ⟨_, finish_eq ha rfl rfl, rfl, fun a _ => (State.rd_congr rfl a).trans (hrd a), rfl⟩

/-- SET_NOW in an orbit's last F-cycle. -/
theorem wallSetNow_deferred {s : State} (ha : Awake s) (hr : s.sys.run.isReady = true) (hsrc : s.get F.WALL_SERVO_SRC ≠ 1)
    (hf : s.time.fRun = true) (hc : s.time.counting = true) (hlast : s.time.len * 64 ≤ s.time.slot * 64 + s.time.fcyc + 1) (bar : Bool) :
    ∃ t, exec (.wallSetNow bar) s = .next t ∧ t.time = { s.time with later := s.time.later ++ [.wallSet] } ∧ regsBut [] s t ∧
      t = { s with regs := t.regs, time := t.time, bus := t.bus } := by
  obtain ⟨r, b, hx, hrd⟩ := s.wallCmdStored_readsAs
  rw [exec_wallSetNow hr hsrc, State.wallSetNow_deferred (by rw [hx]; exact hf) (by rw [hx]; exact hc) (by rw [hx]; exact hlast)]
  generalize s.wallCmdStored = x at *
  subst hx
  exact ⟨_, finish_eq ha rfl rfl, rfl, fun a _ => (State.rd_congr rfl a).trans (hrd a), rfl⟩

/-- SET_NOW in any other F-cycle. -/
theorem wallSetNow_next {s : State} (ha : Awake s) (hr : s.sys.run.isReady = true) (hsrc : s.get F.WALL_SERVO_SRC ≠ 1)
    (hf : s.time.fRun = true) (hmore : s.time.counting = true → s.time.slot * 64 + s.time.fcyc + 1 < s.time.len * 64) (bar : Bool) :
    ∃ t, exec (.wallSetNow bar) s = .next t ∧ t.wall = { (s.elapse 1).wall with t := s.wallSetting % wallModulus } ∧
      t.time = (s.elapse 1).time ∧ t.on F.WALL_STATUS_STEPPED = true ∧ regsBut [Reg.WALL_STATUS] (s.elapse 1) t ∧
      t = { s.elapse 1 with regs := t.regs, wall := t.wall, bus := t.bus } := by
  have hx := s.wallCmdStored_readsAs
  have htime : s.wallCmdStored.time = s.time := by rw [hx.frame]
  obtain ⟨hwall, hstep, hregs, hfr⟩ := (s.wallCmdStored.elapse 1).wallLoad_spec
  have hy := hx.elapse 1
  have hset : (s.wallCmdStored.elapse 1).wallSetting = s.wallSetting := State.wallSetting_congr fun a hmem =>
    (hy.regsBut a (by simp)).trans (s.elapse_rd 1 a (ne_of_mem_wallSet hmem).1 (ne_of_mem_wallSet hmem).2)
  have hsys : (s.elapse 1).sys = s.sys := s.elapse_sys 1
  have hpend : (s.elapse 1).pending = s.pending := s.elapse_pending 1
  rw [exec_wallSetNow hr hsrc, State.wallSetNow_next (by rw [htime]; exact hf) (by rw [htime]; exact hmore)]
  rw [hset] at hwall
  generalize s.wallSetting % wallModulus = m at *
  generalize (s.wallCmdStored.elapse 1).wallLoad = t at *
  obtain ⟨r, b, hyfr, hyrd⟩ := hy
  generalize s.wallCmdStored.elapse 1 = y at *
  generalize s.elapse 1 = u at *
  subst hyfr
  refine ⟨t, finish_eq ha ?_ ?_, hwall, ?_, hstep, fun a hmem => (hregs a hmem).trans (hyrd a), ?_⟩
  · rw [hfr, ← hsys]
  · rw [hfr, ← hpend]
  · rw [hfr]
  · rw [hfr]

/-- SET_AT_PPS waits for the next PPS edge. -/
theorem wallSetAtPps_pending {s : State} (ha : Awake s) (hr : s.sys.run.isReady = true) (hsrc : s.get F.WALL_SERVO_SRC ≠ 1) (bar : Bool) :
    ∃ t, exec (.wallSetAtPps bar) s = .next t ∧ t.wall = { s.wall with setAtPps := true } ∧ regsBut [] s t ∧
      t = { s with regs := t.regs, wall := t.wall, bus := t.bus } := by
  obtain ⟨r, b, hx, hrd⟩ := s.wallCmdStored_readsAs
  have hexec : exec (.wallSetAtPps bar) s = finish s { s.wallCmdStored with wall := { s.wall with setAtPps := true } } :=
    congrArg (finish s) (State.write_wallSetAtPps hr hsrc bar)
  rw [hexec]
  generalize s.wallCmdStored = x at *
  subst hx
  exact ⟨_, finish_eq ha rfl rfl, rfl, fun a _ => (State.rd_congr rfl a).trans (hrd a), rfl⟩

/-- Settles O14: a changed word of ORB_CLK or ORB_LEN re-locks the PLL and moves the loop while the counters run on, a word that stores
what stands there changes nothing, and the commands of WALL_CMD act on a die that reads as before the write. -/
theorem clockAndWallWritesTakeEffect : Obligations.ClockAndWallWritesTakeEffect := by
  unfold Obligations.ClockAndWallWritesTakeEffect
  rintro s u bar v ha hr rfl
  refine ⟨fun hready hsrc hne => ?source, fun hready hsrc hsame => State.orbClk_unchanged ha hready hsrc hsame bar,
    fun hready hne => ?length, fun hready hsame => State.orbLen_unchanged ha hready hsame bar,
    fun hsrc hf => wallSetNow_stopped ha hr hsrc hf bar, fun hsrc hf hmore => ?next,
    fun hsrc hf hc hlast => wallSetNow_deferred ha hr hsrc hf hc hlast bar, fun hsrc => wallSetAtPps_pending ha hr hsrc bar⟩
  case source =>
    obtain ⟨t, hexec, hget, hm⟩ := State.orbClk_changed ha hready hsrc hne bar
    refine ⟨t, hexec, hget, hm.unlocked, by rw [← hget]; exact hm.loop, hm.gap, hm.closed, ?_, ?_, ?_, ?_, ?_, hm.others, hm.frame⟩ <;>
      rw [hm.runsOn]
  case length =>
    obtain ⟨t, hexec, hget, hm⟩ := State.orbLen_changed ha hready hne bar
    refine ⟨t, hexec, hget, ?_, hm.unlocked, hm.gap, hm.closed, ?_, ?_, ?_, ?_, ?_, hm.others, hm.frame⟩ <;> rw [hm.runsOn]
    rw [hget]
  case next =>
    obtain ⟨t, hexec, hwall, htime, hstep, hregs, hfr⟩ := wallSetNow_next ha hr hsrc hf hmore bar
    exact ⟨t, hexec, hwall, htime, State.elapse_now hf 1, hstep, hregs, hfr⟩

end Sys2Proof.Machine
end

section
/-! The dead check (R91) of a die whose register store holds a word between two registers' offsets: the scan for injected channels names
the channel of the register below it once more. -/

namespace Sys2Proof.Machine

/-- A RUNNING die whose injection window, with DEAD_CHECK set, has just closed without a hit of its injected channel 9; its register store
holds a word one byte above FE_CH 9, at no register's offset. -/
def strayInjected : State :=
  { sys := { run := .running, readyBall := true }
    regs := [(Reg.FE_NOISE, BitVec.ofNat 32 (3 * 2 ^ F.FE_NOISE_DEAD_LIMIT.lo)), (Reg.FE_CH 9, 4), (Reg.FE_CH 9 + 1, 4)]
    time := { slots := 1 }
    fe := { wins := [{ first := 0, last := 0, group := 9, stride := 4, dead := true }] } }

/-- The windows without a hit of channel 9 that an outcome leaves counted. -/
def missRunAfter : Host.Outcome State Fault Refusal → Option Nat
  | .next t => some (t.chan 9).missRun
  | _ => none

/-- The channel is checked twice, and its one missed window is counted twice. -/
theorem missRunAfter_strayInjected : missRunAfter (exec .injectionWindowClose strayInjected) = some 2 := by decide +kernel

/-- Refutes O20: in a canonical register store that holds a word beside FE_CH 9, one missed window raises the channel's count by 2. -/
theorem not_channelWindowsInjectionsAndOverrunsEnd : ¬ Obligations.ChannelWindowsInjectionsAndOverrunsEnd := by
  rintro ⟨-, hwindow, -⟩
  have hawake : Awake strayInjected := ⟨by decide, by decide⟩
  obtain ⟨hclose, -⟩ := hwindow strayInjected strayInjected 9 { first := 0, last := 0, group := 9, stride := 4, dead := true } [] hawake
  obtain ⟨t, ht, -, -, -, -, hmiss⟩ := hclose rfl rfl
  have hone : (t.chan 9).missRun = min 255 ((strayInjected.chan 9).missRun + 1) :=
    hmiss rfl rfl (by decide +kernel) (by decide +kernel) (by decide +kernel) (by decide +kernel) rfl (by decide +kernel) (by decide)
      (by decide +kernel)
  have htwo : some (t.chan 9).missRun = some 2 := by rw [← missRunAfter_strayInjected, ht]; rfl
  rw [hone] at htwo
  exact absurd htwo (by decide)

end Sys2Proof.Machine
end

section
/-! Operations of the front end on a die at an edge (R78–R82, R90, R96–R109), each once: what it changes and what it leaves alone. -/

namespace Sys2Proof.Machine

/-! Counters that rise with a condition. -/

/-- A counter rises by 1 where `b` holds. -/
def State.countIf (s : State) (b : Bool) (a : Nat) : State := if b then s.inc a else s

theorem State.countIf_frame (s : State) (b : Bool) (a : Nat) : ∃ r, s.countIf b a = { s with regs := r } := by
  cases b with
  | true => exact ⟨_, rfl⟩
  | false => exact ⟨s.regs, rfl⟩

@[simp] theorem State.chan_countIf (s : State) (b : Bool) (a m : Nat) : (s.countIf b a).chan m = s.chan m := by
  obtain ⟨r, hr⟩ := s.countIf_frame b a; rw [hr]; rfl

@[simp] theorem State.pair_countIf (s : State) (b : Bool) (a p : Nat) : (s.countIf b a).pair p = s.pair p := by
  obtain ⟨r, hr⟩ := s.countIf_frame b a; rw [hr]; rfl

theorem State.rd_countIf (s : State) (b : Bool) (a k : Nat) :
    (s.countIf b a).rd k = if k = a then min (s.rd a + b2n b) 0xFFFFFFFF else s.rd k := by
  cases b with
  | true => exact s.rd_incBy a 1 k
  | false =>
    split
    · next h =>
      have hlt := s.rd_lt a
      subst h
      exact (Nat.min_eq_left (Nat.le_of_lt_succ hlt)).symm
    · rfl

theorem State.countIf_regsBut (s : State) (b : Bool) (a : Nat) : regsBut [a] s (s.countIf b a) := fun k hk =>
  (s.rd_countIf b a k).trans (if_neg (by simpa using hk))

/-! Calibrations give way to an edge (R102, R113). -/

/-- `x` is die `u` with calibrations pre-empted: pairs may have lost a calibration or stopped, and CAL_ABORT_CNT may have risen. -/
structure State.Preempted (u x : State) : Prop where
  regs : regsBut [Reg.VTDC_CAL_ABORT_CNT] u x
  frame : ∃ r v, x = { u with regs := r, vtdc := v }
  pairs : ∀ q, ∃ c st, x.pair q = { u.pair q with cal := c, stopped := st }

theorem State.preempt_eq (s : State) (p : Nat) : s.preempt p = (s.countIf (s.pair p).cal Reg.VTDC_CAL_ABORT_CNT).setPair p { s.pair p with
    cal := false, stopped := (s.pair p).stopped || (decide (p < 32768) && s.on F.VTDC_STATUS_BULK_ACTIVE) } := rfl

theorem State.preempt_preempted (s : State) (p : Nat) : s.Preempted (s.preempt p) := by
  rw [State.preempt_eq]
  refine ⟨fun a ha => (State.rd_setPair _ _ _ _).trans (s.countIf_regsBut _ _ a ha), ?_, fun q => ?_⟩
  · obtain ⟨r, hr⟩ := s.countIf_frame (s.pair p).cal Reg.VTDC_CAL_ABORT_CNT
    rw [hr]
    exact ⟨_, _, rfl⟩
  · rw [State.pair_setPair, State.pair_countIf]
    split
    · next h => exact ⟨_, _, by rw [h]⟩
    · exact ⟨_, _, rfl⟩

theorem State.Preempted.trans {s t u : State} (h : s.Preempted t) (h' : t.Preempted u) : s.Preempted u := by
  obtain ⟨r, v, rfl⟩ := h.frame
  obtain ⟨r', v', rfl⟩ := h'.frame
  refine ⟨fun a ha => (h'.regs a ha).trans (h.regs a ha), ⟨r', v', rfl⟩, fun q => ?_⟩
  obtain ⟨c, st, hq⟩ := h.pairs q
  obtain ⟨c', st', hq'⟩ := h'.pairs q
  exact ⟨c', st', by rw [hq', hq]⟩

namespace State.Preempted
variable {u x : State} (h : u.Preempted x)
include h

theorem on {f : Fld} (hf : f.reg ≠ Reg.VTDC_CAL_ABORT_CNT) : x.on f = u.on f := State.on_congr (h.regs _ (by simpa using hf))

theorem isRetired (ty ix : Nat) : x.isRetired ty ix = u.isRetired ty ix := by
  obtain ⟨r, v, rfl⟩ := h.frame; rfl

theorem chan (m : Nat) : x.chan m = u.chan m := by
  obtain ⟨r, v, rfl⟩ := h.frame; rfl

/-- The pairs that are free stay free. -/
theorem pairFree (p : Nat) : x.pairFree p = u.pairFree p := by
  obtain ⟨c, st, hp⟩ := h.pairs p
  rw [State.pairFree, State.pairFree, h.isRetired, hp]

/-- A pair converts with the calibration it had. -/
theorem pairCal (p : Nat) : x.pairCal p = u.pairCal p := by
  obtain ⟨c, st, hp⟩ := h.pairs p
  obtain ⟨r, v, rfl⟩ := h.frame
  rw [State.pairCal, State.pairCal, hp]

/-- A stamp is stale as it was. -/
theorem pairStale (p t : Nat) : x.pairStale p t = u.pairStale p t := by
  obtain ⟨c, st, hp⟩ := h.pairs p
  have hage : x.get F.VTDC_CTRL_CAL_MAX_AGE = u.get F.VTDC_CTRL_CAL_MAX_AGE := by rw [State.get, State.get, h.regs _ (by decide)]
  rw [State.pairStale, State.pairStale, State.pairAgeAt, State.pairAgeAt, hp, hage]

/-- The neighbours in service are those they were. -/
theorem liveNeighbours (n t : Nat) : x.liveNeighbours n t = u.liveNeighbours n t := by
  have hne : ∀ m, Reg.FE_CH m ≠ Reg.VTDC_CAL_ABORT_CNT := fun m => by simp only [Reg.FE_CH, Reg.VTDC_CAL_ABORT_CNT]; omega
  have hoff : ∀ m, x.chanOff m = u.chanOff m := fun m => by
    rw [State.chanOff, State.chanOff, h.on (hne m), h.isRetired, State.tileUp, State.tileUp, h.isRetired, h.isRetired]
  have hmask : ∀ m, x.maskedAt m t = u.maskedAt m t := fun m => by
    rw [State.maskedAt, State.maskedAt, h.on (hne m), h.isRetired, h.chan]
  simp only [State.liveNeighbours, hoff, hmask]

end State.Preempted

/-! An edge is booked (R90, R91). -/

/-- A hit that is booked may raise its channel's noise count, and is noted in the windows. -/
theorem State.bookHit_spec (s : State) (n t : Nat) :
    s.bookHit n t = { s with fe := (s.bookHit n t).fe } ∧ (∀ m, m ≠ n → (s.bookHit n t).chan m = s.chan m) ∧
      ∃ k, (s.bookHit n t).chan n = { s.chan n with noise := k } := by
  unfold State.bookHit
  dsimp only
  split
  · refine ⟨rfl, fun m hm => ?_, min 15 ((s.chan n).noise + 1), ?_⟩
    · exact (State.chan_setChan _ _ _ _).trans (if_neg hm)
    · exact (State.chan_setChan _ _ _ _).trans (if_pos rfl)
  · exact ⟨rfl, fun _ _ => rfl, (s.chan n).noise, rfl⟩

end Sys2Proof.Machine
end

section
/-! The leading edge (R76, R79, R82, R88, R96–R98, R105). -/

namespace Sys2Proof.Machine

/-- The hit that an edge launched in F-cycle `launch` begins on pair `p` of channel `n`; its conversion counts to `cnt` (R105). -/
def State.hitOf (s : State) (launch n cnt p : Nat) : Hit0 :=
  let tfu := convTime launch (s.pairCal (2 * n + p)).1 (s.pairCal (2 * n + p)).2 cnt
  { pair := p, launch := launch, n := cnt, tfu := tfu, ovl := decide (511 ≤ cnt)
    stale := s.pairStale (2 * n + p) (tfu / 65536).toNat, nbrs := s.liveNeighbours n (tfu / 65536).toNat }

theorem State.Preempted.hitOf {u x : State} (h : u.Preempted x) (launch n cnt p : Nat) : x.hitOf launch n cnt p = u.hitOf launch n cnt p := by
  simp only [State.hitOf, h.pairCal, h.pairStale, h.liveNeighbours]

/-- Pair `p` begins hit `h` of channel `n`, whose state was `c` (R96–R98, R103). -/
def State.hitStamped (s : State) (n p : Nat) (c : Chan) (h : Hit0) : State :=
  ((s.setPair (2 * n + p) { s.pair (2 * n + p) with busy := true }).countIf h.stale Reg.VTDC_STALE_CNT).setChan n { c with
    high := true, ignored := false, lost := false, lastB := decide (p = 1), hits := c.hits ++ [h] }

/-- The hit begins, and its edge is booked and noted in its slot (R90, R176). -/
def State.beginHit (s : State) (n p : Nat) (c : Chan) (h : Hit0) : State :=
  ((s.hitStamped n p c h).bookHit n (h.tfu / 65536).toNat).noteEdge n (h.tfu / 65536).toNat

/-- What a hit that begins changes: its channel, its pair, the windows, the edges noted and STALE_CNT. -/
theorem State.beginHit_spec (s : State) (n p : Nat) (c : Chan) (h : Hit0) :
    (∃ k, (s.beginHit n p c h).chan n = { c with
        high := true, ignored := false, lost := false, lastB := decide (p = 1), hits := c.hits ++ [h], noise := k }) ∧
      (∀ m, m ≠ n → (s.beginHit n p c h).chan m = s.chan m) ∧ ((s.beginHit n p c h).pair (2 * n + p)).busy = true ∧
      regsBut [Reg.VTDC_STALE_CNT] s (s.beginHit n p c h) ∧
      ∃ r f v e, s.beginHit n p c h = { s with regs := r, fe := f, vtdc := v, trg := { s.trg with edges := e } } := by
  have hpair : ((s.hitStamped n p c h).pair (2 * n + p)).busy = true := by simp [State.hitStamped]
  have hregs : regsBut [Reg.VTDC_STALE_CNT] s (s.hitStamped n p c h) := fun a ha =>
    (State.rd_setChan _ _ _ _).trans ((State.countIf_regsBut _ _ _ a ha).trans (State.rd_setPair _ _ _ _))
  have hchan : ∀ m, (s.hitStamped n p c h).chan m = if m = n then { c with
      high := true, ignored := false, lost := false, lastB := decide (p = 1), hits := c.hits ++ [h] } else s.chan m := by
    simp [State.hitStamped]
  have hframe : ∃ r f v, s.hitStamped n p c h = { s with regs := r, fe := f, vtdc := v } := by
    obtain ⟨r, hr⟩ := (s.setPair (2 * n + p) { s.pair (2 * n + p) with busy := true }).countIf_frame h.stale Reg.VTDC_STALE_CNT
    rw [State.hitStamped, hr]
    exact ⟨_, _, _, rfl⟩
  obtain ⟨hbook, hothers, k, hself⟩ := (s.hitStamped n p c h).bookHit_spec n (h.tfu / 65536).toNat
  unfold State.beginHit
  dsimp only
  generalize s.hitStamped n p c h = y at *
  generalize y.bookHit n (h.tfu / 65536).toNat = b at *
  refine ⟨⟨k, hself.trans (by rw [hchan, if_pos rfl])⟩, fun m hm => (hothers m hm).trans (by rw [hchan, if_neg hm]),
    (congrArg Pair.busy (State.pair_congr (by rw [State.noteEdge, hbook]) _)).trans hpair,
    fun a ha => (State.rd_congr (by rw [State.noteEdge, hbook]) a).trans (hregs a ha), ?_⟩
  obtain ⟨r, f, v, hy⟩ := hframe
  rw [hbook, hy]
  exact ⟨_, _, _, _, rfl⟩

/-- Both pairs of channel `n` pre-empted. -/
def State.preemptBoth (s : State) (n : Nat) : State := (s.preempt (2 * n)).preempt (2 * n + 1)

theorem State.preemptBoth_preempted (s : State) (n : Nat) : s.Preempted (s.preemptBoth n) :=
  (s.preempt_preempted _).trans (State.preempt_preempted _ _)

section
variable {s u : State} {n ls lf : Nat} (hu : s.atCycle ls lf = some u) (cnt : Nat) {out : Int}
include hu

/-- A high output, or one below q_lead, makes no edge. -/
theorem leadingEdge_none (h : (u.chan n).high = true ∨ out < u.qLead n) : leadingEdge n ls lf cnt out s = u :=
  (State.reach_at hu _).trans (if_pos h)

variable (hlow : (u.chan n).high = false) (hq : u.qLead n ≤ out)
include hlow hq

/-- A low output that reaches q_lead makes an edge: past the first test of LEADING_EDGE. -/
theorem leadingEdge_comes : leadingEdge n ls lf cnt out s =
    if ¬ u.hears n (edgeFine u.fNow cnt / 65536) then u.setChan n { u.chan n with high := true, ignored := true }
    else if edgeFine u.fNow cnt < (u.chan n).holdTo then
      (u.setChan n { u.chan n with high := true, ignored := true }).incBy Reg.FE_HOLDOFF_CNT 1
    else if (u.chan n).blindIn (edgeFine u.fNow cnt / 65536) then u.setChan n { u.chan n with high := true, ignored := true }
    else if u.isRetired 2 (2 * n) ∧ u.isRetired 2 (2 * n + 1) then u.setChan n { u.chan n with high := true, ignored := true }
    else
      match choosePair ((u.preemptBoth n).pairFree (2 * n)) ((u.preemptBoth n).pairFree (2 * n + 1)) (u.chan n).lastB with
      | none => ((u.preemptBoth n).setChan n { u.chan n with high := true, ignored := false, lost := true }).incBy Reg.VTDC_LOST_CNT 1
      | some p => (u.preemptBoth n).beginHit n p (u.chan n) ((u.preemptBoth n).hitOf u.fNow n cnt p) := by
  refine (State.reach_at hu _).trans ?_
  refine (if_neg ?_).trans rfl
  rintro (h | h)
  · exact absurd h (by simp [hlow])
  · exact absurd h (Int.not_lt.mpr hq)

/-- An edge that is not heard is ignored. -/
theorem leadingEdge_unheard (hh : u.hears n (edgeFine u.fNow cnt / 65536) = false) :
    leadingEdge n ls lf cnt out s = u.setChan n { u.chan n with high := true, ignored := true } :=
  (leadingEdge_comes hu cnt hlow hq).trans (if_pos (by simp [hh]))

variable (hh : u.hears n (edgeFine u.fNow cnt / 65536) = true)
include hh

/-- An edge in hold-off is ignored and counted. -/
theorem leadingEdge_heldOff (hold : edgeFine u.fNow cnt < (u.chan n).holdTo) : leadingEdge n ls lf cnt out s =
    (u.setChan n { u.chan n with high := true, ignored := true }).incBy Reg.FE_HOLDOFF_CNT 1 :=
  ((leadingEdge_comes hu cnt hlow hq).trans (if_neg (by simp [hh]))).trans (if_pos hold)

variable (hpast : (u.chan n).holdTo ≤ edgeFine u.fNow cnt)
include hpast

/-- An edge on a blind channel, or on one with no pair in service, is ignored. -/
theorem leadingEdge_unserved (hb : ((u.chan n).blindIn (edgeFine u.fNow cnt / 65536) ||
      (u.isRetired 2 (2 * n) && u.isRetired 2 (2 * n + 1))) = true) :
    leadingEdge n ls lf cnt out s = u.setChan n { u.chan n with high := true, ignored := true } := by
  refine (((leadingEdge_comes hu cnt hlow hq).trans (if_neg (by simp [hh]))).trans (if_neg (Nat.not_lt.mpr hpast))).trans ?_
  by_cases hblind : (u.chan n).blindIn (edgeFine u.fNow cnt / 65536) = true
  · exact if_pos hblind
  · exact (if_neg hblind).trans (if_pos (by simpa [hblind] using hb))

variable (hb : (u.chan n).blindIn (edgeFine u.fNow cnt / 65536) = false)
  (hret : (u.isRetired 2 (2 * n) && u.isRetired 2 (2 * n + 1)) = false)
include hb hret

/-- An accepted edge pre-empts both pairs' calibrations; a free pair takes it, and with none free it is lost. -/
theorem leadingEdge_accepted : leadingEdge n ls lf cnt out s =
    match choosePair (u.pairFree (2 * n)) (u.pairFree (2 * n + 1)) (u.chan n).lastB with
    | none => ((u.preemptBoth n).setChan n { u.chan n with high := true, ignored := false, lost := true }).incBy Reg.VTDC_LOST_CNT 1
    | some p => (u.preemptBoth n).beginHit n p (u.chan n) (u.hitOf u.fNow n cnt p) := by
  have hreach := ((leadingEdge_comes hu cnt hlow hq).trans (if_neg (by simp [hh]))).trans (if_neg (Nat.not_lt.mpr hpast))
  have hx := u.preemptBoth_preempted n
  refine ((hreach.trans (if_neg (by simp [hb]))).trans (if_neg fun hr => by simp [hr.1, hr.2] at hret)).trans ?_
  simp only [hx.pairFree, hx.hitOf]

end

/-! The accepted edge as a command of an awake die. -/

section
variable {s u : State} {n ls lf cnt : Nat} {out : Int} (ha : Awake s) (hu : s.atCycle ls lf = some u)
  (hlow : (u.chan n).high = false) (hq : u.qLead n ≤ out) (hh : u.hears n (edgeFine u.fNow cnt / 65536) = true)
  (hpast : (u.chan n).holdTo ≤ edgeFine u.fNow cnt) (hb : (u.chan n).blindIn (edgeFine u.fNow cnt / 65536) = false)
  (hret : (u.isRetired 2 (2 * n) && u.isRetired 2 (2 * n + 1)) = false)
include ha hu hlow hq hh hpast hb hret

/-- With no free pair the edge is lost and counted (R98). -/
theorem leadingEdge_lost (hc : choosePair (u.pairFree (2 * n)) (u.pairFree (2 * n + 1)) (u.chan n).lastB = none) :
    ∃ t, exec (.leadingEdge n ls lf ⟨cnt, out⟩) s = .next t ∧ (t.chan n).high = true ∧ (t.chan n).lost = true ∧
      (t.chan n).hits = (u.chan n).hits ∧ t.rd Reg.VTDC_LOST_CNT = min (u.rd Reg.VTDC_LOST_CNT + 1) 0xFFFFFFFF ∧
      regsBut [Reg.VTDC_LOST_CNT, Reg.VTDC_CAL_ABORT_CNT] u t ∧ t = { u with regs := t.regs, fe := t.fe, vtdc := t.vtdc } := by
  have hedge := leadingEdge_accepted hu cnt hlow hq hh hpast hb hret
  have hx := u.preemptBoth_preempted n
  rw [hc] at hedge
  generalize u.preemptBoth n = x at *
  obtain ⟨r, v, hfr⟩ := hx.frame
  have hregs := hx.regs
  subst hfr
  refine ⟨_, (congrArg (finish s) hedge).trans (finish_at ha (State.atCycle_sys hu) rfl rfl), ?_, ?_, ?_, ?_, fun a hne => ?_, rfl⟩
  · simp
  · simp
  · simp
  · rw [State.rd_incBy, if_pos rfl, State.rd_setChan, hregs _ (by decide)]
  · simp only [List.mem_cons, List.not_mem_nil, or_false, not_or] at hne
    rw [State.rd_incBy, if_neg hne.1, State.rd_setChan]
    exact hregs a (by simpa using hne.2)

/-- A free pair takes the edge, and the channel's hits gain the one that it begins (R96–R98, R105). -/
theorem leadingEdge_taken {p : Nat} (hc : choosePair (u.pairFree (2 * n)) (u.pairFree (2 * n + 1)) (u.chan n).lastB = some p) :
    ∃ t, exec (.leadingEdge n ls lf ⟨cnt, out⟩) s = .next t ∧ (t.chan n).high = true ∧ (t.chan n).lost = false ∧
      (t.chan n).lastB = decide (p = 1) ∧ (t.pair (2 * n + p)).busy = true ∧ (t.chan n).hits = (u.chan n).hits ++ [u.hitOf u.fNow n cnt p] ∧
      (∀ m, m ≠ n → t.chan m = u.chan m) ∧ regsBut [Reg.VTDC_STALE_CNT, Reg.VTDC_CAL_ABORT_CNT] u t ∧
      t = { u with regs := t.regs, fe := t.fe, vtdc := t.vtdc, trg := { u.trg with edges := t.trg.edges } } := by
  have hedge := leadingEdge_accepted hu cnt hlow hq hh hpast hb hret
  have hx := u.preemptBoth_preempted n
  rw [hc] at hedge
  dsimp only at hedge
  generalize u.preemptBoth n = x at *
  obtain ⟨⟨k, hchan⟩, hothers, hbusy, hregs, r, f, v, e, hfr⟩ := x.beginHit_spec n p (u.chan n) (u.hitOf u.fNow n cnt p)
  generalize x.beginHit n p (u.chan n) (u.hitOf u.fNow n cnt p) = t at *
  obtain ⟨r', v', hx'⟩ := hx.frame
  have hframe : t = { u with regs := r, fe := f, vtdc := v, trg := { u.trg with edges := e } } := by rw [hfr, hx']
  refine ⟨t, (congrArg (finish s) hedge).trans (finish_at ha (State.atCycle_sys hu) (by rw [hframe]) (by rw [hframe])), ?_, ?_, ?_, hbusy, ?_,
    fun m hm => (hothers m hm).trans (hx.chan m), fun a hne => ?_, by rw [hframe]⟩
  · rw [hchan]
  · rw [hchan]
  · rw [hchan]
  · rw [hchan]
  · simp only [List.mem_cons, List.not_mem_nil, or_false, not_or] at hne
    exact (hregs a (by simpa using hne.1)).trans (hx.regs a (by simpa using hne.2))

end

end Sys2Proof.Machine
end

section
/-! The trailing edge (R74, R78, R79, R106–R109). -/

namespace Sys2Proof.Machine

/-- The open hits of a list with TOT, ORDER, TIMEOUT and NARROW of a trailing edge put to the first (R106–R109). -/
def closedBy (e : Nat × Bool × Bool × Bool) : List Hit0 → List Hit0 :=
  closeHit (fun g => { g with tot := some e.1, order := e.2.1, tmo := g.tmo || e.2.2.1, narrow := e.2.2.2 })

/-- The hit in progress on channel `n` gets its TOT, and ORDER, TIMEOUT and NARROW are counted. -/
def State.totTaken (s : State) (n : Nat) (e : Nat × Bool × Bool × Bool) : State :=
  (((s.setChan n { s.chan n with hits := closedBy e (s.chan n).hits }).countIf e.2.1 Reg.VTDC_ORDER_CNT).countIf
    e.2.2.1 Reg.VTDC_TIMEOUT_CNT).countIf e.2.2.2 Reg.VTDC_NARROW_CNT

/-- What the TOT of a hit changes: its channel's hits and the three counters. -/
theorem State.totTaken_spec (s : State) (n : Nat) (e : Nat × Bool × Bool × Bool) :
    (∃ r f, s.totTaken n e = { s with regs := r, fe := f }) ∧
      (∀ m, (s.totTaken n e).chan m = if m = n then { s.chan n with hits := closedBy e (s.chan n).hits } else s.chan m) ∧
      (s.totTaken n e).rd Reg.VTDC_NARROW_CNT = min (s.rd Reg.VTDC_NARROW_CNT + b2n e.2.2.2) 0xFFFFFFFF ∧
      regsBut [Reg.VTDC_ORDER_CNT, Reg.VTDC_TIMEOUT_CNT, Reg.VTDC_NARROW_CNT] s (s.totTaken n e) := by
  unfold State.totTaken
  refine ⟨?_, fun m => by simp, by simp [State.rd_countIf], fun a ha => ?_⟩
  · obtain ⟨r, hr⟩ := (s.setChan n { s.chan n with hits := closedBy e (s.chan n).hits }).countIf_frame e.2.1 Reg.VTDC_ORDER_CNT
    rw [hr]
    obtain ⟨r', hr'⟩ := State.countIf_frame _ e.2.2.1 Reg.VTDC_TIMEOUT_CNT
    rw [hr']
    obtain ⟨r'', hr''⟩ := State.countIf_frame _ e.2.2.2 Reg.VTDC_NARROW_CNT
    rw [hr'']
    exact ⟨_, _, rfl⟩
  · simp only [List.mem_cons, List.not_mem_nil, or_false, not_or] at ha
    obtain ⟨hord, htmo, hnar⟩ := ha
    rw [State.rd_countIf, if_neg hnar, State.rd_countIf, if_neg htmo, State.rd_countIf, if_neg hord, State.rd_setChan]

section
variable {s u : State} {n ts tq : Nat} {out : Int} (hu : s.atCycle ts (tq / 4) = some u)
include hu

/-- A low output, or one still at q_trail, makes no edge. -/
theorem trailingEdge_none (h : (u.chan n).high = false ∨ u.qTrail n ≤ out) : trailingEdge n ts tq out s = u :=
  (State.reach_at hu _).trans (if_pos (h.imp (by simp [·]) id))

variable (hhigh : (u.chan n).high = true) (hq : out < u.qTrail n)
include hhigh hq

/-- A high output that falls below q_trail makes an edge: past the first test of TRAILING_EDGE. -/
theorem trailingEdge_comes : trailingEdge n ts tq out s =
    if (u.chan n).ignored ∨ ¬ u.listens then u.setChan n { u.chan n with high := false, ignored := false }
    else
      match (u.chan n).hits.find? (fun h => h.tot.isNone) with
      | none => u.goLow n ((u.time.slots * 256 + tq) * 256 + 128)
      | some h => (u.totTaken n (totOf (u.time.slots * 256 + tq) h.tfu (u.get F.VTDC_CTRL_NARROW_MIN))).goLow n
          ((u.time.slots * 256 + tq) * 256 + 128) := by
  refine (State.reach_at hu _).trans ?_
  refine (if_neg ?_).trans rfl
  rintro (h | h)
  · exact h hhigh
  · exact absurd hq (Int.not_lt.mpr h)

/-- An edge that ends an ignored pulse, or is not listened to, leaves the output low. -/
theorem trailingEdge_ignored (h : (u.chan n).ignored = true ∨ u.listens = false) :
    trailingEdge n ts tq out s = u.setChan n { u.chan n with high := false, ignored := false } :=
  (trailingEdge_comes hu hhigh hq).trans (if_pos (h.imp id (by simp [·])))

/-- The edge of the hit in progress, as a command of an awake die. -/
theorem trailingEdge_ends (ha : Awake s) (hig : (u.chan n).ignored = false) (hl : u.listens = true) {h : Hit0}
    (hf : (u.chan n).hits.find? (fun h => h.tot.isNone) = some h) {e : Nat × Bool × Bool × Bool}
    (he : totOf (u.time.slots * 256 + tq) h.tfu (u.get F.VTDC_CTRL_NARROW_MIN) = e) :
    ∃ t, exec (.trailingEdge n ts ⟨tq, out⟩) s = .next t ∧ (t.chan n).high = false ∧
      (t.chan n).holdTo = (u.time.slots * 256 + tq) * 256 + 128 + u.get F.FE_THR_HOLDOFF * 1024 ∧
      (t.chan n).hits = closedBy e (u.chan n).hits ∧
      t.rd Reg.VTDC_NARROW_CNT = min (u.rd Reg.VTDC_NARROW_CNT + b2n e.2.2.2) 0xFFFFFFFF ∧
      (∀ m, m ≠ n → t.chan m = u.chan m) ∧
      regsBut [Reg.VTDC_ORDER_CNT, Reg.VTDC_TIMEOUT_CNT, Reg.VTDC_NARROW_CNT] u t ∧ t = { u with regs := t.regs, fe := t.fe } := by
  have hedge := (trailingEdge_comes hu hhigh hq).trans (if_neg (by simp [hig, hl]))
  simp only [hf, he] at hedge
  obtain ⟨⟨r, f, hframe⟩, hchan, hnarrow, hregs⟩ := u.totTaken_spec n e
  generalize u.totTaken n e = x at *
  have hhold : x.get F.FE_THR_HOLDOFF = u.get F.FE_THR_HOLDOFF := by rw [State.get, State.get, hregs _ (by decide)]
  have hn : x.chan n = { u.chan n with hits := closedBy e (u.chan n).hits } := (hchan n).trans (if_pos rfl)
  have hpend := State.atCycle_sys hu
  subst hframe
  refine ⟨_, (congrArg (finish s) hedge).trans (finish_at ha hpend rfl rfl), ?_, ?_, ?_, (State.rd_setChan _ _ _ _).trans hnarrow,
    fun m hm => ?_, fun a hne => (State.rd_setChan _ _ _ _).trans (hregs a hne), rfl⟩
  · simp [State.goLow]
  · simp [State.goLow, hhold]
  · simp [State.goLow, hn]
  · rw [State.goLow, State.chan_setChan, if_neg hm, hchan m, if_neg hm]

end

/-- With no trailing edge in time, TOT is 4,095 and TIMEOUT is counted (R109). -/
theorem totTimeout_reached {s u : State} {n : Nat} {h : Hit0} (hf : (s.chan n).hits.find? (fun h => h.tot.isNone) = some h)
    (hu : s.atF (h.launch + 1024) = some u) : totTimeout n s = (u.setChan n { u.chan n with
      hits := closeHit (fun h => { h with tot := some 4095, tmo := true }) (u.chan n).hits }).incBy Reg.VTDC_TIMEOUT_CNT 1 := by
  unfold totTimeout
  simp only [hf]
  exact State.reachF_at hu _

/-- Settles O19: each branch of LEADING_EDGE, TRAILING_EDGE and TOT_TIMEOUT, on the die at the moment that the command carries. -/
theorem edgesAreStampedAndGiveTheirTot : Obligations.EdgesAreStampedAndGiveTheirTot := by
  unfold Obligations.EdgesAreStampedAndGiveTheirTot
  refine ⟨fun s u n ls lf cnt out ha _ hu => ?leading, fun s u n ts tq out h ha => ?trailing⟩
  case leading =>
    have hsys := State.atCycle_sys hu
    exact ⟨fun h => (congrArg (finish s) (leadingEdge_none hu cnt h)).trans (finish_at ha hsys rfl rfl),
      fun hlow hq =>
        ⟨fun hh => (congrArg (finish s) (leadingEdge_unheard hu cnt hlow hq hh)).trans (finish_at ha hsys rfl rfl),
          fun hh hold => (congrArg (finish s) (leadingEdge_heldOff hu cnt hlow hq hh hold)).trans (finish_at ha hsys rfl rfl),
          fun hh hpast hb => (congrArg (finish s) (leadingEdge_unserved hu cnt hlow hq hh hpast hb)).trans (finish_at ha hsys rfl rfl),
          fun hh hpast hb hret => ⟨fun hc => leadingEdge_lost ha hu hlow hq hh hpast hb hret hc,
            fun p hc => leadingEdge_taken ha hu hlow hq hh hpast hb hret hc⟩⟩⟩
  case trailing =>
    exact ⟨fun hu hnone => (congrArg (finish s) (trailingEdge_none hu hnone)).trans (finish_at ha (State.atCycle_sys hu) rfl rfl),
      fun hu hhigh hq hig hl hf => trailingEdge_ends hu hhigh hq ha hig hl hf rfl,
      fun hu hhigh hq hig =>
        (congrArg (finish s) (trailingEdge_ignored hu hhigh hq hig)).trans (finish_at ha (State.atCycle_sys hu) rfl rfl),
      fun hf hu => (congrArg (finish s) (totTimeout_reached hf hu)).trans (finish_at ha (State.atF_sys hu) rfl rfl)⟩

end Sys2Proof.Machine
end

section
/-! The tiles' buffers and the counter memory, the two stores that a completed hit enters (R131, R195). Alerts, strikes, arbiters and the
vault's increments leave both alone. -/

namespace Sys2Proof.Machine

/-- The tiles and the counter memory. -/
def State.hitStores (s : State) : List (Nat × Tile) × List (Nat × Nat) := (s.tiles, s.tally.mem)

theorem State.hitStores_mk (x0 x1 x2 x3 x4 x5 x6 x7 x8 x9 x10 x11 x12 x13 x14 x15 x16 x17 x18 x19 x20 x21 x22 x23 x24 x25 x26 x27 x28 x29) :
    (State.mk x0 x1 x2 x3 x4 x5 x6 x7 x8 x9 x10 x11 x12 x13 x14 x15 x16 x17 x18 x19 x20 x21 x22 x23 x24 x25 x26 x27 x28 x29).hitStores =
      (x8, x16.mem) := Eq.trans rfl rfl
@[simp] theorem State.hitStores_eta (s : State) : (s.tiles, s.tally.mem) = s.hitStores := Eq.trans rfl rfl
@[simp] theorem State.hitStores_ite (c : Prop) [Decidable c] (s t : State) :
    (if c then s else t).hitStores = if c then s.hitStores else t.hitStores := apply_ite State.hitStores c s t

theorem State.tword_of_hitStores {s t : State} (h : t.hitStores = s.hitStores) (w : Nat) : t.tword w = s.tword w :=
  congrArg (fun m => sget 0 m w) (congrArg Prod.snd h)

@[simp] theorem State.wr_hitStores (s : State) (a v : Nat) : (s.wr a v).hitStores = s.hitStores := Eq.trans rfl rfl
@[simp] theorem State.put_hitStores (s : State) (f : Fld) (v : Nat) : (s.put f v).hitStores = s.hitStores := Eq.trans rfl rfl
@[simp] theorem State.incBy_hitStores (s : State) (a n : Nat) : (s.incBy a n).hitStores = s.hitStores := Eq.trans rfl rfl
@[simp] theorem State.setArb_hitStores (s : State) (i : Nat) (a : Arb) : (s.setArb i a).hitStores = s.hitStores := Eq.trans rfl rfl
@[simp] theorem State.setVword_hitStores (s : State) (w v : Nat) : (s.setVword w v).hitStores = s.hitStores := Eq.trans rfl rfl
@[simp] theorem State.setBankQ_hitStores (s : State) (b : Nat) (v : BankQ) : (s.setBankQ b v).hitStores = s.hitStores := Eq.trans rfl rfl
@[simp] theorem State.alert_hitStores (s : State) (sev : Sev) (a b ut ui d : Nat) : (s.alert sev a b ut ui d).hitStores = s.hitStores := by
  rw [State.alert_frame]; rfl
@[simp] theorem State.addStrike_hitStores (s : State) (ty ix : Nat) : (s.addStrike ty ix).hitStores = s.hitStores := by
  simp [State.addStrike, ↓State.hitStores_mk]
@[simp] theorem State.retire_hitStores (s : State) (ty ix : Nat) : (s.retire ty ix).hitStores = s.hitStores := by
  simp [State.retire, ↓State.hitStores_mk]
@[simp] theorem State.arbTurn_hitStores (s : State) (i : Nat) : (s.arbTurn i).hitStores = s.hitStores := by simp [State.arbTurn]
@[simp] theorem State.bankOp_hitStores (s : State) (b r : Nat) : (s.bankOp b r).hitStores = s.hitStores := by simp [State.bankOp]
@[simp] theorem State.queueRow_hitStores (s : State) (row : Nat) : (s.queueRow row).hitStores = s.hitStores := by
  simp [State.queueRow, ↓State.hitStores_mk]
@[simp] theorem State.strikeRow_hitStores (s : State) (row : Nat) : (s.strikeRow row).hitStores = s.hitStores := by simp [State.strikeRow]
@[simp] theorem State.vaultErr_hitStores (s : State) (typ w syn : Nat) : (s.vaultErr typ w syn).hitStores = s.hitStores := by
  simp [State.vaultErr]
@[simp] theorem State.noteCorrected_hitStores (s : State) (w : Nat) : (s.noteCorrected w).hitStores = s.hitStores := by
  simp [State.noteCorrected, ↓State.hitStores_mk]
@[simp] theorem State.vaultSeen_hitStores (s : State) (w : Nat) (f : Found) : (s.vaultSeen w f).hitStores = s.hitStores := by
  cases f <;> simp [State.vaultSeen]
@[simp] theorem State.vaultNote_hitStores (s : State) (w : Nat) (f : Found) : (s.vaultNote w f).hitStores = s.hitStores := by
  cases f <;> simp [State.vaultNote]
@[simp] theorem State.addEntry_hitStores (s : State) (e k : Nat) : (s.addEntry e k).hitStores = s.hitStores := by
  unfold State.addEntry; dsimp only; split <;> simp
@[simp] theorem serveBank_hitStores (b k : Nat) (s : State) : (serveBank b k s).hitStores = s.hitStores := by
  induction k generalizing s with
  | zero => rfl
  | succ k ih => unfold serveBank; split <;> simp [ih]
@[simp] theorem State.bankNow_hitStores (s : State) (b : Nat) : (s.bankNow b).hitStores = s.hitStores := by simp [State.bankNow]
@[simp] theorem State.incEntry_hitStores (s : State) (e : Nat) : (s.incEntry e).hitStores = s.hitStores := by
  simp [State.incEntry, ↓State.hitStores_mk]

end Sys2Proof.Machine
end

section
/-! A completed hit on its way into its tile and the tally (R111, R131–R138, R195–R205). -/

namespace Sys2Proof.Machine

/-! The counter memory (R195). -/

/-- The counter memory after an update of one word. -/
@[simp] theorem State.tword_setTword (s : State) (w v j : Nat) : (s.setTword w v).tword j = if j = w then v else s.tword j := by
  simp only [State.tword, State.setTword]; exact sget_sset _ _ _ _ _

/-- Another word of the counter memory keeps its value. -/
theorem State.tword_addCounter_other (s : State) {word w' : Nat} (h : w' ≠ word) (lo w k : Nat) :
    (s.addCounter word lo w k).tword w' = s.tword w' := by
  have hset : ∀ v, (s.setTword word v).tword w' = s.tword w' := fun v => (s.tword_setTword word v w').trans (if_neg h)
  unfold State.addCounter
  dsimp only
  split
  · rfl
  · exact hset _
  · exact hset _

/-- A word that is neither poisoned nor uncorrectable takes the saturated sum. -/
theorem State.tword_addCounter_same (s : State) {word : Nat} (hp : found (s.tword word) ≠ .poisoned) (hb : found (s.tword word) ≠ .bad)
    (lo w k : Nat) : (s.addCounter word lo w k).tword word =
      fresh72 (setBits (dataOf (s.tword word)) lo w (min (2 ^ w - 1) (bitsOf (dataOf (s.tword word)) lo w + k))) := by
  unfold State.addCounter
  dsimp only
  split
  · next h => exact absurd h hp
  · next h => exact absurd h hb
  · rw [State.tword_setTword, if_pos rfl]

/-- Counters leave the tiles alone. -/
theorem State.addCounter_tiles (s : State) (word lo w k : Nat) : (s.addCounter word lo w k).tiles = s.tiles := by
  have hset : ∀ v, (s.setTword word v).tiles = s.tiles := fun _ => rfl
  unfold State.addCounter
  dsimp only
  split
  · rfl
  · exact hset _
  · exact hset _

/-! A counted hit (R195, R200, R205). -/

/-- The hit count and the TOT sum of a channel take a hit, each where it is enabled (R195). -/
def State.addHit (s : State) (n tot : Nat) : State :=
  let s1 := if s.on F.TALLY_CTRL_CNT_EN then s.addCounter (n / 2) (32 * (n % 2)) 32 1 else s
  if s.on F.TALLY_CTRL_SUM_EN then s1.addCounter (8192 + n) 0 48 tot else s1

/-- Histogram and occupancy take a hit that the sampling lets through (R200, R205). -/
def State.sampleHit (s : State) (n slot fine tot : Nat) : State :=
  let x := lfsrNext s.tally.lfsr
  let h := s.on F.TALLY_CTRL_HIST_EN
  let o := s.on F.TALLY_CTRL_OCC_EN
  let s3 := { s with tally := { s.tally with lfsr := x, demand := s.tally.demand + b2n h + b2n o } }
  if x % 2 ^ s3.tallyK ≠ 0 then s3
  else
    let v := if s3.on F.TALLY_CTRL_HIST_KIND then fine else tot
    let s4 := if h then s3.incEntry (s3.histEntry n (s3.binOf v)) else s3
    if o then s4.incEntry (occEntry slot (n / 64)) else s4

/-- A hit is counted by its counters, then sampled. -/
theorem tallyCount_eq {s : State} (hc : s.sys.run.capturing = true) (hr : s.isRoot = false) (hf : s.trg.frozen = false)
    (n slot fine tot : Nat) : tallyCount n slot fine tot s = (s.addHit n tot).sampleHit n slot fine tot :=
  if_neg (by simp [hc, hr, hf])

/-- Out of RUNNING and HOLD no hit is counted. -/
theorem tallyCount_idle {s : State} (hc : s.sys.run.capturing = false) (n slot fine tot : Nat) : tallyCount n slot fine tot s = s :=
  if_pos (.inl (by simp [hc]))

theorem State.sampleHit_hitStores (s : State) (n slot fine tot : Nat) : (s.sampleHit n slot fine tot).hitStores = s.hitStores := by
  simp [State.sampleHit, ↓State.hitStores_mk]

theorem State.addHit_tiles (s : State) (n tot : Nat) : (s.addHit n tot).tiles = s.tiles := by
  unfold State.addHit; dsimp only; (repeat' split) <;> simp only [State.addCounter_tiles]

/-- The hit count of a counted hit rises by 1; the TOT sums lie in other words. -/
theorem State.tword_addHit {s : State} {n : Nat} (hn : n < 16384) (he : s.on F.TALLY_CTRL_CNT_EN = true)
    (hp : found (s.tword (n / 2)) ≠ .poisoned) (hb : found (s.tword (n / 2)) ≠ .bad) (tot : Nat) :
    (s.addHit n tot).tword (n / 2) =
      fresh72 (setBits (dataOf (s.tword (n / 2))) (32 * (n % 2)) 32 (min (2 ^ 32 - 1) (s.tallyCnt n + 1))) := by
  have hcount := s.tword_addCounter_same hp hb (32 * (n % 2)) 32 1
  unfold State.addHit
  simp only [he, if_true]
  split
  · exact (State.tword_addCounter_other _ (by omega) _ _ _).trans hcount
  · exact hcount

/-- Counting leaves the tiles alone. -/
theorem tallyCount_tiles (n slot fine tot : Nat) (s : State) : (tallyCount n slot fine tot s).tiles = s.tiles := by
  by_cases h : ¬ s.sys.run.capturing ∨ s.isRoot ∨ s.trg.frozen
  · exact congrArg State.tiles (if_pos h)
  · exact ((congrArg State.tiles (if_neg h)).trans (congrArg Prod.fst (State.sampleHit_hitStores (s.addHit n tot) n slot fine tot))).trans
      (s.addHit_tiles n tot)

/-! The tile's buffer (R131–R138). -/

/-- The entry of a hit: its data and, where it has conditions, a condition entry (R131, R138, R139). -/
def hitEntry (n slots slot fine tot cond : Nat) : TEntry :=
  { slots := slots, data := dataEntry slot (n % 64) fine tot, dpar := parity48 (dataEntry slot (n % 64) fine tot)
    cond := if cond = 0 then none else some (condEntry cond, parity48 (condEntry cond)) }

theorem hitEntry_cost (n slots slot fine tot cond : Nat) : (hitEntry n slots slot fine tot cond).cost = if cond = 0 then 1 else 2 := by
  unfold TEntry.cost hitEntry
  by_cases h : cond = 0 <;> simp [h]

/-- OCC_MAX is held in the tile's own register. -/
theorem State.occSeen_spec (s : State) (t : Nat) : ∃ r, s.occSeen t = { s with regs := r } ∧ regsBut [Reg.TILE_T t] s { s with regs := r } := by
  unfold State.occSeen
  dsimp only
  split
  · exact ⟨_, rfl, fun a ha => State.rd_put_other s (F.TILE_T_OCC_MAX t) _ a (by simpa using ha)⟩
  · exact ⟨s.regs, rfl, fun _ _ => rfl⟩

/-- A hit that fits joins its tile's buffer. -/
theorem State.writeHit_fits {s : State} {n cond : Nat} (h : (s.tile (n / 64)).occ + (if cond = 0 then 1 else 2) ≤ 768)
    (slots slot fine tot : Nat) : s.writeHit n slots slot fine tot cond = (s.setTile (n / 64) { s.tile (n / 64) with
      buf := (s.tile (n / 64)).buf ++ [hitEntry n slots slot fine tot cond] }).occSeen (n / 64) :=
  if_neg (by have := hitEntry_cost n slots slot fine tot cond; unfold hitEntry at this; rw [this]; omega)

/-- A hit that does not fit leaves the drop mark of its slot, a count and a flag. -/
theorem State.writeHit_dropped {s : State} {n cond : Nat} (h : 768 < (s.tile (n / 64)).occ + (if cond = 0 then 1 else 2))
    (slots slot fine tot : Nat) : s.writeHit n slots slot fine tot cond = ((s.setTile (n / 64) { s.tile (n / 64) with
      drops := if (s.tile (n / 64)).drops.contains slots then (s.tile (n / 64)).drops else slots :: (s.tile (n / 64)).drops }).incBy
        Reg.TILE_DROP_CNT 1).put F.TILE_STATUS_OVF 1 :=
  if_pos (by have := hitEntry_cost n slots slot fine tot cond; unfold hitEntry at this; rw [this]; exact h)

/-! The hit that leaves VTDC (R111, R131). -/

/-- Channel `n` without the conversion that formed hit `h`. -/
def State.hitTaken (s : State) (n : Nat) (h : Hit0) : State :=
  s.setChan n { s.chan n with hits := (s.chan n).hits.filter (fun g => decide (g.launch ≠ h.launch ∨ g.pair ≠ h.pair)) }

/-- The die with the hit written into its tile, or dropped there. -/
def State.hitWritten (s : State) (n : Nat) (h : Hit0) : State :=
  (s.hitTaken n h).writeHit n (h.tfu / 65536).toNat (s.slotOf (h.tfu / 65536).toNat) (h.tfu % 65536).toNat (h.tot.getD 0)
    (h.cond (s.lostNeighbour h))

/-- The entry that the hit makes. -/
def State.entryOf (s : State) (n : Nat) (h : Hit0) : TEntry :=
  hitEntry n (h.tfu / 65536).toNat (s.slotOf (h.tfu / 65536).toNat) (h.tfu % 65536).toNat (h.tot.getD 0) (h.cond (s.lostNeighbour h))

/-- The tile of channel `n` has room for the entries of the hit (R132). -/
abbrev State.hitFits (s : State) (n : Nat) (h : Hit0) : Prop :=
  (s.tile (n / 64)).occ + (if h.cond (s.lostNeighbour h) = 0 then 1 else 2) ≤ 768

/-- The tally's source takes the hit as it is written (R196). -/
abbrev State.tallyTakes (s : State) (n : Nat) (h : Hit0) : Prop :=
  s.get F.TALLY_CTRL_SOURCE = 0 ∨ s.get F.TALLY_CTRL_SOURCE = 2 ∧ s.testPulse n (h.tfu / 65536).toNat = true

/-- A hit that fits is one entry more in its tile; of the registers, the tile's own alone may change. -/
theorem State.hitWritten_fits {s : State} {n : Nat} {h : Hit0} (hfit : s.hitFits n h) :
    (∃ r f l, s.hitWritten n h = { s with regs := r, fe := f, tiles := l }) ∧
      regsBut [Reg.TILE_T (n / 64)] s (s.hitWritten n h) ∧
      ∀ k, (s.hitWritten n h).tile k = if k = n / 64 then { s.tile (n / 64) with buf := (s.tile (n / 64)).buf ++ [s.entryOf n h] }
        else s.tile k := by
  obtain ⟨r, hr, hregs⟩ := State.occSeen_spec ((s.hitTaken n h).setTile (n / 64)
    { s.tile (n / 64) with buf := (s.tile (n / 64)).buf ++ [s.entryOf n h] }) (n / 64)
  rw [show s.hitWritten n h = _ from (State.writeHit_fits (s := s.hitTaken n h) hfit _ _ _ _).trans hr]
  exact ⟨⟨_, _, _, rfl⟩, hregs, fun k => State.tile_setTile (s.hitTaken n h) (n / 64) _ k⟩

section
variable {s : State} {n : Nat} {h : Hit0} (hh : (s.chan n).hits.find? (fun h => h.conv && h.tot.isSome) = some h)
include hh

/-- Out of capture, or in a tile out of service, the hit is lost. -/
theorem conversionDone_lost (hout : s.captures (h.tfu / 65536).toNat = false ∨ s.tileUp (n / 64) = false) :
    conversionDone n s = s.hitTaken n h := by
  unfold conversionDone
  simp only [hh]
  exact if_pos (hout.imp (by simp [·]) (by simp [·]))

variable (hcap : s.captures (h.tfu / 65536).toNat = true) (hup : s.tileUp (n / 64) = true)
include hcap hup

/-- With capture frozen, the hit is only counted. -/
theorem conversionDone_frozen (hf : s.trg.frozen = true) :
    conversionDone n s = (s.hitTaken n h).incBy Reg.TRG_FROZEN_DROP_CNT 1 := by
  unfold conversionDone
  simp only [hh]
  exact (if_neg (by simp [hcap, hup])).trans (if_pos hf)

variable (hf : s.trg.frozen = false)
include hf

/-- A hit that does not fit is dropped. -/
theorem conversionDone_dropped (hfull : ¬ s.hitFits n h) : conversionDone n s = s.hitWritten n h := by
  unfold conversionDone
  simp only [hh]
  exact ((if_neg (by simp [hcap, hup])).trans (if_neg (by simp [hf]))).trans (if_neg fun hw => hfull (of_decide_eq_true hw.1))

variable (hfit : s.hitFits n h)
include hfit

/-- A hit that fits is written, and counted where the tally's source takes it. -/
theorem conversionDone_fits : conversionDone n s = if s.tallyTakes n h then
    tallyCount n (s.slotOf (h.tfu / 65536).toNat) (h.tfu % 65536).toNat (h.tot.getD 0) (s.hitWritten n h) else s.hitWritten n h := by
  unfold conversionDone
  simp only [hh]
  refine ((if_neg (by simp [hcap, hup])).trans (if_neg (by simp [hf]))).trans (if_congr ?_ rfl rfl)
  exact and_iff_right (decide_eq_true hfit)

/-- Whether it is counted or not, the tiles and the run state are those of the die with the hit written. -/
theorem conversionDone_frame : (conversionDone n s).tiles = (s.hitWritten n h).tiles ∧ (conversionDone n s).still = s.still := by
  obtain ⟨⟨r, f, l, hfr⟩, -⟩ := State.hitWritten_fits hfit
  have hstill : (s.hitWritten n h).still = s.still := by rw [hfr]; rfl
  rw [conversionDone_fits hh hcap hup hf hfit]
  split
  · exact ⟨tallyCount_tiles _ _ _ _ _, (tallyCount_still _ _ _ _ _).trans hstill⟩
  · exact ⟨rfl, hstill⟩

/-- A hit that the source does not take, or that completes out of RUNNING and HOLD, is written alone. -/
theorem conversionDone_uncounted (hno : s.tallyTakes n h → s.sys.run.capturing = false) : conversionDone n s = s.hitWritten n h := by
  obtain ⟨⟨r, f, l, hfr⟩, -⟩ := State.hitWritten_fits hfit
  rw [conversionDone_fits hh hcap hup hf hfit]
  split
  · next htakes => exact tallyCount_idle (by rw [hfr]; exact hno htakes) _ _ _ _
  · rfl

/-- A hit that the tally counts raises its channel's hit count. -/
theorem conversionDone_counted (htakes : s.tallyTakes n h) (hn : n < 16384) (hc : s.sys.run.capturing = true) (hroot : s.isRoot = false)
    (hen : s.on F.TALLY_CTRL_CNT_EN = true) (hp : found (s.tword (n / 2)) ≠ .poisoned) (hb : found (s.tword (n / 2)) ≠ .bad) :
    (conversionDone n s).tword (n / 2) =
      fresh72 (setBits (dataOf (s.tword (n / 2))) (32 * (n % 2)) 32 (min (2 ^ 32 - 1) (s.tallyCnt n + 1))) := by
  obtain ⟨⟨r, f, l, hfr⟩, hregs, -⟩ := State.hitWritten_fits hfit
  rw [conversionDone_fits hh hcap hup hf hfit, if_pos htakes]
  have hon : (s.hitWritten n h).on F.TALLY_CTRL_CNT_EN = s.on F.TALLY_CTRL_CNT_EN := State.on_congr (hregs Reg.TALLY_CTRL (by
    simp only [List.mem_singleton, Reg.TALLY_CTRL, Reg.TILE_T]; omega))
  generalize s.hitWritten n h = x at *
  have hword : x.tword (n / 2) = s.tword (n / 2) := by rw [hfr]; rfl
  rw [tallyCount_eq (by rw [hfr]; exact hc) (by rw [hfr]; exact hroot) (by rw [hfr]; exact hf),
    State.tword_of_hitStores (State.sampleHit_hitStores _ _ _ _ _),
    State.tword_addHit hn (hon.trans hen) (hword ▸ hp) (hword ▸ hb), State.tallyCnt, hword, State.tallyCnt]

end

/-- The sources that do not take a hit as it is written. -/
theorem State.not_tallyTakes {s : State} {n : Nat} {h : Hit0} (hsrc : s.get F.TALLY_CTRL_SOURCE = 1 ∨ s.get F.TALLY_CTRL_SOURCE = 3 ∨
    s.get F.TALLY_CTRL_SOURCE = 2 ∧ s.testPulse n (h.tfu / 65536).toNat = false) : ¬ s.tallyTakes n h := by
  rintro (h0 | ⟨h2, htest⟩)
  · omega
  · rcases hsrc with h1 | h3 | ⟨-, hnot⟩
    · omega
    · omega
    · exact absurd htest (by simp [hnot])

/-- A hit that fits, as a command of an awake die. -/
theorem conversionDone_writes {s : State} {n : Nat} {h : Hit0} (ha : Awake s)
    (hh : (s.chan n).hits.find? (fun h => h.conv && h.tot.isSome) = some h) (hcap : s.captures (h.tfu / 65536).toNat = true)
    (hup : s.tileUp (n / 64) = true) (hf : s.trg.frozen = false) (hfit : s.hitFits n h) :
    exec (.conversionDone n) s = .next (conversionDone n s) ∧ ∀ k, (conversionDone n s).tile k =
      if k = n / 64 then { s.tile (n / 64) with buf := (s.tile (n / 64)).buf ++ [s.entryOf n h] } else s.tile k := by
  obtain ⟨htiles, hstill⟩ := conversionDone_frame hh hcap hup hf hfit
  obtain ⟨-, -, htile⟩ := State.hitWritten_fits hfit
  exact ⟨finish_eq ha (State.sys_of_still hstill) (State.pending_of_still hstill), fun k => (State.tile_congr htiles k).trans (htile k)⟩

/-- A hit that does not fit, as a command of an awake die. -/
theorem conversionDone_drops {s : State} {n : Nat} {h : Hit0} (ha : Awake s)
    (hh : (s.chan n).hits.find? (fun h => h.conv && h.tot.isSome) = some h) (hcap : s.captures (h.tfu / 65536).toNat = true)
    (hup : s.tileUp (n / 64) = true) (hf : s.trg.frozen = false)
    (hfull : ¬ s.hitFits n h) :
    ∃ t, exec (.conversionDone n) s = .next t ∧
      (t.tile (n / 64)).buf = (s.tile (n / 64)).buf ∧ (t.tile (n / 64)).drops.contains (h.tfu / 65536).toNat = true ∧
      t.rd Reg.TILE_DROP_CNT = min (s.rd Reg.TILE_DROP_CNT + 1) 0xFFFFFFFF ∧ t.on F.TILE_STATUS_OVF = true ∧
      regsBut [Reg.TILE_DROP_CNT, Reg.TILE_STATUS] s t ∧ t = { s with regs := t.regs, fe := t.fe, tiles := t.tiles } := by
  have hdone := (conversionDone_dropped hh hcap hup hf hfull).trans (State.writeHit_dropped (s := s.hitTaken n h) (Nat.lt_of_not_le hfull) _ _ _ _)
  refine ⟨_, (congrArg (finish s) hdone).trans (finish_eq ha rfl rfl), ?_, ?_, ?_, (State.on_put_flag _ rfl (by decide)).1, ?_, rfl⟩
  · simp [State.hitTaken]
  · simp only [State.tile_put, State.tile_incBy, State.tile_setTile, if_true]
    split
    · next hin => exact hin
    · simp
  · rw [State.rd_put_other _ _ _ _ (by decide), State.rd_incBy]
    simp [State.hitTaken]
  · intro a hne
    simp only [List.mem_cons, List.not_mem_nil, or_false, not_or] at hne
    rw [State.rd_put_other _ _ _ _ hne.2, State.rd_incBy, if_neg hne.1]
    simp [State.hitTaken]

/-- Settles O21: the hit that leaves VTDC is lost out of capture, counted as frozen, dropped, or written and counted, each by the branch of
CONVERSION_DONE that its conditions name. -/
theorem completedHitEntersItsTile : Obligations.CompletedHitEntersItsTile := by
  unfold Obligations.CompletedHitEntersItsTile
  intro s n h ha hn hh
  refine ⟨fun hout => (congrArg (finish s) (conversionDone_lost hh hout)).trans (finish_eq ha rfl rfl),
    fun hcap hup hf => (congrArg (finish s) (conversionDone_frozen hh hcap hup hf)).trans (finish_eq ha rfl rfl),
    fun hcap hup hf => ⟨fun hfit => ?fits, fun hfull => conversionDone_drops ha hh hcap hup hf (Nat.not_le.mpr hfull)⟩⟩
  case fits =>
    obtain ⟨hexec, htile⟩ := conversionDone_writes ha hh hcap hup hf hfit
    have hself := (htile (n / 64)).trans (if_pos rfl)
    refine ⟨_, hexec, by rw [hself]; rfl, by rw [hself], fun k hk => (htile k).trans (if_neg hk), fun hsrc => ?_,
      fun htakes hc hroot hen hp hb => conversionDone_counted hh hcap hup hf hfit htakes hn hc hroot hen hp hb⟩
    obtain ⟨⟨r, f, l, hfr⟩, hregs, -⟩ := State.hitWritten_fits hfit
    rw [conversionDone_uncounted hh hcap hup hf hfit fun htakes => ?_]
    · exact ⟨hregs, by rw [hfr]⟩
    · rcases hsrc with h1 | h3 | htest | hidle
      · exact absurd htakes (State.not_tallyTakes (.inl h1))
      · exact absurd htakes (State.not_tallyTakes (.inr (.inl h3)))
      · exact absurd htakes (State.not_tallyTakes (.inr (.inr htest)))
      · exact hidle

end Sys2Proof.Machine
end

section
/-! Strikes of vernier pairs (R102, R118, R119, R453, R455): what a strike leaves alone, at the limit too, where its unit is retired. -/

namespace Sys2Proof.Machine

/-- An alert leaves the strike counters alone. -/
theorem State.alert_strikes (s : State) (sev : Sev) (reg bit ut ui data : Nat) :
    (s.alert sev reg bit ut ui data).fault.strikes = s.fault.strikes := by
  have hlogged : ∀ rec : List Byte, (s.logAlert rec).fault.strikes = s.fault.strikes := by
    intro rec; unfold State.logAlert; dsimp only; split <;> simp
  have hsent : ∀ (u : State) (rec : List Byte), (u.sendAlert sev rec).fault.strikes = u.fault.strikes := by
    intro u rec
    unfold State.sendAlert
    (repeat' split)
    · rfl
    · rfl
    · rfl
    · rfl
    · simp
  unfold State.alert
  dsimp only
  rw [hsent, State.put_fault, hlogged]

/-- Work on the pairs and their strikes brought `s` to `t`: registers below the fault block, and every part of the die but registers, pairs,
faults and the buffer that takes alerts, are as they were. -/
structure State.Struck (s t : State) : Prop where
  regs : ∀ a < Reg.FAULT_BOOT, t.rd a = s.rd a
  frame : ∃ r v f b, t = { s with regs := r, vtdc := v, fault := f, buf := b }

theorem State.Struck.refl (s : State) : s.Struck s := ⟨fun _ _ => rfl, _, _, _, _, rfl⟩

theorem State.Struck.trans {s t u : State} (h : s.Struck t) (h' : t.Struck u) : s.Struck u := by
  obtain ⟨_, _, _, _, rfl⟩ := h.frame
  obtain ⟨_, _, _, _, rfl⟩ := h'.frame
  exact ⟨fun a ha => (h'.regs a ha).trans (h.regs a ha), _, _, _, _, rfl⟩

/-- A flag below the fault block stands as it did. -/
theorem State.Struck.on {s t : State} (h : s.Struck t) {f : Fld} (hf : f.reg < Reg.FAULT_BOOT) : t.on f = s.on f :=
  State.on_congr (h.regs _ hf)

theorem State.setPair_struck (s : State) (p : Nat) (v : Pair) : s.Struck (s.setPair p v) :=
  ⟨fun a _ => State.rd_setPair s p v a, _, _, _, _, rfl⟩

theorem State.alert_struck (s : State) (sev : Sev) (reg bit ut ui data : Nat) : s.Struck (s.alert sev reg bit ut ui data) := by
  refine ⟨fun a ha => s.alert_regsBut sev reg bit ut ui data a ?_, _, _, _, _, s.alert_frame sev reg bit ut ui data⟩
  simp only [List.mem_cons, List.not_mem_nil, or_false, not_or]
  refine ⟨?_, ?_, ?_, ?_⟩ <;> exact Nat.ne_of_lt (lt_trans ha (by decide))

/-- A word of the fault block that is written, a field of it, or a counter of it that rises. -/
theorem State.wr_struck (s : State) {a : Nat} (ha : Reg.FAULT_BOOT ≤ a) (v : Nat) : s.Struck (s.wr a v) :=
  ⟨fun _ hb => State.rd_wr_other s a v _ (Nat.ne_of_lt (lt_of_lt_of_le hb ha)), _, _, _, _, rfl⟩

theorem State.put_struck (s : State) {f : Fld} (hf : Reg.FAULT_BOOT ≤ f.reg) (v : Nat) : s.Struck (s.put f v) := s.wr_struck hf _

theorem State.incBy_struck (s : State) {a : Nat} (ha : Reg.FAULT_BOOT ≤ a) (n : Nat) : s.Struck (s.incBy a n) := s.wr_struck ha _

/-- Other faults are recorded. -/
theorem State.withFault_struck (s : State) (f : FaultSt) : s.Struck { s with fault := f } := ⟨fun _ _ => rfl, _, _, _, _, rfl⟩

theorem State.addStrike_struck (s : State) (ty ix : Nat) : s.Struck (s.addStrike ty ix) := by
  unfold State.addStrike
  split
  · exact .refl s
  · exact (s.withFault_struck _).trans (State.incBy_struck _ (a := Reg.FAULT_STRIKE_CNT) (by decide) 1)

theorem State.retire_struck (s : State) (ty ix : Nat) : s.Struck (s.retire ty ix) := by
  unfold State.retire
  split
  · exact .refl s
  · have htyped : Reg.FAULT_BOOT ≤ (F.FAULT_RETIRED_COUNT ty).reg := by simp only [Reg.FAULT_BOOT, Reg.FAULT_RETIRED]; omega
    exact ((((s.withFault_struck _).trans (State.incBy_struck _ (a := Reg.FAULT_RETIRE_CNT) (by decide) 1)).trans
      (State.put_struck _ htyped _)).trans (State.put_struck _ (f := F.FAULT_STATUS_RETIRED) (by decide) 1)).trans
      (State.alert_struck _ _ _ _ _ _ _)

theorem State.strikePair_struck (s : State) (p : Nat) : s.Struck (s.strikePair p) := by
  unfold State.strikePair
  dsimp only
  split
  · exact ((s.addStrike_struck 2 p).trans (State.retire_struck _ 2 p)).trans (State.setPair_struck _ _ _)
  · exact s.addStrike_struck 2 p

/-- A strike raises the counter of a unit in service. -/
theorem State.strikesOf_addStrike {s : State} {ty ix : Nat} (h : s.isRetired ty ix = false) :
    (s.addStrike ty ix).strikesOf ty ix = min 255 (s.strikesOf ty ix + 1) := by
  rw [State.addStrike, if_neg (by simp [h])]
  exact sget_sset_same _ _ _ _

/-- A unit that is retired keeps its strikes. -/
theorem State.strikesOf_retire (s : State) (ty ix : Nat) : (s.retire ty ix).strikesOf ty ix = s.strikesOf ty ix := by
  unfold State.retire
  split
  · rfl
  · simp only [State.strikesOf, State.alert_strikes, State.flag_eq, State.inc_eq, State.put_fault, State.incBy_fault]

/-- An alert leaves the pairs alone. -/
theorem State.alert_vtdc (s : State) (sev : Sev) (reg bit ut ui data : Nat) : (s.alert sev reg bit ut ui data).vtdc = s.vtdc :=
  (congrArg State.vtdc (s.alert_frame sev reg bit ut ui data)).trans rfl

theorem State.retire_vtdc (s : State) (ty ix : Nat) : (s.retire ty ix).vtdc = s.vtdc := by
  unfold State.retire
  split
  · rfl
  · simp only [State.alert_vtdc, State.flag_eq, State.inc_eq, State.put_vtdc, State.incBy_vtdc]

theorem State.addStrike_vtdc (s : State) (ty ix : Nat) : (s.addStrike ty ix).vtdc = s.vtdc := by
  unfold State.addStrike
  split <;> rfl

/-- A strike of a pair in service counts, at the limit too. -/
theorem State.strikesOf_strikePair {s : State} {p : Nat} (h : s.isRetired 2 p = false) :
    (s.strikePair p).strikesOf 2 p = min 255 (s.strikesOf 2 p + 1) := by
  rw [← State.strikesOf_addStrike h]
  unfold State.strikePair
  dsimp only
  split
  · exact State.strikesOf_retire _ 2 p
  · rfl

/-- A strike takes no more of its pair than its calibration. -/
theorem State.pair_strikePair (s : State) (p : Nat) :
    ∃ c, (s.strikePair p).pair p = { s.pair p with cal := c } ∧ (c = true → (s.pair p).cal = true) := by
  have hsame : (s.addStrike 2 p).pair p = s.pair p := State.pair_congr (s.addStrike_vtdc 2 p) p
  unfold State.strikePair
  dsimp only
  split
  · refine ⟨false, ?_, by simp⟩
    rw [State.dropCal, State.pair_setPair, if_pos rfl, State.pair_congr (State.retire_vtdc _ 2 p), hsame]
  · exact ⟨(s.pair p).cal, hsame, id⟩

end Sys2Proof.Machine
end

section
/-! Calibration of the vernier pairs (R99–R102, R112–R115): one pair's result, and the end of a bulk pass. -/

namespace Sys2Proof.Machine

/-! One pair's calibration (R99–R101). -/

/-- Sums that lie 1792 to 2304 apart give bin and offset. -/
theorem calResult_taken {s1 s2 : Nat} (hlo : s1 + 1792 ≤ s2) (hhi : s2 ≤ s1 + 2304) : calResult s1 s2 =
    some ((roundDiv (2 ^ 26) ((s2 : Int) - s1)).toNat, roundDiv (2 ^ 27 - roundDiv (2 ^ 26) ((s2 : Int) - s1) * (2 * s1 - 1)) 8192) := by
  unfold calResult
  exact if_neg (by omega)

/-- Other sums are rejected. -/
theorem calResult_rejected {s1 s2 : Nat} (h : s2 < s1 + 1792 ∨ s1 + 2304 < s2) : calResult s1 s2 = none := by
  unfold calResult
  exact if_pos (by omega)

/-- A result that is taken is the pair's calibration from now on. -/
theorem State.takeCal_taken (s : State) (p : Nat) {s1 s2 : Nat} (hlo : s1 + 1792 ≤ s2) (hhi : s2 ≤ s1 + 2304) :
    s.takeCal p s1 s2 = s.setPair p { s.pair p with
      cal := false, nocal := false, had := true, bin := (roundDiv (2 ^ 26) ((s2 : Int) - s1)).toNat
      off := roundDiv (2 ^ 27 - roundDiv (2 ^ 26) ((s2 : Int) - s1) * (2 * s1 - 1)) 8192, ds := s2 - s1, calSlot := s.time.slots } := by
  simp only [State.takeCal, Pair.calibrate, calResult_taken hlo hhi, Option.isSome_some, if_true]

/-- A result of pair `p` that is rejected is flagged and counted. -/
def State.calFlagged (s : State) (p : Nat) : State :=
  ((s.setPair p { s.pair p with cal := false }).flag F.VTDC_STATUS_CAL_BAD).inc Reg.VTDC_CAL_BAD_CNT

/-- The pair keeps its calibration before. -/
theorem State.calFlagged_spec (s : State) (p : Nat) : (s.calFlagged p).pair p = { s.pair p with cal := false } ∧
    (s.calFlagged p).on F.VTDC_STATUS_CAL_BAD = true ∧
    (s.calFlagged p).rd Reg.VTDC_CAL_BAD_CNT = min (s.rd Reg.VTDC_CAL_BAD_CNT + 1) 0xFFFFFFFF ∧
    (s.calFlagged p).fault = s.fault ∧ ∃ r v, s.calFlagged p = { s with regs := r, vtdc := v } := by
  unfold State.calFlagged
  refine ⟨by simp, (State.on_congr (State.rd_wr_other _ _ _ _ (by decide))).trans (State.on_put_flag _ rfl (by decide)).1, ?_, rfl, _, _, rfl⟩
  rw [State.inc_eq, State.rd_incBy, if_pos rfl, State.flag_eq, State.rd_put_other _ _ _ _ (by decide), State.rd_setPair]

/-- A result that is rejected strikes its pair. -/
theorem State.takeCal_rejected (s : State) (p : Nat) {s1 s2 : Nat} (h : s2 < s1 + 1792 ∨ s1 + 2304 < s2) : s.takeCal p s1 s2 =
    (s.calFlagged p).strikePair p := by
  simp only [State.takeCal, Pair.calibrate, calResult_rejected h, Option.isSome_none, Bool.false_eq_true, if_false]
  rfl

section
variable {s : State} {p s1 s2 : Nat} (ha : Awake s) (hcal : (s.pair p).cal = true)
include ha hcal

/-- Sums in range, as VTDC_CAL_DONE of an awake die brings them. -/
theorem vtdcCalDone_taken (hlo : s1 + 1792 ≤ s2) (hhi : s2 ≤ s1 + 2304) : ∃ t, exec (.vtdcCalDone p s1 s2) s = .next t ∧
    (t.pair p).cal = false ∧ (t.pair p).nocal = false ∧ (t.pair p).ds = s2 - s1 ∧ (t.pair p).calSlot = s.time.slots ∧
    (t.pair p).bin = (roundDiv (2 ^ 26) ((s2 : Int) - s1)).toNat ∧
    (t.pair p).off = roundDiv (2 ^ 27 - roundDiv (2 ^ 26) ((s2 : Int) - s1) * (2 * s1 - 1)) 8192 ∧
    (∀ q, q ≠ p → t.pair q = s.pair q) ∧ t = { s with vtdc := t.vtdc } := by
  have hdone : vtdcCalDone p s1 s2 s = _ := (if_pos hcal).trans (s.takeCal_taken p hlo hhi)
  refine ⟨_, (congrArg (finish s) hdone).trans (finish_eq ha rfl rfl), ?_, ?_, ?_, ?_, ?_, ?_,
    fun q hq => (State.pair_setPair _ _ _ _).trans (if_neg hq), rfl⟩ <;> rw [State.pair_setPair, if_pos rfl]

/-- Sums out of range leave the pair's calibration before in force. -/
theorem vtdcCalDone_rejected (hout : s2 < s1 + 1792 ∨ s1 + 2304 < s2) (hret : s.isRetired 2 p = false) : ∃ t,
    exec (.vtdcCalDone p s1 s2) s = .next t ∧ (t.pair p).cal = false ∧ (t.pair p).bin = (s.pair p).bin ∧
    (t.pair p).off = (s.pair p).off ∧ t.on F.VTDC_STATUS_CAL_BAD = true ∧
    t.rd Reg.VTDC_CAL_BAD_CNT = min (s.rd Reg.VTDC_CAL_BAD_CNT + 1) 0xFFFFFFFF ∧
    t.strikesOf 2 p = min 255 (s.strikesOf 2 p + 1) ∧ t.sys = s.sys ∧ t.time = s.time ∧ t.fe = s.fe := by
  have hdone : vtdcCalDone p s1 s2 s = _ := (if_pos hcal).trans (s.takeCal_rejected p hout)
  obtain ⟨hpair, hon, hcnt, hfault, r, v, hflagged⟩ := s.calFlagged_spec p
  have hstrikes := State.strikesOf_strikePair (s := s.calFlagged p) (p := p) (by rw [State.isRetired, hfault]; exact hret)
  have hcount : (s.calFlagged p).strikesOf 2 p = s.strikesOf 2 p := by rw [State.strikesOf, State.strikesOf, hfault]
  obtain ⟨hregs, r', v', f, b, hframe⟩ := (s.calFlagged p).strikePair_struck p
  obtain ⟨c, hstruck, hc⟩ := (s.calFlagged p).pair_strikePair p
  rw [hpair] at hstruck hc
  rw [hcount] at hstrikes
  generalize s.calFlagged p = y at *
  refine ⟨_, (congrArg (finish s) hdone).trans (finish_eq ha (by rw [hframe, hflagged]) (by rw [hframe, hflagged])), ?_, ?_, ?_,
    (State.on_congr (hregs _ (by decide))).trans hon, (hregs _ (by decide)).trans hcnt, hstrikes, ?_, ?_, ?_⟩
  · rw [hstruck]
    exact Bool.eq_false_iff.mpr fun h => Bool.false_ne_true (hc h)
  · rw [hstruck]
  · rw [hstruck]
  · rw [hframe, hflagged]
  · rw [hframe, hflagged]
  · rw [hframe, hflagged]

end

/-! The end of a bulk pass (R112–R115). -/

/-- A flag set or cleared stands so, whatever is written above it. -/
theorem State.on_put_below (s : State) {f g : Fld} (v : Nat) (hw : f.w = 1) (hf : f.lo + f.w ≤ 32) (h : f.lo + f.w ≤ g.lo) :
    ((s.put f 1).put g v).on f = true ∧ ((s.put f 0).put g v).on f = false := by
  rw [State.on_put_apart _ _ (.inl h) hf, State.on_put_apart _ _ (.inl h) hf]
  exact s.on_put_flag hw hf

theorem State.bulkPair_struck (s : State) (p : Nat) (counts : List (List Nat)) : s.Struck (s.bulkPair p counts) := by
  unfold State.bulkPair
  dsimp only
  split
  · exact .refl s
  · split
    · exact (s.setPair_struck p _).trans (State.strikePair_struck _ p)
    · exact s.setPair_struck p _

/-- What the pairs that finished a pass make of the die. -/
def State.passPairs (s : State) (fin : List PairCounts) : State := fin.foldl (fun s e => s.bulkPair e.pair e.counts) s

theorem State.passPairs_struck (fin : List PairCounts) (s : State) : s.Struck (s.passPairs fin) := by
  induction fin generalizing s with
  | nil => exact .refl s
  | cons e fin ih => exact (s.bulkPair_struck e.pair e.counts).trans (ih _)

/-- A pass is counted, dated and qualified by `q`, and its flags show it done. -/
def State.recordPass (s : State) (q : Nat) : State :=
  ((((s.incWrap Reg.VTDC_CAL_CNT).dateInto Reg.VTDC_CAL_WALL).put F.VTDC_CAL_QUAL_QUAL q).unflag F.VTDC_STATUS_BULK_ACTIVE).flag
    F.VTDC_STATUS_BULK_DONE

/-- A date is written in three words. -/
theorem State.rd_dateInto_other (s : State) {a b : Nat} (h : b ≠ a) (h4 : b ≠ a + 4) (h8 : b ≠ a + 8) : (s.dateInto a).rd b = s.rd b := by
  rw [State.dateInto, State.rd_wr_other _ _ _ _ h8, State.rd_wr_other _ _ _ _ h4, State.rd_wr_other _ _ _ _ h]

theorem State.recordPass_spec (s : State) (q : Nat) :
    (s.recordPass q).on F.VTDC_STATUS_BULK_ACTIVE = false ∧ (s.recordPass q).on F.VTDC_STATUS_BULK_DONE = true ∧
    (s.recordPass q).rd Reg.VTDC_CAL_CNT = (s.rd Reg.VTDC_CAL_CNT + 1) % 2 ^ 32 ∧
    (s.recordPass q).rd Reg.VTDC_BULK_SKIP_CNT = s.rd Reg.VTDC_BULK_SKIP_CNT ∧ ∃ r, s.recordPass q = { s with regs := r } := by
  have hcnt : (s.recordPass q).rd Reg.VTDC_CAL_CNT = (s.rd Reg.VTDC_CAL_CNT + 1) % 2 ^ 32 := by
    rw [State.recordPass, State.flag_eq, State.unflag_eq, State.rd_put_other _ _ _ _ (by decide), State.rd_put_other _ _ _ _ (by decide),
      State.rd_put_other _ _ _ _ (by decide), State.rd_dateInto_other _ (by decide) (by decide) (by decide), State.incWrap,
      State.rd_wr_same]
  have hskip : (s.recordPass q).rd Reg.VTDC_BULK_SKIP_CNT = s.rd Reg.VTDC_BULK_SKIP_CNT := by
    rw [State.recordPass, State.flag_eq, State.unflag_eq, State.rd_put_other _ _ _ _ (by decide), State.rd_put_other _ _ _ _ (by decide),
      State.rd_put_other _ _ _ _ (by decide), State.rd_dateInto_other _ (by decide) (by decide) (by decide), State.incWrap,
      State.rd_wr_other _ _ _ _ (by decide)]
  exact ⟨(State.on_put_below _ 1 (f := F.VTDC_STATUS_BULK_ACTIVE) (g := F.VTDC_STATUS_BULK_DONE) rfl (by decide) (by decide)).2,
    (State.on_put_flag _ (f := F.VTDC_STATUS_BULK_DONE) rfl (by decide)).1, hcnt,
    hskip, _, rfl⟩

section
variable {s : State} {fin : List PairCounts}

/-- A pass that ends counts the pairs that it skipped. -/
theorem bulkPassEnd_ends (hact : s.on F.VTDC_STATUS_BULK_ACTIVE = true)
    (hend : 64 ≤ s.vtdc.windows ∨ (s.passFinished fin).length = s.pairsInService) : ∃ q, bulkPassEnd fin s =
      ((s.passPairs (s.passFinished fin)).incBy Reg.VTDC_BULK_SKIP_CNT (s.pairsInService - (s.passFinished fin).length)).recordPass q := by
  unfold bulkPassEnd
  exact ⟨_, if_pos ⟨hact, hend⟩⟩

/-- The end of a pass, as BULK_PASS_END of an awake die brings it. -/
theorem exec_bulkPassEnd (ha : Awake s) (hact : s.on F.VTDC_STATUS_BULK_ACTIVE = true)
    (hend : 64 ≤ s.vtdc.windows ∨ (s.passFinished fin).length = s.pairsInService) : ∃ t, exec (.bulkPassEnd fin) s = .next t ∧
      t.on F.VTDC_STATUS_BULK_ACTIVE = false ∧ t.on F.VTDC_STATUS_BULK_DONE = true ∧
      t.rd Reg.VTDC_CAL_CNT = (s.rd Reg.VTDC_CAL_CNT + 1) % 2 ^ 32 ∧
      t.rd Reg.VTDC_BULK_SKIP_CNT = min (s.rd Reg.VTDC_BULK_SKIP_CNT + (s.pairsInService - (s.passFinished fin).length)) 0xFFFFFFFF ∧
      (s.passFinished fin = [] → t.vtdc = s.vtdc) ∧
      t.sys = s.sys ∧ t.time = s.time ∧ t.fe = s.fe ∧ t.tiles = s.tiles := by
  obtain ⟨q, hq⟩ := bulkPassEnd_ends hact hend
  have hstruck := s.passPairs_struck (s.passFinished fin)
  have hnone : s.passFinished fin = [] → s.passPairs (s.passFinished fin) = s := fun h => by rw [h]; rfl
  generalize s.passFinished fin = done at *
  obtain ⟨hactive, hdone, hcnt, hskip, r, hrec⟩ :=
    ((s.passPairs done).incBy Reg.VTDC_BULK_SKIP_CNT (s.pairsInService - done.length)).recordPass_spec q
  generalize s.pairsInService - done.length = n at *
  generalize s.passPairs done = y at *
  rw [State.rd_incBy, if_neg (by decide), hstruck.regs _ (by decide)] at hcnt
  rw [State.rd_incBy, if_pos rfl, hstruck.regs _ (by decide)] at hskip
  obtain ⟨_, _, _, _, hy⟩ := hstruck.frame
  refine ⟨_, (congrArg (finish s) hq).trans (finish_eq ha ?_ ?_), hactive, hdone, hcnt, hskip, fun h => ?_, ?_, ?_, ?_, ?_⟩ <;> rw [hrec]
  · rw [hy]; rfl
  · rw [hy]; rfl
  · rw [hnone h]; rfl
  · rw [hy]; rfl
  · rw [hy]; rfl
  · rw [hy]; rfl
  · rw [hy]; rfl

end

/-- Settles O22: each command by whether its condition holds, the sums by their distance, and the end of a pass by what strikes of its pairs
leave alone. -/
theorem pairCalibrationTakesOrRejectsItsSums : Obligations.PairCalibrationTakesOrRejectsItsSums := by
  unfold Obligations.PairCalibrationTakesOrRejectsItsSums
  intro s p s1 s2 fin ha
  have hstay : ∀ {t : State}, t = s → finish s t = .next s := fun h => by rw [h]; exact finish_eq ha rfl rfl
  refine ⟨fun h => ?starts, fun h => hstay (if_neg (by simp [h])), fun hcal hlo hhi => vtdcCalDone_taken ha hcal hlo hhi,
    fun hcal hout hret => vtdcCalDone_rejected ha hcal hout hret, fun h => hstay (if_neg (by simp [h])), fun h => ?resumes,
    fun h => hstay (if_neg (by simp [h])), fun hact hend => exec_bulkPassEnd ha hact hend, fun h => hstay (if_neg ?goesOn)⟩
  case starts => exact (congrArg (finish s) (if_pos h)).trans (finish_eq ha rfl rfl)
  case resumes => exact (congrArg (finish s) (if_pos h)).trans (finish_eq ha rfl rfl)
  case goesOn =>
    rintro ⟨hact, hend⟩
    rcases h with hidle | ⟨hwin, hlen⟩
    · simp [hidle] at hact
    · rcases hend with h64 | hall
      · exact absurd hwin (Nat.not_lt.mpr h64)
      · exact hlen hall

end Sys2Proof.Machine
end

section
/-! Registers of two words, and numbers in two's complement (R3, R127). -/

namespace Sys2Proof

/-- A two's-complement number lies in the range of its width. -/
theorem toSigned_range (w v : Nat) : -(2 ^ w : Nat) ≤ toSigned (w + 1) v ∧ toSigned (w + 1) v < (2 ^ w : Nat) := by
  have hpow : 2 ^ (w + 1) = 2 ^ w + 2 ^ w := by rw [pow_succ]; ring
  have hlt : v % 2 ^ (w + 1) < 2 ^ (w + 1) := Nat.mod_lt _ (by positivity)
  simp only [toSigned, Nat.add_sub_cancel]
  split <;> omega

end Sys2Proof

namespace Sys2Proof.Machine

/-- A read after a write of two words. -/
theorem State.rd_wr64 (s : State) (a v b : Nat) : (s.wr64 a v).rd b =
    if b = a + 4 then v / 2 ^ 32 % 2 ^ 32 else if b = a then v % 2 ^ 32 else s.rd b := by
  simp only [State.wr64, State.rd_wr, Nat.mod_mod]

theorem State.wr64_frame (s : State) (a v : Nat) : s.wr64 a v = { s with regs := (s.wr64 a v).regs } := rfl

/-- A number of 64 bits written is read back. -/
theorem State.rd64_wr64_same (s : State) (a : Nat) {v : Nat} (hv : v < 2 ^ 64) : (s.wr64 a v).rd64 a = v := by
  rw [State.rd64, State.rd_wr64, State.rd_wr64, if_pos rfl, if_neg (by omega), if_pos rfl]
  omega

/-- A write of two words leaves the others alone. -/
theorem State.rd_wr64_other (s : State) {a b : Nat} (v : Nat) (h : b ≠ a) (h4 : b ≠ a + 4) : (s.wr64 a v).rd b = s.rd b := by
  rw [State.rd_wr64, if_neg h4, if_neg h]

/-- Two words depend on those words alone. -/
theorem State.rd64_congr {s t : State} {a : Nat} (hlow : t.rd a = s.rd a) (hhigh : t.rd (a + 4) = s.rd (a + 4)) : t.rd64 a = s.rd64 a := by
  rw [State.rd64, State.rd64, hlow, hhigh]

/-- A write of two words leaves two others alone. -/
theorem State.rd64_wr64_other (s : State) {a b : Nat} (v : Nat) (h : b + 8 ≤ a ∨ a + 8 ≤ b) : (s.wr64 a v).rd64 b = s.rd64 b := by
  refine State.rd64_congr ?_ ?_ <;> rw [State.rd_wr64, if_neg (by omega), if_neg (by omega)]

/-- A signed number written in two words is read back. -/
theorem State.toSigned_wrS64 (s : State) (a : Nat) {z : Int} (hlo : -(2 ^ 63 : Nat) ≤ z) (hhi : z < (2 ^ 63 : Nat)) :
    toSigned 64 ((s.wrS64 a z).rd64 a) = z := by
  rw [State.wrS64, State.rd64_wr64_same _ _ (ofSigned_lt 64 z)]
  exact toSigned_ofSigned 63 z hlo hhi

/-- An interval is a number of 48 bits (R122). -/
theorem interval_range (len : Nat) (a b : Stamp) : -(2 ^ 63 : Nat) ≤ interval len a b ∧ interval len a b < (2 ^ 63 : Nat) := by
  obtain ⟨hlo, hhi⟩ : -(2 ^ 47 : Nat) ≤ interval len a b ∧ interval len a b < (2 ^ 47 : Nat) := toSigned_range 47 _
  omega

end Sys2Proof.Machine
end

section
/-! The run of the TIU (R123, R124, R127, R128): START, ABORT, and an interval that closes. -/

namespace Sys2Proof.Machine

/-! START (R123). -/

/-- The words of LAST, MIN, MAX and MEAN. -/
abbrev tiuResults : List Nat := (List.range 8).map (fun i => Reg.TIU_LAST + 4 * i)

/-- The results cleared. -/
def State.tiuCleared (s : State) : State :=
  (((((s.put F.TIU_COUNT_COUNT 0).wr64 Reg.TIU_LAST 0).wr64 Reg.TIU_MIN 0).wr64 Reg.TIU_MAX 0).wr64 Reg.TIU_MEAN 0).wr Reg.TIU_SDEV 0

theorem State.rd_tiuCleared (s : State) {a : Nat} (h : a ∈ tiuResults ∨ a = Reg.TIU_SDEV) : s.tiuCleared.rd a = 0 := by
  have hword : a = Reg.TIU_SDEV ∨ ∃ i < 8, a = Reg.TIU_LAST + 4 * i := by
    rcases h with h | h
    · obtain ⟨i, hi, rfl⟩ := List.mem_map.mp h
      exact .inr ⟨i, List.mem_range.mp hi, rfl⟩
    · exact .inl h
  rcases hword with rfl | ⟨i, hi, rfl⟩
  · exact State.rd_wr_same _ _ _
  · simp only [State.tiuCleared, State.rd_wr, State.rd_wr64, Reg.TIU_LAST, Reg.TIU_MIN, Reg.TIU_MAX, Reg.TIU_MEAN, Reg.TIU_SDEV]
    (repeat' split) <;> omega

theorem State.rd_tiuCleared_other (s : State) {a : Nat} (h : a ∉ tiuResults) (hs : a ≠ Reg.TIU_SDEV) (hc : a ≠ Reg.TIU_COUNT) :
    s.tiuCleared.rd a = s.rd a := by
  have hne : ∀ i < 8, a ≠ Reg.TIU_LAST + 4 * i := fun i hi he => h (List.mem_map.mpr ⟨i, List.mem_range.mpr hi, he.symm⟩)
  rw [State.tiuCleared, State.rd_wr_other _ _ _ _ hs, State.rd_wr64_other _ _ (hne 6 (by decide)) (hne 7 (by decide)),
    State.rd_wr64_other _ _ (hne 4 (by decide)) (hne 5 (by decide)), State.rd_wr64_other _ _ (hne 2 (by decide)) (hne 3 (by decide)),
    State.rd_wr64_other _ _ (hne 0 (by decide)) (hne 1 (by decide)), State.rd_put_other _ _ _ _ hc]

theorem State.get_tiuCleared_count (s : State) : s.tiuCleared.get F.TIU_COUNT_COUNT = 0 := by
  have hput : (s.put F.TIU_COUNT_COUNT 0).get F.TIU_COUNT_COUNT = 0 := State.get_put_same _ _ _ (by decide)
  rw [← hput]
  refine congrArg (bitsOf · 0 21) ?_
  rw [State.tiuCleared, State.rd_wr_other _ _ _ _ (by decide), State.rd_wr64_other _ _ (by decide) (by decide),
    State.rd_wr64_other _ _ (by decide) (by decide), State.rd_wr64_other _ _ (by decide) (by decide),
    State.rd_wr64_other _ _ (by decide) (by decide)]

theorem State.tiuCleared_frame (s : State) : s.tiuCleared = { s with regs := s.tiuCleared.regs } :=
  State.regsOnly_trans (State.regsOnly_trans (State.regsOnly_trans (State.regsOnly_trans (State.regsOnly_trans (s.put_frame F.TIU_COUNT_COUNT 0)
    (State.wr64_frame _ Reg.TIU_LAST 0)) (State.wr64_frame _ Reg.TIU_MIN 0)) (State.wr64_frame _ Reg.TIU_MAX 0))
    (State.wr64_frame _ Reg.TIU_MEAN 0)) (State.wr_frame _ Reg.TIU_SDEV 0)

/-- What START makes of the run: its settings are those that stand, and nothing of a run before is left. -/
def State.tiuLatched (s : State) : TiuSt :=
  { s.tiu with meas := s.rd Reg.TIU_MEAS, tmo := s.rd Reg.TIU_TMO, openAt := none, stops := [], closedBy := none, x0 := 0, s1 := 0, s2 := 0 }

theorem tiuStart_eq (s : State) : tiuStart s =
    (({ s with tiu := s.tiuLatched } : State).tiuCleared.put F.TIU_STATUS_BUSY 1).put F.TIU_STATUS_DONE 0 := rfl

/-- START begins a run, of which nothing is measured yet. -/
theorem tiuStart_flags (s : State) : (tiuStart s).on F.TIU_STATUS_BUSY = true ∧ (tiuStart s).on F.TIU_STATUS_DONE = false ∧
    (tiuStart s).get F.TIU_COUNT_COUNT = 0 := by
  rw [tiuStart_eq]
  refine ⟨(State.on_put_below _ 0 (f := F.TIU_STATUS_BUSY) (g := F.TIU_STATUS_DONE) rfl (by decide) (by decide)).1,
    (State.on_put_flag _ (f := F.TIU_STATUS_DONE) rfl (by decide)).2, ?_⟩
  rw [State.get_put_other _ _ _ _ (by decide), State.get_put_other _ _ _ _ (by decide), State.get_tiuCleared_count]

/-- START clears the results. -/
theorem tiuStart_results (s : State) {a : Nat} (ha : a ∈ tiuResults ∨ a = Reg.TIU_SDEV) : (tiuStart s).rd a = 0 := by
  have hne : a ≠ Reg.TIU_STATUS := by
    rintro rfl
    revert ha
    decide
  rw [tiuStart_eq, State.rd_put_other _ _ _ _ hne, State.rd_put_other _ _ _ _ hne, State.rd_tiuCleared _ ha]

/-- START changes no other registers. -/
theorem tiuStart_regsBut (s : State) : regsBut ([Reg.TIU_STATUS, Reg.TIU_COUNT, Reg.TIU_SDEV] ++ tiuResults) s (tiuStart s) := by
  intro a ha
  simp only [List.mem_append, List.mem_cons, List.not_mem_nil, or_false, not_or] at ha
  obtain ⟨⟨hstat, hcount, hsdev⟩, hres⟩ := ha
  rw [tiuStart_eq, State.rd_put_other _ _ _ _ hstat, State.rd_put_other _ _ _ _ hstat, State.rd_tiuCleared_other _ hres hsdev hcount]
  exact State.rd_congr (by rfl) a

/-- Beside registers START changes the run's set-up. -/
theorem tiuStart_latches (s : State) : ∃ r, tiuStart s = { s with regs := r, tiu := s.tiuLatched } := by
  obtain ⟨r, hr⟩ : ∃ r, ({ s with tiu := s.tiuLatched } : State).tiuCleared = { s with tiu := s.tiuLatched, regs := r } :=
    ⟨_, State.tiuCleared_frame _⟩
  rw [tiuStart_eq, hr]
  exact ⟨_, rfl⟩

theorem tiuStart_frame (s : State) : tiuStart s = { s with regs := (tiuStart s).regs, tiu := (tiuStart s).tiu } := by
  obtain ⟨r, h⟩ := tiuStart_latches s
  rw [h]

/-! ABORT, and the end of a run (R127, R128). -/

/-- The run's open interval is discarded. -/
def State.tiuDropped (s : State) : State := { s with tiu := { s.tiu with openAt := none } }

/-- A run that ends writes the mean of its intervals. -/
theorem tiuFinish_spec (s : State) :
    (tiuFinish s).on F.TIU_STATUS_BUSY = false ∧ (tiuFinish s).on F.TIU_STATUS_DONE = true ∧
    (tiuFinish s).rd64 Reg.TIU_MEAN = ofSigned 64 (roundDiv ((s.tiu.x0 * s.get F.TIU_COUNT_COUNT + s.tiu.s1) * 65536)
      (atLeast1 (s.get F.TIU_COUNT_COUNT))) ∧
    regsBut [Reg.TIU_STATUS, Reg.TIU_MEAN, Reg.TIU_MEAN + 4, Reg.TIU_SDEV] s (tiuFinish s) ∧
    tiuFinish s = { s with regs := (tiuFinish s).regs } := by
  unfold tiuFinish
  dsimp only
  generalize min _ (2 ^ 32 - 1) = sdev
  refine ⟨?_, (State.on_put_flag _ (f := F.TIU_STATUS_DONE) rfl (by decide)).1, ?_, fun a ha => ?_, rfl⟩
  · exact (State.on_put_below _ 1 (f := F.TIU_STATUS_BUSY) (g := F.TIU_STATUS_DONE) rfl (by decide) (by decide)).2
  · rw [← State.rd64_wr64_same s Reg.TIU_MEAN (ofSigned_lt 64 _)]
    refine State.rd64_congr ?_ ?_ <;>
      rw [State.flag_eq, State.unflag_eq, State.rd_put_other _ _ _ _ (by decide), State.rd_put_other _ _ _ _ (by decide),
        State.rd_wr_other _ _ _ _ (by decide), State.wrS64]
  · simp only [List.mem_cons, List.not_mem_nil, or_false, not_or] at ha
    obtain ⟨hstat, hmean, hmean4, hsdev⟩ := ha
    rw [State.flag_eq, State.unflag_eq, State.rd_put_other _ _ _ _ hstat, State.rd_put_other _ _ _ _ hstat,
      State.rd_wr_other _ _ _ _ hsdev, State.wrS64, State.rd_wr64_other _ _ hmean hmean4]

/-- ABORT of no run does nothing. -/
theorem tiuAbort_idle {s : State} (h : s.on F.TIU_STATUS_BUSY = false) : tiuAbort s = s := if_neg (by simp [h])

/-- ABORT of a run without intervals. -/
theorem tiuAbort_empty {s : State} (hb : s.on F.TIU_STATUS_BUSY = true) (hc : s.get F.TIU_COUNT_COUNT = 0) :
    tiuAbort s = (s.tiuDropped.put F.TIU_STATUS_BUSY 0).put F.TIU_STATUS_DONE 1 := (if_pos hb).trans (if_pos hc)

/-- ABORT of a run with intervals ends it as its last interval would. -/
theorem tiuAbort_measured {s : State} (hb : s.on F.TIU_STATUS_BUSY = true) (hc : 0 < s.get F.TIU_COUNT_COUNT) :
    tiuAbort s = tiuFinish s.tiuDropped := (if_pos hb).trans (if_neg (Nat.ne_of_gt hc))

theorem tiuAbort_frame (s : State) : tiuAbort s = { s with regs := (tiuAbort s).regs, tiu := (tiuAbort s).tiu } := by
  unfold tiuAbort
  (repeat' split) <;> rfl

/-! An interval closes (R122, R124, R127). -/

/-- The die as the first interval of a run leaves it, but for its count: all three results are `x`. -/
def State.firstInterval (s : State) (x : Int) : State :=
  ((({ s with tiu := { s.tiu with x0 := x, s1 := s.tiu.s1 + (x - x), s2 := s.tiu.s2 + (x - x) * (x - x), openAt := none } } : State).wrS64
    Reg.TIU_MIN x).wrS64 Reg.TIU_MAX x).wrS64 Reg.TIU_LAST x

/-- The first interval of a run of two or more. -/
theorem tiuClose_first {s : State} (x : Int) (hc : s.get F.TIU_COUNT_COUNT = 0) (hn : atLeast1 (bitsOf s.tiu.meas 0 21) ≠ 1) :
    tiuClose x s = (s.firstInterval x).put F.TIU_COUNT_COUNT 1 := by
  simp only [tiuClose, hc, if_true, Nat.zero_add]
  exact if_neg hn.symm

/-- LAST, MIN and MAX take the first interval, and COUNT is 1. -/
theorem tiuClose_first_spec {s : State} {x : Int} (hc : s.get F.TIU_COUNT_COUNT = 0) (hn : atLeast1 (bitsOf s.tiu.meas 0 21) ≠ 1)
    (hx : -(2 ^ 63 : Nat) ≤ x ∧ x < (2 ^ 63 : Nat)) :
    toSigned 64 ((tiuClose x s).rd64 Reg.TIU_LAST) = x ∧ toSigned 64 ((tiuClose x s).rd64 Reg.TIU_MIN) = x ∧
    toSigned 64 ((tiuClose x s).rd64 Reg.TIU_MAX) = x ∧ (tiuClose x s).get F.TIU_COUNT_COUNT = 1 ∧
    (tiuClose x s).on F.TIU_STATUS_BUSY = s.on F.TIU_STATUS_BUSY ∧ (tiuClose x s).tiu.openAt = none := by
  obtain ⟨hlo, hhi⟩ := hx
  have hput : ∀ {a : Nat}, a ≠ Reg.TIU_COUNT → a + 4 ≠ Reg.TIU_COUNT →
      ((s.firstInterval x).put F.TIU_COUNT_COUNT 1).rd64 a = (s.firstInterval x).rd64 a := fun h h4 =>
    State.rd64_congr (State.rd_put_other _ _ _ _ h) (State.rd_put_other _ _ _ _ h4)
  rw [tiuClose_first x hc hn, hput (by decide) (by decide), hput (by decide) (by decide), hput (by decide) (by decide)]
  refine ⟨State.toSigned_wrS64 _ _ hlo hhi, ?_, ?_, State.get_put_same _ _ _ (by decide), ?_, rfl⟩
  · rw [State.firstInterval, State.wrS64, State.rd64_wr64_other _ _ (.inr (by decide)), State.wrS64,
      State.rd64_wr64_other _ _ (.inl (by decide)), State.toSigned_wrS64 _ _ hlo hhi]
  · rw [State.firstInterval, State.wrS64, State.rd64_wr64_other _ _ (.inr (by decide)), State.toSigned_wrS64 _ _ hlo hhi]
  · refine State.on_congr ?_
    rw [State.rd_put_other _ _ _ _ (by decide), State.firstInterval, State.wrS64, State.rd_wr64_other _ _ (by decide) (by decide),
      State.wrS64, State.rd_wr64_other _ _ (by decide) (by decide), State.wrS64, State.rd_wr64_other _ _ (by decide) (by decide)]
    rfl

/-! A stamped edge of a run (R124). -/

/-- With one source an edge closes the open interval, and opens the next if the run goes on. -/
theorem tiuEdge_oneSource {s : State} {c : Nat} {o b : Stamp} (hb : s.on F.TIU_STATUS_BUSY = true) (hl : s.on F.ORB_STATUS_PLL_LOCK = true)
    (hstart : bitsOf s.tiu.meas 25 3 = c) (hstop : bitsOf s.tiu.meas 22 3 = c) (ho : s.tiu.openAt = some o) : tiuEdge c b s =
      if (tiuClose (interval s.time.len o b) s).on F.TIU_STATUS_BUSY then tiuOpen b (tiuClose (interval s.time.len o b) s)
      else tiuClose (interval s.time.len o b) s := by
  simp only [tiuEdge, hb, hl, hstart, hstop, ho, not_true_eq_false, or_self, if_false, and_self, if_true]

/-- With two sources a stop edge that is not stamped before the start closes the open interval. -/
theorem tiuEdge_stop {s : State} {c : Nat} {o b : Stamp} (hb : s.on F.TIU_STATUS_BUSY = true) (hl : s.on F.ORB_STATUS_PLL_LOCK = true)
    (hstart : bitsOf s.tiu.meas 25 3 ≠ c) (hstop : bitsOf s.tiu.meas 22 3 = c) (ho : s.tiu.openAt = some o)
    (hpos : 0 ≤ interval s.time.len o b) : tiuEdge c b s =
      tiuClose (interval s.time.len o b) { s with tiu := { s.tiu with closedBy := some b } } := by
  have hne : ¬(c = bitsOf s.tiu.meas 25 3) := fun h => hstart h.symm
  simp only [tiuEdge, hb, hl, hstop, hne, not_true_eq_false, or_self, if_false, false_and, if_true]
  simp only [tiuStopEdge, ho, hpos, if_true]

/-- The fields of MEAS where a run of 2 intervals has sources `a` and `c`. -/
theorem tiuMeas_fields {a c : Nat} (ha : a < 8) (hc : c < 8) : bitsOf (a * 2 ^ 25 + c * 2 ^ 22 + 2) 25 3 = a ∧
    bitsOf (a * 2 ^ 25 + c * 2 ^ 22 + 2) 22 3 = c ∧ atLeast1 (bitsOf (a * 2 ^ 25 + c * 2 ^ 22 + 2) 0 21) ≠ 1 := by
  simp only [bitsOf, atLeast1]
  omega

/-- The first interval of a run (R122, R124, R127). -/
theorem tiuEdge_first {s : State} {o b : Stamp} {a c : Nat} (ha : a < 8) (hc : c < 8) (hb : s.on F.TIU_STATUS_BUSY = true)
    (hl : s.on F.ORB_STATUS_PLL_LOCK = true) (hcount : s.get F.TIU_COUNT_COUNT = 0) (hmeas : s.tiu.meas = a * 2 ^ 25 + c * 2 ^ 22 + 2)
    (ho : s.tiu.openAt = some o) (hpos : a = c ∨ 0 ≤ interval s.time.len o b) :
    toSigned 64 ((tiuEdge c b s).rd64 Reg.TIU_LAST) = interval s.time.len o b ∧
    toSigned 64 ((tiuEdge c b s).rd64 Reg.TIU_MIN) = interval s.time.len o b ∧
    toSigned 64 ((tiuEdge c b s).rd64 Reg.TIU_MAX) = interval s.time.len o b ∧
    (tiuEdge c b s).get F.TIU_COUNT_COUNT = 1 ∧ (tiuEdge c b s).on F.TIU_STATUS_BUSY = true ∧
    (a ≠ c → (tiuEdge c b s).tiu.openAt = none) ∧ (a = c → (tiuEdge c b s).tiu.openAt = some b) := by
  obtain ⟨hstart, hstop, hn⟩ := tiuMeas_fields ha hc
  rw [← hmeas] at hstart hstop hn
  have hx := interval_range s.time.len o b
  by_cases hac : a = c
  · obtain ⟨hlast, hmin, hmax, hcnt, hbusy, -⟩ := tiuClose_first_spec hcount hn hx
    rw [tiuEdge_oneSource hb hl (hstart.trans hac) hstop ho, if_pos (hbusy.trans hb)]
    exact ⟨hlast, hmin, hmax, hcnt, hbusy.trans hb, fun h => absurd hac h, fun _ => rfl⟩
  · have hpos' := hpos.resolve_left hac
    rw [tiuEdge_stop hb hl (fun h => hac (hstart.symm.trans h)) hstop ho hpos']
    obtain ⟨hlast, hmin, hmax, hcnt, hbusy, hopen⟩ :=
      tiuClose_first_spec (s := { s with tiu := { s.tiu with closedBy := some b } }) hcount hn hx
    exact ⟨hlast, hmin, hmax, hcnt, hbusy.trans hb, fun _ => hopen, fun h => absurd h hac⟩

end Sys2Proof.Machine
end

section
/-! Commands of TIU_CMD (R123, R128): they take effect at the next F-cycle, and wait where none comes in this orbit. -/

namespace Sys2Proof.Machine

/-! Effects at the next F-cycle. -/

/-- Without the F-clock, or in an orbit's last F-cycle, what is to come waits. -/
theorem State.nextF_waits {x : State} (h : x.time.fRun = false ∨ x.time.counting = true ∧ x.time.len * 64 ≤ x.time.slot * 64 + x.time.fcyc + 1)
    (l : Later) (k : State → State) : x.nextF l k = x.defer l := if_pos (h.imp_left (by simp [·]))

/-- In any other F-cycle it comes about at the next. -/
theorem State.nextF_comes {x : State} (hf : x.time.fRun = true)
    (hmore : x.time.counting = true → x.time.slot * 64 + x.time.fcyc + 1 < x.time.len * 64) (l : Later) (k : State → State) :
    x.nextF l k = k (x.elapse 1) := by
  refine if_neg ?_
  rintro (hn | ⟨hc, hle⟩)
  · exact hn hf
  · exact absurd (hmore hc) (Nat.not_lt.mpr hle)

/-! The write. -/

/-- TIU_CMD in the register map. -/
def tiuCmdHit : Hit := ⟨.tiu, { off := 0x18, cls := .live }, 0, 0, 0⟩

theorem findReg_tiuCmdHit : findReg Reg.TIU_CMD = some tiuCmdHit := rfl

/-- The word that a write of TIU_CMD stores is the one there. -/
theorem State.newWord_tiuCmd (s : State) (v : Nat) : s.newWord tiuCmdHit Reg.TIU_CMD v = s.rd Reg.TIU_CMD := by
  have hmask : s.newWord tiuCmdHit Reg.TIU_CMD v = maskedWord 0 (s.rd Reg.TIU_CMD) v := by
    simp [State.newWord, tiuCmdHit, featWord, fixWord, maskedWord]
  exact hmask.trans ((maskedWord_low (k := 0) (s.rd_lt _) (by decide) v).trans (by simp [setBits, Nat.mod_one]))

/-- The die as a write of TIU_CMD leaves it before the command: nothing is stored, and a split read of the register is over. -/
def State.tiuCmdStored (s : State) : State := (s.letGo Reg.TIU_CMD).wr Reg.TIU_CMD (s.rd Reg.TIU_CMD)

theorem State.tiuCmdStored_readsAs (s : State) : s.ReadsAs s.tiuCmdStored :=
  ⟨_, _, rfl, fun a => s.wr_rd_unchanged _ a (by simp)⟩

/-- A write of TIU_CMD in any run state that answers READY is taken. -/
theorem State.write_tiuCmd {s : State} (hr : s.sys.run.isReady = true) (v : Nat) (bar : Bool) : s.write bar Reg.TIU_CMD v =
    s.tiuCmdStored.wrote tiuCmdHit (s.rd Reg.TIU_CMD) (v % 2 ^ 32) (s.rd Reg.TIU_CMD) := by
  refine (State.write_taken s bar Reg.TIU_CMD v _ findReg_tiuCmdHit (by decide) (by decide) hr rfl (by decide) (by decide) rfl rfl
    hr rfl rfl).trans ?_
  refine ((s.letGo Reg.TIU_CMD).applyWord_stored rfl (by decide) (by decide) _ _).trans ?_
  rw [State.newWord_tiuCmd, State.digested_same]
  rfl

/-- The bits of a write of TIU_CMD are commands. -/
theorem State.wrote_tiuCmd (s : State) (old v nw : Nat) : s.wrote tiuCmdHit old v nw =
    if decide (bitsOf v 0 1 = 1) = true ∨ decide (bitsOf v 1 1 = 1) = true then
      s.nextF (.tiuCmd (decide (bitsOf v 1 1 = 1)) (decide (bitsOf v 0 1 = 1)))
        (tiuCommand (decide (bitsOf v 1 1 = 1)) (decide (bitsOf v 0 1 = 1)))
    else s := by
  unfold State.wrote
  rfl

theorem tiuCommand_start : tiuCommand false true = tiuStart := by
  funext s
  simp [tiuCommand]

theorem tiuCommand_abort : tiuCommand true false = tiuAbort := by
  funext s
  simp [tiuCommand]

section
variable {s : State} (hr : s.sys.run.isReady = true) (bar : Bool)
include hr

theorem exec_tiuStart : exec (.tiuStart bar) s = finish s (s.tiuCmdStored.nextF (.tiuCmd false true) tiuStart) := by
  refine congrArg (finish s) ((State.write_tiuCmd hr 1 bar).trans ?_)
  rw [State.wrote_tiuCmd, ← tiuCommand_start]
  exact if_pos (.inl (by decide))

theorem exec_tiuAbort : exec (.tiuAbort bar) s = finish s (s.tiuCmdStored.nextF (.tiuCmd true false) tiuAbort) := by
  refine congrArg (finish s) ((State.write_tiuCmd hr 2 bar).trans ?_)
  rw [State.wrote_tiuCmd, ← tiuCommand_abort]
  exact if_pos (.inr (by decide))

end

section
variable {s : State} (ha : Awake s) {c : Instr} {l : Later} {k : State → State} (hc : exec c s = finish s (s.tiuCmdStored.nextF l k))
include ha hc

/-- A command of TIU_CMD that waits. -/
theorem tiuCmd_waits (h : s.time.fRun = false ∨ s.time.counting = true ∧ s.time.len * 64 ≤ s.time.slot * 64 + s.time.fcyc + 1) :
    ∃ t, exec c s = .next t ∧ t.time = { s.time with later := s.time.later ++ [l] } ∧ regsBut [] s t ∧
      t = { s with regs := t.regs, time := t.time, bus := t.bus } := by
  obtain ⟨r, b, hx, hrd⟩ := s.tiuCmdStored_readsAs
  rw [hc, State.nextF_waits (by rw [hx]; exact h)]
  generalize s.tiuCmdStored = x at *
  subst hx
  exact ⟨_, finish_eq ha rfl rfl, rfl, fun a _ => (State.rd_congr rfl a).trans (hrd a), rfl⟩

/-- A command of TIU_CMD whose effect `k` comes at the next F-cycle meets a die `y` that reads as the present one then. -/
theorem tiuCmd_comes (hf : s.time.fRun = true) (hmore : s.time.counting = true → s.time.slot * 64 + s.time.fcyc + 1 < s.time.len * 64)
    (hk : ∀ y, k y = { y with regs := (k y).regs, tiu := (k y).tiu }) : ∃ y, (s.elapse 1).ReadsAs y ∧ exec c s = .next (k y) ∧
      k y = { s.elapse 1 with regs := (k y).regs, tiu := (k y).tiu, bus := (k y).bus } := by
  have hx := s.tiuCmdStored_readsAs
  have htime : s.tiuCmdStored.time = s.time := by rw [hx.frame]
  have hy := hx.elapse 1
  have hsys : (s.elapse 1).sys = s.sys := s.elapse_sys 1
  have hpend : (s.elapse 1).pending = s.pending := s.elapse_pending 1
  rw [hc, State.nextF_comes (by rw [htime]; exact hf) (by rw [htime]; exact hmore)]
  generalize s.tiuCmdStored.elapse 1 = y at *
  generalize s.elapse 1 = v at *
  have hframe : k y = { v with regs := (k y).regs, tiu := (k y).tiu, bus := (k y).bus } := by
    obtain ⟨r, b, rfl, -⟩ := hy
    rw [hk]
  refine ⟨y, hy, finish_eq ha ?_ ?_, hframe⟩
  · rw [hframe, ← hsys]
  · rw [hframe, ← hpend]

end

end Sys2Proof.Machine
end

section
/-! An edge of a UTIL input (R121, R122, R129): what it changes of the die, and what of that the run's statistics leave alone. -/

namespace Sys2Proof.Machine

/-! What an edge of a run leaves alone. -/

/-- The die but for registers and the run's settings, edges and sums. -/
def State.besidesRun (s : State) : State :=
  { s with regs := [], tiu := { s.tiu with openAt := none, openSlot := 0, stops := [], closedBy := none, x0 := 0, s1 := 0, s2 := 0 } }

theorem State.frame_of_besidesRun {s t : State} (h : t.besidesRun = s.besidesRun) : t = { s with regs := t.regs, tiu := t.tiu } :=
  congrArg (fun x : State => { x with regs := t.regs, tiu := t.tiu }) h

theorem State.vtdc_of_besidesRun {s t : State} (h : t.besidesRun = s.besidesRun) : t.vtdc = s.vtdc := by
  rw [State.frame_of_besidesRun h]

/-- The inputs' hold-offs, conversions and levels are no part of the run. -/
theorem State.inputs_of_besidesRun {s t : State} (h : t.besidesRun = s.besidesRun) :
    t.tiu.holdTo = s.tiu.holdTo ∧ t.tiu.flights = s.tiu.flights ∧ t.tiu.high = s.tiu.high := by
  have hhold := congrArg (fun x : State => x.tiu.holdTo) h
  have hflights := congrArg (fun x : State => x.tiu.flights) h
  have hhigh := congrArg (fun x : State => x.tiu.high) h
  exact ⟨hhold, hflights, hhigh⟩

theorem State.besidesRun_of_regs {s t : State} (h : t = { s with regs := t.regs }) : t.besidesRun = s.besidesRun := by
  rw [h]
  rfl

theorem State.besidesRun_put (s : State) (f : Fld) (v : Nat) : (s.put f v).besidesRun = s.besidesRun :=
  State.besidesRun_of_regs (s.put_frame f v)

theorem State.besidesRun_wrS64 (s : State) (a : Nat) (z : Int) : (s.wrS64 a z).besidesRun = s.besidesRun :=
  State.besidesRun_of_regs (s.wr64_frame a _)

theorem tiuFinish_besidesRun (s : State) : (tiuFinish s).besidesRun = s.besidesRun := by
  obtain ⟨-, -, -, -, hframe⟩ := tiuFinish_spec s
  exact State.besidesRun_of_regs hframe

theorem tiuClose_besidesRun (x : Int) (s : State) : (tiuClose x s).besidesRun = s.besidesRun := by
  simp only [tiuClose, apply_ite State.besidesRun, tiuFinish_besidesRun, State.besidesRun_put, State.besidesRun_wrS64, ite_self]
  rfl

theorem tiuStartEdge_besidesRun (st : Stamp) (s : State) : (tiuStartEdge st s).besidesRun = s.besidesRun := by
  unfold tiuStartEdge
  split
  · rfl
  · split
    · exact tiuClose_besidesRun _ _
    · split
      · exact tiuClose_besidesRun _ _
      · rfl

theorem tiuStopEdge_besidesRun (st : Stamp) (s : State) : (tiuStopEdge st s).besidesRun = s.besidesRun := by
  unfold tiuStopEdge
  dsimp only
  split
  · rfl
  · split
    · exact tiuClose_besidesRun _ _
    · split
      · exact tiuClose_besidesRun _ _
      · rfl

theorem tiuEdge_besidesRun (src : Nat) (st : Stamp) (s : State) : (tiuEdge src st s).besidesRun = s.besidesRun := by
  unfold tiuEdge
  dsimp only
  split
  · rfl
  · split
    · split
      · split
        · exact tiuClose_besidesRun _ _
        · exact tiuClose_besidesRun _ _
      · rfl
    · split
      · exact tiuStartEdge_besidesRun st s
      · split
        · exact tiuStopEdge_besidesRun st s
        · rfl

/-- Without a run an edge changes nothing of it. -/
theorem tiuEdge_idle (src : Nat) (st : Stamp) {s : State} (h : s.on F.TIU_STATUS_BUSY = false) : tiuEdge src st s = s :=
  if_pos (.inl (by simp [h]))

/-! The edge. -/

/-- Both pairs of UTIL input `k` pre-empted. -/
def State.preemptInput (s : State) (k : Nat) : State := (s.preempt (32768 + 2 * k)).preempt (32768 + 2 * k + 1)

theorem State.preemptInput_preempted (s : State) (k : Nat) : s.Preempted (s.preemptInput k) :=
  (s.preempt_preempted _).trans (State.preempt_preempted _ _)

/-- The stamp's time of an edge that pair `ix` takes (R105, R122). -/
def State.flightTime (s : State) (ix launch cnt : Nat) : Int := convTime launch (s.pairCal ix).1 (s.pairCal ix).2 cnt

/-- A stale stamp of a UTIL input is counted twice, for VTDC and for the TIU (R103, R129). -/
def State.staleCounted (s : State) (stale : Bool) : State := if stale then (s.inc Reg.VTDC_STALE_CNT).inc Reg.TIU_STALE_CNT else s

/-- Pair `p` of UTIL input `k` begins a conversion, and the input's hold-off begins. -/
def State.beginFlight (s : State) (k p launch cnt : Nat) : State :=
  let y := s.staleCounted (s.pairStale (32768 + 2 * k + p) (s.flightTime (32768 + 2 * k + p) launch cnt / 65536).toNat)
  let z := y.setPair (32768 + 2 * k + p) { y.pair (32768 + 2 * k + p) with busy := true }
  { z with tiu := { z.tiu with
    holdTo := sset 0 z.tiu.holdTo k (launch + s.get (F.TIU_IN_HOLDOFF k))
    lastB := if p = 1 then z.tiu.lastB.filter (fun j => decide (j ≠ k)) else if z.tiu.lastB.contains k then z.tiu.lastB else k :: z.tiu.lastB
    flights := z.tiu.flights ++ [{ pair := 32768 + 2 * k + p, launch := launch, n := cnt }] } }

/-- What an accepted edge of input `k` makes of the die, as the pair that takes it is chosen. -/
def State.takeUtil (s : State) (k launch cnt : Nat) : Option Nat → State
  | none => s.inc Reg.TIU_LOST_CNT
  | some p => tiuEdge k ((s.beginFlight k p launch cnt).stampOf (s.flightTime (32768 + 2 * k + p) launch cnt)) (s.beginFlight k p launch cnt)

theorem State.staleCounted_spec (s : State) (stale : Bool) :
    regsBut [Reg.VTDC_STALE_CNT, Reg.TIU_STALE_CNT] s (s.staleCounted stale) ∧ ∃ r, s.staleCounted stale = { s with regs := r } := by
  cases stale with
  | false => exact ⟨fun _ _ => rfl, s.regs, rfl⟩
  | true =>
    refine ⟨fun a ha => ?_, _, rfl⟩
    simp only [List.mem_cons, List.not_mem_nil, or_false, not_or] at ha
    exact (State.rd_incBy _ _ _ _).trans ((if_neg ha.2).trans ((State.rd_incBy _ _ _ _).trans (if_neg ha.1)))

/-- A conversion that begins changes its pair, its input's hold-off and the counts of stale stamps. -/
theorem State.beginFlight_spec (s : State) (k p launch cnt : Nat) :
    ((s.beginFlight k p launch cnt).pair (32768 + 2 * k + p)).busy = true ∧
    sget 0 (s.beginFlight k p launch cnt).tiu.holdTo k = launch + s.get (F.TIU_IN_HOLDOFF k) ∧
    (s.beginFlight k p launch cnt).tiu.flights = s.tiu.flights ++ [{ pair := 32768 + 2 * k + p, launch := launch, n := cnt }] ∧
    (s.beginFlight k p launch cnt).tiu.high = s.tiu.high ∧
    regsBut [Reg.VTDC_STALE_CNT, Reg.TIU_STALE_CNT] s (s.beginFlight k p launch cnt) ∧
    ∃ r v i, s.beginFlight k p launch cnt = { s with regs := r, vtdc := v, tiu := i } := by
  obtain ⟨hregs, r, hframe⟩ :=
    s.staleCounted_spec (s.pairStale (32768 + 2 * k + p) (s.flightTime (32768 + 2 * k + p) launch cnt / 65536).toNat)
  unfold State.beginFlight
  dsimp only
  generalize s.staleCounted _ = y at *
  subst hframe
  refine ⟨?_, sget_sset_same _ _ _ _, rfl, rfl, hregs, _, _, _, rfl⟩
  exact (congrArg Pair.busy (State.pair_setPair _ _ _ _)).trans (by rw [if_pos rfl])

section
variable {s u : State} {k ls lf : Nat} (hu : s.atCycle ls lf = some u) {cnt swing : Nat} {rise : Bool}
include hu

/-- A swing below the hysteresis is no edge. -/
theorem utilEdge_none (hsw : swing < u.utilHyst k) : utilEdge k ls lf cnt rise swing s = u := (State.reach_at hu _).trans (if_pos hsw)

variable (hsw : u.utilHyst k ≤ swing)
include hsw

/-- A swing that reaches the hysteresis moves the input's level: past the first test of UTIL_EDGE. -/
theorem utilEdge_comes : utilEdge k ls lf cnt rise swing s =
    if ¬ u.on (F.TIU_IN_EN k) ∨ rise = u.on (F.TIU_IN_EDGE k) ∨ ¬ u.on F.ORB_STATUS_PLL_LOCK ∨ u.fNow < sget 0 u.tiu.holdTo k then
      u.utilLevel k rise
    else ((u.utilLevel k rise).preemptInput k).takeUtil k u.fNow cnt
      (choosePair (((u.utilLevel k rise).preemptInput k).pairFree (32768 + 2 * k))
        (((u.utilLevel k rise).preemptInput k).pairFree (32768 + 2 * k + 1))
        (!((u.utilLevel k rise).preemptInput k).tiu.lastB.contains k)) :=
  (State.reach_at hu _).trans ((if_neg (Nat.not_lt.mpr hsw)).trans rfl)

/-- An edge of a disabled input, of the other direction, without PLL lock or in hold-off moves the level alone. -/
theorem utilEdge_ignored (h : u.on (F.TIU_IN_EN k) = false ∨ rise = u.on (F.TIU_IN_EDGE k) ∨ u.on F.ORB_STATUS_PLL_LOCK = false ∨
    u.fNow < sget 0 u.tiu.holdTo k) : utilEdge k ls lf cnt rise swing s = u.utilLevel k rise := by
  refine (utilEdge_comes hu hsw).trans (if_pos ?_)
  simpa only [Bool.not_eq_true] using h

variable (hen : u.on (F.TIU_IN_EN k) = true) (hdir : rise ≠ u.on (F.TIU_IN_EDGE k)) (hlock : u.on F.ORB_STATUS_PLL_LOCK = true)
  (hpast : sget 0 u.tiu.holdTo k ≤ u.fNow)
include hen hdir hlock hpast

/-- Any other edge pre-empts both pairs' calibrations; a free pair takes it, and with none free it is lost. -/
theorem utilEdge_accepted : utilEdge k ls lf cnt rise swing s = ((u.utilLevel k rise).preemptInput k).takeUtil k u.fNow cnt
    (choosePair (u.pairFree (32768 + 2 * k)) (u.pairFree (32769 + 2 * k)) (!u.tiu.lastB.contains k)) := by
  have hx := (u.utilLevel k rise).preemptInput_preempted k
  have hlast : ((u.utilLevel k rise).preemptInput k).tiu.lastB = u.tiu.lastB := by
    obtain ⟨r, v, hfr⟩ := hx.frame
    rw [hfr]; rfl
  have hfree : ∀ p, (u.utilLevel k rise).pairFree p = u.pairFree p := fun _ => rfl
  have hmate : 32768 + 2 * k + 1 = 32769 + 2 * k := by omega
  refine ((utilEdge_comes hu hsw).trans (if_neg ?_)).trans ?_
  · rintro (h | h | h | h)
    · exact h hen
    · exact hdir h
    · exact h hlock
    · exact absurd h (Nat.not_lt.mpr hpast)
  · rw [hx.pairFree, hx.pairFree, hfree, hfree, hlast, hmate]

variable (ha : Awake s)
include ha

/-- With no free pair the edge is lost and counted. -/
theorem utilEdge_lost
    (hc : choosePair (u.pairFree (32768 + 2 * k)) (u.pairFree (32769 + 2 * k)) (!u.tiu.lastB.contains k) = none) :
    ∃ t, exec (.utilEdge k ls lf ⟨cnt, rise, swing⟩) s = .next t ∧ t.rd Reg.TIU_LOST_CNT = min (u.rd Reg.TIU_LOST_CNT + 1) 0xFFFFFFFF ∧
      regsBut [Reg.TIU_LOST_CNT, Reg.VTDC_CAL_ABORT_CNT] u t ∧ t.tiu = (u.utilLevel k rise).tiu ∧
      t = { u with regs := t.regs, vtdc := t.vtdc, tiu := t.tiu } := by
  have hedge := utilEdge_accepted hu (cnt := cnt) hsw hen hdir hlock hpast
  have hx := (u.utilLevel k rise).preemptInput_preempted k
  rw [hc] at hedge
  generalize (u.utilLevel k rise).preemptInput k = x at *
  obtain ⟨hregs, ⟨r, v, rfl⟩, -⟩ := hx
  refine ⟨_, (congrArg (finish s) hedge).trans (finish_at ha (State.atCycle_sys hu) rfl rfl), ?_, fun a hne => ?_, rfl, rfl⟩
  · exact (State.rd_incBy _ _ _ _).trans ((if_pos rfl).trans (by rw [hregs _ (by decide)]; rfl))
  · simp only [List.mem_cons, List.not_mem_nil, or_false, not_or] at hne
    exact (State.rd_incBy _ _ _ _).trans ((if_neg hne.1).trans (hregs a (by simpa using hne.2)))

/-- A free pair takes the edge; what the run makes of its stamp touches neither pairs nor inputs, and without a run nothing. -/
theorem utilEdge_taken (hk : k < 4) {p : Nat}
    (hc : choosePair (u.pairFree (32768 + 2 * k)) (u.pairFree (32769 + 2 * k)) (!u.tiu.lastB.contains k) = some p) :
    ∃ t, exec (.utilEdge k ls lf ⟨cnt, rise, swing⟩) s = .next t ∧
      (t.pair (32768 + 2 * k + p)).busy = true ∧ sget 0 t.tiu.holdTo k = u.fNow + u.get (F.TIU_IN_HOLDOFF k) ∧
      t.tiu.flights = u.tiu.flights ++ [{ pair := 32768 + 2 * k + p, launch := u.fNow, n := cnt }] ∧
      t.tiu.high = (u.utilLevel k rise).tiu.high ∧
      (u.on F.TIU_STATUS_BUSY = false → regsBut [Reg.VTDC_CAL_ABORT_CNT, Reg.VTDC_STALE_CNT, Reg.TIU_STALE_CNT] u t) ∧
      t = { u with regs := t.regs, vtdc := t.vtdc, tiu := t.tiu } := by
  have hedge := utilEdge_accepted hu (cnt := cnt) hsw hen hdir hlock hpast
  have hx := (u.utilLevel k rise).preemptInput_preempted k
  rw [hc] at hedge
  generalize (u.utilLevel k rise).preemptInput k = x at *
  obtain ⟨hbusy, hhold, hflights, hhigh, hregs, r, v, i, hy⟩ := x.beginFlight_spec k p u.fNow cnt
  have hoff : x.get (F.TIU_IN_HOLDOFF k) = u.get (F.TIU_IN_HOLDOFF k) := by
    rw [State.get, hx.regs _ (by simp only [List.mem_singleton, Reg.TIU_IN, Reg.VTDC_CAL_ABORT_CNT]; omega)]
    rfl
  have hrun := tiuEdge_besidesRun k ((x.beginFlight k p u.fNow cnt).stampOf (x.flightTime (32768 + 2 * k + p) u.fNow cnt))
    (x.beginFlight k p u.fNow cnt)
  have hidle := tiuEdge_idle k ((x.beginFlight k p u.fNow cnt).stampOf (x.flightTime (32768 + 2 * k + p) u.fNow cnt))
    (s := x.beginFlight k p u.fNow cnt)
  rw [State.takeUtil] at hedge
  generalize tiuEdge k _ (x.beginFlight k p u.fNow cnt) = t at *
  generalize x.beginFlight k p u.fNow cnt = y at *
  obtain ⟨r', v', hxu⟩ := hx.frame
  have hframe : t = { u with regs := t.regs, vtdc := t.vtdc, tiu := t.tiu } := by
    rw [State.frame_of_besidesRun hrun, hy, hxu]; rfl
  obtain ⟨hheld, hflown, hlevel⟩ := State.inputs_of_besidesRun hrun
  refine ⟨t, (congrArg (finish s) hedge).trans (finish_at ha (State.atCycle_sys hu) (by rw [hframe]) (by rw [hframe])), ?_, ?_, ?_, ?_,
    fun hb a hne => ?_, hframe⟩
  · rw [State.pair_congr (State.vtdc_of_besidesRun hrun), hbusy]
  · rw [hheld, hhold, hoff]
  · rw [hflown, hflights, hxu]
    rfl
  · rw [hlevel, hhigh, hxu]
  · have hbx : x.on F.TIU_STATUS_BUSY = u.on F.TIU_STATUS_BUSY := hx.on (by decide)
    have hby : y.on F.TIU_STATUS_BUSY = x.on F.TIU_STATUS_BUSY := State.on_congr (hregs _ (by decide))
    simp only [List.mem_cons, List.not_mem_nil, or_false, not_or] at hne
    obtain ⟨habort, hstale, htiu⟩ := hne
    rw [hidle (hby.trans (hbx.trans hb)), hregs a (by simp [hstale, htiu])]
    exact hx.regs a (by simpa using habort)

end

end Sys2Proof.Machine
end

section
/-! The TIU's commands and events together (R121–R129). -/

namespace Sys2Proof.Machine

section
variable {s : State} (ha : Awake s) (hr : s.sys.run.isReady = true) (bar : Bool) (hf : s.time.fRun = true)
  (hmore : s.time.counting = true → s.time.slot * 64 + s.time.fcyc + 1 < s.time.len * 64)
include ha hr hf hmore

/-- START at the next F-cycle (R123). -/
theorem tiuStart_comes : ∃ t, exec (.tiuStart bar) s = .next t ∧ t.on F.TIU_STATUS_BUSY = true ∧ t.on F.TIU_STATUS_DONE = false ∧
    t.get F.TIU_COUNT_COUNT = 0 ∧ (∀ a, a ∈ tiuResults ∨ a = Reg.TIU_SDEV → t.rd a = 0) ∧ t.tiu = s.tiuLatched ∧
    regsBut ([Reg.TIU_STATUS, Reg.TIU_COUNT, Reg.TIU_SDEV] ++ tiuResults) (s.elapse 1) t ∧
    t = { s.elapse 1 with regs := t.regs, tiu := t.tiu, bus := t.bus } := by
  obtain ⟨y, hy, hexec, hframe⟩ := tiuCmd_comes ha (exec_tiuStart hr bar) hf hmore tiuStart_frame
  obtain ⟨hbusy, hdone, hcount⟩ := tiuStart_flags y
  obtain ⟨r, hlatch⟩ := tiuStart_latches y
  have hlatched : y.tiuLatched = s.tiuLatched := by
    have htiu : y.tiu = s.tiu := by rw [hy.frame, State.elapse_tiu]
    have hword : ∀ a, a ≠ Reg.TRG_BUSY_SLOTS → a ≠ Reg.ORB_STATUS → y.rd a = s.rd a := fun a hb ho =>
      (hy.regsBut a (by simp)).trans (s.elapse_rd 1 a hb ho)
    rw [State.tiuLatched, State.tiuLatched, htiu, hword _ (by decide) (by decide), hword _ (by decide) (by decide)]
  refine ⟨tiuStart y, hexec, hbusy, hdone, hcount, fun a => tiuStart_results y, ?_,
    fun a hne => (tiuStart_regsBut y a hne).trans (hy.regsBut a (by simp)), hframe⟩
  rw [hlatch, hlatched]

/-- ABORT meets at the next F-cycle the run as it stands. -/
theorem tiuAbort_comes : ∃ y, exec (.tiuAbort bar) s = .next (tiuAbort y) ∧ (s.elapse 1).ReadsAs y ∧ y.tiu = s.tiu ∧
    y.on F.TIU_STATUS_BUSY = s.on F.TIU_STATUS_BUSY ∧ y.get F.TIU_COUNT_COUNT = s.get F.TIU_COUNT_COUNT ∧
    tiuAbort y = { s.elapse 1 with regs := (tiuAbort y).regs, tiu := (tiuAbort y).tiu, bus := (tiuAbort y).bus } := by
  obtain ⟨y, hy, hexec, hframe⟩ := tiuCmd_comes ha (exec_tiuAbort hr bar) hf hmore tiuAbort_frame
  have hword : ∀ a, a ≠ Reg.TRG_BUSY_SLOTS → a ≠ Reg.ORB_STATUS → y.rd a = s.rd a := fun a hb ho =>
    (hy.regsBut a (by simp)).trans (s.elapse_rd 1 a hb ho)
  refine ⟨y, hexec, hy, by rw [hy.frame, State.elapse_tiu], State.on_congr (hword _ (by decide) (by decide)), ?_, hframe⟩
  rw [State.get, State.get, hword _ (by decide) (by decide)]

/-- ABORT of a run without intervals (R128). -/
theorem tiuAbort_comes_empty (hb : s.on F.TIU_STATUS_BUSY = true) (hc : s.get F.TIU_COUNT_COUNT = 0) : ∃ t,
    exec (.tiuAbort bar) s = .next t ∧ t.on F.TIU_STATUS_BUSY = false ∧ t.on F.TIU_STATUS_DONE = true ∧
    t.tiu = { s.tiu with openAt := none } ∧ regsBut [Reg.TIU_STATUS] (s.elapse 1) t ∧
    t = { s.elapse 1 with regs := t.regs, tiu := t.tiu, bus := t.bus } := by
  obtain ⟨y, hexec, hy, htiu, hby, hcy, hframe⟩ := tiuAbort_comes ha hr bar hf hmore
  have habort := tiuAbort_empty (hby.trans hb) (hcy.trans hc)
  refine ⟨_, hexec, ?_, ?_, ?_, fun a hne => ?_, hframe⟩ <;> rw [habort]
  · exact (State.on_put_below _ 1 (f := F.TIU_STATUS_BUSY) (g := F.TIU_STATUS_DONE) rfl (by decide) (by decide)).2
  · exact (State.on_put_flag _ (f := F.TIU_STATUS_DONE) rfl (by decide)).1
  · rw [← htiu]; rfl
  · have hstat : a ≠ Reg.TIU_STATUS := by simpa using hne
    rw [State.rd_put_other _ _ _ _ hstat, State.rd_put_other _ _ _ _ hstat]
    exact hy.regsBut a (by simp)

/-- ABORT of a run with intervals writes their mean (R127, R128). -/
theorem tiuAbort_comes_measured (hb : s.on F.TIU_STATUS_BUSY = true) (hc : 0 < s.get F.TIU_COUNT_COUNT) : ∃ t,
    exec (.tiuAbort bar) s = .next t ∧ t.on F.TIU_STATUS_BUSY = false ∧ t.on F.TIU_STATUS_DONE = true ∧
    t.tiu = { s.tiu with openAt := none } ∧
    t.rd64 Reg.TIU_MEAN = ofSigned 64 (roundDiv ((s.tiu.x0 * s.get F.TIU_COUNT_COUNT + s.tiu.s1) * 65536) (s.get F.TIU_COUNT_COUNT)) ∧
    regsBut [Reg.TIU_STATUS, Reg.TIU_MEAN, Reg.TIU_MEAN + 4, Reg.TIU_SDEV] (s.elapse 1) t ∧
    t = { s.elapse 1 with regs := t.regs, tiu := t.tiu, bus := t.bus } := by
  obtain ⟨y, hexec, hy, htiu, hby, hcy, hframe⟩ := tiuAbort_comes ha hr bar hf hmore
  have habort := tiuAbort_measured (hby.trans hb) (by rw [hcy]; exact hc)
  obtain ⟨hbusy, hdone, hmean, hregs, hfin⟩ := tiuFinish_spec y.tiuDropped
  have hcount : y.tiuDropped.get F.TIU_COUNT_COUNT = s.get F.TIU_COUNT_COUNT := hcy
  have hsums : y.tiuDropped.tiu = { s.tiu with openAt := none } := by rw [← htiu]; rfl
  have hone : atLeast1 (s.get F.TIU_COUNT_COUNT) = s.get F.TIU_COUNT_COUNT := max_eq_right hc
  rw [hcount, hsums, hone] at hmean
  rw [← habort] at hbusy hdone hmean hregs hfin
  refine ⟨_, hexec, hbusy, hdone, ?_, hmean, fun a hne => (hregs a hne).trans (hy.regsBut a (by simp)), hframe⟩
  rw [hfin, ← hsums]

/-- ABORT without a run (log 1). -/
theorem tiuAbort_comes_idle (hb : s.on F.TIU_STATUS_BUSY = false) : ∃ t, exec (.tiuAbort bar) s = .next t ∧ regsBut [] (s.elapse 1) t ∧
    t = { s.elapse 1 with regs := t.regs, bus := t.bus } := by
  obtain ⟨y, hexec, hy, -, hby, -, -⟩ := tiuAbort_comes ha hr bar hf hmore
  rw [tiuAbort_idle (hby.trans hb)] at hexec
  exact ⟨y, hexec, hy.regsBut, hy.frame⟩

end

/-- An interval open too long is discarded and counted (R126). -/
theorem exec_tiuIntervalTimeout {s u : State} (ha : Awake s) (hb : s.on F.TIU_STATUS_BUSY = true) (ho : s.tiu.openAt.isSome = true)
    (hu : s.atSlot (s.tiu.openSlot + max 1 (s.tiu.tmo % 2 ^ 24)) = some u) :
    exec .tiuIntervalTimeout s = .next (u.tiuDropped.incBy Reg.TIU_TIMEOUT_CNT 1) := by
  have hslot : bitsOf s.tiu.tmo 0 24 = s.tiu.tmo % 2 ^ 24 := by simp [bitsOf]
  have htime : tiuTimeout s = u.tiuDropped.incBy Reg.TIU_TIMEOUT_CNT 1 := by
    refine (if_pos ⟨hb, ho⟩).trans ?_
    rw [hslot]
    exact State.reachSlot_at hu _
  exact (congrArg (finish s) htime).trans (finish_at ha (State.atSlot_sys hu) rfl rfl)

/-- Settles O23: START and ABORT by the die that they meet at the next F-cycle, an edge of a UTIL input by the branch of UTIL_EDGE that its
conditions name, and the first interval of a run by what closes it. -/
theorem timeIntervalsAreMeasured : Obligations.TimeIntervalsAreMeasured := by
  unfold Obligations.TimeIntervalsAreMeasured
  refine ⟨?commands, fun s o b a c ha hc hb hl hcount hmeas ho hpos => tiuEdge_first ha hc hb hl hcount hmeas ho hpos⟩
  rintro s u v bar rise k ls lf cnt swing ha hr rfl
  refine ⟨fun hf hmore => ?start, fun hw => ⟨tiuCmd_waits ha (exec_tiuStart hr bar) hw, tiuCmd_waits ha (exec_tiuAbort hr bar) hw⟩,
    fun hf hmore hb hc => tiuAbort_comes_empty ha hr bar hf hmore hb hc, fun hf hmore hb hc => tiuAbort_comes_measured ha hr bar hf hmore hb hc,
    fun hf hmore hb => tiuAbort_comes_idle ha hr bar hf hmore hb, fun _ hu hsw => ?none, fun _ hu hsw h => ?ignored,
    fun _ hu hsw hen hdir hlock hpast hc => utilEdge_lost hu hsw hen hdir hlock hpast ha hc,
    fun p hk hu hsw hen hdir hlock hpast hc => utilEdge_taken hu hsw hen hdir hlock hpast ha hk hc,
    fun hb ho hu => exec_tiuIntervalTimeout ha hb ho hu, fun h => ?idle⟩
  case start =>
    obtain ⟨t, hexec, hbusy, hdone, hcount, hzero, htiu, hregs, hframe⟩ := tiuStart_comes ha hr bar hf hmore
    have hresult : ∀ i < 7, t.rd64 (Reg.TIU_LAST + 4 * i) = 0 := fun i hi => by
      rw [State.rd64, hzero _ (.inl (List.mem_map.mpr ⟨i, List.mem_range.mpr (by omega), rfl⟩)),
        hzero _ (.inl (List.mem_map.mpr ⟨i + 1, List.mem_range.mpr (by omega), by omega⟩))]
      rfl
    refine ⟨t, hexec, hbusy, hdone, hcount, hresult 0 (by decide), hresult 2 (by decide), hresult 4 (by decide), hresult 6 (by decide),
      hzero _ (.inr rfl), ?_, ?_, ?_, ?_, ?_, hregs, hframe⟩ <;> rw [htiu] <;> rfl
  case none => exact (congrArg (finish s) (utilEdge_none hu hsw)).trans (finish_at ha (State.atCycle_sys hu) rfl rfl)
  case ignored => exact (congrArg (finish s) (utilEdge_ignored hu hsw h)).trans (finish_at ha (State.atCycle_sys hu) rfl rfl)
  case idle =>
    refine (congrArg (finish s) (if_neg ?_)).trans (finish_eq ha rfl rfl)
    rintro ⟨hb, ho⟩
    rcases h with h | h
    · simp [h] at hb
    · simp [h] at ho

end Sys2Proof.Machine
end

section
/-! The last word of a frozen tile while captured retrievals are completed (R133, R150, R153): the tile's answer was the last that any
tile had in hand, and with it the entries that the freeze holds are freed. -/

namespace Sys2Proof.Machine

/-- A frozen die in READY that completes its retrievals up to slot 4. Of open fragment 0 tile 0 has its header to send, the only word of
its answer, while no other tile has an answer in hand or has had one taken; tile 0 holds an entry of slot 0. -/
def frozenFlush : State :=
  { sys := { run := .ready, readyBall := true }
    trg := { frozen := true }
    tiles := [(0, { buf := [{ slots := 0, data := 0, dpar := 0 }]
                    resp := [{ tag := 0, words := [headerWord 0 0 false 0] }], pins := [(0, 0, 0)] })]
    asm := { frags := [{ tag := 0, kind := .accept, first := 0, last := 0, trig := 0, started := true }], flush := some 4 }
    arbs := [(0, { owner := some { r := 0, cls := 0, len := 1 } })] }

/-- The entries that an outcome leaves in tile 0. -/
def entriesAfter : Host.Outcome State Fault Refusal → Option Nat
  | .next t => some (t.tile 0).buf.length
  | _ => none

/-- Nothing is due to move in the die as it stands: its one open fragment waits for tile 0. -/
theorem fragOut_frozenFlush : fragOut frozenFlush = frozenFlush := by decide +kernel

/-- The word ends the last answer, and the entry is freed. -/
theorem entriesAfter_frozenFlush : entriesAfter (exec (.galleryWordArrive 0) frozenFlush) = some 0 := by decide +kernel

/-- Refutes O24: a tile's last word over the Gallery, where no tile is left with an answer, completes the retrievals of a capture that has
ended, and frees entries of a frozen tile although tile 1's part of the fragment is still open. -/
theorem not_tilesAnswerOverTheGallery : ¬ Obligations.TilesAnswerOverTheGallery := by
  rintro ⟨-, hgallery⟩
  have hawake : Awake frozenFlush := ⟨by decide, by decide⟩
  obtain ⟨-, hlast, -⟩ := hgallery frozenFlush frozenFlush 0 1 { tag := 0, words := [headerWord 0 0 false 0] } []
    (headerWord 0 0 false 0) 0 [] { tag := 0, kind := .accept, first := 0, last := 0, trig := 0, started := true } {} hawake (by decide) rfl
  obtain ⟨t, ht, -, -, hkept, -⟩ :=
    hlast rfl (by decide) rfl rfl rfl (by decide) fragOut_frozenFlush rfl (by decide) rfl (by decide) (by decide) rfl rfl
  have hone : (t.tile 0).buf = (frozenFlush.tile 0).buf := hkept (by decide) rfl
  have hnone : some (t.tile 0).buf.length = some 0 := by rw [← entriesAfter_frozenFlush, ht]; rfl
  rw [hone] at hnone
  exact absurd hnone (by decide)

end Sys2Proof.Machine
end

section
/-! The accept bucket of a root at the level of TRG_RATE.BUSY_TOKENS (R160, R175): RATE_LIMITED, and BUSY_OUT with it, changes where the
bucket passes from one token to two, and not only where it leaves empty. -/

namespace Sys2Proof.Machine

/-- A root in RUNNING with TRG_RATE as at reset (BUSY_TOKENS 2), whose bucket holds one token and is due for the next. -/
def oneTokenRoot : State :=
  { regs := [], sys := { run := .running, role := .root, readyBall := true }, time := { fRun := true, slots := 4 }
    trg := { tokens := 1 } }

/-- BUSY_OUT falls with the second token: it was high in the slots before slot 5. -/
theorem busyWasAfter_oneTokenRoot : busyWasAfter (exec .tokenRefill oneTokenRoot) = some (5, true) := by decide +kernel

/-- Refutes O26: a token that comes to a bucket of one ends RATE_LIMITED, and so changes the record of BUSY_OUT although the bucket was
not empty. -/
theorem not_rootStageFormsAccepts : ¬ Obligations.RootStageFormsAccepts := by
  intro hstage
  have hawake : Awake oneTokenRoot := ⟨by decide, by decide⟩
  obtain ⟨-, -, -, -, hrefill, -⟩ := hstage oneTokenRoot oneTokenRoot oneTokenRoot 0 0 0
    { word := 0, slot := 0, orbit := 0, trigger := 0, src := 0 } hawake rfl rfl
  obtain ⟨t, ht, -, hkept, -⟩ := hrefill rfl
  have hfalls : some t.trg.busyWas = some (5, true) := by rw [← busyWasAfter_oneTokenRoot, ht]; rfl
  rw [hkept (by decide)] at hfalls
  exact absurd hfalls (by decide)

end Sys2Proof.Machine
end

section
/-! A retrieval that waits for room while its words are already in the store (R152, R153): issued, it is drained in the same command. -/

namespace Sys2Proof.Machine

/-- A retrieval that counts as started, with tile 0's header in the store. -/
def startedFrag : Frag :=
  { tag := 0, kind := .spec, first := 0, last := 0, trig := 0, started := true
    parts := [(0, { hdr := true, words := [headerWord 0 0 false 0] })] }

/-- A die in which it is the one retrieval that waits. -/
def startedWait : State := { regs := [], sys := { run := .running, readyBall := true }, asm := { waits := [startedFrag] } }

/-- The words of tile 0 that an outcome has moved out, for each open fragment. -/
def movedAfter : Host.Outcome State Fault Refusal → Option (List Nat)
  | .next t => some (t.asm.frags.map (fun f => (sget {} f.parts 0).moved))
  | _ => none

/-- Nothing is due to move in the die as it stands: no fragment is open. -/
theorem fragOut_startedWait : fragOut startedWait = startedWait := by decide +kernel

/-- The issued retrieval is the oldest open fragment, and its header moves out. -/
theorem movedAfter_startedWait : movedAfter (exec .acceptIssue startedWait) = some [1] := by decide +kernel

/-- Refutes O27: a waiting retrieval that counts as started does not stay as it was issued, for the builder moves its words at once. -/
theorem not_triggersAreQueuedAppliedAndIssued : ¬ Obligations.TriggersAreQueuedAppliedAndIssued := by
  intro hbus
  have hawake : Awake startedWait := ⟨by decide, by decide⟩
  obtain ⟨-, -, -, -, -, hwaits, -⟩ := hbus startedWait startedWait 0 { word := 0, slot := 0, orbit := 0, trigger := 0, src := 0 }
    { msg := { word := 0, slot := 0, orbit := 0, trigger := 0, src := 0 }, apply := 0, accept := true } []
    startedFrag [] hawake rfl
  have hissued := (hwaits rfl rfl fragOut_startedWait).1 (by decide)
  have hmoved := movedAfter_startedWait
  rw [hissued] at hmoved
  exact absurd hmoved (by decide)

end Sys2Proof.Machine
end

section
/-! TRG_CMD written at a die whose register store lists it at the word that an unlisted register reads as (R6, R183): the store is not
in canonical form, and the write, which stores no bit of TRG_CMD, brings it there. -/

namespace Sys2Proof.Machine

/-- A die in RUNNING whose register store lists TRG_CMD at 0. -/
def listedTrgCmd : State := { regs := [(Reg.TRG_CMD, 0)], sys := { run := .running, readyBall := true } }

/-- The register words that an outcome lists. -/
def regsAfter : Host.Outcome State Fault Refusal → Option (List (Nat × Word))
  | .next t => some t.regs
  | _ => none

/-- The write takes the entry out. -/
theorem regsAfter_listedTrgCmd : regsAfter (exec (.trgUnfreeze false) listedTrgCmd) = some [] := by decide +kernel

/-- Refutes O29: without a freeze TRG_CMD.UNFREEZE leaves every register as it reads, but not a register store that lists TRG_CMD at 0. -/
theorem not_maskTestPassesOrFreezesCapture : ¬ Obligations.MaskTestPassesOrFreezesCapture := by
  intro hmask
  have hawake : Awake listedTrgCmd := ⟨by decide, by decide⟩
  obtain ⟨-, -, -, -, hidle, -⟩ := hmask listedTrgCmd listedTrgCmd { first := 0, last := 0, group := 0, stride := 0, dead := false } [] 0 false hawake
  obtain ⟨t, ht, hframe⟩ := (hidle rfl rfl).2
  have hnone : some t.regs = some [] := by rw [← regsAfter_listedTrgCmd, ht]; rfl
  have hkept : t.regs = listedTrgCmd.regs := by rw [hframe]
  rw [hkept] at hnone
  exact absurd hnone (by decide)

end Sys2Proof.Machine
end

section
/-! A NACK at the origin for a confirmed slot whose own fragment still waits for room in the buffer (R187, R192, R268): the NACK makes the
slot a cancelled one, and a fragment of a cancelled slot waits no longer. -/

namespace Sys2Proof.Machine

/-- The accept that named the released slot. -/
def namedAccept : TrigEntry :=
  { msg := { word := 0x80, slot := 0, orbit := 0, trigger := 0, src := 1 }, apply := 0, accept := true }

/-- The slot's release, confirmed. -/
def confirmedRelease : Release := { h := 0, orbit := 0, slot := 0, accept := some namedAccept, res := .confirmed, done := true }

/-- The slot's fragment, whose unit is ready to enter the buffer. -/
def readyFragment : FacetJob :=
  { engine := 4, tsel := 0, done := some [0]
    built := { frag := { tag := 0, kind := .spec, first := 0, last := 0, trig := 0 }, nuggets := [], miss := 0, ovf := 0, warn := false } }

/-- Die 0, a leaf in RUNNING with TRG_SPEC_Q.QUAR at its most, 32, and the 2,944 places that this leaves the fragment partition taken. -/
def fullConfirmed : State :=
  { regs := [(Reg.TRG_SPEC_Q, 0x200000), (Reg.PORT_CFG 0, 0x4000000F), (Reg.TREE_ID, 0x80000000)]
    sys := { run := .running, readyBall := true }, trg := { releases := [confirmedRelease] }, facet := { jobs := [readyFragment] }
    buf := { units := List.replicate 184 { stream := 0, origin := 0, q := false, part := .frag, bytes := List.replicate 1024 0 } } }

/-- The NACK of the slot. -/
def slotNack : SpecMsg := { info := 0, origin := 0, orbit := 0, slot := 0, src := 0, trigger := 0 }

/-- The fragments that an outcome leaves in the Facet. -/
def jobsAfter : Host.Outcome State Fault Refusal → Option Nat
  | .next t => some t.facet.jobs.length
  | _ => none

/-- Nothing is due to move in the die as it stands: the fragment waits for room. -/
theorem fragOut_fullConfirmed : fragOut fullConfirmed = fullConfirmed := by decide +kernel

/-- The fragment is gone. -/
theorem jobsAfter_fullConfirmed : jobsAfter (exec (.nackReceived 0 slotNack) fullConfirmed) = some 0 := by decide +kernel

/-- Refutes O30: a NACK for a confirmed slot does more than give the slot its normal retrieval, for a fragment of it that waits for room is
freed by the same command. -/
theorem not_speculationReleasesAndResolves : ¬ Obligations.SpeculationReleasesAndResolves := by
  intro hspec
  have hawake : Awake fullConfirmed := ⟨by decide, by decide⟩
  obtain ⟨-, -, -, -, -, hnack, -⟩ := hspec fullConfirmed fullConfirmed 0 0 0 0 slotNack confirmedRelease namedAccept
    readyFragment.built.frag hawake
  have hanswer := (hnack (by decide) (by decide) (by decide) (by decide) fragOut_fullConfirmed rfl rfl rfl).2 rfl rfl rfl
  have hnone := jobsAfter_fullConfirmed
  rw [hanswer] at hnone
  exact absurd hnone (by decide)

end Sys2Proof.Machine
end

section
/-! What is sent does not look at the work of the trigger engine or of assembly (R247, R248, R260, R308): what sending makes of a die with
other work there is what it makes of the die, beside that work. -/

namespace Sys2Proof.Machine

/-- The die with other work of the trigger engine and of assembly. -/
@[simps] def State.beside (s : State) (g : TrgSt) (a : AsmSt) : State := { s with trg := g, asm := a }

@[simp] theorem State.beside_ite (c : Prop) [Decidable c] (s t : State) (g : TrgSt) (a : AsmSt) :
    (if c then s.beside g a else t.beside g a) = (if c then s else t).beside g a := (apply_ite (State.beside · g a) c s t).symm

section
variable (s : State) (g : TrgSt) (a : AsmSt)

/-! What sending reads. -/

@[simp] theorem State.beside_get (f : Fld) : (s.beside g a).get f = s.get f := Eq.trans rfl rfl
@[simp] theorem State.beside_dieNo : (s.beside g a).dieNo = s.dieNo := Eq.trans rfl rfl
@[simp] theorem State.beside_orbitNow : (s.beside g a).orbitNow = s.orbitNow := Eq.trans rfl rfl
@[simp] theorem State.beside_fNow : (s.beside g a).fNow = s.fNow := Eq.trans rfl rfl
@[simp] theorem State.beside_arb (i : Nat) : (s.beside g a).arb i = s.arb i := Eq.trans rfl rfl
@[simp] theorem State.beside_arbWindow (i : Nat) : (s.beside g a).arbWindow i = s.arbWindow i := Eq.trans rfl rfl
@[simp] theorem State.beside_arbMasked (i : Nat) (b : Arb) (q : ArbReq) : (s.beside g a).arbMasked i b q = s.arbMasked i b q :=
  Eq.trans rfl rfl
@[simp] theorem State.beside_arbNext (i : Nat) (b : Arb) (n : Nat) : (s.beside g a).arbNext i b n = s.arbNext i b n := Eq.trans rfl rfl
@[simp] theorem State.beside_arbClassOf (i r : Nat) : (s.beside g a).arbClassOf i r = s.arbClassOf i r := Eq.trans rfl rfl
@[simp] theorem State.beside_port (p : Nat) : (s.beside g a).port p = s.port p := Eq.trans rfl rfl
@[simp] theorem State.beside_portUp (p : Nat) : (s.beside g a).portUp? p = s.portUp? p := Eq.trans rfl rfl
@[simp] theorem State.beside_upPorts : (s.beside g a).upPorts = s.upPorts := Eq.trans rfl rfl
@[simp] theorem State.beside_arbitrated (p : Nat) : (s.beside g a).arbitrated p = s.arbitrated p := Eq.trans rfl rfl
@[simp] theorem State.beside_uplinkOf (p : Nat) : (s.beside g a).uplinkOf p = s.uplinkOf p := Eq.trans rfl rfl
@[simp] theorem State.beside_frameLen (p n : Nat) : (s.beside g a).frameLen p n = s.frameLen p n := Eq.trans rfl rfl
@[simp] theorem State.beside_nextControl (p : Nat) : (s.beside g a).nextControl p = s.nextControl p := Eq.trans rfl rfl

/-! What sending changes. -/

@[simp] theorem State.put_beside (f : Fld) (v : Nat) : (s.beside g a).put f v = (s.put f v).beside g a := Eq.trans rfl rfl
@[simp] theorem State.incBy_beside (k n : Nat) : (s.beside g a).incBy k n = (s.incBy k n).beside g a := Eq.trans rfl rfl
@[simp] theorem State.emit_beside (o : Out) : (s.beside g a).emit o = (s.emit o).beside g a := Eq.trans rfl rfl
@[simp] theorem State.setArb_beside (i : Nat) (b : Arb) : (s.beside g a).setArb i b = (s.setArb i b).beside g a := Eq.trans rfl rfl
@[simp] theorem State.setPort_beside (p : Nat) (v : PortSt) : (s.beside g a).setPort p v = (s.setPort p v).beside g a := Eq.trans rfl rfl

@[simp] theorem State.arbTurn_beside (i : Nat) : (s.beside g a).arbTurn i = (s.arbTurn i).beside g a := by simp [State.arbTurn]
@[simp] theorem State.arbCountMask_beside (i : Nat) : (s.beside g a).arbCountMask i = (s.arbCountMask i).beside g a := by
  simp [State.arbCountMask]
@[simp] theorem State.arbGrant_beside (i : Nat) (q : ArbReq) : (s.beside g a).arbGrant i q = (s.arbGrant i q).beside g a := by
  simp [State.arbGrant]
@[simp] theorem State.arbDecide_beside (i : Nat) : (s.beside g a).arbDecide i = (s.arbDecide i).beside g a := by
  simp only [State.arbDecide, State.arbTurn_beside, State.arbCountMask_beside, State.beside_arb, State.beside_arbNext]
  split <;> simp
@[simp] theorem State.arbJoin_beside (i : Nat) (q : ArbReq) : (s.beside g a).arbJoin i q = (s.arbJoin i q).beside g a := by
  simp [State.arbJoin]
@[simp] theorem State.arbSettle_beside (i : Nat) : (s.beside g a).arbSettle i = (s.arbSettle i).beside g a := by
  simp [State.arbSettle]
@[simp] theorem State.arbDrop_beside (i r : Nat) : (s.beside g a).arbDrop i r = (s.arbDrop i r).beside g a := by
  simp only [State.arbDrop, State.beside_arb]
  split <;> simp
@[simp] theorem State.arbRelease_beside (i : Nat) : (s.beside g a).arbRelease i = (s.arbRelease i).beside g a := by
  simp only [State.arbRelease, State.arbTurn_beside, State.arbCountMask_beside, State.beside_arb, State.beside_arbNext]
  split
  · split
    · simp
    · split <;> simp
  · rfl
@[simp] theorem State.takeKey_beside (p : Nat) : (s.beside g a).takeKey p = ((s.takeKey p).1, (s.takeKey p).2.beside g a) := by
  unfold State.takeKey
  simp only [State.beside_port]
  cases (s.port p).sess.txNew with
  | none => simp only [State.beside_port]; split <;> simp
  | some k => simp only [State.beside_get, State.setPort_beside, State.put_beside, State.beside_port]; split <;> simp
@[simp] theorem State.txFrame_beside (p v typ stream : Nat) (bs : List Byte) :
    (s.beside g a).txFrame p v typ stream bs = (s.txFrame p v typ stream bs).beside g a := by simp [State.txFrame]
@[simp] theorem State.controlGrant_beside (p n : Nat) :
    (s.beside g a).controlGrant p n = ((s.controlGrant p n).1, (s.controlGrant p n).2.beside g a) := by
  simp only [State.controlGrant, State.beside_arbitrated]
  split <;> simp
@[simp] theorem State.sendControl_beside (p : Nat) (f : Nat × Nat × List Byte) :
    (s.beside g a).sendControl p f = (s.sendControl p f).beside g a := by simp [State.sendControl]
@[simp] theorem State.controlDone_beside (p : Nat) : (s.beside g a).controlDone p = (s.controlDone p).beside g a := by
  simp [State.controlDone]
end

section
variable (g : TrgSt) (a : AsmSt)

@[simp] theorem pumpFrom_beside (p k : Nat) (s : State) : pumpFrom p k (s.beside g a) = (pumpFrom p k s).beside g a := by
  induction k generalizing s with
  | zero => rfl
  | succ k ih =>
    simp only [pumpFrom, State.beside_nextControl]
    split
    · rfl
    · simp [ih]

/-- A VC1 message leaves alike, whatever the trigger engine and assembly have in hand. -/
@[simp] theorem State.sendVc1_beside (s : State) (p : Nat) (m : Vc1) :
    (s.beside g a).sendVc1 p m = (s.sendVc1 p m).beside g a := by
  simp [State.sendVc1, State.queueFrame, State.pump]

/-- So do its copies up the shaft. -/
@[simp] theorem State.sendUp1_beside (s : State) (m : Vc1) : (s.beside g a).sendUp1 m = (s.sendUp1 m).beside g a := by
  unfold State.sendUp1
  rw [State.beside_upPorts]
  generalize s.upPorts = ps
  induction ps generalizing s with
  | nil => rfl
  | cons p ps ih => rw [List.foldl_cons, List.foldl_cons, State.sendVc1_beside, ih]
end

end Sys2Proof.Machine
end

section
/-! Trigger primitives (R176–R180): the die's own primitive at the end of slot h + 4, a child's, and the group that leaves. -/

namespace Sys2Proof.Machine

/-! The die at a later slot. -/

/-- At a later slot the trigger engine has in hand what it has now. -/
theorem State.atSlot_trg {s u : State} {t : Nat} (h : s.atSlot t = some u) : u.trg = s.trg := by
  obtain rfl | ⟨n, rfl⟩ := State.atSlot_elapse h
  · rfl
  · exact s.elapse_trg n

/-- At a later slot every register but the BUSY slots and the orbit's status reads as now. -/
theorem State.atSlot_rd {s u : State} {t : Nat} (h : s.atSlot t = some u) (a : Nat) (hb : a ≠ Reg.TRG_BUSY_SLOTS)
    (ho : a ≠ Reg.ORB_STATUS) : u.rd a = s.rd a := by
  obtain rfl | ⟨n, rfl⟩ := State.atSlot_elapse h
  · rfl
  · exact s.elapse_rd n a hb ho

/-- At a later slot every field of those registers reads as now. -/
theorem State.atSlot_get {s u : State} {t : Nat} (h : s.atSlot t = some u) (f : Fld) (hb : f.reg ≠ Reg.TRG_BUSY_SLOTS)
    (ho : f.reg ≠ Reg.ORB_STATUS) : u.get f = s.get f := by
  simp only [State.get, State.atSlot_rd h f.reg hb ho]

/-- At a later slot the die has the role that it has now. -/
theorem State.atSlot_isRoot {s u : State} {t : Nat} (h : s.atSlot t = some u) : u.isRoot = s.isRoot := by
  simp only [State.isRoot, (State.atSlot_sys h).1]

/-- At a later slot the matrix is powered if it is now. -/
theorem State.atSlot_matrixOn {s u : State} {t : Nat} (h : s.atSlot t = some u) : u.matrixOn = s.matrixOn := by
  simp only [State.matrixOn, State.on, State.atSlot_get h F.FE_CTRL_MATRIX_EN (by decide) (by decide), State.atSlot_isRoot h,
    (State.atSlot_sys h).1]

/-! The conditions of one edge (R176, R177). -/

section
variable {s : State} {h k c : Nat}

/-- A tile with one edge, where MULT asks for one and ADJ and COINC are off, meets MULT alone. -/
theorem State.tileConds_of_single (hedges : s.trg.edges = [(h, k * 64 + c)]) (hc : c < 64)
    (hen : bitsOf (s.rd (Reg.TRG_SELF_EN (k / 32))) (k % 32) 1 = 1) (hmult : s.get F.TRG_SELF_MULT_N = 1)
    (hadj : s.get F.TRG_SELF_ADJ_N = 0) (hcoinc : s.get F.TRG_SELF_COINC_N = 0) : s.tileConds h k = 1 := by
  have htile : (k * 64 + c) / 64 = k := by omega
  simp [State.tileConds, State.tileEdges, hedges, htile, hen, hmult, hadj, hcoinc, b2n]

/-- Where that is the only tile with an edge and no injection is on, the primitive is 0x11: MULT, of one tile. -/
theorem State.ownPrim_of_single (hrun : s.sys.run = .running) (hmatrix : s.matrixOn = true)
    (hedges : s.trg.edges = [(h, k * 64 + c)]) (hc : c < 64) (hconds : s.tileConds h k = 1) (hinjs : s.trg.injs = []) :
    s.ownPrim h = 0x11 := by
  have htile : (k * 64 + c) / 64 = k := by omega
  have htiles : s.edgeTiles h = [k] := by simp [State.edgeTiles, hedges, htile, List.eraseDups_cons]
  have hmet : s.condsAt h = (1, 1) := by simp [State.condsAt, htiles, hconds]
  simp [State.ownPrim, hrun, hmatrix, hmet, State.inInjection, hinjs, b2n]

/-- Outside RUNNING the primitive is 0. -/
theorem State.ownPrim_of_idle (hrun : s.sys.run ≠ .running) : s.ownPrim h = 0 := by simp [State.ownPrim, hrun]

end

/-! Groups (R178, R179). -/

/-- A group that is not yet open, where no other is, is opened. -/
theorem State.withGroup_first {s : State} (hgroups : s.trg.groups = []) (g : PrimGroup) (f : PrimGroup → PrimGroup) :
    s.withGroup g f = { s with trg := { s.trg with groups := [f g] } } := by
  simp [State.withGroup, hgroups]

/-- A group that lacks primitives of the die's own does not leave before its deadline. -/
theorem State.trySend_waits {s : State} {g : PrimGroup} (hgroups : s.trg.groups = [g]) (hshort : g.own.length ≠ g.count) (first : Nat) :
    s.trySend first = s := by
  unfold State.trySend
  split
  · rfl
  · next g' hfound =>
    have hg : g' = g := by simpa [hgroups] using List.mem_of_find?_eq_some hfound
    simp [hg, State.groupFull, hshort]

/-- A group has one primitive for each of its slots. -/
theorem State.groupPrims_length (s : State) (g : PrimGroup) : (s.groupPrims g).length = g.count := by simp [State.groupPrims]

/-- With a contribution missing, every primitive of a group is DEGRADED. -/
theorem State.groupPrims_degraded {s : State} {g : PrimGroup} (hfull : s.groupFull g = false) :
    (s.groupPrims g).all (fun x => decide (bitsOf x 7 1 = 1)) = true := by
  have hbit (x : Nat) : bitsOf (x ||| 128) 7 1 = 1 := by
    have hset : (x ||| 128).testBit 7 = true := by simp [Nat.testBit_or, show Nat.testBit 128 7 = true by decide]
    simpa [Nat.testBit_eq_decide_div_mod_eq, bitsOf] using hset
  simp [State.groupPrims, hfull, hbit]

/-! The end of slot h + 4 (R176, R177). -/

section
variable {s u : State} {slot h : Nat}

/-- The slot counted since reset that SELF_TRIGGER_EVAL names by its number in the orbit. -/
theorem evalSlot_eq (hslot : slot < s.time.len) (hnow : s.time.slot < s.time.len)
    (hback : h + (s.time.slot + s.time.len - slot) % s.time.len = s.time.slots) :
    (if slot ≤ s.time.slot then s.time.slots - (s.time.slot - slot)
      else s.time.slots - (s.time.slot + s.time.len - slot % s.time.len) % s.time.len) = h := by
  split
  · next hle =>
    have hmod : (s.time.slot + s.time.len - slot) % s.time.len = s.time.slot - slot := by
      rw [show s.time.slot + s.time.len - slot = s.time.slot - slot + s.time.len by omega, Nat.add_mod_right,
        Nat.mod_eq_of_lt (by omega)]
    omega
  · rw [Nat.mod_eq_of_lt hslot]
    omega

variable (hslot : slot < s.time.len) (hnow : s.time.slot < s.time.len)
  (hback : h + (s.time.slot + s.time.len - slot) % s.time.len = s.time.slots) (hu : s.atSlot (h + 5) = some u)
include hslot hnow hback hu

/-- A slot whose primitive is formed already is left. -/
theorem selfTriggerEval_again (hown : h < s.trg.ownTo) : selfTriggerEval slot s = u := by
  simp only [selfTriggerEval, evalSlot_eq hslot hnow hback, State.reachSlot_at hu, State.atSlot_trg hu, hown, if_true]

/-- A slot whose group has gone is counted late. -/
theorem selfTriggerEval_late (hown : s.trg.ownTo ≤ h) (hsent : h < s.trg.sentTo) :
    selfTriggerEval slot s =
      ({ u with trg := { u.trg with ownTo := h + 1 } }.inc Reg.TRG_PRIM_LATE_CNT).flag F.TRG_STATUS_PRIM_LATE := by
  simp only [selfTriggerEval, evalSlot_eq hslot hnow hback, State.reachSlot_at hu, State.atSlot_trg hu, hsent, if_true,
    if_neg (Nat.not_lt.mpr hown)]

/-- The first slot of a group of several opens it with the die's own primitive. -/
theorem selfTriggerEval_first (hown : s.trg.ownTo ≤ h) (hsent : s.trg.sentTo ≤ h) (hgroups : s.trg.groups = [])
    (hcount : 1 < (u.groupAt h).count) :
    selfTriggerEval slot s = { u with trg := { u.trg with
      groups := [{ u.groupAt h with own := sset 256 [] (h - (u.groupAt h).first) (u.ownPrim h) }], ownTo := h + 1 } } := by
  have htrg := State.atSlot_trg hu
  have hopen : ({ u with trg := { u.trg with ownTo := h + 1 } } : State).trg.groups = [] := by simp [htrg, hgroups]
  have hshort : (sset 256 [] (h - (u.groupAt h).first) (u.ownPrim h)).length ≠ (u.groupAt h).count := by
    unfold sset
    split <;> simp [sdel, sins] <;> omega
  simp only [selfTriggerEval, evalSlot_eq hslot hnow hback, State.reachSlot_at hu, htrg, if_neg (Nat.not_lt.mpr hown),
    if_neg (Nat.not_lt.mpr hsent)]
  rw [← htrg, State.withGroup_first hopen]
  exact State.trySend_waits rfl hshort _

end

end Sys2Proof.Machine
end

section
/-! Primitives as commands of an awake die, and the group at its deadline (R178–R180). -/

namespace Sys2Proof.Machine

/-! What a root drives (R180): one entry for each slot from the group's first on. -/

/-- Slots before those driven keep their entries. -/
theorem sget_drive_before (ps : List Nat) (k first b : Nat) (m : List (Nat × Nat)) (hb : b < first + k) :
    sget 0x80 ((ps.zipIdx k).foldl (fun m x => sset 0x80 m (first + x.2) x.1) m) b = sget 0x80 m b := by
  induction ps generalizing k m with
  | nil => rfl
  | cons p ps ih =>
    rw [List.zipIdx_cons, List.foldl_cons, ih (k + 1) _ (by omega)]
    exact sget_sset_other _ _ _ (by simp; omega) _

/-- Slot `first + k + i` takes the primitive of index `i`. -/
theorem sget_drive (ps : List Nat) (k first i : Nat) (m : List (Nat × Nat)) (hi : i < ps.length) :
    sget 0x80 ((ps.zipIdx k).foldl (fun m x => sset 0x80 m (first + x.2) x.1) m) (first + k + i) = ps.getD i 0x80 := by
  induction ps generalizing k m i with
  | nil => simp at hi
  | cons p ps ih =>
    rw [List.zipIdx_cons, List.foldl_cons]
    cases i with
    | zero =>
      rw [sget_drive_before ps (k + 1) first (first + k + 0) _ (by omega)]
      exact sget_sset_same _ _ _ _
    | succ i =>
      rw [show first + k + (i + 1) = first + (k + 1) + i by omega]
      exact ih (k + 1) i _ (by simpa using hi)

/-! A group leaves (R178–R180). -/

/-- The trigger engine once group `g` has left. -/
def TrgSt.sent (x : TrgSt) (g : PrimGroup) : TrgSt :=
  { x with groups := x.groups.filter (fun y => decide (y.first ≠ g.first)), sentTo := max x.sentTo (g.first + g.count) }

/-- Below the root, in RUNNING, a group goes up the shaft. -/
theorem State.sendGroup_below {s : State} (g : PrimGroup) (hrole : s.isRoot = false) (hrun : s.sys.run = .running) :
    s.sendGroup g =
      (s.sendUp1 (.prim { count := g.count, slot := g.slot, orbit := g.orbit, prims := s.groupPrims g })).beside (s.trg.sent g) s.asm := by
  simp only [State.sendGroup, hrole, hrun, Bool.false_eq_true, if_false, if_true]
  exact s.sendUp1_beside (s.trg.sent g) s.asm _

/-- At a root in RUNNING that records no primitives it is driven on TPRIM_OUT. -/
theorem State.sendGroup_root {s : State} (g : PrimGroup) (hrole : s.isRoot = true) (hrun : s.sys.run = .running)
    (hrec : s.on F.HIF_TPRIM_EN = false) (hheld : s.outHeld = false) :
    s.sendGroup g = { s with
      trg := { s.trg.sent g with
        drive := (s.groupPrims g).zipIdx.foldl (fun m x => sset 0x80 m (g.first + s.get F.TRG_PRIM_LAT + x.2) x.1)
          (s.trg.drive.filter (fun e => decide (s.time.slots ≤ e.1))) }
      out := s.out ++ [.tprim (g.first + s.get F.TRG_PRIM_LAT) (s.groupPrims g)] } := by
  have hget : s.get F.HIF_TPRIM_EN = 0 := by simpa [State.on] using hrec
  simp [State.sendGroup, hrole, State.noteTprims, State.on, hget, hheld, hrun, State.emit, TrgSt.sent]

/-! The commands. -/

/-- A contribution that comes late is counted and flagged. -/
theorem late_spec (s : State) (g : TrgSt) :
    let t := ({ s with trg := g }.inc Reg.TRG_PRIM_LATE_CNT).flag F.TRG_STATUS_PRIM_LATE
    t.rd Reg.TRG_PRIM_LATE_CNT = min (s.rd Reg.TRG_PRIM_LATE_CNT + 1) 0xFFFFFFFF ∧ t.on F.TRG_STATUS_PRIM_LATE = true ∧
      regsBut [Reg.TRG_PRIM_LATE_CNT, Reg.TRG_STATUS] s t ∧ t = { s with regs := t.regs, trg := g } := by
  refine ⟨?_, ?_, ?_, rfl⟩
  · exact (State.rd_put_other _ F.TRG_STATUS_PRIM_LATE _ _ (by decide)).trans ((State.rd_incBy _ _ _ _).trans (if_pos rfl))
  · exact (State.on_put_flag _ rfl (by decide)).1
  · intro a hother
    simp only [List.mem_cons, List.not_mem_nil, or_false, not_or] at hother
    obtain ⟨hcnt, hstatus⟩ := hother
    exact (State.rd_put_other _ F.TRG_STATUS_PRIM_LATE _ _ hstatus).trans ((State.rd_incBy _ _ _ _).trans (if_neg hcnt))

section
variable {s u : State} {slot h p : Nat} {m : PrimMsg} {g : PrimGroup} {gs : List PrimGroup} (ha : Awake s)
include ha

/-- SELF_TRIGGER_EVAL for the first slot of a group of several, where no group is open. -/
theorem selfTriggerEval_opens (hslot : slot < s.time.len) (hnow : s.time.slot < s.time.len)
    (hback : h + (s.time.slot + s.time.len - slot) % s.time.len = s.time.slots) (hu : s.atSlot (h + 5) = some u)
    (hown : s.trg.ownTo ≤ h) (hsent : s.trg.sentTo ≤ h) (hgroups : s.trg.groups = []) (hcount : 1 < (u.groupAt h).count) :
    ∃ t, exec (.selfTriggerEval slot) s = .next t ∧
      t.trg.groups = [{ u.groupAt h with own := sset 256 [] (h - (u.groupAt h).first) (u.ownPrim h) }] ∧
      t.trg.sentTo = u.trg.sentTo ∧ t = { u with trg := { u.trg with groups := t.trg.groups, ownTo := h + 1 } } :=
  ⟨_, (congrArg (finish s) (selfTriggerEval_first hslot hnow hback hu hown hsent hgroups hcount)).trans
    (finish_at ha (State.atSlot_sys hu) rfl rfl), rfl, rfl, rfl⟩

/-- SELF_TRIGGER_EVAL for a slot whose group has gone. -/
theorem selfTriggerEval_counts (hslot : slot < s.time.len) (hnow : s.time.slot < s.time.len)
    (hback : h + (s.time.slot + s.time.len - slot) % s.time.len = s.time.slots) (hu : s.atSlot (h + 5) = some u)
    (hown : s.trg.ownTo ≤ h) (hsent : h < s.trg.sentTo) :
    ∃ t, exec (.selfTriggerEval slot) s = .next t ∧
      t.rd Reg.TRG_PRIM_LATE_CNT = min (u.rd Reg.TRG_PRIM_LATE_CNT + 1) 0xFFFFFFFF ∧ t.on F.TRG_STATUS_PRIM_LATE = true ∧
      regsBut [Reg.TRG_PRIM_LATE_CNT, Reg.TRG_STATUS] u t ∧
      t = { u with regs := t.regs, trg := { u.trg with ownTo := h + 1 } } := by
  refine ⟨_, (congrArg (finish s) (selfTriggerEval_late hslot hnow hback hu hown hsent)).trans
    (finish_at ha (State.atSlot_sys hu) rfl rfl), ?_⟩
  exact late_spec u { u.trg with ownTo := h + 1 }

/-- PRIM_MSG_RECEIVED for a group that has gone. -/
theorem primMsgReceived_late (hp : s.driftsUp.contains p = true) (hsent : s.monoOf m.orbit m.slot < s.trg.sentTo) :
    ∃ t, exec (.primMsgReceived p m) s = .next t ∧
      t.rd Reg.TRG_PRIM_LATE_CNT = min (s.rd Reg.TRG_PRIM_LATE_CNT + 1) 0xFFFFFFFF ∧ t.on F.TRG_STATUS_PRIM_LATE = true ∧
      regsBut [Reg.TRG_PRIM_LATE_CNT, Reg.TRG_STATUS] s t ∧ t = { s with regs := t.regs } := by
  have heffect : primReceived p m s = (s.inc Reg.TRG_PRIM_LATE_CNT).flag F.TRG_STATUS_PRIM_LATE := by
    simp only [primReceived, hp, not_true_eq_false, if_false, hsent, if_true]
  exact ⟨_, (congrArg (finish s) heffect).trans (finish_eq ha rfl rfl), late_spec s s.trg⟩

/-- PRIM_MSG_RECEIVED where no group is open. -/
theorem primMsgReceived_first (hp : s.driftsUp.contains p = true) (hsent : s.trg.sentTo ≤ s.monoOf m.orbit m.slot)
    (hgroups : s.trg.groups = []) (hcount : 0 < (s.groupAt (s.monoOf m.orbit m.slot)).count) :
    exec (.primMsgReceived p m) s = .next { s with
      trg := { s.trg with groups := [{ s.groupAt (s.monoOf m.orbit m.slot) with kids := [(p, m.prims)] }] } } := by
  have hshort : (s.groupAt (s.monoOf m.orbit m.slot)).own.length ≠ (s.groupAt (s.monoOf m.orbit m.slot)).count :=
    Nat.ne_of_lt hcount
  have heffect : primReceived p m s = { s with
      trg := { s.trg with groups := [{ s.groupAt (s.monoOf m.orbit m.slot) with kids := [(p, m.prims)] }] } } := by
    simp only [primReceived, hp, not_true_eq_false, if_false, if_neg (Nat.not_lt.mpr hsent), State.withGroup_first hgroups]
    exact State.trySend_waits (g := { s.groupAt (s.monoOf m.orbit m.slot) with kids := [(p, m.prims)] }) rfl hshort _
  exact (congrArg (finish s) heffect).trans (finish_eq ha rfl rfl)

/-- PRIM_MSG_RECEIVED on a port that is no drift port in service. -/
theorem primMsgReceived_ignored (hp : s.driftsUp.contains p = false) : exec (.primMsgReceived p m) s = .next s :=
  (congrArg (finish s) (by simp only [primReceived, hp, Bool.false_eq_true, not_false_eq_true, if_true])).trans (finish_eq ha rfl rfl)

/-- PRIM_DEADLINE below the root, in RUNNING. -/
theorem primDeadline_below (hgroups : s.trg.groups = g :: gs) (hrole : s.isRoot = false) (hrun : s.sys.run = .running)
    (hu : s.atSlot (g.first + s.get F.TRG_PRIM_LAT - 1 - (s.level - 1) * max 1 (s.get F.TRG_PRIM_HOP)) = some u) :
    exec .primDeadline s = .next
      ((u.sendUp1 (.prim { count := g.count, slot := g.slot, orbit := g.orbit, prims := u.groupPrims g })).beside (u.trg.sent g) u.asm) := by
  have hsent := State.sendGroup_below g ((State.atSlot_isRoot hu).trans hrole) (by rw [(State.atSlot_sys hu).1, hrun])
  have heffect : primDeadline s = u.sendGroup g := by
    simp only [primDeadline, hgroups, hrole, Bool.false_eq_true, if_false]
    exact State.reachSlot_at hu _
  have hstill := State.sendUp1_still u (.prim { count := g.count, slot := g.slot, orbit := g.orbit, prims := u.groupPrims g })
  exact (congrArg (finish s) (heffect.trans hsent)).trans
    (finish_at ha (State.atSlot_sys hu) (State.sys_of_still hstill) (State.pending_of_still hstill))

/-- PRIM_DEADLINE at a root in RUNNING that records no primitives. -/
theorem primDeadline_root (hgroups : s.trg.groups = g :: gs) (hrole : s.isRoot = true) (hrun : s.sys.run = .running)
    (hrec : s.on F.HIF_TPRIM_EN = false) (hu : s.atSlot (g.first + s.get F.TRG_PRIM_LAT - 1) = some u) (hheld : u.outHeld = false) :
    exec .primDeadline s = .next { u with
      trg := { u.trg.sent g with
        drive := (u.groupPrims g).zipIdx.foldl (fun m x => sset 0x80 m (g.first + s.get F.TRG_PRIM_LAT + x.2) x.1)
          (u.trg.drive.filter (fun e => decide (u.time.slots ≤ e.1))) }
      out := u.out ++ [.tprim (g.first + s.get F.TRG_PRIM_LAT) (u.groupPrims g)] } := by
  have hlat := State.atSlot_get hu F.TRG_PRIM_LAT (by decide) (by decide)
  have hen : u.on F.HIF_TPRIM_EN = false :=
    (State.on_congr (State.atSlot_rd hu F.HIF_TPRIM_EN.reg (by decide) (by decide))).trans hrec
  have hsent := State.sendGroup_root g ((State.atSlot_isRoot hu).trans hrole) (by rw [(State.atSlot_sys hu).1, hrun]) hen hheld
  have heffect : primDeadline s = u.sendGroup g := by
    simp only [primDeadline, hgroups, hrole, if_true]
    exact State.reachSlot_at hu _
  rw [hlat] at hsent
  exact (congrArg (finish s) (heffect.trans hsent)).trans (finish_at ha (State.atSlot_sys hu) rfl rfl)

/-- PRIM_DEADLINE where no group is open. -/
theorem primDeadline_idle (hgroups : s.trg.groups = []) : exec .primDeadline s = .next s :=
  (congrArg (finish s) (by simp only [primDeadline, hgroups])).trans (finish_eq ha rfl rfl)

end

end Sys2Proof.Machine
end

section
/-! Trigger primitives together (R176–R180). -/

namespace Sys2Proof.Machine

/-- Settles O28: each command by the branch that its slot or its group takes, and what leaves by the port that it takes. -/
theorem primitivesAreFormedMergedAndSent : Obligations.PrimitivesAreFormedMergedAndSent := by
  intro s u p slot h k c m g gs ha
  refine ⟨?opens, ?evaluated, primMsgReceived_late ha, primMsgReceived_first ha, primMsgReceived_ignored ha, ?below, ?root,
    primDeadline_idle ha⟩
  case opens =>
    intro hslot hnow hback hu hown hsent hgroups hcount _
    obtain ⟨t, ht, hopen, hkept, hframe⟩ := selfTriggerEval_opens ha hslot hnow hback hu hown hsent hgroups hcount
    have htrg := State.atSlot_trg hu
    have hsys := (State.atSlot_sys hu).1
    refine ⟨t, ht, by rw [hopen]; rfl, ?_, hkept, hframe⟩
    intro x hx
    obtain rfl : x = { u.groupAt h with own := sset 256 [] (h - (u.groupAt h).first) (u.ownPrim h) } := by simpa [hopen] using hx
    rw [show sget 256 (sset 256 [] (h - (u.groupAt h).first) (u.ownPrim h)) (h - (u.groupAt h).first) = u.ownPrim h from
      sget_sset_same _ _ _ _]
    refine ⟨fun hrun => State.ownPrim_of_idle (by rwa [hsys]), ?_⟩
    intro hrun hmatrix hedges hc hk hen hmult hadj hcoinc hinjs
    have hself (f : Fld) (hf : f.reg = Reg.TRG_SELF) : u.get f = s.get f :=
      State.atSlot_get hu f (by rw [hf]; decide) (by rw [hf]; decide)
    have hedge : u.trg.edges = [(h, k * 64 + c)] := by rw [htrg, hedges]
    have hmap : u.rd (Reg.TRG_SELF_EN (k / 32)) = s.rd (Reg.TRG_SELF_EN (k / 32)) :=
      State.atSlot_rd hu _ (by simp only [Reg.TRG_SELF_EN, Reg.TRG_BUSY_SLOTS]; omega)
        (by simp only [Reg.TRG_SELF_EN, Reg.ORB_STATUS]; omega)
    have hconds := State.tileConds_of_single hedge hc (by rw [hmap, hen]) (by rw [hself _ rfl, hmult]) (by rw [hself _ rfl, hadj])
      (by rw [hself _ rfl, hcoinc])
    exact State.ownPrim_of_single (by rw [hsys, hrun]) ((State.atSlot_matrixOn hu).trans hmatrix) hedge hc hconds (by rw [htrg, hinjs])
  case evaluated =>
    intro hslot hnow hback hu
    exact ⟨selfTriggerEval_counts ha hslot hnow hback hu, fun hown =>
      (congrArg (finish s) (selfTriggerEval_again hslot hnow hback hu hown)).trans (finish_at ha (State.atSlot_sys hu) rfl rfl)⟩
  case below =>
    intro hgroups hrole hrun hu
    have hstill := State.sendUp1_still u (.prim { count := g.count, slot := g.slot, orbit := g.orbit, prims := u.groupPrims g })
    refine ⟨_, primDeadline_below ha hgroups hrole hrun hu, rfl, State.groupPrims_degraded, ?_, ?_, State.sys_of_still hstill,
      State.time_of_still hstill, rfl⟩
    · intro hnone
      simp only [State.sendUp1, hnone, List.foldl_nil]
      exact ⟨rfl, rfl⟩
    · intro hone
      simp only [State.sendUp1, hone, List.foldl_cons, List.foldl_nil]
      rfl
  case root =>
    intro hgroups hrole hrun hrec hu hheld
    refine ⟨_, primDeadline_root ha hgroups hrole hrun hrec hu hheld, rfl, ?_, rfl, rfl, rfl, rfl⟩
    intro i hi
    exact sget_drive (u.groupPrims g) 0 _ i _ (by rwa [State.groupPrims_length])

end Sys2Proof.Machine
end

section
/-! A dump's record that reads a row with an uncorrectable word, at the row's strike limit (R211, R218, R455, R464): the row is retired, and the
RETIRE alert enters the buffer before the record. -/

namespace Sys2Proof.Machine

/-- The occupancy dump of an orbit of 513 slots at its last slot. -/
def lastSlotDump : Dump := { sel := 2, keep := true, id := 0, at' := .occ, ix := 512 }

/-- Die 0, a leaf in RUNNING with HBINS and OCC_EN set. The first word that the next record reads has two check bits wrong, and its row has one
strike of the two that retire it. -/
def sweptBadRow : State :=
  { regs := [(Reg.TREE_ID, 0x80000000), (Reg.TALLY_CTRL, 0x240)], sys := { run := .running, readyBall := true }, time := { len := 513 }
    vault := { mem := [(occEntry 512 0 / 4, 3 * 2 ^ 64)] }, fault := { strikes := [(unitKey 7 (rowOf (occEntry 512 0 / 4)), 1)] }
    tally := { dump := some lastSlotDump } }

/-- The streams of the units that an outcome leaves in the buffer. -/
def streamsAfter : Host.Outcome State Fault Refusal → Option (List Nat)
  | .next t => some (t.buf.units.map (fun x => x.stream))
  | _ => none

/-- Nothing asks for the uplinks of the die as it stands. -/
theorem uplinks_sweptBadRow : sweptBadRow.uplinks = sweptBadRow := by decide +kernel

/-- An alert enters the buffer, and then the record. -/
theorem streamsAfter_sweptBadRow : streamsAfter (exec .dumpRecordWrite sweptBadRow) = some [5, 2] := by decide +kernel

/-- Refutes O31: the record that follows the begin record may not be all that enters the buffer, for reading a word with an error can retire its
row, whose alert enters first. -/
theorem not_dumpsStartAndWriteRecords : ¬ Obligations.DumpsStartAndWriteRecords := by
  intro hdumps
  have hawake : Awake sweptBadRow := ⟨by decide, by decide⟩
  obtain ⟨-, -, -, hrecord⟩ := hdumps sweptBadRow false 0 lastSlotDump hawake (by decide)
  obtain ⟨hmiddle, -⟩ := hrecord rfl rfl uplinks_sweptBadRow (by decide +kernel)
  obtain ⟨t, ht, -, hunits, -⟩ := hmiddle (by decide) (by decide)
  have hentered : some (t.buf.units.map (fun x => x.stream)) = some [5, 2] := by rw [← streamsAfter_sweptBadRow, ht]; rfl
  have hone : t.buf.units.length = 1 := by simpa [sweptBadRow] using congrArg List.length hunits
  have htwo : t.buf.units.length = 2 := by simpa using congrArg List.length (Option.some.inj hentered)
  omega

end Sys2Proof.Machine
end

section
/-! Accesses to words of the vault (R204, R216–R218, R251): what a bank operation changes, and what an access finds in a word that reads clean
or poisoned. -/

namespace Sys2Proof.Machine

/-! Bank operations. -/

theorem State.arbTurn_frame (s : State) (i : Nat) : s.arbTurn i = { s with arbs := (s.arbTurn i).arbs } := by
  unfold State.arbTurn; dsimp only; split <;> rfl

/-- A bank operation changes two counters of its arbiter and the arbiters. -/
theorem State.bankOp_spec (s : State) (b r : Nat) :
    regsBut [Reg.ARB_GRANT_CNT (18 + b), Reg.ARB_QMASK_CNT (18 + b)] s (s.bankOp b r) ∧
      ∃ x y, s.bankOp b r = { s with regs := x, arbs := y } := by
  have hturn : ∀ k, (s.arbTurn (18 + b)).rd k = s.rd k := fun k => by rw [State.arbTurn_frame]; rfl
  constructor
  · intro k hk
    simp only [List.mem_cons, List.not_mem_nil, or_false, not_or] at hk
    obtain ⟨hgrant, hmask⟩ := hk
    simp only [State.bankOp, State.inc_eq]
    split <;> simp [State.rd_incBy, hturn, hgrant, hmask]
  · rw [State.bankOp, State.arbTurn_frame]
    dsimp only
    split <;> exact ⟨_, _, rfl⟩

@[simp] theorem State.bankOp_vault (s : State) (b r : Nat) : (s.bankOp b r).vault = s.vault := by
  obtain ⟨-, x, y, h⟩ := s.bankOp_spec b r
  rw [h]

@[simp] theorem State.vword_bankOp (s : State) (b r w : Nat) : (s.bankOp b r).vword w = s.vword w :=
  State.vword_congr (s.bankOp_vault b r) w

/-- Nothing waits for a word of a bank without increments. -/
theorem State.settleWord_idle {s : State} {w : Nat} (h : (s.bankQ (bankOf w)).q = []) : s.settleWord w = s := by
  simp [State.settleWord, h]

/-! What an access finds. -/

theorem State.readWord_clean {s : State} {w : Nat} (h : found (s.vword w) = .clean) (b : Bool) :
    s.readWord w b = (s.vword w % 2 ^ 64, false, s) := by
  simp [State.readWord, h, State.vaultNote, State.vaultSeen]

theorem State.readWord_poisoned {s : State} {w : Nat} (h : found (s.vword w) = .poisoned) (b : Bool) :
    s.readWord w b = (s.vword w % 2 ^ 64, true, s.inc Reg.VAULT_POISON_HIT_CNT) := by
  simp [State.readWord, h, State.vaultNote, State.vaultSeen]

theorem State.writeEntry_clean {s : State} {e : Nat} (h : found (s.vword (e / 4)) = .clean) (x : Nat) :
    s.writeEntry e x = s.setVword (e / 4) (fresh72 (setBits (s.vword (e / 4) % 2 ^ 64) (16 * (e % 4)) 16 x)) := by
  simp [State.writeEntry, h, State.vaultNote, State.vaultSeen]

/-! The vault without a word other than 0. -/

theorem State.vword_of_empty {s : State} (h : s.vault.mem = []) (w : Nat) : s.vword w = 0 := by simp [State.vword, h, sget]

theorem State.readWord_of_empty {s : State} (h : s.vault.mem = []) (w : Nat) (b : Bool) : s.readWord w b = (0, false, s) := by
  rw [State.readWord_clean (by rw [State.vword_of_empty h]; decide), State.vword_of_empty h, Nat.zero_mod]

end Sys2Proof.Machine
end

section
/-! What reading, scrubbing and copying words of the vault leaves alone (R218, R220, R223, R225): of the vault's registers the pointer of the
scrubber, the count of repairs, the spares and the repair log; every part of the die but registers, arbiters, the vault, faults and the
buffer that takes alerts. -/

namespace Sys2Proof.Machine

/-- A register of the vault that no access to a word changes. -/
abbrev vaultKept (a : Nat) : Prop := a = Reg.VAULT_SCRUB_PTR ∨ a = Reg.VAULT_REPAIR_CNT ∨ Reg.VAULT_SPARE 0 ≤ a ∧ a < Reg.VAULT_REPAIR_LOG 512

/-- Work on words of the vault brought `s` to `t`. -/
structure State.Worked (s t : State) : Prop where
  regs : ∀ a, vaultKept a → t.rd a = s.rd a
  quota : t.vault.quota = s.vault.quota
  done : t.vault.done = s.vault.done
  frame : ∃ r a v f b, t = { s with regs := r, arbs := a, vault := v, fault := f, buf := b }

namespace State.Worked

theorem refl (s : State) : s.Worked s := ⟨fun _ _ => rfl, rfl, rfl, _, _, _, _, _, rfl⟩

theorem trans {s t u : State} (h : s.Worked t) (h' : t.Worked u) : s.Worked u := by
  obtain ⟨_, _, _, _, _, ht⟩ := h.frame
  obtain ⟨r, a, v, f, b, hu⟩ := h'.frame
  exact ⟨fun k hk => (h'.regs k hk).trans (h.regs k hk), h'.quota.trans h.quota, h'.done.trans h.done, r, a, v, f, b, by rw [hu, ht]⟩

section
variable {s t : State} (h : s.Worked t)
include h

theorem get {f : Fld} (hf : vaultKept f.reg) : t.get f = s.get f := by simp only [State.get, h.regs _ hf]
theorem sys : t.sys = s.sys := by obtain ⟨_, _, _, _, _, rfl⟩ := h.frame; rfl
theorem time : t.time = s.time := by obtain ⟨_, _, _, _, _, rfl⟩ := h.frame; rfl
theorem tally : t.tally = s.tally := by obtain ⟨_, _, _, _, _, rfl⟩ := h.frame; rfl
theorem tiles : t.tiles = s.tiles := by obtain ⟨_, _, _, _, _, rfl⟩ := h.frame; rfl
theorem pending : t.pending = s.pending := by obtain ⟨_, _, _, _, _, rfl⟩ := h.frame; rfl

end

/-- A register that work may change takes a word. -/
theorem wr (s : State) {a : Nat} (ha : ¬ vaultKept a) (v : Nat) : s.Worked (s.wr a v) :=
  ⟨fun _ hk => State.rd_wr_other _ _ _ _ fun h => ha (h ▸ hk), rfl, rfl, _, _, _, _, _, rfl⟩

theorem put (s : State) {f : Fld} (hf : ¬ vaultKept f.reg) (v : Nat) : s.Worked (s.put f v) := wr s hf _

theorem incBy (s : State) {a : Nat} (ha : ¬ vaultKept a) (n : Nat) : s.Worked (s.incBy a n) := wr s ha _

/-- Words, corrections, rows and the repair in hand are the vault's work. -/
theorem withVault (s : State) {v : VaultSt} (hq : v.quota = s.vault.quota) (hd : v.done = s.vault.done) : s.Worked { s with vault := v } :=
  ⟨fun _ _ => rfl, hq, hd, _, _, _, _, _, rfl⟩

theorem setVword (s : State) (w v : Nat) : s.Worked (s.setVword w v) := withVault s rfl rfl

end State.Worked

theorem not_vaultKept_of_lt {a : Nat} (h : a < Reg.VAULT_SCRUB_PTR) : ¬ vaultKept a := by
  simp only [vaultKept, Reg.VAULT_SCRUB_PTR, Reg.VAULT_REPAIR_CNT, Reg.VAULT_SPARE, Reg.VAULT_REPAIR_LOG] at h ⊢; omega

theorem not_vaultKept_of_ge {a : Nat} (h : Reg.VAULT_REPAIR_LOG 512 ≤ a) : ¬ vaultKept a := by
  simp only [vaultKept, Reg.VAULT_SCRUB_PTR, Reg.VAULT_REPAIR_CNT, Reg.VAULT_SPARE, Reg.VAULT_REPAIR_LOG] at h ⊢; omega

/-! The operations. -/

/-- Alerts, strikes and retirements change no register below the fault block. -/
theorem State.Struck.worked {s t : State} (h : s.Struck t) (hv : t.vtdc = s.vtdc) : s.Worked t := by
  obtain ⟨r, v, f, b, rfl⟩ := h.frame
  obtain rfl : v = s.vtdc := hv
  refine ⟨fun a ha => h.regs a ?_, rfl, rfl, r, s.arbs, s.vault, f, b, rfl⟩
  simp only [vaultKept, Reg.VAULT_SCRUB_PTR, Reg.VAULT_REPAIR_CNT, Reg.VAULT_SPARE, Reg.VAULT_REPAIR_LOG, Reg.FAULT_BOOT] at ha ⊢
  omega

theorem State.alert_worked (s : State) (sev : Sev) (reg bit ut ui data : Nat) : s.Worked (s.alert sev reg bit ut ui data) :=
  (s.alert_struck sev reg bit ut ui data).worked (s.alert_vtdc sev reg bit ut ui data)

theorem State.bankOp_worked (s : State) (b r : Nat) : s.Worked (s.bankOp b r) := by
  obtain ⟨hregs, x, y, hframe⟩ := s.bankOp_spec b r
  refine ⟨fun a ha => hregs a ?_, by simp, by simp, x, y, _, _, _, hframe⟩
  have hgrant : a ≠ Reg.ARB_GRANT_CNT (18 + b) := fun h =>
    not_vaultKept_of_ge (by simp only [Reg.VAULT_REPAIR_LOG, Reg.ARB_GRANT_CNT]; omega) (h ▸ ha)
  have hmask : a ≠ Reg.ARB_QMASK_CNT (18 + b) := fun h =>
    not_vaultKept_of_ge (by simp only [Reg.VAULT_REPAIR_LOG, Reg.ARB_QMASK_CNT]; omega) (h ▸ ha)
  simp [hgrant, hmask]

theorem State.queueRow_worked (s : State) (row : Nat) : s.Worked (s.queueRow row) := by
  unfold State.queueRow
  split
  · exact .refl s
  · split
    · exact s.alert_worked _ _ _ _ _ _
    · exact (State.Worked.withVault s (v := { s.vault with rows := s.vault.rows ++ [row] }) rfl rfl).trans
        (.put _ (f := F.VAULT_REPAIR_Q_ROWS) (by decide) _)

theorem State.strikeRow_worked (s : State) (row : Nat) : s.Worked (s.strikeRow row) := by
  have hstrike : s.Worked (s.addStrike 7 row) := (s.addStrike_struck 7 row).worked (s.addStrike_vtdc 7 row)
  unfold State.strikeRow
  dsimp only
  split
  · exact (hstrike.trans ((State.retire_struck _ 7 row).worked (State.retire_vtdc _ 7 row))).trans (State.queueRow_worked _ row)
  · exact hstrike

theorem State.vaultErr_worked (s : State) (typ w syn : Nat) : s.Worked (s.vaultErr typ w syn) :=
  (State.Worked.wr s (a := Reg.VAULT_ERR_ADDR) (by decide) _).trans (.put _ (f := F.VAULT_ERR_SYN_SYN) (by decide) _)

theorem State.noteCorrected_worked (s : State) (w : Nat) : s.Worked (s.noteCorrected w) := by
  unfold State.noteCorrected
  dsimp only
  split
  · refine .trans ?_ (State.queueRow_worked _ _)
    refine .trans ?_ (.put _ (f := F.VAULT_ERR_ADDR_TYPE) (by decide) 3)
    refine .trans ?_ (.put _ (f := F.VAULT_STATUS_STICKY) (by decide) 1)
    refine .trans ?_ (.incBy _ (a := Reg.VAULT_STICKY_CNT) (by decide) 1)
    exact .withVault s rfl rfl
  · exact .withVault s rfl rfl

theorem State.vaultSeen_worked (s : State) (w : Nat) (f : Found) : s.Worked (s.vaultSeen w f) := by
  cases f with
  | clean => exact .refl s
  | corrected d =>
    exact ((State.Worked.incBy s (a := Reg.VAULT_CE_CNT) (by decide) 1).trans (.put _ (f := F.VAULT_STATUS_CE) (by decide) 1)).trans
      (State.vaultErr_worked _ _ _ _)
  | bad =>
    exact (((State.Worked.incBy s (a := Reg.VAULT_UE_CNT) (by decide) 1).trans (.put _ (f := F.VAULT_STATUS_UE) (by decide) 1)).trans
      (State.vaultErr_worked _ _ _ _)).trans (State.strikeRow_worked _ _)
  | poisoned => exact .incBy s (a := Reg.VAULT_POISON_HIT_CNT) (by decide) 1

theorem State.vaultNote_worked (s : State) (w : Nat) (f : Found) : s.Worked (s.vaultNote w f) := by
  cases f with
  | corrected d => exact (s.vaultSeen_worked w _).trans (State.noteCorrected_worked _ w)
  | clean => exact s.vaultSeen_worked w .clean
  | bad => exact s.vaultSeen_worked w .bad
  | poisoned => exact s.vaultSeen_worked w .poisoned

theorem State.readWord_worked (s : State) (w : Nat) (b : Bool) : s.Worked (s.readWord w b).2.2 := by
  have hnote := s.vaultNote_worked w (found (s.vword w))
  cases hf : found (s.vword w) with
  | clean => simp only [State.readWord, hf] at hnote ⊢; exact hnote
  | poisoned => simp only [State.readWord, hf] at hnote ⊢; exact hnote
  | bad => simp only [State.readWord, hf] at hnote ⊢; exact hnote.trans (.setVword _ _ _)
  | corrected d =>
    simp only [State.readWord, hf] at hnote ⊢
    split
    · exact hnote.trans (.setVword _ _ _)
    · exact hnote

end Sys2Proof.Machine
end

section
/-! The scrubber (R220, R222): each word moves the pointer on by one, around the vault. -/

namespace Sys2Proof.Machine

/-- Scrubbing `k` words brought `s` to `t`. -/
structure State.Scrubbed (s : State) (k : Nat) (t : State) : Prop where
  ptr : t.rd Reg.VAULT_SCRUB_PTR = (s.rd Reg.VAULT_SCRUB_PTR + k) % vaultWords
  quota : t.vault.quota = s.vault.quota
  mem : s.vault.mem = [] → t.vault.mem = []
  tally : t.tally = s.tally
  tiles : t.tiles = s.tiles
  sys : t.sys = s.sys
  time : t.time = s.time
  pending : t.pending = s.pending

theorem State.Scrubbed.succ {s t u : State} {k : Nat} (h : s.Scrubbed 1 t) (h' : t.Scrubbed k u) : s.Scrubbed (k + 1) u where
  ptr := by rw [h'.ptr, h.ptr, Nat.mod_add_mod, Nat.add_right_comm, Nat.add_assoc]
  quota := h'.quota.trans h.quota
  mem hs := h'.mem (h.mem hs)
  tally := h'.tally.trans h.tally
  tiles := h'.tiles.trans h.tiles
  sys := h'.sys.trans h.sys
  time := h'.time.trans h.time
  pending := h'.pending.trans h.pending

/-- The word at the pointer is read and corrected, and then the pointer and the counts of the pass are written. -/
theorem scrubWord_scrubbed {s : State} (hptr : s.rd Reg.VAULT_SCRUB_PTR < vaultWords) : s.Scrubbed 1 (scrubWord s) := by
  obtain ⟨d, bad, x, hread⟩ : ∃ d bad x,
    (s.bankOp (bankOf (s.rd Reg.VAULT_SCRUB_PTR)) 2).readWord (s.rd Reg.VAULT_SCRUB_PTR) true = (d, bad, x) := ⟨_, _, _, rfl⟩
  have hx : s.Worked x := by
    have hreadWorked := (s.bankOp (bankOf (s.rd Reg.VAULT_SCRUB_PTR)) 2).readWord_worked (s.rd Reg.VAULT_SCRUB_PTR) true
    rw [hread] at hreadWorked
    exact (s.bankOp_worked _ 2).trans hreadWorked
  have hmem : s.vault.mem = [] → x.vault.mem = [] := by
    intro hs
    rw [State.readWord_of_empty (by simpa using hs)] at hread
    obtain ⟨-, -, rfl⟩ := hread
    simpa using hs
  unfold scrubWord
  simp only [hread]
  split
  · next hlast =>
    refine ⟨?_, by simp [hx.quota], by simpa using hmem, by simp [hx.tally], by simp [hx.tiles], by simp [hx.sys], by simp [hx.time],
      by simp [hx.pending]⟩
    rw [hlast, Nat.mod_self]
    simp [State.rd_put_other, State.incWrap, State.rd_wr]
  · next hmore =>
    refine ⟨?_, by simp [hx.quota], by simpa using hmem, by simp [hx.tally], by simp [hx.tiles], by simp [hx.sys], by simp [hx.time],
      by simp [hx.pending]⟩
    have hlt : s.rd Reg.VAULT_SCRUB_PTR + 1 < vaultWords := by omega
    exact (State.rd_wr_same x _ _).trans (by rw [Nat.mod_eq_of_lt (lt_trans hlt (by decide)), Nat.mod_eq_of_lt hlt])

theorem scrubWords_scrubbed (k : Nat) {s : State} (hptr : s.rd Reg.VAULT_SCRUB_PTR < vaultWords) : s.Scrubbed k (scrubWords k s) := by
  induction k generalizing s with
  | zero => exact ⟨(Nat.mod_eq_of_lt hptr).symm, rfl, id, rfl, rfl, rfl, rfl, rfl⟩
  | succ k ih =>
    have hone := scrubWord_scrubbed hptr
    exact hone.succ (ih (by rw [hone.ptr]; exact Nat.mod_lt _ (by decide)))

/-- The scrubber's quota with what a slot adds, in 1/256 words (R220). -/
def State.slotQuota (s : State) : Nat := s.vault.quota + 2 ^ (30 - s.get F.VAULT_SCRUB_PERIOD_LOG2)

/-- SCRUB_SLOT in a run state in which the scrubber runs. -/
theorem exec_scrubSlot {s : State} (ha : Awake s) (hruns : s.scrubs = true) (hptr : s.rd Reg.VAULT_SCRUB_PTR < vaultWords) :
    ∃ t, exec .scrubSlot s = .next t ∧ t.vault.quota = s.slotQuota % 256 ∧
      t.rd Reg.VAULT_SCRUB_PTR = (s.rd Reg.VAULT_SCRUB_PTR + s.slotQuota / 256) % vaultWords ∧
      (s.vault.mem = [] → t.vault.mem = []) ∧ t.tally = s.tally ∧ t.tiles = s.tiles ∧ t.sys = s.sys ∧ t.time = s.time := by
  have hwords := scrubWords_scrubbed (s.slotQuota / 256) (s := { s with vault := { s.vault with quota := s.slotQuota % 256 } }) hptr
  have heffect : scrubSlot s = scrubWords (s.slotQuota / 256) { s with vault := { s.vault with quota := s.slotQuota % 256 } } :=
    if_pos hruns
  exact ⟨_, (congrArg (finish s) heffect).trans (finish_eq ha hwords.sys hwords.pending), hwords.quota, hwords.ptr, hwords.mem,
    hwords.tally, hwords.tiles, hwords.sys, hwords.time⟩

/-- SCRUB_SLOT elsewhere. -/
theorem exec_scrubSlot_idle {s : State} (ha : Awake s) (hstill : s.scrubs = false) : exec .scrubSlot s = .next s :=
  (congrArg (finish s) (if_neg (by simp [hstill]))).trans (finish_eq ha rfl rfl)

end Sys2Proof.Machine
end

section
/-! Soft repair (R224–R226): a row is queued, its copy starts, and the row is remapped at the copy's end. -/

namespace Sys2Proof.Machine

/-! VAULT_CMD (R224). -/

/-- VAULT_CMD in the register map. -/
def vaultCmdHit : Hit := ⟨.vault, { off := 8, cls := .live, rw := fun _ _ _ => 0x7FFF }, 0, 0, 0⟩

theorem findReg_vaultCmdHit : findReg Reg.VAULT_CMD = some vaultCmdHit := rfl

/-- The die once a write of VAULT_CMD is stored. -/
def State.vaultCmdStored (s : State) (v : Nat) : State :=
  (s.letGo Reg.VAULT_CMD).wr Reg.VAULT_CMD (maskedWord 0x7FFF (s.rd Reg.VAULT_CMD) v)

theorem State.newWord_vaultCmd (s : State) (v : Nat) :
    s.newWord vaultCmdHit Reg.VAULT_CMD v = maskedWord 0x7FFF (s.rd Reg.VAULT_CMD) v := by
  simp [State.newWord, vaultCmdHit, featWord, fixWord, maskedWord]

/-- A write of VAULT_CMD with REPAIR asks for the repair of the row that the word stored names. -/
theorem State.wrote_vaultCmd (s : State) {v : Nat} (hgo : bitsOf v 31 1 = 1) (old nw : Nat) :
    s.wrote vaultCmdHit old v nw = vaultRepairCmd s := by
  unfold State.wrote
  exact if_pos ⟨rfl, decide_eq_true hgo⟩

theorem State.get_vaultCmdStored (s : State) (v : Nat) : (s.vaultCmdStored v).get F.VAULT_CMD_BANK = bitsOf v 0 4 ∧
    (s.vaultCmdStored v).get F.VAULT_CMD_ROW = bitsOf v 4 11 := by
  constructor
  · exact (State.get_wr_same _ _ F.VAULT_CMD_BANK (by decide)).trans (bitsOf_masked _ _ (by decide) (by decide))
  · exact (State.get_wr_same _ _ F.VAULT_CMD_ROW (by decide)).trans (bitsOf_masked _ _ (by decide) (by decide))

/-- The row that a write of VAULT_CMD names, by its bank and row (R452). -/
abbrev rowNamed (v : Nat) : Nat := v % 16 * 2048 + v / 16 % 2048

/-- VAULT_REPAIR_CMD queues the row that its word names. -/
theorem State.write_vaultCmd {s : State} (hr : s.sys.run.isReady = true) (v : Nat) (bar : Bool) :
    s.write bar Reg.VAULT_CMD (setBits v 31 1 1) = (s.vaultCmdStored (setBits v 31 1 1 % 2 ^ 32)).queueRow (rowNamed v) := by
  have hfield : ∀ lo w, lo + w ≤ 31 → bitsOf (setBits v 31 1 1 % 2 ^ 32) lo w = bitsOf v lo w := fun lo w h =>
    (bitsOf_mod_word _ lo w (by omega)).trans (bitsOf_setBits_below _ _ _ _ _ _ h)
  have hgo : bitsOf (setBits v 31 1 1 % 2 ^ 32) 31 1 = 1 := (bitsOf_mod_word _ 31 1 (by decide)).trans (bitsOf_setBits_same _ _ _ _)
  obtain ⟨hbank, hrow⟩ := s.get_vaultCmdStored (setBits v 31 1 1 % 2 ^ 32)
  refine (State.write_taken s bar Reg.VAULT_CMD _ _ findReg_vaultCmdHit (by decide) (by decide) hr rfl (by decide) (by decide) rfl rfl
    hr rfl rfl).trans (((s.letGo Reg.VAULT_CMD).applyWord_stored rfl (by decide) (by decide) _ _).trans ?_)
  rw [State.wrote_vaultCmd _ hgo, State.newWord_vaultCmd]
  have hnone : digestMask Reg.VAULT_CMD = none := by decide
  simp only [State.digested, hnone]
  show (s.vaultCmdStored _).queueRow ((s.vaultCmdStored _).get F.VAULT_CMD_BANK * 2048 + (s.vaultCmdStored _).get F.VAULT_CMD_ROW) = _
  rw [hbank, hrow, hfield 0 4 (by decide), hfield 4 11 (by decide)]
  simp [bitsOf]

/-! The queue of rows (R224). -/

/-- A row that asks in vain leaves the vault as it is. -/
theorem State.queueRow_refused {s : State} {row : Nat} (h : 8 ≤ s.vault.rows.length ∨ s.vault.rows.contains row = true ∨
    s.vault.done.contains row = true ∨ s.vault.repair.map (fun x => x.row) = some row) : (s.queueRow row).vault = s.vault := by
  unfold State.queueRow
  split
  · rfl
  · next hnew =>
    split
    · exact (congrArg State.vault (s.alert_frame _ _ _ _ _ _)).trans rfl
    · next hroom =>
      refine absurd ?_ hnew
      rcases h with h | h | h | h
      · exact absurd h hroom
      · exact .inl h
      · exact .inr (.inl h)
      · obtain ⟨r, hr, hrow⟩ := Option.map_eq_some_iff.mp h
        exact .inr (.inr (by simp [hr, hrow]))

theorem State.queueRow_taken {s : State} {row : Nat} (hlen : s.vault.rows.length < 8) (hq : s.vault.rows.contains row = false)
    (hd : s.vault.done.contains row = false) (hr : s.vault.repair = none) : s.queueRow row =
      ({ s with vault := { s.vault with rows := s.vault.rows ++ [row] } }).put F.VAULT_REPAIR_Q_ROWS (s.vault.rows.length + 1) := by
  have hnew : ¬(s.vault.rows.contains row = true ∨ s.vault.done.contains row = true ∨
      (s.vault.repair.any (fun r => decide (r.row = row))) = true) := by
    rw [hq, hd, hr]; simp
  rw [State.queueRow, if_neg hnew, if_neg (Nat.not_le.mpr hlen)]

section
variable {s : State} (ha : Awake s)
include ha

theorem exec_vaultRepairCmd_queued {row v : Nat} {rest : List Nat} (hrun : s.sys.run = .ready) (hrows : s.vault.rows = rest) (hlen : rest.length < 8)
    (hrow : row = rowNamed v) (hq : rest.contains row = false) (hd : s.vault.done.contains row = false) (hr : s.vault.repair = none)
    (bar : Bool) : ∃ t, exec (.vaultRepairCmd bar v) s = .next t ∧ t.vault = { s.vault with rows := rest ++ [row] } ∧
      t.get F.VAULT_REPAIR_Q_ROWS = rest.length + 1 ∧ regsBut [Reg.VAULT_CMD, Reg.VAULT_REPAIR_Q] s t ∧
      t = { s with regs := t.regs, vault := t.vault, bus := t.bus } := by
  subst hrows hrow
  refine ⟨_, (congrArg (finish s) ((State.write_vaultCmd (by rw [hrun]; rfl) v bar).trans (State.queueRow_taken hlen hq hd hr))).trans
    (finish_eq ha rfl rfl), rfl, ?_, ?_, rfl⟩
  · exact (State.get_put_same _ _ _ (by decide)).trans (Nat.mod_eq_of_lt (show s.vault.rows.length + 1 < 16 by omega))
  · intro a ha'
    simp only [List.mem_cons, List.not_mem_nil, or_false, not_or] at ha'
    obtain ⟨hcmd, hqueue⟩ := ha'
    exact (State.rd_put_other _ _ _ _ hqueue).trans (State.rd_wr_other _ _ _ _ hcmd)

theorem exec_vaultRepairCmd_refused {row v : Nat} (hrun : s.sys.run = .ready) (hrow : row = rowNamed v)
    (h : 8 ≤ s.vault.rows.length ∨ s.vault.rows.contains row = true ∨ s.vault.done.contains row = true ∨
      s.vault.repair.map (fun x => x.row) = some row) (bar : Bool) :
    ∃ t, exec (.vaultRepairCmd bar v) s = .next t ∧ t.vault = s.vault ∧ t.sys = s.sys ∧ t.time = s.time := by
  subst hrow
  have hwork := (s.vaultCmdStored (setBits v 31 1 1 % 2 ^ 32)).queueRow_worked (rowNamed v)
  exact ⟨_, (congrArg (finish s) (State.write_vaultCmd (by rw [hrun]; rfl) v bar)).trans (finish_eq ha hwork.sys hwork.pending),
    State.queueRow_refused h, hwork.sys, hwork.time⟩

/-! The start of a copy (R225, R226). -/

theorem exec_vaultRepairStart_idle (h : s.vault.repair.isSome = true ∨ s.vault.rows = [] ∨ s.quietWork = false ∨ s.sys.run = .safe) :
    exec .vaultRepairStart s = .next s := by
  have heffect : vaultRepairStart s = s := by
    unfold vaultRepairStart
    split
    · next hrepair hrows => exact if_pos (by simpa [hrepair, hrows, ha.1] using h)
    · rfl
  exact (congrArg (finish s) heffect).trans (finish_eq ha rfl rfl)

/-- The die once the first row has left the queue. -/
def State.rowLeaves (s : State) (rest : List Nat) : State :=
  ({ s with vault := { s.vault with rows := rest } }).put F.VAULT_REPAIR_Q_ROWS rest.length

theorem vaultRepairStart_eq {row : Nat} {rest : List Nat} (hrepair : s.vault.repair = none) (hrows : s.vault.rows = row :: rest)
    (hquiet : s.quietWork = true) (hrun : s.sys.run ≠ .safe) : vaultRepairStart s =
      if s.get (F.VAULT_SPARE_LEFT (row / 2048)) = 0 then
        ((s.rowLeaves rest).put F.VAULT_STATUS_NO_SPARE 1).warn F.VAULT_STATUS_NO_SPARE row
      else ({ s.rowLeaves rest with vault := { (s.rowLeaves rest).vault with
        repair := some { row := row, spare := 32 - s.get (F.VAULT_SPARE_LEFT (row / 2048)), since := some s.fNow } } }).put
          F.VAULT_STATUS_REPAIR_ACTIVE 1 := by
  unfold vaultRepairStart
  split
  · next row' rest' _ hfirst =>
    obtain ⟨rfl, rfl⟩ := List.cons.inj (hrows.symm.trans hfirst)
    exact if_neg (by simp [hquiet, hrun, ha.1])
  · next hother => exact absurd hrows (hother _ _ hrepair)

omit ha in
theorem State.get_rowLeaves {rest : List Nat} (hlen : rest.length < 16) : (s.rowLeaves rest).get F.VAULT_REPAIR_Q_ROWS = rest.length :=
  (State.get_put_same _ _ _ (by decide)).trans (Nat.mod_eq_of_lt hlen)

section
variable {row : Nat} {rest : List Nat} (hrepair : s.vault.repair = none) (hrows : s.vault.rows = row :: rest)
  (hquiet : s.quietWork = true) (hrun : s.sys.run ≠ .safe) (hlen : rest.length < 16)
include hrepair hrows hquiet hrun hlen

theorem exec_vaultRepairStart_copies (hspare : s.get (F.VAULT_SPARE_LEFT (row / 2048)) ≠ 0) : ∃ t, exec .vaultRepairStart s = .next t ∧
    t.vault = { s.vault with
      rows := rest, repair := some { row := row, spare := 32 - s.get (F.VAULT_SPARE_LEFT (row / 2048)), since := some s.fNow } } ∧
    t.get F.VAULT_REPAIR_Q_ROWS = rest.length ∧ t.on F.VAULT_STATUS_REPAIR_ACTIVE = true ∧
    regsBut [Reg.VAULT_REPAIR_Q, Reg.VAULT_STATUS] s t ∧ t = { s with regs := t.regs, vault := t.vault } := by
  refine ⟨_, (congrArg (finish s) ((vaultRepairStart_eq ha hrepair hrows hquiet hrun).trans (if_neg hspare))).trans (finish_eq ha rfl rfl),
    rfl, ?_, (State.on_put_flag _ rfl (by decide)).1, ?_, rfl⟩
  · exact (State.get_put_other _ _ _ _ (by decide)).trans (State.get_rowLeaves hlen)
  · intro a ha'
    simp only [List.mem_cons, List.not_mem_nil, or_false, not_or] at ha'
    obtain ⟨hqueue, hstatus⟩ := ha'
    exact (State.rd_put_other _ _ _ _ hstatus).trans (State.rd_put_other _ _ _ _ hqueue)

theorem exec_vaultRepairStart_noSpare (hspare : s.get (F.VAULT_SPARE_LEFT (row / 2048)) = 0) : ∃ t, exec .vaultRepairStart s = .next t ∧
    t.vault = { s.vault with rows := rest } ∧ t.on F.VAULT_STATUS_NO_SPARE = true ∧ t.get F.VAULT_REPAIR_Q_ROWS = rest.length ∧
    t.sys = s.sys ∧ t.time = s.time := by
  have hwork := ((s.rowLeaves rest).put F.VAULT_STATUS_NO_SPARE 1).alert_worked .warn F.VAULT_STATUS_NO_SPARE.reg F.VAULT_STATUS_NO_SPARE.lo 0 0 row
  have hregs := ((s.rowLeaves rest).put F.VAULT_STATUS_NO_SPARE 1).alert_regsBut .warn F.VAULT_STATUS_NO_SPARE.reg
    F.VAULT_STATUS_NO_SPARE.lo 0 0 row
  have hframe := ((s.rowLeaves rest).put F.VAULT_STATUS_NO_SPARE 1).alert_frame .warn F.VAULT_STATUS_NO_SPARE.reg
    F.VAULT_STATUS_NO_SPARE.lo 0 0 row
  refine ⟨_, (congrArg (finish s) ((vaultRepairStart_eq ha hrepair hrows hquiet hrun).trans (if_pos hspare))).trans
    (finish_eq ha hwork.sys hwork.pending), (congrArg State.vault hframe).trans rfl, ?_, ?_, hwork.sys, hwork.time⟩
  · exact (State.on_congr (hregs _ (by decide))).trans (State.on_put_flag _ rfl (by decide)).1
  · have hget : ∀ t u : State, t.rd Reg.VAULT_REPAIR_Q = u.rd Reg.VAULT_REPAIR_Q → t.get F.VAULT_REPAIR_Q_ROWS = u.get F.VAULT_REPAIR_Q_ROWS :=
      fun t u h => by simp only [State.get, h]
    exact (hget _ _ (hregs _ (by decide))).trans ((State.get_put_other _ _ _ _ (by decide)).trans (State.get_rowLeaves hlen))

end

end

end Sys2Proof.Machine
end

section
/-! The end of a row's copy (R225, R226): its words are copied, and then the row is remapped, logged and counted. -/

namespace Sys2Proof.Machine

/-! The copy. -/

theorem copyWord_worked (row : Nat) (s : State) (k : Nat) : s.Worked (copyWord row s k) := by
  have hread := (s.bankOp_worked (bankOf (wordOfRow row k)) 2).trans
    (State.readWord_worked (s.bankOp (bankOf (wordOfRow row k)) 2) (wordOfRow row k) false)
  unfold copyWord
  dsimp only
  split
  · exact hread
  · exact hread.trans (.setVword _ _ _)

theorem copyWord_empty (row k : Nat) {s : State} (h : s.vault.mem = []) : (copyWord row s k).vault.mem = [] := by
  have hread : ∀ w, (s.bankOp (bankOf w) 2).readWord w false = (0, false, s.bankOp (bankOf w) 2) := fun w =>
    State.readWord_of_empty (by simpa using h) w false
  have hfresh : fresh72 0 = 0 := by decide
  simp [copyWord, hread, State.setVword, hfresh, sset, sdel, h]

theorem copyWords_worked (row : Nat) (ks : List Nat) (s : State) : s.Worked (ks.foldl (copyWord row) s) := by
  induction ks generalizing s with
  | nil => exact .refl s
  | cons k ks ih => exact (copyWord_worked row s k).trans (ih _)

theorem copyWords_empty (row : Nat) (ks : List Nat) {s : State} (h : s.vault.mem = []) : (ks.foldl (copyWord row) s).vault.mem = [] := by
  induction ks generalizing s with
  | nil => exact h
  | cons k ks ih => exact ih (copyWord_empty row k h)

theorem copyTo_worked (r : Repair) (k : Nat) (s : State) : s.Worked (copyTo r k s) :=
  (copyWords_worked r.row _ s).trans (.withVault _ rfl rfl)

theorem copyTo_empty (r : Repair) (k : Nat) {s : State} (h : s.vault.mem = []) : (copyTo r k s).vault.mem = [] :=
  copyWords_empty r.row ((List.range k).drop r.ptr) h

theorem State.repairRun_worked (s : State) : s.Worked s.repairRun := by
  unfold State.repairRun
  split
  · exact .refl s
  · split
    · exact .refl s
    · exact copyTo_worked _ _ s

theorem State.repairRun_none {s : State} (h : s.vault.repair = none) : s.repairRun = s := by rw [State.repairRun, h]

/-! The remap. -/

theorem State.alert_vault (s : State) (sev : Sev) (reg bit ut ui data : Nat) : (s.alert sev reg bit ut ui data).vault = s.vault := by
  rw [State.alert_frame]

/-- The die once a row whose words are copied is remapped and counted, before the alert that says so. -/
def State.rowRemapped (s : State) (r : Repair) : State :=
  ((({ s with vault := { s.vault with repair := none } }).remapRow r.row r.spare).incBy Reg.VAULT_REPAIR_CNT 1).put
    F.VAULT_STATUS_REPAIR_ACTIVE 0

theorem repairEnd_eq (r : Repair) (s : State) :
    repairEnd r s = ((copyTo r 128 s).rowRemapped r).alert .info Reg.VAULT_REPAIR_CNT 0xFF 7 r.row 0 := rfl

section
variable (s : State) (r : Repair)

theorem State.rowRemapped_vault : (s.rowRemapped r).vault = { s.vault with repair := none, done := r.row :: s.vault.done } := by
  simp [State.rowRemapped, State.remapRow]

theorem State.rowRemapped_still : (s.rowRemapped r).still = s.still := by
  simp [State.rowRemapped, ↓State.still_mk]

theorem State.rowRemapped_tally : (s.rowRemapped r).tally = s.tally := by
  simp [State.rowRemapped, State.remapRow]

theorem State.rowRemapped_count : (s.rowRemapped r).rd Reg.VAULT_REPAIR_CNT = min (s.rd Reg.VAULT_REPAIR_CNT + 1) 0xFFFFFFFF := by
  have hspare : Reg.VAULT_REPAIR_CNT ≠ Reg.VAULT_SPARE (r.row / 2048) := by simp only [Reg.VAULT_REPAIR_CNT, Reg.VAULT_SPARE]; omega
  have hlog : Reg.VAULT_REPAIR_CNT ≠ Reg.VAULT_REPAIR_LOG (32 * (r.row / 2048) + r.spare) := by
    simp only [Reg.VAULT_REPAIR_CNT, Reg.VAULT_REPAIR_LOG]; omega
  simp [State.rowRemapped, State.remapRow, State.rd_put_other, State.rd_incBy, State.rd_wr_other, hspare, hlog]

theorem State.rowRemapped_inactive : (s.rowRemapped r).on F.VAULT_STATUS_REPAIR_ACTIVE = false :=
  (State.on_put_flag _ rfl (by decide)).2

theorem State.rowRemapped_log :
    (s.rowRemapped r).rd (Reg.VAULT_REPAIR_LOG (32 * (r.row / 2048) + r.spare)) = 2 ^ 31 + 2 ^ 30 + r.row % 2048 := by
  have hspare : Reg.VAULT_REPAIR_LOG (32 * (r.row / 2048) + r.spare) ≠ Reg.VAULT_SPARE (r.row / 2048) := by
    simp only [Reg.VAULT_REPAIR_LOG, Reg.VAULT_SPARE]; omega
  have hcount : Reg.VAULT_REPAIR_LOG (32 * (r.row / 2048) + r.spare) ≠ Reg.VAULT_REPAIR_CNT := by
    simp only [Reg.VAULT_REPAIR_LOG, Reg.VAULT_REPAIR_CNT]; omega
  have hstatus : Reg.VAULT_REPAIR_LOG (32 * (r.row / 2048) + r.spare) ≠ Reg.VAULT_STATUS := by
    simp only [Reg.VAULT_REPAIR_LOG, Reg.VAULT_STATUS]; omega
  unfold State.rowRemapped State.remapRow
  rw [State.rd_put_other _ _ _ _ hstatus, State.rd_incBy, if_neg hcount, State.rd_mk, rdOf_regs, State.rd_put_other _ _ _ _ hspare,
    State.rd_wr_same, Nat.mod_eq_of_lt (by omega)]

theorem State.rowRemapped_left : (s.rowRemapped r).get (F.VAULT_SPARE_LEFT (r.row / 2048)) = s.get (F.VAULT_SPARE_LEFT (r.row / 2048)) - 1 := by
  have hcount : Reg.VAULT_SPARE (r.row / 2048) ≠ Reg.VAULT_REPAIR_CNT := by simp only [Reg.VAULT_SPARE, Reg.VAULT_REPAIR_CNT]; omega
  have hstatus : Reg.VAULT_SPARE (r.row / 2048) ≠ Reg.VAULT_STATUS := by simp only [Reg.VAULT_SPARE, Reg.VAULT_STATUS]; omega
  have hleft : s.get (F.VAULT_SPARE_LEFT (r.row / 2048)) < 2 ^ 6 := bitsOf_lt _ _ _
  unfold State.rowRemapped State.remapRow
  rw [State.get_put_other _ _ _ _ hstatus, State.get_incBy _ _ _ _ hcount, State.get_mk, getOf_regs,
    State.get_put_same _ _ _ (show 0 + 6 ≤ 32 by decide), State.get_mk, getOf_regs]
  exact Nat.mod_eq_of_lt (lt_of_le_of_lt (Nat.sub_le _ 1) hleft)

end

/-! REPAIR_DONE (R225). -/

section
variable {s : State} (ha : Awake s)
include ha

theorem exec_vaultRepairDone_idle (h : s.vault.repair = none ∨ s.quietWork = false) : exec .vaultRepairDone s = .next s := by
  have heffect : vaultRepairDone s = s := if_pos (by simpa using h)
  exact (congrArg (finish s) heffect).trans (finish_eq ha rfl rfl)

omit ha in
/-- Where nothing pauses the copy, its end comes at the time that it takes. -/
theorem vaultRepairDone_eq {u : State} {r : Repair} (hquiet : s.quietWork = true) (hr : s.repairRun.vault.repair = some r)
    (hu : s.repairRun.atF (r.since.getD s.fNow + (ceilDiv (128 * updateTime) (atLeast1 (s.rd Reg.WALL_NOM)) - r.ran)) = some u)
    (hur : u.vault.repair = some r) (hsince : r.since.isSome = true) : vaultRepairDone s = repairEnd r u := by
  have hsome : s.vault.repair ≠ none := fun h => by simp [State.repairRun_none h, h] at hr
  unfold vaultRepairDone
  rw [if_neg (by simpa [hquiet] using hsome)]
  simp only [hr]
  rw [State.reachF_at hu]
  simp only [hur, hsince, if_true]

theorem exec_vaultRepairDone {v u : State} {r : Repair} (hquiet : s.quietWork = true) (hv : v = s.repairRun) (hr : v.vault.repair = some r)
    (hu : v.atF (r.since.getD s.fNow + (ceilDiv (128 * updateTime) (atLeast1 (s.rd Reg.WALL_NOM)) - r.ran)) = some u)
    (hur : u.vault.repair = some r) (hsince : r.since.isSome = true) (hrow : r.row < 32768) (hspare : r.spare < 32) :
    ∃ t, exec .vaultRepairDone s = .next t ∧ t.vault.repair = none ∧ t.vault.done.contains r.row = true ∧
      t.rd Reg.VAULT_REPAIR_CNT = min (u.rd Reg.VAULT_REPAIR_CNT + 1) 0xFFFFFFFF ∧
      t.on F.VAULT_STATUS_REPAIR_ACTIVE = false ∧
      t.rd (Reg.VAULT_REPAIR_LOG (32 * (r.row / 2048) + r.spare)) = 2 ^ 31 + 2 ^ 30 + r.row % 2048 ∧
      t.get (F.VAULT_SPARE_LEFT (r.row / 2048)) = s.get (F.VAULT_SPARE_LEFT (r.row / 2048)) - 1 ∧
      (u.vault.mem = [] → t.vault.mem = []) ∧ t.tally = u.tally ∧ t.sys = u.sys ∧ t.time = u.time := by
  subst hv
  have hx : u.Worked (copyTo r 128 u) := copyTo_worked r 128 u
  have halert : (((copyTo r 128 u).rowRemapped r).Struck (repairEnd r u)) := State.alert_struck _ _ _ _ _ _ _
  have hvault : (repairEnd r u).vault = ((copyTo r 128 u).rowRemapped r).vault := by rw [repairEnd_eq, State.alert_vault]
  have hstill : (repairEnd r u).still = (copyTo r 128 u).still := by rw [repairEnd_eq, State.alert_still, State.rowRemapped_still]
  have hsys : (repairEnd r u).sys = u.sys := (State.sys_of_still hstill).trans hx.sys
  have hpending : (repairEnd r u).pending = u.pending := (State.pending_of_still hstill).trans hx.pending
  obtain ⟨husys, hupending⟩ := State.atF_sys hu
  refine ⟨_, (congrArg (finish s) (vaultRepairDone_eq hquiet hr hu hur hsince)).trans (finish_at ha
    ⟨husys.trans s.repairRun_worked.sys, hupending.trans s.repairRun_worked.pending⟩ hsys hpending), ?_, ?_, ?_, ?_, ?_, ?_, ?_, ?_, hsys,
    (State.time_of_still hstill).trans hx.time⟩
  · rw [hvault, State.rowRemapped_vault]
  · rw [hvault, State.rowRemapped_vault]; simp
  · rw [halert.regs _ (by decide), State.rowRemapped_count, hx.regs _ (.inr (.inl rfl))]
  · rw [halert.on (by decide), State.rowRemapped_inactive]
  · rw [halert.regs _ (by simp only [Reg.VAULT_REPAIR_LOG, Reg.FAULT_BOOT]; omega), State.rowRemapped_log]
  · have hkept : vaultKept (F.VAULT_SPARE_LEFT (r.row / 2048)).reg := .inr (.inr (by
      simp only [Reg.VAULT_SPARE, Reg.VAULT_REPAIR_LOG]; omega))
    have hget : (repairEnd r u).get (F.VAULT_SPARE_LEFT (r.row / 2048)) =
        ((copyTo r 128 u).rowRemapped r).get (F.VAULT_SPARE_LEFT (r.row / 2048)) := by
      simp only [State.get]
      rw [halert.regs _ (by simp only [Reg.VAULT_SPARE, Reg.FAULT_BOOT]; omega)]
    rw [hget, State.rowRemapped_left, hx.get hkept, State.atF_get hu, s.repairRun_worked.get hkept]
    · simp only [Reg.VAULT_SPARE, Reg.TRG_BUSY_SLOTS]; omega
    · simp only [Reg.VAULT_SPARE, Reg.ORB_STATUS]; omega
  · intro hempty
    rw [hvault, State.rowRemapped_vault]
    exact copyTo_empty r 128 hempty
  · exact (State.alert_worked _ _ _ _ _ _ _).tally.trans ((State.rowRemapped_tally _ _).trans hx.tally)

end

end Sys2Proof.Machine
end

section
/-! The vault's windows (R219, R227, R361): a 16-bit write stores its entry, and a BAR2 read answers bytes of a word with its poison. -/

namespace Sys2Proof.Machine

/-! Writes (R219). -/

theorem inVault_entry {o : Nat} (ho : o < 16777216) : inVault (vaultBase + 2 * o) = true :=
  decide_eq_true ⟨by omega, by omega⟩

/-- Two bytes at an even offset of the window are its entry. -/
theorem State.vaultWrite_entry (s : State) {a o : Nat} (ha : a - vaultBase = 2 * o) (v : Nat) :
    s.vaultWrite a 2 v = s.windowEntry o (bitsOf v 0 16) := by
  have hentry : 2 * o / 2 = o := by omega
  unfold State.vaultWrite
  rw [ha]
  show s.windowEntry (2 * o / 2 + 0) (bitsOf v (16 * 0) 16) = _
  rw [hentry, Nat.add_zero, Nat.mul_zero]

/-- A write of an entry, by the run state and the role. -/
theorem State.windowWrite_entry (s : State) (bar : Bool) {o : Nat} (ho : o < 16777216) (v : Nat) (hleaf : s.isRoot = false) :
    s.windowWrite bar (vaultBase + 2 * o) 2 v =
      if s.sys.run = .ready ∨ s.sys.run = .armed then s.windowEntry o (bitsOf v 0 16) else s.rejected false := by
  have heven : (vaultBase + 2 * o) % 2 = 0 := by simp only [vaultBase]; omega
  unfold State.windowWrite
  rw [if_neg (by simp [inVault_entry ho]), if_neg (by simp [heven]), State.vaultWrite_entry s (Nat.add_sub_cancel_left ..)]
  simp [hleaf]

theorem State.regionEntry_bin {s : State} {o : Nat} (hbins : s.on F.TALLY_CTRL_HBINS = false) (ho : o < 16777216) :
    s.regionEntry o = true := by simp [State.regionEntry, hbins, ho]

/-- The entry of a word that reads clean is written. -/
theorem State.windowEntry_clean {s : State} {o x : Nat} (hregion : s.regionEntry o = true) (hq : (s.bankQ (bankOf (o / 4))).q = [])
    (hclean : found (s.vword (o / 4)) = .clean) : s.windowEntry o x =
      (s.bankOp (bankOf (o / 4)) 3).setVword (o / 4) (fresh72 (setBits (s.vword (o / 4) % 2 ^ 64) (16 * (o % 4)) 16 x)) := by
  rw [State.windowEntry, if_pos (.inr hregion), State.settleWord_idle hq, State.writeEntry_clean (by rwa [State.vword_bankOp]),
    State.vword_bankOp]

section
variable {s : State} (ha : Awake s) {o : Nat} (hleaf : s.isRoot = false) (ho : o < 16777216)
include ha hleaf ho

theorem exec_vaultWindowWrite_stored {v : Nat} (hrun : s.sys.run = .ready ∨ s.sys.run = .armed) (hbins : s.on F.TALLY_CTRL_HBINS = false)
    (hq : (s.bankQ (bankOf (o / 4))).q = []) (hclean : found (s.vword (o / 4)) = .clean) (hv : v < 65536) (bar : Bool) :
    ∃ t, exec (.vaultWindowWrite bar (0x10000000 + 2 * o) 2 v) s = .next t ∧
      t.vword (o / 4) = fresh72 (setBits (s.vword (o / 4) % 2 ^ 64) (16 * (o % 4)) 16 v) ∧
      (∀ w, w ≠ o / 4 → t.vword w = s.vword w) ∧ t.tally = s.tally ∧ t.sys = s.sys ∧ t.time = s.time ∧
      regsBut [Reg.ARB_GRANT_CNT (18 + bankOf (o / 4)), Reg.ARB_QMASK_CNT (18 + bankOf (o / 4))] s t := by
  obtain ⟨hregs, x, y, hframe⟩ := s.bankOp_spec (bankOf (o / 4)) 3
  have hwork := (s.bankOp_worked (bankOf (o / 4)) 3).trans
    (.setVword _ (o / 4) (fresh72 (setBits (s.vword (o / 4) % 2 ^ 64) (16 * (o % 4)) 16 v)))
  have hbits : bitsOf v 0 16 = v := by simpa [bitsOf] using hv
  have hwrite := s.windowWrite_entry bar ho v hleaf
  rw [if_pos hrun, hbits, State.windowEntry_clean (State.regionEntry_bin hbins ho) hq hclean] at hwrite
  refine ⟨_, (congrArg (finish s) hwrite).trans (finish_eq ha hwork.sys hwork.pending), ?_, ?_, hwork.tally, hwork.sys, hwork.time, ?_⟩
  · simp
  · intro w hw
    simp [hw]
  · exact fun a ha => (State.rd_congr (State.setVword_regs _ _ _) a).trans (hregs a ha)

theorem exec_vaultWindowWrite_refused (hrun : s.sys.run = .running ∨ s.sys.run = .hold ∨ s.sys.run = .safe) (v : Nat) (bar : Bool) :
    ∃ t, exec (.vaultWindowWrite bar (0x10000000 + 2 * o) 2 v) s = .next t ∧ t.vault = s.vault ∧ t.sys = s.sys ∧ t.time = s.time := by
  have hwrite : s.windowWrite bar (vaultBase + 2 * o) 2 v = { s with regs := (s.rejected false).regs } :=
    (s.windowWrite_entry bar ho v hleaf).trans ((if_neg (by rcases hrun with h | h | h <;> simp [h])).trans (s.rejected_frame false))
  exact ⟨_, (congrArg (finish s) hwrite).trans (finish_eq ha rfl rfl), rfl, rfl, rfl⟩

end

/-! Reads of BAR2 (R227, R361). -/

/-- A read of a root's lode map, where nothing waits in the bank of its word. -/
theorem State.vaultRead_word {s : State} {a o : Nat} (n : Nat) (ha : a - vaultBase = o) (hroot : s.isRoot = true)
    (hq : (s.bankQ (bankOf (o / 8))).q = []) {d : Nat} {bad : Bool} {x : State}
    (hread : (s.bankOp (bankOf (o / 8)) 3).readWord (o / 8) false = (d, bad, x)) :
    s.vaultRead a n = (bitsOf d (8 * (o % 8)) (8 * n), bad, x) := by
  unfold State.vaultRead
  rw [ha]
  simp only [hroot, true_or, if_true, State.windowWord, State.settleWord_idle hq, hread]

theorem State.bar2Read_word {s : State} {o : Nat} (n : Nat) (hroot : s.isRoot = true) (ho : o < 33554432)
    (hq : (s.bankQ (bankOf (o / 8))).q = []) {d : Nat} {bad : Bool} {x : State}
    (hread : (s.bankOp (bankOf (o / 8)) 3).readWord (o / 8) false = (d, bad, x)) :
    s.bar2Read o n = (if bad then x.incBy Reg.HIF_POISON_READ_CNT 1 else x).emit (.readback (bitsOf d (8 * (o % 8)) (8 * n)) bad) := by
  have hin : inVault (vaultBase + o) = true := decide_eq_true ⟨by omega, by omega⟩
  unfold State.bar2Read
  rw [if_neg (by simp [hroot, hin]), State.vaultRead_word n (Nat.add_sub_cancel_left ..) hroot hq hread]
  simp only [State.inc_eq]

section
variable {s : State} (ha : Awake s) {o : Nat} (n : Nat)
include ha

theorem exec_bar2Read_idle (h : s.isRoot = false ∨ 33554432 ≤ o) : exec (.bar2Read o n) s = .next s := by
  have hread : s.bar2Read o n = s := if_pos (by
    rcases h with hleaf | ho
    · exact .inl (by simp [hleaf])
    · exact .inr (by simp only [inVault, decide_eq_true_eq]; omega))
  exact (congrArg (finish s) hread).trans (finish_eq ha rfl rfl)

variable (hroot : s.isRoot = true) (ho : o < 33554432) (hq : (s.bankQ (bankOf (o / 8))).q = [])
include hroot ho hq

theorem exec_bar2Read_clean (hclean : found (s.vword (o / 8)) = .clean) : ∃ t, exec (.bar2Read o n) s = .next t ∧
    t.out = s.out ++ [.readback (bitsOf (s.vword (o / 8) % 2 ^ 64) (8 * (o % 8)) (8 * n)) false] ∧ t.vault.mem = s.vault.mem ∧
    t.sys = s.sys ∧ t.time = s.time ∧ regsBut [Reg.ARB_GRANT_CNT (18 + bankOf (o / 8)), Reg.ARB_QMASK_CNT (18 + bankOf (o / 8))] s t := by
  obtain ⟨hregs, x, y, hframe⟩ := s.bankOp_spec (bankOf (o / 8)) 3
  have hwork := s.bankOp_worked (bankOf (o / 8)) 3
  have hout : (s.bankOp (bankOf (o / 8)) 3).out = s.out := by rw [hframe]
  have hread := State.bar2Read_word n hroot ho hq (State.readWord_clean (by rwa [State.vword_bankOp]) false)
  simp only [State.vword_bankOp, Bool.false_eq_true, if_false] at hread
  refine ⟨_, (congrArg (finish s) hread).trans (finish_eq ha hwork.sys hwork.pending), ?_, ?_, hwork.sys, hwork.time, hregs⟩
  · simp [State.emit, hout]
  · simp

theorem exec_bar2Read_poisoned (hpoison : found (s.vword (o / 8)) = .poisoned) : ∃ t, exec (.bar2Read o n) s = .next t ∧
    t.out = s.out ++ [.readback (bitsOf (s.vword (o / 8) % 2 ^ 64) (8 * (o % 8)) (8 * n)) true] ∧ t.vault.mem = s.vault.mem ∧
    t.rd Reg.HIF_POISON_READ_CNT = min (s.rd Reg.HIF_POISON_READ_CNT + 1) 0xFFFFFFFF ∧ t.sys = s.sys ∧ t.time = s.time := by
  obtain ⟨hregs, x, y, hframe⟩ := s.bankOp_spec (bankOf (o / 8)) 3
  have hwork := s.bankOp_worked (bankOf (o / 8)) 3
  have hout : (s.bankOp (bankOf (o / 8)) 3).out = s.out := by rw [hframe]
  have hread := State.bar2Read_word n hroot ho hq (State.readWord_poisoned (by rwa [State.vword_bankOp]) false)
  simp only [State.vword_bankOp, if_true, State.inc_eq] at hread
  have hkept : (s.bankOp (bankOf (o / 8)) 3).rd Reg.HIF_POISON_READ_CNT = s.rd Reg.HIF_POISON_READ_CNT := by
    refine hregs _ ?_
    simp only [List.mem_cons, List.not_mem_nil, or_false, Reg.HIF_POISON_READ_CNT, Reg.ARB_GRANT_CNT, Reg.ARB_QMASK_CNT, bankOf]
    omega
  refine ⟨_, (congrArg (finish s) hread).trans (finish_eq ha (by simp [hwork.sys]) (by simp [hwork.pending])), ?_, ?_, ?_,
    by simp [hwork.sys], by simp [hwork.time]⟩
  · simp [State.emit, hout]
  · simp
  · simp [State.rd_incBy, hkept]

end

end Sys2Proof.Machine
end

section
/-! Scrubber, soft repair and windows of the vault together. -/

namespace Sys2Proof.Machine

/-- Settles O32: scrubbing and copying change nothing of a pointer, a spare, the count or the log of repairs but by their own writes, and a window
or BAR2 access of a word that reads clean or poisoned changes that word and its bank's counters alone. -/
theorem vaultScrubsRepairsAndAnswers : Obligations.VaultScrubsRepairsAndAnswers := by
  intro s v' u bar v o n r rest rp ha
  refine ⟨?scrub, ?scrubIdle, ?queued, ?refused, ?startIdle, ?start, ?doneIdle, ?done, ?stored, ?windowRefused, ?bar2Idle, ?bar2⟩
  case scrub => exact exec_scrubSlot ha
  case scrubIdle => exact exec_scrubSlot_idle ha
  case queued => exact fun hrun hrows hlen hrow hq hd hr => exec_vaultRepairCmd_queued ha hrun hrows hlen hrow hq hd hr bar
  case refused => exact fun hrun hrow h => exec_vaultRepairCmd_refused ha hrun hrow h bar
  case startIdle => exact exec_vaultRepairStart_idle ha
  case start =>
    exact fun hr hrows hquiet hrun hlen =>
      ⟨exec_vaultRepairStart_copies ha hr hrows hquiet hrun hlen, exec_vaultRepairStart_noSpare ha hr hrows hquiet hrun hlen⟩
  case doneIdle => exact exec_vaultRepairDone_idle ha
  case done =>
    exact fun hquiet hv hr hu hur hsince hrow hspare _ => exec_vaultRepairDone ha hquiet hv hr hu hur hsince hrow hspare
  case stored =>
    exact fun hrun hleaf ho hbins hq hclean hv => exec_vaultWindowWrite_stored ha hleaf ho hrun hbins hq hclean hv bar
  case windowRefused => exact fun hleaf hrun ho => exec_vaultWindowWrite_refused ha hleaf ho hrun v bar
  case bar2Idle => exact exec_bar2Read_idle ha n
  case bar2 =>
    exact fun hroot ho _ _ hq => ⟨exec_bar2Read_clean ha n hroot ho hq, exec_bar2Read_poisoned ha n hroot ho hq⟩

end Sys2Proof.Machine
end

section
/-! A Facet engine that finishes at a relay whose uplink runs below L3 (R193, R255, R279): what comes to the buffer asks for the uplinks, and a
speculative fragment that may not go up there is freed with it. -/

namespace Sys2Proof.Machine

/-- A whole speculative fragment from drift port 1, of which nothing has been sent: its header's flags are SPEC alone. -/
def unsentSpecUnit : BUnit :=
  { stream := 0, origin := 1, q := true, port := 1, part := .quar, bytes := leBytes 6 0 ++ leBytes 26 2 }

/-- The fragment without hits that engine 0 codes. -/
def codedFragment : FacetJob :=
  { engine := 0, tsel := 0
    built := { frag := { tag := 0, kind := .accept, first := 0, last := 0, trig := 0 }, nuggets := [], miss := 0, ovf := 0, warn := false } }

/-- A relay in RUNNING with its SHAFT port 0 in UP at version 2: the speculative fragment is in the buffer, the other in the Facet. -/
def relayBelowL3 : State :=
  { regs := [(Reg.PORT_CFG 0, 0x4000000F), (Reg.PORT_STATUS 0, 0x26)]
    sys := { role := .relay, run := .running, readyBall := true }
    facet := { jobs := [codedFragment] }, buf := { units := [unsentSpecUnit] } }

/-- The fragments that an outcome leaves in the Facet, and the units that it leaves in the buffer. -/
def facetAndBufferAfter : Host.Outcome State Fault Refusal → Option (Nat × Nat)
  | .next t => some (t.facet.jobs.length, t.buf.units.length)
  | _ => none

/-- The coded fragment enters the buffer, and the speculative one is freed. -/
theorem facetAndBufferAfter_relayBelowL3 :
    facetAndBufferAfter (exec (.facetCodingDone 0) relayBelowL3) = some (0, 1) := by decide +kernel

/-- Refutes O25: where a Facet engine finishes, the buffer may not hold one unit more, for on a path below L3 the same command frees the
speculative fragments that wait there. -/
theorem not_arbitersCanariesAndFacetEngines : ¬ Obligations.ArbitersCanariesAndFacetEngines := by
  rintro ⟨-, -, -, hfacet⟩
  have hawake : Awake relayBelowL3 := ⟨by decide, by decide⟩
  obtain ⟨t, ht, -, -, -, hleaves⟩ :=
    (hfacet relayBelowL3 codedFragment hawake).1 rfl rfl rfl rfl (by decide +kernel) (by decide)
  have hcounts : some (t.facet.jobs.length, t.buf.units.length) = some (0, 1) := by
    rw [← facetAndBufferAfter_relayBelowL3]
    exact (congrArg facetAndBufferAfter ht).symm
  obtain ⟨hjobs, hunits⟩ := Prod.mk.inj (Option.some.inj hcounts)
  obtain ⟨-, hentered⟩ | ⟨-, hwaits⟩ := hleaves
  · have htwo : t.buf.units.length = 2 := hentered
    omega
  · have hone : t.facet.jobs.length = 1 := by simpa using congrArg List.length hwaits
    omega

end Sys2Proof.Machine
end

section
/-! A unit delivered on a ring whose group has noted a completion under a vector beyond the 2,048 of the MSI-X table (R355, R384): the vectors
of a group are held as numbers, and the word of such a vector's pending bit is a register of the rings. -/

namespace Sys2Proof.Machine

/-- The vector whose pending bit would be bit 1 of RING_HEAD of ring 0. -/
def vectorAtRingHead : Nat := (Reg.RING_HEAD 0 - 0x98000) / 4 * 32 + 1

/-- An alert record of die 0. -/
def alertUnit : BUnit := { stream := 5, origin := 0, q := false, part := .alert, bytes := List.replicate 32 0 }

/-- The buffer of 32 bytes that takes it. -/
def alertBuf : HBuf := { ix := 0, addr := 0, len := 32, id := 0 }

/-- A root in RUNNING, its interrupts off, with DATA ring 0 for the alert record, whose group 0 has that vector noted. -/
def farVectorRoot : State :=
  { regs := [(Reg.RING_CFG 0, 0xC0000000), (Reg.RING_MAP 0 + 8, 0x80000000)]
    sys := { role := .root, run := .running, readyBall := true }
    buf := { units := [alertUnit] }
    hif := { bufs := [(0, [alertBuf])], coal := [(0, [vectorAtRingHead])] } }

/-- RING_HEAD of ring 0 as an outcome leaves it. -/
def ringHeadAfter : Host.Outcome State Fault Refusal → Option Nat
  | .next t => some (t.rd (Reg.RING_HEAD 0))
  | _ => none

/-- The head moves from 0 to 1, and then the pending bit is set in it. -/
theorem ringHeadAfter_farVectorRoot : ringHeadAfter (exec (.unitDeliver 0) farVectorRoot) = some 3 := by decide +kernel

/-- Refutes O50: the head of a ring that takes one record need not rise by one, where its group has noted a completion under a vector that the
MSI-X table does not have. -/
theorem not_unitsAreDelivered : ¬ Obligations.UnitsAreDelivered := by
  intro hunits
  have hawake : Awake farVectorRoot := ⟨by decide, by decide⟩
  obtain ⟨hdelivers, -⟩ := hunits farVectorRoot (farVectorRoot.dmaGrant 0 1).1 0 0 0 alertUnit alertBuf { r := 0, cls := 0, len := 0 }
    hawake (by decide) rfl
  obtain ⟨hrecord, -⟩ := hdelivers (by decide) (by decide +kernel) (by decide +kernel)
  obtain ⟨t, ht, -, -, hhead, -⟩ := (hrecord rfl rfl rfl (by decide +kernel) (by decide +kernel)).1 (by decide) rfl (by decide)
  have hthree : some (t.rd (Reg.RING_HEAD 0)) = some 3 := by rw [← ringHeadAfter_farVectorRoot, ht]; rfl
  rw [hhead] at hthree
  exact absurd hthree (by decide)

end Sys2Proof.Machine
end

section
/-! A fragment whose header carries SPEC, in a piece without Q (R189, R255, R263): a link without the feature of the Q bit brings such pieces,
and a CANCEL recorded for the fragment's identity frees it as its header enters the buffer. -/

namespace Sys2Proof.Machine

/-- A speculative fragment of die 7 in slot 9 of orbit 5, in one piece that the link marks with no Q. -/
def plainSpecPiece : Piece :=
  { stream := 0, origin := 7, q := false, first := true, last := true, abort := false
    bytes := leBytes 4 0 ++ leBytes 2 7 ++ leBytes 2 2 ++ leBytes 4 0 ++ leBytes 4 5 ++ leBytes 2 9 ++ leBytes 14 0 }

/-- The CANCEL that has overtaken it on VC1 (R191). -/
def overtakingCancel : Resolution :=
  { id := { origin := 7, orbit := 5, slot := 9 }, confirm := false, expire := 1000
    msg := { info := 0, origin := 7, orbit := 5, slot := 9, src := 0, trigger := 0 } }

/-- A root in RUNNING with its drift port 3 in UP at version 3 and no feature negotiated: the piece waits there, and the CANCEL is recorded. -/
def cancelRecorded : State :=
  { regs := [(Reg.PORT_CFG 3, 0xC0000010), (Reg.PORT_STATUS 3, 0x36)]
    sys := { role := .root, run := .running, readyBall := true }
    trg := { table := [overtakingCancel] }, ports := [(3, { stage := [{ units := 5, pieces := [plainSpecPiece] }] })] }

/-- The units that an outcome leaves in the buffer. -/
def unitsAfter : Host.Outcome State Fault Refusal → Option (List BUnit)
  | .next t => some t.buf.units
  | _ => none

/-- Nothing asks for an uplink at a root. -/
theorem uplinks_cancelRecorded : cancelRecorded.uplinks = cancelRecorded := by decide +kernel

/-- The fragment is freed. -/
theorem unitsAfter_cancelRecorded : unitsAfter (exec (.rxStageAdmit 3) cancelRecorded) = some [] := by decide +kernel

/-- Refutes O36: a piece that finds room need not stand in the buffer after RX_STAGE_ADMIT, for a fragment with SPEC in its header is freed where
a CANCEL is recorded for it. -/
theorem not_framesAreCheckedAndTaken : ¬ Obligations.FramesAreCheckedAndTaken := by
  intro hframes
  have hawake : Awake cancelRecorded := ⟨by decide, by decide⟩
  obtain ⟨-, -, -, hpiece, -⟩ :=
    hframes cancelRecorded 3 0 [] plainSpecPiece hawake (by decide) (by decide) rfl (by decide) (by decide)
  obtain ⟨t, ht, -, hunits, -⟩ := hpiece rfl rfl rfl rfl rfl rfl rfl (by decide) uplinks_cancelRecorded
  have hnone := unitsAfter_cancelRecorded
  rw [ht] at hnone
  exact absurd (hunits.symm.trans (Option.some.inj hnone)) (List.cons_ne_nil _ _)

end Sys2Proof.Machine
end

section
/-! The only lane of a shaft port retires (R42, R314, R319): the port goes DOWN with it, and where it is the port in use the die loses its shaft
timing. -/

namespace Sys2Proof.Machine

/-- A relay on shaft timing whose SHAFT port 3 is in port state `st` with the one lane 4; the phase loop is in HUNT. -/
def oneLaneShaft (run : RunState) (st : Nat) : State :=
  { regs := [(Reg.ORB_CLK, 1), (Reg.ORB_PA_STATUS, 1), (Reg.PORT_CFG 3, 0x40000010), (Reg.PORT_STATUS 3, BitVec.ofNat 32 st)]
    sys := { role := .relay, run := run, readyBall := true }
    ports := [(3, { lanes := [4] })], lanes := [(4, { attempts := 3 })] }

/-- Whether an outcome leaves the counters to be loaded anew at the next marker. -/
def reloadAfter : Host.Outcome State Fault Refusal → Option Bool
  | .next t => some t.time.reload
  | _ => none

/-- The run state that an outcome leaves. -/
def runAfter : Host.Outcome State Fault Refusal → Option RunState
  | .next t => some t.sys.run
  | _ => none

/-- From BASE: with its last lane the port is left, and the next marker reloads the counters. -/
theorem reloadAfter_oneLaneShaft : reloadAfter (exec (.trainAttemptTimeout 4 true) (oneLaneShaft .ready 1)) = some true := by decide +kernel

/-- From UP: the lane's skew takes a RUNNING die to HOLD. -/
theorem runAfter_oneLaneShaft : runAfter (exec (.alignReceived 4 0 65 true) (oneLaneShaft .running 6)) = some .hold := by decide +kernel

/-- Refutes O33: a fourth failed attempt on the last lane of the shaft port in use takes the port DOWN, and the die's times do not stay as they
are, for the counters are to be loaded anew. -/
theorem not_lanesLockAdaptAndRetrain : ¬ Obligations.LanesLockAdaptAndRetrain := by
  intro hlanes
  have hawake : Awake (oneLaneShaft .ready 1) := ⟨by decide, by decide⟩
  obtain ⟨-, -, -, -, -, -, -, -, -, -, -, hattempt⟩ :=
    hlanes (oneLaneShaft .ready 1) 4 0 0 0 hawake (by decide) (by decide)
  obtain ⟨-, -, hfourth⟩ := hattempt (by decide) (by decide)
  obtain ⟨t, ht, -, -, -, -, -, htime⟩ := hfourth (by decide)
  have hreload : some t.time.reload = some true := by rw [← reloadAfter_oneLaneShaft, ht]; rfl
  rw [htime] at hreload
  exact absurd hreload (by decide)

/-- Refutes O34: a skew of 65 blocks on the only lane of the shaft port in use takes the port DOWN and a RUNNING die to HOLD. -/
theorem not_portBlocksSteerTheStriping : ¬ Obligations.PortBlocksSteerTheStriping := by
  intro hblocks
  have hawake : Awake (oneLaneShaft .running 6) := ⟨by decide, by decide⟩
  obtain ⟨-, -, -, -, -, -, -, -, -, hskew, -⟩ :=
    hblocks (oneLaneShaft .running 6) 3 0 4 0 0 65 hawake (by decide) (by decide) (by decide)
  obtain ⟨t, ht, -, hrun, -⟩ := hskew (by decide) (by decide) (by decide)
  have hhold : some t.sys.run = some .hold := by rw [← runAfter_oneLaneShaft, ht]; rfl
  rw [hrun] at hhold
  exact absurd hhold (by decide)

end Sys2Proof.Machine
end

section
/-! A frame sent too often on a port that is retired (R312, R453): the port re-trains and takes no strike, for a retired unit takes none. -/

namespace Sys2Proof.Machine

/-- A frame sent twice. -/
def twiceSent : TxFrame := { vc := 1, seq := 7, bytes := [], sends := 2 }

/-- A die in READY whose port 3, retired, still holds that frame; one transmission is its limit, and 255 strikes retire a port. -/
def retiredReplay : State :=
  { regs := [(Reg.PORT_REPLAY 3, 0), (Reg.FAULT_POLICY 6, 0xFF000000)]
    sys := { role := .relay, run := .ready, readyBall := true }
    fault := { retired := [unitKey 6 3] }, ports := [(3, { replay := [twiceSent] })] }

/-- The strikes of port 3 as an outcome leaves them. -/
def portStrikesAfter : Host.Outcome State Fault Refusal → Option Nat
  | .next t => some (t.strikesOf 6 3)
  | _ => none

/-- The NAK gives the retired port no strike. -/
theorem portStrikesAfter_retiredReplay : portStrikesAfter (exec (.nakBlock 3 1 7) retiredReplay) = some 0 := by decide +kernel

/-- Refutes O35: a frame sent more often than LIMIT allows gives its port a strike, but not a port that is retired. -/
theorem not_creditAckAndReplay : ¬ Obligations.CreditAckAndReplay := by
  intro hreplay
  have hawake : Awake retiredReplay := ⟨by decide, by decide⟩
  obtain ⟨-, -, -, -, -, hoften, -⟩ := hreplay retiredReplay retiredReplay 3 1 0 twiceSent twiceSent hawake (by decide) (by decide)
  obtain ⟨t, ht, -, -, -, -, hstrike, -⟩ := hoften rfl rfl rfl (by decide) (by decide) (by decide)
  have hnone : some (t.strikesOf 6 3) = some 0 := (congrArg portStrikesAfter ht).symm.trans portStrikesAfter_retiredReplay
  change some (sget 0 t.fault.strikes (6 * 2 ^ 20 + 3)) = some 0 at hnone
  rw [hstrike] at hnone
  exact absurd hnone (by decide)

end Sys2Proof.Machine
end

section
/-! TRAIN sets and a port's type: what sending a set puts out, and what the type is read from (R284, R314, R315). -/

namespace Sys2Proof.Machine

/-- Where each step of a fold puts `n` things out and does nothing else, so does the fold, `n` for each element. -/
theorem foldl_emits {α : Type} {f : State → α → State} {n : Nat} (h : ∀ s x, ∃ os, f s x = s.emits os ∧ os.length = n) (l : List α)
    (s : State) : ∃ os, l.foldl f s = s.emits os ∧ os.length = n * l.length := by
  induction l generalizing s with
  | nil => exact ⟨[], by simp [State.emits], rfl⟩
  | cons x l ih =>
    obtain ⟨first, hfirst, hn⟩ := h s x
    obtain ⟨rest, hrest, hl⟩ := ih (s.emits first)
    refine ⟨first ++ rest, ?_, ?_⟩
    · rw [List.foldl_cons, hfirst, hrest]
      simp [State.emits]
    · rw [List.length_append, hn, hl, List.length_cons]
      ring

/-- From NEGOTIATE on, a TRAIN set is four blocks on every lane of the port. -/
theorem State.sendTrain_emits {s : State} {p : Nat} (h : 2 ≤ s.portState p) (step : Nat) :
    ∃ os, s.sendTrain p step = s.emits os ∧ os.length = 4 * (s.port p).lanes.length := by
  have hset : ∀ (u : State) (k : Nat), ∃ os,
      (u.trainBlocks p step k).foldl (fun s c => s.block p 0xCC c) u = u.emits os ∧ os.length = 4 := fun u k =>
    foldl_emits (n := 1) (fun s c => ⟨[.block p 0xCC c], rfl, rfl⟩) (u.trainBlocks p step k) u
  obtain ⟨os, hos, hlen⟩ := foldl_emits hset (List.range (s.port p).lanes.length) s
  refine ⟨os, ?_, by rw [hlen, List.length_range]⟩
  rw [← hos, State.sendTrain, if_neg (by omega)]

/-- The die but for registers and ports. -/
def State.LinkOnly (s t : State) : Prop := ∃ regs ports, t = { s with regs := regs, ports := ports }

namespace State.LinkOnly

variable {s t : State}

theorem refl (s : State) : s.LinkOnly s := ⟨_, _, rfl⟩
theorem wr (h : s.LinkOnly t) (a v : Nat) : s.LinkOnly (t.wr a v) := by
  obtain ⟨r, q, rfl⟩ := h
  exact ⟨_, _, rfl⟩
theorem put (h : s.LinkOnly t) (f : Fld) (v : Nat) : s.LinkOnly (t.put f v) := h.wr _ _
theorem setPort (h : s.LinkOnly t) (p : Nat) (v : PortSt) : s.LinkOnly (t.setPort p v) := by
  obtain ⟨r, q, rfl⟩ := h
  exact ⟨_, _, rfl⟩
theorem setLanes (h : s.LinkOnly t) (p : Nat) (ls : List Nat) : s.LinkOnly (t.setLanes p ls) := by
  obtain ⟨r, q, rfl⟩ := h
  rw [State.setLanes_frame]
  exact ⟨_, _, rfl⟩

theorem still (h : s.LinkOnly t) : t.still = s.still := by
  obtain ⟨r, q, rfl⟩ := h
  rfl
theorem out (h : s.LinkOnly t) : t.out = s.out := by
  obtain ⟨r, q, rfl⟩ := h
  rfl
theorem frame (h : s.LinkOnly t) : t = { s with regs := t.regs, ports := t.ports } := by
  obtain ⟨r, q, rfl⟩ := h
  rfl
/-- What is put out comes on top. -/
theorem emits_frame (h : s.LinkOnly t) (os : List Out) :
    t.emits os = { s with regs := (t.emits os).regs, ports := (t.emits os).ports, out := (t.emits os).out } := by
  obtain ⟨r, q, rfl⟩ := h
  rfl

/-- A command of an awake die that ends in such a change. -/
theorem outcome (h : s.LinkOnly t) (ha : Awake s) : finish s t = .next t :=
  finish_eq ha (State.sys_of_still h.still) (State.pending_of_still h.still)
theorem outcome_emits (h : s.LinkOnly t) (ha : Awake s) (os : List Out) : finish s (t.emits os) = .next (t.emits os) :=
  finish_eq ha (State.sys_of_still h.still) (State.pending_of_still h.still)

end State.LinkOnly

/-- What a port is follows from the role, CLASP_CTRL and its PORT_CFG (R284). -/
theorem State.portKind_congr {s t : State} {p : Nat} (hsys : t.sys = s.sys) (hc : t.rd Reg.CLASP_CTRL = s.rd Reg.CLASP_CTRL)
    (hp : t.rd (Reg.PORT_CFG p) = s.rd (Reg.PORT_CFG p)) : t.portKind p = s.portKind p := by
  simp only [State.portKind, State.isRoot, State.on, State.get, hsys, hc, hp]
  rfl

end Sys2Proof.Machine
end

section
/-! BASE to NEGOTIATE, and the end of SWITCH (R314). -/

namespace Sys2Proof.Machine

variable {s : State} {p l : Nat}

/-- The port with its first four locked lanes, in NEGOTIATE. -/
def State.bonded (s : State) (p : Nat) (ls : List Nat) : State :=
  ((s.setPort p { s.port p with lanes := [] }).setLanes p ls).put (F.PORT_STATUS_STATE p) 2

theorem State.bonded_linkOnly (s : State) (p : Nat) (ls : List Nat) : s.LinkOnly (s.bonded p ls) :=
  (((State.LinkOnly.refl s).setPort p _).setLanes p ls).put _ 2
theorem State.bonded_regsBut (s : State) (p : Nat) (ls : List Nat) : regsBut [Reg.PORT_STATUS p] s (s.bonded p ls) := fun a ha => by
  have hne : a ≠ Reg.PORT_STATUS p := by simpa using ha
  rw [State.bonded, State.rd_put_other _ _ _ _ hne, State.rd_setLanes _ _ _ hne, State.rd_setPort]
theorem State.bonded_state (s : State) (p : Nat) (ls : List Nat) : (s.bonded p ls).portState p = 2 :=
  State.get_put_same _ _ 2 (by simp)
theorem State.bonded_lanes (s : State) (p : Nat) (ls : List Nat) : ((s.bonded p ls).port p).lanes = ls := by
  simp [State.bonded, State.port_setLanes]
theorem State.bonded_fields (s : State) (p l : Nat) (ls : List Nat) :
    (s.bonded p (l :: ls)).get (F.PORT_STATUS_WIDTH p) = ls.length % 4 ∧ (s.bonded p (l :: ls)).get (F.PORT_STATUS_TLANE p) = l % 16 := by
  obtain ⟨hwidth, htlane⟩ := State.setLanes_cons_fields (s.setPort p { s.port p with lanes := [] }) p l ls
  exact ⟨(State.get_put_apart _ _ _ _ (by simp) (by simp)).trans hwidth, (State.get_put_apart _ _ _ _ (by simp) (by simp)).trans htlane⟩

/-- With locked lanes a port in BASE bonds the first four, and sends its TRAIN set on them. -/
theorem portBaseDone_bonds {ls : List Nat} (h1 : s.portState p = 1)
    (hls : (s.lanesFor p).filter (fun k => s.on (F.LANE_STATUS_LOCK k)) = l :: ls) :
    portBaseDone p s = (s.bonded p (l :: ls.take 3)).sendTrain p 0 := by
  simp only [portBaseDone, hls, h1, State.bonded]
  simp

theorem exec_portBaseDone (ha : Awake s) {ls : List Nat} (hl : l < 16) (h1 : s.portState p = 1)
    (hls : (s.lanesFor p).filter (fun k => s.on (F.LANE_STATUS_LOCK k)) = l :: ls) : ∃ t, exec (.portBaseDone p) s = .next t ∧
      t.portState p = 2 ∧ (t.port p).lanes = l :: ls.take 3 ∧ t.get (F.PORT_STATUS_WIDTH p) = (ls.take 3).length ∧
      t.get (F.PORT_STATUS_TLANE p) = l ∧ t.out.length = s.out.length + 4 * ((ls.take 3).length + 1) ∧ regsBut [Reg.PORT_STATUS p] s t ∧
      t = { s with regs := t.regs, ports := t.ports, out := t.out } := by
  obtain ⟨u, hu⟩ : ∃ u, u = s.bonded p (l :: ls.take 3) := ⟨_, rfl⟩
  have hstate : u.portState p = 2 := hu ▸ s.bonded_state p _
  have hlanes : (u.port p).lanes = l :: ls.take 3 := hu ▸ s.bonded_lanes p _
  have hlink : s.LinkOnly u := hu ▸ s.bonded_linkOnly p _
  obtain ⟨hwidth, htlane⟩ := s.bonded_fields p l (ls.take 3)
  rw [← hu] at hwidth htlane
  obtain ⟨os, hsent, hlen⟩ := State.sendTrain_emits (s := u) (p := p) (by omega) 0
  have hdone : portBaseDone p s = u.emits os := by rw [portBaseDone_bonds h1 hls, ← hu, hsent]
  refine ⟨u.emits os, (congrArg (finish s) hdone).trans (hlink.outcome_emits ha os), ?_, ?_, ?_, ?_, ?_, ?_, hlink.emits_frame os⟩
  · exact (State.get_emits _ _ _).trans hstate
  · rw [State.port_emits, hlanes]
  · rw [State.get_emits, hwidth, Nat.mod_eq_of_lt (by rw [List.length_take]; omega)]
  · rw [State.get_emits, htlane, Nat.mod_eq_of_lt hl]
  · show (u.out ++ os).length = _
    rw [List.length_append, hlink.out, hlen, hlanes, List.length_cons]
  · exact fun a h => (State.rd_emits _ _ _).trans ((hu ▸ s.bonded_regsBut p _) a h)

/-- In another state the base time says nothing. -/
theorem exec_portBaseDone_idle (ha : Awake s) (h1 : s.portState p ≠ 1) : exec (.portBaseDone p) s = .next s := by
  have hs : portBaseDone p s = s := by simp [portBaseDone, h1]
  exact (congrArg (finish s) hs).trans (finish_eq ha rfl rfl)

/-- After SWITCH a port is in DESKEW, and its lane adapts anew. -/
theorem exec_switchDone (ha : Awake s) (h3 : s.portState p = 3) (hl : (s.port p).lanes = [l]) :
    ∃ t, exec (.switchDone p) s = .next t ∧ t.portState p = 4 ∧ t.get (F.LANE_STATUS_ADAPT l) = 0 ∧
      regsBut [Reg.PORT_STATUS p, Reg.LANE_STATUS l] s t ∧ t = { s with regs := t.regs } := by
  have hs : switchDone p s = (s.put (F.PORT_STATUS_STATE p) 4).put (F.LANE_STATUS_ADAPT l) 0 := by simp [switchDone, h3, hl]
  have hne : Reg.PORT_STATUS p ≠ Reg.LANE_STATUS l := by simp only [Reg.PORT_STATUS, Reg.LANE_STATUS]; omega
  refine ⟨_, (congrArg (finish s) hs).trans (finish_eq ha rfl rfl), ?_, ?_, fun a h => ?_, rfl⟩
  · exact (State.get_put_other _ _ _ _ hne).trans (State.get_put_same _ _ 4 (by simp))
  · exact State.get_put_same _ _ 0 (by simp)
  · simp only [List.mem_cons, List.not_mem_nil, or_false, not_or] at h
    rw [State.rd_put_other _ _ _ _ h.2, State.rd_put_other _ _ _ _ h.1]

theorem exec_switchDone_idle (ha : Awake s) (h3 : s.portState p ≠ 3) : exec (.switchDone p) s = .next s := by
  have hs : switchDone p s = s := by simp [switchDone, h3]
  exact (congrArg (finish s) hs).trans (finish_eq ha rfl rfl)

end Sys2Proof.Machine
end

section
/-! NEGOTIATE (R315–R318): TRAIN sets as they arrive, and what the third unchanged one settles. -/

namespace Sys2Proof.Machine

variable {s : State} {p : Nat} {ts : TrainSet}

/-- The port has the partner's set, the same as before or a new one, and is READY. -/
def State.trainTaken (s : State) (p : Nat) (ts : TrainSet) (same : Nat) : State :=
  s.setPort p { s.port p with set := some ts, same := same, ready := true }

theorem State.trainTaken_linkOnly (s : State) (p : Nat) (ts : TrainSet) (same : Nat) : s.LinkOnly (s.trainTaken p ts same) :=
  (State.LinkOnly.refl s).setPort p _

/-- A new set is the first of its kind; a port that is not READY yet becomes READY and sends its own. -/
theorem trainSetReceived_new (h2 : s.portState p = 2) (hset : (s.port p).set ≠ some ts) : trainSetReceived p ts s =
    if (s.port p).ready then s.trainTaken p ts 1 else (s.trainTaken p ts 1).sendTrain p 0 := by
  simp [trainSetReceived, h2, hset, State.trainTaken]

/-- A repeated set counts; the third one with READY settles the link. -/
theorem trainSetReceived_same (h2 : s.portState p = 2) (hset : (s.port p).set = some ts) (hready : (s.port p).ready = true) :
    trainSetReceived p ts s = if (s.port p).same = 2 ∧ ts.ready = true then (s.trainTaken p ts ((s.port p).same + 1)).negotiate p ts
      else s.trainTaken p ts ((s.port p).same + 1) := by
  have hthird : (3 ≤ (s.port p).same + 1 ∧ ts.ready = true ∧ (s.port p).same + 1 = 3) ↔ (s.port p).same = 2 ∧ ts.ready = true := by
    constructor
    · rintro ⟨-, hr, hsame⟩
      exact ⟨by omega, hr⟩
    · rintro ⟨hsame, hr⟩
      exact ⟨by omega, hr, by omega⟩
  simp only [trainSetReceived, h2, hset, hready, State.trainTaken, hthird, if_true, ne_eq, not_true_eq_false, if_false]

theorem exec_trainSetReceived_new (ha : Awake s) (h2 : s.portState p = 2) (hset : (s.port p).set ≠ some ts) :
    ((s.port p).ready = true → exec (.trainSetReceived p ts) s = .next (s.setPort p { s.port p with set := some ts, same := 1 })) ∧
    ((s.port p).ready = false → ∃ t, exec (.trainSetReceived p ts) s = .next t ∧
      t.out.length = s.out.length + 4 * (s.port p).lanes.length ∧ (t.port p).set = some ts ∧ (t.port p).same = 1 ∧ (t.port p).ready = true ∧
      (∀ q, q ≠ p → t.port q = s.port q) ∧ t = { s with ports := t.ports, out := t.out }) := by
  constructor
  · intro hready
    have hs : trainSetReceived p ts s = s.setPort p { s.port p with set := some ts, same := 1 } := by
      rw [trainSetReceived_new h2 hset, if_pos hready, State.trainTaken, ← hready]
    exact (congrArg (finish s) hs).trans (finish_eq ha rfl rfl)
  · intro hready
    obtain ⟨os, hsent, hlen⟩ := State.sendTrain_emits (s := s.trainTaken p ts 1) (p := p) (h2.symm ▸ Nat.le_refl 2 : 2 ≤ s.portState p) 0
    have hs : trainSetReceived p ts s = (s.trainTaken p ts 1).emits os := by
      rw [trainSetReceived_new h2 hset, hready, ← hsent]
      rfl
    have hport : ∀ q, ((s.trainTaken p ts 1).emits os).port q =
        if q = p then { s.port p with set := some ts, same := 1, ready := true } else s.port q := fun q => by simp [State.trainTaken]
    refine ⟨_, (congrArg (finish s) hs).trans (finish_eq ha rfl rfl), ?_, ?_, ?_, ?_, fun q hq => ?_, rfl⟩
    · show (s.out ++ os).length = _
      rw [List.length_append, hlen]
      simp [State.trainTaken]
    · rw [hport, if_pos rfl]
    · rw [hport, if_pos rfl]
    · rw [hport, if_pos rfl]
    · rw [hport, if_neg hq]

theorem exec_trainSetReceived_again (ha : Awake s) (h2 : s.portState p = 2) (hset : (s.port p).set = some ts)
    (hready : (s.port p).ready = true) (hn : (s.port p).same ≠ 2 ∨ ts.ready = false) :
    exec (.trainSetReceived p ts) s = .next (s.setPort p { s.port p with same := (s.port p).same + 1 }) := by
  have hthird : ¬((s.port p).same = 2 ∧ ts.ready = true) := by
    rintro ⟨hsame, hr⟩
    rcases hn with hn | hn
    · exact hn hsame
    · exact absurd (hr.symm.trans hn) (by decide)
  have hs : trainSetReceived p ts s = s.setPort p { s.port p with same := (s.port p).same + 1 } := by
    rw [trainSetReceived_same h2 hset hready, if_neg hthird, State.trainTaken, ← hset, ← hready]
  exact (congrArg (finish s) hs).trans (finish_eq ha rfl rfl)

theorem exec_trainSetReceived_idle (ha : Awake s) (h2 : s.portState p ≠ 2) : exec (.trainSetReceived p ts) s = .next s := by
  have hs : trainSetReceived p ts s = s := by simp [trainSetReceived, h2]
  exact (congrArg (finish s) hs).trans (finish_eq ha rfl rfl)

/-! What is settled. -/

/-- The partner's BENCH, role and die number as PORT_PARTNER shows them. -/
def State.partnered (s : State) (p : Nat) (ts : TrainSet) : State :=
  ((s.flagIf (F.PORT_PARTNER_BENCH p) ts.bench).put (F.PORT_PARTNER_ROLE p) ts.role).put (F.PORT_PARTNER_DIE p) ts.die

/-- The features of a link at version 3. -/
def State.feat3 (s : State) (p : Nat) (ts : TrainSet) : Nat := featFor 3 ((s.rd64 (Reg.PORT_FEAT_OFFER p) % 512) &&& ts.feat)

/-- A link settled at version 3: its features, and on the port the partner's VC2 units and the operating rate. -/
def State.agreed (s : State) (p : Nat) (ts : TrainSet) : State :=
  (((s.partnered p ts).wr64 (Reg.PORT_FEAT p) (s.feat3 p ts)).put (F.PORT_STATUS_VERSION p) 3).setPort p
    { (s.partnered p ts).port p with
      peerVc2 := ts.vc2, rate := if s.get (F.PORT_RATE_N p) = 0 then (2, 1) else (s.get (F.PORT_RATE_N p), atLeast1 (s.get (F.PORT_RATE_D p))) }

/-- A drift port without authentication settles at version 3 where both sides have it: in DESKEW where N = 0, in SWITCH with STEP 1 sent,
or with RATE_FAULT where the rate is refused (R316–R318). -/
theorem State.negotiate_drift (hk : s.portKind p = 3) (hm : s.get F.HALL_AUTH_MODE = 0) (hau : ts.auth = 0) (hv : 3 ≤ ts.version)
    (hmax : 3 ≤ s.get (F.PORT_VER_MAX p)) : s.negotiate p ts =
      if s.get (F.PORT_RATE_N p) ≠ 0 ∧ s.rateRefused (s.get (F.PORT_RATE_N p)) (s.get (F.PORT_RATE_D p)) ts.maxRate = true then
        ((s.partnered p ts).flag (F.PORT_STATUS_RATE_FAULT p)).warn (F.PORT_STATUS_RATE_FAULT p)
      else if s.get (F.PORT_RATE_N p) = 0 then (s.agreed p ts).put (F.PORT_STATUS_STATE p) 4
      else ((s.agreed p ts).put (F.PORT_STATUS_STATE p) 3).sendTrain p 1 := by
  have hdrift : s.driftSide p = true := by simp [State.driftSide, hk]
  have hversion : min (max 1 (min 3 (s.get (F.PORT_VER_MAX p)))) (min 3 ts.version) = 3 := by omega
  have hkeyed : ¬((0 ≠ 0 ∨ 0 ≠ 0) ∧ featFor 3 ((s.rd64 (Reg.PORT_FEAT_OFFER p) % 512) &&& ts.feat) % 2 = 0) := by simp
  simp only [State.negotiate, hk, hm, hau, hdrift, hversion, hkeyed, State.agreed, State.feat3, State.partnered, if_true]
  simp

end Sys2Proof.Machine
end

section
/-! What NEGOTIATE settles as the die shows it (R316–R318). -/

namespace Sys2Proof.Machine

/-- Distinct bits add up to no more than all of them. -/
theorem foldl_bits_le (c : Nat → Prop) [DecidablePred c] (ks : List Nat) (m : Nat) :
    ks.foldl (fun m k => if c k then m + 2 ^ k else m) m ≤ m + (ks.map (2 ^ ·)).sum := by
  induction ks generalizing m with
  | nil => exact Nat.le_refl m
  | cons k ks ih =>
    have hk := ih (if c k then m + 2 ^ k else m)
    have hm : (if c k then m + 2 ^ k else m) ≤ m + 2 ^ k := by
      split
      · exact Nat.le_refl _
      · exact Nat.le_add_right _ _
    rw [List.foldl_cons, List.map_cons, List.sum_cons]
    omega

/-- A link's features are nine bits. -/
theorem featFor_lt (version feat : Nat) : featFor version feat < 2 ^ 64 :=
  Nat.lt_of_le_of_lt (foldl_bits_le (fun k => bitsOf feat k 1 = 1 ∧ featVersion k ≤ version) (List.range 9) 0) (by decide)

variable {s : State} {p : Nat} {ts : TrainSet}

theorem State.partnered_regsBut (s : State) (p : Nat) (ts : TrainSet) : regsBut [Reg.PORT_PARTNER p] s (s.partnered p ts) := fun a ha => by
  have hne : a ≠ Reg.PORT_PARTNER p := by simpa using ha
  rw [State.partnered, State.rd_put_other _ _ _ _ hne, State.rd_put_other _ _ _ _ hne, State.flagIf_eq, State.rd_put_other _ _ _ _ hne]
theorem State.partnered_role (s : State) (p : Nat) (ts : TrainSet) : (s.partnered p ts).get (F.PORT_PARTNER_ROLE p) = ts.role % 2 ^ 2 := by
  rw [State.partnered, State.get_put_apart _ _ _ _ (by simp) (by simp), State.get_put_same _ _ _ (by simp)]
theorem State.partnered_ports (s : State) (p : Nat) (ts : TrainSet) : (s.partnered p ts).ports = s.ports := by simp [State.partnered]
theorem State.LinkOnly.partnered {s t : State} (h : s.LinkOnly t) (p : Nat) (ts : TrainSet) : s.LinkOnly (t.partnered p ts) :=
  ((h.put _ _).put _ _).put _ _

theorem State.LinkOnly.agreed {s t : State} (h : s.LinkOnly t) (p : Nat) (ts : TrainSet) : s.LinkOnly (t.agreed p ts) :=
  ((((h.partnered p ts).wr _ _).wr _ _).put _ _).setPort p _
theorem State.agreed_port (s : State) (p : Nat) (ts : TrainSet) (q : Nat) : (s.agreed p ts).port q =
    if q = p then { s.port p with
      peerVc2 := ts.vc2, rate := if s.get (F.PORT_RATE_N p) = 0 then (2, 1) else (s.get (F.PORT_RATE_N p), atLeast1 (s.get (F.PORT_RATE_D p))) }
    else s.port q := by
  have hport : ∀ q, (((s.partnered p ts).wr64 (Reg.PORT_FEAT p) (s.feat3 p ts)).put (F.PORT_STATUS_VERSION p) 3).port q = s.port q :=
    State.port_congr (by simp [State.wr64, State.partnered_ports])
  rw [State.agreed, State.port_setPort, hport, State.port_congr (s.partnered_ports p ts)]

/-- The link as settled, in port state `x`. -/
theorem State.agreed_fields (s : State) (p : Nat) (ts : TrainSet) {x : Nat} (hx : x < 8) :
    ((s.agreed p ts).put (F.PORT_STATUS_STATE p) x).portState p = x ∧ ((s.agreed p ts).put (F.PORT_STATUS_STATE p) x).portVersion p = 3 ∧
    ((s.agreed p ts).put (F.PORT_STATUS_STATE p) x).rd64 (Reg.PORT_FEAT p) = s.feat3 p ts ∧
    ((s.agreed p ts).put (F.PORT_STATUS_STATE p) x).get (F.PORT_PARTNER_ROLE p) = ts.role % 2 ^ 2 ∧
    regsBut [Reg.PORT_STATUS p, Reg.PORT_FEAT p, Reg.PORT_FEAT p + 4, Reg.PORT_PARTNER p] s ((s.agreed p ts).put (F.PORT_STATUS_STATE p) x) := by
  obtain ⟨b, hb⟩ : ∃ b, b = (s.partnered p ts).wr64 (Reg.PORT_FEAT p) (s.feat3 p ts) := ⟨_, rfl⟩
  have hbelow : ∀ a, a ≠ Reg.PORT_STATUS p → ((s.agreed p ts).put (F.PORT_STATUS_STATE p) x).rd a = b.rd a := fun a ha => by
    rw [State.rd_put_other _ _ _ _ ha, State.agreed, State.rd_setPort, State.rd_put_other _ _ _ _ ha, hb]
  have hfeat : Reg.PORT_FEAT p ≠ Reg.PORT_STATUS p ∧ Reg.PORT_FEAT p + 4 ≠ Reg.PORT_STATUS p := by
    simp only [Reg.PORT_FEAT, Reg.PORT_STATUS]; omega
  have hpartner : Reg.PORT_PARTNER p ≠ Reg.PORT_STATUS p ∧ Reg.PORT_PARTNER p ≠ Reg.PORT_FEAT p ∧
      Reg.PORT_PARTNER p ≠ Reg.PORT_FEAT p + 4 := by simp only [Reg.PORT_FEAT, Reg.PORT_STATUS, Reg.PORT_PARTNER]; omega
  refine ⟨?_, ?_, ?_, ?_, fun a ha => ?_⟩
  · exact (State.get_put_same _ _ x (by simp)).trans (Nat.mod_eq_of_lt hx)
  · exact (State.get_put_apart _ _ _ _ (by simp) (by simp)).trans ((State.get_setPort _ _ _ _).trans (State.get_put_same _ _ 3 (by simp)))
  · rw [State.rd64_congr (hbelow _ hfeat.1) (hbelow _ hfeat.2), hb]
    exact State.rd64_wr64_same _ _ (featFor_lt 3 _)
  · rw [← s.partnered_role p ts, State.get, State.get, hbelow _ hpartner.1, hb, State.rd_wr64_other _ _ hpartner.2.1 hpartner.2.2]
  · simp only [List.mem_cons, List.not_mem_nil, or_false, not_or] at ha
    obtain ⟨hstatus, hlow, hhigh, hpart⟩ := ha
    rw [hbelow a hstatus, hb, State.rd_wr64_other _ _ hlow hhigh]
    exact s.partnered_regsBut p ts a (by simpa using hpart)

/-- The third unchanged set of a drift port, READY on both sides, with version 3 at both and no authentication wanted. -/
structure Settles (s : State) (p : Nat) (ts : TrainSet) : Prop where
  state : s.portState p = 2
  set : (s.port p).set = some ts
  same : (s.port p).same = 2
  ready : (s.port p).ready = true
  theirs : ts.ready = true
  kind : s.portKind p = 3
  mode : s.get F.HALL_AUTH_MODE = 0
  auth : ts.auth = 0
  version : 3 ≤ ts.version
  max : 3 ≤ s.get (F.PORT_VER_MAX p)

/-- Such a set is recorded, and then it is settled what the link runs with. -/
theorem Settles.received (h : Settles s p ts) : trainSetReceived p ts s = (s.trainTaken p ts 3).negotiate p ts := by
  rw [trainSetReceived_same h.state h.set h.ready, if_pos ⟨h.same, h.theirs⟩, h.same]

theorem Settles.negotiates (h : Settles s p ts) : (s.trainTaken p ts 3).negotiate p ts =
    if s.get (F.PORT_RATE_N p) ≠ 0 ∧ s.rateRefused (s.get (F.PORT_RATE_N p)) (s.get (F.PORT_RATE_D p)) ts.maxRate = true then
      (((s.trainTaken p ts 3).partnered p ts).flag (F.PORT_STATUS_RATE_FAULT p)).warn (F.PORT_STATUS_RATE_FAULT p)
    else if s.get (F.PORT_RATE_N p) = 0 then ((s.trainTaken p ts 3).agreed p ts).put (F.PORT_STATUS_STATE p) 4
    else (((s.trainTaken p ts 3).agreed p ts).put (F.PORT_STATUS_STATE p) 3).sendTrain p 1 :=
  State.negotiate_drift (s := s.trainTaken p ts 3) h.kind h.mode h.auth h.version h.max

/-- With N = 0 the link goes to DESKEW at its base rate. -/
theorem Settles.deskew (ha : Awake s) (h : Settles s p ts) (hn : s.get (F.PORT_RATE_N p) = 0) :
    ∃ t, exec (.trainSetReceived p ts) s = .next t ∧ t.portState p = 4 ∧ t.portVersion p = 3 ∧
      t.rd64 (Reg.PORT_FEAT p) = featFor 3 ((s.rd64 (Reg.PORT_FEAT_OFFER p) % 512) &&& ts.feat) ∧ (t.port p).peerVc2 = ts.vc2 ∧
      t.get (F.PORT_PARTNER_ROLE p) = ts.role % 2 ^ (F.PORT_PARTNER_ROLE p).w ∧ (∀ q, q ≠ p → t.port q = s.port q) ∧
      regsBut [Reg.PORT_STATUS p, Reg.PORT_FEAT p, Reg.PORT_FEAT p + 4, (F.PORT_PARTNER_ROLE p).reg] s t ∧
      t = { s with regs := t.regs, ports := t.ports } := by
  have hs : trainSetReceived p ts s = ((s.trainTaken p ts 3).agreed p ts).put (F.PORT_STATUS_STATE p) 4 := by
    rw [h.received, h.negotiates, if_neg fun hr => hr.1 hn, if_pos hn]
  obtain ⟨hstate, hversion, hfeat, hrole, hregs⟩ := (s.trainTaken p ts 3).agreed_fields p ts (x := 4) (by decide)
  have hlink := ((s.trainTaken_linkOnly p ts 3).agreed p ts).put (F.PORT_STATUS_STATE p) 4
  refine ⟨_, (congrArg (finish s) hs).trans (hlink.outcome ha), hstate, hversion, hfeat, ?_, hrole, fun q hq => ?_, hregs, hlink.frame⟩
  · rw [State.port_put, State.agreed_port, if_pos rfl]
  · rw [State.port_put, State.agreed_port, if_neg hq, State.trainTaken, State.port_setPort, if_neg hq]

/-- With an operating rate that is not refused the link goes to SWITCH, and STEP 1 is sent on every lane. -/
theorem Settles.switch (ha : Awake s) (h : Settles s p ts) (hn : s.get (F.PORT_RATE_N p) ≠ 0)
    (hr : s.rateRefused (s.get (F.PORT_RATE_N p)) (s.get (F.PORT_RATE_D p)) ts.maxRate = false) :
    ∃ t, exec (.trainSetReceived p ts) s = .next t ∧ t.portState p = 3 ∧ t.portVersion p = 3 ∧ (t.port p).peerVc2 = ts.vc2 ∧
      t.out.length = s.out.length + 4 * (s.port p).lanes.length ∧ t.sys = s.sys ∧ t.time = s.time := by
  obtain ⟨hstate, hversion, -, -, -⟩ := (s.trainTaken p ts 3).agreed_fields p ts (x := 3) (by decide)
  obtain ⟨u, hu⟩ : ∃ u, u = ((s.trainTaken p ts 3).agreed p ts).put (F.PORT_STATUS_STATE p) 3 := ⟨_, rfl⟩
  rw [← hu] at hstate hversion
  have hport : (u.port p).lanes = (s.port p).lanes ∧ (u.port p).peerVc2 = ts.vc2 := by
    rw [hu, State.port_put, State.agreed_port, if_pos rfl, State.trainTaken, State.port_setPort, if_pos rfl]
    exact ⟨rfl, rfl⟩
  obtain ⟨os, hsent, hlen⟩ := State.sendTrain_emits (s := u) (p := p) (by omega) 1
  have hs : trainSetReceived p ts s = u.emits os := by
    rw [h.received, h.negotiates, if_neg fun hc => absurd (hr.symm.trans hc.2) (by decide), if_neg hn, ← hu, hsent]
  have hlink : s.LinkOnly u := hu ▸ ((s.trainTaken_linkOnly p ts 3).agreed p ts).put _ _
  refine ⟨_, (congrArg (finish s) hs).trans (hlink.outcome_emits ha os), ?_, ?_, ?_, ?_, State.sys_of_still hlink.still,
    State.time_of_still hlink.still⟩
  · exact (State.get_emits _ _ _).trans hstate
  · exact (State.get_emits _ _ _).trans hversion
  · rw [State.port_emits, hport.2]
  · show (u.out ++ os).length = _
    rw [List.length_append, hlink.out, hlen, hport.1]

/-- A refused rate is flagged and warned of, and the port stays in NEGOTIATE. -/
theorem Settles.refused (ha : Awake s) (hp : p < 16) (h : Settles s p ts) (hn : s.get (F.PORT_RATE_N p) ≠ 0)
    (hr : s.rateRefused (s.get (F.PORT_RATE_N p)) (s.get (F.PORT_RATE_D p)) ts.maxRate = true) :
    ∃ t, exec (.trainSetReceived p ts) s = .next t ∧ t.portState p = 2 ∧ t.on (F.PORT_STATUS_RATE_FAULT p) = true ∧
      t.portVersion p = s.portVersion p ∧ t.sys = s.sys ∧ t.time = s.time := by
  obtain ⟨u, hu⟩ : ∃ u, u = ((s.trainTaken p ts 3).partnered p ts).put (F.PORT_STATUS_RATE_FAULT p) 1 := ⟨_, rfl⟩
  have hs : trainSetReceived p ts s = u.warn (F.PORT_STATUS_RATE_FAULT p) := by
    rw [h.received, h.negotiates, if_pos ⟨hn, hr⟩, State.flag_eq, hu]
  have hlink : s.LinkOnly u := hu ▸ ((s.trainTaken_linkOnly p ts 3).partnered p ts).put _ _
  have hstill : (u.warn (F.PORT_STATUS_RATE_FAULT p)).still = s.still := (State.warn_still _ _ _).trans hlink.still
  have hwarned : (u.warn (F.PORT_STATUS_RATE_FAULT p)).rd (Reg.PORT_STATUS p) = u.rd (Reg.PORT_STATUS p) :=
    State.alert_regsBut _ _ _ _ _ _ _ _ (by
      simp only [List.mem_cons, List.not_mem_nil, or_false, Reg.PORT_STATUS, Reg.FAULT_ALERT_SEQ, Reg.FAULT_LOG_NEXT,
        Reg.FAULT_ALERT_DROP_CNT, Reg.FAULT_STATUS]
      omega)
  have hbefore : ((s.trainTaken p ts 3).partnered p ts).rd (Reg.PORT_STATUS p) = s.rd (Reg.PORT_STATUS p) :=
    State.partnered_regsBut _ p ts _ (by simp only [List.mem_singleton, Reg.PORT_STATUS, Reg.PORT_PARTNER]; omega)
  have hfield : ∀ lo w, lo + w ≤ 15 → (u.warn (F.PORT_STATUS_RATE_FAULT p)).get ⟨Reg.PORT_STATUS p, lo, w⟩ =
      s.get ⟨Reg.PORT_STATUS p, lo, w⟩ := fun lo w hlo => by
    have hkept : u.get ⟨Reg.PORT_STATUS p, lo, w⟩ = ((s.trainTaken p ts 3).partnered p ts).get ⟨Reg.PORT_STATUS p, lo, w⟩ :=
      hu ▸ State.get_put_apart _ _ _ _ (.inl hlo) (Nat.le_trans hlo (by decide))
    simp only [State.get, hwarned, hbefore] at hkept ⊢
    exact hkept
  refine ⟨_, (congrArg (finish s) hs).trans (finish_eq ha (State.sys_of_still hstill) (State.pending_of_still hstill)), ?_, ?_, ?_,
    State.sys_of_still hstill, State.time_of_still hstill⟩
  · exact (hfield 0 3 (by decide)).trans h.state
  · rw [State.on_congr hwarned, hu]
    exact (State.on_put_flag _ rfl (by simp)).1
  · exact hfield 4 2 (by decide)

end Sys2Proof.Machine
end

section
/-! DESKEW to UP or AUTH (R314, R401). -/

namespace Sys2Proof.Machine

variable {s : State} {p : Nat}

theorem exec_deskewDone_idle (ha : Awake s) (h4 : s.portState p ≠ 4) : exec (.deskewDone p) s = .next s := by
  have hs : deskewDone p s = s := by simp [deskewDone, h4]
  exact (congrArg (finish s) hs).trans (finish_eq ha rfl rfl)

/-! UP. -/

/-- The port as it comes up: its channels start afresh, and nothing is known of a child but its number. -/
def State.cameUp (s : State) (p : Nat) : State :=
  let u := ((s.put (F.PORT_STATUS_STATE p) psUp).inc (Reg.PORT_LINKUP_CNT p)).startVcs p
  u.setPort p { u.port p with kid := s.get (F.PORT_PARTNER_DIE p), asked := false, refused := false, joined := false }

theorem State.rd_cameUp (s : State) (p a : Nat) :
    (s.cameUp p).rd a = ((s.put (F.PORT_STATUS_STATE p) 6).incBy (Reg.PORT_LINKUP_CNT p) 1).rd a :=
  State.rd_congr (by simp [State.cameUp, State.startVcs]) a
theorem State.cameUp_linkOnly (s : State) (p : Nat) : s.LinkOnly (s.cameUp p) :=
  ((((State.LinkOnly.refl s).put _ _).wr _ _).setPort p _).setPort p _
theorem State.cameUp_port (s : State) (p q : Nat) : (s.cameUp p).port q = if q = p then { s.port p with
    v0 := {}, v1 := {}, v2 := { start := (s.port p).peerVc2 }, replay := [], waiting := [], stage := []
    kid := s.get (F.PORT_PARTNER_DIE p), asked := false, refused := false, joined := false } else s.port q := by
  simp only [State.cameUp, State.startVcs, State.port_setPort, State.inc_eq, State.port_incBy, State.port_put]
  split <;> rfl
theorem State.cameUp_regsBut (s : State) (p : Nat) : regsBut [Reg.PORT_STATUS p, Reg.PORT_LINKUP_CNT p] s (s.cameUp p) := fun a ha => by
  simp only [List.mem_cons, List.not_mem_nil, or_false, not_or] at ha
  rw [State.rd_cameUp, State.rd_incBy, if_neg ha.2, State.rd_put_other _ _ _ _ ha.1]
theorem State.cameUp_state (s : State) (p : Nat) : (s.cameUp p).portState p = 6 := by
  have hne : Reg.PORT_STATUS p ≠ Reg.PORT_LINKUP_CNT p := by simp only [Reg.PORT_STATUS, Reg.PORT_LINKUP_CNT]; omega
  have hget : (s.cameUp p).portState p = ((s.put (F.PORT_STATUS_STATE p) 6).incBy (Reg.PORT_LINKUP_CNT p) 1).portState p := by
    rw [State.portState, State.portState, State.get, State.get, State.rd_cameUp]
  rw [hget, State.portState, State.get_incBy _ _ _ _ hne, State.get_put_same _ _ _ (by simp)]
  rfl
theorem State.cameUp_count (s : State) (p : Nat) :
    (s.cameUp p).rd (Reg.PORT_LINKUP_CNT p) = min (s.rd (Reg.PORT_LINKUP_CNT p) + 1) 0xFFFFFFFF := by
  have hne : Reg.PORT_LINKUP_CNT p ≠ Reg.PORT_STATUS p := by simp only [Reg.PORT_STATUS, Reg.PORT_LINKUP_CNT]; omega
  rw [State.rd_cameUp, State.rd_incBy, if_pos rfl, State.rd_put_other _ _ _ _ hne]
theorem State.cameUp_kind (s : State) (p : Nat) (hp : p < 16) : (s.cameUp p).portKind p = s.portKind p := by
  refine State.portKind_congr (State.sys_of_still (s.cameUp_linkOnly p).still) (s.cameUp_regsBut p _ ?_) (s.cameUp_regsBut p _ ?_) <;>
    (simp only [List.mem_cons, List.not_mem_nil, or_false, Reg.PORT_STATUS, Reg.PORT_LINKUP_CNT, Reg.CLASP_CTRL, Reg.PORT_CFG]; omega)

/-- Without the feature of widths, NEW_CHILD is all that follows. -/
theorem State.portUp_plain (hf : s.portFeat p 7 = false) : s.portUp p true = (s.cameUp p).newChild p := by
  have hfeat : (s.cameUp p).portFeat p 7 = false := by
    have hregs := s.cameUp_regsBut p
    have hne : Reg.PORT_FEAT p ∉ [Reg.PORT_STATUS p, Reg.PORT_LINKUP_CNT p] ∧
        Reg.PORT_FEAT p + 4 ∉ [Reg.PORT_STATUS p, Reg.PORT_LINKUP_CNT p] := by
      simp only [List.mem_cons, List.not_mem_nil, or_false, Reg.PORT_FEAT, Reg.PORT_STATUS, Reg.PORT_LINKUP_CNT]; omega
    rw [State.portFeat, State.rd64_congr (hregs _ hne.1) (hregs _ hne.2)]
    exact hf
  have hwidth : portWidthSet p (s.cameUp p) = s.cameUp p := by simp [portWidthSet, hfeat]
  exact congrArg (State.newChild · p) hwidth

/-- A shaft port or a clasp link has no child to report. -/
theorem State.newChild_not_drift (hk : s.portKind p ≠ 3) : s.newChild p = s := by
  simp [State.newChild, hk]

/-- A die without a number keeps in mind at most that NEW_CHILD is to be sent. -/
theorem State.newChild_unnumbered (hn : s.on F.TREE_ID_NUMBERED = false) (hb : s.on (F.PORT_PARTNER_BENCH p) = false) :
    s.newChild p = s ∨ s.newChild p = s.setPort p { s.port p with asked := true } := by
  unfold State.newChild
  extract_lets q ptype s1
  split
  · exact .inl rfl
  · exact .inr (by simp [hn, hb, s1, q])

theorem deskewDone_up (h4 : s.portState p = 4) (hw : s.authWanted p = false) (hf : s.portFeat p 7 = false) :
    deskewDone p s = (s.cameUp p).newChild p := by
  rw [deskewDone, if_pos h4, if_neg (by simp [hw]), State.portUp_plain hf]

/-- A port that names no child comes up with its channels afresh. -/
theorem exec_deskewDone_up (ha : Awake s) (hp : p < 16) (h4 : s.portState p = 4) (hw : s.authWanted p = false) (hk : s.portKind p ≠ 3)
    (hf : s.portFeat p 7 = false) : exec (.deskewDone p) s = .next (s.cameUp p) := by
  have hs : deskewDone p s = s.cameUp p := by
    rw [deskewDone_up h4 hw hf]
    exact State.newChild_not_drift fun h => hk ((s.cameUp_kind p hp).symm.trans h)
  exact (congrArg (finish s) hs).trans ((s.cameUp_linkOnly p).outcome ha)

/-- A drift port of a die without a number comes up, and its child is asked for later. -/
theorem exec_deskewDone_drift (ha : Awake s) (h4 : s.portState p = 4) (hw : s.authWanted p = false)
    (hn : s.on F.TREE_ID_NUMBERED = false) (hf : s.portFeat p 7 = false) (hb : s.on (F.PORT_PARTNER_BENCH p) = false) :
    ∃ t, exec (.deskewDone p) s = .next t ∧ t.portState p = 6 ∧
      t.rd (Reg.PORT_LINKUP_CNT p) = min (s.rd (Reg.PORT_LINKUP_CNT p) + 1) 0xFFFFFFFF ∧ (t.port p).v2.start = (s.port p).peerVc2 ∧
      (t.port p).kid = s.get (F.PORT_PARTNER_DIE p) ∧ regsBut [Reg.PORT_STATUS p, Reg.PORT_LINKUP_CNT p] s t ∧
      t = { s with regs := t.regs, ports := t.ports } := by
  have hregs := s.cameUp_regsBut p
  have hnumbered : (s.cameUp p).on F.TREE_ID_NUMBERED = false := (State.on_congr (hregs _ (by
    simp only [List.mem_cons, List.not_mem_nil, or_false, Reg.PORT_STATUS, Reg.PORT_LINKUP_CNT, Reg.TREE_ID]; omega))).trans hn
  have hbench : (s.cameUp p).on (F.PORT_PARTNER_BENCH p) = false := (State.on_congr (hregs _ (by
    simp only [List.mem_cons, List.not_mem_nil, or_false, Reg.PORT_STATUS, Reg.PORT_LINKUP_CNT, Reg.PORT_PARTNER]; omega))).trans hb
  rcases State.newChild_unnumbered hnumbered hbench with hchild | hchild
  · have hs : deskewDone p s = s.cameUp p := (deskewDone_up h4 hw hf).trans hchild
    refine ⟨_, (congrArg (finish s) hs).trans ((s.cameUp_linkOnly p).outcome ha), s.cameUp_state p, s.cameUp_count p, ?_, ?_, hregs,
      (s.cameUp_linkOnly p).frame⟩
    · rw [State.cameUp_port, if_pos rfl]
    · rw [State.cameUp_port, if_pos rfl]
  · have hs : deskewDone p s = (s.cameUp p).setPort p { (s.cameUp p).port p with asked := true } := (deskewDone_up h4 hw hf).trans hchild
    have hlink := (s.cameUp_linkOnly p).setPort p { (s.cameUp p).port p with asked := true }
    refine ⟨_, (congrArg (finish s) hs).trans (hlink.outcome ha), (State.get_setPort _ _ _ _).trans (s.cameUp_state p),
      (State.rd_setPort _ _ _ _).trans (s.cameUp_count p), ?_, ?_, fun a h => (State.rd_setPort _ _ _ _).trans (hregs a h), hlink.frame⟩
    · rw [State.port_setPort, if_pos rfl, State.cameUp_port, if_pos rfl]
    · rw [State.port_setPort, if_pos rfl, State.cameUp_port, if_pos rfl]

end Sys2Proof.Machine
end

section
/-! DESKEW to AUTH (R314, R401): the port's own HELLO is kept while its frame waits or leaves. -/

namespace Sys2Proof.Machine

/-- The ports' own HELLOs. -/
def State.hellos (s : State) : Nat → List Byte := fun q => (s.port q).sess.mine

theorem State.hellos_of_ports {s t : State} (h : t.ports = s.ports) : t.hellos = s.hellos :=
  funext fun q => by rw [State.hellos, State.hellos, State.port_congr h]

theorem State.setPort_hellos (s : State) (p : Nat) (v : PortSt) (h : v.sess.mine = (s.port p).sess.mine) :
    (s.setPort p v).hellos = s.hellos := by
  funext q
  show ((s.setPort p v).port q).sess.mine = (s.port q).sess.mine
  rw [State.port_setPort]
  split
  · next hq => rw [h, hq]
  · rfl

/-! The arbiters leave the ports alone. -/

@[simp] theorem State.arbTurn_ports (s : State) (i : Nat) : (s.arbTurn i).ports = s.ports := by
  unfold State.arbTurn; dsimp only; split <;> simp
@[simp] theorem State.arbCountMask_ports (s : State) (i : Nat) : (s.arbCountMask i).ports = s.ports := by
  unfold State.arbCountMask; dsimp only; split <;> simp
@[simp] theorem State.arbGrant_ports (s : State) (i : Nat) (q : ArbReq) : (s.arbGrant i q).ports = s.ports := by
  unfold State.arbGrant; simp
@[simp] theorem State.arbDecide_ports (s : State) (i : Nat) : (s.arbDecide i).ports = s.ports := by
  unfold State.arbDecide; dsimp only; split <;> simp
@[simp] theorem State.arbJoin_ports (s : State) (i : Nat) (q : ArbReq) : (s.arbJoin i q).ports = s.ports := by
  unfold State.arbJoin; dsimp only; split <;> simp
@[simp] theorem State.arbSettle_ports (s : State) (i : Nat) : (s.arbSettle i).ports = s.ports := by
  unfold State.arbSettle; split <;> simp
@[simp] theorem State.arbDrop_ports (s : State) (i r : Nat) : (s.arbDrop i r).ports = s.ports := by
  unfold State.arbDrop; dsimp only; (repeat' split) <;> simp
@[simp] theorem State.arbRelease_ports (s : State) (i : Nat) : (s.arbRelease i).ports = s.ports := by
  unfold State.arbRelease; dsimp only; (repeat' split) <;> simp
theorem State.controlGrant_ports (s : State) (p n : Nat) : (s.controlGrant p n).2.ports = s.ports := by
  unfold State.controlGrant; split <;> simp
theorem State.controlDone_ports (s : State) (p : Nat) : (s.controlDone p).ports = s.ports := by
  unfold State.controlDone; split <;> simp

/-! Frames leave the HELLOs alone. -/

theorem State.takeKey_hellos (s : State) (p : Nat) : (s.takeKey p).2.hellos = s.hellos := by
  have htaken : (s.keyTaken p).hellos = s.hellos := by
    unfold State.keyTaken
    split
    · rfl
    · exact State.setPort_hellos s p _ rfl
  rw [State.takeKey_eq]
  split
  · exact htaken
  · refine (State.setPort_hellos (s.keyTaken p) p _ ?_).trans htaken
    rfl
/-- A channel's state is no session. -/
theorem PortSt.setVc_sess (q : PortSt) (v : Nat) (c : Vc) : (q.setVc v c).sess = q.sess := by
  unfold PortSt.setVc; (repeat' split) <;> rfl
theorem State.txFrame_hellos (s : State) (p v typ stream : Nat) (bs : List Byte) : (s.txFrame p v typ stream bs).hellos = s.hellos := by
  unfold State.txFrame
  dsimp only
  rw [State.hellos_of_ports (State.emit_ports _ _)]
  refine (State.setPort_hellos _ p _ ?_).trans (s.takeKey_hellos p)
  exact congrArg Sess.mine (PortSt.setVc_sess _ _ _)
theorem State.sendControl_hellos (s : State) (p : Nat) (f : Nat × Nat × List Byte) : (s.sendControl p f).hellos = s.hellos :=
  (State.txFrame_hellos _ _ _ _ _ _).trans (s.setPort_hellos p _ rfl)
theorem pumpFrom_hellos (p k : Nat) (s : State) : (pumpFrom p k s).hellos = s.hellos := by
  induction k generalizing s with
  | zero => rfl
  | succ k ih =>
    unfold pumpFrom
    split
    · rfl
    · next f _ =>
      have hgrant := State.hellos_of_ports (s.controlGrant_ports p f.2.2.length)
      dsimp only
      split
      · rw [ih, State.hellos_of_ports (State.controlDone_ports _ _), State.sendControl_hellos, hgrant]
      · exact hgrant
theorem State.queueFrame_hellos (s : State) (p v typ : Nat) (bs : List Byte) : (s.queueFrame p v typ bs).hellos = s.hellos :=
  (pumpFrom_hellos _ _ _).trans (s.setPort_hellos p _ rfl)

/-! AUTH. -/

/-- A HELLO begins with its code. -/
theorem State.helloMsg_ne_nil (s : State) (k : Nat) : s.helloMsg k ≠ [] := by
  simp [State.helloMsg, leBytes]

/-- The port has its own HELLO to send, two draws gone into it. -/
def State.helloKept (s : State) (p : Nat) : State :=
  { s with free := s.free + 2 }.setPort p { s.port p with
    sess := { (s.port p).sess with mine := s.helloMsg s.free, eph := some (s.free + 1), since := s.fNow } }

theorem State.sendHello_eq (s : State) (p : Nat) :
    s.sendHello p = ((s.helloKept p).queueFrame p 0 tyAuth (s.helloMsg s.free)).put (F.HALL_PORT_SESSION p) 1 := rfl
theorem State.helloKept_lines (s : State) (p : Nat) : (s.helloKept p).lines = s.lines :=
  State.setPort_lines { s with free := s.free + 2 } p _ rfl
theorem State.helloKept_hello (s : State) (p : Nat) : (s.helloKept p).hellos p = s.helloMsg s.free := by
  show (((s.helloKept p).port p)).sess.mine = _
  rw [State.helloKept, State.port_setPort, if_pos rfl]

/-- A HELLO that is sent leaves run state and times alone, the port state as it was, and the HELLO with the port. -/
theorem State.sendHello_spec {s : State} {p : Nat} (hp : p < 16) : (s.sendHello p).still = s.still ∧
    (s.sendHello p).portState p = s.portState p ∧ (s.sendHello p).get (F.HALL_PORT_SESSION p) = 1 ∧
    ((s.sendHello p).port p).sess.mine ≠ [] := by
  have hlines : (s.sendHello p).lines = s.lines := by
    rw [State.sendHello_eq, State.put_lines _ _ _ (not_lineReg (by simp only [Reg.HALL_PORT]; omega)
      (by simp only [Reg.HALL_PORT, Reg.CLASP_CTRL]; omega)), State.queueFrame_lines, State.helloKept_lines]
  have hhello : (s.sendHello p).hellos p = s.helloMsg s.free := by
    rw [State.sendHello_eq, State.hellos_of_ports (State.put_ports _ _ _), State.queueFrame_hellos, State.helloKept_hello]
  refine ⟨?_, State.portState_of_lines hlines hp, ?_, fun hnil => s.helloMsg_ne_nil s.free (hhello.symm.trans hnil)⟩
  · rw [State.sendHello_eq, State.put_still, State.queueFrame_still]
    rfl
  · rw [State.sendHello_eq, State.get_put_same _ _ _ (by simp)]
    rfl

/-- Where authentication is wanted, aligned lanes lead to AUTH, and the port's HELLO is on its way. -/
theorem exec_deskewDone_auth {s : State} {p : Nat} (ha : Awake s) (hp : p < 16) (h4 : s.portState p = 4) (hw : s.authWanted p = true) :
    ∃ t, exec (.deskewDone p) s = .next t ∧ t.portState p = 5 ∧ t.get (F.HALL_PORT_SESSION p) = 1 ∧ (t.port p).sess.mine ≠ [] ∧
      t.sys = s.sys ∧ t.time = s.time := by
  have hs : deskewDone p s = ((s.put (F.PORT_STATUS_STATE p) 5).startVcs p).sendHello p := by
    rw [deskewDone, if_pos h4, if_pos hw, State.toAuth]
  obtain ⟨hstill, hstate, hsession, hmine⟩ := State.sendHello_spec (s := (s.put (F.PORT_STATUS_STATE p) 5).startVcs p) hp
  have hfive : ((s.put (F.PORT_STATUS_STATE p) 5).startVcs p).portState p = 5 :=
    State.get_put_same s (F.PORT_STATUS_STATE p) 5 (by simp)
  exact ⟨_, (congrArg (finish s) hs).trans (finish_eq ha (State.sys_of_still hstill) (State.pending_of_still hstill)),
    hstate.trans hfive, hsession, hmine, State.sys_of_still hstill, State.time_of_still hstill⟩

end Sys2Proof.Machine
end

section
/-! Links from BASE to UP together (R314–R318). -/

namespace Sys2Proof.Machine

/-- Settles O37: each command by the port state that it meets, a TRAIN set by its repeats and what they settle. -/
theorem linksTrainUpToUp : Obligations.LinksTrainUpToUp := by
  intro s p l ls ts ha hp hl
  refine ⟨fun h1 hls => exec_portBaseDone ha hl h1 hls, exec_portBaseDone_idle ha,
    fun h2 hset hready => (exec_trainSetReceived_new ha h2 hset).1 hready,
    fun h2 hset hready => (exec_trainSetReceived_new ha h2 hset).2 hready,
    fun h2 hset hready hn => exec_trainSetReceived_again ha h2 hset hready hn, exec_trainSetReceived_idle ha,
    fun h2 hset hsame hready htheirs hk hm hau hv hmax => ?settled, fun h3 hlanes => exec_switchDone ha h3 hlanes,
    exec_switchDone_idle ha, exec_deskewDone_idle ha,
    fun h4 hw _ hn hf hb => exec_deskewDone_drift ha h4 hw hn hf hb, fun h4 hw hk hf => ?up,
    fun h4 hw => exec_deskewDone_auth ha hp h4 hw⟩
  case settled =>
    have h : Settles s p ts := ⟨h2, hset, hsame, hready, htheirs, hk, hm, hau, hv, hmax⟩
    exact ⟨h.deskew ha, h.switch ha, h.refused ha hp⟩
  case up =>
    refine ⟨_, exec_deskewDone_up ha hp h4 hw hk hf, s.cameUp_state p, s.cameUp_count p, ?_, ?_, ?_, ?_, ?_, s.cameUp_regsBut p,
      (s.cameUp_linkOnly p).frame⟩ <;>
      rw [State.cameUp_port, if_pos rfl]

end Sys2Proof.Machine
end
